-- ==== Sys2Proof/Word.lean ====
section
/-!
DEFINITION. The word types of the module: a byte of memory, a 32-bit and a 64-bit word.
Registers and memories of the module are little-endian (R8); the byte order is decided once, in
`Machine/Bits.lean`.
-/

namespace Sys2Proof

/-- One byte of memory. -/
abbrev Byte := BitVec 8

/-- A 64-bit word: a scalar register, a signal, the time-base count (R135, R163). -/
abbrev Word := BitVec 64

/-- A 32-bit word: one lane of a vector register (R135). -/
abbrev Lane := BitVec 32

end Sys2Proof
end

