-- ==== Sys2Proof/Syntax.lean ====
section
/-!
DEFINITION. The commands that reach the block: one constructor per row of spec/opcode_table.json, in the table's
order. A command carries what the spec leaves to its surroundings (a written value, a sensed value, a received frame, an
error that the check bits of a store met, the verdict of a signature); everything else it does is `Machine/`'s.
-/

namespace Sys2Proof

/-- A soft error that the check bits of a store detect while a command runs (R122, R123, R172, R181, R184, R187). Which
errors occur is no rule of the spec: a command carries those that its accesses met. -/
inductive Upset where
  /-- A single-bit error in a line of a core's scratchpad. -/
  | spadCe (core line : Nat)
  /-- A double-bit error in a line of a core's scratchpad. -/
  | spadUe (core line : Nat)
  /-- A single-bit error in a line of a cluster's memory. -/
  | clmemCe (cluster line : Nat)
  /-- A double-bit error in a line of a cluster's memory. -/
  | clmemUe (cluster line : Nat)
  /-- A single-bit error in an accumulator entry. -/
  | accCe (bank row col : Nat)
  /-- A double-bit error in an accumulator entry. -/
  | accUe (bank row col : Nat)
  /-- A weight-register parity error of an array, whose repeated step succeeds. -/
  | bbufPar (array : Nat)
  /-- A weight-register parity error whose repeated step fails again: the step of an 8-row group of a column group, in a product pass and a
  slice of it. -/
  | bbufFail (array group rows pass slice : Nat)
  /-- A feeder parity error whose repeated step succeeds. -/
  | feedPar (queue : Nat)
  /-- A feeder parity error whose repeated step fails again. -/
  | feedFail (group rows pass slice : Nat)
  /-- A corrected error in the vector register file. -/
  | vregCe
  /-- An uncorrectable error in a lane of a vector register. -/
  | vregUe (reg lane : Nat)
  /-- A corrected error on instruction fetch. -/
  | ifetchCe
  /-- An uncorrectable error on instruction fetch. -/
  | ifetchUe
  /-- A correctable or uncorrectable line of a stack, by its HBM address. -/
  | hbmCe (addr : Nat)
  | hbmUe (addr : Nat)
  /-- The expander reports poison for a far-tier line, or does not answer a read or a write of it in time (R267). -/
  | farPoison (addr : Nat)
  | farTimeoutRd (addr : Nat)
  | farTimeoutWr (addr : Nat)
  deriving DecidableEq, Repr

/-- An instruction of form R (R136, R137) as core `core` issues it: predicate, negation bit, the register fields D, A, B and
C, MOD, and the soft errors met. -/
structure RForm where
  core : Nat
  pred : Nat
  pneg : Bool
  d : Nat
  a : Nat
  b : Nat
  c : Nat
  mod : Nat
  ups : List Upset
  deriving DecidableEq, Repr

/-- An instruction of form I (R137): D, A, MOD[5:0] and IMM. -/
structure IForm where
  core : Nat
  pred : Nat
  pneg : Bool
  d : Nat
  a : Nat
  mod : Nat
  imm : Nat
  ups : List Upset
  deriving DecidableEq, Repr

/-- An instruction of form M (R137): TA, TB, BANK, START, KIND, TAI, TBI, M − 1, N − 1 and the reserved bits [11:0]. -/
structure MForm where
  core : Nat
  pred : Nat
  pneg : Bool
  ta : Nat
  tb : Nat
  bank : Nat
  start : Bool
  kind : Nat
  tai : Nat
  tbi : Nat
  m1 : Nat
  n1 : Nat
  rsv : Nat
  ups : List Upset
  deriving DecidableEq, Repr

/-- An operand, and the soft errors that the command meets on the accesses it makes for it. -/
structure Met (α : Type) where
  val : α
  ups : List Upset
  deriving DecidableEq, Repr

/-- An instruction whose unit works on after it, and the boundary (of slices or blocks) that the unit reaches in its step. -/
structure Upto (α : Type) where
  op : α
  upto : Nat
  deriving DecidableEq, Repr

/-- What a run of the traffic generator covered (R277): the HBM offsets of its lines, and the passes it made where it was stopped or ran until
stopped. -/
structure TgRun where
  lines : List Nat
  passes : Nat
  deriving DecidableEq, Repr

/-- What a receiver knows of a flit beside its bytes: the symbols that its decoder corrected, by lane (R306), and the flit's place among the
distinct flits sent under its key, which the nonce counts (R304). -/
structure Reception where
  corr : List Nat
  count : Nat
  deriving DecidableEq, Repr

/-- A flit as a port receives it (R306, R308): its 256 bytes, FEC decoded. -/
structure RxFlit where
  port : Nat
  raw : List Nat
  rx : Reception
  deriving DecidableEq, Repr

/-- A record write that fails (R432): the module event queue, and how many records were written to it after that one. -/
structure EqFail where
  queue : Nat
  later : Nat
  deriving DecidableEq, Repr

/-- What RST_ENG names (R479): the unit of a page, or one array of the core of a page. -/
structure EngUnit where
  page : Nat
  array : Option Nat
  deriving DecidableEq, Repr

/-- How the training of a far-tier link ends (R265): it fails, or the link is up, at its full rate and width or below (`low`). -/
inductive FarTraining where
  | failed
  | up (low : Bool)
  deriving DecidableEq, Repr

/-- An in-service test of a stack controller (R275): the scrub, which finds its line clean (0), corrects it (1) or cannot (2), the
comparison of a retired row's spare with its source at an HBM offset, a destructive pattern test of the line at an HBM offset of a
quarantined frame, or of a spare row of a channel that is not in use. -/
inductive MemTest where
  | scrub (result : Nat)
  | compare (o : Nat)
  | pattern (o : Nat)
  | spare (ch : Nat)
  deriving DecidableEq, Repr

/-- What a boot meets (R511, R535, R541, R573–R576): the straps' levels, the verdicts on what the ROM and the firmware check, and the outcome of
the trainings and tests. -/
structure BootEnv where
  /-- STRAP_FOG_N low; AIRFLOW_FAIL_N low at the start of step 8. -/
  strapLow : Bool
  airLow : Bool
  /-- By slot: both key digests and both signatures good (R535). -/
  slotOk : List Bool
  /-- Flash devices whose manufacturing record fails its HMAC (R504). -/
  badRecord : List Nat
  /-- Stacks that do not finish training; channels (32 × stack + channel) that pass only at 6.4 Gb/s, and that fail there too. -/
  stackFail : List Nat
  chanLow : List Nat
  chanFail : List Nat
  /-- Segments (domain, segment) that fail as their domain is turned on. -/
  segFail : List (Nat × Nat)
  /-- Arrays (4 × core + array) that fail a pattern twice; channels that admission steps down, and that it fences. -/
  katFail : List Nat
  memLow : List Nat
  memFail : List Nat
  /-- Capacity in bytes of the expander on each far-tier link, 0 for none. -/
  expanders : List Nat
  /-- Far-tier links that train at 32 GT/s or at half width. -/
  farLow : List Nat
  /-- The host link: Flit Mode negotiated, GT/s and lanes. -/
  flit : Bool
  gts : Nat
  width : Nat
  deriving DecidableEq, Repr

/-- What a register write may meet: the level of STRAP_FOG_N, an error answer of the host, the verdict on an image's signatures (R535), the error
sources or counter increments that coincide with it (R16, R20), and what KEY_CMD INSTALL finds in its buffer: the trust list's version, the leaf,
the chain and the anchors (R524). -/
structure WrEnv where
  strapLow : Bool
  hostErr : Bool
  sigOk : Bool
  coincident : Nat
  trust : Nat
  leaf : Nat
  chain : List Nat
  anchors : List Nat
  deriving DecidableEq, Repr

/-- What the hart of a cluster host core does (R37, R204): a load, fetch or store at a local address, a cache-block operation on the line
of one, or an access to the page of core `c` of its cluster. -/
inductive ChcOp where
  | load (a len : Nat)
  | fetch (a len : Nat)
  | store (a : Nat) (bytes : List Nat)
  | clean (a : Nat)
  | flush (a : Nat)
  | inval (a : Nat)
  | regRead (c off width : Nat)
  | regWrite (c off width v : Nat)
  deriving DecidableEq, Repr

/-- What a board regulator answers when a rail is read back (R441, R442): its voltage in units of 0.05 mV, and AVSBus Status. -/
structure AvsReply where
  volt : Nat
  status : Nat
  deriving DecidableEq, Repr

/-- The commands, in the order of spec/opcode_table.json. -/
inductive Instr where
  /-- REGISTER_WRITE (R11). A host or side-band write to a register that has no row of its own updates its writable fields and ignores
  reserved bits. -/
  | registerWrite (fn page off width val : Nat) (env : WrEnv)
  /-- CTRL_RESET_REQ (R13). Writing CTRL.RESET_REQ = 1 requests the reset level that the block's chapter assigns to the page. -/
  | ctrlResetReq (fn page others : Nat)
  /-- CTRL_ENABLE_SET (R14). Writing CTRL.ENABLE = 1 lets the instance accept work, or cancels a pending disable. -/
  | ctrlEnableSet (fn page : Nat)
  /-- CTRL_ENABLE_CLEAR (R13). Clearing CTRL.ENABLE takes the unit out of service, setting QUIESCE itself when the unit has not yet quiesced. -/
  | ctrlEnableClear (fn page : Nat)
  /-- CTRL_QUIESCE (R13). Writing CTRL.QUIESCE asks the instance to stop accepting work and drain what is in progress, or releases it. -/
  | ctrlQuiesce (fn page : Nat) (set : Bool)
  /-- CTRL_SELFTEST_ALLOW (R13). Writing CTRL.SELFTEST_ALLOW permits in-service tests, or abandons a running test when it is cleared. -/
  | ctrlSelftestAllow (fn page : Nat) (set : Bool)
  /-- QUIESCE_DONE (R13). The instance finishes draining, so STATUS.QUIESCED is set and a pending disable clears ENABLE. -/
  | quiesceDone (page : Nat)
  /-- ERR_STATUS_CLEAR (R16). A write of 1 to ERR_STATUS bits clears them, unless the same source is recorded in the same cycle. -/
  | errStatusClear (fn page mask coincident : Nat)
  /-- ERR_INJECT (R15). A write to ERR_INJECT makes the instance behave once as if the source had occurred, with the record marked as injected. -/
  | errInject (fn page mask : Nat)
  /-- CNT_CLEAR (R20). Writing CNT_SELn.CLEAR sets the counter to 0, or to 1 when an increment coincides with the clear. -/
  | cntClear (fn page n : Nat) (coincident : Bool)
  /-- CNT_READ_LOW (R22). A 32-bit read of a counter's low half latches its high half for the next read. -/
  | cntReadLow (fn page n : Nat)
  /-- CFG_DIGEST_UPDATE (R23). The page's CFG_DIGEST is recomputed within 1 µs of a write to a configuration-class register. -/
  | cfgDigestUpdate (page : Nat)
  /-- TBC_CORRECT (R52). Once every microsecond the AON master corrects the local TBC copy of every clock domain. -/
  | tbcCorrect
  /-- RX_CLOCK_STOP (R47). A recovered link clock stops, a partly written frame is discarded and counted, and the link goes down. -/
  | rxClockStop (port : Nat) (partialFrame : Bool)
  /-- NOP (R139). Does nothing. -/
  | nop (x : RForm)
  /-- HALT (R139). Ends the kernel once every issued instruction has completed. -/
  | halt (x : RForm)
  /-- BRK (R139). Raises the BREAK exception. -/
  | brk (x : RForm)
  /-- FENCE (R165). Orders the selected scopes, and holds later instructions from issuing until it completes. -/
  | fence (x : IForm)
  /-- CSRR (R139). Reads TBC, the core number, the IDs, the function, HEAD or the step counter into a scalar register. -/
  | csrr (x : IForm)
  /-- ADD (R139). Scalar addition of two registers. -/
  | add (x : RForm)
  /-- SUB (R139). Scalar subtraction of two registers. -/
  | sub (x : RForm)
  /-- MUL (R139). Scalar multiplication keeping the low 64 bits. -/
  | mul (x : RForm)
  /-- AND (R139). Scalar bitwise AND of two registers. -/
  | and (x : RForm)
  /-- OR (R139). Scalar bitwise OR of two registers. -/
  | or (x : RForm)
  /-- XOR (R139). Scalar bitwise XOR of two registers. -/
  | xor (x : RForm)
  /-- SHL (R139). Scalar shift left by S[B][5:0]. -/
  | shl (x : RForm)
  /-- SHR (R139). Scalar logical shift right by S[B][5:0]. -/
  | shr (x : RForm)
  /-- SRA (R139). Scalar arithmetic shift right by S[B][5:0]. -/
  | sra (x : RForm)
  /-- MIN (R139). Signed scalar minimum. -/
  | min (x : RForm)
  /-- MAX (R139). Signed scalar maximum. -/
  | max (x : RForm)
  /-- MINU (R139). Unsigned scalar minimum. -/
  | minu (x : RForm)
  /-- MAXU (R139). Unsigned scalar maximum. -/
  | maxu (x : RForm)
  /-- ADDI (R139). Scalar addition of a sign-extended immediate. -/
  | addi (x : IForm)
  /-- SUBI (R139). Scalar subtraction of a sign-extended immediate. -/
  | subi (x : IForm)
  /-- MULI (R139). Scalar multiplication by an immediate. -/
  | muli (x : IForm)
  /-- ANDI (R139). Scalar AND with an immediate. -/
  | andi (x : IForm)
  /-- ORI (R139). Scalar OR with an immediate. -/
  | ori (x : IForm)
  /-- XORI (R139). Scalar XOR with an immediate. -/
  | xori (x : IForm)
  /-- SHLI (R139). Scalar shift left by an immediate. -/
  | shli (x : IForm)
  /-- SHRI (R139). Scalar logical shift right by an immediate. -/
  | shri (x : IForm)
  /-- SRAI (R139). Scalar arithmetic shift right by an immediate. -/
  | srai (x : IForm)
  /-- MINI (R139). Signed minimum with an immediate. -/
  | mini (x : IForm)
  /-- MAXI (R139). Signed maximum with an immediate. -/
  | maxi (x : IForm)
  /-- MINUI (R139). Unsigned minimum with an immediate. -/
  | minui (x : IForm)
  /-- MAXUI (R139). Unsigned maximum with an immediate. -/
  | maxui (x : IForm)
  /-- LI (R139). Loads a sign-extended immediate into a scalar register. -/
  | li (x : IForm)
  /-- LUI (R139). Loads an immediate into the upper 32 bits of a scalar register. -/
  | lui (x : IForm)
  /-- BEQ (R139). Branches when the two registers are equal. -/
  | beq (x : IForm)
  /-- BNE (R139). Branches when the two registers differ. -/
  | bne (x : IForm)
  /-- BLT (R139). Branches on a signed less-than. -/
  | blt (x : IForm)
  /-- BGE (R139). Branches on a signed greater-or-equal. -/
  | bge (x : IForm)
  /-- BLTU (R139). Branches on an unsigned less-than. -/
  | bltu (x : IForm)
  /-- BGEU (R139). Branches on an unsigned greater-or-equal. -/
  | bgeu (x : IForm)
  /-- JMP (R139). Jumps relative to the PC. -/
  | jmp (x : IForm)
  /-- TLD (R142). Loads a tensor descriptor from memory and checks it. -/
  | tld (x : RForm)
  /-- TST (R139). Stores a tensor descriptor to memory. -/
  | tst (x : RForm)
  /-- TOFS (R144). Moves a descriptor's origin by a number of rows and inner elements. -/
  | tofs (x : RForm)
  /-- TDIM (R139). Sets one dimension of a descriptor, then checks the descriptor. -/
  | tdim (x : RForm)
  /-- MMA (R145). Issues a real or complex matrix product into the accumulator banks, folded over the live arrays; it reaches
  a slice boundary in this step (R120), the rest following by MMA_DONE. -/
  | mma (x : Upto MForm)
  /-- MMA_DONE (R118). A running MMA finishes its last pass and releases the banks it wrote. -/
  | mmaDone (core : Nat)
  /-- ACLR (R139). Clears every entry of the selected banks. -/
  | aclr (x : RForm)
  /-- AMERGE (R148). Merges one bank into another, entry by entry. -/
  | amerge (x : RForm)
  /-- AROW (R148). Reads one row of a bank into a vector register as FP32 or INT32. -/
  | arow (x : RForm)
  /-- AST (R147). Starts writing a bank to a tensor in the descriptor's format. -/
  | ast (x : RForm)
  /-- AST_DONE (R147). An AST finishes writing its tensor. -/
  | astDone (core : Nat)
  /-- ALOSS (R139). Sets predicate bits for the entries of a row that have LOSS or a non-finite state. -/
  | aloss (x : RForm)
  /-- VADD_F (R154). FP32 lane addition. -/
  | vaddF (x : RForm)
  /-- VSUB_F (R154). FP32 lane subtraction. -/
  | vsubF (x : RForm)
  /-- VMUL_F (R154). FP32 lane multiplication. -/
  | vmulF (x : RForm)
  /-- VFMA_F (R154). FP32 fused multiply-add with one rounding. -/
  | vfmaF (x : RForm)
  /-- VMAX_F (R154). FP32 lane maximum. -/
  | vmaxF (x : RForm)
  /-- VMIN_F (R154). FP32 lane minimum. -/
  | vminF (x : RForm)
  /-- VABS_F (R154). FP32 lane absolute value. -/
  | vabsF (x : RForm)
  /-- VNEG_F (R154). FP32 lane negation. -/
  | vnegF (x : RForm)
  /-- VDIV_F (R154). FP32 lane division. -/
  | vdivF (x : RForm)
  /-- VSQRT_F (R154). FP32 lane square root. -/
  | vsqrtF (x : RForm)
  /-- VRSQ_F (R154). FP32 lane reciprocal square root. -/
  | vrsqF (x : RForm)
  /-- VADD_I (R154). INT32 lane addition modulo 2^32. -/
  | vaddI (x : RForm)
  /-- VSUB_I (R154). INT32 lane subtraction. -/
  | vsubI (x : RForm)
  /-- VMUL_I (R154). INT32 lane multiplication. -/
  | vmulI (x : RForm)
  /-- VAND (R154). Lane bitwise AND. -/
  | vand (x : RForm)
  /-- VOR (R154). Lane bitwise OR. -/
  | vor (x : RForm)
  /-- VXOR (R154). Lane bitwise XOR. -/
  | vxor (x : RForm)
  /-- VSHL (R154). Lane shift left. -/
  | vshl (x : RForm)
  /-- VSHR (R154). Lane logical shift right. -/
  | vshr (x : RForm)
  /-- VSRA (R154). Lane arithmetic shift right. -/
  | vsra (x : RForm)
  /-- VCMPEQ_F (R154). FP32 equality compare into a predicate. -/
  | vcmpeqF (x : RForm)
  /-- VCMPLT_F (R154). FP32 less-than compare into a predicate. -/
  | vcmpltF (x : RForm)
  /-- VCMPLE_F (R154). FP32 less-or-equal compare into a predicate. -/
  | vcmpleF (x : RForm)
  /-- VCMPEQ_I (R154). INT32 equality compare into a predicate. -/
  | vcmpeqI (x : RForm)
  /-- VCMPLT_I (R154). Signed INT32 less-than compare into a predicate. -/
  | vcmpltI (x : RForm)
  /-- VSEL (R154). Selects lanes from two registers under a predicate. -/
  | vsel (x : RForm)
  /-- VREDSUM_F (R155). FP32 sum of the lanes in a fixed tree. -/
  | vredsumF (x : RForm)
  /-- VREDMAX_F (R154). FP32 maximum of the enabled lanes. -/
  | vredmaxF (x : RForm)
  /-- VREDSUM_I (R154). Exact sum of the INT32 lanes. -/
  | vredsumI (x : RForm)
  /-- VBCAST (R154). Broadcasts a scalar to every enabled lane. -/
  | vbcast (x : RForm)
  /-- VCVT (R612). Converts each enabled lane between formats under RNE or SR. -/
  | vcvt (x : IForm)
  /-- VUPD (R157). Fused optimiser update of master weight and moment. -/
  | vupd (x : RForm)
  /-- SQUANT (R149). Starts quantising a tensor block by block, with scale derivation and an optional history push; `upto` is the
  block boundary that it reaches in this step, the rest following by SQUANT_DONE. -/
  | squant (x : Upto RForm)
  /-- SQUANT_DONE (R149). A SQUANT finishes its last block. -/
  | squantDone (core : Nat)
  /-- RNGLD (R159). Loads every lane generator's state and tap mask. -/
  | rngld (x : RForm)
  /-- RNGST (R159). Stores every lane generator's state and tap mask. -/
  | rngst (x : RForm)
  /-- RNGDRAW (R158). Draws once from each enabled lane's generator into a vector register. -/
  | rngdraw (x : RForm)
  /-- NWADD (R161). Adds the squares and max-abs of the enabled lanes to a norm watch slot. -/
  | nwadd (x : RForm)
  /-- NWCLOSE (R162). Writes a norm watch record, checks it for a jump and clears the slot. -/
  | nwclose (x : RForm)
  /-- NWCLR (R139). Clears a norm watch slot without writing a record. -/
  | nwclr (x : RForm)
  /-- SIGWAIT (R163). Waits until a signal reaches a value. -/
  | sigwait (x : RForm)
  /-- SIGWAIT_MET (R163). A waiting SIGWAIT finds its signal at or above the value and completes. -/
  | sigwaitMet (core : Nat)
  /-- SIGSET (R163). Raises a signal to a value, if higher. -/
  | sigset (x : RForm)
  /-- SIGADD (R163). Adds to a signal, refusing overflow past 2^64 − 1. -/
  | sigadd (x : RForm)
  /-- DMAQ (R164). Queues a DMA descriptor to the core or cluster DMA engine. -/
  | dmaq (x : RForm)
  /-- DMAQ_SPACE (R164). A DMAQ that is waiting for a full queue finds room and queues its descriptor. -/
  | dmaqSpace (core : Nat)
  /-- FENCE_DONE (R202). A waiting FENCE finds every access in its scopes complete and releases later instructions. -/
  | fenceDone (core : Nat)
  /-- SLD (R139). Scalar 8-byte load. -/
  | sld (x : IForm)
  /-- SST (R139). Scalar 8-byte store. -/
  | sst (x : IForm)
  /-- VLD (R156). Loads and decodes 64 elements of a tensor row into lanes. -/
  | vld (x : RForm)
  /-- VST (R156). Converts lanes and stores them as 64 elements of a tensor row. -/
  | vst (x : RForm)
  /-- VLDR (R139). Raw 256-byte vector load. -/
  | vldr (x : RForm)
  /-- VSTR (R139). Raw 256-byte vector store. -/
  | vstr (x : RForm)
  /-- KERNEL_END (R421). A core ends its kernel by HALT or by exception, and the launch command completes when every named core has ended. -/
  | kernelEnd (core : Nat)
  /-- CTX_SAVE (R170). CTX_CMD save starts writing the core's context image. -/
  | ctxSave (fn : Nat) (core : Met Nat)
  /-- CTX_RESTORE (R170). CTX_CMD restore checks and loads a context image. -/
  | ctxRestore (fn : Nat) (core : Met Nat)
  /-- CTX_DONE (R170). A save or restore completes and its status is posted. -/
  | ctxDone (core : Met Nat)
  /-- KAT_REQ (R127). Writing KAT_CTRL.REQ requests known-answer patterns on the masked arrays. -/
  | katReq (fn core pattern mask : Nat)
  /-- KAT_PATTERN_DONE (R126). A known-answer pattern finishes and its CRC is compared, with a rerun after a failure. -/
  | katPatternDone (core array : Nat) (pass : Bool)
  /-- KAT_ABANDON (R125). A known-answer test that has yielded 16 times in a row is abandoned. -/
  | katAbandon (core array : Nat)
  /-- ARRAY_FENCE (R126). At its core's next MMA boundary a failed array is fenced and leaves LIVE. -/
  | arrayFence (core array : Nat)
  /-- BANK_REQUEST_AGED (R179). A request refused for 16 cycles becomes aged and is granted ahead of every class. -/
  | bankRequestAged (core bank : Nat)
  /-- COPY (R192). A DMA engine starts a COPY descriptor after its checks. -/
  | copy (eng : Nat) (ups : List Upset)
  /-- CONVERT (R192). A DMA engine starts a CONVERT descriptor, converting or widening elements with their scales. -/
  | convert (eng : Nat) (ups : List Upset)
  /-- FILL (R192). A DMA engine starts a FILL descriptor with an 8-byte pattern. -/
  | fill (eng : Nat) (ups : List Upset)
  /-- TRANSPOSE (R198). The cluster DMA starts transposing a tensor together with its scales. -/
  | transpose (eng : Nat) (ups : List Upset)
  /-- DMA_PUT (R193). A DMA engine starts a PUT descriptor that writes to a remote window over a flow. -/
  | dmaPut (eng : Nat) (ups : List Upset)
  /-- DMA_GET (R193). A DMA engine starts a GET descriptor that reads from a remote window over a flow. -/
  | dmaGet (eng : Nat) (ups : List Upset)
  /-- DMA_COMPLETE (R196). A descriptor completes, increments its completion signal or records its failure. -/
  | dmaComplete (eng q n : Nat)
  /-- STEP_ARM (R230). Writing STEP_CTRL.ARM = 1 moves the step machine from UNARMED to OPEN. -/
  | stepArm (req fn : Nat)
  /-- STEP_DISARM (R230). Writing STEP_CTRL.ARM = 0 returns an OPEN or FAULTED step machine to UNARMED. -/
  | stepDisarm (req fn : Nat)
  /-- STEP_VERDICT (R230). A STEP_VERDICT command moves the step machine to SEALING and holds the domain's later commands. -/
  | stepVerdict (q : Nat)
  /-- STEP_COMMIT (R230). A STEP_COMMIT checks the apply phase, then advances STEP_COUNT and reopens, or enters FAULTED. -/
  | stepCommit (q : Nat)
  /-- SNAPSHOT (R244). A SNAPSHOT command starts exporting the committed step, or waits, or is refused. -/
  | snapshot (q : Nat)
  /-- SNAPSHOT_DEFERRED_START (R244). A SNAPSHOT fetched in APPLYING starts at the next OPEN. -/
  | snapshotDeferredStart (fn : Nat)
  /-- SNAPSHOT_DONE (R243). A SNAPSHOT writes its header last and completes, releasing a held entry to APPLYING. -/
  | snapshotDone (fn : Nat) (hostErr : Bool)
  /-- HBM_READ (R256). A line read reaches a stack controller and is served from the write-combining buffer or the stack. -/
  | hbmRead (addr n : Nat) (ups : List Upset)
  /-- HBM_WRITE (R255). A full or partial write reaches a stack controller's write-combining buffer. -/
  | hbmWrite (addr : Nat) (bytes : Met (List Nat))
  /-- WCB_AGE_DRAIN (R257). An incomplete entry that has been in the buffer for 4 µs is drained by read-modify-write. -/
  | wcbAgeDrain (m : Nat) (line : Met Nat)
  /-- WCB_SPACE (R258). A partial write that waited on a full buffer gets an entry once a drain frees one. -/
  | wcbSpace (m : Nat)
  /-- PARITY_ERROR (R260). A channel detects a command, address or data parity error and withholds the transfer. -/
  | parityError (addr n : Nat) (write : Option Nat)
  /-- PARITY_REPEAT (R260). 100 ns after the last attempt the controller repeats the transfer, and starts retraining after the fourth failure. -/
  | parityRepeat (m ch : Nat) (ok : Bool)
  /-- CH_RETRAIN_DONE (R260). A channel retraining ends, so held requests resume or the channel steps down or is fenced. -/
  | chRetrainDone (m ch : Nat) (ok : Bool)
  /-- SCRUB_READ (R262). The background scrubber reads, corrects and writes back the next line. -/
  | scrubRead (m : Nat) (test : MemTest) (preempted : Bool)
  /-- FAR_READ (R267). A far-tier line read is issued to an expander. -/
  | farRead (addr n : Nat) (ups : List Upset)
  /-- FAR_WRITE (R267). A far-tier line write is issued to an expander. -/
  | farWrite (addr : Nat) (bytes : List Nat) (ups : List Upset)
  /-- FAR_TIMEOUT (R267). A far-tier access receives no completion within TIMEOUT and fails. -/
  | farTimeout (addr : Nat) (write : Bool)
  /-- FAR_LINK_RETRAIN (R267). After its backoff wait, a far-tier link that is down retrains. -/
  | farLinkRetrain (d : Nat) (how : FarTraining)
  /-- FAR_DEV_EVENT (R267). The Keeper reads an expander event record through the mailbox and raises it as an event. -/
  | farDevEvent (frame : Nat)
  /-- XLT_INVAL (R269). A write of XLT_INVAL invalidates cached translation entries. -/
  | xltInval (req fn vpn count : Nat)
  /-- FLIP_TBC_WRITE (R360). A write of a table's flip count arms the flip, or arms it late with FLIP_LATE. -/
  | flipTbcWrite (req page val : Nat)
  /-- FLIP_CANCEL (R360). A write of 0 to FLIP_ARM cancels a scheduled flip. -/
  | flipCancel (req page : Nat)
  /-- SCHEDULED_FLIP (R360). At the flip count an armed banked table swaps banks, or defers when its shadow is not ready. -/
  | scheduledFlip (page : Nat)
  /-- ALLOC (R273). FRAME_REQ ALLOC maps all the requested frames or none, reporting any shortfall. -/
  | alloc (req fn tier flags : Nat)
  /-- FREE (R274). FRAME_REQ FREE invalidates a range, and the frames return to the pool at the next flip. -/
  | free (req fn tier flags : Nat)
  /-- QUARANTINE (R274). FRAME_REQ QUARANTINE takes free frames out of the pool for destructive tests. -/
  | quarantine (req fn tier flags : Nat)
  /-- FRAME_REQ_DONE (R273). A frame request completes and posts its result. -/
  | frameReqDone (fn : Nat) (picks : List Nat)
  /-- FRAME_CNT_READ (R271). A read of FRAME_CNT returns the frame's counts, clearing them when CLEAR_ON_READ is set. -/
  | frameCntRead (req page : Nat) (rd wrt : Bool)
  /-- MEM_TEST_ABANDON (R276). A memory test preempted 16 times in a row is abandoned. -/
  | memTestAbandon (m ch : Nat)
  /-- TG_GO (R277). Writing TG_CTRL.GO starts the channel traffic generator, or refuses with TEST_BUSY. -/
  | tgGo (req m ch pattern mode : Nat)
  /-- TG_STOP (R280). Writing 0 to TG_CTRL.GO stops the run at the next line. -/
  | tgStop (req m ch : Nat)
  /-- TG_DONE (R280). A traffic generator run ends and posts its result. -/
  | tgDone (m ch errors addr bitsX : Nat) (run : TgRun)
  /-- MEM_MARGIN_GO (R278). Writing MARGIN_CTRL.GO on a MEM page starts PHY margining, or refuses with TEST_BUSY. -/
  | memMarginGo (req m mask param : Nat)
  /-- MEM_MARGIN_DONE (R278). Margining ends, the trained settings are restored and DONE is set. -/
  | memMarginDone (m low high : Nat)
  /-- PORT_TRAIN (R292). A TRAIN write or another trigger starts port training through DETECT, ALIGN, CHAR, AUTH and UP. -/
  | portTrain (p : Nat) (self : Bool) (locked peer : Nat)
  /-- LANE_LOCK_TIMEOUT (R292). When no lane locks within 1 ms the port enters DARK. -/
  | laneLockTimeout (p : Nat)
  /-- TRAIN_TIMEOUT (R292). A training that has not reached UP within TRAIN_TO fails and the port enters BACKOFF. -/
  | trainTimeout (p : Nat)
  /-- BACKOFF_EXPIRE (R293). The backoff interval ends and the port trains again. -/
  | backoffExpire (p : Nat)
  /-- CHAR (R297). A received character frame is checked and kept, the cabling check runs, and self-loopback is recognised. -/
  | char (f : RxFlit)
  /-- CHAR_SEND (R296). At its slot in each TBC millisecond a port that is UP sends a character frame. -/
  | charSend (p : Nat)
  /-- CHAR_STALE (R297). No good character frame for 4 ms sets STALE and raises CHAR_LOST. -/
  | charStale (p : Nat)
  /-- MISCABLED_REJECT (R298). Once a second a miscabled port sends REJECT MISCABLED. -/
  | miscabledReject (p : Nat)
  /-- PEER_EXPECT_WRITE (R298). A write of PEER_EXPECT while the port is MISCABLED starts training at once. -/
  | peerExpectWrite (p val : Nat)
  /-- HELLO (R301). The initiator's handshake message is received; the verdicts on its public share and its encapsulation key. -/
  | hello (f : RxFlit) (ecdh kem : Bool)
  /-- RESPONSE (R301). The responder's handshake message is received; the verdicts on its public share and its ciphertext. -/
  | response (f : RxFlit) (ecdh kem : Bool)
  /-- CERT (R301). A certificate chain message is received and checked: the form of the certificates, the signature of each by the next, and the
  certificate at the end. -/
  | cert (f : RxFlit) (form links : Bool) (anchor : Nat)
  /-- PROOF (R301). A signature proof message is received and verified: the ECDSA and the ML-DSA signature. -/
  | proof (f : RxFlit) (ecdsa mldsa : Bool)
  /-- FINISHED (R301). A FINISHED message is received, so the handshake completes and session keys are derived. -/
  | finished (port : Nat) (raw : List Nat) (rx : Reception)
  /-- DATA_FLIT (R308). A received data flit is decoded, checked and sequenced, then delivered or passed through. -/
  | dataFlit (f : RxFlit)
  /-- IDLE_FLIT (R306). A received idle flit updates acknowledgement and credit state only. -/
  | idleFlit (f : RxFlit)
  /-- REJECT (R316). A received REJECT control flit is counted and recorded. -/
  | reject (f : RxFlit)
  /-- REKEY (R305). A received REKEY makes the receiver install the new key and answer REKEY_ACK. -/
  | rekey (f : RxFlit)
  /-- REKEY_ACK (R305). A received REKEY_ACK lets the transmitter switch KEY_ID. -/
  | rekeyAck (f : RxFlit)
  /-- RETRAIN_REQ (R294). A partner's RETRAIN_REQ starts training, or is refused within the rate-limit interval. -/
  | retrainReq (f : RxFlit)
  /-- REPLAY_TIMEOUT (R309). No ACK advances for REPLAY_TO, so the transmitter resends from the oldest unacknowledged flit. -/
  | replayTimeout (p : Nat)
  /-- LANE_LOCK_LOSS (R310). A lane loses lock and the link goes down. -/
  | laneLockLoss (p lane : Nat)
  /-- LANE_CORR_CHECK (R311). Each second a lane's corrected-symbol count is checked against the retirement rule. -/
  | laneCorrCheck (p lane : Nat)
  /-- KEY_CTRL_REKEY (R305). Writing KEY_CTRL.REKEY starts a transmit key roll. -/
  | keyCtrlRekey (p : Nat)
  /-- KEY_LIFE_EXPIRE (R305). The transmit key reaches LIFE hours and a roll starts. -/
  | keyLifeExpire (p : Nat)
  /-- KEY_FLIT_LIMIT (R305). The transmit key reaches 2^40 flits and a roll starts. -/
  | keyFlitLimit (p : Nat)
  /-- REKEY_ACK_TIMEOUT (R305). No REKEY_ACK within 1 ms resends REKEY, and after the third failure the port trains. -/
  | rekeyAckTimeout (p : Nat)
  /-- GRACE_EXPIRE (R305). The grace window ends and the receiver drops the old key. -/
  | graceExpire (p : Nat)
  /-- CREDIT_STARVE (R313). A VC without credit for CREDIT_TO records CREDIT_STARVE. -/
  | creditStarve (p vc : Nat)
  /-- VC0_STARVE_DOWN (R313). VC0 starved for a further 10 × CREDIT_TO takes the link down. -/
  | vc0StarveDown (p : Nat)
  /-- HOSTILE_WINDOW_END (R317). The quarantine counting window ends and the count restarts. -/
  | hostileWindowEnd (p : Nat)
  /-- QUAR_RELEASE (R317). Writing QUAR_CTRL.RELEASE ends quarantine and clears QCOUNT. -/
  | quarRelease (p : Nat)
  /-- LANE_MARGIN_GO (R318). Writing LNK MARGIN_CTRL.GO starts a lane margin scan. -/
  | laneMarginGo (p lane : Nat)
  /-- SCAN_ABANDON (R318). A margin scan that has yielded 16 times in a row is abandoned. -/
  | scanAbandon (p : Nat)
  /-- LANE_MARGIN_DONE (R318). A margin scan finishes and reports its passing range. -/
  | laneMarginDone (p low high : Nat)
  /-- LASER_SAMPLE (R290). Once a second the Keeper compares each laser input with its baseline. -/
  | laserSample (inp p0 p1 p2 p3 : Nat)
  /-- LASER_DAILY (R290). Once a day the Keeper logs each input's power and bias. -/
  | laserDaily (inp : Nat)
  /-- LASER_BASELINE_SET (R290). At the end of the first hour after a new source, its baseline is set and logged. -/
  | laserBaselineSet (inp : Nat)
  /-- PUT (R339). A PUT frame writes its payload into the window and then adds its signal. -/
  | put (vc : Nat) (ups : List Upset)
  /-- GET_REQ (R339). A GET_REQ frame reads the window and returns GET_RESP frames. -/
  | getReq (vc : Nat) (ups : List Upset)
  /-- GET_RESP (R339). A GET_RESP frame writes its payload at the requester's destination. -/
  | getResp (vc : Nat) (ups : List Upset)
  /-- ATOMIC_ADD (R339). An ATOMIC_ADD frame adds integer elements into the window with saturation. -/
  | atomicAdd (vc : Nat) (ups : List Upset)
  /-- SIGNAL (R339). A SIGNAL frame adds an increment to a signal. -/
  | signal (vc : Nat)
  /-- ACK (R334). An ACK frame advances TX_ACKED and TX_LIMIT of the flow. -/
  | ack (vc : Nat)
  /-- NAK (R335). A NAK frame fails the descriptor or triggers a resend from ACK. -/
  | nak (vc : Nat)
  /-- TIME (R342). A TIME frame gives the four times from which θ is computed and the TBC slewed. -/
  | time
  /-- ACK_TIMER (R334). 1 µs after an unacknowledged frame was accepted, the receiver sends an ACK. -/
  | ackTimer (flow : Nat)
  /-- FLOW_RTO (R336). TX_ACKED has not advanced for the timeout, so the flow resends, or enters FAILED at RETRY_LIMIT. -/
  | flowRto (flow : Nat)
  /-- FLOW_OPEN (R333). FLOW_CMD OPEN opens a flow end. -/
  | flowOpen (req fn : Nat)
  /-- FLOW_CLOSE (R347). FLOW_CMD CLOSE aborts the flow's descriptors and frees the context. -/
  | flowClose (req fn : Nat)
  /-- FLOW_RESET (R336). FLOW_CMD RESET returns the flow to OPEN with SYN pending. -/
  | flowReset (req fn : Nat)
  /-- FLOW_READ (R347). FLOW_CMD READ returns the whole flow context. -/
  | flowRead (req fn : Nat)
  /-- PATCH_WRITE (R327). Writing the upper half of PATCH_DATA installs a patch entry within 1 µs. -/
  | patchWrite (fn hi : Nat)
  /-- MADDR_WRITE (R345). A write of RTE.MADDR sets the coordinate, or on a standby starts adoption. -/
  | maddrWrite (fn val : Nat)
  /-- DAYMARK_RECOMPUTE (R355). The Keeper recomputes the daymark digest after a digest change, an approval or a firmware change. -/
  | daymarkRecompute
  /-- AGREE_BOUNDARY (R358). At each millisecond boundary the agreement GEN, DEPTH and ALL_AGREE are updated. -/
  | agreeBoundary
  /-- DM_APPROVE (R354). Writing DM_APPROVE.GO starts an approval of the module-scope digests. -/
  | dmApprove (req : Nat)
  /-- DM_APPROVE_DONE (R354). The EXPECT table commits to the log and the daymark is recomputed. -/
  | dmApproveDone
  /-- EPOCH_WRITE (R356). A newer CFG_EPOCH is accepted and logged, and any other value is refused. -/
  | epochWrite (req val : Nat)
  /-- COLL_LAUNCH (R373). A COLL_LAUNCH command checks the group and enqueues the operation with a sequence number. -/
  | collLaunch (q : Nat)
  /-- COLL_QUEUE_SPACE (R373). A launch waiting on a full communication queue enqueues once space frees. -/
  | collQueueSpace (q : Nat)
  /-- COLL_OP_START (R375). An operation starts on a free dedicated core after its checks, and sends its header frames. -/
  | collOpStart (fn : Nat)
  /-- COLL_HEADER_RX (R381). A received header frame is compared with the local operation and the daymark. -/
  | collHeaderRx (flow : Nat)
  /-- COLL_DATA_RX (R386). A received ring piece is summed with the member's contribution and sent on. -/
  | collDataRx (flow : Nat)
  /-- COLL_OP_DONE (R373). An operation completes, increments its signal, or on failure sends ABORT and fails its queue. -/
  | collOpDone (fn gid : Nat)
  /-- COLL_ABORT_RX (R395). A received ABORT ends the running operation with PEER_ABORT, or is kept pending. -/
  | collAbortRx (flow : Nat)
  /-- VERDICT_FRAME_RX (R391). A verdict frame is forwarded or combined into the phase record. -/
  | verdictFrameRx (flow : Nat)
  /-- COL_CQ_RESET (R396). CQ_CMD.RESET aborts queued operations and resets the queue and its flows. -/
  | colCqReset (req fn : Nat)
  /-- COLL_QUADS_APPLY (R376). A pending COLL_QUADS write takes effect once no operation runs. -/
  | collQuadsApply (fn : Nat)
  /-- CQ_DOORBELL (R413). A command queue doorbell write is accepted or ignored. -/
  | cqDoorbell (fn k p : Nat)
  /-- CMD_FETCH (R414). The module fetches up to 8 descriptors and checks each one. -/
  | cmdFetch (cls n : Nat) (fail : Bool)
  /-- KERNEL_LAUNCH (R421). Loads the named idle cores with PC and arguments and starts them. -/
  | kernelLaunch (q : Nat)
  /-- DMA (R422). Moves bytes between host memory and module memory. -/
  | dma (q : Nat) (ups : List Upset) (hostErr : Option Nat)
  /-- SIGNAL_WAIT (R419). Holds its queue until a signal reaches a value. -/
  | signalWait (q : Nat)
  /-- SIGNAL_WAIT_MET (R416). A held SIGNAL_WAIT finds its condition true and completes. -/
  | signalWaitMet (q : Nat)
  /-- SIGNAL_SET (R419). Sets or adds to a signal at once. -/
  | signalSet (q : Nat)
  /-- POWER_HINT (R456). Sets a hint target issue level for the partition's cores for a window. -/
  | powerHint (q : Nat)
  /-- FENCE_CMD (R423). A FENCE command stops fetching on its target queues and optionally aborts their commands. -/
  | fenceCmd (q : Nat)
  /-- FENCE_CMD_DONE (R423). A FENCE command completes when every command fetched from its targets has completed. -/
  | fenceCmdDone (q num : Nat)
  /-- QUIESCE (R423). QUIESCE stops fetching and sets QUIESCE on the partition's CORE and COL pages. -/
  | quiesce (q : Nat)
  /-- QUIESCE_RESUME (R423). QUIESCE with RESUME clears those QUIESCE bits and QSTOP. -/
  | quiesceResume (q : Nat)
  /-- CMD_COMPLETE (R417). A command completes, advancing its signal, writing CMD_DONE when due and incrementing CQ_DONE. -/
  | cmdComplete (q num : Nat)
  /-- FUNC_STOP (R424). Writing FUNC_CTRL.STOP acts as FENCE with ALL and ABORT on the function. -/
  | funcStop (req fn : Nat)
  /-- FUNC_CTRL_EN (R434). Writing FUNC_CTRL.EN enables the function or disables all its queues. -/
  | funcCtrlEn (req fn : Nat) (en : Bool)
  /-- RES_GO (R407). Writing RES_CTRL.GO checks and applies the staged resource assignment as a whole. -/
  | resGo (req fn : Nat)
  /-- BAR4_ACCESS (R411). A BAR4 signal access reads or SIGSETs an owned signal, and refuses an unowned one. -/
  | bar4Access (fn off width : Nat) (val : Option Nat)
  /-- QUE_CQ_RESET (R435). CQ_CTRL.RESET performs RST_CTX of the queue and returns it to DISABLED. -/
  | queCqReset (req fn : Nat)
  /-- CQ_RESUME (R423). CQ_CTRL.RESUME clears FSTOP and resumes fetching. -/
  | cqResume (req fn : Nat)
  /-- CQ_ENABLE (R435). Writing CQ_CTRL.EN makes the queue ACTIVE or stops its fetching. -/
  | cqEnable (req fn : Nat) (en : Bool)
  /-- EQ_DOORBELL (R427). An event queue consumption doorbell returns slots, after which LOST and pending records are written. -/
  | eqDoorbell (fn k c : Nat)
  /-- EQ_ENABLE (R436). Writing EQ_CTRL.EN = 1 activates the event queue with its counts at 0. -/
  | eqEnable (req fn : Nat)
  /-- EQ_DISABLE (R432). Clearing EQ_CTRL.EN moves pending records and merge slots to the default queue. -/
  | eqDisable (req fn : Nat)
  /-- MERGE_WINDOW_END (R429). A merge slot's window ends and one record with the merged count is written. -/
  | mergeWindowEnd (q slot : Nat)
  /-- MSIX_COAL_TIMER (R431). COAL_US after the first unsignalled record, the MSI-X message is sent. -/
  | msixCoalTimer (q : Nat)
  /-- EQ_WRITE_FAIL (R432). A record write ends in a host error, the queue enters ERROR and its records move to the default queue. -/
  | eqWriteFail (rec : EqFail)
  /-- FLR_VF (R404). A VF Function Level Reset performs RST_PART of its partition and RST_CTX of its queues. -/
  | flrVf (fn : Nat)
  /-- FLR_PF0 (R404). A PF0 Function Level Reset performs RST_CHIP. -/
  | flrPf0
  /-- PCIE_LINK_TRAIN (R402). The host link trains or retrains, recording PCIE_LINK when below x16 at 64 GT/s. -/
  | pcieLinkTrain (flitMode : Bool) (gts width : Nat)
  /-- PERST_ASSERT (R575). PERST# held for at least 1 ms after READY performs RST_CHIP. -/
  | perstAssert
  /-- GET_VERSION (R433). SPDM GET_VERSION is answered by the Keeper. -/
  | getVersion
  /-- GET_CAPABILITIES (R433). SPDM GET_CAPABILITIES is answered. -/
  | getCapabilities
  /-- NEGOTIATE_ALGORITHMS (R433). SPDM NEGOTIATE_ALGORITHMS is answered. -/
  | negotiateAlgorithms (asym hash : Nat)
  /-- GET_DIGESTS (R433). SPDM GET_DIGESTS is answered. -/
  | getDigests
  /-- GET_CERTIFICATE (R433). SPDM GET_CERTIFICATE returns the slot 0 chain. -/
  | getCertificate (slot off len : Nat)
  /-- CHALLENGE (R433). SPDM CHALLENGE is answered with a signature. -/
  | challenge (slot nonce : Nat) (later : Bool)
  /-- GET_MEASUREMENTS (R433). SPDM GET_MEASUREMENTS returns the signed measurements. -/
  | getMeasurements (sign : Bool) (index nonce : Nat) (later : Bool)
  /-- RESPOND_IF_READY (R433). SPDM RESPOND_IF_READY is answered. -/
  | respondIfReady
  /-- SPDM_UNSUPPORTED (R433). Any other SPDM request is answered with ERROR UnsupportedRequest. -/
  | spdmUnsupported (code : Nat)
  /-- AVS_READBACK (R442). Every 10 µs after a Voltage write the rail is read back, with retries and AVS_FAIL. -/
  | avsReadback (r : Nat) (read : Option AvsReply)
  /-- AVS_FAIL_RETRY (R442). Once a second after AVS_FAIL the Keeper tries the voltage again. -/
  | avsFailRetry (r : Nat)
  /-- AVS_CURRENT_READ (R441). Every millisecond rail 0 current is read and compared with the domain sum. -/
  | avsCurrentRead (amps : Nat)
  /-- AVS_TEMP_READ (R441). Once a second the regulator temperatures are read. -/
  | avsTempRead (t0 t1 t2 : Nat)
  /-- AVS_ALERT (R585). AVS_ALERT_N low makes the Keeper read AVSBus Status. -/
  | avsAlert (status : Nat)
  /-- DOMAIN_ON (R443). A DOM_CTRL write turns a domain on, with its dependencies first. -/
  | domainOn (req d : Nat)
  /-- DOMAIN_OFF (R443). A DOM_CTRL write turns a domain off, or refuses it. -/
  | domainOff (req d : Nat)
  /-- DOMAIN_SWITCH_DONE (R443). A domain switch completes and DOM_RESULT is posted. -/
  | domainSwitchDone
  /-- SEG_CHECK (R446). Each microsecond every regulator segment checks itself, and a failed one is opened and logged. -/
  | segCheck (failed : List (Nat × Nat))
  /-- IC_EVAL (R449). Once a second each loaded domain's interconnect resistance ratio is evaluated. -/
  | icEval (d nv ma : Nat) (temp : Int)
  /-- TELEM_RECORD (R450). At each millisecond the telemetry record is closed and delivered. -/
  | telemRecord (volts amps mw : List Nat) (tj : Nat)
  /-- ENERGY_LOG (R452). Once an hour the lifetime energy is added to the log. -/
  | energyLog
  /-- ENV_SET_WRITE (R453). A host ENV_SET write changes the setpoint, or is held until 10 ms after the last change. -/
  | envSetWrite (req val : Nat)
  /-- ENV_HELD_APPLY (R453). A held setpoint change is applied 10 ms after the previous one. -/
  | envHeldApply (tray : Bool)
  /-- CAP_WRITE (R453). A write of CAP applies at once. -/
  | capWrite (req val : Nat)
  /-- GOVERNOR_US (R457). Each microsecond P_ENV, the ceilings and every core's issue level are updated. -/
  | governorUs
  /-- GOVERNOR_MS (R457). Each millisecond the power model is updated and a frequency change may be scheduled. -/
  | governorMs (tjs : List Nat)
  /-- FREQ_SCHEDULE (R459). A FREQ_TBC write schedules a change to FREQ_REQ, or is refused. -/
  | freqSchedule (req tbc : Nat)
  /-- FREQ_CANCEL (R459). A write of 0 to FREQ_TBC cancels a pending change before its first voltage step. -/
  | freqCancel (req : Nat)
  /-- FREQ_VOLTAGE_RAISE (R460). 600 µs before an upward switch the Keeper writes the higher VDD_CORE. -/
  | freqVoltageRaise
  /-- FREQ_LEVEL_HOLD (R460). 64 µs before an upward switch the core levels are held down. -/
  | freqLevelHold
  /-- FREQ_SWITCH (R460). At FREQ_TBC the root multiplexer switches PLLs on one mesh edge. -/
  | freqSwitch
  /-- FREQ_VOLTAGE_LOWER (R460). 5 µs after a downward switch the Keeper writes the lower VDD_CORE. -/
  | freqVoltageLower
  /-- PLL_UNLOCK (R461). A PLL loses lock, so the pending change is cancelled or the clock switches to the spare. -/
  | pllUnlock (running : Bool)
  /-- HST_FREQ_WRITE (R462). A HST_FREQ write changes CLK_HST with its voltage. -/
  | hstFreqWrite (req mhz : Nat)
  /-- HST_FREQ_DONE (R462). A CLK_HST change completes and BUSY clears. -/
  | hstFreqDone
  /-- MARGIN_SAMPLE (R463). Once a second each replica-path monitor samples slack, and a domain may fall due for a trim. -/
  | marginSample (cluster slack : Nat)
  /-- TRIM_APPLY (R463). At a millisecond boundary after the logged record, TRIMnn rises by 5 mV. -/
  | trimApply (d : Nat)
  /-- THERM_THROTTLE_STEP (R465). Every 100 µs at or above T_THROTTLE, THERM_LIMIT falls by 1. -/
  | thermThrottleStep (tj : Nat)
  /-- THERM_RECOVER_STEP (R465). Every millisecond 3 °C below T_THROTTLE, THERM_LIMIT rises by 1. -/
  | thermRecoverStep (tj : Nat)
  /-- STACK_TEMP (R465). A stack reporting 105 °C or more halves its request rate until it reports 100 °C or less. -/
  | stackTemp (m temp : Nat)
  /-- THERMAL_TRIP (R468). A die sensor at 115 °C for 10 µs asserts THERMTRIP_N and halts the module. -/
  | thermalTrip (tj : Nat)
  /-- QUENCH_ASSERT (R466). QUENCH_N qualified low caps every ceiling at QUENCH_LVL. -/
  | quenchAssert
  /-- QUENCH_RELEASE (R466). QUENCH_N qualified high lifts the ceiling. -/
  | quenchRelease
  /-- AIRFLOW_HALT (R467). AIRFLOW_FAIL_N qualified low halts compute, DMA, CHCs and data traffic and drops the clock. -/
  | airflowHalt
  /-- THERM_RESTART (R469). A write of THERM_CTRL.RESTART ends a halt when its conditions hold. -/
  | thermRestart (req : Nat)
  /-- HEARTBEAT_TICK (R476). Each TBC millisecond the Keeper's main loop increments HEARTBEAT. -/
  | heartbeatTick
  /-- KEEPER_WATCHDOG_EXPIRE (R477). The Keeper watchdog runs 500 ms without a restart, so the Keeper restarts from ROM. -/
  | keeperWatchdogExpire
  /-- RST_CTX (R480). Aborts the named commands, flows or queues of a context. -/
  | rstCtx (page : Nat)
  /-- RST_ENG (R480). Resets one engine-level unit. -/
  | rstEng (unit : EngUnit)
  /-- RST_PART (R480). Resets a function's partition after its dump. -/
  | rstPart (fn : Nat)
  /-- RST_CHIP (R480). Resets every domain except AON after a dump, then boots from step 5. -/
  | rstChip
  /-- RESET_DONE (R479). A reset completes and the kept state resumes. -/
  | resetDone (level target : Nat)
  /-- RESET_BOUND_EXPIRE (R481). A unit misses its reset bound, is fenced, and the next level begins. -/
  | resetBoundExpire (level target : Nat) (units : List Nat)
  /-- DUMP_GO (R484). Writing DUMP_CTRL.GO starts a dump without reset. -/
  | dumpGo (req fn : Nat)
  /-- DUMP_MAX_MS (R485). A dump reaches MAX_MS and is stopped, truncated and timed out. -/
  | dumpMaxMs (fn written : Nat)
  /-- DUMP_DONE (R487). A dump writes its header last and ends, releasing a waiting reset. -/
  | dumpDone (fn : Nat) (fail : Bool)
  /-- TEST_RESCHEDULE (R496). After its backoff the Keeper reschedules an abandoned test, suspending it after 64 abandonments. -/
  | testReschedule (test page : Nat)
  /-- TEST_RESUME (R496). Writing TEST_CTRL.RESUME resumes every suspended test. -/
  | testResume (fn : Nat)
  /-- LOG_RECORD_WRITE (R507). The Keeper programs, verifies and commits the next queued log record. -/
  | logRecordWrite (outs0 outs1 : List Nat) (flash : Nat)
  /-- STATE_RECORD_RETRY (R508). Every 10 ms a state record waiting on a full queue is retried. -/
  | stateRecordRetry
  /-- CKPT_START (R514). The Keeper starts a checkpoint of every state item in force. -/
  | ckptStart
  /-- SECTOR_ERASE (R515). The oldest reclaimable journal sector is erased and given a header. -/
  | sectorErase (d fails flash : Nat)
  /-- INCIDENT_CLOSE (R518). 10 s without a C0 or C1 record closes the incident and writes its summary. -/
  | incidentClose
  /-- GENERATE (R524). KEY_CMD GENERATE makes new key pairs and writes their public keys. -/
  | generate
  /-- INSTALL (R524). KEY_CMD INSTALL checks and writes the new key slot, commits it and advances OTP. -/
  | install (leaf : Nat) (chain anchors : List Nat) (trust : Nat) (hostErr : Bool)
  /-- KEY_ABORT (R526). KEY_CMD ABORT discards a staged GENERATE. -/
  | keyAbort
  /-- LOG_READ (R528). READ_CTRL.GO copies selected committed records to the host buffer. -/
  | logRead
  /-- STAGE (R538). FWU_CMD STAGE checks an image and starts writing it to the inactive slot. -/
  | stage (req : Nat) (hostErr sigOk : Bool)
  /-- STAGE_DONE (R538). STAGE finishes the body and marks the slot VALID, or leaves it WRITING. -/
  | stageDone (pieces : Nat) (hostErr flashErr : Bool)
  /-- ACTIVATE (R539). FWU_CMD ACTIVATE marks the VALID slot TRIAL, optionally restarting the Keeper. -/
  | activate (req : Nat) (restart : Bool)
  /-- CONFIRM (R540). FWU_CMD CONFIRM marks the booted slot ACTIVE. -/
  | confirm (req : Nat)
  /-- CONFIRM_TIMEOUT (R540). No confirmation within CONFIRM_S restarts the Keeper from ROM. -/
  | confirmTimeout
  /-- COMMIT_SVN (R542). FWU_CMD COMMIT_SVN raises FW_SVN to the running slot's SVN. -/
  | commitSvn (req : Nat)
  /-- FWU_ABORT (R543). FWU_CMD ABORT stops a running STAGE at its next piece. -/
  | fwuAbort (req : Nat)
  /-- EXIT_FOG (R545). FWU_CMD EXIT_FOG leaves Fog mode and restarts the Keeper, or is refused. -/
  | exitFog (req : Nat) (strapLow : Bool)
  /-- KEEPER_START (R541). At each Keeper start the ROM chooses, verifies and starts a slot, or enters Fog mode. -/
  | keeperStart (sigOk : List Bool) (strapLow : Bool)
  /-- STATUS (R548). A KSB status frame returns 19 response words and clears the counts. -/
  | status (edges : Nat) (crcOk busy : Bool)
  /-- REG_READ (R547). A KSB REG_READ selects 16 words of a page for the next status read. -/
  | regRead (page off : Nat) (busy extra : Bool)
  /-- REG_WRITE (R547). A KSB REG_WRITE writes one word of a PWR, KPR or KSB register. -/
  | regWrite (page off val : Nat) (busy extra : Bool)
  /-- SET_ENVELOPE (R547). A KSB SET_ENVELOPE loads the tray setpoint and slope into TRAY_SET. -/
  | setEnvelope (val : Nat) (busy extra : Bool)
  /-- RESTART (R547). A KSB RESTART requests restart after a halt. -/
  | restart (busy extra : Bool)
  /-- STOP (R491). A KSB STOP acts as FUNC_CTRL.STOP on the named functions. -/
  | stop (addr : Nat) (words : List Nat) (busy extra : Bool)
  /-- RESET_CHIP (R547). A KSB RESET_CHIP requests RST_CHIP with its dump. -/
  | resetChip (addr : Nat) (busy extra : Bool)
  /-- ENTER_FOG (R544). A KSB ENTER_FOG performs RST_CHIP and restarts the Keeper into Fog mode. -/
  | enterFog (addr : Nat) (busy extra : Bool)
  /-- FOG_EXIT (R545). A KSB FOG_EXIT leaves Fog mode, or is refused. -/
  | fogExit (strapLow : Bool) (busy extra : Bool)
  /-- LASER_REPORT (R547). A KSB LASER_REPORT records a laser source and bias, and may start a new baseline. -/
  | laserReport (w0 w1 w2 w3 : Nat) (busy extra : Bool)
  /-- STANDBY_ADDR (R547). A KSB STANDBY_ADDR sets the standby address with STANDBY = 1. -/
  | standbyAddr (val : Nat) (busy extra : Bool)
  /-- LOG_SEEK (R547). A KSB LOG_SEEK selects log records for reading. -/
  | logSeek (w0 w1 w2 : Nat) (busy extra : Bool)
  /-- LOG_NEXT (R547). A KSB LOG_NEXT selects the next 64 bytes of the selected records for the status read. -/
  | logNext (busy extra : Bool)
  /-- TELEM (R547). A KSB TELEM selects half of the latest telemetry record. -/
  | telem (half : Nat) (busy extra : Bool)
  /-- FW_BEGIN (R547). A KSB FW_BEGIN starts a side-band image load in Fog mode. -/
  | fwBegin (slot : Nat) (busy extra : Bool)
  /-- FW_DATA (R547). A KSB FW_DATA delivers 256 image bytes in order. -/
  | fwData (chunk : Nat) (bytes : List Nat) (sigOk flashErr busy extra : Bool)
  /-- FW_END (R547). A KSB FW_END completes the load and checks the digest. -/
  | fwEnd (flashErr busy extra : Bool)
  /-- KSB_MALFORMED_FRAME (R549). At the CS_N rise a torn, short, CRC-bad or unknown frame is discarded and counted. -/
  | ksbMalformedFrame (op e : Nat) (crcOk : Bool)
  /-- KSB_STALL (R549). CS_N held low 1 ms without an edge judges the frame as torn or short. -/
  | ksbStall (op e : Nat)
  /-- PEEK (R556). A read of PEEK_DATA reads another page under the visibility policy and advances the offset. -/
  | peek (req fn : Nat)
  /-- TRACE_MARK (R558). Writing TRACE_MARK raises a MARK trace entry. -/
  | traceMark (req fn val : Nat)
  /-- TRACE_DISABLE (R560). Clearing TRACE_CFG.EN flushes the queued entries and ends the trace. -/
  | traceDisable (req fn : Nat) (hostErr : Bool)
  /-- TW_DIGEST (R562). The watch engine digests a matched tensor, writes its record and then releases the command. -/
  | twDigest (fn held : Nat) (hostErr : Bool)
  /-- POWER_ON_BOOT (R573). The rise of AON_RST_N runs the boot sequence through replay, slot, rails, memory, compute, admission, host and
  ports. -/
  | powerOnBoot (e : BootEnv)
  /-- BOOT_STALL (R578). A boot step exceeds its limit and STALLED is set. -/
  | bootStall (status : Nat)
  /-- AON_RESET_ASSERT (R590). The fall of AON_RST_N gates every switched domain and stops the Keeper. -/
  | aonResetAssert (c0 c1 key : Nat)
  /-- POWER_LOSS (R584). Input power is lost and every rail falls, which is treated as a power cut. -/
  | powerLoss (c0 c1 key : Nat)
  /-- AIRFLOW_FAIL_N_HIGH (R592). AIRFLOW_FAIL_N returns high and, once it has been high for 1 s, a boot held before step 8 continues and
  THERM_STATUS.AIRFLOW clears. -/
  | airflowFailNHigh (e : BootEnv)
  /-- FAR_LINK_DOWN (R267). A CXL far-tier link goes down, FAR_LINK_DOWN is recorded and later accesses fail with FAR_DOWN until it retrains. -/
  | farLinkDown (d : Nat)
  /-- CHC_ACCESS (R606). A cluster host core load or store reaches its L2, scratchpad, cluster memory or a translated page, with L2 errors
  corrected or faulted. -/
  | chcAccess (n : Nat) (op : ChcOp) (err : Nat)
  /-- XLT_INVAL_DONE (R282). A translation invalidation completes within 2 µs, XLT_INVAL.BUSY clears and lookups stop using the old entries. -/
  | xltInvalDone (fn : Nat)
  /-- COL_CQ_RESET_DONE (R398). A communication-queue reset completes within 1 ms and CQ_CMD.BUSY clears, after which software may launch
  again. -/
  | colCqResetDone (fn k : Nat)
  /-- LOG_READ_DONE (R528). A log read ends at the head, at a full buffer or after 4,096 records, and READ_RESULT.DONE, COUNT and
  READ_NEXT are posted. -/
  | logReadDone (hostErr : Bool)
  /-- KEY_CMD_DONE (R524). A GENERATE or INSTALL ends, KEY_STATUS.BUSY clears and its status is posted after the key slot, commits and OTP
  advance. -/
  | keyCmdDone (verified hostErr : Bool)
  deriving DecidableEq, Repr

end Sys2Proof
end

