-- ==== Sys2Proof/Machine/Digest.lean ====
section
/-!
DEFINITION. The check functions that the spec names by their standards: CRC-32C (R487, R506 and others) and SHA-384 (R351).
-/

namespace Sys2Proof.Machine

/-- One bit of a reflected CRC with polynomial `poly`. -/
def crcBit (poly c : Nat) : Nat := if c % 2 = 1 then (c / 2) ^^^ poly else c / 2

/-- Eight bits of a reflected CRC. -/
def crcByte (poly c b : Nat) : Nat :=
  let f := crcBit poly
  f (f (f (f (f (f (f (f (c ^^^ (b % 256)))))))))

/-- CRC-32C (Castagnoli: reflected polynomial 0x82F63B78, initial and final complement) over bytes. -/
def crc32c (bs : List Nat) : Nat :=
  (bs.foldl (crcByte 0x82F63B78) 0xFFFFFFFF) ^^^ 0xFFFFFFFF

/-! ### SHA-384

The spec names the function by its standard, FIPS 180-4, whose constants are the leading fraction bits of roots of the first
primes; they are computed here from that description. -/

/-- The largest number with `n` bits whose `k`-th power is at most `x`, once `r` holds the bits above. -/
def rootBits (k x : Nat) : Nat → Nat → Nat
  | 0, r => r
  | n + 1, r => if (r + 2 ^ n) ^ k ≤ x then rootBits k x n (r + 2 ^ n) else rootBits k x n r

/-- The first 80 primes: the numbers from 2 to 409 that no smaller number from 2 to 20 divides. -/
def primes80 : List Nat :=
  (List.range 410).filter (fun n => decide (2 ≤ n) && (List.range 21).all (fun d => decide (d < 2 ∨ n ≤ d ∨ n % d ≠ 0)))

/-- The first 64 fraction bits of the `k`-th root of `p`. -/
def rootFraction (k p : Nat) : Nat := rootBits k (p * 2 ^ (64 * k)) 67 0 % 2 ^ 64

/-- The constants added in the 80 rounds: cube roots of the first 80 primes. -/
def digestAdds : List Nat := primes80.map (rootFraction 3)

/-- The chaining words at the start: square roots of the ninth to the sixteenth prime. -/
def digestStart : List Nat := ((primes80.drop 8).take 8).map (rootFraction 2)

/-- Rotate a 64-bit word right. -/
def ror (n x : Nat) : Nat := x / 2 ^ n ^^^ (x * 2 ^ (64 - n) % 2 ^ 64)

/-- A word rotated right by each of `ns` and shifted right by `sh` (64 for no shift), all combined by exclusive or. -/
def mixWord (ns : List Nat) (sh x : Nat) : Nat := ns.foldl (fun y n => y ^^^ ror n x) (x / 2 ^ sh)

/-- The window of the next sixteen words of the schedule, advanced by one word. -/
def digestWindow (w : List Nat) : List Nat :=
  w.drop 1 ++ [(w.getD 0 0 + mixWord [1, 8] 7 (w.getD 1 0) + w.getD 9 0 + mixWord [19, 61] 6 (w.getD 14 0)) % 2 ^ 64]

/-- One round on the eight working words `v`: `kw` is the sum of the round's constant and schedule word. -/
def digestRound (v : List Nat) (kw : Nat) : List Nat :=
  let x (i : Nat) : Nat := v.getD i 0
  let pick := (x 4 &&& x 5) ||| ((2 ^ 64 - 1 - x 4) &&& x 6)
  let most := (x 0 &&& x 1) ||| (x 2 &&& (x 0 ||| x 1))
  let sum := x 7 + mixWord [14, 18, 41] 64 (x 4) + pick + kw
  ((sum + mixWord [28, 34, 39] 64 (x 0) + most) % 2 ^ 64) :: v.take 3 ++ ((x 3 + sum) % 2 ^ 64) :: (v.drop 4).take 3

/-- All rounds: the constants still to add, the window of schedule words and the working words. -/
def digestRounds : List Nat → List Nat → List Nat → List Nat
  | [], _, v => v
  | k :: ks, w, v => digestRounds ks (digestWindow w) (digestRound v (k + w.getD 0 0))

/-- The big-endian number of a byte list. -/
def ofBytesBE (bs : List Nat) : Nat := bs.foldl (fun a b => a * 256 + b % 256) 0

/-- The chaining words after a 128-byte block. -/
def digestBlock (v bs : List Nat) : List Nat :=
  List.zipWith (fun a b => (a + b) % 2 ^ 64) v
    (digestRounds digestAdds ((List.range 16).map (fun i => ofBytesBE ((bs.drop (8 * i)).take 8))) v)

/-- The chaining words after `n` blocks. -/
def digestBlocks : Nat → List Nat → List Nat → List Nat
  | 0, v, _ => v
  | n + 1, v, bs => digestBlocks n (digestBlock v (bs.take 128)) (bs.drop 128)

/-- The bytes of a number, highest first. -/
def beBytes (n v : Nat) : List Nat := (leBytes n v).reverse

/-- A message with the padding that fills its last block: a one bit, zeros, and its length in bits. -/
def digestPad (bs : List Nat) : List Nat :=
  bs ++ 0x80 :: List.replicate ((128 + 111 - bs.length % 128) % 128) 0 ++ beBytes 16 (8 * bs.length)

/-- SHA-384 of a byte string, as 48 bytes. -/
def sha384 (bs : List Nat) : List Nat :=
  ((digestBlocks ((digestPad bs).length / 128) digestStart (digestPad bs)).take 6).flatMap (beBytes 8)

end Sys2Proof.Machine
end

