-- ==== Sys2Proof/Config.lean ====
section
/-!
DEFINITION. The values the spec leaves open, as constants without a body: nothing in Lean can evaluate them, so a
statement about them holds for every value. Each is named in a row of notes/assumptions.
-/

namespace Sys2Proof.Config

/-- The `n`-th free value a run takes: an undefined or unstated result, applied to the counter `State.free`. -/
opaque free (n : Nat) : Nat

/-- What an unlisted byte at `addr` reads as once the store holding it has lost its contents for the `epoch`-th time
(R39: lost contents are undefined). -/
opaque freeByte (epoch addr : Nat) : Byte

/-- What register `key` of a core that lost its contents in the `epoch`-th loss reads as until it is written
(R39, R101: undefined after RST_ENG or with the domain off). -/
opaque freeReg (epoch key : Nat) : Nat

/-- The CRC-32C that the Keeper's ROM holds for a known-answer pattern, and every other content of the ROM that the spec
does not print (R124): indexed by a number. -/
opaque rom (n : Nat) : Nat

/-- Factory data of the manufacturing record that the spec does not print (R449, R457, R504): R_BASE baselines,
leakage models, and the digests of identity certificates, indexed by a number. -/
opaque factory (n : Nat) : Nat

/-- Keys, secrets and random numbers that the Keeper and the ports form for themselves (R302, R303, R523). -/
opaque secret (n : Nat) : Nat

/-- The public ECDH P-384 share of a private number (R301). The standards that R301 names define this function and the six below; the
model leaves them open, and what they must satisfy is no part of it. Numbers stand for byte strings, lowest byte first. -/
opaque p384Public (priv : Nat) : Nat

/-- The ECDH P-384 secret of a private number and a partner's share. -/
opaque p384Shared (priv pub : Nat) : Nat

/-- The ML-KEM-768 encapsulation key of a seed. -/
opaque kemKey (seed : Nat) : Nat

/-- The ML-KEM-768 ciphertext for an encapsulation key and a random number. -/
opaque kemCipher (key rnd : Nat) : Nat

/-- The ML-KEM-768 secret that the encapsulating side takes from both. -/
opaque kemSent (key rnd : Nat) : Nat

/-- The ML-KEM-768 secret that the holder of a seed takes from a ciphertext. -/
opaque kemGot (seed cipher : Nat) : Nat

/-- A signature by an identity key (0 ECDSA P-384, 1 ML-DSA-65) over a hash. -/
opaque sign (algorithm key : Nat) (hash : List Nat) : Nat

/-- Labels of the key derivations that the spec does not print (R301, R302): 0 the key of FINISHED, 1 and 2 the two directions. -/
opaque label (n : Nat) : List Nat

/-- The eight parity bytes of the Reed-Solomon code over a flit (R306), whose generator the spec does not give. -/
opaque fecParity (flit : Nat) : Nat

/-- Row within its stack of an HBM line (address div 64): the stack controllers' own mapping, which the spec does not give
(R254). -/
opaque memRow (line : Nat) : Nat

/-- RX_GRANT that the collective engine gives the flows of a group (R372 does not state it). -/
opaque groupGrant : Nat

end Sys2Proof.Config
end

