-- ==== Sys2Proof/Machine/Codes.lean ====
section
/-!
DEFINITION. The three number spaces of R607: status codes (R24), counter event codes (R12) and the error
sources of each page (R15), each under the name the spec gives it.
-/

namespace Sys2Proof.Machine

namespace St

/-- R25: Completed as requested. -/
def OK : Nat := 0x0000
/-- R25: Resource in use. Nothing was changed. The request may be repeated. -/
def BUSY : Nat := 0x0001
/-- R25: A field is out of range or reserved bits are set. Nothing was changed. -/
def INVALID_ARG : Nat := 0x0002
/-- R25: The instance lacks the capability, or the function is not permitted to use it. -/
def NOT_SUPPORTED : Nat := 0x0003
/-- R25: The request crosses a partition, lock or security boundary. -/
def DENIED : Nat := 0x0004
/-- R25: A bounded wait expired. The owning chapter states what remains done. -/
def TIMEOUT : Nat := 0x0005
/-- R25: The target instance is fenced. -/
def FENCED : Nat := 0x0006
/-- R25: The target instance is quiesced or quiescing, or its CTRL.ENABLE is 0 (R14). -/
def QUIESCED : Nat := 0x0007
/-- R25: Cancelled by a reset, QUIESCE or FENCE before it completed. -/
def ABORTED : Nat := 0x0008
/-- R25: A finite table or queue is full. The owning chapter's code, where one exists, is returned in preference. -/
def NO_SPACE : Nat := 0x0009
/-- R168: Undefined class or operation. -/
def ILLEGAL_OP : Nat := 0x0101
/-- R168: A reserved bit or register-field high bit is 1. -/
def RESERVED_BITS : Nat := 0x0102
/-- R168: Operand dimensions disagree (R146, R149). -/
def SHAPE_MISMATCH : Nat := 0x0103
/-- R168: Descriptor not valid, or a zero dimension. -/
def DESC_INVALID : Nat := 0x0104
/-- R168: An address that translation does not map for this function. -/
def ADDR_RANGE : Nat := 0x0105
/-- R168: An address or element offset breaks an alignment rule. -/
def ALIGN : Nat := 0x0106
/-- R168: Generator state 0 loaded or drawn from. -/
def RNG_ZERO : Nat := 0x0107
/-- R168: Tap mask with bit 63 clear. -/
def RNG_TAP : Nat := 0x0108
/-- R168: SIGADD past 2^64 − 1. -/
def SIG_OVERFLOW : Nat := 0x0109
/-- R168: Context image of another layout version (R170). -/
def CTX_VERSION : Nat := 0x010A
/-- R168: Context image not marked valid, or its save was aborted. -/
def CTX_INVALID : Nat := 0x010B
/-- R168: Uncorrectable error on instruction fetch. -/
def IFETCH_UE : Nat := 0x010C
/-- R168: BRK executed. -/
def BREAK : Nat := 0x010D
/-- R249: The command is not permitted in the current STATE (R230, R236, R244). Nothing changed. -/
def STEP_STATE : Nat := 0x0D01
/-- R249: A step number or attempt differs from the step machine's own, or a contribution of another step or attempt was received (R230, R236). -/
def STEP_MISMATCH : Nat := 0x0D02
/-- R249: STEP_COMMIT found the apply phase not clean (R235). -/
def APPLY_FAULT : Nat := 0x0D03
/-- R249: STEP_COUNT is 2^48 − 1 (R236). -/
def STEP_EXHAUSTED : Nat := 0x0D04
/-- R249: A SNAPSHOT is already in progress. -/
def SNAP_BUSY : Nat := 0x0D05
/-- R249: No step has been committed. -/
def SNAP_NONE : Nat := 0x0D06
/-- R249: The region list breaks R243. -/
def SNAP_RANGE : Nat := 0x0D07
/-- R285: Too few free frames. FRAME_SHORT holds the exact number missing. Nothing was allocated. -/
def MEM_SHORT : Nat := 0x0201
/-- R285: An entry in the range is already valid. Nothing was changed. -/
def VPN_IN_USE : Nat := 0x0202
/-- R285: The stack is in self-refresh because its PHY domain is off (R41). -/
def STACK_OFF : Nat := 0x0203
/-- R285: A write reached a fenced channel (R261). -/
def CHANNEL_FENCED : Nat := 0x0204
/-- R285: The expander is absent or its link is down. -/
def FAR_DOWN : Nat := 0x0205
/-- R285: The expander did not complete in time. -/
def FAR_TIMEOUT : Nat := 0x0206
/-- R285: A request named a frame held for destructive testing. -/
def FRAME_QUARANTINED : Nat := 0x0207
/-- R285: A scheduled flip found its shadow bank not ready (R270). -/
def FLIP_DEFERRED : Nat := 0x0208
/-- R285: The traffic generator or margining was started while the channel or stack was in service. -/
def TEST_BUSY : Nat := 0x0209
/-- R322: The port is not UP, or went down while the request was outstanding. -/
def LINK_DOWN : Nat := 0x0320
/-- R322: Training did not reach UP within TRAIN_TO (R292). -/
def TRAIN_TIMEOUT : Nat := 0x0321
/-- R322: Fewer than 4 lanes in the agreed mask (R292). -/
def WIDTH_LOW : Nat := 0x0322
/-- R322: A key roll failed after 3 retries (R305). -/
def REKEY_FAIL : Nat := 0x0323
/-- R322: One flit was resent 8 times without acknowledgement (R309). -/
def REPLAY_EXHAUSTED : Nat := 0x0324
/-- R322: VC0 had no credit beyond the limit of R313. -/
def CREDIT_STARVED : Nat := 0x0325
/-- R350: No context free in the quota or the table. -/
def FLOW_FULL : Nat := 0x0401
/-- R350: The named FLOW_ID is not FREE. -/
def FLOW_IN_USE : Nat := 0x0402
/-- R350: The frame named a FREE flow. -/
def FLOW_UNKNOWN : Nat := 0x0403
/-- R350: The frame's source does not match the context. -/
def FLOW_PEER : Nat := 0x0404
/-- R350: RETRY_LIMIT was reached (R336). -/
def FLOW_TIMEOUT : Nat := 0x0405
/-- R350: The flow is FAILED. -/
def FLOW_FAILED : Nat := 0x0406
/-- R350: The peer's incarnation changed (R338). -/
def FLOW_RESET : Nat := 0x0407
/-- R350: A frame came from an old incarnation. -/
def FLOW_STALE : Nat := 0x0408
/-- R350: The NAK asks for a resend from ACK (R335). It never completes a descriptor. -/
def OUT_OF_ORDER : Nat := 0x0409
/-- R350: The access passes WIN_LEN. -/
def WINDOW_RANGE : Nat := 0x040A
/-- R350: A destination coordinate is beyond its axis (R323). -/
def MADDR_RANGE : Nat := 0x040B
/-- R401: The GID is at or above COUNT, or its active entry is not valid or is unusable (R369). -/
def GROUP_INVALID : Nat := 0x0501
/-- R401: The module is not in the group (R370). -/
def NOT_MEMBER : Nat := 0x0502
/-- R401: The reduction format or DST_FMT is not permitted (R375). -/
def COLL_FORMAT : Nat := 0x0503
/-- R401: The daymark or epoch differs from a neighbour's, or LOCAL_MATCH was 0 at start (R381). -/
def DAYMARK_MISMATCH : Nat := 0x0504
/-- R401: A neighbour's header differs from the local operation of the same SEQ (R381). -/
def COLL_MISMATCH : Nat := 0x0505
/-- R401: A member aborted the operation (R395). -/
def PEER_ABORT : Nat := 0x0506
/-- R401: A flow of the operation failed (R395). -/
def PEER_LOST : Nat := 0x0507
/-- R401: The queue is FAILED and must be reset (R397). -/
def CQ_FAILED : Nat := 0x0508
/-- R401: The group's flows could not be opened (R372). -/
def GROUP_FLOWS : Nat := 0x0509
/-- R401: No usable dedicated quad (R376). -/
def QUADS_NONE : Nat := 0x050A
/-- R439: OPCODE not defined (R420). -/
def BAD_OPCODE : Nat := 0x0601
/-- R439: The command is not permitted in the queue's class (R419). -/
def WRONG_CLASS : Nat := 0x0602
/-- R439: A named quad or core is outside the partition, retired, or the mask is 0 (R421). -/
def TARGET_RANGE : Nat := 0x0603
/-- R439: Host memory returned an error or timed out (R422). -/
def HOST_ERROR : Nat := 0x0604
/-- R439: A resource overlaps another function's, or the frame quotas exceed the frames offered (R407). -/
def RES_OVERLAP : Nat := 0x0605
/-- R439: Resources cannot change while the function is enabled or has work in flight (R407). -/
def FUNC_ACTIVE : Nat := 0x0606
/-- R439: The function has no quad (R420). -/
def NO_PARTITION : Nat := 0x0607
/-- R439: A descriptor could not be read, and the queue is in ERROR (R414). -/
def FETCH_FAIL : Nat := 0x0608
/-- R474: A powered domain depends on the domain (R41, R443). -/
def DOMAIN_DEPENDENT : Nat := 0x0701
/-- R474: The domain's units are not quiesced (R443). -/
def DOMAIN_BUSY : Nat := 0x0702
/-- R474: The domain was fenced (R448). -/
def DOMAIN_FENCED : Nat := 0x0703
/-- R474: FREQ_TBC is less than 1 ms ahead (R459). -/
def FCHG_LATE : Nat := 0x0704
/-- R474: The OPP exceeds OPP_LIMIT (R459). -/
def FCHG_OPP : Nat := 0x0705
/-- R474: The change was abandoned (R460, R461). -/
def FCHG_ABORT : Nat := 0x0706
/-- R474: A rail did not accept or confirm a voltage (R442). -/
def AVS_FAIL : Nat := 0x0707
/-- R474: The conditions of R469 do not hold. -/
def RESTART_DENIED : Nat := 0x0708
/-- R501: The reset was completed by a higher level (R483). -/
def RESET_ESCALATED : Nat := 0x0801
/-- R501: The unit missed its bound and was fenced (R481). -/
def RESET_TIMEOUT : Nat := 0x0802
/-- R501: No buffer is registered, or it is below 64 KiB (R486). -/
def DUMP_NO_BUFFER : Nat := 0x0803
/-- R501: The buffer holds an unread dump (R486). -/
def DUMP_PENDING : Nat := 0x0804
/-- R501: The dump did not fit, or hit MAX_MS (R485, R487). -/
def DUMP_TRUNCATED : Nat := 0x0805
/-- R501: A host write failed (R486). -/
def DUMP_WRITE_FAIL : Nat := 0x0806
/-- R501: A dump of the function is in progress. -/
def DUMP_BUSY : Nat := 0x0807
/-- R501: The Keeper is restarting (R477). -/
def KEEPER_RESTARTING : Nat := 0x0808
/-- R533: Replay has not completed (R512). -/
def LOG_NOT_READY : Nat := 0x0901
/-- R533: No live device can take the request (R509). -/
def LOG_DEV_FAIL : Nat := 0x0902
/-- R533: The state queue is full and the record waits (R508). -/
def LOG_FULL : Nat := 0x0903
/-- R533: The chain does not end in a common anchor (R524). -/
def KEY_CHAIN : Nat := 0x0904
/-- R533: The leaf keys are not the staged keys (R524). -/
def KEY_MISMATCH : Nat := 0x0905
/-- R533: No generation or counter step is left (R522, R524). -/
def KEY_EXHAUSTED : Nat := 0x0906
/-- R533: The written slot failed its readback or test signature (R524). -/
def KEY_VERIFY : Nat := 0x0907
/-- R533: A trust list, key slot or flash image is older than OTP, or from another module (R504, R524, R525). -/
def ROLLBACK : Nat := 0x0908
/-- R533: The retirement map is full (R527). -/
def RMAP_FULL : Nat := 0x0909
/-- R533: INSTALL without a staged GENERATE (R524). -/
def KEY_NONE : Nat := 0x090A
/-- R554: The header is malformed (R536). -/
def FW_HEADER : Nat := 0x0A01
/-- R554: The image is for another part. -/
def FW_PART : Nat := 0x0A02
/-- R554: The image does not admit this stepping. -/
def FW_COMPAT : Nat := 0x0A03
/-- R554: The image is not a slot image. -/
def FW_TYPE : Nat := 0x0A04
/-- R554: SVN is below FW_SVN. -/
def FW_SVN_OLD : Nat := 0x0A05
/-- R554: LENGTH, ENTRY or FWU_LEN is inconsistent. -/
def FW_LENGTH : Nat := 0x0A06
/-- R554: A key digest or a signature failed (R535). -/
def FW_SIGNATURE : Nat := 0x0A07
/-- R554: The body digest differs. -/
def FW_DIGEST : Nat := 0x0A08
/-- R554: Programming or readback failed. -/
def FW_FLASH : Nat := 0x0A09
/-- R554: A slot is TRIAL, or an operation is in progress (R538). -/
def FW_SLOT_BUSY : Nat := 0x0A0A
/-- R554: The operation is not valid in the slots' states (R539, R542, R545). -/
def FW_STATE : Nat := 0x0A0B
/-- R554: SVN beyond the last OTP step (R522, R536). -/
def SVN_EXHAUSTED : Nat := 0x0A0C
/-- R554: An FW_DATA chunk arrived out of order (R547). -/
def FW_SEQUENCE : Nat := 0x0A0D
/-- R554: Fog exit refused while STRAP_FOG_N is low. -/
def FOG_STRAP : Nat := 0x0A0E
/-- R554: CRC mismatch, not acted on. -/
def KSB_CRC : Nat := 0x0B01
/-- R554: CS_N released mid-field. -/
def KSB_TORN : Nat := 0x0B02
/-- R554: Too few edges. -/
def KSB_SHORT : Nat := 0x0B03
/-- R554: Unknown opcode. -/
def KSB_OPCODE : Nat := 0x0B04
/-- R554: Guard address wrong (R547). -/
def KSB_GUARD : Nat := 0x0B05
/-- R554: The previous command is still executing. -/
def KSB_BUSY : Nat := 0x0B06
/-- R554: The page or write is not permitted from the side-band. -/
def KSB_DENIED : Nat := 0x0B07
/-- R554: Not permitted in the Keeper's present state. -/
def KSB_REFUSED : Nat := 0x0B08
/-- R554: CS_N held low for 1 ms without an edge. -/
def KSB_STALL : Nat := 0x0B09
/-- R554: The page's domain is off. -/
def KSB_DOMAIN_OFF : Nat := 0x0B0A
/-- R571: The policy forbids the read (R556). -/
def PEEK_DENIED : Nat := 0x0C01
/-- R571: The page's domain is off. -/
def PEEK_DOMAIN_OFF : Nat := 0x0C02
/-- R571: The watched descriptor failed its checks (R562). -/
def TW_INVALID : Nat := 0x0C03
/-- R571: The digest met an unmapped line (R562). -/
def TW_UNMAPPED : Nat := 0x0C04

end St

namespace Cn

/-- R87, CORE page: Elements saturated or converted to infinity on overflow (R81, R86), and vector-unit results that overflow to infinity
from finite operands (R153) -/
def CORE_SAT : Nat := 0x0201
/-- R87, CORE page: Non-finite source values converted, and non-finite element codes read by an array or the vector unit (R72, R81) -/
def CORE_NONFIN : Nat := 0x0202
/-- R87, CORE page: Long-format subnormal operands read as zero, and results flushed to zero (R66) -/
def CORE_FLUSH : Nat := 0x0203
/-- R87, CORE page: Scale derivations clamped (R77) -/
def CORE_SCALE_CLAMP : Nat := 0x0204
/-- R87, CORE page: Ternary 0b10 codes read (R64) -/
def CORE_TERN_BAD : Nat := 0x0205
/-- R87, CORE page: Blocks read with a NaN scale (R71) -/
def CORE_SCALE_NAN : Nat := 0x0206
/-- R87, CORE page: Generator draws taken by conversions (R83) -/
def CORE_SR_DRAW : Nat := 0x0207
/-- R130, CORE page: Below-window events (R102) -/
def CORE_ACC_BW : Nat := 0x0301
/-- R130, CORE page: Lossy re-anchors (R102) -/
def CORE_ACC_RA : Nat := 0x0302
/-- R130, CORE page: Entries overflowed to infinity (R102) -/
def CORE_ACC_OVF : Nat := 0x0303
/-- R130, CORE page: Entries leaving FIN (R103, R122) -/
def CORE_ACC_NF : Nat := 0x0304
/-- R130, CORE page: All re-anchors, lossy or not -/
def CORE_REANCHOR : Nat := 0x0305
/-- R130, CORE page: Cycles in which at least one array computes -/
def CORE_MMA_CYCLES : Nat := 0x0306
/-- R130, CORE page: Steps waiting on feeders, in cycles (R119) -/
def CORE_FEED_STALL : Nat := 0x0307
/-- R130, CORE page: Steps waiting on weight loads, in cycles (R118) -/
def CORE_BLOAD_STALL : Nat := 0x0308
/-- R130, CORE page: Cycles an instruction waits on a bank (R94) -/
def CORE_BANK_WAIT : Nat := 0x0309
/-- R130, CORE page: Corrected accumulator errors -/
def CORE_ACC_CE : Nat := 0x030A
/-- R130, CORE page: Poisoned accumulator entries -/
def CORE_ACC_UE : Nat := 0x030B
/-- R130, CORE page: Weight-register parity retries -/
def CORE_BBUF_PAR : Nat := 0x030C
/-- R130, CORE page: Test yields (R125) -/
def CORE_KAT_PREEMPT : Nat := 0x030D
/-- R130, CORE page: Tests abandoned after 16 yields (R125) -/
def CORE_KAT_ABANDON : Nat := 0x030E
/-- R130, CORE page: Fold passes beyond the first, counted in every product pass: a complex MMA with two fold passes counts one for each
of its three or four product passes -/
def CORE_FOLD_PASS : Nat := 0x030F
/-- R173, CORE page: Instructions completed, including no-ops made by predication -/
def CORE_INSTR_RETIRED : Nat := 0x0101
/-- R173, CORE page: Cycles spent in SIGWAIT (R163) -/
def CORE_SIGWAIT_CYCLES : Nat := 0x0102
/-- R173, CORE page: Cycles DMAQ waits for space (R164) -/
def CORE_DMA_ISSUE_STALL : Nat := 0x0103
/-- R173, CORE page: Cycles the vector unit computes -/
def CORE_VEC_BUSY : Nat := 0x0104
/-- R173, CORE page: Blocks derived by SQUANT (R149) -/
def CORE_SQUANT_BLOCKS : Nat := 0x0105
/-- R173, CORE page: Delayed blocks with empty history (R150) -/
def CORE_SCALE_JIT_FALLBACK : Nat := 0x0106
/-- R173, CORE page: Slots that jumped (R162) -/
def CORE_NW_JUMP : Nat := 0x0107
/-- R173, CORE page: Context saves (R170) -/
def CORE_CTX_SAVES : Nat := 0x0108
/-- R173, CORE page: Kernels preempted at an instruction or slice boundary -/
def CORE_PREEMPTIONS : Nat := 0x0109
/-- R173, CORE page: Exceptions that overwrote an unread EXC_STATUS (R171) -/
def CORE_EXC_OVERWRITE : Nat := 0x010A
/-- R207, CORE page: Refused scratchpad request-cycles (R179) -/
def CORE_BANK_CONFLICT : Nat := 0x0401
/-- R207, CORE page: Grants made to aged requests (R179) -/
def CORE_AGED_GRANT : Nat := 0x0402
/-- R207, CORE page: Lines fetched into the feeder queues -/
def CORE_FEED_LINES : Nat := 0x0403
/-- R207, CORE page: Line reads by weight load ports and scale ports, after merging -/
def CORE_BLOAD_LINES : Nat := 0x0404
/-- R207, CORE page: Bytes read by the core DMA -/
def CORE_DMA_RD_BYTES : Nat := 0x0405
/-- R207, CORE page: Bytes written by the core DMA -/
def CORE_DMA_WR_BYTES : Nat := 0x0406
/-- R207, CORE page: Core DMA descriptors completed with OK -/
def CORE_DMA_DONE : Nat := 0x0407
/-- R207, CORE page: Corrected scratchpad errors -/
def CORE_SPAD_CE : Nat := 0x0408
/-- R210, CLU page: Bytes read by the cluster DMA -/
def CLU_CDMA_RD_BYTES : Nat := 0x0501
/-- R210, CLU page: Bytes written by the cluster DMA -/
def CLU_CDMA_WR_BYTES : Nat := 0x0502
/-- R210, CLU page: Cluster DMA descriptors completed with OK -/
def CLU_CDMA_DONE : Nat := 0x0503
/-- R210, CLU page: Element and scale bytes transposed (R198) -/
def CLU_TRANSPOSE_BYTES : Nat := 0x0504
/-- R210, CLU page: Bytes read from cluster memory by every path -/
def CLU_CLMEM_RD_BYTES : Nat := 0x0505
/-- R210, CLU page: Bytes written to cluster memory by every path -/
def CLU_CLMEM_WR_BYTES : Nat := 0x0506
/-- R210, CLU page: Corrected cluster-memory errors -/
def CLU_CLMEM_CE : Nat := 0x0507
/-- R210, CLU page: Cycles a mesh transfer from this cluster waits for a router link -/
def CLU_MESH_STALL : Nat := 0x0508
/-- R248, COL page: Verdicts of COMMIT -/
def COL_VERDICT_COMMIT : Nat := 0x0D01
/-- R248, COL page: Verdicts of SKIP -/
def COL_VERDICT_SKIP : Nat := 0x0D02
/-- R248, COL page: Verdicts of REPLAY -/
def COL_VERDICT_REPLAY : Nat := 0x0D03
/-- R248, COL page: Nanoseconds spent in SEALING -/
def COL_SEAL_NS : Nat := 0x0D04
/-- R248, COL page: Nanoseconds spent in VOTING, including HOLD -/
def COL_VOTE_NS : Nat := 0x0D05
/-- R248, COL page: Image bytes written by SNAPSHOT -/
def COL_SNAP_BYTES : Nat := 0x0D06
/-- R284, MEM page: Bytes read from the stack -/
def MEM_RD_BYTES : Nat := 0x0601
/-- R284, MEM page: Bytes written to the stack -/
def MEM_WR_BYTES : Nat := 0x0602
/-- R284, MEM page: Partial writes merged into an existing entry -/
def MEM_WCB_MERGE : Nat := 0x0603
/-- R284, MEM page: Drains by read-modify-write (R257) -/
def MEM_WCB_RMW : Nat := 0x0604
/-- R284, MEM page: Cycles partial writes waited (R258) -/
def MEM_WCB_STALL : Nat := 0x0605
/-- R284, MEM page: Transfers repeated (R260) -/
def MEM_PAR_RETRY : Nat := 0x0606
/-- R284, MEM page: Corrected lines -/
def MEM_ECC_CE : Nat := 0x0607
/-- R284, MEM page: Poisoned lines -/
def MEM_ECC_UE : Nat := 0x0608
/-- R284, MEM page: Lines scrubbed -/
def MEM_SCRUB_LINES : Nat := 0x0609
/-- R284, MEM page: Test preemptions (R276) -/
def MEM_TEST_PREEMPT : Nat := 0x060A
/-- R284, MEM page: Tests abandoned (R276) -/
def MEM_TEST_ABANDON : Nat := 0x060B
/-- R284, FAR page: Bytes read from the far tier -/
def FAR_FAR_RD_BYTES : Nat := 0x0801
/-- R284, FAR page: Bytes written to the far tier -/
def FAR_FAR_WR_BYTES : Nat := 0x0802
/-- R284, FAR page: Accesses failed under R267 -/
def FAR_FAR_FAIL : Nat := 0x0803
/-- R284, HIF page: FRAME_REQ writes ignored (R274) -/
def HIF_FRAME_REQ_BUSY : Nat := 0x0A01
/-- R321, LNK page: Data and control flits sent, resends excluded -/
def LNK_FLITS_TX : Nat := 0x0701
/-- R321, LNK page: Data and control flits accepted -/
def LNK_FLITS_RX : Nat := 0x0702
/-- R321, LNK page: Flits passed through (R315) -/
def LNK_PASS_FLITS : Nat := 0x0703
/-- R321, LNK page: Corrected symbols, all lanes -/
def LNK_FEC_CORR : Nat := 0x0704
/-- R321, LNK page: Flits discarded for CRC (R308) -/
def LNK_CRC_FAIL : Nat := 0x0705
/-- R321, LNK page: Flits resent (R309) -/
def LNK_REPLAY_FLITS : Nat := 0x0706
/-- R321, LNK page: REJECT events, including those not sent under the limit (R316) -/
def LNK_REJECT_SENT : Nat := 0x0707
/-- R321, LNK page: REJECT flits received -/
def LNK_REJECT_RCVD : Nat := 0x0708
/-- R321, LNK page: Cycles a VC1–VC3 flit waited for a credit -/
def LNK_CREDIT_STALL : Nat := 0x0709
/-- R321, LNK page: Cycles a telemetry flit waited for a token (R312) -/
def LNK_TELEM_HOLD : Nat := 0x070A
/-- R321, LNK page: Character frames with a bad CRC (R297) -/
def LNK_CHAR_BAD : Nat := 0x070B
/-- R321, LNK page: Failed trainings (R293) -/
def LNK_TRAIN_FAIL : Nat := 0x070C
/-- R321, LNK page: Transmit key rolls completed -/
def LNK_KEY_ROLL : Nat := 0x070D
/-- R321, LNK page: Margin scan yields (R318) -/
def LNK_SCAN_PREEMPT : Nat := 0x070E
/-- R321, LNK page: Margin scans abandoned (R318) -/
def LNK_SCAN_ABANDON : Nat := 0x070F
/-- R349, XPT page: Sequenced frames sent, resends excluded -/
def XPT_FRAMES_TX : Nat := 0x0901
/-- R349, XPT page: Frames resent (R335, R336) -/
def XPT_RESENDS : Nat := 0x0902
/-- R349, XPT page: NAKs received -/
def XPT_NAK_RCVD : Nat := 0x0903
/-- R349, XPT page: Context cache misses -/
def XPT_FLOW_MISS : Nat := 0x0904
/-- R349, XPT page: Frames discarded under R338 -/
def XPT_FLOW_STALE : Nat := 0x0905
/-- R349, RTE page: Frames discarded without a route -/
def RTE_NO_ROUTE : Nat := 0x0B01
/-- R349, RTE page: Frames discarded at 4,095 hops -/
def RTE_HOP_DROP : Nat := 0x0B02
/-- R349, RTE page: Routes taken from the patch overlay -/
def RTE_PATCH_HIT : Nat := 0x0B03
/-- R349, RTE page: Routes taken from the exception table -/
def RTE_EXC_HIT : Nat := 0x0B04
/-- R365, TOP page: Changes of the daymark digest (R355) -/
def TOP_DM_RECOMPUTE : Nat := 0x0E01
/-- R365, TOP page: Falls of ALL_AGREE (R359) -/
def TOP_AGREE_LOSS : Nat := 0x0E02
/-- R365, TOP page: Bank flips of every banked table of the module (R360) -/
def TOP_FLIPS : Nat := 0x0E03
/-- R365, TOP page: Writes ignored on a frozen shadow bank (R361) -/
def TOP_SHADOW_FROZEN : Nat := 0x0E04
/-- R365, TOP page: Flips armed late (R360) -/
def TOP_FLIP_LATE : Nat := 0x0E05
/-- R400, COL page: Operations completed with OK -/
def COL_COLL_DONE : Nat := 0x0D10
/-- R400, COL page: Data payload bytes sent, resends excluded -/
def COL_COLL_TX_BYTES : Nat := 0x0D11
/-- R400, COL page: Data payload bytes received -/
def COL_COLL_RX_BYTES : Nat := 0x0D12
/-- R400, COL page: Exponent-pass bytes sent (R384) -/
def COL_EXP_BYTES : Nat := 0x0D13
/-- R400, COL page: Elements clamped to LIM (R385) -/
def COL_BFX_CLAMP : Nat := 0x0D14
/-- R400, COL page: Non-finite blocks read out (R387) -/
def COL_NF_BLOCKS : Nat := 0x0D15
/-- R400, COL page: Nanoseconds launches waited for queue space (R373) -/
def COL_CQ_FULL_NS : Nat := 0x0D16
/-- R400, COL page: Nanoseconds operations waited for a dedicated core (R376) -/
def COL_CORE_WAIT_NS : Nat := 0x0D17
/-- R400, COL page: Verdict frames forwarded (R391) -/
def COL_VERDICT_FWD : Nat := 0x0D18
/-- R400, COL page: ABORT frames received (R395) -/
def COL_ABORT_RCVD : Nat := 0x0D19
/-- R438, HIF page: Descriptors fetched -/
def HIF_CMD_FETCHED : Nat := 0x0A02
/-- R438, HIF page: Commands completed with OK -/
def HIF_CMD_OK : Nat := 0x0A03
/-- R438, HIF page: Commands completed otherwise -/
def HIF_CMD_FAIL : Nat := 0x0A04
/-- R438, HIF page: Doorbells ignored (R413) -/
def HIF_DB_IGNORED : Nat := 0x0A05
/-- R438, HIF page: Records written, LOST records included -/
def HIF_EVT_WRITTEN : Nat := 0x0A06
/-- R438, HIF page: Records absorbed by merging (R429) -/
def HIF_EVT_MERGED : Nat := 0x0A07
/-- R438, HIF page: Records dropped for lack of space (R430) -/
def HIF_EVT_DROPPED : Nat := 0x0A08
/-- R438, HIF page: Records dropped by the rate limit (R428) -/
def HIF_EVT_LIMITED : Nat := 0x0A09
/-- R438, HIF page: MSI-X messages sent -/
def HIF_MSIX_SENT : Nat := 0x0A0A
/-- R438, HIF page: Bytes moved by DMA commands -/
def HIF_HOST_DMA_BYTES : Nat := 0x0A0B
/-- R438, HIF page: BAR4 accesses refused (R411) -/
def HIF_SIG_DENIED : Nat := 0x0A0C
/-- R473, PWR page: Milliseconds over the bound of R458 -/
def PWR_ENV_EXCEED : Nat := 0x0F01
/-- R473, PWR page: Setpoints raised to 150 W (R453) -/
def PWR_ENV_CLAMP : Nat := 0x0F02
/-- R473, PWR page: Core-cycles waiting for issue level (R454) -/
def PWR_THROTTLE_CYCLES : Nat := 0x0F03
/-- R473, PWR page: Core-microseconds of dummy fill (R455) -/
def PWR_PRERAMP_US : Nat := 0x0F04
/-- R473, PWR page: Microseconds with QUENCH_N asserted -/
def PWR_QUENCH_US : Nat := 0x0F05
/-- R473, PWR page: AVSBus retries -/
def PWR_AVS_RETRY : Nat := 0x0F06
/-- R473, PWR page: Records dropped from the flow (R451) -/
def PWR_TELEM_DROP : Nat := 0x0F07
/-- R473, PWR page: Trims due but held or not applied (R463) -/
def PWR_TRIM_DUE : Nat := 0x0F08
/-- R473, CLK page: Frequency changes completed -/
def CLK_FCHG_DONE : Nat := 0x1001
/-- R473, CLK page: Requests refused or cancelled -/
def CLK_FCHG_REFUSED : Nat := 0x1002
/-- R500, KPR page: RST_CTX resets -/
def KPR_RST_CTX_N : Nat := 0x1101
/-- R500, KPR page: RST_ENG resets -/
def KPR_RST_ENG_N : Nat := 0x1102
/-- R500, KPR page: RST_PART resets -/
def KPR_RST_PART_N : Nat := 0x1103
/-- R500, KPR page: RST_CHIP resets -/
def KPR_RST_CHIP_N : Nat := 0x1104
/-- R500, KPR page: Resets that missed their bound -/
def KPR_ESCALATIONS : Nat := 0x1105
/-- R500, KPR page: Dumps written -/
def KPR_DUMPS : Nat := 0x1106
/-- R500, KPR page: Dump bytes written -/
def KPR_DUMP_BYTES : Nat := 0x1107
/-- R500, KPR page: Causes not dumped -/
def KPR_DUMP_MISSED : Nat := 0x1108
/-- R500, KPR page: Watchdog expiries (R477) -/
def KPR_KEEPER_RESTARTS : Nat := 0x1109
/-- R500, KPR page: Self-tests rescheduled (R496) -/
def KPR_TEST_RESCHED : Nat := 0x110A
/-- R532, LOG page: Record copies committed -/
def LOG_REC_WRITTEN : Nat := 0x1201
/-- R532, LOG page: Journal bytes programmed, padding included -/
def LOG_BYTES_WRITTEN : Nat := 0x1202
/-- R532, LOG page: Sector erases -/
def LOG_ERASES : Nat := 0x1203
/-- R532, LOG page: Copies voided (R507) -/
def LOG_VOIDED : Nat := 0x1204
/-- R532, LOG page: Event records dropped (R508, R516) -/
def LOG_EVT_DROPPED : Nat := 0x1205
/-- R532, LOG page: INC_REC records written -/
def LOG_INC_KEPT : Nat := 0x1206
/-- R532, LOG page: Incident copies not kept (R519) -/
def LOG_INC_NOT_KEPT : Nat := 0x1207
/-- R532, LOG page: Records copied by reads (R528) -/
def LOG_READ_RECS : Nat := 0x1208
/-- R553, KSB page: Command frames executed -/
def KSB_FRAMES_OK : Nat := 0x1301
/-- R553, KSB page: R549 -/
def KSB_CRC_BAD : Nat := 0x1302
/-- R553, KSB page: R549, stalls included -/
def KSB_TORN : Nat := 0x1303
/-- R553, KSB page: R549, stalls included -/
def KSB_SHORT : Nat := 0x1304
/-- R553, KSB page: R549 -/
def KSB_LONG : Nat := 0x1305
/-- R553, KSB page: Status frames that cleared the counts -/
def KSB_STATUS_READS : Nat := 0x1306
/-- R553, KSB page: Frames refused with KSB_BUSY -/
def KSB_BUSY_REFUSED : Nat := 0x1307
/-- R553, FWU page: STAGE operations completed with OK -/
def FWU_STAGES_OK : Nat := 0x1401
/-- R553, FWU page: BOOT_ATTEMPT records committed -/
def FWU_BOOT_ATTEMPTS : Nat := 0x1402
/-- R553, FWU page: Boots of a slot other than the first choice -/
def FWU_FALLBACKS : Nat := 0x1403
/-- R570, DBG page: Trace entries written -/
def DBG_TRACE_WRITTEN : Nat := 0x1501
/-- R570, DBG page: Trace entries dropped (R559) -/
def DBG_TRACE_DROP : Nat := 0x1502
/-- R570, DBG page: Records written (R565) -/
def DBG_TW_DIGESTS : Nat := 0x1503
/-- R570, DBG page: Nanoseconds that watched commands were held (R564) -/
def DBG_TW_HOLD_NS : Nat := 0x1504
/-- R570, DBG page: Digests abandoned by reset (R564) -/
def DBG_TW_ABANDONED : Nat := 0x1505
/-- R570, DBG page: Bytes read by digests -/
def DBG_TW_BYTES : Nat := 0x1506
/-- R570, DBG page: PEEKs refused (R556) -/
def DBG_PEEK_DENIED : Nat := 0x1507

end Cn

namespace Er

/-- R129, CORE page, bit 8. R126 -/
def CORE_KAT_FAIL : Nat := 8
/-- R129, CORE page, bit 9. R122, corrected -/
def CORE_ACC_CE : Nat := 9
/-- R129, CORE page, bit 10. R122, entry poisoned -/
def CORE_ACC_UE : Nat := 10
/-- R129, CORE page, bit 11. R123, retried -/
def CORE_BBUF_PAR : Nat := 11
/-- R129, CORE page, bit 12. R123, outputs poisoned -/
def CORE_BBUF_FAIL : Nat := 12
/-- R129, CORE page, bit 13. An MMA ran with more than one fold pass, the first time after each change of LIVE -/
def CORE_FOLD : Nat := 13
/-- R172, CORE page, bit 0. An exception ended a kernel (R166). -/
def CORE_EXC : Nat := 0
/-- R172, CORE page, bit 1. A corrected error on instruction fetch. -/
def CORE_IFETCH_CE : Nat := 1
/-- R172, CORE page, bit 2. An uncorrectable error on instruction fetch (R167). -/
def CORE_IFETCH_UE : Nat := 2
/-- R172, CORE page, bit 3. A corrected error in the vector register file. -/
def CORE_VREG_CE : Nat := 3
/-- R172, CORE page, bit 4. An uncorrectable error in a vector register. The lane reads the canonical NaN, and the kernel continues. -/
def CORE_VREG_UE : Nat := 4
/-- R172, CORE page, bit 5. A save or restore completed with a status other than OK. -/
def CORE_CTX_FAIL : Nat := 5
/-- R206, CORE page, bit 16. A scratchpad error was corrected (R181). -/
def CORE_SPAD_CE : Nat := 16
/-- R206, CORE page, bit 17. A scratchpad line was poisoned (R181). -/
def CORE_SPAD_UE : Nat := 17
/-- R206, CORE page, bit 18. A feeder entry failed parity (R184). -/
def CORE_FEED_PAR : Nat := 18
/-- R206, CORE page, bit 19. A core DMA descriptor completed with a status other than OK (R196). -/
def CORE_DMA_FAIL : Nat := 19
/-- R206, CORE page, bit 20. Core DMA descriptors were aborted by reset (R199). -/
def CORE_DMA_ABORT : Nat := 20
/-- R209, CLU page, bit 0. A cluster-memory error was corrected. -/
def CLU_CLMEM_CE : Nat := 0
/-- R209, CLU page, bit 1. A cluster-memory line was poisoned. -/
def CLU_CLMEM_UE : Nat := 1
/-- R209, CLU page, bit 2. A cluster DMA descriptor completed with a status other than OK. -/
def CLU_CDMA_FAIL : Nat := 2
/-- R209, CLU page, bit 3. Cluster DMA descriptors were aborted by reset. -/
def CLU_CDMA_ABORT : Nat := 3
/-- R247, COL page, bit 24. The step machine entered FAULTED (R230, R235). -/
def COL_STEP_FAULT : Nat := 24
/-- R247, COL page, bit 25. A POLICY write was ignored (R246). -/
def COL_STEP_CFG : Nat := 25
/-- R247, COL page, bit 26. CONSEC reached SKIP_WARN (R236). -/
def COL_SKIP_RUN : Nat := 26
/-- R247, COL page, bit 27. A SNAPSHOT completed with a status other than OK. -/
def COL_SNAP_FAIL : Nat := 27
/-- R283, MEM page, bit 0. R259, corrected -/
def MEM_ECC_CE : Nat := 0
/-- R283, MEM page, bit 1. R259, line poisoned -/
def MEM_ECC_UE : Nat := 1
/-- R283, MEM page, bit 2. R260, step 2 -/
def MEM_PAR_RETRY : Nat := 2
/-- R283, MEM page, bit 3. R260, step 4 -/
def MEM_CH_RETRAIN : Nat := 3
/-- R283, MEM page, bit 4. R260, step 5 -/
def MEM_CH_DEGRADED : Nat := 4
/-- R283, MEM page, bit 5. R260, step 6 -/
def MEM_CH_FENCED : Nat := 5
/-- R283, MEM page, bit 6. R263 -/
def MEM_ROW_RETIRE : Nat := 6
/-- R283, MEM page, bit 7. R264, frame mapped -/
def MEM_FRAME_RETIRE : Nat := 7
/-- R283, MEM page, bit 8. R264 -/
def MEM_RETIRE_EXHAUSTED : Nat := 8
/-- R283, FAR page, bit 0. R267 -/
def FAR_FAR_POISON : Nat := 0
/-- R283, FAR page, bit 1. R267 -/
def FAR_FAR_TIMEOUT : Nat := 1
/-- R283, FAR page, bit 2. R267 -/
def FAR_FAR_LINK_DOWN : Nat := 2
/-- R283, FAR page, bit 3. An expander event record was read (R267). -/
def FAR_FAR_DEV_EVENT : Nat := 3
/-- R320, LNK page, bit 0. R310 -/
def LNK_LINK_DOWN : Nat := 0
/-- R320, LNK page, bit 1. R292, training failed -/
def LNK_TRAIN_FAIL : Nat := 1
/-- R320, LNK page, bit 2. R309, a resend took place -/
def LNK_REPLAY : Nat := 2
/-- R320, LNK page, bit 3. R309 -/
def LNK_REPLAY_EXHAUSTED : Nat := 3
/-- R320, LNK page, bit 4. R311 -/
def LNK_LANE_RETIRE : Nat := 4
/-- R320, LNK page, bit 5. R311 -/
def LNK_WIDTH_DEGRADE : Nat := 5
/-- R320, LNK page, bit 6. R313 -/
def LNK_CREDIT_STARVE : Nat := 6
/-- R320, LNK page, bit 7. A REJECT with a reason counting toward quarantine was sent (R316) -/
def LNK_HOSTILE : Nat := 7
/-- R320, LNK page, bit 8. R317 -/
def LNK_QUARANTINE : Nat := 8
/-- R320, LNK page, bit 9. R298 -/
def LNK_MISCABLED : Nat := 9
/-- R320, LNK page, bit 10. R301 -/
def LNK_AUTH_FAIL : Nat := 10
/-- R320, LNK page, bit 11. R290 -/
def LNK_LASER_AGEING : Nat := 11
/-- R320, LNK page, bit 12. R290 -/
def LNK_LASER_LOW : Nat := 12
/-- R320, LNK page, bit 13. R290 -/
def LNK_LASER_LOSS : Nat := 13
/-- R320, LNK page, bit 14. R305 -/
def LNK_REKEY_FAIL : Nat := 14
/-- R348, XPT page, bit 0. R336 -/
def XPT_FLOW_FAIL : Nat := 0
/-- R348, XPT page, bit 1. A NAK other than OUT_OF_ORDER was received -/
def XPT_FLOW_NAK : Nat := 1
/-- R348, XPT page, bit 2. R338 -/
def XPT_FLOW_RESET : Nat := 2
/-- R348, RTE page, bit 0. R323, R325 -/
def RTE_NO_ROUTE : Nat := 0
/-- R348, RTE page, bit 1. R328 -/
def RTE_HOP_DROP : Nat := 1
/-- R348, RTE page, bit 2. R327 -/
def RTE_EXC_DEFER : Nat := 2
/-- R348, RTE page, bit 3. R343 -/
def RTE_TIME_HOLDOVER : Nat := 3
/-- R348, RTE page, bit 4. R342 -/
def RTE_TIME_JUMP : Nat := 4
/-- R364, TOP page, bit 16. ALL_AGREE fell from 1 to 0 (R359). -/
def TOP_AGREE_LOST : Nat := 16
/-- R364, TOP page, bit 17. An epoch write was ignored (R356). -/
def TOP_EPOCH_STALE : Nat := 17
/-- R364, TOP page, bit 18. A flip was armed at a count already reached (R360). -/
def TOP_FLIP_LATE : Nat := 18
/-- R364, TOP page, bit 19. AGREE_STATUS.UNAPPROVED rose to 1 (R353). -/
def TOP_UNAPPROVED : Nat := 19
/-- R399, COL page, bit 0. An operation completed with a status other than OK. -/
def COL_COLL_FAIL : Nat := 0
/-- R399, COL page, bit 1. R395 -/
def COL_PEER_LOST : Nat := 1
/-- R399, COL page, bit 2. R381 -/
def COL_DAYMARK_REFUSE : Nat := 2
/-- R399, COL page, bit 3. A group-table flip was deferred (R360). -/
def COL_GRP_DEFER : Nat := 3
/-- R399, COL page, bit 4. R372 -/
def COL_GROUP_FLOWS : Nat := 4
/-- R399, COL page, bit 5. R386 -/
def COL_COLL_OVF : Nat := 5
/-- R437, HIF page, bit 0. R413, R427 -/
def HIF_DOORBELL_RANGE : Nat := 0
/-- R437, HIF page, bit 1. R414 -/
def HIF_FETCH_FAIL : Nat := 1
/-- R437, HIF page, bit 2. R422 -/
def HIF_HOST_DMA_FAIL : Nat := 2
/-- R437, HIF page, bit 3. A LOST record was written (R430) -/
def HIF_EVT_DROP : Nat := 3
/-- R437, HIF page, bit 4. R432 -/
def HIF_EVT_NOQUEUE : Nat := 4
/-- R437, HIF page, bit 5. R432 -/
def HIF_EVT_WRITE_FAIL : Nat := 5
/-- R437, HIF page, bit 6. R411 -/
def HIF_SIG_DENIED : Nat := 6
/-- R437, HIF page, bit 7. PF0 only: the link retrained, or trained below x16 at 64 GT/s (R402) -/
def HIF_PCIE_LINK : Nat := 7
/-- R472, PWR page, bit 0. R442 -/
def PWR_AVS_RETRY : Nat := 0
/-- R472, PWR page, bit 1. R442 -/
def PWR_AVS_FAIL : Nat := 1
/-- R472, PWR page, bit 2. R447 -/
def PWR_SEG_FAIL : Nat := 2
/-- R472, PWR page, bit 3. R447 -/
def PWR_SEG_CAP : Nat := 3
/-- R472, PWR page, bit 4. R448 -/
def PWR_SEG_FENCE : Nat := 4
/-- R472, PWR page, bit 5. R449 -/
def PWR_IC_DEGRADE : Nat := 5
/-- R472, PWR page, bit 6. R449 -/
def PWR_IC_DERATE : Nat := 6
/-- R472, PWR page, bit 7. R458 -/
def PWR_ENV_EXCEED : Nat := 7
/-- R472, PWR page, bit 8. R458 -/
def PWR_ENV_FLOOR : Nat := 8
/-- R472, PWR page, bit 9. R463, a trim was applied -/
def PWR_TRIM : Nat := 9
/-- R472, PWR page, bit 10. R463 -/
def PWR_TRIM_EXHAUSTED : Nat := 10
/-- R472, PWR page, bit 11. R465 -/
def PWR_THERM_THROTTLE : Nat := 11
/-- R472, PWR page, bit 12. R466 -/
def PWR_QUENCH : Nat := 12
/-- R472, PWR page, bit 13. R467 -/
def PWR_AIRFLOW_HALT : Nat := 13
/-- R472, PWR page, bit 14. R468, fatal -/
def PWR_THERMTRIP : Nat := 14
/-- R472, PWR page, bit 15. R442 -/
def PWR_TELEM_MISMATCH : Nat := 15
/-- R472, CLK page, bit 0. R460, R461 -/
def CLK_FCHG_ABORT : Nat := 0
/-- R472, CLK page, bit 1. R461 -/
def CLK_PLL_UNLOCK : Nat := 1
/-- R499, KPR page, bit 0. A reset missed its bound (R481). -/
def KPR_RESET_ESCALATE : Nat := 0
/-- R499, KPR page, bit 1. A unit was fenced by escalation (R481). -/
def KPR_UNIT_FENCED : Nat := 1
/-- R499, KPR page, bit 2. A dump ended with a status other than OK. -/
def KPR_DUMP_FAIL : Nat := 2
/-- R499, KPR page, bit 3. R477 -/
def KPR_KEEPER_RESTART : Nat := 3
/-- R499, KPR page, bit 4. R477, R482. Fatal. -/
def KPR_PWRCYC : Nat := 4
/-- R499, KPR page, bit 5. R496 -/
def KPR_TEST_STARVED : Nat := 5
/-- R531, LOG page, bit 0. Replay found a torn record (R511). -/
def LOG_LOG_TORN : Nat := 0
/-- R531, LOG page, bit 1. Replay rewrote a record or key-slot copy (R511, R525). -/
def LOG_LOG_REPAIR : Nat := 1
/-- R531, LOG page, bit 2. R517 -/
def LOG_SECTOR_RETIRE : Nat := 2
/-- R531, LOG page, bit 3. R509 -/
def LOG_DEV_FAIL : Nat := 3
/-- R531, LOG page, bit 4. R516 -/
def LOG_LOG_THROTTLE : Nat := 4
/-- R531, LOG page, bit 5. R517 -/
def LOG_LOG_WEAR : Nat := 5
/-- R531, LOG page, bit 6. R525 -/
def LOG_KEYRING_LOST : Nat := 6
/-- R531, LOG page, bit 7. R504, R524, R525 -/
def LOG_ROLLBACK : Nat := 7
/-- R531, LOG page, bit 8. R508 -/
def LOG_STATE_WAIT : Nat := 8
/-- R531, LOG page, bit 9. R527 -/
def LOG_RMAP_FULL : Nat := 9
/-- R531, LOG page, bit 10. A retirement map flip was deferred (R360, R527). The detail bits of its ERR_SOURCE record are 0, and the
deferred flip count stays in RMAP_FLIP_TBC. -/
def LOG_RMAP_DEFER : Nat := 10
/-- R552, FWU page, bit 0. An image was refused (R536). -/
def FWU_FW_REFUSED : Nat := 0
/-- R552, FWU page, bit 1. R541 -/
def FWU_SLOT_FAILED : Nat := 1
/-- R552, FWU page, bit 2. R541 -/
def FWU_FALLBACK : Nat := 2
/-- R552, FWU page, bit 3. R545 -/
def FWU_FOG_BOOT : Nat := 3
/-- R552, FWU page, bit 4. R540 -/
def FWU_CONFIRM_TIMEOUT : Nat := 4
/-- R552, KSB page, bit 0. R549 -/
def KSB_KSB_MALFORMED : Nat := 0
/-- R552, KSB page, bit 1. A STOP, RESET_CHIP or ENTER_FOG was executed. -/
def KSB_KSB_CONTROL : Nat := 1
/-- R569, DBG page, bit 0. Trace entries were dropped (R559). -/
def DBG_TRACE_DROP : Nat := 0
/-- R569, DBG page, bit 1. A trace write failed (R560). -/
def DBG_TRACE_FAIL : Nat := 1
/-- R569, DBG page, bit 2. A record write failed, or a record carries a STATUS other than OK (R562, R565). -/
def DBG_TW_FAIL : Nat := 2
/-- R581, KPR page, bit 6. An admission test fenced or degraded a unit (R576). -/
def KPR_ADMIT_FAIL : Nat := 6
/-- R581, KPR page, bit 7. A boot step exceeded its limit (R578). -/
def KPR_BOOT_STALL : Nat := 7
/-- R606, CHC page, bit 0. A single-bit L2 error was corrected. -/
def CHC_L2_CE : Nat := 0
/-- R606, CHC page, bit 1. An L2 error was uncorrectable. The reading hart takes a load access fault, and the line is invalidated. -/
def CHC_L2_UE : Nat := 1

end Er

/-- The reset value of ERR_SEVERITY on a page of block type `blk`, from the error source tables of the chapters. -/
def sevReset (blk : Nat) : Nat :=
  match blk with
  | 0x11 => 0x8
  | 0x12 => 0x2052
  | 0x13 => 0x2
  | 0x14 => 0xC8
  | 0x15 => 0xE
  | 0x20 => 0xA0
  | 0x22 => 0x4
  | 0x30 => 0x3101
  | 0x31 => 0x8
  | 0x32 => 0x1
  | 0x40 => 0x1000002
  | 0x50 => 0xA2
  | 0x59 => 0x2
  | _ => 0

/-- The error sources of a block type that its chapter names fatal (R17). -/
def fatalMask (blk : Nat) : Nat :=
  match blk with
  | 0x11 => 0x10
  | 0x12 => 0x4000
  | _ => 0

end Sys2Proof.Machine
end

