-- ==== Sys2Proof/Machine/Map.lean ====
section
/-!
DEFINITION. Finite maps as plain data: a list of key and value pairs in strictly rising key order.
An entry is listed only for a key that has been written; any other key reads as the default that the
reader passes. The order of the keys is the argument `lt`, so that one definition serves natural
numbers and pairs of them.
-/

namespace Sys2Proof.Machine

/-- A sparse store: key and value pairs, keys strictly rising. -/
abbrev Map (κ α : Type) := List (κ × α)

/-- Sparse store keyed by a number. -/
abbrev NMap (α : Type) := Map Nat α

/-- Sparse store keyed by a pair of numbers. -/
abbrev PMap (α : Type) := Map (Nat × Nat) α

/-- The value at `k`, or `d` when `k` is not listed. -/
def Map.get {κ α : Type} [DecidableEq κ] (d : α) : Map κ α → κ → α
  | [], _ => d
  | (k', v) :: m, k => if k' = k then v else Map.get d m k

/-- `m` with `v` at `k`, the keys kept in rising order of `lt`. -/
def Map.put {κ α : Type} [DecidableEq κ] (lt : κ → κ → Bool) (k : κ) (v : α) : Map κ α → Map κ α
  | [] => [(k, v)]
  | (k', v') :: m =>
    if k' = k then (k, v) :: m
    else if lt k k' then (k, v) :: (k', v') :: m
    else (k', v') :: Map.put lt k v m

/-- `m` without `k`. -/
def Map.del {κ α : Type} [DecidableEq κ] (k : κ) : Map κ α → Map κ α
  | [] => []
  | (k', v') :: m => if k' = k then m else (k', v') :: Map.del k m

/-- Order of number keys. -/
def natLt (a b : Nat) : Bool := decide (a < b)

/-- Order of pair keys: the first component decides, then the second. -/
def pairLt (a b : Nat × Nat) : Bool := decide (a.1 < b.1) || (decide (a.1 = b.1) && decide (a.2 < b.2))

/-- The value at number `k` of `m`, `d` when unlisted. -/
def NMap.get {α : Type} (d : α) (m : NMap α) (k : Nat) : α := Map.get d m k

/-- `m` with `v` at number `k`. -/
def NMap.put {α : Type} (k : Nat) (v : α) (m : NMap α) : NMap α := Map.put natLt k v m

/-- The value at the pair `k` of `m`, `d` when unlisted. -/
def PMap.get {α : Type} (d : α) (m : PMap α) (k : Nat × Nat) : α := Map.get d m k

/-- `m` with `v` at the pair `k`. -/
def PMap.put {α : Type} (k : Nat × Nat) (v : α) (m : PMap α) : PMap α := Map.put pairLt k v m

/-- The keys of `m` are strictly rising under `lt`: the canonical form of a store. -/
def Map.sorted {κ α : Type} (lt : κ → κ → Bool) : Map κ α → Bool
  | [] => true
  | [_] => true
  | (k, _) :: (k', v') :: m => lt k k' && Map.sorted lt ((k', v') :: m)

end Sys2Proof.Machine
end

