-- ==== Sys2Proof/Machine/Numbers.lean ====
section
/-!
DEFINITION. The number formats of 02_number_formats.md: decoding, shared scales, the one conversion of R81, FP32
arithmetic of the vector unit (R153), and the events that R87 counts. Every intermediate value is an exact rational.
-/

namespace Sys2Proof.Machine

/-- Number-handling and accumulator events, counted (R87, R130). -/
structure Tally where
  sat : Nat := 0
  nonfin : Nat := 0
  flush : Nat := 0
  clamp : Nat := 0
  ternBad : Nat := 0
  scaleNan : Nat := 0
  draw : Nat := 0
  bw : Nat := 0
  ra : Nat := 0
  ovf : Nat := 0
  nf : Nat := 0
  reanchor : Nat := 0
  deriving DecidableEq, Repr

/-- No event. -/
def Tally.zero : Tally := {}

/-- The events of both. -/
def Tally.add (a b : Tally) : Tally :=
  ⟨a.sat + b.sat, a.nonfin + b.nonfin, a.flush + b.flush, a.clamp + b.clamp, a.ternBad + b.ternBad,
   a.scaleNan + b.scaleNan, a.draw + b.draw, a.bw + b.bw, a.ra + b.ra, a.ovf + b.ovf, a.nf + b.nf,
   a.reanchor + b.reanchor⟩

/-- The events of converting an element: a non-finite one is counted once (R87). -/
def convTally (read conv : Tally) : Tally := { read.add conv with nonfin := min 1 (read.nonfin + conv.nonfin) }

/-- The exact value an element or register holds: finite with its sign (a zero has one, R61), infinite, or not a number. -/
inductive Val where
  | fin (neg : Bool) (x : Rat)
  | inf (neg : Bool)
  | nan
  deriving DecidableEq, Repr

/-- 2^e. -/
def p2 (e : Int) : Rat :=
  match e with
  | .ofNat n => ((2 ^ n : Nat) : Rat)
  | .negSucc n => mkRat 1 (2 ^ (n + 1))

/-- ⌊log2 x⌋ for x > 0. -/
def flog2 (x : Rat) : Int :=
  let e : Int := (Nat.log2 x.num.natAbs : Int) - (Nat.log2 x.den : Int)
  if p2 e ≤ x then e else e - 1

/-- ⌊x⌋ for x ≥ 0. -/
def floorNat (x : Rat) : Nat := x.num.natAbs / x.den

/-- |x|. -/
def absR (x : Rat) : Rat := if x < 0 then -x else x

/-- The nearest integer, ties to even. -/
def rne (x : Rat) : Int :=
  let m := floorNat (absR x)
  let f := absR x - (m : Rat)
  let half := mkRat 1 2
  let r : Nat := if f > half ∨ (f = half ∧ m % 2 = 1) then m + 1 else m
  if x < 0 then -(r : Int) else (r : Int)

/-- An element format (R56, R59, R62, R66): width in memory, width class, whether scales and arrays admit it, integer or
floating, long, exponent and mantissa bits, bias, λ of the integers (R65), SGN and OVF_INF. -/
structure Fmt where
  code : Nat
  width : Nat
  cls : Nat
  isInt : Bool
  long : Bool
  ebits : Nat
  mbits : Nat
  bias : Nat
  ibits : Nat
  lam : Int
  sgn : Bool
  ovfInf : Bool
  deriving DecidableEq, Repr

/-- The format that FMT, SGN and OVF_INF select (R56, R57); none for a reserved FMT. -/
def fmtOf (fmt : Nat) (sgn ovf : Bool) : Option Fmt :=
  let flt (w c e m b : Nat) (long : Bool) : Option Fmt := some ⟨fmt, w, c, false, long, e, m, b, 0, 0, true, ovf⟩
  let int (w c n : Nat) (l : Int) (s : Bool) : Option Fmt := some ⟨fmt, w, c, true, false, 0, 0, 0, n, l, s, ovf⟩
  match fmt with
  | 0x01 => flt 4 4 2 1 1 false
  | 0x02 => int 4 4 4 0 sgn
  | 0x03 => int 4 4 3 0 sgn
  | 0x04 => int 2 2 2 0 sgn
  | 0x05 => int 2 2 2 0 true
  | 0x08 => flt 6 8 2 3 1 false
  | 0x09 => flt 6 8 3 2 3 false
  | 0x0A => flt 8 8 4 3 7 false
  | 0x0B => flt 8 8 5 2 15 false
  | 0x0C => int 8 8 8 0 sgn
  | 0x0D => int 8 8 8 (-6) true
  | 0x10 => flt 16 16 8 7 127 true
  | 0x11 => flt 16 16 5 10 15 true
  | 0x12 => flt 32 32 8 23 127 true
  | 0x13 => int 32 32 32 0 true
  | _ => none

/-- FP32, the format of the vector unit (R153). -/
def fp32 : Fmt := ⟨0x12, 32, 32, false, true, 8, 23, 127, 0, 0, true, false⟩

/-- BF16. -/
def bf16 : Fmt := ⟨0x10, 16, 16, false, true, 8, 7, 127, 0, 0, true, false⟩

/-- FP16. -/
def fp16 : Fmt := ⟨0x11, 16, 16, false, true, 5, 10, 15, 0, 0, true, false⟩

/-- INT32. -/
def int32 : Fmt := ⟨0x13, 32, 32, true, false, 0, 0, 0, 32, 0, true, false⟩

/-- FP8 (E4M3), whose magnitudes the UE4M3 scale has (R69). -/
def e4m3 : Fmt := ⟨0x0A, 8, 8, false, false, 4, 3, 7, 0, 0, true, false⟩

/-- Whether the format has infinities (R59, R66). -/
def Fmt.hasInf (f : Fmt) : Bool := f.long || f.code == 0x0B

/-- Whether the format has a NaN. -/
def Fmt.hasNan (f : Fmt) : Bool := f.long || f.code == 0x0A || f.code == 0x0B

/-- Exponent of the smallest normal. -/
def Fmt.emin (f : Fmt) : Int := 1 - (f.bias : Int)

/-- The largest finite value (R59, R62, R66). -/
def Fmt.max (f : Fmt) : Rat :=
  if f.code = 0x05 then 1
  else if f.isInt then
    (((2 ^ (if f.sgn then f.ibits - 1 else f.ibits) - 1 : Nat) : Rat)) * p2 f.lam
  else
    let top : Nat := 2 ^ (f.mbits + 1) - (if f.code = 0x0A then 2 else 1)
    let e : Int := (2 ^ f.ebits : Int) - 1 - (if f.long ∨ f.code = 0x0B then 1 else 0) - f.bias
    (top : Rat) * p2 (e - f.mbits)

/-- fmt.min of R81. -/
def Fmt.min (f : Fmt) : Rat :=
  if f.code = 0x05 then -1
  else if f.isInt then
    if f.sgn then -(((2 ^ (f.ibits - 1) : Nat) : Rat) * p2 f.lam) else 0
  else -f.max

/-- The canonical NaN of a format that has one (R61). -/
def Fmt.canonicalNan (f : Fmt) : Nat :=
  match f.code with
  | 0x0A => 0x7F
  | 0x0B => 0x7E
  | 0x10 => 0x7FC0
  | 0x11 => 0x7E00
  | 0x12 => 0x7FC00000
  | _ => 0

/-- The code of a value that the format holds exactly; `neg` is the sign a zero of a floating format takes (R61). -/
def Fmt.encode (f : Fmt) (neg : Bool) (v : Rat) : Nat :=
  if f.isInt then wrap f.width (v / p2 f.lam).num
  else
    let s := b2n (if v = 0 then neg else decide (v < 0)) * 2 ^ (f.ebits + f.mbits)
    let a := absR v
    if a = 0 then s
    else if a < p2 f.emin then s + floorNat (a / p2 (f.emin - f.mbits))
    else
      let e := flog2 a
      s + (e + f.bias).toNat * 2 ^ f.mbits + (floorNat (a / p2 (e - f.mbits)) - 2 ^ f.mbits)

/-- The infinity of a sign. -/
def Fmt.encodeInf (f : Fmt) (neg : Bool) : Nat :=
  (b2n neg * 2 ^ f.ebits + (2 ^ f.ebits - 1)) * 2 ^ f.mbits

/-- The value of a stored code, with the events of reading it. `flush` is set where the vector unit, the scale unit or an
array reads the element (R66); the 0b10 code of TERN reads as 0 and is counted (R64). -/
def Fmt.decode (f : Fmt) (flush : Bool) (c : Nat) : Val × Tally :=
  if f.code = 0x05 then
    match c % 4 with
    | 0 => (.fin false 0, {})
    | 1 => (.fin false 1, {})
    | 2 => (.fin false 0, { ternBad := 1 })
    | _ => (.fin true (-1), {})
  else if f.isInt then
    let k : Int := if f.sgn then sext f.ibits c else ((c % 2 ^ f.ibits : Nat) : Int)
    (.fin (decide (k < 0)) ((k : Rat) * p2 f.lam), {})
  else
    let m := c % 2 ^ f.mbits
    let e := c / 2 ^ f.mbits % 2 ^ f.ebits
    let neg := bit c (f.ebits + f.mbits)
    let top := 2 ^ f.ebits - 1
    if f.code = 0x0A ∧ e = top ∧ m = 7 then (.nan, {})
    else if (f.long = true ∨ f.code = 0x0B) ∧ e = top then
      (if m = 0 then .inf neg else .nan, {})
    else
      let mag : Rat := if e = 0 then (m : Rat) * p2 (f.emin - f.mbits)
        else ((2 ^ f.mbits + m : Nat) : Rat) * p2 ((e : Int) - f.bias - f.mbits)
      if f.long ∧ flush ∧ e = 0 ∧ m ≠ 0 then (.fin neg 0, { flush := 1 })
      else (.fin neg (if neg then -mag else mag), {})

/-- The nearer of fmt.min and fmt.max to v. -/
def Fmt.clip (f : Fmt) (neg : Bool) : Rat := if neg then f.min else f.max

/-- R81: convert an exact value to a format, rounding once. `r` is none in RNE mode and the 16 drawn bits in SR mode. -/
def Fmt.convert (f : Fmt) (v : Val) (r : Option Nat) : Nat × Tally :=
  let t0 : Tally := { draw := b2n r.isSome }
  match v with
  | .nan => (if f.hasNan then f.canonicalNan else f.encode false 0, t0.add { nonfin := 1 })
  | .inf neg => (if f.hasInf then f.encodeInf neg else f.encode neg (f.clip neg), t0.add { nonfin := 1 })
  | .fin neg x =>
    let a := absR x
    let ulp : Rat :=
      if f.isInt then p2 f.lam
      else p2 ((if a ≥ p2 f.emin then flog2 a else f.emin) - f.mbits)
    let t := floorNat (a / ulp)
    let fr := a / ulp - (t : Rat)
    let half := mkRat 1 2
    let up : Bool := match r with
      | none => decide (fr > half ∨ (fr = half ∧ t % 2 = 1))
      | some d => decide (floorNat (fr * 65536) + d % 65536 ≥ 65536)
    let m : Rat := ((t + b2n up : Nat) : Rat) * ulp
    let y := if x < 0 then -m else m
    if y > f.max ∨ y < f.min then
      (if f.hasInf ∧ (f.long ∨ f.ovfInf) then f.encodeInf neg else f.encode neg (f.clip neg), t0.add { sat := 1 })
    else if f.long ∧ y ≠ 0 ∧ absR y < p2 f.emin then (f.encode neg 0, t0.add { flush := 1 })
    else (f.encode neg y, t0)

/-! ### Shared scales (R68–R71, R76, R77) -/

/-- The value of a scale byte: SCALE_FMT 1 E8M0, 2 UE4M3; none for the NaN scale. -/
def scaleVal (sfmt byte : Nat) : Option Rat :=
  if sfmt = 1 then
    if byte % 256 = 255 then none else some (p2 ((byte % 256 : Nat) - 127 : Int))
  else
    let b := byte % 128
    if b = 127 then none
    else
      let e := b / 8
      let m := b % 8
      some (if e = 0 then (m : Rat) * p2 (-9) else ((8 + m : Nat) : Rat) * p2 ((e : Int) - 10))

/-- An element's value under its block's scale (R70, R71): NaN under a NaN scale, zero under a zero scale. -/
def Val.scaled (v : Val) (s : Option Rat) : Val :=
  match s with
  | none => .nan
  | some s =>
    if s = 0 then .fin false 0
    else match v with
      | .fin n x => .fin n (x * s)
      | w => w

/-- MAXV of R76. -/
def Fmt.maxv (f : Fmt) : Rat := f.max

/-- EMAX = ⌊log2 MAXV⌋ of R76. -/
def Fmt.emax (f : Fmt) : Int := flog2 f.maxv

/-- The smallest value of the UE4M3 grid (R69) at or above q, for 0 < q ≤ 448. -/
def ue4m3Up (q : Rat) : Rat :=
  let e : Int := if q ≥ p2 (-6) then flog2 q else -6
  let ulp := p2 (e - 3)
  let t := floorNat (q / ulp)
  if (t : Rat) * ulp = q then q else ((t + 1 : Nat) : Rat) * ulp

/-- R77: the scale code for an amax (none: +∞, from a history), and whether it was clamped. `safe` is SCALE_RULE = 1. -/
def deriveScale (amax : Option Rat) (f : Fmt) (sfmt : Nat) (safe : Bool) : Nat × Bool :=
  match amax with
  | none => (if sfmt = 1 then 0xFE else 0x7E, true)
  | some a =>
    if a = 0 then (if sfmt = 1 then 0x7F else 0x38, false)
    else if sfmt = 1 then
      let x : Int :=
        if safe then
          let q := a / f.maxv
          let l := flog2 q
          if p2 l = q then l else l + 1
        else flog2 a - f.emax
      if x > 127 then (254, true) else if x < -127 then (0, true) else ((x + 127).toNat, false)
    else
      let q := a / f.maxv
      if q > 448 then (0x7E, true)
      else
        let c := if safe then e4m3.encode false (ue4m3Up q) else (e4m3.convert (.fin false q) none).1
        if c % 128 = 0 then (1, true) else (c % 128, false)

/-! ### FP32 arithmetic of the vector unit (R153, R154) -/

/-- The sign of a value, false for NaN. -/
def Val.neg : Val → Bool
  | .fin n _ => n
  | .inf n => n
  | .nan => false

/-- Round an exact result once to FP32 (R153): NaN canonical, infinities as they are, an overflow counted under SAT, a
subnormal result flushed. -/
def toFp32 (v : Val) : Nat × Tally :=
  match v with
  | .nan => (0x7FC00000, {})
  | .inf n => (fp32.encodeInf n, {})
  | .fin n x => fp32.convert (.fin n x) none

/-- An FP32 operand as the vector unit reads it, subnormals flushed (R66). -/
def rdFp32 (c : Nat) : Val × Tally := fp32.decode true c

/-- Exact sum under IEEE 754 rules for signs, infinities and NaN. -/
def Val.add (a b : Val) : Val :=
  match a, b with
  | .nan, _ => .nan
  | _, .nan => .nan
  | .inf m, .inf n => if m = n then .inf m else .nan
  | .inf m, _ => .inf m
  | _, .inf n => .inf n
  | .fin m x, .fin n y =>
    let z := x + y
    .fin (if z = 0 then m && n else decide (z < 0)) z

/-- The value with its sign changed. -/
def Val.negate : Val → Val
  | .fin n x => .fin (!n) (-x)
  | .inf n => .inf (!n)
  | .nan => .nan

/-- Exact product. -/
def Val.mul (a b : Val) : Val :=
  match a, b with
  | .nan, _ => .nan
  | _, .nan => .nan
  | .inf m, .inf n => .inf (m != n)
  | .inf m, .fin n y => if y = 0 then .nan else .inf (m != n)
  | .fin m x, .inf n => if x = 0 then .nan else .inf (m != n)
  | .fin m x, .fin n y => .fin (m != n) (x * y)

/-- Exact quotient. -/
def Val.div (a b : Val) : Val :=
  match a, b with
  | .nan, _ => .nan
  | _, .nan => .nan
  | .inf _, .inf _ => .nan
  | .inf m, .fin n _ => .inf (m != n)
  | .fin m _, .inf n => .fin (m != n) 0
  | .fin m x, .fin n y =>
    if y = 0 then (if x = 0 then .nan else .inf (m != n)) else .fin (m != n) (x / y)

/-- ⌊√n⌋, `fuel` bits from the top. -/
def isqrtAux : Nat → Nat → Nat → Nat
  | 0, _, r => r
  | k + 1, n, r => if (r + 2 ^ k) * (r + 2 ^ k) ≤ n then isqrtAux k n (r + 2 ^ k) else isqrtAux k n r

/-- ⌊√n⌋. -/
def isqrt (n : Nat) : Nat := isqrtAux (Nat.log2 n / 2 + 1) n 0

/-- A rational that rounds to FP32 (or to any format of at most 40 significant bits) as √x does, for x > 0: √x itself
where it has at most 45 binary places of its leading digit, else the midpoint of the two neighbours on a finer grid. -/
def sqrtR (x : Rat) : Rat :=
  let s : Int := 48 - flog2 x / 2
  let y := x * p2 (2 * s)
  let r := isqrt (floorNat y)
  if ((r * r : Nat) : Rat) = y then (r : Rat) * p2 (-s)
  else ((2 * r + 1 : Nat) : Rat) * p2 (-s - 1)

/-- √a under R153 (IEEE 754: the root of −0 is −0, of a negative value NaN). -/
def Val.sqrt : Val → Val
  | .nan => .nan
  | .inf n => if n then .nan else .inf false
  | .fin n x => if x = 0 then .fin n 0 else if n then .nan else .fin false (sqrtR x)

/-- 1/√a under R153: +∞ at +0, −∞ at −0, NaN for a negative value. -/
def Val.rsqrt : Val → Val
  | .nan => .nan
  | .inf n => if n then .nan else .fin false 0
  | .fin n x => if x = 0 then .inf n else if n then .nan else .fin false (sqrtR (1 / x))

/-- a < b as VMAX, VMIN and the comparisons order them; zeros of both signs are equal here (R61). -/
def Val.lt (a b : Val) : Bool :=
  match a, b with
  | .fin _ x, .fin _ y => decide (x < y)
  | .inf m, .inf n => m && !n
  | .inf m, .fin _ _ => m
  | .fin _ _, .inf n => !n
  | _, _ => false

/-- a = b as the comparisons see it; false for a NaN. -/
def Val.eqv (a b : Val) : Bool :=
  match a, b with
  | .fin _ x, .fin _ y => decide (x = y)
  | .inf m, .inf n => m == n
  | _, _ => false

/-- The larger under R153: NaN when either is, −0 below +0. -/
def Val.maxv (a b : Val) : Val :=
  match a, b with
  | .nan, _ => .nan
  | _, .nan => .nan
  | a, b => if a.lt b then b else if b.lt a then a else if a.neg then b else a

/-- The smaller under R153. -/
def Val.minv (a b : Val) : Val :=
  match a, b with
  | .nan, _ => .nan
  | _, .nan => .nan
  | a, b => if a.lt b then a else if b.lt a then b else if a.neg then a else b

/-! ### The exact window accumulator (R99–R109) -/

/-- The non-finite state of an entry (R99). -/
inductive NF where
  | fin | pinf | ninf | nan
  deriving DecidableEq, Repr

/-- An EWA entry (R99). -/
structure Ewa where
  w : Int
  anchor : Nat
  anch : Bool
  nf : NF
  loss : Bool
  deriving DecidableEq, Repr

/-- A cleared entry (R101). -/
def Ewa.clear : Ewa := ⟨0, 0, false, .fin, false⟩

/-- The value of an entry (R99, R108): +0 when not anchored or when W is 0. -/
def Ewa.val (e : Ewa) : Val :=
  match e.nf with
  | .nan => .nan
  | .pinf => .inf false
  | .ninf => .inf true
  | .fin =>
    if e.anch = false ∨ e.w = 0 then .fin false 0
    else .fin (decide (e.w < 0)) ((e.w : Rat) * p2 ((e.anchor : Int) - 320))

/-- R103. -/
def nfCombine (n : NF) (v : Val) : NF :=
  match v, n with
  | .fin _ _, n => n
  | .nan, _ => .nan
  | .inf false, .fin => .pinf
  | .inf false, .pinf => .pinf
  | .inf false, _ => .nan
  | .inf true, .fin => .ninf
  | .inf true, .ninf => .ninf
  | .inf true, _ => .nan

/-- R102, overflow(E, s). -/
def Ewa.overflow (e : Ewa) (neg : Bool) : Ewa × Tally :=
  ({ e with nf := if neg then .ninf else .pinf }, { ovf := 1, nf := 1 })

/-- The smallest d ≥ 1 with |w| < 2^(62 + d), for |w| ≥ 2^62. -/
def raise (w : Rat) : Nat := (flog2 (absR w) - 61).toNat

/-- R102: add a contribution to an entry. -/
def Ewa.addVal (e : Ewa) (v : Val) : Ewa × Tally :=
  match e.nf, v with
  | .fin, .fin _ x =>
    if x = 0 then (e, {})
    else
      let q0 : Int := if e.anch then (e.anchor : Int) - 320 else max (-320) (flog2 (absR x) - 61)
      if q0 > 191 then e.overflow (decide (x < 0))
      else
        let e0 : Ewa := if e.anch then e else { e with anch := true, anchor := (q0 + 320).toNat, w := 0 }
        let w : Rat := (e0.w : Rat) + x / p2 q0
        let neg := decide (w < 0)
        if absR w ≥ p2 62 then
          let d := raise w
          if q0 + d > 191 then e0.overflow neg
          else
            let r := rne (w / p2 d)
            let lossy := decide ((r : Rat) ≠ w / p2 d)
            let t : Tally := { reanchor := 1, ra := b2n lossy }
            let e1 := { e0 with loss := e0.loss || lossy }
            if r.natAbs = 2 ^ 62 then
              if q0 + d + 1 > 191 then
                let (e2, t2) := e1.overflow neg
                (e2, t.add t2)
              else ({ e1 with w := r / 2, anchor := (q0 + d + 1 + 320).toNat }, t)
            else ({ e1 with w := r, anchor := (q0 + d + 320).toNat }, t)
        else
          let r := rne w
          let lossy := decide ((r : Rat) ≠ w)
          let t : Tally := { bw := b2n lossy }
          let e1 := { e0 with loss := e0.loss || lossy }
          if r.natAbs = 2 ^ 62 then
            let t := t.add { reanchor := 1 }
            if q0 + 1 > 191 then
              let (e2, t2) := e1.overflow neg
              (e2, t.add t2)
            else ({ e1 with w := r / 2, anchor := (q0 + 1 + 320).toNat }, t)
          else ({ e1 with w := r }, t)
  | n, v =>
    let n' := nfCombine n v
    ({ e with nf := n' }, { nf := b2n (n == .fin && n' != .fin) })

/-- R109: merge entry `f` into entry `e`. -/
def Ewa.merge (e f : Ewa) : Ewa × Tally :=
  let (e', t) := e.addVal f.val
  ({ e' with loss := e'.loss || f.loss }, t)

/-- R100: the 128-bit image of an entry. -/
def Ewa.image (e : Ewa) : Nat :=
  let nf := match e.nf with
    | .fin => 0
    | .pinf => 1
    | .ninf => 2
    | .nan => 3
  wrap 72 e.w + e.anchor % 512 * 2 ^ 72 + nf * 2 ^ 81 + b2n e.anch * 2 ^ 83 + b2n e.loss * 2 ^ 84

/-- The entry of a 128-bit image (R100). -/
def Ewa.ofImage (n : Nat) : Ewa :=
  ⟨sext 72 n, bits n 80 72, bit n 83,
   match bits n 82 81 with
   | 0 => .fin
   | 1 => .pinf
   | 2 => .ninf
   | _ => .nan,
   bit n 84⟩

/-- R158: one draw: the advanced state and the whitened output. -/
def rngDraw (s tap : Nat) : Nat × Nat :=
  let n := s / 2
  let n := if s % 2 = 1 then n ^^^ tap else n
  let y := n ^^^ (n / 2 ^ 23)
  let y := y ^^^ (y * 2 ^ 17 % 2 ^ 64)
  (n, y ^^^ (y / 2 ^ 31))

end Sys2Proof.Machine
end

