-- ==== Sys2Proof/Machine/Regs.lean ====
section
/-!
DEFINITION. The registers of the module, field by field, from the register tables of the spec: for each
field its block (R604), its place on the block's 4 KiB page, its width, its access code (R9) and the value its
Reset column gives. Where that column says "per module", "per core", "from log" and the like, the value
listed here is 0 and `Machine/Ops.lean` (`regReset`) or the boot sequence gives the real one.
-/

namespace Sys2Proof.Machine

/-- The access codes of R9. -/
inductive Acc where
  | ro | rw | rw1c | wo | rws | rwl
  deriving DecidableEq, Repr

/-- One register field: its block type code (R604; 0 stands for the common header of every page, R12), the
bit of the block's page where it starts (8 × offset + low bit), its width, its access code and its reset value. -/
structure Fld where
  blk : Nat
  pos : Nat
  width : Nat
  acc : Acc
  rst : Nat
  deriving DecidableEq, Repr

/-- The number that names a field in the register store. -/
def Fld.id (f : Fld) : Nat := f.blk * 32768 + f.pos

namespace R

/-- HDR.ID.BLOCK_TYPE (0x000), R12, RO. Block type code. Reset: per block. -/
def HDR_ID_BLOCK_TYPE : Fld := ⟨0x00, 16, 16, .ro, 0⟩
/-- HDR.ID.INSTANCE (0x000), R12, RO. Instance number within the block type. Reset: per instance. -/
def HDR_ID_INSTANCE : Fld := ⟨0x00, 8, 8, .ro, 0⟩
/-- HDR.ID.VERSION (0x000), R12, RO. Revision of the block's register interface. Reset: per block. -/
def HDR_ID_VERSION : Fld := ⟨0x00, 0, 8, .ro, 0⟩
/-- HDR.CAP0.CAP (0x004), R12, RO. Capabilities of the instance. Layout defined by the block's chapter. A fenced or retired unit reads as absent here. Reset: per block. -/
def HDR_CAP0_CAP : Fld := ⟨0x00, 32, 32, .ro, 0⟩
/-- HDR.CAP1.CAP (0x008), R12, RO. Capabilities of the instance. Layout defined by the block's chapter. A fenced or retired unit reads as absent here. Reset: per block. -/
def HDR_CAP1_CAP : Fld := ⟨0x00, 64, 32, .ro, 0⟩
/-- HDR.CTRL.RESET_REQ (0x010), R12, RW. Write 1 to request the reset level the block's chapter assigns to this page. Reads 1 until that reset completes, then 0. Writing 0 has no effect. -/
def HDR_CTRL_RESET_REQ : Fld := ⟨0x00, 131, 1, .rw, 0⟩
/-- HDR.CTRL.SELFTEST_ALLOW (0x010), R12, RW. 1 permits in-service self-tests on this instance, in yield mode only. -/
def HDR_CTRL_SELFTEST_ALLOW : Fld := ⟨0x00, 130, 1, .rw, 0⟩
/-- HDR.CTRL.QUIESCE (0x010), R12, RW. 1 requests that the instance stop accepting new work and drain work in progress. -/
def HDR_CTRL_QUIESCE : Fld := ⟨0x00, 129, 1, .rw, 0⟩
/-- HDR.CTRL.ENABLE (0x010), R12, RW. 1 lets the instance accept work. -/
def HDR_CTRL_ENABLE : Fld := ⟨0x00, 128, 1, .rw, 0⟩
/-- HDR.STATUS.DEGRADED (0x014), R14, RO. The instance runs with reduced capacity, such as retired rows, lanes or segments. Details are on the block's page. -/
def HDR_STATUS_DEGRADED : Fld := ⟨0x00, 164, 1, .ro, 0⟩
/-- HDR.STATUS.FENCED (0x014), R14, RO. The instance is isolated by a reset escalation or by the Keeper. It accepts no work. -/
def HDR_STATUS_FENCED : Fld := ⟨0x00, 163, 1, .ro, 0⟩
/-- HDR.STATUS.SELFTEST_ACTIVE (0x014), R14, RO. An in-service self-test is running. -/
def HDR_STATUS_SELFTEST_ACTIVE : Fld := ⟨0x00, 162, 1, .ro, 0⟩
/-- HDR.STATUS.QUIESCED (0x014), R14, RO. No work is in progress and none is accepted. Meaningful only while QUIESCE or a reset is pending. -/
def HDR_STATUS_QUIESCED : Fld := ⟨0x00, 161, 1, .ro, 0⟩
/-- HDR.STATUS.READY (0x014), R14, RO. The instance is initialised and can accept work when enabled. -/
def HDR_STATUS_READY : Fld := ⟨0x00, 160, 1, .ro, 0⟩
/-- HDR.ERR_STATUS.ERR (0x020), R15, RW1C. 1 records that source n has occurred since last cleared. -/
def HDR_ERR_STATUS_ERR : Fld := ⟨0x00, 256, 32, .rw1c, 0⟩
/-- HDR.ERR_MASK.MASK (0x024), R15, RW. 1 suppresses the event record for source n. ERR_STATUS still records it. The mask suppresses only the record: a source whose ERR_SEVERITY bit is 1 … -/
def HDR_ERR_MASK_MASK : Fld := ⟨0x00, 288, 32, .rw, 0⟩
/-- HDR.ERR_SEVERITY.SEV (0x028), R15, RW. 0 reports source n at class C2. 1 reports it at class C1 and starts the recovery action named by the block's chapter. Reset: per block. -/
def HDR_ERR_SEVERITY_SEV : Fld := ⟨0x00, 320, 32, .rw, 0⟩
/-- HDR.ERR_INJECT.INJ (0x02C), R15, WO. Writing 1 to bit n makes the instance behave once as if source n had occurred. The event record's payload marks it as injected. -/
def HDR_ERR_INJECT_INJ : Fld := ⟨0x00, 352, 32, .wo, 0⟩
/-- HDR.EVT_ENABLE.CLASS_EN (0x030), R17, RW. Bit 1 enables class C1, bit 2 C2, bit 3 C3, bit 4 C4. -/
def HDR_EVT_ENABLE_CLASS_EN : Fld := ⟨0x00, 385, 4, .rw, 7⟩
/-- HDR.EVT_ENABLE.C0_EN (0x030), R17, RO. Class C0 events cannot be disabled. -/
def HDR_EVT_ENABLE_C0_EN : Fld := ⟨0x00, 384, 1, .ro, 1⟩
/-- HDR.EVT_QUEUE.QUEUE (0x034), R17, RW. Event queue that receives this instance's events: a local index of the owning function, or, on a page that PF0 owns, a module event queue number … Reset: per function. -/
def HDR_EVT_QUEUE_QUEUE : Fld := ⟨0x00, 416, 10, .rw, 0⟩
/-- HDR.CNT_SEL.CLEAR (0x040, 4 of them), R19, WO. Write 1 to set CNTn to 0. -/
def HDR_CNT_SEL_CLEAR (m : Nat) : Fld := ⟨0x00, 543 + 32 * m, 1, .wo, 0⟩
/-- HDR.CNT_SEL.FREEZE (0x040, 4 of them), R19, RW. 1 stops CNTn counting. -/
def HDR_CNT_SEL_FREEZE (m : Nat) : Fld := ⟨0x00, 542 + 32 * m, 1, .rw, 0⟩
/-- HDR.CNT_SEL.EVENT (0x040, 4 of them), R19, RW. Block-specific event code counted by CNTn. Code 0x0000 counts nothing. -/
def HDR_CNT_SEL_EVENT (m : Nat) : Fld := ⟨0x00, 512 + 32 * m, 16, .rw, 0⟩
/-- HDR.CNT.COUNT (0x060, 4 of them), R19, RO. Count of the selected event, modulo 2^64. -/
def HDR_CNT_COUNT (m : Nat) : Fld := ⟨0x00, 768 + 64 * m, 64, .ro, 0⟩
/-- HDR.CFG_DIGEST.DIGEST (0x080), R22, RO. The page's contribution to the daymark. Computed under R609 over the page's configuration-class fields and, on a COL page, the active bank of its … Reset: per block. -/
def HDR_CFG_DIGEST_DIGEST : Fld := ⟨0x00, 1024, 64, .ro, 0⟩
/-- TOP.PART.PART_CODE (0x100), R53, RO. Part code matched against the firmware compatibility mask. -/
def TOP_PART_PART_CODE : Fld := ⟨0x10, 2064, 16, .ro, 21556⟩
/-- TOP.PART.SUFFIX (0x100), R53, RO. 0x41 for TSL4-288-16A, 0x42 for TSL4-288-16B, taken from the manufacturing record (R4, R5). Reset: per module. -/
def TOP_PART_SUFFIX : Fld := ⟨0x10, 2056, 8, .ro, 0⟩
/-- TOP.PART.DIE_STEP (0x100), R53, RO. Stepping of the compute and base die pair. Reset: per module. -/
def TOP_PART_DIE_STEP : Fld := ⟨0x10, 2048, 8, .ro, 0⟩
/-- TOP.CLU_PRESENT.PRESENT (0x108), R53, RO. Bit n is 1 when cluster Cn is in service. 0 when the cluster is fenced, for example after regulator segment failures. Reset: per module. -/
def TOP_CLU_PRESENT_PRESENT : Fld := ⟨0x10, 2112, 64, .ro, 0⟩
/-- TOP.QUAD_PRESENT.PRESENT (0x110, 8 of them), R53, RO. In QUAD_PRESENTm, bit j is 1 when quad Q(32m + j) can be assigned to a partition. Reset: per module. -/
def TOP_QUAD_PRESENT_PRESENT (m : Nat) : Fld := ⟨0x10, 2176 + 32 * m, 32, .ro, 0⟩
/-- TOP.MEM_PORT_PRESENT.PORT (0x130), R53, RO. Bit n − 8 is 1 when port Pn has an engine and link logic in service. A port whose link is down but whose hardware is intact reads 1. Reset: per module. -/
def TOP_MEM_PORT_PRESENT_PORT : Fld := ⟨0x10, 2440, 16, .ro, 0⟩
/-- TOP.MEM_PORT_PRESENT.MEM (0x130), R53, RO. Bit n is 1 when stack MEMn is in service. A stack in self-refresh because its PHY domain is off reads 1. Reset: per module. -/
def TOP_MEM_PORT_PRESENT_MEM : Fld := ⟨0x10, 2432, 8, .ro, 0⟩
/-- TOP.ARRAY_FENCED.COUNT (0x138), R53, RO. Number of matrix arrays fenced under R36 in cores that remain in service. The fenced arrays are identified on the cores' own pages. Reset: per module. -/
def TOP_ARRAY_FENCED_COUNT : Fld := ⟨0x10, 2496, 16, .ro, 0⟩
/-- CORE.ARR_STATUS.BUSY (0x400), R127, RO. Bit j is 1 while MAj computes a step. -/
def CORE_ARR_STATUS_BUSY : Fld := ⟨0x60, 8200, 4, .ro, 0⟩
/-- CORE.ARR_STATUS.KAT_ACTIVE (0x400), R127, RO. Bit j is 1 while MAj runs a known-answer test. -/
def CORE_ARR_STATUS_KAT_ACTIVE : Fld := ⟨0x60, 8196, 4, .ro, 0⟩
/-- CORE.ARR_STATUS.LIVE (0x400), R127, RO. Bit j is 1 when MAj is in service. Set at boot from the Keeper's log. Cleared at a fence (R126). Reset: per core. -/
def CORE_ARR_STATUS_LIVE : Fld := ⟨0x60, 8192, 4, .ro, 0⟩
/-- CORE.ARR_FENCE.LAST (0x404), R127, RO. Array most recently fenced. After boot, when arrays are fenced from the log, the array whose retirement record is newest in the log, with CAUSE 3. -/
def CORE_ARR_FENCE_LAST : Fld := ⟨0x60, 8236, 4, .ro, 0⟩
/-- CORE.ARR_FENCE.CAUSE (0x404), R127, RO. Cause of that fence. 0: none. 1: known-answer failure. 2: repeated weight-register parity failure. 3: fenced at boot from the log. 4: Keeper … -/
def CORE_ARR_FENCE_CAUSE : Fld := ⟨0x60, 8232, 4, .ro, 0⟩
/-- CORE.ARR_FENCE.FENCED (0x404), R127, RO. Bit j is 1 when MAj is fenced. Always the complement of LIVE. Reset: per core. -/
def CORE_ARR_FENCE_FENCED : Fld := ⟨0x60, 8224, 4, .ro, 0⟩
/-- CORE.KAT_CTRL.PATTERN (0x408), R127, RW. First pattern, 0–63. A write that sets PATTERN to 64–255 is ignored as a whole: PATTERN, MASK and REQ keep their values, and no test is requested. -/
def CORE_KAT_CTRL_PATTERN : Fld := ⟨0x60, 8264, 8, .rw, 0⟩
/-- CORE.KAT_CTRL.MASK (0x408), R127, RW. Arrays to test. -/
def CORE_KAT_CTRL_MASK : Fld := ⟨0x60, 8260, 4, .rw, 15⟩
/-- CORE.KAT_CTRL.REQ (0x408), R127, RW. Write 1 to request one pass of every pattern from PATTERN upward on the arrays in MASK, under R124. Reads 1 until every masked array has passed, … -/
def CORE_KAT_CTRL_REQ : Fld := ⟨0x60, 8256, 1, .rw, 0⟩
/-- CORE.KAT_STATUS.YIELDS (0x40C), R127, RO. Consecutive yields of the current test, 0–16. -/
def CORE_KAT_STATUS_YIELDS : Fld := ⟨0x60, 8304, 5, .ro, 0⟩
/-- CORE.KAT_STATUS.ABANDONED (0x40C), R127, RW1C. Bit j: a test of MAj was abandoned. -/
def CORE_KAT_STATUS_ABANDONED : Fld := ⟨0x60, 8300, 4, .rw1c, 0⟩
/-- CORE.KAT_STATUS.FAIL (0x40C), R127, RW1C. Bit j: MAj failed a pattern twice (R126). -/
def CORE_KAT_STATUS_FAIL : Fld := ⟨0x60, 8292, 4, .rw1c, 0⟩
/-- CORE.KAT_STATUS.PASS (0x40C), R127, RW1C. Bit j: MAj completed its requested patterns. -/
def CORE_KAT_STATUS_PASS : Fld := ⟨0x60, 8288, 4, .rw1c, 0⟩
/-- CORE.KAT_PASS_TBC.TBC (0x410, 4 of them), R127, RO. TBC of MAj's last passing pattern. 0 if the array has not passed one since power-on. -/
def CORE_KAT_PASS_TBC_TBC (m : Nat) : Fld := ⟨0x60, 8320 + 64 * m, 64, .ro, 0⟩
/-- CORE.ACC_STEP_BW.COUNT (0x430), R127, RO. ACC_BW, ACC_RA, ACC_OVF or ACC_NF events in this core since the last step-counter clear, saturating at 0xFFFF_FFFF. Cleared by the step machinery of … -/
def CORE_ACC_STEP_BW_COUNT : Fld := ⟨0x60, 8576, 32, .ro, 0⟩
/-- CORE.ACC_STEP_RA.COUNT (0x434), R127, RO. ACC_BW, ACC_RA, ACC_OVF or ACC_NF events in this core since the last step-counter clear, saturating at 0xFFFF_FFFF. Cleared by the step machinery of … -/
def CORE_ACC_STEP_RA_COUNT : Fld := ⟨0x60, 8608, 32, .ro, 0⟩
/-- CORE.ACC_STEP_OVF.COUNT (0x438), R127, RO. ACC_BW, ACC_RA, ACC_OVF or ACC_NF events in this core since the last step-counter clear, saturating at 0xFFFF_FFFF. Cleared by the step machinery of … -/
def CORE_ACC_STEP_OVF_COUNT : Fld := ⟨0x60, 8640, 32, .ro, 0⟩
/-- CORE.ACC_STEP_NF.COUNT (0x43C), R127, RO. ACC_BW, ACC_RA, ACC_OVF or ACC_NF events in this core since the last step-counter clear, saturating at 0xFFFF_FFFF. Cleared by the step machinery of … -/
def CORE_ACC_STEP_NF_COUNT : Fld := ⟨0x60, 8672, 32, .ro, 0⟩
/-- CORE.PC.PC (0x100), R171, RO. Address of the next instruction to issue. Meaningful while quiesced or idle. -/
def CORE_PC_PC : Fld := ⟨0x60, 2048, 64, .ro, 0⟩
/-- CORE.RUN_STATUS.DMA_WAIT (0x108), R171, RO. A DMAQ is waiting for queue space. -/
def CORE_RUN_STATUS_DMA_WAIT : Fld := ⟨0x60, 2122, 1, .ro, 0⟩
/-- CORE.RUN_STATUS.SIG_WAIT (0x108), R171, RO. A SIGWAIT is waiting. -/
def CORE_RUN_STATUS_SIG_WAIT : Fld := ⟨0x60, 2121, 1, .ro, 0⟩
/-- CORE.RUN_STATUS.MMA_ACTIVE (0x108), R171, RO. An MMA is in progress. -/
def CORE_RUN_STATUS_MMA_ACTIVE : Fld := ⟨0x60, 2120, 1, .ro, 0⟩
/-- CORE.RUN_STATUS.STATE (0x108), R171, RO. 0 idle, 1 running, 2 quiesced, 3 saving, 4 restoring. 5–7 reserved. -/
def CORE_RUN_STATUS_STATE : Fld := ⟨0x60, 2112, 3, .ro, 0⟩
/-- CORE.EXC_STATUS.VALID (0x110), R171, RW1C. An exception has been recorded. Clearing VALID also clears CODE. -/
def CORE_EXC_STATUS_VALID : Fld := ⟨0x60, 2207, 1, .rw1c, 0⟩
/-- CORE.EXC_STATUS.CODE (0x110), R171, RO. Status code of the last exception (R168). -/
def CORE_EXC_STATUS_CODE : Fld := ⟨0x60, 2176, 16, .ro, 0⟩
/-- CORE.EXC_PC.PC (0x118), R171, RO. Address of the instruction that raised the last exception. -/
def CORE_EXC_PC_PC : Fld := ⟨0x60, 2240, 64, .ro, 0⟩
/-- CORE.CTX_BASE.BASE (0x120), R171, RW. Context image address, 4 KiB aligned. -/
def CORE_CTX_BASE_BASE : Fld := ⟨0x60, 2316, 52, .rw, 0⟩
/-- CORE.CTX_CMD.BUSY (0x128), R171, RO. A save or restore is in progress. -/
def CORE_CTX_CMD_BUSY : Fld := ⟨0x60, 2399, 1, .ro, 0⟩
/-- CORE.CTX_CMD.OP (0x128), R171, WO. 1 save, 2 restore. 0 and 3 are ignored. A write while BUSY is 1 is ignored. -/
def CORE_CTX_CMD_OP : Fld := ⟨0x60, 2368, 2, .wo, 0⟩
/-- CORE.CTX_RESULT.STATUS (0x12C), R171, RO. Status code of the last save or restore (R170). -/
def CORE_CTX_RESULT_STATUS : Fld := ⟨0x60, 2400, 16, .ro, 0⟩
/-- CORE.SCALE_CTRL.FORCE_JIT (0x130), R171, RW. 1 forces just-in-time scaling (R150). -/
def CORE_SCALE_CTRL_FORCE_JIT : Fld := ⟨0x60, 2440, 1, .rw, 0⟩
/-- CORE.SCALE_CTRL.HEAD (0x130), R171, RW. History entry written by a push (R150). -/
def CORE_SCALE_CTRL_HEAD : Fld := ⟨0x60, 2432, 4, .rw, 0⟩
/-- CORE.NW_STATUS.FIRST (0x134), R171, RO. Slot of the first jump since JUMP was last cleared. -/
def CORE_NW_STATUS_FIRST : Fld := ⟨0x60, 2472, 5, .ro, 0⟩
/-- CORE.NW_STATUS.JUMP (0x134), R171, RW1C. A slot has jumped (R162). A clear that coincides with a new jump leaves JUMP at 1. -/
def CORE_NW_STATUS_JUMP : Fld := ⟨0x60, 2464, 1, .rw1c, 0⟩
/-- CORE.NW_BASE.BASE (0x138), R171, RW. Address of the 32 norm watch records, 2 KiB aligned. -/
def CORE_NW_BASE_BASE : Fld := ⟨0x60, 2507, 53, .rw, 0⟩
/-- CORE.RNG_DIGEST.CRC (0x140), R171, RO. CRC-32C over the 512 bytes of lane states, in the RNGST layout. It is current whenever STATE is 0 or 2. -/
def CORE_RNG_DIGEST_CRC : Fld := ⟨0x60, 2560, 32, .ro, 0⟩
/-- CORE.SPAD_ERR.VALID (0x600), R205, RW1C. A scratchpad error has been recorded. Clearing VALID also clears UE and LINE. -/
def CORE_SPAD_ERR_VALID : Fld := ⟨0x60, 12351, 1, .rw1c, 0⟩
/-- CORE.SPAD_ERR.UE (0x600), R205, RO. 1: uncorrectable, line poisoned (R181). 0: corrected. -/
def CORE_SPAD_ERR_UE : Fld := ⟨0x60, 12350, 1, .ro, 0⟩
/-- CORE.SPAD_ERR.LINE (0x600), R205, RO. Line of the last error. A later uncorrectable error overwrites a corrected one, but not the reverse. -/
def CORE_SPAD_ERR_LINE : Fld := ⟨0x60, 12294, 13, .ro, 0⟩
/-- CORE.DMA_STATUS.ACTIVE (0x608), R205, RO. A descriptor is in progress. -/
def CORE_DMA_STATUS_ACTIVE : Fld := ⟨0x60, 12360, 1, .ro, 0⟩
/-- CORE.DMA_STATUS.FILL (0x608), R205, RO. Descriptors queued or in progress, 0–16. -/
def CORE_DMA_STATUS_FILL : Fld := ⟨0x60, 12352, 5, .ro, 0⟩
/-- CORE.DMA_ERR.VALID (0x60C), R205, RW1C. A descriptor failed. Clearing VALID also clears COUNT and CODE. -/
def CORE_DMA_ERR_VALID : Fld := ⟨0x60, 12415, 1, .rw1c, 0⟩
/-- CORE.DMA_ERR.COUNT (0x60C), R205, RO. Failures since VALID was set, saturating at 255. -/
def CORE_DMA_ERR_COUNT : Fld := ⟨0x60, 12400, 8, .ro, 0⟩
/-- CORE.DMA_ERR.CODE (0x60C), R205, RO. Status code of the first failure since VALID was set (R194, R196). -/
def CORE_DMA_ERR_CODE : Fld := ⟨0x60, 12384, 16, .ro, 0⟩
/-- CORE.DMA_ERR_DESC.ADDR (0x610), R205, RO. Address from which the first failed descriptor was queued. -/
def CORE_DMA_ERR_DESC_ADDR : Fld := ⟨0x60, 12416, 64, .ro, 0⟩
/-- CORE.DMA_RNG_STATE.VALUE (0x618), R205, RW. Generator state or tap mask of the core DMA engine (R195). A write while an SR descriptor runs takes effect after it completes. A read returns the … -/
def CORE_DMA_RNG_STATE_VALUE : Fld := ⟨0x60, 12480, 64, .rw, 0⟩
/-- CORE.DMA_RNG_TAP.VALUE (0x620), R205, RW. Generator state or tap mask of the core DMA engine (R195). A write while an SR descriptor runs takes effect after it completes. A read returns the … -/
def CORE_DMA_RNG_TAP_VALUE : Fld := ⟨0x60, 12544, 64, .rw, 0⟩
/-- CLU.CDMA_STATUS.ACTIVE (0x100), R208, RO. A descriptor is in progress. -/
def CLU_CDMA_STATUS_ACTIVE : Fld := ⟨0x58, 2078, 1, .ro, 0⟩
/-- CLU.CDMA_STATUS.FILL3 (0x100), R208, RO. Descriptors of the quad at position 3, 0–32. -/
def CLU_CDMA_STATUS_FILL3 : Fld := ⟨0x58, 2072, 6, .ro, 0⟩
/-- CLU.CDMA_STATUS.FILL2 (0x100), R208, RO. As FILL3, position 2. -/
def CLU_CDMA_STATUS_FILL2 : Fld := ⟨0x58, 2064, 6, .ro, 0⟩
/-- CLU.CDMA_STATUS.FILL1 (0x100), R208, RO. As FILL3, position 1. -/
def CLU_CDMA_STATUS_FILL1 : Fld := ⟨0x58, 2056, 6, .ro, 0⟩
/-- CLU.CDMA_STATUS.FILL0 (0x100), R208, RO. As FILL3, position 0. -/
def CLU_CDMA_STATUS_FILL0 : Fld := ⟨0x58, 2048, 6, .ro, 0⟩
/-- CLU.CDMA_ERR.VALID (0x104), R208, RW1C. A descriptor failed. Clearing VALID also clears QUAD, COUNT and CODE. -/
def CLU_CDMA_ERR_VALID : Fld := ⟨0x58, 2111, 1, .rw1c, 0⟩
/-- CLU.CDMA_ERR.QUAD (0x104), R208, RO. Position in the cluster of the quad whose descriptor failed first. -/
def CLU_CDMA_ERR_QUAD : Fld := ⟨0x58, 2108, 2, .ro, 0⟩
/-- CLU.CDMA_ERR.COUNT (0x104), R208, RO. Failures since VALID was set, saturating at 255. -/
def CLU_CDMA_ERR_COUNT : Fld := ⟨0x58, 2096, 8, .ro, 0⟩
/-- CLU.CDMA_ERR.CODE (0x104), R208, RO. Status code of the first failure. -/
def CLU_CDMA_ERR_CODE : Fld := ⟨0x58, 2080, 16, .ro, 0⟩
/-- CLU.CDMA_ERR_DESC.ADDR (0x108), R208, RO. Address from which the first failed descriptor was queued. -/
def CLU_CDMA_ERR_DESC_ADDR : Fld := ⟨0x58, 2112, 64, .ro, 0⟩
/-- CLU.CDMA_RNG_STATE.VALUE (0x110), R208, RW. Generator state or tap mask of the cluster DMA engine, with the write and read rules of DMA_RNG_STATE. -/
def CLU_CDMA_RNG_STATE_VALUE : Fld := ⟨0x58, 2176, 64, .rw, 0⟩
/-- CLU.CDMA_RNG_TAP.VALUE (0x118), R208, RW. Generator state or tap mask of the cluster DMA engine, with the write and read rules of DMA_RNG_STATE. -/
def CLU_CDMA_RNG_TAP_VALUE : Fld := ⟨0x58, 2240, 64, .rw, 0⟩
/-- CLU.CLMEM_ERR.VALID (0x120), R208, RW1C. A cluster-memory error has been recorded. Clearing VALID also clears UE and LINE. -/
def CLU_CLMEM_ERR_VALID : Fld := ⟨0x58, 2367, 1, .rw1c, 0⟩
/-- CLU.CLMEM_ERR.UE (0x120), R208, RO. 1: uncorrectable, line poisoned (R187). 0: corrected. -/
def CLU_CLMEM_ERR_UE : Fld := ⟨0x58, 2366, 1, .ro, 0⟩
/-- CLU.CLMEM_ERR.LINE (0x120), R208, RO. Line of the last error, within the 32 MiB. The overwrite rule of SPAD_ERR applies. -/
def CLU_CLMEM_ERR_LINE : Fld := ⟨0x58, 2310, 19, .ro, 0⟩
/-- COL.STEP_CTRL.HEAD_AUTO (0x800), R246, RW. 1: openings write SCALE_CTRL.HEAD (R224). Configuration-class. Writable only while UNARMED. -/
def COL_STEP_CTRL_HEAD_AUTO : Fld := ⟨0x40, 16386, 1, .rw, 1⟩
/-- COL.STEP_CTRL.DMA_RNG_SNAP (0x800), R246, RW. 1: openings save or restore DMA generators (R234). Writable only while UNARMED. -/
def COL_STEP_CTRL_DMA_RNG_SNAP : Fld := ⟨0x40, 16385, 1, .rw, 1⟩
/-- COL.STEP_CTRL.ARM (0x800), R246, RW. Arms and disarms the step machine (R230). A write to ARM in a state for which R230 gives no transition is ignored. -/
def COL_STEP_CTRL_ARM : Fld := ⟨0x40, 16384, 1, .rw, 0⟩
/-- COL.STEP_STATUS.HOLD (0x804), R246, RO. Entry to APPLYING is waiting for a SNAPSHOT. -/
def COL_STEP_STATUS_HOLD : Fld := ⟨0x40, 16421, 1, .ro, 0⟩
/-- COL.STEP_STATUS.SNAP_ACTIVE (0x804), R246, RO. A SNAPSHOT is in progress. -/
def COL_STEP_STATUS_SNAP_ACTIVE : Fld := ⟨0x40, 16420, 1, .ro, 0⟩
/-- COL.STEP_STATUS.ATTEMPT (0x804), R246, RO. 1 during a replay. -/
def COL_STEP_STATUS_ATTEMPT : Fld := ⟨0x40, 16419, 1, .ro, 0⟩
/-- COL.STEP_STATUS.STATE (0x804), R246, RO. R229. -/
def COL_STEP_STATUS_STATE : Fld := ⟨0x40, 16416, 3, .ro, 0⟩
/-- COL.STEP_COUNT.COUNT (0x808), R246, RWS. Committed steps. Writable only while UNARMED; other writes are ignored. -/
def COL_STEP_COUNT_COUNT : Fld := ⟨0x40, 16448, 48, .rws, 0⟩
/-- COL.VERDICT.CAUSES (0x810), R246, RO. Active causes of the last verdict. Bits 0–7 are NONFIN, JUMP, OVF, SAT, LOSS, FAIL, RETRY and VETO. -/
def COL_VERDICT_CAUSES : Fld := ⟨0x40, 16520, 8, .ro, 0⟩
/-- COL.VERDICT.ATTEMPT (0x810), R246, RO. Attempt that the last verdict decided. -/
def COL_VERDICT_ATTEMPT : Fld := ⟨0x40, 16514, 1, .ro, 0⟩
/-- COL.VERDICT.VERDICT (0x810), R246, RO. 0 none, 1 COMMIT, 2 SKIP, 3 REPLAY. -/
def COL_VERDICT_VERDICT : Fld := ⟨0x40, 16512, 2, .ro, 0⟩
/-- COL.VERDICT_STEP.STEP (0x818), R246, RO. Step number of the last verdict. -/
def COL_VERDICT_STEP_STEP : Fld := ⟨0x40, 16576, 48, .ro, 0⟩
/-- COL.LOCAL_REC.RECORD (0x820), R246, RO. The last sealed local record and the last combined record, laid out as R231. A read during VOTING returns the new local record and the previous … -/
def COL_LOCAL_REC_RECORD : Fld := ⟨0x40, 16640, 256, .ro, 0⟩
/-- COL.COMB_REC.RECORD (0x840), R246, RO. The last sealed local record and the last combined record, laid out as R231. A read during VOTING returns the new local record and the previous … -/
def COL_COMB_REC_RECORD : Fld := ⟨0x40, 16896, 256, .ro, 0⟩
/-- COL.POLICY.ACTIONS (0x860), R246, RW. Two bits per cause, in the order of VERDICT.CAUSES: [1:0] NONFIN, [3:2] JUMP, [5:4] OVF, [7:6] SAT, [9:8] LOSS, [11:10] FAIL, [13:12] RETRY, [15:14] … -/
def COL_POLICY_ACTIONS : Fld := ⟨0x40, 17152, 16, .rw, 39001⟩
/-- COL.OVF_LIMIT.LIMIT (0x864), R246, RW. The cause is active when its combined count exceeds LIMIT. Configuration-class. -/
def COL_OVF_LIMIT_LIMIT : Fld := ⟨0x40, 17184, 32, .rw, 0⟩
/-- COL.SAT_LIMIT.LIMIT (0x868), R246, RW. The cause is active when its combined count exceeds LIMIT. Configuration-class. -/
def COL_SAT_LIMIT_LIMIT : Fld := ⟨0x40, 17216, 32, .rw, 0⟩
/-- COL.LOSS_LIMIT.LIMIT (0x86C), R246, RW. The cause is active when its combined count exceeds LIMIT. Configuration-class. -/
def COL_LOSS_LIMIT_LIMIT : Fld := ⟨0x40, 17248, 32, .rw, 4294967295⟩
/-- COL.RNG_SNAP.OFS (0x870), R246, RW. Snapshot area offset in 64 KiB units within each quad's quarter (R238). Writable only while UNARMED. -/
def COL_RNG_SNAP_OFS : Fld := ⟨0x40, 17280, 7, .rw, 127⟩
/-- COL.SKIP_CTL.SKIP_WARN (0x874), R246, RW. Consecutive skips that raise SKIP_RUN (R236). 0 disables the event. -/
def COL_SKIP_CTL_SKIP_WARN : Fld := ⟨0x40, 17328, 16, .rw, 8⟩
/-- COL.SKIP_CTL.CONSEC (0x874), R246, RO. Consecutive skips of the current step number, saturating at 0xFFFF. -/
def COL_SKIP_CTL_CONSEC : Fld := ⟨0x40, 17312, 16, .ro, 0⟩
/-- COL.SKIP_TOTAL.COUNT (0x878), R246, RWS. Skips and replays since power-on or since software last wrote the register, saturating at 0xFFFF_FFFF. -/
def COL_SKIP_TOTAL_COUNT : Fld := ⟨0x40, 17344, 32, .rws, 0⟩
/-- COL.REPLAY_TOTAL.COUNT (0x87C), R246, RWS. Skips and replays since power-on or since software last wrote the register, saturating at 0xFFFF_FFFF. -/
def COL_REPLAY_TOTAL_COUNT : Fld := ⟨0x40, 17376, 32, .rws, 0⟩
/-- COL.OPEN_TBC.VALUE (0x880), R246, RO. TBC of the last opening. Total nanoseconds that entry to APPLYING has waited for SNAPSHOT. -/
def COL_OPEN_TBC_VALUE : Fld := ⟨0x40, 17408, 64, .ro, 0⟩
/-- COL.SNAP_HOLD_NS.VALUE (0x888), R246, RO. TBC of the last opening. Total nanoseconds that entry to APPLYING has waited for SNAPSHOT. -/
def COL_SNAP_HOLD_NS_VALUE : Fld := ⟨0x40, 17472, 64, .ro, 0⟩
/-- MEM.STACK_INFO.RATE (0x100), R279, RO. Data rate in units of 0.1 Gb/s. -/
def MEM_STACK_INFO_RATE : Fld := ⟨0x20, 2072, 8, .ro, 80⟩
/-- MEM.STACK_INFO.HEIGHT (0x100), R279, RO. Dies in the stack. -/
def MEM_STACK_INFO_HEIGHT : Fld := ⟨0x20, 2064, 8, .ro, 12⟩
/-- MEM.STACK_INFO.FRAMES (0x100), R279, RO. Frames offered to software (R253). -/
def MEM_STACK_INFO_FRAMES : Fld := ⟨0x20, 2048, 16, .ro, 18424⟩
/-- MEM.RETIRE_STATUS.FRAMES (0x108), R279, RO. Retired frames, 0–1,024 (R264). Reset: per stack. -/
def MEM_RETIRE_STATUS_FRAMES : Fld := ⟨0x20, 2128, 11, .ro, 0⟩
/-- MEM.RETIRE_STATUS.ROWS (0x108), R279, RO. Spare rows in use, 0–4,096. Reset: per stack. -/
def MEM_RETIRE_STATUS_ROWS : Fld := ⟨0x20, 2112, 13, .ro, 0⟩
/-- MEM.FRAME_CNT_IDX.CLEAR_ON_READ (0x110), R279, RW. 1: a read of FRAME_CNT clears both counts (R271). -/
def MEM_FRAME_CNT_IDX_CLEAR_ON_READ : Fld := ⟨0x20, 2207, 1, .rw, 0⟩
/-- MEM.FRAME_CNT_IDX.PAGE (0x110), R279, RW. Page whose counts FRAME_CNT returns. -/
def MEM_FRAME_CNT_IDX_PAGE : Fld := ⟨0x20, 2176, 15, .rw, 0⟩
/-- MEM.FRAME_CNT.WRITES (0x118), R279, RO. Line writes to the page. -/
def MEM_FRAME_CNT_WRITES : Fld := ⟨0x20, 2272, 32, .ro, 0⟩
/-- MEM.FRAME_CNT.READS (0x118), R279, RO. Line reads of the page. -/
def MEM_FRAME_CNT_READS : Fld := ⟨0x20, 2240, 32, .ro, 0⟩
/-- MEM.SCRUB_CTRL.ENABLE (0x120), R279, RW. 1: scrub under R262. -/
def MEM_SCRUB_CTRL_ENABLE : Fld := ⟨0x20, 2335, 1, .rw, 1⟩
/-- MEM.SCRUB_CTRL.PERIOD (0x120), R279, RW. Hours per pass, 1–255. A write of 0 is ignored. -/
def MEM_SCRUB_CTRL_PERIOD : Fld := ⟨0x20, 2304, 8, .rw, 24⟩
/-- MEM.ECC_ERR.VALID (0x128), R279, RW1C. An error has been recorded. Clearing VALID also clears the other fields. -/
def MEM_ECC_ERR_VALID : Fld := ⟨0x20, 2431, 1, .rw1c, 0⟩
/-- MEM.ECC_ERR.UE (0x128), R279, RO. 1: uncorrectable (R259). An uncorrectable error overwrites a corrected one, but not the reverse. -/
def MEM_ECC_ERR_UE : Fld := ⟨0x20, 2430, 1, .ro, 0⟩
/-- MEM.ECC_ERR.PAGE (0x128), R279, RO. Page of the line. -/
def MEM_ECC_ERR_PAGE : Fld := ⟨0x20, 2389, 16, .ro, 0⟩
/-- MEM.ECC_ERR.OFFSET (0x128), R279, RO. Line offset within the frame. -/
def MEM_ECC_ERR_OFFSET : Fld := ⟨0x20, 2374, 15, .ro, 0⟩
/-- MEM.MARGIN_CTRL.CH_MASK (0x130), R279, RW. Channels to margin. -/
def MEM_MARGIN_CTRL_CH_MASK : Fld := ⟨0x20, 2464, 32, .rw, 0⟩
/-- MEM.MARGIN_CTRL.PARAM (0x130), R279, RW. 0 read reference, 1 write reference, 2 read delay, 3 write delay. -/
def MEM_MARGIN_CTRL_PARAM : Fld := ⟨0x20, 2436, 2, .rw, 0⟩
/-- MEM.MARGIN_CTRL.GO (0x130), R279, RW. Write 1 to start (R278). Reads 1 until DONE. -/
def MEM_MARGIN_CTRL_GO : Fld := ⟨0x20, 2432, 1, .rw, 0⟩
/-- MEM.MARGIN_RESULT.DONE (0x138), R279, RO. The last run has finished and trained settings are restored. -/
def MEM_MARGIN_RESULT_DONE : Fld := ⟨0x20, 2559, 1, .ro, 0⟩
/-- MEM.MARGIN_RESULT.STATUS (0x138), R279, RO. OK or TEST_BUSY. -/
def MEM_MARGIN_RESULT_STATUS : Fld := ⟨0x20, 2528, 16, .ro, 0⟩
/-- MEM.MARGIN_RESULT.HIGH (0x138), R279, RO. Steps above the trained setting that passed on every masked channel. -/
def MEM_MARGIN_RESULT_HIGH : Fld := ⟨0x20, 2512, 16, .ro, 0⟩
/-- MEM.MARGIN_RESULT.LOW (0x138), R279, RO. Steps below the trained setting that passed on every masked channel. -/
def MEM_MARGIN_RESULT_LOW : Fld := ⟨0x20, 2496, 16, .ro, 0⟩
/-- MEM.WCB_STATUS.FILL (0x140), R279, RO. Entries in use, 0–256. -/
def MEM_WCB_STATUS_FILL : Fld := ⟨0x20, 2560, 9, .ro, 0⟩
/-- MCH.CH_STATUS.RETRAINS (0x100), R280, RO. Retrainings since power-on, saturating at 0xFFFF. -/
def MCH_CH_STATUS_RETRAINS : Fld := ⟨0x21, 2064, 16, .ro, 0⟩
/-- MCH.CH_STATUS.RATE (0x100), R280, RO. 0: 8.0 Gb/s. 1: 6.4 Gb/s, degraded. 2: fenced. 3: reserved. Set at boot from the Keeper's log. Reset: per channel. -/
def MCH_CH_STATUS_RATE : Fld := ⟨0x21, 2048, 2, .ro, 0⟩
/-- MCH.TG_CTRL.PATTERN (0x108), R280, RW. 0: PRBS31 from TG_SEED. 1: walking ones. 2: address in data. 3: TG_SEED repeated. 4–7: reserved. -/
def MCH_TG_CTRL_PATTERN : Fld := ⟨0x21, 2117, 3, .rw, 0⟩
/-- MCH.TG_CTRL.MODE (0x108), R280, RW. 0: write. 1: read and check. 2: alternate write then check. 3: reserved. -/
def MCH_TG_CTRL_MODE : Fld := ⟨0x21, 2115, 2, .rw, 0⟩
/-- MCH.TG_CTRL.GO (0x108), R280, RW. Write 1 to start (R277). Reads 1 until the run ends. Writing 0 stops the run at the next line. -/
def MCH_TG_CTRL_GO : Fld := ⟨0x21, 2112, 1, .rw, 0⟩
/-- MCH.TG_RANGE.LAST_ROW (0x110), R280, RW. Last row of the range. -/
def MCH_TG_RANGE_LAST_ROW : Fld := ⟨0x21, 2208, 32, .rw, 0⟩
/-- MCH.TG_RANGE.FIRST_ROW (0x110), R280, RW. First row of the range. -/
def MCH_TG_RANGE_FIRST_ROW : Fld := ⟨0x21, 2176, 32, .rw, 0⟩
/-- MCH.TG_COUNT.PASSES (0x118), R280, RW. Passes over the range. 0: until stopped. -/
def MCH_TG_COUNT_PASSES : Fld := ⟨0x21, 2240, 64, .rw, 1⟩
/-- MCH.TG_SEED.SEED (0x120), R280, RW. Seed or repeated word. -/
def MCH_TG_SEED_SEED : Fld := ⟨0x21, 2304, 64, .rw, 1⟩
/-- MCH.TG_RESULT.STATUS (0x128), R280, RO. OK, TEST_BUSY or ABORTED. -/
def MCH_TG_RESULT_STATUS : Fld := ⟨0x21, 2416, 16, .ro, 0⟩
/-- MCH.TG_RESULT.ERRORS (0x128), R280, RO. Words that miscompared, saturating. -/
def MCH_TG_RESULT_ERRORS : Fld := ⟨0x21, 2368, 48, .ro, 0⟩
/-- MCH.TG_FAIL_ADDR.ADDR (0x130), R280, RO. Row in [63:32] and byte within the row in [31:0] of the first miscompare. -/
def MCH_TG_FAIL_ADDR_ADDR : Fld := ⟨0x21, 2432, 64, .ro, 0⟩
/-- MCH.TG_FAIL_BITS.BITS (0x138), R280, RO. OR of the miscompare masks over the run. Bit j is data line j of the channel. -/
def MCH_TG_FAIL_BITS_BITS : Fld := ⟨0x21, 2496, 64, .ro, 0⟩
/-- FAR.FAR_STATUS.EXCESS (0x100), R281, RO. Bytes not mapped, in MiB (R266). -/
def FAR_FAR_STATUS_EXCESS : Fld := ⟨0x22, 2080, 32, .ro, 0⟩
/-- FAR.FAR_STATUS.UP (0x100), R281, RO. Bit d: link d is up. -/
def FAR_FAR_STATUS_UP : Fld := ⟨0x22, 2052, 4, .ro, 0⟩
/-- FAR.FAR_STATUS.PRESENT (0x100), R281, RO. Bit d: expander d was enumerated. -/
def FAR_FAR_STATUS_PRESENT : Fld := ⟨0x22, 2048, 4, .ro, 0⟩
/-- FAR.FAR_CFG.TIMEOUT (0x108), R281, RW. Completion timeout in µs, 10–50,000. Values outside this range are ignored. -/
def FAR_FAR_CFG_TIMEOUT : Fld := ⟨0x22, 2112, 16, .rw, 1000⟩
/-- FAR.DEV_BASE.FRAMES (0x110, 4 of them), R281, RO. Frames mapped for the expander. -/
def FAR_DEV_BASE_FRAMES (m : Nat) : Fld := ⟨0x22, 2208 + 64 * m, 32, .ro, 0⟩
/-- FAR.DEV_BASE.BASE (0x110, 4 of them), R281, RO. First far-tier frame of the expander. -/
def FAR_DEV_BASE_BASE (m : Nat) : Fld := ⟨0x22, 2176 + 64 * m, 21, .ro, 0⟩
/-- FAR.FRAME_CNT_IDX.CLEAR_ON_READ (0x130), R281, RW. As on the MEM page. -/
def FAR_FRAME_CNT_IDX_CLEAR_ON_READ : Fld := ⟨0x22, 2463, 1, .rw, 0⟩
/-- FAR.FRAME_CNT_IDX.FRAME (0x130), R281, RW. Far-tier frame whose count FRAME_CNT returns. -/
def FAR_FRAME_CNT_IDX_FRAME : Fld := ⟨0x22, 2432, 21, .rw, 0⟩
/-- FAR.FRAME_CNT.ACCESSES (0x138), R281, RO. Line reads and writes of the frame (R271). -/
def FAR_FRAME_CNT_ACCESSES : Fld := ⟨0x22, 2496, 32, .ro, 0⟩
/-- HIF.XLT_CTRL.DEFERRED (0xA00), R282, RW1C. A flip was deferred (R270). -/
def HIF_XLT_CTRL_DEFERRED : Fld := ⟨0x50, 20483, 1, .rw1c, 0⟩
/-- HIF.XLT_CTRL.FLIP_ARM (0xA00), R282, RW. 1: flip at XLT_FLIP_TBC. Cleared when the flip takes place or is deferred. -/
def HIF_XLT_CTRL_FLIP_ARM : Fld := ⟨0x50, 20482, 1, .rw, 0⟩
/-- HIF.XLT_CTRL.SHADOW_READY (0xA00), R282, RW. Written 1 by software when the shadow bank is complete. Cleared by a flip and by the start of a FRAME_REQ. -/
def HIF_XLT_CTRL_SHADOW_READY : Fld := ⟨0x50, 20481, 1, .rw, 0⟩
/-- HIF.XLT_CTRL.ACTIVE (0xA00), R282, RO. Active bank. -/
def HIF_XLT_CTRL_ACTIVE : Fld := ⟨0x50, 20480, 1, .ro, 0⟩
/-- HIF.XLT_FLIP_TBC.TBC (0xA08), R282, RW. Time-base count of the next flip. A write sets FLIP_ARM. -/
def HIF_XLT_FLIP_TBC_TBC : Fld := ⟨0x50, 20544, 64, .rw, 0⟩
/-- HIF.XLT_LEN0.LEN (0xA10), R282, RW. Entries in bank 0 or 1, up to 2,097,152. Larger values are ignored. Writes to the active bank's LEN are ignored. -/
def HIF_XLT_LEN0_LEN : Fld := ⟨0x50, 20608, 22, .rw, 0⟩
/-- HIF.XLT_LEN1.LEN (0xA14), R282, RW. Entries in bank 0 or 1, up to 2,097,152. Larger values are ignored. Writes to the active bank's LEN are ignored. -/
def HIF_XLT_LEN1_LEN : Fld := ⟨0x50, 20640, 22, .rw, 0⟩
/-- HIF.XLT_INVAL.BUSY (0xA18), R282, RO. An invalidation is in progress. It completes within 2 µs. -/
def HIF_XLT_INVAL_BUSY : Fld := ⟨0x50, 20735, 1, .ro, 0⟩
/-- HIF.XLT_INVAL.COUNT (0xA18), R282, WO. Entries to invalidate. A write of the register starts the invalidation. A write while BUSY is 1 is ignored. -/
def HIF_XLT_INVAL_COUNT : Fld := ⟨0x50, 20704, 21, .wo, 0⟩
/-- HIF.XLT_INVAL.VPN (0xA18), R282, WO. First VPN. -/
def HIF_XLT_INVAL_VPN : Fld := ⟨0x50, 20672, 21, .wo, 0⟩
/-- HIF.XLT_DIR.VALID (0xA40, 16 of them), R282, RW. Slot in use. Slot j of bank b is at 0xA40 + 32 × b + 4 × j. Writes to the active bank's slots are ignored. -/
def HIF_XLT_DIR_VALID (m : Nat) : Fld := ⟨0x50, 21023 + 32 * m, 1, .rw, 0⟩
/-- HIF.XLT_DIR.FRAME (0xA40, 16 of them), R282, RW. HBM frame holding the slot (R268). -/
def HIF_XLT_DIR_FRAME (m : Nat) : Fld := ⟨0x50, 20992 + 32 * m, 23, .rw, 0⟩
/-- HIF.FRAME_REQ.GO (0xA80), R282, WO. Write 1 to start the request (R272–R274). -/
def HIF_FRAME_REQ_GO : Fld := ⟨0x50, 21535, 1, .wo, 0⟩
/-- HIF.FRAME_REQ.FLAGS (0xA80), R282, RW. WRITE, CACHEABLE, EXEC and COLD, written into the entries. -/
def HIF_FRAME_REQ_FLAGS : Fld := ⟨0x50, 21511, 4, .rw, 0⟩
/-- HIF.FRAME_REQ.TIER (0xA80), R282, RW. 0: HBM. 1: far tier. 2: both (R272). 3: reserved. -/
def HIF_FRAME_REQ_TIER : Fld := ⟨0x50, 21506, 2, .rw, 0⟩
/-- HIF.FRAME_REQ.OP (0xA80), R282, RW. 1 ALLOC, 2 FREE, 3 QUARANTINE. 0: none. -/
def HIF_FRAME_REQ_OP : Fld := ⟨0x50, 21504, 2, .rw, 0⟩
/-- HIF.FRAME_VPN.VPN (0xA84), R282, RW. First VPN of the range. -/
def HIF_FRAME_VPN_VPN : Fld := ⟨0x50, 21536, 21, .rw, 0⟩
/-- HIF.FRAME_COUNT.COUNT (0xA88), R282, RW. Frames in the range. -/
def HIF_FRAME_COUNT_COUNT : Fld := ⟨0x50, 21568, 22, .rw, 0⟩
/-- HIF.FRAME_RESULT.DONE (0xA90), R282, RO. The last request has completed. -/
def HIF_FRAME_RESULT_DONE : Fld := ⟨0x50, 21663, 1, .ro, 1⟩
/-- HIF.FRAME_RESULT.STATUS (0xA90), R282, RO. OK, MEM_SHORT, VPN_IN_USE or INVALID_ARG. -/
def HIF_FRAME_RESULT_STATUS : Fld := ⟨0x50, 21632, 16, .ro, 0⟩
/-- HIF.FRAME_SHORT.SHORT (0xA94), R282, RO. Frames missing when STATUS is MEM_SHORT (R273). 0 otherwise. -/
def HIF_FRAME_SHORT_SHORT : Fld := ⟨0x50, 21664, 22, .ro, 0⟩
/-- HIF.FRAME_GRANT.FAR (0xA98), R282, RO. Far-tier frames mapped by the last ALLOC. -/
def HIF_FRAME_GRANT_FAR : Fld := ⟨0x50, 21728, 22, .ro, 0⟩
/-- HIF.FRAME_GRANT.HBM (0xA98), R282, RO. HBM frames mapped by the last ALLOC. -/
def HIF_FRAME_GRANT_HBM : Fld := ⟨0x50, 21696, 22, .ro, 0⟩
/-- LNK.PORT_CTRL.LANE_MASK (0x100), R319, RW. Lanes software permits. Takes effect at the next training. -/
def LNK_PORT_CTRL_LANE_MASK : Fld := ⟨0x30, 2056, 8, .rw, 255⟩
/-- LNK.PORT_CTRL.ACCEPT_NEW (0x100), R319, RW. Accept a replacement partner (R300). -/
def LNK_PORT_CTRL_ACCEPT_NEW : Fld := ⟨0x30, 2050, 1, .rw, 1⟩
/-- LNK.PORT_CTRL.REQUIRE_AUTH (0x100), R319, RWL. 1: UP only after R301. 0 permits an unauthenticated and unencrypted link, and is meant for bring-up only. -/
def LNK_PORT_CTRL_REQUIRE_AUTH : Fld := ⟨0x30, 2049, 1, .rwl, 1⟩
/-- LNK.PORT_CTRL.TRAIN (0x100), R319, RW. Write 1 to start training (R293). Reads 1 until the training ends. -/
def LNK_PORT_CTRL_TRAIN : Fld := ⟨0x30, 2048, 1, .rw, 0⟩
/-- LNK.PORT_STATUS.STATE (0x104), R319, RO. R291. -/
def LNK_PORT_STATUS_STATE : Fld := ⟨0x30, 2108, 4, .ro, 0⟩
/-- LNK.PORT_STATUS.WIDTH (0x104), R319, RO. Live lanes, 0 or 4–8. -/
def LNK_PORT_STATUS_WIDTH : Fld := ⟨0x30, 2104, 4, .ro, 0⟩
/-- LNK.PORT_STATUS.LIVE (0x104), R319, RO. Bit j: lane Lj in use. -/
def LNK_PORT_STATUS_LIVE : Fld := ⟨0x30, 2096, 8, .ro, 0⟩
/-- LNK.PORT_STATUS.RETIRED (0x104), R319, RO. Bit j: lane Lj retired in the log. Reset: per port. -/
def LNK_PORT_STATUS_RETIRED : Fld := ⟨0x30, 2088, 8, .ro, 0⟩
/-- LNK.PORT_STATUS.QUARANTINED (0x104), R319, RO. R317. -/
def LNK_PORT_STATUS_QUARANTINED : Fld := ⟨0x30, 2087, 1, .ro, 0⟩
/-- LNK.PORT_STATUS.AUTH (0x104), R319, RO. The partner is authenticated. -/
def LNK_PORT_STATUS_AUTH : Fld := ⟨0x30, 2086, 1, .ro, 0⟩
/-- LNK.PORT_STATUS.TX_KEY (0x104), R319, RO. Transmit KEY_ID. -/
def LNK_PORT_STATUS_TX_KEY : Fld := ⟨0x30, 2085, 1, .ro, 0⟩
/-- LNK.PORT_STATUS.GRACE (0x104), R319, RO. The receiver accepts both key IDs (R305). -/
def LNK_PORT_STATUS_GRACE : Fld := ⟨0x30, 2084, 1, .ro, 0⟩
/-- LNK.PORT_STATUS.ROLE (0x104), R319, RO. R286. Reset: per port. -/
def LNK_PORT_STATUS_ROLE : Fld := ⟨0x30, 2080, 4, .ro, 0⟩
/-- LNK.PORT_FLAGS.LOOPBACK (0x108), R319, RO. The port is in self-loopback (R303). Cleared when the link goes down. -/
def LNK_PORT_FLAGS_LOOPBACK : Fld := ⟨0x30, 2112, 1, .ro, 0⟩
/-- LNK.PEER_CHAR.CHAR (0x110), R319, RO. Bytes 0x00–0x2F of the last good character frame (R295). Byte 0x2C bit 0 is STALE (R297); the other bits of bytes 0x2C–0x2F read 0. A read returns … -/
def LNK_PEER_CHAR_CHAR : Fld := ⟨0x30, 2176, 384, .ro, 0⟩
/-- LNK.PEER_EXPECT.MODE (0x140), R319, RW. R298. -/
def LNK_PEER_EXPECT_MODE : Fld := ⟨0x30, 2622, 2, .rw, 1⟩
/-- LNK.PEER_EXPECT.ROLE (0x140), R319, RW. Expected role, used by MODE 3. -/
def LNK_PEER_EXPECT_ROLE : Fld := ⟨0x30, 2592, 4, .rw, 0⟩
/-- LNK.PEER_EXPECT.MADDR (0x140), R319, RW. Expected partner address, used by MODE 2 and 3. -/
def LNK_PEER_EXPECT_MADDR : Fld := ⟨0x30, 2560, 30, .rw, 0⟩
/-- LNK.TIMERS.REPLAY_TO (0x148), R319, RW. Replay timeout in units of 10 ns, 50–10,000. Other values are ignored. -/
def LNK_TIMERS_REPLAY_TO : Fld := ⟨0x30, 2656, 16, .rw, 500⟩
/-- LNK.TIMERS.CREDIT_TO (0x148), R319, RW. Credit starvation timeout in µs, 1–65,535. -/
def LNK_TIMERS_CREDIT_TO : Fld := ⟨0x30, 2640, 16, .rw, 1000⟩
/-- LNK.TIMERS.TRAIN_TO (0x148), R319, RW. Training timeout in ms, 25–10,000. Other values are ignored. -/
def LNK_TIMERS_TRAIN_TO : Fld := ⟨0x30, 2624, 16, .rw, 100⟩
/-- LNK.VC_CREDIT.VC3_MAX (0x150), R319, RW. Limit in units of 16 flits. -/
def LNK_VC_CREDIT_VC3_MAX : Fld := ⟨0x30, 2712, 8, .rw, 16⟩
/-- LNK.VC_CREDIT.VC2_MAX (0x150), R319, RW. As VC3_MAX. -/
def LNK_VC_CREDIT_VC2_MAX : Fld := ⟨0x30, 2704, 8, .rw, 96⟩
/-- LNK.VC_CREDIT.VC1_MAX (0x150), R319, RW. As VC3_MAX. -/
def LNK_VC_CREDIT_VC1_MAX : Fld := ⟨0x30, 2696, 8, .rw, 96⟩
/-- LNK.VC_CREDIT.VC0_RSV (0x150), R319, RW. Reserved VC0 flits, 48–255. A write below 48 is ignored as a whole. -/
def LNK_VC_CREDIT_VC0_RSV : Fld := ⟨0x30, 2688, 8, .rw, 48⟩
/-- LNK.VC_WEIGHT.W3 (0x154), R319, RW. VC3 weight, 1–255. -/
def LNK_VC_WEIGHT_W3 : Fld := ⟨0x30, 2736, 8, .rw, 1⟩
/-- LNK.VC_WEIGHT.W2 (0x154), R319, RW. VC2 weight. -/
def LNK_VC_WEIGHT_W2 : Fld := ⟨0x30, 2728, 8, .rw, 4⟩
/-- LNK.VC_WEIGHT.W1 (0x154), R319, RW. VC1 weight. A write with any weight 0 is ignored as a whole. -/
def LNK_VC_WEIGHT_W1 : Fld := ⟨0x30, 2720, 8, .rw, 4⟩
/-- LNK.QUAR_CTRL.RELEASE (0x158), R319, WO. Write 1 to end quarantine (R317). -/
def LNK_QUAR_CTRL_RELEASE : Fld := ⟨0x30, 2783, 1, .wo, 0⟩
/-- LNK.QUAR_CTRL.THRESH (0x158), R319, RW. Rejections that quarantine, 1–255. -/
def LNK_QUAR_CTRL_THRESH : Fld := ⟨0x30, 2768, 8, .rw, 16⟩
/-- LNK.QUAR_CTRL.WINDOW (0x158), R319, RW. Window in ms, 1–65,535. -/
def LNK_QUAR_CTRL_WINDOW : Fld := ⟨0x30, 2752, 16, .rw, 1000⟩
/-- LNK.RETRAIN.HOSTILE (0x15C), R319, RO. Count in the current window, saturating at 255. -/
def LNK_RETRAIN_HOSTILE : Fld := ⟨0x30, 2808, 8, .ro, 0⟩
/-- LNK.RETRAIN.QCOUNT (0x15C), R319, RO. Quarantines since the last release, saturating at 15. -/
def LNK_RETRAIN_QCOUNT : Fld := ⟨0x30, 2804, 4, .ro, 0⟩
/-- LNK.RETRAIN.MIN (0x15C), R319, RW. Base interval in ms, 10–65,535 (R294). -/
def LNK_RETRAIN_MIN : Fld := ⟨0x30, 2784, 16, .rw, 100⟩
/-- LNK.KEY_CTRL.REKEY (0x160), R319, WO. Write 1 to roll the transmit key (R305). Ignored unless the port is UP. -/
def LNK_KEY_CTRL_REKEY : Fld := ⟨0x30, 2847, 1, .wo, 0⟩
/-- LNK.KEY_CTRL.GRACE (0x160), R319, RW. Grace window in units of 100 µs, 1–255. -/
def LNK_KEY_CTRL_GRACE : Fld := ⟨0x30, 2824, 8, .rw, 10⟩
/-- LNK.KEY_CTRL.LIFE (0x160), R319, RW. Key life in hours, 1–255. -/
def LNK_KEY_CTRL_LIFE : Fld := ⟨0x30, 2816, 8, .rw, 24⟩
/-- LNK.REJECT_LAST.RX_STATUS (0x168), R319, RO. Status code of the last REJECT received. -/
def LNK_REJECT_LAST_RX_STATUS : Fld := ⟨0x30, 2928, 16, .ro, 0⟩
/-- LNK.REJECT_LAST.TX_STATUS (0x168), R319, RO. Status code of the last REJECT sent. -/
def LNK_REJECT_LAST_TX_STATUS : Fld := ⟨0x30, 2912, 16, .ro, 0⟩
/-- LNK.REJECT_LAST.TX_SEQ (0x168), R319, RO. Offending sequence number of that REJECT. -/
def LNK_REJECT_LAST_TX_SEQ : Fld := ⟨0x30, 2896, 12, .ro, 0⟩
/-- LNK.LANE_STATUS.MARKED (0x180, 8 of them), R319, RO. Marked for retirement (R311). -/
def LNK_LANE_STATUS_MARKED (m : Nat) : Fld := ⟨0x30, 3103 + 32 * m, 1, .ro, 0⟩
/-- LNK.LANE_STATUS.LOCK (0x180, 8 of them), R319, RO. The lane is locked. -/
def LNK_LANE_STATUS_LOCK (m : Nat) : Fld := ⟨0x30, 3102 + 32 * m, 1, .ro, 0⟩
/-- LNK.LANE_STATUS.LOCK_LOSS (0x180, 8 of them), R319, RO. Lock losses in the last 60 s. -/
def LNK_LANE_STATUS_LOCK_LOSS (m : Nat) : Fld := ⟨0x30, 3096 + 32 * m, 6, .ro, 0⟩
/-- LNK.LANE_STATUS.CORR (0x180, 8 of them), R319, RO. Corrected symbols in the last whole second, saturating. -/
def LNK_LANE_STATUS_CORR (m : Nat) : Fld := ⟨0x30, 3072 + 32 * m, 24, .ro, 0⟩
/-- LNK.OE_PWR.LASER_IN (0x1A0), R319, RO. Laser input feeding the engine (R33). Reset: per port. -/
def LNK_OE_PWR_LASER_IN : Fld := ⟨0x30, 3358, 2, .ro, 0⟩
/-- LNK.OE_PWR.PWR (0x1A0), R319, RO. Laser power at the engine input, two's complement, 0.01 dBm units, refreshed every 10 ms. -/
def LNK_OE_PWR_PWR : Fld := ⟨0x30, 3328, 16, .ro, 0⟩
/-- LNK.MARGIN_CTRL.LANE (0x1A8), R319, RW. Lane to scan. -/
def LNK_MARGIN_CTRL_LANE : Fld := ⟨0x30, 3396, 3, .rw, 0⟩
/-- LNK.MARGIN_CTRL.GO (0x1A8), R319, RW. Write 1 to start (R318). Reads 1 until DONE. Ignored while SELFTEST_ALLOW is 0. -/
def LNK_MARGIN_CTRL_GO : Fld := ⟨0x30, 3392, 1, .rw, 0⟩
/-- LNK.MARGIN_RESULT.DONE (0x1B0), R319, RO. The last scan finished, passed or abandoned. -/
def LNK_MARGIN_RESULT_DONE : Fld := ⟨0x30, 3519, 1, .ro, 0⟩
/-- LNK.MARGIN_RESULT.ABANDONED (0x1B0), R319, RO. The last scan was abandoned. -/
def LNK_MARGIN_RESULT_ABANDONED : Fld := ⟨0x30, 3518, 1, .ro, 0⟩
/-- LNK.MARGIN_RESULT.HIGH (0x1B0), R319, RO. Passing steps above the trained point. -/
def LNK_MARGIN_RESULT_HIGH : Fld := ⟨0x30, 3472, 16, .ro, 0⟩
/-- LNK.MARGIN_RESULT.LOW (0x1B0), R319, RO. Passing steps below the trained point. -/
def LNK_MARGIN_RESULT_LOW : Fld := ⟨0x30, 3456, 16, .ro, 0⟩
/-- RTE.MADDR.STANDBY (0x100), R346, RO. 1: standby without an adopted coordinate. Reset: per module. -/
def RTE_MADDR_STANDBY : Fld := ⟨0x31, 2079, 1, .ro, 0⟩
/-- RTE.MADDR.MADDR (0x100), R346, RWS. R323, R324. Reset: per module. -/
def RTE_MADDR_MADDR : Fld := ⟨0x31, 2048, 30, .rws, 0⟩
/-- RTE.AXIS.WRAP (0x108), R346, RW. Bits for X, Y, Z. -/
def RTE_AXIS_WRAP : Fld := ⟨0x31, 2168, 3, .rw, 7⟩
/-- RTE.AXIS.LEN_M1 (0x108), R346, RW. LZ − 1 [29:20], LY − 1 [19:10], LX − 1 [9:0]. -/
def RTE_AXIS_LEN_M1 : Fld := ⟨0x31, 2112, 30, .rw, 0⟩
/-- RTE.EXC_CTRL.DEFERRED (0x110), R346, RW1C. A flip was deferred (R327). -/
def RTE_EXC_CTRL_DEFERRED : Fld := ⟨0x31, 2179, 1, .rw1c, 0⟩
/-- RTE.EXC_CTRL.FLIP_ARM (0x110), R346, RW. As XLT_CTRL.FLIP_ARM. -/
def RTE_EXC_CTRL_FLIP_ARM : Fld := ⟨0x31, 2178, 1, .rw, 0⟩
/-- RTE.EXC_CTRL.SHADOW_READY (0x110), R346, RW. Shadow bank complete. Cleared by a flip. -/
def RTE_EXC_CTRL_SHADOW_READY : Fld := ⟨0x31, 2177, 1, .rw, 0⟩
/-- RTE.EXC_CTRL.ACTIVE (0x110), R346, RO. Active bank. -/
def RTE_EXC_CTRL_ACTIVE : Fld := ⟨0x31, 2176, 1, .ro, 0⟩
/-- RTE.EXC_FLIP_TBC.TBC (0x118), R346, RW. Flip time. A write sets FLIP_ARM. -/
def RTE_EXC_FLIP_TBC_TBC : Fld := ⟨0x31, 2240, 64, .rw, 0⟩
/-- RTE.EXC_IDX.IDX (0x120), R346, RW. Shadow entry that EXC_DATA accesses. -/
def RTE_EXC_IDX_IDX : Fld := ⟨0x31, 2304, 12, .rw, 0⟩
/-- RTE.EXC_DATA.ENTRY (0x128), R346, RW. R326. The entry is written when the upper 64 bits are written. -/
def RTE_EXC_DATA_ENTRY : Fld := ⟨0x31, 2368, 128, .rw, 0⟩
/-- RTE.PATCH_IDX.IDX (0x140), R346, RW. Patch entry that PATCH_DATA accesses. -/
def RTE_PATCH_IDX_IDX : Fld := ⟨0x31, 2560, 6, .rw, 0⟩
/-- RTE.PATCH_DATA.ENTRY (0x148), R346, RW. R326, R327. Written as EXC_DATA. -/
def RTE_PATCH_DATA_ENTRY : Fld := ⟨0x31, 2624, 128, .rw, 0⟩
/-- RTE.TIME_CTRL.ROOT (0x160), R346, RW. R341. -/
def RTE_TIME_CTRL_ROOT : Fld := ⟨0x31, 2847, 1, .rw, 0⟩
/-- RTE.TIME_CTRL.ALT_EN (0x160), R346, RW. Use ALT_PORT. -/
def RTE_TIME_CTRL_ALT_EN : Fld := ⟨0x31, 2824, 1, .rw, 0⟩
/-- RTE.TIME_CTRL.ALT_PORT (0x160), R346, RW. Alternate upstream port. -/
def RTE_TIME_CTRL_ALT_PORT : Fld := ⟨0x31, 2820, 4, .rw, 0⟩
/-- RTE.TIME_CTRL.UP_PORT (0x160), R346, RW. Upstream port. -/
def RTE_TIME_CTRL_UP_PORT : Fld := ⟨0x31, 2816, 4, .rw, 0⟩
/-- RTE.TIME_STATUS.SRC (0x164), R346, RO. Port in use. -/
def RTE_TIME_STATUS_SRC : Fld := ⟨0x31, 2852, 4, .ro, 0⟩
/-- RTE.TIME_STATUS.HOLDOVER (0x164), R346, RO. R343. -/
def RTE_TIME_STATUS_HOLDOVER : Fld := ⟨0x31, 2849, 1, .ro, 0⟩
/-- RTE.TIME_STATUS.LOCKED (0x164), R346, RO. R342. -/
def RTE_TIME_STATUS_LOCKED : Fld := ⟨0x31, 2848, 1, .ro, 0⟩
/-- RTE.TIME_OFS.THETA (0x168), R346, RO. Last θ, two's complement, 1/16 ns units, saturating. -/
def RTE_TIME_OFS_THETA : Fld := ⟨0x31, 2880, 32, .ro, 0⟩
/-- RTE.SDS_OFS.OFS (0x170), R346, RW. Mirror offsets, per axis as MADDR (R344, R345). SDS_OFS1 = 0: no second mirror. -/
def RTE_SDS_OFS_OFS : Fld := ⟨0x31, 2944, 30, .rw, 0⟩
/-- RTE.SDS_OFS1.OFS (0x178), R346, RW. Mirror offsets, per axis as MADDR (R344, R345). SDS_OFS1 = 0: no second mirror. -/
def RTE_SDS_OFS1_OFS : Fld := ⟨0x31, 3008, 30, .rw, 0⟩
/-- RTE.INC.INC (0x180), R346, RO. R338. -/
def RTE_INC_INC : Fld := ⟨0x31, 3072, 8, .ro, 0⟩
/-- XPT.FLOW_CMD.GO (0x100), R347, WO. Starts the command. Ignored while FLOW_RESULT.DONE is 0. -/
def XPT_FLOW_CMD_GO : Fld := ⟨0x32, 2079, 1, .wo, 0⟩
/-- XPT.FLOW_CMD.OP (0x100), R347, RW. 1 OPEN, 2 CLOSE, 3 RESET, 4 READ. Others reserved. -/
def XPT_FLOW_CMD_OP : Fld := ⟨0x32, 2048, 4, .rw, 0⟩
/-- XPT.FLOW_ID.ANY (0x104), R347, RW. OPEN chooses the FLOW_ID (R333). -/
def XPT_FLOW_ID_ANY : Fld := ⟨0x32, 2111, 1, .rw, 0⟩
/-- XPT.FLOW_ID.FLOW_ID (0x104), R347, RW. Flow named. -/
def XPT_FLOW_ID_FLOW_ID : Fld := ⟨0x32, 2080, 20, .rw, 0⟩
/-- XPT.FLOW_RESULT.DONE (0x108), R347, RO. The last command has completed. -/
def XPT_FLOW_RESULT_DONE : Fld := ⟨0x32, 2143, 1, .ro, 1⟩
/-- XPT.FLOW_RESULT.STATUS (0x108), R347, RO. Its status. The granted FLOW_ID is returned in FLOW_ID. -/
def XPT_FLOW_RESULT_STATUS : Fld := ⟨0x32, 2112, 16, .ro, 0⟩
/-- XPT.FLOW_QUOTA.QUOTA (0x10C), R347, RO. Contexts permitted to the function. Reset: per function. -/
def XPT_FLOW_QUOTA_QUOTA : Fld := ⟨0x32, 2144, 32, .ro, 0⟩
/-- XPT.FLOW_USED.USED (0x110), R347, RO. Contexts not FREE. -/
def XPT_FLOW_USED_USED : Fld := ⟨0x32, 2176, 32, .ro, 0⟩
/-- XPT.FLOW_FAILED.FLOW_ID (0x114), R347, RO. Flow of the last FLOW_FAIL. -/
def XPT_FLOW_FAILED_FLOW_ID : Fld := ⟨0x32, 2208, 20, .ro, 0⟩
/-- XPT.FLOW_CTX.CTX (0x140), R347, RW. R332 image. OPEN takes the software fields from it. READ returns the whole context. -/
def XPT_FLOW_CTX_CTX : Fld := ⟨0x32, 2560, 512, .rw, 0⟩
/-- TOP.DAYMARK.DIGEST (0x200), R363, RO. Daymark digest (R355). A read returns one whole value. -/
def TOP_DAYMARK_DIGEST : Fld := ⟨0x10, 4096, 64, .ro, 0⟩
/-- TOP.CFG_EPOCH.EPOCH (0x208), R363, RWS. Configuration epoch. Written under R356. Restored from the log at power-on. -/
def TOP_CFG_EPOCH_EPOCH : Fld := ⟨0x10, 4160, 32, .rws, 0⟩
/-- TOP.AGREE_STATE.GEN (0x20C), R363, RO. Agreement generation (R358). -/
def TOP_AGREE_STATE_GEN : Fld := ⟨0x10, 4204, 20, .ro, 0⟩
/-- TOP.AGREE_STATE.DEPTH (0x20C), R363, RO. Agreement depth (R358). -/
def TOP_AGREE_STATE_DEPTH : Fld := ⟨0x10, 4192, 12, .ro, 0⟩
/-- TOP.AGREE_STATUS.ALL_AGREE (0x210), R363, RO. R358. -/
def TOP_AGREE_STATUS_ALL_AGREE : Fld := ⟨0x10, 4255, 1, .ro, 0⟩
/-- TOP.AGREE_STATUS.LOCAL_MATCH (0x210), R363, RO. No participating port is in mismatch. -/
def TOP_AGREE_STATUS_LOCAL_MATCH : Fld := ⟨0x10, 4254, 1, .ro, 0⟩
/-- TOP.AGREE_STATUS.COMPUTING (0x210), R363, RO. A daymark recomputation is pending (R355). -/
def TOP_AGREE_STATUS_COMPUTING : Fld := ⟨0x10, 4253, 1, .ro, 0⟩
/-- TOP.AGREE_STATUS.UNAPPROVED (0x210), R363, RO. A module-scope page has a TERM other than 0 (R353). -/
def TOP_AGREE_STATUS_UNAPPROVED : Fld := ⟨0x10, 4252, 1, .ro, 0⟩
/-- TOP.AGREE_STATUS.MISMATCH (0x210), R363, RO. Bit n: port Pn is participating and in mismatch (R357). -/
def TOP_AGREE_STATUS_MISMATCH : Fld := ⟨0x10, 4224, 16, .ro, 0⟩
/-- TOP.DM_PORTS.EXCLUDE (0x214), R363, RW. Bit n: port Pn does not participate, for example an auxiliary port cabled to another machine. -/
def TOP_DM_PORTS_EXCLUDE : Fld := ⟨0x10, 4256, 16, .rw, 0⟩
/-- TOP.ALL_AGREE_TBC.TBC (0x218), R363, RO. TBC at which ALL_AGREE last rose to 1. -/
def TOP_ALL_AGREE_TBC_TBC : Fld := ⟨0x10, 4288, 64, .ro, 0⟩
/-- TOP.DM_APPROVE.BUSY (0x220), R363, RO. An approval is in progress (R354). It completes within 20 ms. -/
def TOP_DM_APPROVE_BUSY : Fld := ⟨0x10, 4383, 1, .ro, 0⟩
/-- TOP.DM_APPROVE.GO (0x220), R363, WO. Write 1 to approve. Ignored while BUSY is 1. -/
def TOP_DM_APPROVE_GO : Fld := ⟨0x10, 4352, 1, .wo, 0⟩
/-- TOP.DM_APPROVED.DIGEST (0x228), R363, RO. Bytes 0–7 of SHA-384 over the EXPECT table in force, read little-endian. -/
def TOP_DM_APPROVED_DIGEST : Fld := ⟨0x10, 4416, 64, .ro, 0⟩
/-- KPR.DM_CFG.DIAM (0x300), R363, RW. Agreement depth required for ALL_AGREE, 1–4,095. A write of 0 is ignored. -/
def KPR_DM_CFG_DIAM : Fld := ⟨0x11, 6144, 12, .rw, 40⟩
/-- KPR.MANIFEST_EXTRA.FMT_DEFAULT (0x308), R363, RW. Runtime default format word. Not interpreted by the module. -/
def KPR_MANIFEST_EXTRA_FMT_DEFAULT : Fld := ⟨0x11, 6240, 32, .rw, 0⟩
/-- KPR.MANIFEST_EXTRA.RNG_TABLE_ID (0x308), R363, RW. Identifier of the Ifead generator table. Not interpreted by the module. -/
def KPR_MANIFEST_EXTRA_RNG_TABLE_ID : Fld := ⟨0x11, 6208, 32, .rw, 0⟩
/-- COL.GRP_CTRL.DEFERRED (0x100), R398, RW1C. A flip was deferred (R360). -/
def COL_GRP_CTRL_DEFERRED : Fld := ⟨0x40, 2051, 1, .rw1c, 0⟩
/-- COL.GRP_CTRL.FLIP_ARM (0x100), R398, RW. As XLT_CTRL.FLIP_ARM. -/
def COL_GRP_CTRL_FLIP_ARM : Fld := ⟨0x40, 2050, 1, .rw, 0⟩
/-- COL.GRP_CTRL.SHADOW_READY (0x100), R398, RW. Shadow bank complete. Cleared by a flip. -/
def COL_GRP_CTRL_SHADOW_READY : Fld := ⟨0x40, 2049, 1, .rw, 0⟩
/-- COL.GRP_CTRL.ACTIVE (0x100), R398, RO. Active bank. -/
def COL_GRP_CTRL_ACTIVE : Fld := ⟨0x40, 2048, 1, .ro, 0⟩
/-- COL.GRP_FLIP_TBC.TBC (0x108), R398, RW. Flip time. A write sets FLIP_ARM. -/
def COL_GRP_FLIP_TBC_TBC : Fld := ⟨0x40, 2112, 64, .rw, 0⟩
/-- COL.GRP_IDX.IDX (0x110), R398, RW. Entry accessed (R368). -/
def COL_GRP_IDX_IDX : Fld := ⟨0x40, 2176, 12, .rw, 0⟩
/-- COL.GRP_DATA.ENTRY (0x120), R398, RW. Shadow entry (R369). Written when bytes 0x138–0x13F are written. -/
def COL_GRP_DATA_ENTRY : Fld := ⟨0x40, 2304, 256, .rw, 0⟩
/-- COL.GRP_ACTIVE.ENTRY (0x140), R398, RO. Active entry at GRP_IDX. -/
def COL_GRP_ACTIVE_ENTRY : Fld := ⟨0x40, 2560, 256, .ro, 0⟩
/-- COL.CQ_RANGE.COUNT (0x160), R398, RO. Communication queues of the function, 0–4,096. Reset: per function. -/
def COL_CQ_RANGE_COUNT : Fld := ⟨0x40, 2832, 13, .ro, 0⟩
/-- COL.CQ_RANGE.BASE (0x160), R398, RO. First module queue. Reset: per function. -/
def COL_CQ_RANGE_BASE : Fld := ⟨0x40, 2816, 12, .ro, 0⟩
/-- COL.VERDICT_GID.GID (0x164), R398, RW. Verdict group (R390). Writable only while the step machine is UNARMED. -/
def COL_VERDICT_GID_GID : Fld := ⟨0x40, 2848, 12, .rw, 0⟩
/-- COL.COLL_QUADS.MASK (0x180, 8 of them), R398, RW. In COLL_QUADSm, bit j dedicates Q(32m + j) (R376). Reset: per function. -/
def COL_COLL_QUADS_MASK (m : Nat) : Fld := ⟨0x40, 3072 + 32 * m, 32, .rw, 0⟩
/-- COL.CQ_SEL.GID (0x1A0), R398, RW. Queue shown by CQ_STATUS and CQ_SEQ and acted on by CQ_CMD. -/
def COL_CQ_SEL_GID : Fld := ⟨0x40, 3328, 12, .rw, 0⟩
/-- COL.CQ_STATUS.STATE (0x1A4), R398, RO. 0 IDLE, 1 RUNNING, 2 FAILED. 3 reserved. -/
def COL_CQ_STATUS_STATE : Fld := ⟨0x40, 3390, 2, .ro, 0⟩
/-- COL.CQ_STATUS.FLOWS_OK (0x1A4), R398, RO. The group's flows are open (R372). -/
def COL_CQ_STATUS_FLOWS_OK : Fld := ⟨0x40, 3389, 1, .ro, 0⟩
/-- COL.CQ_STATUS.DEPTH (0x1A4), R398, RO. Operations queued or running, 0–16. -/
def COL_CQ_STATUS_DEPTH : Fld := ⟨0x40, 3384, 5, .ro, 0⟩
/-- COL.CQ_STATUS.LAST_STATUS (0x1A4), R398, RO. Status of the last completed operation. -/
def COL_CQ_STATUS_LAST_STATUS : Fld := ⟨0x40, 3360, 16, .ro, 0⟩
/-- COL.CQ_SEQ.SEQ (0x1A8), R398, RO. Sequence number of the next launch. -/
def COL_CQ_SEQ_SEQ : Fld := ⟨0x40, 3392, 32, .ro, 0⟩
/-- COL.CQ_CMD.BUSY (0x1AC), R398, RO. A reset is in progress. It completes within 1 ms. -/
def COL_CQ_CMD_BUSY : Fld := ⟨0x40, 3455, 1, .ro, 0⟩
/-- COL.CQ_CMD.RESET (0x1AC), R398, WO. Write 1 to reset the queue (R396). Ignored while BUSY is 1. -/
def COL_CQ_CMD_RESET : Fld := ⟨0x40, 3424, 1, .wo, 0⟩
/-- COL.COLL_OVF.COUNT (0x1B0), R398, RO. Saturated sums in the step domain (R386). Cleared by each opening. Saturates at 0xFFFF_FFFF. -/
def COL_COLL_OVF_COUNT : Fld := ⟨0x40, 3456, 32, .ro, 0⟩
/-- COL.COLL_NF.COUNT (0x1B4), R398, RO. Non-finite blocks read out (R387). As COLL_OVF. -/
def COL_COLL_NF_COUNT : Fld := ⟨0x40, 3488, 32, .ro, 0⟩
/-- COL.COLL_ERR.VALID (0x1B8), R398, RW1C. An operation failed. Clearing VALID also clears the other fields. -/
def COL_COLL_ERR_VALID : Fld := ⟨0x40, 3583, 1, .rw1c, 0⟩
/-- COL.COLL_ERR.GID (0x1B8), R398, RO. Group of the first failure. -/
def COL_COLL_ERR_GID : Fld := ⟨0x40, 3568, 12, .ro, 0⟩
/-- COL.COLL_ERR.SEQ (0x1B8), R398, RO. Its sequence number. -/
def COL_COLL_ERR_SEQ : Fld := ⟨0x40, 3536, 32, .ro, 0⟩
/-- COL.COLL_ERR.CODE (0x1B8), R398, RO. Its status. -/
def COL_COLL_ERR_CODE : Fld := ⟨0x40, 3520, 16, .ro, 0⟩
/-- COL.NBR_QUERY.DIR (0x1C0), R398, RW. 0: + ring. 1: − ring. -/
def COL_NBR_QUERY_DIR : Fld := ⟨0x40, 3598, 1, .rw, 0⟩
/-- COL.NBR_QUERY.AXIS (0x1C0), R398, RW. 0 X, 1 Y, 2 Z. -/
def COL_NBR_QUERY_AXIS : Fld := ⟨0x40, 3596, 2, .rw, 0⟩
/-- COL.NBR_QUERY.GID (0x1C0), R398, RW. Group (R394). -/
def COL_NBR_QUERY_GID : Fld := ⟨0x40, 3584, 12, .rw, 0⟩
/-- COL.NBR_RESULT.VALID (0x1C8), R398, RO. 1 when the module is a member and the axis has extent greater than 1. -/
def COL_NBR_RESULT_VALID : Fld := ⟨0x40, 3711, 1, .ro, 0⟩
/-- COL.NBR_RESULT.INDEX (0x1C8), R398, RO. The module's local index on the axis. -/
def COL_NBR_RESULT_INDEX : Fld := ⟨0x40, 3700, 10, .ro, 0⟩
/-- COL.NBR_RESULT.EXT_M1 (0x1C8), R398, RO. Extent minus 1. -/
def COL_NBR_RESULT_EXT_M1 : Fld := ⟨0x40, 3688, 10, .ro, 0⟩
/-- COL.NBR_RESULT.MADDR (0x1C8), R398, RO. The successor in that direction. -/
def COL_NBR_RESULT_MADDR : Fld := ⟨0x40, 3648, 30, .ro, 0⟩
/-- HIF.RES_QUADS.MASK (0x100, 8 of them), R434, RW. In RES_QUADSm, bit j stages Q(32m + j). Applied by GO. Writable from PF0 only. -/
def HIF_RES_QUADS_MASK (m : Nat) : Fld := ⟨0x50, 2048 + 32 * m, 32, .rw, 0⟩
/-- HIF.RES_CMDQ.COUNT (0x120), R434, RW. Command queues, 0–4,096. PF0 only, staged. -/
def HIF_RES_CMDQ_COUNT : Fld := ⟨0x50, 2320, 13, .rw, 0⟩
/-- HIF.RES_CMDQ.BASE (0x120), R434, RW. First module command queue. -/
def HIF_RES_CMDQ_BASE : Fld := ⟨0x50, 2304, 12, .rw, 0⟩
/-- HIF.RES_EVTQ.COUNT (0x124), R434, RW. Event queues, 0–1,024. PF0 only, staged. -/
def HIF_RES_EVTQ_COUNT : Fld := ⟨0x50, 2352, 11, .rw, 0⟩
/-- HIF.RES_EVTQ.BASE (0x124), R434, RW. First module event queue. -/
def HIF_RES_EVTQ_BASE : Fld := ⟨0x50, 2336, 10, .rw, 0⟩
/-- HIF.RES_COMMQ.COUNT (0x128), R434, RW. Communication queues. PF0 only, staged. -/
def HIF_RES_COMMQ_COUNT : Fld := ⟨0x50, 2384, 13, .rw, 0⟩
/-- HIF.RES_COMMQ.BASE (0x128), R434, RW. Communication queues. PF0 only, staged. -/
def HIF_RES_COMMQ_BASE : Fld := ⟨0x50, 2368, 12, .rw, 0⟩
/-- HIF.RES_SIG.COUNT (0x130), R434, RW. Signals, 0–65,536. PF0 only, staged. -/
def HIF_RES_SIG_COUNT : Fld := ⟨0x50, 2464, 17, .rw, 0⟩
/-- HIF.RES_SIG.BASE (0x130), R434, RW. First signal. -/
def HIF_RES_SIG_BASE : Fld := ⟨0x50, 2432, 16, .rw, 0⟩
/-- HIF.RES_FLOWS.QUOTA (0x138), R434, RW. Flow contexts. PF0 only, staged. -/
def HIF_RES_FLOWS_QUOTA : Fld := ⟨0x50, 2496, 21, .rw, 0⟩
/-- HIF.RES_FRAMES.FAR (0x140), R434, RW. Far-tier frame quota. PF0 only, staged. -/
def HIF_RES_FRAMES_FAR : Fld := ⟨0x50, 2592, 22, .rw, 0⟩
/-- HIF.RES_FRAMES.HBM (0x140), R434, RW. HBM frame quota. -/
def HIF_RES_FRAMES_HBM : Fld := ⟨0x50, 2560, 18, .rw, 0⟩
/-- HIF.RES_CTRL.GO (0x148), R434, WO. Applies the staged values (R407). Ignored while RES_RESULT.DONE is 0. -/
def HIF_RES_CTRL_GO : Fld := ⟨0x50, 2655, 1, .wo, 0⟩
/-- HIF.RES_CTRL.CDMA_WEIGHT (0x148), R434, RW. R408. Staged. -/
def HIF_RES_CTRL_CDMA_WEIGHT : Fld := ⟨0x50, 2632, 4, .rw, 1⟩
/-- HIF.RES_RESULT.DONE (0x14C), R434, RO. The last GO has completed. -/
def HIF_RES_RESULT_DONE : Fld := ⟨0x50, 2687, 1, .ro, 1⟩
/-- HIF.RES_RESULT.STATUS (0x14C), R434, RO. R407. -/
def HIF_RES_RESULT_STATUS : Fld := ⟨0x50, 2656, 16, .ro, 0⟩
/-- HIF.FUNC_CTRL.STOP (0x150), R434, WO. R424. -/
def HIF_FUNC_CTRL_STOP : Fld := ⟨0x50, 2689, 1, .wo, 0⟩
/-- HIF.FUNC_CTRL.EN (0x150), R434, RW. 1: the function may fetch commands. Clearing it disables every queue of the function. -/
def HIF_FUNC_CTRL_EN : Fld := ⟨0x50, 2688, 1, .rw, 0⟩
/-- HIF.FUNC_STATUS.STOP_BUSY (0x154), R434, RO. R424. -/
def HIF_FUNC_STATUS_STOP_BUSY : Fld := ⟨0x50, 2722, 1, .ro, 0⟩
/-- HIF.FUNC_STATUS.PARTITION (0x154), R434, RO. The partition holds at least one quad. -/
def HIF_FUNC_STATUS_PARTITION : Fld := ⟨0x50, 2721, 1, .ro, 0⟩
/-- HIF.FUNC_STATUS.EN (0x154), R434, RO. Copy of FUNC_CTRL.EN. -/
def HIF_FUNC_STATUS_EN : Fld := ⟨0x50, 2720, 1, .ro, 0⟩
/-- HIF.EQ_DEFAULT.QUEUE (0x158), R434, RW. Local index of the default event queue (R18, R432). -/
def HIF_EQ_DEFAULT_QUEUE : Fld := ⟨0x50, 2752, 10, .rw, 0⟩
/-- QUE.CQ_SEL.QUEUE (0x100), R435, RW. Local index. Values at or above RES_CMDQ.COUNT are ignored. -/
def QUE_CQ_SEL_QUEUE : Fld := ⟨0x51, 2048, 12, .rw, 0⟩
/-- QUE.CQ_BASE.BASE (0x108), R435, RW. Ring bus address, 64-byte aligned. -/
def QUE_CQ_BASE_BASE : Fld := ⟨0x51, 2118, 58, .rw, 0⟩
/-- QUE.CQ_CFG.EQ (0x110), R435, RW. Local event queue for CMD_DONE. -/
def QUE_CQ_CFG_EQ : Fld := ⟨0x51, 2192, 10, .rw, 0⟩
/-- QUE.CQ_CFG.CLASS (0x110), R435, RW. R415. -/
def QUE_CQ_CFG_CLASS : Fld := ⟨0x51, 2184, 2, .rw, 1⟩
/-- QUE.CQ_CFG.LOG2SIZE (0x110), R435, RW. 6–16. Other values make EN writes ignored. -/
def QUE_CQ_CFG_LOG2SIZE : Fld := ⟨0x51, 2176, 5, .rw, 6⟩
/-- QUE.CQ_HEAD_WB.ADDR (0x118), R435, RW. R414. 0: no write-back. -/
def QUE_CQ_HEAD_WB_ADDR : Fld := ⟨0x51, 2243, 61, .rw, 0⟩
/-- QUE.CQ_CTRL.RESET (0x120), R435, WO. RST_CTX of the queue. The queue returns to DISABLED with every count at 0. -/
def QUE_CQ_CTRL_RESET : Fld := ⟨0x51, 2306, 1, .wo, 0⟩
/-- QUE.CQ_CTRL.RESUME (0x120), R435, WO. Clears FSTOP (R423). -/
def QUE_CQ_CTRL_RESUME : Fld := ⟨0x51, 2305, 1, .wo, 0⟩
/-- QUE.CQ_CTRL.EN (0x120), R435, RW. 1: ACTIVE. Clearing it stops fetching. Fetched commands complete. -/
def QUE_CQ_CTRL_EN : Fld := ⟨0x51, 2304, 1, .rw, 0⟩
/-- QUE.CQ_STATUS.STATE (0x124), R435, RO. 0 DISABLED, 1 ACTIVE, 2 STOPPED, 3 ERROR. -/
def QUE_CQ_STATUS_STATE : Fld := ⟨0x51, 2366, 2, .ro, 0⟩
/-- QUE.CQ_STATUS.QSTOP (0x124), R435, RO. Stopped by QUIESCE. -/
def QUE_CQ_STATUS_QSTOP : Fld := ⟨0x51, 2365, 1, .ro, 0⟩
/-- QUE.CQ_STATUS.FSTOP (0x124), R435, RO. Stopped by FENCE or STOP. -/
def QUE_CQ_STATUS_FSTOP : Fld := ⟨0x51, 2364, 1, .ro, 0⟩
/-- QUE.CQ_STATUS.LAST_ERR (0x124), R435, RO. Status of the last failed command or fetch. -/
def QUE_CQ_STATUS_LAST_ERR : Fld := ⟨0x51, 2336, 16, .ro, 0⟩
/-- QUE.CQ_TAIL.TAIL (0x128), R435, RO. Last accepted producer count. -/
def QUE_CQ_TAIL_TAIL : Fld := ⟨0x51, 2368, 32, .ro, 0⟩
/-- QUE.CQ_FETCHED.FETCHED (0x12C), R435, RO. R412. -/
def QUE_CQ_FETCHED_FETCHED : Fld := ⟨0x51, 2400, 32, .ro, 0⟩
/-- QUE.CQ_DONE.DONE (0x130), R435, RO. Commands completed. The progress counter for the host driver's watchdog. -/
def QUE_CQ_DONE_DONE : Fld := ⟨0x51, 2432, 64, .ro, 0⟩
/-- QUE.CQ_WAIT.SIG (0x138), R435, RO. Signal awaited, when OPCODE is SIGNAL_WAIT. -/
def QUE_CQ_WAIT_SIG : Fld := ⟨0x51, 2512, 16, .ro, 0⟩
/-- QUE.CQ_WAIT.OPCODE (0x138), R435, RO. Command holding the queue (R416). 0: none. -/
def QUE_CQ_WAIT_OPCODE : Fld := ⟨0x51, 2496, 8, .ro, 0⟩
/-- EVT.EQ_SEL.QUEUE (0x100), R436, RW. Local index. Values at or above RES_EVTQ.COUNT are ignored. -/
def EVT_EQ_SEL_QUEUE : Fld := ⟨0x52, 2048, 10, .rw, 0⟩
/-- EVT.EQ_BASE.BASE (0x108), R436, RW. Ring bus address, 32-byte aligned. -/
def EVT_EQ_BASE_BASE : Fld := ⟨0x52, 2117, 59, .rw, 0⟩
/-- EVT.EQ_CFG.MSIX_EN (0x110), R436, RW. R431. -/
def EVT_EQ_CFG_MSIX_EN : Fld := ⟨0x52, 2207, 1, .rw, 0⟩
/-- EVT.EQ_CFG.VECTOR (0x110), R436, RW. MSI-X table entry. -/
def EVT_EQ_CFG_VECTOR : Fld := ⟨0x52, 2192, 10, .rw, 0⟩
/-- EVT.EQ_CFG.LOG2SIZE (0x110), R436, RW. 6–16. Other values make writes of EQ_CTRL.EN = 1 ignored. -/
def EVT_EQ_CFG_LOG2SIZE : Fld := ⟨0x52, 2176, 5, .rw, 6⟩
/-- EVT.EQ_MOD.COAL_US (0x114), R436, RW. R431. -/
def EVT_EQ_MOD_COAL_US : Fld := ⟨0x52, 2224, 16, .rw, 20⟩
/-- EVT.EQ_MOD.COAL_COUNT (0x114), R436, RW. R431. -/
def EVT_EQ_MOD_COAL_COUNT : Fld := ⟨0x52, 2208, 16, .rw, 16⟩
/-- EVT.EQ_LIMIT.MERGE_WIN (0x118), R436, RW. µs, 1–65,535. A write with MERGE_WIN 0 or RATE 0 is ignored as a whole. -/
def EVT_EQ_LIMIT_MERGE_WIN : Fld := ⟨0x52, 2256, 16, .rw, 100⟩
/-- EVT.EQ_LIMIT.RATE (0x118), R436, RW. Records per source page and class per ms, 1–65,535 (R428). A write with RATE 0 is ignored as a whole. -/
def EVT_EQ_LIMIT_RATE : Fld := ⟨0x52, 2240, 16, .rw, 256⟩
/-- EVT.EQ_CTRL.EN (0x120), R436, RW. 1: ACTIVE, with EQ_PROD and EQ_CONS set to 0. Clearing it acts under R432. -/
def EVT_EQ_CTRL_EN : Fld := ⟨0x52, 2304, 1, .rw, 0⟩
/-- EVT.EQ_STATUS.STATE (0x124), R436, RO. 0 DISABLED, 1 ACTIVE, 3 ERROR. 2 reserved. -/
def EVT_EQ_STATUS_STATE : Fld := ⟨0x52, 2366, 2, .ro, 0⟩
/-- EVT.EQ_STATUS.PHASE (0x124), R436, RO. PHASE of the next record. -/
def EVT_EQ_STATUS_PHASE : Fld := ⟨0x52, 2365, 1, .ro, 1⟩
/-- EVT.EQ_STATUS.PENDING (0x124), R436, RO. Records waiting, 0–16. -/
def EVT_EQ_STATUS_PENDING : Fld := ⟨0x52, 2336, 5, .ro, 0⟩
/-- EVT.EQ_PROD.COUNT (0x128), R436, RO. Records written, and the last accepted consumption count. -/
def EVT_EQ_PROD_COUNT : Fld := ⟨0x52, 2368, 32, .ro, 0⟩
/-- EVT.EQ_CONS.COUNT (0x12C), R436, RO. Records written, and the last accepted consumption count. -/
def EVT_EQ_CONS_COUNT : Fld := ⟨0x52, 2400, 32, .ro, 0⟩
/-- EVT.EQ_DROP.COUNTS (0x130), R436, RO. Drops since the last LOST record, laid out as the LOST payload. -/
def EVT_EQ_DROP_COUNTS : Fld := ⟨0x52, 2432, 64, .ro, 0⟩
/-- PWR.ENV_SET.SLOPE (0x100), R470, RWS. Host slope, W/ms, 1–1,000. -/
def PWR_ENV_SET_SLOPE : Fld := ⟨0x12, 2064, 16, .rws, 40⟩
/-- PWR.ENV_SET.SETPOINT (0x100), R470, RWS. Host setpoint, W (R453). -/
def PWR_ENV_SET_SETPOINT : Fld := ⟨0x12, 2048, 16, .rws, 600⟩
/-- PWR.ENV_CTRL.SRC (0x104), R470, RW. 0 host, 1 tray, 2 lower of both. 3 reserved. -/
def PWR_ENV_CTRL_SRC : Fld := ⟨0x12, 2080, 2, .rw, 2⟩
/-- PWR.CAP.CAP (0x108), R470, RWS. W, 150–750. -/
def PWR_CAP_CAP : Fld := ⟨0x12, 2112, 16, .rws, 600⟩
/-- PWR.ENV_STATUS.TARGET (0x10C), R470, RO. P_TARGET, W. -/
def PWR_ENV_STATUS_TARGET : Fld := ⟨0x12, 2160, 16, .ro, 600⟩
/-- PWR.ENV_STATUS.P_ENV (0x10C), R470, RO. P_ENV, W, rounded down. -/
def PWR_ENV_STATUS_P_ENV : Fld := ⟨0x12, 2144, 16, .ro, 600⟩
/-- PWR.TRAY_SET.SLOPE (0x110), R470, RO. Tray source as received. -/
def PWR_TRAY_SET_SLOPE : Fld := ⟨0x12, 2192, 16, .ro, 40⟩
/-- PWR.TRAY_SET.SETPOINT (0x110), R470, RO. Tray source as received. -/
def PWR_TRAY_SET_SETPOINT : Fld := ⟨0x12, 2176, 16, .ro, 600⟩
/-- PWR.RAMP.QUENCH_LVL (0x114), R470, RW. 0–64 (R466). -/
def PWR_RAMP_QUENCH_LVL : Fld := ⟨0x12, 2224, 8, .rw, 4⟩
/-- PWR.RAMP.RAMP_DOWN (0x114), R470, RW. Steps per µs, 1–16. -/
def PWR_RAMP_RAMP_DOWN : Fld := ⟨0x12, 2216, 8, .rw, 2⟩
/-- PWR.RAMP.RAMP_UP (0x114), R470, RW. Steps per µs, 1–16. -/
def PWR_RAMP_RAMP_UP : Fld := ⟨0x12, 2208, 8, .rw, 1⟩
/-- PWR.LIMIT.CEIL (0x120, 16 of them), R470, RO. In LIMITm, byte d is CEIL of CG(4m + d). -/
def PWR_LIMIT_CEIL (m : Nat) : Fld := ⟨0x12, 2304 + 8 * m, 8, .ro, 64⟩
/-- PWR.P_MODULE.MW (0x130), R470, RO. P_MODULE of the last millisecond. -/
def PWR_P_MODULE_MW : Fld := ⟨0x12, 2432, 32, .ro, 0⟩
/-- PWR.TELEM_BASE.ADDR (0x138), R470, RW. Ring address, 128-byte aligned (R451). -/
def PWR_TELEM_BASE_ADDR : Fld := ⟨0x12, 2503, 41, .rw, 0⟩
/-- PWR.TELEM_CTRL.EN (0x140), R470, RW. Write the ring. -/
def PWR_TELEM_CTRL_EN : Fld := ⟨0x12, 2591, 1, .rw, 0⟩
/-- PWR.TELEM_CTRL.FLOW_EN (0x140), R470, RW. Send on FLOW. -/
def PWR_TELEM_CTRL_FLOW_EN : Fld := ⟨0x12, 2590, 1, .rw, 0⟩
/-- PWR.TELEM_CTRL.FLOW (0x140), R470, RW. FLOW_ID, VC3. -/
def PWR_TELEM_CTRL_FLOW : Fld := ⟨0x12, 2568, 20, .rw, 0⟩
/-- PWR.TELEM_CTRL.LOG2SLOTS (0x140), R470, RW. 4–16. -/
def PWR_TELEM_CTRL_LOG2SLOTS : Fld := ⟨0x12, 2560, 5, .rw, 6⟩
/-- PWR.TELEM_SEQ.SEQ (0x144), R470, RO. SEQ of the last record. -/
def PWR_TELEM_SEQ_SEQ : Fld := ⟨0x12, 2592, 32, .ro, 0⟩
/-- PWR.DOM_CTRL.ON (0x150), R470, RW. Bit d in the order of R450 requests domain d on (R443). Reset: per boot. -/
def PWR_DOM_CTRL_ON : Fld := ⟨0x12, 2688, 25, .rw, 0⟩
/-- PWR.DOM_STATUS.ON (0x154), R470, RO. Domains on. Reset: per boot. -/
def PWR_DOM_STATUS_ON : Fld := ⟨0x12, 2720, 25, .ro, 0⟩
/-- PWR.DOM_RESULT.DONE (0x158), R470, RO. The last request has completed. -/
def PWR_DOM_RESULT_DONE : Fld := ⟨0x12, 2783, 1, .ro, 1⟩
/-- PWR.DOM_RESULT.STATUS (0x158), R470, RO. Its status. -/
def PWR_DOM_RESULT_STATUS : Fld := ⟨0x12, 2752, 16, .ro, 0⟩
/-- PWR.SEG_FAIL.FAILED (0x160, 16 of them), R470, RO. In SEG_FAILnn, bit s is segment s of CGnn failed. Reset: per module. -/
def PWR_SEG_FAIL_FAILED (m : Nat) : Fld := ⟨0x12, 2816 + 32 * m, 32, .ro, 0⟩
/-- PWR.SEG_STATE.STATE (0x1A0, 16 of them), R470, RO. 0 full, 1 absorbed, 2 capped, 3 fenced (R447). Reset: per module. -/
def PWR_SEG_STATE_STATE (m : Nat) : Fld := ⟨0x12, 3328 + 2 * m, 2, .ro, 0⟩
/-- PWR.IC_IDX.DOMAIN (0x1A8), R470, RW. Domain shown by IC_DATA. -/
def PWR_IC_IDX_DOMAIN : Fld := ⟨0x12, 3392, 5, .rw, 0⟩
/-- PWR.IC_DATA.R_BASE (0x1B0), R470, RO. Baseline resistance, nΩ. Reset: per module. -/
def PWR_IC_DATA_R_BASE : Fld := ⟨0x12, 3488, 32, .ro, 0⟩
/-- PWR.IC_DATA.RATIO (0x1B0), R470, RO. Last Q in 1/1,024 units (R449). -/
def PWR_IC_DATA_RATIO : Fld := ⟨0x12, 3472, 16, .ro, 0⟩
/-- PWR.ENERGY.UJ (0x1B8), R470, RO. Module energy since power-on (R452). -/
def PWR_ENERGY_UJ : Fld := ⟨0x12, 3520, 64, .ro, 0⟩
/-- PWR.EN_IDX.FUNC (0x1C0), R470, RW. 0 selects a domain, 0–24, or 25 for unattributed energy. 1 selects a function. -/
def PWR_EN_IDX_FUNC : Fld := ⟨0x12, 3592, 1, .rw, 0⟩
/-- PWR.EN_IDX.INDEX (0x1C0), R470, RW. Domain or function. -/
def PWR_EN_IDX_INDEX : Fld := ⟨0x12, 3584, 8, .rw, 0⟩
/-- PWR.EN_DATA.UJ (0x1C8), R470, RO. Energy of the selection since power-on. -/
def PWR_EN_DATA_UJ : Fld := ⟨0x12, 3648, 64, .ro, 0⟩
/-- PWR.THERM_CTRL.RESTART (0x1D0), R470, WO. R469. -/
def PWR_THERM_CTRL_RESTART : Fld := ⟨0x12, 3743, 1, .wo, 0⟩
/-- PWR.THERM_CTRL.T_WARN (0x1D0), R470, RW. °C, 80–110. -/
def PWR_THERM_CTRL_T_WARN : Fld := ⟨0x12, 3720, 8, .rw, 95⟩
/-- PWR.THERM_CTRL.T_THROTTLE (0x1D0), R470, RW. °C, 85–110. -/
def PWR_THERM_CTRL_T_THROTTLE : Fld := ⟨0x12, 3712, 8, .rw, 100⟩
/-- PWR.THERM_STATUS.RESTART_STATUS (0x1D4), R470, RO. Status of the last restart. -/
def PWR_THERM_STATUS_RESTART_STATUS : Fld := ⟨0x12, 3760, 16, .ro, 0⟩
/-- PWR.THERM_STATUS.TRIP (0x1D4), R470, RO. R468. -/
def PWR_THERM_STATUS_TRIP : Fld := ⟨0x12, 3756, 1, .ro, 0⟩
/-- PWR.THERM_STATUS.AIRFLOW (0x1D4), R470, RO. AIRFLOW_FAIL_N asserted. -/
def PWR_THERM_STATUS_AIRFLOW : Fld := ⟨0x12, 3755, 1, .ro, 0⟩
/-- PWR.THERM_STATUS.QUENCH (0x1D4), R470, RO. QUENCH_N asserted. -/
def PWR_THERM_STATUS_QUENCH : Fld := ⟨0x12, 3754, 1, .ro, 0⟩
/-- PWR.THERM_STATUS.HALTED (0x1D4), R470, RO. R467. -/
def PWR_THERM_STATUS_HALTED : Fld := ⟨0x12, 3753, 1, .ro, 0⟩
/-- PWR.THERM_STATUS.THROTTLING (0x1D4), R470, RO. THERM_LIMIT below 64. -/
def PWR_THERM_STATUS_THROTTLING : Fld := ⟨0x12, 3752, 1, .ro, 0⟩
/-- PWR.THERM_STATUS.TJ (0x1D4), R470, RO. °C. -/
def PWR_THERM_STATUS_TJ : Fld := ⟨0x12, 3744, 8, .ro, 0⟩
/-- PWR.TRIM.TRIM (0x1E0, 16 of them), R470, RO. In TRIMm, byte d is TRIM of CG(4m + d), in 1.25 mV units, 0–40. Reset: from log. -/
def PWR_TRIM_TRIM (m : Nat) : Fld := ⟨0x12, 3840 + 8 * m, 8, .ro, 0⟩
/-- PWR.MARGIN_CFG.FLOOR (0x1F0), R470, RW. 1/256 cycle, 1–64 (R463). -/
def PWR_MARGIN_CFG_FLOOR : Fld := ⟨0x12, 3968, 8, .rw, 8⟩
/-- PWR.MARGIN_IDX.CLUSTER (0x1F8), R470, RW. Cluster shown by MARGIN. -/
def PWR_MARGIN_IDX_CLUSTER : Fld := ⟨0x12, 4032, 6, .rw, 0⟩
/-- PWR.MARGIN.LOW (0x1FC), R470, RO. Lowest slack since power-on. -/
def PWR_MARGIN_LOW : Fld := ⟨0x12, 4072, 8, .ro, 255⟩
/-- PWR.MARGIN.SLACK (0x1FC), R470, RO. Last sample. -/
def PWR_MARGIN_SLACK : Fld := ⟨0x12, 4064, 8, .ro, 0⟩
/-- CLK.OPP.FREQ (0x100, 8 of them), R471, RO. MHz. Reset: R459. -/
def CLK_OPP_FREQ (m : Nat) : Fld := ⟨0x13, 2064 + 32 * m, 16, .ro, 0⟩
/-- CLK.OPP.VOP (0x100, 8 of them), R471, RO. mV. Reset: R459. -/
def CLK_OPP_VOP (m : Nat) : Fld := ⟨0x13, 2048 + 32 * m, 16, .ro, 0⟩
/-- CLK.CLK_CTRL.AUTO (0x120), R471, RW. 1: the governor schedules changes. -/
def CLK_CLK_CTRL_AUTO : Fld := ⟨0x13, 2304, 1, .rw, 1⟩
/-- CLK.OPP_LIMIT.OPP (0x124), R471, RO. R464. -/
def CLK_OPP_LIMIT_OPP : Fld := ⟨0x13, 2336, 3, .ro, 7⟩
/-- CLK.FREQ_REQ.OPP (0x128), R471, RW. Target of the next change. -/
def CLK_FREQ_REQ_OPP : Fld := ⟨0x13, 2368, 3, .rw, 4⟩
/-- CLK.FREQ_TBC.TBC (0x130), R471, RW. A write schedules or cancels a change (R459). -/
def CLK_FREQ_TBC_TBC : Fld := ⟨0x13, 2432, 64, .rw, 0⟩
/-- CLK.FREQ_STATUS.FREQ (0x138), R471, RO. MHz in use. -/
def CLK_FREQ_STATUS_FREQ : Fld := ⟨0x13, 2512, 16, .ro, 1000⟩
/-- CLK.FREQ_STATUS.PEND (0x138), R471, RO. A change is pending. -/
def CLK_FREQ_STATUS_PEND : Fld := ⟨0x13, 2504, 1, .ro, 0⟩
/-- CLK.FREQ_STATUS.PEND_OPP (0x138), R471, RO. Its target. -/
def CLK_FREQ_STATUS_PEND_OPP : Fld := ⟨0x13, 2500, 3, .ro, 0⟩
/-- CLK.FREQ_STATUS.OPP (0x138), R471, RO. Point in use. -/
def CLK_FREQ_STATUS_OPP : Fld := ⟨0x13, 2496, 3, .ro, 4⟩
/-- CLK.FREQ_RESULT.DONE (0x13C), R471, RO. The last request has completed or been refused. -/
def CLK_FREQ_RESULT_DONE : Fld := ⟨0x13, 2559, 1, .ro, 1⟩
/-- CLK.FREQ_RESULT.STATUS (0x13C), R471, RO. Its status. -/
def CLK_FREQ_RESULT_STATUS : Fld := ⟨0x13, 2528, 16, .ro, 0⟩
/-- CLK.LAST_CHANGE_TBC.TBC (0x140), R471, RO. Edge of the last change. -/
def CLK_LAST_CHANGE_TBC_TBC : Fld := ⟨0x13, 2560, 64, .ro, 0⟩
/-- CLK.HST_FREQ.BUSY (0x148), R471, RO. R462. -/
def CLK_HST_FREQ_BUSY : Fld := ⟨0x13, 2655, 1, .ro, 0⟩
/-- CLK.HST_FREQ.MHZ (0x148), R471, RW. 400–2,200. -/
def CLK_HST_FREQ_MHZ : Fld := ⟨0x13, 2624, 12, .rw, 1600⟩
/-- KPR.HEARTBEAT.COUNT (0x400), R497, RO. Main-loop count (R476). Reset only at AON power-on. -/
def KPR_HEARTBEAT_COUNT : Fld := ⟨0x11, 8192, 64, .ro, 0⟩
/-- KPR.KSTATE.STATE (0x408), R497, RO. 0 ROM, 1 firmware running, 2 Fog mode, 3 RESTARTING (R477). Other values reserved. -/
def KPR_KSTATE_STATE : Fld := ⟨0x11, 8284, 4, .ro, 0⟩
/-- KPR.KSTATE.RESTARTS (0x408), R497, RO. Watchdog expiries in the last hour, 0–3. -/
def KPR_KSTATE_RESTARTS : Fld := ⟨0x11, 8272, 8, .ro, 0⟩
/-- KPR.RST_STATUS.CHIP_PEND (0x410), R497, RO. RST_CHIP is pending or in progress. -/
def KPR_RST_STATUS_CHIP_PEND : Fld := ⟨0x11, 8351, 1, .ro, 0⟩
/-- KPR.RST_STATUS.LAST_LEVEL (0x410), R497, RO. Level of the last reset, coded as in the dump header CAUSE field. -/
def KPR_RST_STATUS_LAST_LEVEL : Fld := ⟨0x11, 8344, 3, .ro, 0⟩
/-- KPR.RST_STATUS.ESCALATIONS (0x410), R497, RO. Escalations since AON power-on, saturating at 255. -/
def KPR_RST_STATUS_ESCALATIONS : Fld := ⟨0x11, 8336, 8, .ro, 0⟩
/-- KPR.RST_STATUS.LAST_STATUS (0x410), R497, RO. Status of the last reset. -/
def KPR_RST_STATUS_LAST_STATUS : Fld := ⟨0x11, 8320, 16, .ro, 0⟩
/-- KPR.RST_LAST_TBC.TBC (0x418), R497, RO. Completion time of the last reset. -/
def KPR_RST_LAST_TBC_TBC : Fld := ⟨0x11, 8384, 64, .ro, 0⟩
/-- KPR.TEST_CTRL.SUSPENDED (0x420), R497, RO. Unit and test pairs suspended (R496). -/
def KPR_TEST_CTRL_SUSPENDED : Fld := ⟨0x11, 8464, 16, .ro, 0⟩
/-- KPR.TEST_CTRL.RESUME (0x420), R497, WO. Write 1 to resume every suspended test. -/
def KPR_TEST_CTRL_RESUME : Fld := ⟨0x11, 8448, 1, .wo, 0⟩
/-- HIF.DUMP_BASE.ADDR (0xB00), R498, RW. Buffer bus address, 4 KiB aligned. -/
def HIF_DUMP_BASE_ADDR : Fld := ⟨0x50, 22540, 52, .rw, 0⟩
/-- HIF.DUMP_LEN.LEN (0xB08), R498, RW. Buffer bytes, a multiple of 4 KiB. Below 64 KiB: no buffer (R486). -/
def HIF_DUMP_LEN_LEN : Fld := ⟨0x50, 22592, 32, .rw, 0⟩
/-- HIF.DUMP_CFG.OVERWRITE (0xB0C), R498, RW. 1: a new dump replaces an unread one. -/
def HIF_DUMP_CFG_OVERWRITE : Fld := ⟨0x50, 22655, 1, .rw, 0⟩
/-- HIF.DUMP_CFG.ENG (0xB0C), R498, RW. 1: dump before RST_ENG (R484). -/
def HIF_DUMP_CFG_ENG : Fld := ⟨0x50, 22654, 1, .rw, 0⟩
/-- HIF.DUMP_CFG.MAX_MS (0xB0C), R498, RW. Dump time limit, 1–200 ms. -/
def HIF_DUMP_CFG_MAX_MS : Fld := ⟨0x50, 22640, 8, .rw, 10⟩
/-- HIF.DUMP_CFG.STRIDE_LOG2 (0xB0C), R498, RW. Sample stride, 12–19. -/
def HIF_DUMP_CFG_STRIDE_LOG2 : Fld := ⟨0x50, 22632, 5, .rw, 12⟩
/-- HIF.DUMP_CFG.LEN_LOG2 (0xB0C), R498, RW. Sample length, 6–12. A write with LEN_LOG2 > STRIDE_LOG2 is ignored as a whole. -/
def HIF_DUMP_CFG_LEN_LOG2 : Fld := ⟨0x50, 22624, 4, .rw, 6⟩
/-- HIF.DUMP_CTRL.GO (0xB10), R498, WO. Write 1 for a dump without reset. Ignored while BUSY is 1. -/
def HIF_DUMP_CTRL_GO : Fld := ⟨0x50, 22687, 1, .wo, 0⟩
/-- HIF.DUMP_STATUS.VALID (0xB14), R498, RW1C. The buffer holds an unread dump. -/
def HIF_DUMP_STATUS_VALID : Fld := ⟨0x50, 22719, 1, .rw1c, 0⟩
/-- HIF.DUMP_STATUS.BUSY (0xB14), R498, RO. A dump is being written. -/
def HIF_DUMP_STATUS_BUSY : Fld := ⟨0x50, 22718, 1, .ro, 0⟩
/-- HIF.DUMP_STATUS.TRUNCATED (0xB14), R498, RO. As the dump header. -/
def HIF_DUMP_STATUS_TRUNCATED : Fld := ⟨0x50, 22717, 1, .ro, 0⟩
/-- HIF.DUMP_STATUS.TIMED_OUT (0xB14), R498, RO. As the dump header. -/
def HIF_DUMP_STATUS_TIMED_OUT : Fld := ⟨0x50, 22716, 1, .ro, 0⟩
/-- HIF.DUMP_STATUS.STATUS (0xB14), R498, RO. OK or a code of group 0x08. -/
def HIF_DUMP_STATUS_STATUS : Fld := ⟨0x50, 22688, 16, .ro, 0⟩
/-- HIF.DUMP_MISSED.COUNT (0xB18), R498, RO. Causes not dumped (R486, R490), saturating. -/
def HIF_DUMP_MISSED_COUNT : Fld := ⟨0x50, 22720, 32, .ro, 0⟩
/-- HIF.DUMP_SIZE.BYTES (0xB1C), R498, RO. Bytes of the last dump, header included. -/
def HIF_DUMP_SIZE_BYTES : Fld := ⟨0x50, 22752, 32, .ro, 0⟩
/-- LOG.LOG_STATUS.STATE (0x100), R530, RO. 0 REPLAYING, 1 READY, 2 DEGRADED (one device failed), 3 LOST (both failed). Other values reserved. -/
def LOG_LOG_STATUS_STATE : Fld := ⟨0x14, 2076, 4, .ro, 0⟩
/-- LOG.LOG_STATUS.THROTTLED (0x100), R530, RO. R516. -/
def LOG_LOG_STATUS_THROTTLED : Fld := ⟨0x14, 2075, 1, .ro, 0⟩
/-- LOG.LOG_STATUS.FL1_FAIL (0x100), R530, RO. R509. -/
def LOG_LOG_STATUS_FL1_FAIL : Fld := ⟨0x14, 2074, 1, .ro, 0⟩
/-- LOG.LOG_STATUS.FL0_FAIL (0x100), R530, RO. R509. -/
def LOG_LOG_STATUS_FL0_FAIL : Fld := ⟨0x14, 2073, 1, .ro, 0⟩
/-- LOG.LOG_STATUS.INC_OPEN (0x100), R530, RO. An incident is open. -/
def LOG_LOG_STATUS_INC_OPEN : Fld := ⟨0x14, 2072, 1, .ro, 0⟩
/-- LOG.LOG_STATUS.STATE_QUEUED (0x100), R530, RO. State records waiting (R508). -/
def LOG_LOG_STATUS_STATE_QUEUED : Fld := ⟨0x14, 2048, 16, .ro, 0⟩
/-- LOG.HEAD_SEQ.SEQ (0x108), R530, RO. SEQ of the newest committed record. -/
def LOG_HEAD_SEQ_SEQ : Fld := ⟨0x14, 2112, 64, .ro, 0⟩
/-- LOG.OLDEST_SEQ.SEQ (0x110), R530, RO. SEQ of the oldest record held. -/
def LOG_OLDEST_SEQ_SEQ : Fld := ⟨0x14, 2176, 64, .ro, 0⟩
/-- LOG.CKPT_SEQ.SEQ (0x118), R530, RO. CKPT_BEGIN SEQ of the newest complete checkpoint. -/
def LOG_CKPT_SEQ_SEQ : Fld := ⟨0x14, 2240, 64, .ro, 0⟩
/-- LOG.WEAR.SPARE1 (0x120), R530, RO. Spare sectors left on FL1 and FL0, 0–480. Reset: per device. -/
def LOG_WEAR_SPARE1 : Fld := ⟨0x14, 2352, 16, .ro, 0⟩
/-- LOG.WEAR.SPARE0 (0x120), R530, RO. Spare sectors left on FL1 and FL0, 0–480. Reset: per device. -/
def LOG_WEAR_SPARE0 : Fld := ⟨0x14, 2336, 16, .ro, 0⟩
/-- LOG.WEAR.ERASE1 (0x120), R530, RO. Highest journal ERASE_COUNT on FL1 and FL0. Reset: per device. -/
def LOG_WEAR_ERASE1 : Fld := ⟨0x14, 2320, 16, .ro, 0⟩
/-- LOG.WEAR.ERASE0 (0x120), R530, RO. Highest journal ERASE_COUNT on FL1 and FL0. Reset: per device. -/
def LOG_WEAR_ERASE0 : Fld := ⟨0x14, 2304, 16, .ro, 0⟩
/-- LOG.BUDGET.KIB1 (0x128), R530, RO. KiB programmed in the last 30 days on FL1 and FL0 (R516). -/
def LOG_BUDGET_KIB1 : Fld := ⟨0x14, 2400, 32, .ro, 0⟩
/-- LOG.BUDGET.KIB0 (0x128), R530, RO. KiB programmed in the last 30 days on FL1 and FL0 (R516). -/
def LOG_BUDGET_KIB0 : Fld := ⟨0x14, 2368, 32, .ro, 0⟩
/-- LOG.INCIDENT.OPEN (0x130), R530, RO. As INC_OPEN. -/
def LOG_INCIDENT_OPEN : Fld := ⟨0x14, 2464, 1, .ro, 0⟩
/-- LOG.INCIDENT.NUMBER (0x130), R530, RO. Current or last incident number. -/
def LOG_INCIDENT_NUMBER : Fld := ⟨0x14, 2432, 32, .ro, 0⟩
/-- LOG.READ_BASE.ADDR (0x140), R530, RW. Host bus address, 64-byte aligned. -/
def LOG_READ_BASE_ADDR : Fld := ⟨0x14, 2566, 58, .rw, 0⟩
/-- LOG.READ_LEN.LEN (0x148), R530, RW. Buffer bytes, multiple of 64. -/
def LOG_READ_LEN_LEN : Fld := ⟨0x14, 2624, 32, .rw, 0⟩
/-- LOG.READ_START.SEQ (0x150), R530, RW. First SEQ. 0: the oldest. -/
def LOG_READ_START_SEQ : Fld := ⟨0x14, 2688, 64, .rw, 0⟩
/-- LOG.READ_FILTER.TYPE_HI (0x158), R530, RW. Records whose TYPE lies in TYPE_LO to TYPE_HI. -/
def LOG_READ_FILTER_TYPE_HI : Fld := ⟨0x14, 2768, 16, .rw, 65535⟩
/-- LOG.READ_FILTER.TYPE_LO (0x158), R530, RW. Records whose TYPE lies in TYPE_LO to TYPE_HI. -/
def LOG_READ_FILTER_TYPE_LO : Fld := ⟨0x14, 2752, 16, .rw, 0⟩
/-- LOG.READ_CTRL.GO (0x160), R530, WO. Starts a read (R528). Ignored while READ_RESULT.DONE is 0. -/
def LOG_READ_CTRL_GO : Fld := ⟨0x14, 2847, 1, .wo, 0⟩
/-- LOG.READ_RESULT.DONE (0x164), R530, RO. The last read has completed. -/
def LOG_READ_RESULT_DONE : Fld := ⟨0x14, 2879, 1, .ro, 1⟩
/-- LOG.READ_RESULT.GAP (0x164), R530, RO. R528. -/
def LOG_READ_RESULT_GAP : Fld := ⟨0x14, 2878, 1, .ro, 0⟩
/-- LOG.READ_RESULT.COUNT (0x164), R530, RO. Records copied, 0–4,096. -/
def LOG_READ_RESULT_COUNT : Fld := ⟨0x14, 2864, 13, .ro, 0⟩
/-- LOG.READ_RESULT.STATUS (0x164), R530, RO. OK, LOG_NOT_READY or HOST_ERROR (0x0604). -/
def LOG_READ_RESULT_STATUS : Fld := ⟨0x14, 2848, 16, .ro, 0⟩
/-- LOG.READ_NEXT.SEQ (0x168), R530, RO. R528. -/
def LOG_READ_NEXT_SEQ : Fld := ⟨0x14, 2880, 64, .ro, 0⟩
/-- LOG.RMAP_CTRL.DEFERRED (0x180), R530, RW1C. A flip was deferred (R360). -/
def LOG_RMAP_CTRL_DEFERRED : Fld := ⟨0x14, 3075, 1, .rw1c, 0⟩
/-- LOG.RMAP_CTRL.FLIP_ARM (0x180), R530, RW. As XLT_CTRL.FLIP_ARM. -/
def LOG_RMAP_CTRL_FLIP_ARM : Fld := ⟨0x14, 3074, 1, .rw, 0⟩
/-- LOG.RMAP_CTRL.SHADOW_READY (0x180), R530, RW. Shadow bank complete. Cleared by a flip. -/
def LOG_RMAP_CTRL_SHADOW_READY : Fld := ⟨0x14, 3073, 1, .rw, 0⟩
/-- LOG.RMAP_CTRL.ACTIVE (0x180), R530, RO. Active bank. -/
def LOG_RMAP_CTRL_ACTIVE : Fld := ⟨0x14, 3072, 1, .ro, 0⟩
/-- LOG.RMAP_FLIP_TBC.TBC (0x188), R530, RW. Flip time. A write sets FLIP_ARM. -/
def LOG_RMAP_FLIP_TBC_TBC : Fld := ⟨0x14, 3136, 64, .rw, 0⟩
/-- LOG.RMAP_IDX.IDX (0x190), R530, RW. Entry accessed. -/
def LOG_RMAP_IDX_IDX : Fld := ⟨0x14, 3200, 14, .rw, 0⟩
/-- LOG.RMAP_DATA.ENTRY (0x198), R530, RW. Shadow entry at IDX (R527). -/
def LOG_RMAP_DATA_ENTRY : Fld := ⟨0x14, 3264, 64, .rw, 0⟩
/-- LOG.RMAP_COUNT.FULL (0x1A0), R530, RO. R527. -/
def LOG_RMAP_COUNT_FULL : Fld := ⟨0x14, 3359, 1, .ro, 0⟩
/-- LOG.RMAP_COUNT.COUNT (0x1A0), R530, RO. Entries in use, 0–16,384. -/
def LOG_RMAP_COUNT_COUNT : Fld := ⟨0x14, 3328, 15, .ro, 0⟩
/-- LOG.KEY_CMD.GO (0x1C0), R530, WO. Starts OP. Ignored while KEY_STATUS.BUSY is 1, except ABORT. -/
def LOG_KEY_CMD_GO : Fld := ⟨0x14, 3615, 1, .wo, 0⟩
/-- LOG.KEY_CMD.OP (0x1C0), R530, RW. 1 GENERATE, 2 INSTALL, 3 ABORT. 0: none. -/
def LOG_KEY_CMD_OP : Fld := ⟨0x14, 3584, 2, .rw, 0⟩
/-- LOG.KEY_BUF.ADDR (0x1C8), R530, RW. Host buffer for R524, 64-byte aligned. -/
def LOG_KEY_BUF_ADDR : Fld := ⟨0x14, 3654, 58, .rw, 0⟩
/-- LOG.KEY_BUF_LEN.LEN (0x1D0), R530, RW. Buffer bytes, at most 256 KiB. -/
def LOG_KEY_BUF_LEN_LEN : Fld := ⟨0x14, 3712, 32, .rw, 0⟩
/-- LOG.KEY_STATUS.BUSY (0x1D4), R530, RO. An operation is in progress. -/
def LOG_KEY_STATUS_BUSY : Fld := ⟨0x14, 3775, 1, .ro, 0⟩
/-- LOG.KEY_STATUS.STAGED (0x1D4), R530, RO. A GENERATE is staged. -/
def LOG_KEY_STATUS_STAGED : Fld := ⟨0x14, 3774, 1, .ro, 0⟩
/-- LOG.KEY_STATUS.ACTIVE (0x1D4), R530, RO. Active slot, 0 K0 or 1 K1. Reset: per module. -/
def LOG_KEY_STATUS_ACTIVE : Fld := ⟨0x14, 3772, 1, .ro, 0⟩
/-- LOG.KEY_STATUS.GEN (0x1D4), R530, RO. Generation of the active slot. Reset: per module. -/
def LOG_KEY_STATUS_GEN : Fld := ⟨0x14, 3764, 8, .ro, 0⟩
/-- LOG.KEY_STATUS.STATUS (0x1D4), R530, RO. Status of the last operation. -/
def LOG_KEY_STATUS_STATUS : Fld := ⟨0x14, 3744, 16, .ro, 0⟩
/-- LOG.OTP_COUNT.TRUST_GEN (0x1E0), R530, RO. R521. Reset: per module. -/
def LOG_OTP_COUNT_TRUST_GEN : Fld := ⟨0x14, 3856, 8, .ro, 0⟩
/-- LOG.OTP_COUNT.KEY_GEN (0x1E0), R530, RO. R521. Reset: per module. -/
def LOG_OTP_COUNT_KEY_GEN : Fld := ⟨0x14, 3848, 8, .ro, 0⟩
/-- LOG.OTP_COUNT.FW_SVN (0x1E0), R530, RO. R521. Reset: per module. -/
def LOG_OTP_COUNT_FW_SVN : Fld := ⟨0x14, 3840, 8, .ro, 0⟩
/-- FWU.FWU_BUF.ADDR (0x100), R550, RW. Host bus address of the image, 64-byte aligned. -/
def FWU_FWU_BUF_ADDR : Fld := ⟨0x15, 2054, 58, .rw, 0⟩
/-- FWU.FWU_LEN.LEN (0x108), R550, RW. Image bytes. It must equal 8,448 + LENGTH, or STAGE completes with FW_LENGTH. -/
def FWU_FWU_LEN_LEN : Fld := ⟨0x15, 2112, 32, .rw, 0⟩
/-- FWU.FWU_CTRL.AUTO_CONFIRM (0x110), R550, RWS. R540. -/
def FWU_FWU_CTRL_AUTO_CONFIRM : Fld := ⟨0x15, 2207, 1, .rws, 1⟩
/-- FWU.FWU_CTRL.CONFIRM_S (0x110), R550, RWS. Seconds, 10–65,535. Other values are ignored. -/
def FWU_FWU_CTRL_CONFIRM_S : Fld := ⟨0x15, 2176, 16, .rws, 600⟩
/-- FWU.FWU_CMD.GO (0x114), R550, WO. Starts OP. Ignored while BUSY is 1, except for ABORT. -/
def FWU_FWU_CMD_GO : Fld := ⟨0x15, 2239, 1, .wo, 0⟩
/-- FWU.FWU_CMD.RESTART (0x114), R550, RW. R539. -/
def FWU_FWU_CMD_RESTART : Fld := ⟨0x15, 2216, 1, .rw, 0⟩
/-- FWU.FWU_CMD.OP (0x114), R550, RW. 1 STAGE, 2 ACTIVATE, 3 CONFIRM, 4 COMMIT_SVN, 5 ABORT, 6 EXIT_FOG. Others are reserved, and EXIT_FOG outside Fog mode gives FW_STATE. -/
def FWU_FWU_CMD_OP : Fld := ⟨0x15, 2208, 4, .rw, 0⟩
/-- FWU.FWU_STATUS.BUSY (0x118), R550, RO. An operation is in progress. -/
def FWU_FWU_STATUS_BUSY : Fld := ⟨0x15, 2271, 1, .ro, 0⟩
/-- FWU.FWU_STATUS.FOG (0x118), R550, RO. Fog mode. -/
def FWU_FWU_STATUS_FOG : Fld := ⟨0x15, 2270, 1, .ro, 0⟩
/-- FWU.FWU_STATUS.RUNNING (0x118), R550, RO. Booted slot, 0 A or 1 B. Meaningless in Fog mode. -/
def FWU_FWU_STATUS_RUNNING : Fld := ⟨0x15, 2269, 1, .ro, 0⟩
/-- FWU.FWU_STATUS.PIECES (0x118), R550, RO. 64 KiB pieces of the current STAGE done, saturating at 255. -/
def FWU_FWU_STATUS_PIECES : Fld := ⟨0x15, 2256, 8, .ro, 0⟩
/-- FWU.FWU_STATUS.STATUS (0x118), R550, RO. Status of the last operation. -/
def FWU_FWU_STATUS_STATUS : Fld := ⟨0x15, 2240, 16, .ro, 0⟩
/-- FWU.SLOT_A.VERSION (0x120), R550, RO. R534. Reset: from log. -/
def FWU_SLOT_A_VERSION : Fld := ⟨0x15, 2336, 32, .ro, 0⟩
/-- FWU.SLOT_B.VERSION (0x128), R550, RO. R534. Reset: from log. -/
def FWU_SLOT_B_VERSION : Fld := ⟨0x15, 2400, 32, .ro, 0⟩
/-- FWU.SLOT_A.SVN (0x120), R550, RO. R534. Reset: from log. -/
def FWU_SLOT_A_SVN : Fld := ⟨0x15, 2328, 8, .ro, 0⟩
/-- FWU.SLOT_B.SVN (0x128), R550, RO. R534. Reset: from log. -/
def FWU_SLOT_B_SVN : Fld := ⟨0x15, 2392, 8, .ro, 0⟩
/-- FWU.SLOT_A.ATTEMPTS (0x120), R550, RO. Unconfirmed attempts (R541). Reset: from log. -/
def FWU_SLOT_A_ATTEMPTS : Fld := ⟨0x15, 2320, 4, .ro, 0⟩
/-- FWU.SLOT_B.ATTEMPTS (0x128), R550, RO. Unconfirmed attempts (R541). Reset: from log. -/
def FWU_SLOT_B_ATTEMPTS : Fld := ⟨0x15, 2384, 4, .ro, 0⟩
/-- FWU.SLOT_A.STATE (0x120), R550, RO. R537. Reset: from log. -/
def FWU_SLOT_A_STATE : Fld := ⟨0x15, 2304, 3, .ro, 0⟩
/-- FWU.SLOT_B.STATE (0x128), R550, RO. R537. Reset: from log. -/
def FWU_SLOT_B_STATE : Fld := ⟨0x15, 2368, 3, .ro, 0⟩
/-- KSB.KSB_LAST.WORD0 (0x100), R551, RO. Copy of status word 0 (R548). Reading it clears nothing. -/
def KSB_KSB_LAST_WORD0 : Fld := ⟨0x16, 2048, 32, .ro, 0⟩
/-- KSB.KSB_ERRCNT.WORD1 (0x104), R551, RO. Copy of status word 1. Reading it clears nothing. -/
def KSB_KSB_ERRCNT_WORD1 : Fld := ⟨0x16, 2080, 32, .ro, 0⟩
/-- DBG.VIS.CLOSED (0x100), R568, RW. R556. Writable on PF0's page only. Other instances read PF0's value. -/
def DBG_VIS_CLOSED : Fld := ⟨0x53, 2048, 1, .rw, 0⟩
/-- DBG.PEEK_ADDR.PAGE (0x108), R568, RW. Page index (20_register_map.md, "Register page map and status code index"). -/
def DBG_PEEK_ADDR_PAGE : Fld := ⟨0x53, 2128, 12, .rw, 0⟩
/-- DBG.PEEK_ADDR.OFFSET (0x108), R568, RW. Offset in 8-byte units. -/
def DBG_PEEK_ADDR_OFFSET : Fld := ⟨0x53, 2115, 9, .rw, 0⟩
/-- DBG.PEEK_DATA.DATA (0x110), R568, RO. A read performs the PEEK and then advances OFFSET by one. At 0xFF8 it stays. -/
def DBG_PEEK_DATA_DATA : Fld := ⟨0x53, 2176, 64, .ro, 0⟩
/-- DBG.PEEK_STATUS.STATUS (0x118), R568, RO. OK, PEEK_DENIED or PEEK_DOMAIN_OFF. -/
def DBG_PEEK_STATUS_STATUS : Fld := ⟨0x53, 2240, 16, .ro, 0⟩
/-- DBG.TRACE_BASE.ADDR (0x120), R568, RW. Host bus address, 32-byte aligned. -/
def DBG_TRACE_BASE_ADDR : Fld := ⟨0x53, 2309, 59, .rw, 0⟩
/-- DBG.TRACE_CFG.EN (0x128), R568, RW. R559, R560. -/
def DBG_TRACE_CFG_EN : Fld := ⟨0x53, 2399, 1, .rw, 0⟩
/-- DBG.TRACE_CFG.STOP_FULL (0x128), R568, RW. R560. -/
def DBG_TRACE_CFG_STOP_FULL : Fld := ⟨0x53, 2398, 1, .rw, 0⟩
/-- DBG.TRACE_CFG.TO_EQ (0x128), R568, RW. R559. -/
def DBG_TRACE_CFG_TO_EQ : Fld := ⟨0x53, 2397, 1, .rw, 0⟩
/-- DBG.TRACE_CFG.EQ (0x128), R568, RW. Local event queue. -/
def DBG_TRACE_CFG_EQ : Fld := ⟨0x53, 2384, 10, .rw, 0⟩
/-- DBG.TRACE_CFG.LOG2SIZE (0x128), R568, RW. 6–20. Other values are ignored. -/
def DBG_TRACE_CFG_LOG2SIZE : Fld := ⟨0x53, 2368, 5, .rw, 10⟩
/-- DBG.TRACE_SRC.SRC (0x12C), R568, RW. Bits: commands, kernels, DMA, collectives, step machine, marks. -/
def DBG_TRACE_SRC_SRC : Fld := ⟨0x53, 2400, 6, .rw, 63⟩
/-- DBG.TRACE_LAYER.LAYER_HI (0x130), R568, RW. R559. -/
def DBG_TRACE_LAYER_LAYER_HI : Fld := ⟨0x53, 2448, 16, .rw, 65535⟩
/-- DBG.TRACE_LAYER.LAYER_LO (0x130), R568, RW. R559. -/
def DBG_TRACE_LAYER_LAYER_LO : Fld := ⟨0x53, 2432, 16, .rw, 0⟩
/-- DBG.TRACE_START_TBC.TBC (0x138), R568, RW. R559. 0: at once. -/
def DBG_TRACE_START_TBC_TBC : Fld := ⟨0x53, 2496, 64, .rw, 0⟩
/-- DBG.TRACE_STATUS.STOPPED (0x140), R568, RW1C. R560. -/
def DBG_TRACE_STATUS_STOPPED : Fld := ⟨0x53, 2591, 1, .rw1c, 0⟩
/-- DBG.TRACE_STATUS.ACTIVE (0x140), R568, RO. Entries are queued or being written. -/
def DBG_TRACE_STATUS_ACTIVE : Fld := ⟨0x53, 2590, 1, .ro, 0⟩
/-- DBG.TRACE_PROD.COUNT (0x148), R568, RO. Entries written since EN was last set. -/
def DBG_TRACE_PROD_COUNT : Fld := ⟨0x53, 2624, 64, .ro, 0⟩
/-- DBG.TRACE_MARK.VALUE (0x150), R568, WO. Raises MARK. -/
def DBG_TRACE_MARK_VALUE : Fld := ⟨0x53, 2688, 64, .wo, 0⟩
/-- DBG.TW_BASE.ADDR (0x160), R568, RW. Record ring, 256-byte aligned. -/
def DBG_TW_BASE_ADDR : Fld := ⟨0x53, 2824, 56, .rw, 0⟩
/-- DBG.TW_CFG.EN (0x168), R568, RW. Records are written. -/
def DBG_TW_CFG_EN : Fld := ⟨0x53, 2911, 1, .rw, 0⟩
/-- DBG.TW_CFG.LOG2SLOTS (0x168), R568, RW. 4–16. -/
def DBG_TW_CFG_LOG2SLOTS : Fld := ⟨0x53, 2880, 5, .rw, 6⟩
/-- DBG.TW_IDX.POINT (0x170), R568, RW. Watch point accessed at 0x178–0x18C. -/
def DBG_TW_IDX_POINT : Fld := ⟨0x53, 2944, 4, .rw, 0⟩
/-- DBG.TW_MATCH.OP_MASK (0x178), R568, RW. R561. -/
def DBG_TW_MATCH_OP_MASK : Fld := ⟨0x53, 3056, 16, .rw, 0⟩
/-- DBG.TW_MATCH.OP_ID (0x178), R568, RW. R561. -/
def DBG_TW_MATCH_OP_ID : Fld := ⟨0x53, 3040, 16, .rw, 0⟩
/-- DBG.TW_MATCH.LAYER_MASK (0x178), R568, RW. R561. -/
def DBG_TW_MATCH_LAYER_MASK : Fld := ⟨0x53, 3024, 16, .rw, 65535⟩
/-- DBG.TW_MATCH.LAYER_ID (0x178), R568, RW. R561. -/
def DBG_TW_MATCH_LAYER_ID : Fld := ⟨0x53, 3008, 16, .rw, 0⟩
/-- DBG.TW_DESC.ADDR (0x180), R568, RW. Local address of the tensor descriptor. -/
def DBG_TW_DESC_ADDR : Fld := ⟨0x53, 3078, 58, .rw, 0⟩
/-- DBG.TW_CTRL.EN (0x188), R568, RW. R561. -/
def DBG_TW_CTRL_EN : Fld := ⟨0x53, 3167, 1, .rw, 0⟩
/-- DBG.TW_CTRL.EBASE (0x188), R568, RW. Two's complement (R563). -/
def DBG_TW_CTRL_EBASE : Fld := ⟨0x53, 3152, 8, .rw, 0⟩
/-- DBG.TW_CTRL.PERIOD (0x188), R568, RW. 1–65,535. A write of 0 is ignored. -/
def DBG_TW_CTRL_PERIOD : Fld := ⟨0x53, 3136, 16, .rw, 1⟩
/-- DBG.TW_SEQ.COUNT (0x18C), R568, RO. Records written for the point. -/
def DBG_TW_SEQ_COUNT : Fld := ⟨0x53, 3168, 32, .ro, 0⟩
/-- DBG.TW_STATUS.BUSY (0x190), R568, RO. A digest of the function is in progress. -/
def DBG_TW_STATUS_BUSY : Fld := ⟨0x53, 3231, 1, .ro, 0⟩
/-- DBG.TW_STATUS.PENDING (0x190), R568, RO. Digests queued, 0–16. -/
def DBG_TW_STATUS_PENDING : Fld := ⟨0x53, 3216, 5, .ro, 0⟩
/-- DBG.TW_STATUS.LAST_STATUS (0x190), R568, RO. STATUS of the last record. -/
def DBG_TW_STATUS_LAST_STATUS : Fld := ⟨0x53, 3200, 16, .ro, 0⟩
/-- KPR.BOOT_STATUS.PHASE (0x500), R580, RO. R573. 14: Fog mode. 11–13 and 15 reserved. -/
def KPR_BOOT_STATUS_PHASE : Fld := ⟨0x11, 10268, 4, .ro, 0⟩
/-- KPR.BOOT_STATUS.STALLED (0x500), R580, RO. The current step has exceeded its limit (R578). -/
def KPR_BOOT_STATUS_STALLED : Fld := ⟨0x11, 10267, 1, .ro, 0⟩
/-- KPR.BOOT_STATUS.DEGRADED (0x500), R580, RO. A unit was left out or fenced during boot (R574, R576). -/
def KPR_BOOT_STATUS_DEGRADED : Fld := ⟨0x11, 10266, 1, .ro, 0⟩
/-- KPR.BOOT_STATUS.ENTRY (0x500), R580, RO. R577. 3 reserved. -/
def KPR_BOOT_STATUS_ENTRY : Fld := ⟨0x11, 10264, 2, .ro, 0⟩
/-- KPR.BOOT_STATUS.STATUS (0x500), R580, RO. Status code of the cause of the last stall. 0 when none. -/
def KPR_BOOT_STATUS_STATUS : Fld := ⟨0x11, 10240, 16, .ro, 0⟩
/-- KPR.BOOT_TBC.TBC (0x508), R580, RO. TBC at which PHASE last reached READY. -/
def KPR_BOOT_TBC_TBC : Fld := ⟨0x11, 10304, 64, .ro, 0⟩
/-- KPR.ADMIT_CTRL.ON_RESET (0x510), R580, RWS. 1: admission tests also run after RST_CHIP (R577). -/
def KPR_ADMIT_CTRL_ON_RESET : Fld := ⟨0x11, 10376, 1, .rws, 0⟩
/-- KPR.ADMIT_CTRL.MEM (0x510), R580, RWS. Run the MEM test (R576). -/
def KPR_ADMIT_CTRL_MEM : Fld := ⟨0x11, 10369, 1, .rws, 1⟩
/-- KPR.ADMIT_CTRL.KAT (0x510), R580, RWS. Run the KAT test (R576). -/
def KPR_ADMIT_CTRL_KAT : Fld := ⟨0x11, 10368, 1, .rws, 1⟩
/-- KPR.ADMIT_RESULT.DONE (0x518), R580, RO. The last admission run has completed. -/
def KPR_ADMIT_RESULT_DONE : Fld := ⟨0x11, 10480, 1, .ro, 0⟩
/-- KPR.ADMIT_RESULT.CH_FENCED (0x518), R580, RO. Channels fenced by admission, 0–256. -/
def KPR_ADMIT_RESULT_CH_FENCED : Fld := ⟨0x11, 10464, 9, .ro, 0⟩
/-- KPR.ADMIT_RESULT.CH_DEGRADED (0x518), R580, RO. Channels stepped down by admission, 0–256. -/
def KPR_ADMIT_RESULT_CH_DEGRADED : Fld := ⟨0x11, 10448, 9, .ro, 0⟩
/-- KPR.ADMIT_RESULT.ARRAYS_FENCED (0x518), R580, RO. Arrays fenced by admission, 0–4,095, saturating. -/
def KPR_ADMIT_RESULT_ARRAYS_FENCED : Fld := ⟨0x11, 10432, 12, .ro, 0⟩

end R

/-- The fields of the common header (R12). -/
def fieldsHdr : List Fld :=
  [R.HDR_ID_BLOCK_TYPE, R.HDR_ID_INSTANCE, R.HDR_ID_VERSION, R.HDR_CAP0_CAP, R.HDR_CAP1_CAP, R.HDR_CTRL_RESET_REQ, R.HDR_CTRL_SELFTEST_ALLOW, R.HDR_CTRL_QUIESCE, R.HDR_CTRL_ENABLE, R.HDR_STATUS_DEGRADED, R.HDR_STATUS_FENCED, R.HDR_STATUS_SELFTEST_ACTIVE] ++
  [R.HDR_STATUS_QUIESCED, R.HDR_STATUS_READY, R.HDR_ERR_STATUS_ERR, R.HDR_ERR_MASK_MASK, R.HDR_ERR_SEVERITY_SEV, R.HDR_ERR_INJECT_INJ, R.HDR_EVT_ENABLE_CLASS_EN, R.HDR_EVT_ENABLE_C0_EN, R.HDR_EVT_QUEUE_QUEUE] ++
  (List.range 4).map R.HDR_CNT_SEL_CLEAR ++
  (List.range 4).map R.HDR_CNT_SEL_FREEZE ++
  (List.range 4).map R.HDR_CNT_SEL_EVENT ++
  (List.range 4).map R.HDR_CNT_COUNT ++
  [R.HDR_CFG_DIGEST_DIGEST]

/-- The fields of the block-specific registers of the TOP page. -/
def fieldsTop : List Fld :=
  [R.TOP_PART_PART_CODE, R.TOP_PART_SUFFIX, R.TOP_PART_DIE_STEP, R.TOP_CLU_PRESENT_PRESENT] ++
  (List.range 8).map R.TOP_QUAD_PRESENT_PRESENT ++
  [R.TOP_MEM_PORT_PRESENT_PORT, R.TOP_MEM_PORT_PRESENT_MEM, R.TOP_ARRAY_FENCED_COUNT, R.TOP_DAYMARK_DIGEST, R.TOP_CFG_EPOCH_EPOCH, R.TOP_AGREE_STATE_GEN, R.TOP_AGREE_STATE_DEPTH, R.TOP_AGREE_STATUS_ALL_AGREE, R.TOP_AGREE_STATUS_LOCAL_MATCH, R.TOP_AGREE_STATUS_COMPUTING, R.TOP_AGREE_STATUS_UNAPPROVED, R.TOP_AGREE_STATUS_MISMATCH] ++
  [R.TOP_DM_PORTS_EXCLUDE, R.TOP_ALL_AGREE_TBC_TBC, R.TOP_DM_APPROVE_BUSY, R.TOP_DM_APPROVE_GO, R.TOP_DM_APPROVED_DIGEST]

/-- The fields of the block-specific registers of the KPR page. -/
def fieldsKpr : List Fld :=
  [R.KPR_DM_CFG_DIAM, R.KPR_MANIFEST_EXTRA_FMT_DEFAULT, R.KPR_MANIFEST_EXTRA_RNG_TABLE_ID, R.KPR_HEARTBEAT_COUNT, R.KPR_KSTATE_STATE, R.KPR_KSTATE_RESTARTS, R.KPR_RST_STATUS_CHIP_PEND, R.KPR_RST_STATUS_LAST_LEVEL, R.KPR_RST_STATUS_ESCALATIONS, R.KPR_RST_STATUS_LAST_STATUS, R.KPR_RST_LAST_TBC_TBC, R.KPR_TEST_CTRL_SUSPENDED] ++
  [R.KPR_TEST_CTRL_RESUME, R.KPR_BOOT_STATUS_PHASE, R.KPR_BOOT_STATUS_STALLED, R.KPR_BOOT_STATUS_DEGRADED, R.KPR_BOOT_STATUS_ENTRY, R.KPR_BOOT_STATUS_STATUS, R.KPR_BOOT_TBC_TBC, R.KPR_ADMIT_CTRL_ON_RESET, R.KPR_ADMIT_CTRL_MEM, R.KPR_ADMIT_CTRL_KAT, R.KPR_ADMIT_RESULT_DONE, R.KPR_ADMIT_RESULT_CH_FENCED] ++
  [R.KPR_ADMIT_RESULT_CH_DEGRADED, R.KPR_ADMIT_RESULT_ARRAYS_FENCED]

/-- The fields of the block-specific registers of the PWR page. -/
def fieldsPwr : List Fld :=
  [R.PWR_ENV_SET_SLOPE, R.PWR_ENV_SET_SETPOINT, R.PWR_ENV_CTRL_SRC, R.PWR_CAP_CAP, R.PWR_ENV_STATUS_TARGET, R.PWR_ENV_STATUS_P_ENV, R.PWR_TRAY_SET_SLOPE, R.PWR_TRAY_SET_SETPOINT, R.PWR_RAMP_QUENCH_LVL, R.PWR_RAMP_RAMP_DOWN, R.PWR_RAMP_RAMP_UP] ++
  (List.range 16).map R.PWR_LIMIT_CEIL ++
  [R.PWR_P_MODULE_MW, R.PWR_TELEM_BASE_ADDR, R.PWR_TELEM_CTRL_EN, R.PWR_TELEM_CTRL_FLOW_EN, R.PWR_TELEM_CTRL_FLOW, R.PWR_TELEM_CTRL_LOG2SLOTS, R.PWR_TELEM_SEQ_SEQ, R.PWR_DOM_CTRL_ON, R.PWR_DOM_STATUS_ON, R.PWR_DOM_RESULT_DONE, R.PWR_DOM_RESULT_STATUS] ++
  (List.range 16).map R.PWR_SEG_FAIL_FAILED ++
  (List.range 16).map R.PWR_SEG_STATE_STATE ++
  [R.PWR_IC_IDX_DOMAIN, R.PWR_IC_DATA_R_BASE, R.PWR_IC_DATA_RATIO, R.PWR_ENERGY_UJ, R.PWR_EN_IDX_FUNC, R.PWR_EN_IDX_INDEX, R.PWR_EN_DATA_UJ, R.PWR_THERM_CTRL_RESTART, R.PWR_THERM_CTRL_T_WARN, R.PWR_THERM_CTRL_T_THROTTLE, R.PWR_THERM_STATUS_RESTART_STATUS, R.PWR_THERM_STATUS_TRIP] ++
  [R.PWR_THERM_STATUS_AIRFLOW, R.PWR_THERM_STATUS_QUENCH, R.PWR_THERM_STATUS_HALTED, R.PWR_THERM_STATUS_THROTTLING, R.PWR_THERM_STATUS_TJ] ++
  (List.range 16).map R.PWR_TRIM_TRIM ++
  [R.PWR_MARGIN_CFG_FLOOR, R.PWR_MARGIN_IDX_CLUSTER, R.PWR_MARGIN_LOW, R.PWR_MARGIN_SLACK]

/-- The fields of the block-specific registers of the CLK page. -/
def fieldsClk : List Fld :=
  (List.range 8).map R.CLK_OPP_FREQ ++
  (List.range 8).map R.CLK_OPP_VOP ++
  [R.CLK_CLK_CTRL_AUTO, R.CLK_OPP_LIMIT_OPP, R.CLK_FREQ_REQ_OPP, R.CLK_FREQ_TBC_TBC, R.CLK_FREQ_STATUS_FREQ, R.CLK_FREQ_STATUS_PEND, R.CLK_FREQ_STATUS_PEND_OPP, R.CLK_FREQ_STATUS_OPP, R.CLK_FREQ_RESULT_DONE, R.CLK_FREQ_RESULT_STATUS, R.CLK_LAST_CHANGE_TBC_TBC, R.CLK_HST_FREQ_BUSY] ++
  [R.CLK_HST_FREQ_MHZ]

/-- The fields of the block-specific registers of the LOG page. -/
def fieldsLog : List Fld :=
  [R.LOG_LOG_STATUS_STATE, R.LOG_LOG_STATUS_THROTTLED, R.LOG_LOG_STATUS_FL1_FAIL, R.LOG_LOG_STATUS_FL0_FAIL, R.LOG_LOG_STATUS_INC_OPEN, R.LOG_LOG_STATUS_STATE_QUEUED, R.LOG_HEAD_SEQ_SEQ, R.LOG_OLDEST_SEQ_SEQ, R.LOG_CKPT_SEQ_SEQ, R.LOG_WEAR_SPARE1, R.LOG_WEAR_SPARE0, R.LOG_WEAR_ERASE1] ++
  [R.LOG_WEAR_ERASE0, R.LOG_BUDGET_KIB1, R.LOG_BUDGET_KIB0, R.LOG_INCIDENT_OPEN, R.LOG_INCIDENT_NUMBER, R.LOG_READ_BASE_ADDR, R.LOG_READ_LEN_LEN, R.LOG_READ_START_SEQ, R.LOG_READ_FILTER_TYPE_HI, R.LOG_READ_FILTER_TYPE_LO, R.LOG_READ_CTRL_GO, R.LOG_READ_RESULT_DONE] ++
  [R.LOG_READ_RESULT_GAP, R.LOG_READ_RESULT_COUNT, R.LOG_READ_RESULT_STATUS, R.LOG_READ_NEXT_SEQ, R.LOG_RMAP_CTRL_DEFERRED, R.LOG_RMAP_CTRL_FLIP_ARM, R.LOG_RMAP_CTRL_SHADOW_READY, R.LOG_RMAP_CTRL_ACTIVE, R.LOG_RMAP_FLIP_TBC_TBC, R.LOG_RMAP_IDX_IDX, R.LOG_RMAP_DATA_ENTRY, R.LOG_RMAP_COUNT_FULL] ++
  [R.LOG_RMAP_COUNT_COUNT, R.LOG_KEY_CMD_GO, R.LOG_KEY_CMD_OP, R.LOG_KEY_BUF_ADDR, R.LOG_KEY_BUF_LEN_LEN, R.LOG_KEY_STATUS_BUSY, R.LOG_KEY_STATUS_STAGED, R.LOG_KEY_STATUS_ACTIVE, R.LOG_KEY_STATUS_GEN, R.LOG_KEY_STATUS_STATUS, R.LOG_OTP_COUNT_TRUST_GEN, R.LOG_OTP_COUNT_KEY_GEN] ++
  [R.LOG_OTP_COUNT_FW_SVN]

/-- The fields of the block-specific registers of the FWU page. -/
def fieldsFwu : List Fld :=
  [R.FWU_FWU_BUF_ADDR, R.FWU_FWU_LEN_LEN, R.FWU_FWU_CTRL_AUTO_CONFIRM, R.FWU_FWU_CTRL_CONFIRM_S, R.FWU_FWU_CMD_GO, R.FWU_FWU_CMD_RESTART, R.FWU_FWU_CMD_OP, R.FWU_FWU_STATUS_BUSY, R.FWU_FWU_STATUS_FOG, R.FWU_FWU_STATUS_RUNNING, R.FWU_FWU_STATUS_PIECES, R.FWU_FWU_STATUS_STATUS] ++
  [R.FWU_SLOT_A_VERSION, R.FWU_SLOT_B_VERSION, R.FWU_SLOT_A_SVN, R.FWU_SLOT_B_SVN, R.FWU_SLOT_A_ATTEMPTS, R.FWU_SLOT_B_ATTEMPTS, R.FWU_SLOT_A_STATE, R.FWU_SLOT_B_STATE]

/-- The fields of the block-specific registers of the KSB page. -/
def fieldsKsb : List Fld :=
  [R.KSB_KSB_LAST_WORD0, R.KSB_KSB_ERRCNT_WORD1]

/-- The fields of the block-specific registers of the MEM page. -/
def fieldsMem : List Fld :=
  [R.MEM_STACK_INFO_RATE, R.MEM_STACK_INFO_HEIGHT, R.MEM_STACK_INFO_FRAMES, R.MEM_RETIRE_STATUS_FRAMES, R.MEM_RETIRE_STATUS_ROWS, R.MEM_FRAME_CNT_IDX_CLEAR_ON_READ, R.MEM_FRAME_CNT_IDX_PAGE, R.MEM_FRAME_CNT_WRITES, R.MEM_FRAME_CNT_READS, R.MEM_SCRUB_CTRL_ENABLE, R.MEM_SCRUB_CTRL_PERIOD, R.MEM_ECC_ERR_VALID] ++
  [R.MEM_ECC_ERR_UE, R.MEM_ECC_ERR_PAGE, R.MEM_ECC_ERR_OFFSET, R.MEM_MARGIN_CTRL_CH_MASK, R.MEM_MARGIN_CTRL_PARAM, R.MEM_MARGIN_CTRL_GO, R.MEM_MARGIN_RESULT_DONE, R.MEM_MARGIN_RESULT_STATUS, R.MEM_MARGIN_RESULT_HIGH, R.MEM_MARGIN_RESULT_LOW, R.MEM_WCB_STATUS_FILL]

/-- The fields of the block-specific registers of the MCH page. -/
def fieldsMch : List Fld :=
  [R.MCH_CH_STATUS_RETRAINS, R.MCH_CH_STATUS_RATE, R.MCH_TG_CTRL_PATTERN, R.MCH_TG_CTRL_MODE, R.MCH_TG_CTRL_GO, R.MCH_TG_RANGE_LAST_ROW, R.MCH_TG_RANGE_FIRST_ROW, R.MCH_TG_COUNT_PASSES, R.MCH_TG_SEED_SEED, R.MCH_TG_RESULT_STATUS, R.MCH_TG_RESULT_ERRORS, R.MCH_TG_FAIL_ADDR_ADDR] ++
  [R.MCH_TG_FAIL_BITS_BITS]

/-- The fields of the block-specific registers of the FAR page. -/
def fieldsFar : List Fld :=
  [R.FAR_FAR_STATUS_EXCESS, R.FAR_FAR_STATUS_UP, R.FAR_FAR_STATUS_PRESENT, R.FAR_FAR_CFG_TIMEOUT] ++
  (List.range 4).map R.FAR_DEV_BASE_FRAMES ++
  (List.range 4).map R.FAR_DEV_BASE_BASE ++
  [R.FAR_FRAME_CNT_IDX_CLEAR_ON_READ, R.FAR_FRAME_CNT_IDX_FRAME, R.FAR_FRAME_CNT_ACCESSES]

/-- The fields of the block-specific registers of the LNK page. -/
def fieldsLnk : List Fld :=
  [R.LNK_PORT_CTRL_LANE_MASK, R.LNK_PORT_CTRL_ACCEPT_NEW, R.LNK_PORT_CTRL_REQUIRE_AUTH, R.LNK_PORT_CTRL_TRAIN, R.LNK_PORT_STATUS_STATE, R.LNK_PORT_STATUS_WIDTH, R.LNK_PORT_STATUS_LIVE, R.LNK_PORT_STATUS_RETIRED, R.LNK_PORT_STATUS_QUARANTINED, R.LNK_PORT_STATUS_AUTH, R.LNK_PORT_STATUS_TX_KEY, R.LNK_PORT_STATUS_GRACE] ++
  [R.LNK_PORT_STATUS_ROLE, R.LNK_PORT_FLAGS_LOOPBACK, R.LNK_PEER_CHAR_CHAR, R.LNK_PEER_EXPECT_MODE, R.LNK_PEER_EXPECT_ROLE, R.LNK_PEER_EXPECT_MADDR, R.LNK_TIMERS_REPLAY_TO, R.LNK_TIMERS_CREDIT_TO, R.LNK_TIMERS_TRAIN_TO, R.LNK_VC_CREDIT_VC3_MAX, R.LNK_VC_CREDIT_VC2_MAX, R.LNK_VC_CREDIT_VC1_MAX] ++
  [R.LNK_VC_CREDIT_VC0_RSV, R.LNK_VC_WEIGHT_W3, R.LNK_VC_WEIGHT_W2, R.LNK_VC_WEIGHT_W1, R.LNK_QUAR_CTRL_RELEASE, R.LNK_QUAR_CTRL_THRESH, R.LNK_QUAR_CTRL_WINDOW, R.LNK_RETRAIN_HOSTILE, R.LNK_RETRAIN_QCOUNT, R.LNK_RETRAIN_MIN, R.LNK_KEY_CTRL_REKEY, R.LNK_KEY_CTRL_GRACE] ++
  [R.LNK_KEY_CTRL_LIFE, R.LNK_REJECT_LAST_RX_STATUS, R.LNK_REJECT_LAST_TX_STATUS, R.LNK_REJECT_LAST_TX_SEQ] ++
  (List.range 8).map R.LNK_LANE_STATUS_MARKED ++
  (List.range 8).map R.LNK_LANE_STATUS_LOCK ++
  (List.range 8).map R.LNK_LANE_STATUS_LOCK_LOSS ++
  (List.range 8).map R.LNK_LANE_STATUS_CORR ++
  [R.LNK_OE_PWR_LASER_IN, R.LNK_OE_PWR_PWR, R.LNK_MARGIN_CTRL_LANE, R.LNK_MARGIN_CTRL_GO, R.LNK_MARGIN_RESULT_DONE, R.LNK_MARGIN_RESULT_ABANDONED, R.LNK_MARGIN_RESULT_HIGH, R.LNK_MARGIN_RESULT_LOW]

/-- The fields of the block-specific registers of the RTE page. -/
def fieldsRte : List Fld :=
  [R.RTE_MADDR_STANDBY, R.RTE_MADDR_MADDR, R.RTE_AXIS_WRAP, R.RTE_AXIS_LEN_M1, R.RTE_EXC_CTRL_DEFERRED, R.RTE_EXC_CTRL_FLIP_ARM, R.RTE_EXC_CTRL_SHADOW_READY, R.RTE_EXC_CTRL_ACTIVE, R.RTE_EXC_FLIP_TBC_TBC, R.RTE_EXC_IDX_IDX, R.RTE_EXC_DATA_ENTRY, R.RTE_PATCH_IDX_IDX] ++
  [R.RTE_PATCH_DATA_ENTRY, R.RTE_TIME_CTRL_ROOT, R.RTE_TIME_CTRL_ALT_EN, R.RTE_TIME_CTRL_ALT_PORT, R.RTE_TIME_CTRL_UP_PORT, R.RTE_TIME_STATUS_SRC, R.RTE_TIME_STATUS_HOLDOVER, R.RTE_TIME_STATUS_LOCKED, R.RTE_TIME_OFS_THETA, R.RTE_SDS_OFS_OFS, R.RTE_SDS_OFS1_OFS, R.RTE_INC_INC]

/-- The fields of the block-specific registers of the XPT page. -/
def fieldsXpt : List Fld :=
  [R.XPT_FLOW_CMD_GO, R.XPT_FLOW_CMD_OP, R.XPT_FLOW_ID_ANY, R.XPT_FLOW_ID_FLOW_ID, R.XPT_FLOW_RESULT_DONE, R.XPT_FLOW_RESULT_STATUS, R.XPT_FLOW_QUOTA_QUOTA, R.XPT_FLOW_USED_USED, R.XPT_FLOW_FAILED_FLOW_ID, R.XPT_FLOW_CTX_CTX]

/-- The fields of the block-specific registers of the COL page. -/
def fieldsCol : List Fld :=
  [R.COL_STEP_CTRL_HEAD_AUTO, R.COL_STEP_CTRL_DMA_RNG_SNAP, R.COL_STEP_CTRL_ARM, R.COL_STEP_STATUS_HOLD, R.COL_STEP_STATUS_SNAP_ACTIVE, R.COL_STEP_STATUS_ATTEMPT, R.COL_STEP_STATUS_STATE, R.COL_STEP_COUNT_COUNT, R.COL_VERDICT_CAUSES, R.COL_VERDICT_ATTEMPT, R.COL_VERDICT_VERDICT, R.COL_VERDICT_STEP_STEP] ++
  [R.COL_LOCAL_REC_RECORD, R.COL_COMB_REC_RECORD, R.COL_POLICY_ACTIONS, R.COL_OVF_LIMIT_LIMIT, R.COL_SAT_LIMIT_LIMIT, R.COL_LOSS_LIMIT_LIMIT, R.COL_RNG_SNAP_OFS, R.COL_SKIP_CTL_SKIP_WARN, R.COL_SKIP_CTL_CONSEC, R.COL_SKIP_TOTAL_COUNT, R.COL_REPLAY_TOTAL_COUNT, R.COL_OPEN_TBC_VALUE] ++
  [R.COL_SNAP_HOLD_NS_VALUE, R.COL_GRP_CTRL_DEFERRED, R.COL_GRP_CTRL_FLIP_ARM, R.COL_GRP_CTRL_SHADOW_READY, R.COL_GRP_CTRL_ACTIVE, R.COL_GRP_FLIP_TBC_TBC, R.COL_GRP_IDX_IDX, R.COL_GRP_DATA_ENTRY, R.COL_GRP_ACTIVE_ENTRY, R.COL_CQ_RANGE_COUNT, R.COL_CQ_RANGE_BASE, R.COL_VERDICT_GID_GID] ++
  (List.range 8).map R.COL_COLL_QUADS_MASK ++
  [R.COL_CQ_SEL_GID, R.COL_CQ_STATUS_STATE, R.COL_CQ_STATUS_FLOWS_OK, R.COL_CQ_STATUS_DEPTH, R.COL_CQ_STATUS_LAST_STATUS, R.COL_CQ_SEQ_SEQ, R.COL_CQ_CMD_BUSY, R.COL_CQ_CMD_RESET, R.COL_COLL_OVF_COUNT, R.COL_COLL_NF_COUNT, R.COL_COLL_ERR_VALID, R.COL_COLL_ERR_GID] ++
  [R.COL_COLL_ERR_SEQ, R.COL_COLL_ERR_CODE, R.COL_NBR_QUERY_DIR, R.COL_NBR_QUERY_AXIS, R.COL_NBR_QUERY_GID, R.COL_NBR_RESULT_VALID, R.COL_NBR_RESULT_INDEX, R.COL_NBR_RESULT_EXT_M1, R.COL_NBR_RESULT_MADDR]

/-- The fields of the block-specific registers of the HIF page. -/
def fieldsHif : List Fld :=
  [R.HIF_XLT_CTRL_DEFERRED, R.HIF_XLT_CTRL_FLIP_ARM, R.HIF_XLT_CTRL_SHADOW_READY, R.HIF_XLT_CTRL_ACTIVE, R.HIF_XLT_FLIP_TBC_TBC, R.HIF_XLT_LEN0_LEN, R.HIF_XLT_LEN1_LEN, R.HIF_XLT_INVAL_BUSY, R.HIF_XLT_INVAL_COUNT, R.HIF_XLT_INVAL_VPN] ++
  (List.range 16).map R.HIF_XLT_DIR_VALID ++
  (List.range 16).map R.HIF_XLT_DIR_FRAME ++
  [R.HIF_FRAME_REQ_GO, R.HIF_FRAME_REQ_FLAGS, R.HIF_FRAME_REQ_TIER, R.HIF_FRAME_REQ_OP, R.HIF_FRAME_VPN_VPN, R.HIF_FRAME_COUNT_COUNT, R.HIF_FRAME_RESULT_DONE, R.HIF_FRAME_RESULT_STATUS, R.HIF_FRAME_SHORT_SHORT, R.HIF_FRAME_GRANT_FAR, R.HIF_FRAME_GRANT_HBM] ++
  (List.range 8).map R.HIF_RES_QUADS_MASK ++
  [R.HIF_RES_CMDQ_COUNT, R.HIF_RES_CMDQ_BASE, R.HIF_RES_EVTQ_COUNT, R.HIF_RES_EVTQ_BASE, R.HIF_RES_COMMQ_COUNT, R.HIF_RES_COMMQ_BASE, R.HIF_RES_SIG_COUNT, R.HIF_RES_SIG_BASE, R.HIF_RES_FLOWS_QUOTA, R.HIF_RES_FRAMES_FAR, R.HIF_RES_FRAMES_HBM, R.HIF_RES_CTRL_GO] ++
  [R.HIF_RES_CTRL_CDMA_WEIGHT, R.HIF_RES_RESULT_DONE, R.HIF_RES_RESULT_STATUS, R.HIF_FUNC_CTRL_STOP, R.HIF_FUNC_CTRL_EN, R.HIF_FUNC_STATUS_STOP_BUSY, R.HIF_FUNC_STATUS_PARTITION, R.HIF_FUNC_STATUS_EN, R.HIF_EQ_DEFAULT_QUEUE, R.HIF_DUMP_BASE_ADDR, R.HIF_DUMP_LEN_LEN, R.HIF_DUMP_CFG_OVERWRITE] ++
  [R.HIF_DUMP_CFG_ENG, R.HIF_DUMP_CFG_MAX_MS, R.HIF_DUMP_CFG_STRIDE_LOG2, R.HIF_DUMP_CFG_LEN_LOG2, R.HIF_DUMP_CTRL_GO, R.HIF_DUMP_STATUS_VALID, R.HIF_DUMP_STATUS_BUSY, R.HIF_DUMP_STATUS_TRUNCATED, R.HIF_DUMP_STATUS_TIMED_OUT, R.HIF_DUMP_STATUS_STATUS, R.HIF_DUMP_MISSED_COUNT, R.HIF_DUMP_SIZE_BYTES]

/-- The fields of the block-specific registers of the QUE page. -/
def fieldsQue : List Fld :=
  [R.QUE_CQ_SEL_QUEUE, R.QUE_CQ_BASE_BASE, R.QUE_CQ_CFG_EQ, R.QUE_CQ_CFG_CLASS, R.QUE_CQ_CFG_LOG2SIZE, R.QUE_CQ_HEAD_WB_ADDR, R.QUE_CQ_CTRL_RESET, R.QUE_CQ_CTRL_RESUME, R.QUE_CQ_CTRL_EN, R.QUE_CQ_STATUS_STATE, R.QUE_CQ_STATUS_QSTOP, R.QUE_CQ_STATUS_FSTOP] ++
  [R.QUE_CQ_STATUS_LAST_ERR, R.QUE_CQ_TAIL_TAIL, R.QUE_CQ_FETCHED_FETCHED, R.QUE_CQ_DONE_DONE, R.QUE_CQ_WAIT_SIG, R.QUE_CQ_WAIT_OPCODE]

/-- The fields of the block-specific registers of the EVT page. -/
def fieldsEvt : List Fld :=
  [R.EVT_EQ_SEL_QUEUE, R.EVT_EQ_BASE_BASE, R.EVT_EQ_CFG_MSIX_EN, R.EVT_EQ_CFG_VECTOR, R.EVT_EQ_CFG_LOG2SIZE, R.EVT_EQ_MOD_COAL_US, R.EVT_EQ_MOD_COAL_COUNT, R.EVT_EQ_LIMIT_MERGE_WIN, R.EVT_EQ_LIMIT_RATE, R.EVT_EQ_CTRL_EN, R.EVT_EQ_STATUS_STATE, R.EVT_EQ_STATUS_PHASE] ++
  [R.EVT_EQ_STATUS_PENDING, R.EVT_EQ_PROD_COUNT, R.EVT_EQ_CONS_COUNT, R.EVT_EQ_DROP_COUNTS]

/-- The fields of the block-specific registers of the DBG page. -/
def fieldsDbg : List Fld :=
  [R.DBG_VIS_CLOSED, R.DBG_PEEK_ADDR_PAGE, R.DBG_PEEK_ADDR_OFFSET, R.DBG_PEEK_DATA_DATA, R.DBG_PEEK_STATUS_STATUS, R.DBG_TRACE_BASE_ADDR, R.DBG_TRACE_CFG_EN, R.DBG_TRACE_CFG_STOP_FULL, R.DBG_TRACE_CFG_TO_EQ, R.DBG_TRACE_CFG_EQ, R.DBG_TRACE_CFG_LOG2SIZE, R.DBG_TRACE_SRC_SRC] ++
  [R.DBG_TRACE_LAYER_LAYER_HI, R.DBG_TRACE_LAYER_LAYER_LO, R.DBG_TRACE_START_TBC_TBC, R.DBG_TRACE_STATUS_STOPPED, R.DBG_TRACE_STATUS_ACTIVE, R.DBG_TRACE_PROD_COUNT, R.DBG_TRACE_MARK_VALUE, R.DBG_TW_BASE_ADDR, R.DBG_TW_CFG_EN, R.DBG_TW_CFG_LOG2SLOTS, R.DBG_TW_IDX_POINT, R.DBG_TW_MATCH_OP_MASK] ++
  [R.DBG_TW_MATCH_OP_ID, R.DBG_TW_MATCH_LAYER_MASK, R.DBG_TW_MATCH_LAYER_ID, R.DBG_TW_DESC_ADDR, R.DBG_TW_CTRL_EN, R.DBG_TW_CTRL_EBASE, R.DBG_TW_CTRL_PERIOD, R.DBG_TW_SEQ_COUNT, R.DBG_TW_STATUS_BUSY, R.DBG_TW_STATUS_PENDING, R.DBG_TW_STATUS_LAST_STATUS]

/-- The fields of the block-specific registers of the CLU page. -/
def fieldsClu : List Fld :=
  [R.CLU_CDMA_STATUS_ACTIVE, R.CLU_CDMA_STATUS_FILL3, R.CLU_CDMA_STATUS_FILL2, R.CLU_CDMA_STATUS_FILL1, R.CLU_CDMA_STATUS_FILL0, R.CLU_CDMA_ERR_VALID, R.CLU_CDMA_ERR_QUAD, R.CLU_CDMA_ERR_COUNT, R.CLU_CDMA_ERR_CODE, R.CLU_CDMA_ERR_DESC_ADDR, R.CLU_CDMA_RNG_STATE_VALUE, R.CLU_CDMA_RNG_TAP_VALUE] ++
  [R.CLU_CLMEM_ERR_VALID, R.CLU_CLMEM_ERR_UE, R.CLU_CLMEM_ERR_LINE]

/-- The fields of the block-specific registers of the CORE page. -/
def fieldsCore : List Fld :=
  [R.CORE_ARR_STATUS_BUSY, R.CORE_ARR_STATUS_KAT_ACTIVE, R.CORE_ARR_STATUS_LIVE, R.CORE_ARR_FENCE_LAST, R.CORE_ARR_FENCE_CAUSE, R.CORE_ARR_FENCE_FENCED, R.CORE_KAT_CTRL_PATTERN, R.CORE_KAT_CTRL_MASK, R.CORE_KAT_CTRL_REQ, R.CORE_KAT_STATUS_YIELDS, R.CORE_KAT_STATUS_ABANDONED, R.CORE_KAT_STATUS_FAIL] ++
  [R.CORE_KAT_STATUS_PASS] ++
  (List.range 4).map R.CORE_KAT_PASS_TBC_TBC ++
  [R.CORE_ACC_STEP_BW_COUNT, R.CORE_ACC_STEP_RA_COUNT, R.CORE_ACC_STEP_OVF_COUNT, R.CORE_ACC_STEP_NF_COUNT, R.CORE_PC_PC, R.CORE_RUN_STATUS_DMA_WAIT, R.CORE_RUN_STATUS_SIG_WAIT, R.CORE_RUN_STATUS_MMA_ACTIVE, R.CORE_RUN_STATUS_STATE, R.CORE_EXC_STATUS_VALID, R.CORE_EXC_STATUS_CODE, R.CORE_EXC_PC_PC] ++
  [R.CORE_CTX_BASE_BASE, R.CORE_CTX_CMD_BUSY, R.CORE_CTX_CMD_OP, R.CORE_CTX_RESULT_STATUS, R.CORE_SCALE_CTRL_FORCE_JIT, R.CORE_SCALE_CTRL_HEAD, R.CORE_NW_STATUS_FIRST, R.CORE_NW_STATUS_JUMP, R.CORE_NW_BASE_BASE, R.CORE_RNG_DIGEST_CRC, R.CORE_SPAD_ERR_VALID, R.CORE_SPAD_ERR_UE] ++
  [R.CORE_SPAD_ERR_LINE, R.CORE_DMA_STATUS_ACTIVE, R.CORE_DMA_STATUS_FILL, R.CORE_DMA_ERR_VALID, R.CORE_DMA_ERR_COUNT, R.CORE_DMA_ERR_CODE, R.CORE_DMA_ERR_DESC_ADDR, R.CORE_DMA_RNG_STATE_VALUE, R.CORE_DMA_RNG_TAP_VALUE]

/-- The block-specific fields of a block type; every page has those of the common header besides (R12). -/
def fieldsOf (blk : Nat) : List Fld :=
  match blk with
  | 0x10 => fieldsTop
  | 0x11 => fieldsKpr
  | 0x12 => fieldsPwr
  | 0x13 => fieldsClk
  | 0x14 => fieldsLog
  | 0x15 => fieldsFwu
  | 0x16 => fieldsKsb
  | 0x20 => fieldsMem
  | 0x21 => fieldsMch
  | 0x22 => fieldsFar
  | 0x30 => fieldsLnk
  | 0x31 => fieldsRte
  | 0x32 => fieldsXpt
  | 0x40 => fieldsCol
  | 0x50 => fieldsHif
  | 0x51 => fieldsQue
  | 0x52 => fieldsEvt
  | 0x53 => fieldsDbg
  | 0x58 => fieldsClu
  | 0x60 => fieldsCore
  | _ => []

/-- Page offsets of the registers of a block that are wider than 32 bits (R602); CNT0–CNT3 and CFG_DIGEST of the
common header among them (R12). -/
def wideRegs (blk : Nat) : List Nat :=
  [0x060, 0x068, 0x070, 0x078, 0x080] ++
  match blk with
  | 0x10 => [0x108, 0x200, 0x218, 0x228]
  | 0x11 => [0x308, 0x400, 0x418, 0x508, 0x518]
  | 0x12 => [0x138, 0x1B0, 0x1B8, 0x1C8]
  | 0x13 => [0x130, 0x140]
  | 0x14 => [0x108, 0x110, 0x118, 0x120, 0x128, 0x130, 0x140, 0x150, 0x168, 0x188, 0x198, 0x1C8]
  | 0x15 => [0x100, 0x120, 0x128]
  | 0x20 => [0x118, 0x128, 0x130, 0x138]
  | 0x21 => [0x110, 0x118, 0x120, 0x128, 0x130, 0x138]
  | 0x22 => [0x100, 0x110, 0x118, 0x120, 0x128]
  | 0x30 => [0x110, 0x140, 0x148, 0x168, 0x1B0]
  | 0x31 => [0x108, 0x118, 0x128, 0x148]
  | 0x32 => [0x140]
  | 0x40 => [0x108, 0x120, 0x140, 0x1B8, 0x1C8, 0x808, 0x818, 0x820, 0x840, 0x880, 0x888]
  | 0x50 => [0x130, 0x140, 0xA08, 0xA18, 0xA98, 0xB00]
  | 0x51 => [0x108, 0x118, 0x130]
  | 0x52 => [0x108, 0x130]
  | 0x53 => [0x110, 0x120, 0x138, 0x148, 0x150, 0x160, 0x178, 0x180]
  | 0x58 => [0x108, 0x110, 0x118, 0x120]
  | 0x60 => [0x100, 0x118, 0x120, 0x138, 0x410, 0x418, 0x420, 0x428, 0x600, 0x610, 0x618, 0x620]
  | _ => []

/-- Every field of the module. -/
def allFields : List Fld :=
  fieldsHdr ++ fieldsTop ++ fieldsKpr ++ fieldsPwr ++ fieldsClk ++ fieldsLog ++ fieldsFwu ++ fieldsKsb ++ fieldsMem ++ fieldsMch ++ fieldsFar ++ fieldsLnk ++ fieldsRte ++ fieldsXpt ++ fieldsCol ++ fieldsHif ++ fieldsQue ++ fieldsEvt ++ fieldsDbg ++ fieldsClu ++ fieldsCore

end Sys2Proof.Machine
end

