-- ==== Sys2Proof/Machine/State.lean ====
section
/-!
DEFINITION. The state of the module as plain data: every register field (`regs`), every memory, every queue, buffer,
counter, mode and pin that the spec gives it, and the queue of waiting commands.
-/

namespace Sys2Proof.Machine

/-- Why a command stops the machine. -/
inductive Fault where
  /-- No command of the module ends in a fault: the spec gives every command an outcome, if only to be ignored. Safe. -/
  | unreachable
  deriving DecidableEq, Repr

/-- Why a command has no meaning here. -/
inductive Refusal where
  /-- The command has no meaning in this model yet. Raised by `exec`'s arms only. Safe. -/
  | notModelled (mnemonic : String)
  deriving DecidableEq, Repr

/-- What leaves the block other than by writes to host memory (R402, R431, R433, R482, R546). -/
inductive OutMsg where
  /-- An MSI-X message of a function: vector, address and data of its table entry (R431). -/
  | msix (fn vector addr data : Nat)
  /-- A flit sent on a port: for each live lane the bytes that leave on it (R306). -/
  | link (port : Nat) (lanes : List (Nat × List Nat))
  /-- A response frame of the side-band port: command tag, status and data bytes (R546). -/
  | ksb (opcode status : Nat) (data : List Nat)
  /-- A response of the SPDM responder: response code and fields (R433). -/
  | doe (code : Nat) (fields : List Nat)
  /-- A level driven on a board signal: 0 PWRCYC_REQ_N, 1 THERMTRIP_N, 3 CXL_PERST_N (R589). -/
  | pin (pin level : Nat)
  /-- A write on AVSBus: its command code, the rail select and the value (R441). -/
  | avs (cmd rail value : Nat)
  /-- A completion given to a requester: kind and status. -/
  | status (kind code : Nat)
  deriving DecidableEq, Repr

/-! ### Cores (03_cube_arrays.md, 04_tile_isa.md) -/

/-- A norm watch slot (R161): its EWA entry, its max-abs value as an FP32 code, its NONFIN flag and its count. -/
structure NwSlot where
  ewa : Ewa
  max : Nat
  nonfin : Bool
  count : Nat
  deriving DecidableEq, Repr

/-- A cleared norm watch slot. -/
def NwSlot.clear : NwSlot := ⟨Ewa.clear, 0, false, 0⟩

/-- What a core that has not yet completed an instruction waits for: a signal (R163), space in the queue of a DMA
engine for the descriptor at an address (R164), or the scopes of a FENCE (R165). -/
inductive Wait where
  | sig (n : Nat) (v : Nat)
  | dma (eng : Nat) (addr : Nat)
  | fence (scopes : Nat)
  deriving DecidableEq, Repr

/-- The self-tests of a core's arrays (R123–R126, R496): the pattern each array is at, 8 bits for each; and as masks of arrays
those under test, those of them that KAT_CTRL.REQ asked for, those that failed their pattern once, those that await their fence, those scheduled
for a test by a weight register that failed, those under such a test, and those whose abandoned test awaits its rescheduling. -/
structure Kat where
  pattern : Nat
  todo : Nat
  active : Nat
  failedOnce : Nat
  fencing : Nat
  due : Nat
  parity : Nat
  redo : Nat
  deriving DecidableEq, Repr

/-- No array tested or to be tested. -/
def Kat.none : Kat := ⟨0, 0, 0, 0, 0, 0, 0, 0⟩

/-- A context save or restore in progress (R170): whether it is a save, the address of its image, RUN_STATUS.STATE of the core before it,
and whether it still waits for a channel that holds its first accesses. -/
structure CtxRun where
  save : Bool
  base : Nat
  rest : Nat
  waits : Bool
  deriving DecidableEq, Repr

/-- An entry of a feeder queue (R182): its tag (a scale line or an element line), the scratchpad line, its 64 bytes, and whether
the line was poisoned. -/
structure FeedEntry where
  scale : Bool
  line : Nat
  data : List Nat
  poison : Bool
  deriving DecidableEq, Repr

/-- A stationary weight register of an array (R92): the slice of the MMA it holds, counted through folds and passes, the column group,
and for each weight tensor of the pass 8 rows of 64 elements: the code, whether its line was poisoned, and its scale byte as the
scale port holds it (R185). -/
structure Weights where
  slice : Nat
  group : Nat
  cells : List (Nat × Bool × Nat)
  deriving DecidableEq, Repr

/-- An MMA in progress (R112, R114, R120): the instruction, the descriptors as they stood at issue, the column groups computed in one
fold pass, and the slices done, counted through slices, then fold passes, then product passes. -/
structure MmaRun where
  x : MForm
  ta : BitVec 512
  tai : BitVec 512
  tb : BitVec 512
  tbi : BitVec 512
  per : Nat
  done : Nat
  deriving DecidableEq, Repr

/-- An AST in progress (R147, R152): where it was issued, how many instructions have completed since, itself included, and the
generators as they stood before it. -/
structure AstRun where
  pc : Nat
  age : Nat
  rng : NMap Nat
  deriving DecidableEq, Repr

/-- A SQUANT in progress (R149, R152): the instruction, the descriptors of source, history, destination and copy-forward history as
they stood at issue, where it was issued, how many instructions have completed since, itself included, the generators as they stood
before it, and the blocks done. -/
structure SquantRun where
  x : RForm
  src : BitVec 512
  hist : BitVec 512
  dst : BitVec 512
  fwd : BitVec 512
  pc : Nat
  age : Nat
  rng : NMap Nat
  done : Nat
  deriving DecidableEq, Repr

/-- A compute core (R135) and what it is running: its registers (an unlisted one reads as `fill` says), its
accumulator banks (key 4096 × bank + 64 × row + column) and what an unlisted entry of a bank reads as, its generators, its
norm watch slots, the kernel, and the units at work. -/
structure Core where
  s : NMap Word
  v : PMap Lane
  t : NMap (BitVec 512)
  p : NMap Word
  /-- 0: an unlisted S, V or P register reads 0; n > 0: it lost its contents in the n-th loss (R39). -/
  fill : Nat
  acc : NMap Ewa
  /-- Bank ↦ 0 for cleared, n > 0 for undefined since the n-th loss (R101). -/
  accFill : NMap Nat
  rng : NMap Nat
  tap : NMap Nat
  nw : NMap NwSlot
  layer : Nat
  op : Nat
  /-- Function that the running kernel belongs to. -/
  fn : Nat
  /-- (module queue, descriptor number) of the KERNEL_LAUNCH that the core runs. -/
  launch : Option (Nat × Nat)
  /-- The status with which the kernel of `launch` ended on this core (R421). -/
  ended : Option Nat
  wait : Option Wait
  mma : Option MmaRun
  ast : Option AstRun
  squant : Option SquantRun
  /-- Weight registers: key 2 × array + register (R92). -/
  br : NMap Weights
  /-- Feeder queues: key 8 × array + queue, the entries in the order they were read (R182). -/
  fq : NMap (List FeedEntry)
  /-- The open SQUANT block index of the context image (R169). -/
  openBlk : Nat
  dirtyBanks : Nat
  /-- A context save or restore in progress (R170). -/
  ctx : Option CtxRun
  /-- A PUT of the core ended because its remote module answered no more: no acknowledgement of it will come (R202). -/
  putLost : Bool
  foldSeen : Bool
  kat : Kat
  deriving DecidableEq, Repr

/-- A core that holds nothing. -/
def Core.init : Core :=
  { s := [], v := [], t := [], p := [], fill := 0, acc := [], accFill := [], rng := [], tap := [], nw := [],
    layer := 0, op := 0, fn := 0, launch := none, ended := none, wait := none, mma := none, ast := none,
    squant := none, br := [], fq := [], openBlk := 0, dirtyBanks := 0, ctx := none, putLost := false, foldSeen := false, kat := .none }

/-! ### DMA engines (05_core_memory.md) -/

/-- A DMA descriptor queued or in progress: its 64 bytes as one number, the address and the core it was queued from, its
function and attribution, and, once it has started, the bytes moved, its status once known, the generator state that an OK
completion leaves, and writes of the generator's registers that wait for its completion (R195, R205). -/
structure DmaDesc where
  desc : Nat
  addr : Nat
  core : Nat
  fn : Nat
  layer : Nat
  op : Nat
  started : Bool
  result : Option Nat
  bytes : Nat
  rng : Option Nat
  rngW : Option Nat
  tapW : Option Nat
  /-- Tag of its frames on a flow, for a PUT or GET in progress (R193). -/
  tag : Nat
  /-- The KERNEL_LAUNCH that queued it (module queue, descriptor number). -/
  launch : Option (Nat × Nat)
  /-- Its place among all descriptors that its engine ever took (R195). -/
  place : Nat
  /-- What it has moved, line by line: the address of the first byte, the bytes before and after, and the marker before (R180, R199). -/
  undo : List (Nat × List Nat × List Nat × Bool)
  deriving DecidableEq, Repr

/-- A DMA engine: its queues in order of position (a core DMA has one, a cluster DMA four, R189), the descriptors of each
in queue order, and the position of the weighted round robin with the starts left there (R408). -/
structure DmaEng where
  q0 : List DmaDesc
  q1 : List DmaDesc
  q2 : List DmaDesc
  q3 : List DmaDesc
  turn : Nat
  left : Nat
  /-- Descriptors taken so far. -/
  taken : Nat
  deriving DecidableEq, Repr

/-- An engine with empty queues. -/
def DmaEng.empty : DmaEng := ⟨[], [], [], [], 0, 0, 0⟩

/-! ### Stacked memory and far tier (07_stacked_memory.md) -/

/-- An entry of a write-combining buffer (R255): the line (address div 64 within the HBM space), the byte-valid mask, the
bytes as one number, when it was allocated, and whether any of its bytes came marked from a poisoned source line (R181). -/
structure WcbEntry where
  line : Nat
  mask : Nat
  data : Nat
  tbc : Nat
  bad : Bool
  deriving DecidableEq, Repr

/-- A request that a stack controller holds (R258, R260, R14): an HBM address, its length, and the bytes of a write. -/
structure MemReq where
  addr : Nat
  len : Nat
  write : Option Nat
  deriving DecidableEq, Repr

/-- A memory channel (R254, R260, R277): retraining, the time of the last retraining, requests held, repeats of the
transfer in error, a traffic-generator run, and consecutive preemptions of a test. -/
structure Chan where
  retraining : Bool
  lastRetrain : Option Nat
  held : List MemReq
  repeats : Nat
  tgStop : Bool
  /-- Retraining at 6.4 Gb/s, and a traffic run has started. -/
  low : Bool
  tgOn : Bool
  preempts : Nat
  /-- A test on the channel was abandoned, and awaits its rescheduling (R276). -/
  abandoned : Bool
  deriving DecidableEq, Repr

/-- A channel at rest. -/
def Chan.init : Chan := ⟨false, none, [], 0, false, false, false, 0, false⟩

/-- Memory beyond the die: write-combining buffers per stack (oldest entry first), writes waiting for one, channels (key
32 × stack + channel), retired rows (key: stack × 2^26 + row ↦ spare row + 1), scrub passes in which lines of a row were
corrected, scrub position, access counts per frame, and the frames and expanders of the far tier. -/
structure HbmSt where
  wcb : NMap (List WcbEntry)
  wcbWait : NMap (List MemReq)
  chans : NMap Chan
  rows : NMap Nat
  rowPasses : NMap (List Nat)
  scrubPass : NMap Nat
  /-- HBM frame ↦ (line reads, line writes), each saturating (R271). -/
  frameCnt : NMap (Nat × Nat)
  farCnt : NMap Nat
  /-- Frames retired as a whole (R264): frame ↦ true once out of service, false while still mapped. -/
  retiredFrames : NMap Bool
  exhausted : NMap Bool
  /-- Stacks in self-refresh (R41). -/
  selfRefresh : NMap Bool
  /-- Far-tier link ↦ wait of its next retraining in ms. -/
  farWait : NMap Nat
  /-- Far-tier links trained at 32 GT/s or at half width (R265): bit d. -/
  farLow : Nat
  /-- Translation cache of each cluster (R269): (function, VPN, entry), newest first. -/
  tlb : NMap (List (Nat × Nat × Nat))
  deriving DecidableEq, Repr

/-- Nothing held, nothing retired. -/
def HbmSt.init : HbmSt := ⟨[], [], [], [], [], [], [], [], [], [], [], [], 0, []⟩

/-! ### Translation and frames (R268–R274) -/

/-- A frame request in progress (R272–R274): OP, TIER, FLAGS, first VPN and count. -/
structure FrameReq where
  op : Nat
  tier : Nat
  flags : Nat
  vpn : Nat
  count : Nat
  deriving DecidableEq, Repr

/-- Translation of a function: frames that FREE has released and that await a flip (key 2^23 × tier + frame), frames held in
quarantine, and the request and the invalidation in progress. -/
structure XltSt where
  awaiting : NMap Bool
  /-- VPN ↦ the frame that QUARANTINE holds for it (R274), as a key below plus 1. -/
  quarantined : NMap Nat
  req : Option FrameReq
  /-- The range that an XLT_INVAL in progress invalidates: first VPN and count. -/
  inval : Option (Nat × Nat)
  deriving DecidableEq, Repr

/-- A function without translations. -/
def XltSt.empty : XltSt := ⟨[], [], none, none⟩

/-! ### Event records and event queues (12_host_interface.md) -/

/-- An event record (R425), field by field. -/
structure EvRec where
  typ : Nat
  cls : Nat
  inj : Bool
  addr : Bool
  fn : Nat
  src : Nat
  merge : Nat
  tbc : Nat
  attr : Nat
  payload : Nat
  deriving DecidableEq, Repr

/-- An open merge slot of an event queue (R429): the record that opened it, and the identical records counted. -/
structure MergeSlot where
  first : EvRec
  opened : Nat
  count : Nat
  lastTbc : Nat
  lastPayload : Nat
  deriving DecidableEq, Repr

/-- What an event queue holds besides its registers (R427–R431): the pending buffer, the merge slots, the records
written per source page and class in a millisecond, the records written and not yet signalled by MSI-X, and the last
64 records (section 6 of a dump, R487). -/
structure EvQ where
  pend : List EvRec
  slots : List MergeSlot
  rate : PMap (Nat × Nat)
  unsig : Nat
  unsigTbc : Nat
  hist : List EvRec
  /-- Records redirected to this queue as a default event queue (R18). -/
  redirected : Nat
  deriving DecidableEq, Repr

/-- An event queue that holds nothing. -/
def EvQ.empty : EvQ := ⟨[], [], [], 0, 0, [], 0⟩

/-- A command fetched and not yet completed (R414–R417): its descriptor number, its 64 bytes as one little-endian
number, whether it has started, its outcome once known, when it started, what it still waits for, and its place among all
commands fetched (R233). -/
structure Cmd where
  num : Nat
  order : Nat
  desc : Nat
  started : Bool
  result : Option Nat
  since : Nat
  aux : Nat
  deriving DecidableEq, Repr

/-- What a command queue holds besides its registers: the commands in flight in fetch order, and the fetches since the
last head write-back (R414). -/
structure CmdQ where
  inflight : List Cmd
  unwritten : Nat
  deriving DecidableEq, Repr

/-- A command queue with nothing in flight. -/
def CmdQ.empty : CmdQ := ⟨[], 0⟩

/-- The resources in force for a function (R406, R407), other than its quads. -/
structure Fn where
  cmdqBase : Nat
  cmdqCount : Nat
  evtqBase : Nat
  evtqCount : Nat
  commBase : Nat
  commCount : Nat
  sigBase : Nat
  sigCount : Nat
  flows : Nat
  framesHbm : Nat
  framesFar : Nat
  weight : Nat
  deriving DecidableEq, Repr

/-- A function without resources (R434, Reset column: every count 0, CDMA_WEIGHT 1). -/
def Fn.none : Fn := ⟨0, 0, 0, 0, 0, 0, 0, 0, 0, 0, 0, 1⟩

/-- A FENCE or STOP in progress (R423, R424): the module queue and descriptor number of the FENCE command, or none for a
STOP, the function, and the module queues it waits for. -/
structure Fence where
  fn : Nat
  cmd : Option (Nat × Nat)
  targets : List (Nat × Nat)
  deriving DecidableEq, Repr

/-- A function's SPDM connection state over the DOE mailbox (R433): the requests answered so far. -/
structure Spdm where
  versionDone : Bool
  capsDone : Bool
  algsDone : Bool
  transcript : List Nat
  deferred : Nat
  deriving DecidableEq, Repr

/-- The host side: functions, quads, queues, MSI-X tables, the PCIe link and the SPDM responder. -/
structure HostSt where
  fns : NMap Fn
  /-- Quad number ↦ owning function + 1; 0 when no function holds the quad (R406). -/
  quadOwner : NMap Nat
  cmdq : NMap CmdQ
  evtq : NMap EvQ
  fences : List Fence
  /-- (function, dword index) of the MSI-X table (R599); vector control resets to masked. -/
  msix : PMap Nat
  /-- (function, vector) ↦ pending bit (R431). -/
  pba : PMap Bool
  /-- Functions whose QUIESCE command waits: function ↦ the (module queue, descriptor number) pairs (R423). -/
  quiesce : NMap (List (Nat × Nat))
  pcieUp : Bool
  pcieWidth : Nat
  pcieGts : Nat
  /-- Partners met without Flit Mode (R402). -/
  noFlit : Nat
  perst : Bool
  /-- Functions answering Request Retry Status during an FLR (R404). -/
  flr : NMap Bool
  spdm : Spdm
  /-- Weighted round robin of R415: class ↦ fetch slots used of its weight in the current round. -/
  cqCredit : NMap Nat
  /-- Commands fetched so far, over all queues. -/
  order : Nat
  deriving DecidableEq, Repr

/-- No function has resources, and no link is up. -/
def HostSt.init : HostSt :=
  { fns := [], quadOwner := [], cmdq := [], evtq := [], fences := [], msix := [], pba := [], quiesce := [],
    pcieUp := false, pcieWidth := 0, pcieGts := 0, noFlit := 0, perst := false, flr := [],
    spdm := ⟨false, false, false, [], 0⟩, cqCredit := [], order := 0 }

/-! ### Recovery (14_recovery.md) -/

/-- A dump being written (R484–R487): its cause, the causes merged into it, when it began, and whether a reset waits for
its end. -/
structure Dump where
  begun : Nat
  kind : Nat
  level : Nat
  code : Nat
  source : Nat
  bit : Nat
  fn : Nat
  triggers : Nat
  deriving DecidableEq, Repr

/-- A reset in progress (R479): its level (1 RST_CTX, 2 RST_ENG, 3 RST_PART, 4 RST_CHIP), the page or function it names,
and what restores ENABLE at its end (R14). -/
structure RstOp where
  level : Nat
  /-- Page index for RST_ENG and RST_CTX; function for RST_PART. -/
  target : Nat
  /-- The ENABLE values the units in scope held before the reset, page by page (R14). -/
  enables : List (Nat × Nat)
  /-- The reset was requested by a CTRL write that also set other bits (R13). -/
  withBits : Bool
  /-- The reset waits: for the dump that precedes it or for the Keeper (R477, R485); one that a higher reset covers never begins. -/
  begun : Bool
  /-- The reset was requested during a higher one, and completes with it (R483). -/
  covered : Bool
  deriving DecidableEq, Repr

/-- Rescheduling of one self-test on one unit (R496): consecutive abandonments, the interval in ms, whether it is suspended, and
since when an abandoned test waits. -/
structure TestRec where
  consecutive : Nat
  interval : Nat
  suspended : Bool
  since : Option Nat
  deriving DecidableEq, Repr

/-- A test never abandoned. -/
def TestRec.init : TestRec := ⟨0, 0, false, none⟩

/-! ### The Keeper's log (15_keepers_log.md) -/

/-- How far the programming of one copy of a log record has come (R506, R507): cut before its bytes were whole (torn), whole but without its
COMMIT word, committed, or void. -/
inductive Commit where
  | torn | uncommitted | committed | void
  deriving DecidableEq, Repr

/-- A record of the Keeper's log (R506): its type, sequence number, FLAGS and payload bytes, and the TBC when formed. -/
structure LogRec where
  typ : Nat
  seq : Nat
  flags : Nat
  tbc : Nat
  payload : List Nat
  deriving DecidableEq, Repr

/-- A journal sector in use (R505): its number on the device, its header's ERASE_COUNT and SECTOR_SEQ, the record copies
from offset 64 on, and its CLOSED word. -/
structure Sector where
  index : Nat
  erases : Nat
  seq : Nat
  recs : List (LogRec × Commit)
  closed : Bool
  deriving DecidableEq, Repr

/-- A metadata entry (R510): the head sector, the sector of the newest CKPT_BEGIN, the spare-pool assignments, the highest ERASE_COUNT,
and the entry number. -/
structure Hint where
  head : Nat
  ckpt : Nat
  spares : NMap Nat
  topErase : Nat
  number : Nat
  deriving DecidableEq, Repr

/-- One flash device as the journal sees it (R504, R505, R509, R510, R516, R517): the journal positions in use with the
head first, how many of the working positions after the head are erased, erase counts and failures by position, positions moved
to a spare sector, the spare pool, the bytes programmed day by day, the times of recent failures, and the bytes since the last
CKPT_BEGIN. -/
structure FlashDev where
  failed : Bool
  used : List Sector
  erasedN : Nat
  erases : NMap Nat
  fails : NMap Nat
  replaced : NMap Nat
  working : Nat
  spare : Nat
  sectorSeq : Nat
  window : List (Nat × Nat)
  sinceCkpt : Nat
  failTimes : List Nat
  /-- The newest metadata entries that the device holds (R510), by the device whose head each is of. -/
  hints : NMap Hint
  /-- Positions erased whose header a power cut left unwritten: they count as not erased (R505). -/
  unheaded : List Nat
  /-- The manufacturing record fails its HMAC (R504). -/
  badRecord : Bool
  deriving DecidableEq, Repr

/-- A device as it leaves the factory: an erased journal ring of 1,024 sectors and 480 spares. -/
def FlashDev.fresh : FlashDev :=
  ⟨false, [], 1024, [], [], [], 1024, 480, 0, [], 0, [], [], [], false⟩

/-- An incident (R518–R520): copies taken by class, those not kept, the first record, the highest reset level, the
64-entry ring, the merge slots, the copies taken in the current second, and the flags of its summary. -/
structure Incident where
  number : Nat
  isOpen : Bool
  openTbc : Nat
  lastTbc : Nat
  c0 : Nat
  c1 : Nat
  c2 : Nat
  notKept : Nat
  kept : Nat
  ring : List EvRec
  slots : List MergeSlot
  second : Nat × Nat
  firstTyp : Nat
  firstSrc : Nat
  level : Nat
  flags : Nat
  step : Nat
  deriving DecidableEq, Repr

/-- No incident yet. -/
def Incident.none : Incident := ⟨0, false, 0, 0, 0, 0, 0, 0, 0, [], [], (0, 0), 0, 0, 0, 0, 0⟩

/-- A stored key-ring slot copy (R523): MAGIC valid, generation, trust-list version, its image bytes' SHA-384 and public keys as numbers, the
chain and the trust list by their certificates' numbers, and the bytes of the chain, leaf first; `none` where the copy is erased. -/
structure KeySlot where
  gen : Nat
  trust : Nat
  digest : Nat
  leaf : Nat
  chain : List Nat
  anchors : List Nat
  certs : List Nat
  deriving DecidableEq, Repr

/-- The state items in force that the log rebuilds at power-on (R502, R513). -/
structure LogImage where
  /-- (KIND, ID) ↦ CAUSE + 1 of each retirement in force (R503). -/
  retired : PMap Nat
  /-- The retired arrays (4 × core + array) in the order of their retirement records, newest first (R127). -/
  arrays : List Nat
  trim : NMap Nat
  derate : NMap Nat
  laserBase : NMap (Nat × Nat)
  epoch : Nat
  expect : NMap Nat
  keyCommit : List (Nat × Nat × Nat)
  slotState : NMap Nat
  attempts : NMap Nat
  devFail : NMap Nat
  deriving DecidableEq, Repr

/-- The Keeper's log: both devices, the queues of R508, the counts of events not written, the incident, the OTP
fuses (R521), the key ring (R523), the state in force, and a checkpoint in progress (R514). -/
structure LogSt where
  fl0 : FlashDev
  fl1 : FlashDev
  nextSeq : Nat
  stateQ : List LogRec
  eventQ : List LogRec
  retryQ : List LogRec
  /-- Records of a checkpoint in progress that are still to be written (R514). -/
  ckpt : List LogRec
  nextDev : Nat
  lost : NMap Nat
  incident : Incident
  /-- OTP counter number ↦ (fuses blown first, fuses blown second): FW_SVN 0, KEY_GEN 1, TRUST_GEN 2. -/
  otp : NMap (Nat × Nat)
  /-- 2 × slot + device ↦ copy. -/
  keys : NMap (Option KeySlot)
  staged : Option (List Nat)
  keyStep : Nat
  keyNew : Option KeySlot
  image : LogImage
  ckptNumber : Nat
  ckptDue : Bool
  summaries : List (List Nat)
  /-- Retirement map (R527): bank × 16384 + index ↦ (KIND, ID, CLEARED), with KIND 0 for an entry not in use. -/
  rmap : NMap (Nat × Nat × Bool)
  /-- A host read in progress (R528): buffer address, length, first SEQ, TYPE_LO, TYPE_HI. -/
  reading : Option (Nat × Nat × Nat × Nat × Nat)
  /-- A key operation in progress: 1 GENERATE, 2 INSTALL; the slot that INSTALL writes and the checks it has passed. -/
  keyOp : Nat
  deriving DecidableEq, Repr

/-- The factory state (R511): nothing retired, no trims, the factory key slot K0. -/
def LogImage.factory : LogImage := ⟨[], [], [], [], [], 0, [], [], [], [], []⟩

/-- A retirement comes into force (R503). -/
def LogImage.retire (i : LogImage) (kind id cause : Nat) : LogImage :=
  { i with
    retired := PMap.put (kind, id) (cause + 1) i.retired
    arrays := if kind = 1 then id :: i.arrays.filter (fun a => decide (a ≠ id)) else i.arrays }

/-- A retirement is lifted (R527). -/
def LogImage.unretire (i : LogImage) (kind id : Nat) : LogImage :=
  { i with
    retired := Map.del (kind, id) i.retired
    arrays := if kind = 1 then i.arrays.filter (fun a => decide (a ≠ id)) else i.arrays }

/-- The log of a module as it leaves the factory. -/
def LogSt.fresh : LogSt :=
  { fl0 := .fresh, fl1 := .fresh, nextSeq := 1, stateQ := [], eventQ := [], retryQ := [], ckpt := [], nextDev := 0, lost := [],
    incident := .none, otp := [], keys := [], staged := none, keyStep := 0, keyNew := none, image := .factory,
    ckptNumber := 0, ckptDue := false, summaries := [], rmap := [], reading := none, keyOp := 0 }

/-! ### Trace and tensor watch (17_observing.md) -/

/-- A digest waiting for the watch engine (R561, R564): its watch point, the command (module queue, descriptor number) that it
holds, the IDs, the time of the match, and the settings captured at the match. -/
structure Digest where
  point : Nat
  queue : Nat
  num : Nat
  layer : Nat
  op : Nat
  tbc : Nat
  desc : Nat
  ebase : Nat
  deriving DecidableEq, Repr

/-- A function's trace and watch state: queued trace entries and drops since the last GAP (R559), watch-point match
counts (R561), digests waiting, and records written (R565). -/
structure DbgFn where
  queue : List EvRec
  dropped : Nat
  matched : NMap Nat
  digests : List Digest
  seq : Nat
  deriving DecidableEq, Repr

/-- Nothing traced or watched. -/
def DbgFn.empty : DbgFn := ⟨[], 0, [], [], 0⟩

/-! ### Links, routes, flows and time (08_optical_ports.md, 09_transport.md) -/

/-- A transport frame (R330): its header fields and payload bytes. For GET_REQ `len` counts the bytes asked for. -/
structure Frame where
  dst : Nat
  src : Nat
  op : Nat
  flags : Nat
  hops : Nat
  dflow : Nat
  sflow : Nat
  inc : Nat
  seq : Nat
  ack : Nat
  len : Nat
  status : Nat
  off : Nat
  sig : Nat
  sigInc : Nat
  poison : Nat
  data : List Nat
  deriving DecidableEq, Repr

/-- A sequenced frame that a flow still has to send or to see acknowledged (R334–R337): what it carries, the local
address of its source, to be read again when it is resent (core and address; none for bytes kept here), the destination
and the bytes received of a GET, and the tag of its DMA descriptor (0 for none). -/
structure TxReq where
  op : Nat
  flags : Nat
  off : Nat
  len : Nat
  sig : Nat
  sigInc : Nat
  seq : Nat
  src : Option (Nat × Nat)
  dst : Nat
  got : Nat
  tag : Nat
  data : List Nat
  poison : Nat
  deriving DecidableEq, Repr

/-- A flow context (R332), with the frames waiting for credit, those sent and not acknowledged, the GET requests not
answered, the frames accepted since the last ACK, and, for a flow of a group, its communication queue and flow index
(R372). -/
structure Flow where
  state : Nat
  vc : Nat
  dmCheck : Bool
  synPend : Bool
  fn : Nat
  retryLimit : Nat
  retries : Nat
  peerInc : Nat
  peerMaddr : Nat
  peerFlow : Nat
  rto : Nat
  txNext : Nat
  txAcked : Nat
  txLimit : Nat
  rxNext : Nat
  rxGrant : Nat
  sigBase : Nat
  sigCount : Nat
  winBase : Nat
  winLen : Nat
  waitq : List TxReq
  sent : List TxReq
  gets : List TxReq
  unacked : Nat
  grp : Option (Nat × Nat)
  deriving DecidableEq, Repr

/-- A context that is FREE. -/
def Flow.free : Flow :=
  ⟨0, 0, false, false, 0, 0, 0, 0, 0, 0, 0, 0, 0, 0, 0, 0, 0, 0, 0, 0, [], [], [], 0, none⟩

/-- A data or control flit of a port (R306): whether it is a control flit, its VC, frame marks, DM_CHECK, TELEM, the
plain bytes of its payload, and, once sent, its sequence number, its 256 bytes, and the resends since the last acknowledgement. -/
structure Flit where
  control : Bool
  vc : Nat
  sof : Bool
  eof : Bool
  dmCheck : Bool
  dmTag : Nat
  telem : Bool
  bytes : List Nat
  seq : Nat
  raw : List Nat
  resends : Nat
  deriving DecidableEq, Repr

/-- A frame being received on a virtual channel: its bytes so far, whether it is being discarded, and DM_CHECK, DM_TAG and TELEM of each of
its flits. -/
structure Partial where
  bytes : List Nat
  drop : Bool
  marks : List (Bool × Nat × Bool)
  deriving DecidableEq, Repr

/-- A key of one direction of a link (R302): the AES-256 key and the nonce salt, as bytes. -/
structure LinkKey where
  key : List Nat
  salt : List Nat
  deriving DecidableEq, Repr

/-- The handshake of a training (R301): the number of this side's random numbers, the character frames of step 4 of R292, the messages by 2 ×
CTYPE + side (0 initiator, 1 responder), and the bytes of the message being received. -/
structure Shake where
  id : Nat
  own : List Nat
  peer : List Nat
  msgs : NMap (List Nat)
  part : List Nat
  deriving DecidableEq, Repr

/-- No handshake. -/
def Shake.none : Shake := ⟨0, [], [], [], []⟩

/-- An optical port besides its registers (R291–R318). -/
structure Port where
  /-- A training is in progress since `trainTbc`; the TBC of the last self-started one; the last backoff interval (ms); whether
  the port is to train itself again after a link-down condition or for a lane's error rate (R294, R311). -/
  training : Bool
  trainTbc : Nat
  lastSelf : Option Nat
  backoff : Nat
  selfPend : Bool
  /-- Lanes that this training may use and those that have locked (R292), and the VC limits in force (R312). -/
  lanes : Nat
  locks : Nat
  limits : NMap Nat
  /-- CTYPE of the handshake message expected next (0 none; 7 while UP until the first character frame), the handshake, the IDENT of the
  certificate received, and the IDENT and the MADDR and ROLE of the last partner that reached UP. -/
  stage : Nat
  shake : Shake
  ident : Nat
  partner : Nat
  partnerChar : Nat × Nat
  /-- The character frames sent within the last millisecond (MADDR, ROLE, TX_TBC), newest first, and the last good frame's arrival. -/
  sentChars : List (Nat × Nat × Nat)
  lastChar : Option Nat
  /-- Link-level sequence: next to send, next expected, sent and unacknowledged flits, flits waiting (VC for local frames, 8 + VC for
  passed frames, 4 for control), whether a NAK for the expected number is outstanding, and the numbers whose tag failed once. -/
  txSeq : Nat
  rxSeq : Nat
  replay : List Flit
  txq : NMap (List Flit)
  nak : Bool
  tagFail : List Nat
  /-- Transmit arbitration (R312): flits sent in the current round by VC, and by VC whether the last frame was local (0) or passed
  through (1), or which of them is being sent (2, 3). -/
  wrr : NMap Nat
  cur : NMap Nat
  /-- Credits modulo 2048 by VC (R313): flits sent, granted by the partner (listed once granted), received, and freed. -/
  sent : NMap Nat
  grant : NMap Nat
  got : NMap Nat
  freed : NMap Nat
  rotate : Nat
  part : NMap Partial
  /-- Keys (R302–R305): whether the link is encrypted, its session secret, the direction in which this side sends, the key that it sends under
  and those installed for receiving, by KEY_ID; generations in use, flits under the transmit key and when it began, REKEY tries outstanding,
  the generation installed for receiving and not yet seen, and when the grace window began. -/
  rxKey : Bool
  secret : List Nat
  side : Nat
  txKey : LinkKey
  rxKeys : NMap LinkKey
  txGen : Nat
  rxGen : Nat
  txFlits : Nat
  txKeyTbc : Nat
  rekey : Nat
  rxNew : Option Nat
  graceFrom : Option Nat
  /-- REASON ↦ TBC of the last REJECT sent (R316); start of the quarantine window (R317). -/
  rejTbc : NMap Nat
  quarFrom : Nat
  /-- Telemetry tokens (R312), 102,400 to one token, and the TBC at which they were counted. -/
  tokens : Nat
  tokenTbc : Nat
  starved : NMap Bool
  /-- Lane ↦ times of its lock losses; lane ↦ consecutive seconds above the limit (R311). -/
  lockLoss : NMap (List Nat)
  corrRun : NMap Nat
  corr : NMap Nat
  scan : Option Nat
  yields : Nat
  deriving DecidableEq, Repr

/-- A port at rest. -/
def Port.init : Port :=
  { training := false, trainTbc := 0, lastSelf := none, backoff := 0, selfPend := false, lanes := 0, locks := 0, limits := [],
    stage := 0, shake := .none, ident := 0, partner := 0, partnerChar := (0, 0), sentChars := [], lastChar := none,
    txSeq := 0, rxSeq := 0, replay := [], txq := [], nak := false, tagFail := [], wrr := [], cur := [], sent := [], grant := [],
    got := [], freed := [], rotate := 0, part := [], rxKey := false, secret := [], side := 0, txKey := ⟨[], []⟩, rxKeys := [],
    txGen := 0, rxGen := 0, txFlits := 0, txKeyTbc := 0, rekey := 0, rxNew := none, graceFrom := none,
    rejTbc := [], quarFrom := 0, tokens := 6553600, tokenTbc := 0, starved := [], lockLoss := [],
    corrRun := [], corr := [], scan := none, yields := 0 }

/-- A laser input (R290): half-decibel steps of loss already raised, samples of the first hour (count, sum of raw
powers in dBm / 100 as two's complement 16-bit values offset by 2^15), today's minimum, sum and count, and the bias and the
source identifier last reported. -/
structure Laser where
  steps : Nat
  newFrom : Option Nat
  firstN : Nat
  firstSum : Nat
  dayMin : Nat
  daySum : Nat
  dayN : Nat
  bias : Nat
  source : Nat
  deriving DecidableEq, Repr

/-- A laser input never sampled. -/
def Laser.init : Laser := ⟨0, none, 0, 0, 65535, 0, 0, 0, 0⟩

/-- The network side: flow contexts and which of them are cached, frames delivered to this module and not yet taken by the
operation that their OP names (VC ↦ oldest first), exception banks ((bank, index) ↦ entry), the patch overlay, the next
tag of a descriptor, ports, laser inputs, and the four times of R342. -/
structure NetSt where
  flows : NMap Flow
  cached : NMap Bool
  rx : NMap (List Frame)
  exc : PMap Nat
  patch : NMap Nat
  nextTag : Nat
  ports : NMap Port
  lasers : NMap Laser
  t1 : Nat
  t2 : Nat
  t3 : Nat
  t4 : Nat
  /-- What is still to be slewed, in sixteenths of a nanosecond, as sign and magnitude. -/
  slewNeg : Bool
  slew : Nat
  /-- The count has been held back in this microsecond. -/
  slewHeld : Bool
  /-- The TBC has been stepped since RST_CHIP or adoption (R342). -/
  stepped : Bool
  /-- The port whose partner's frame gave t1 and t2, none before the first since the TBC was stepped, and the TX_TBC of the frames that this
  module sent in the time before that step. -/
  tPort : Option Nat
  before : List Nat
  deriving DecidableEq, Repr

/-- No flow open, no frame in flight. -/
def NetSt.init : NetSt := ⟨[], [], [], [], [], 1, [], [], 0, 0, 0, 0, false, 0, false, false, none, []⟩

/-! ### The step machine (06_training_numerics.md) -/

/-- The settings that a step machine latched at its last opening (R246): POLICY and the three limits. -/
structure StepCfg where
  policy : Nat
  ovf : Nat
  sat : Nat
  loss : Nat
  deriving DecidableEq, Repr

/-- A SNAPSHOT in progress (R243–R245): its command, whether it has started, and what its header takes from the start. -/
structure Snap where
  queue : Nat
  num : Nat
  started : Bool
  step : Nat
  digest : Nat
  epoch : Nat
  tbc : Nat
  deriving DecidableEq, Repr

/-- A verdict frame held or being combined (R392): axis, opening (STEP, ATTEMPT, CONSEC), and the record. -/
structure VoteRec where
  axis : Nat
  consec : Nat
  record : Nat
  deriving DecidableEq, Repr

/-- A step machine besides its registers: STEP_SAT and STEP_NONFIN (R231), whether a command of the domain failed or was
aborted since the opening, whether one did not complete with OK since APPLYING began, the STEP_VERDICT or STEP_COMMIT in
progress (module queue, descriptor number, opcode), its requests, when it was fetched, the settings in force, the verdict
phase (number of axes done), the member's record for it, frames received, when HOLD began, and the SNAPSHOT. -/
structure StepSt where
  sat : Nat
  nonfin : Nat
  fail : Bool
  retry : Bool
  unclean : Bool
  cmd : Option (Nat × Nat × Nat)
  /-- Place among all commands of the step command that last began. -/
  order : Nat
  askRetry : Bool
  askVeto : Bool
  cfg : StepCfg
  phase : Nat
  record : Nat
  held : List VoteRec
  sealTbc : Nat
  voteTbc : Nat
  holdTbc : Nat
  snap : Option Snap
  deriving DecidableEq, Repr

/-- A step machine at rest, with the reset values of POLICY and the limits. -/
def StepSt.init : StepSt :=
  { sat := 0, nonfin := 0, fail := false, retry := false, unclean := false, cmd := none, order := 0, askRetry := false,
    askVeto := false, cfg := ⟨0x9859, 0, 0, 0xFFFFFFFF⟩, phase := 0, record := 0, held := [], sealTbc := 0, voteTbc := 0,
    holdTbc := 0, snap := none }

/-! ### Collectives (11_collectives.md) -/

/-- A collective operation (R373): its sequence number, the command that launched it and its place among all commands, its COB as one
number, and, once it has started: the group entry it started with, the phase of R379 under way (an index in its list of phases), the ring
steps received on each ring, bytes received of the piece under way, the agreed exponent bytes, the integers of R385 (two's complement,
biased by 2^64), which headers the phase has received, whether DST and EF_OUT have been written, its outcome once known, the status of the
ABORT that ended it (R395), and the TBC at its start (R381). A byte of a poisoned line is kept plus 256. -/
structure CollOp where
  seq : Nat
  queue : Nat
  num : Nat
  order : Nat
  cob : Nat
  since : Nat
  running : Bool
  entry : Nat
  phase : Nat
  recv0 : Nat
  recv1 : Nat
  part0 : List Nat
  part1 : List Nat
  hdr0 : Bool
  hdr1 : Bool
  exps : List Nat
  sums : List Int
  wroteDst : Bool
  wroteEf : Bool
  result : Option Nat
  abortSt : Option Nat
  begun : Nat
  deriving DecidableEq, Repr

/-- A communication queue: operations in sequence order, the pending ABORT (sequence number and status, R395), and the entries
whose flows close once the queue is idle (R372). -/
structure CollQ where
  ops : List CollOp
  pendAbort : Option (Nat × Nat)
  closing : List Nat
  deriving DecidableEq, Repr

/-- A communication queue with nothing in it. -/
def CollQ.empty : CollQ := ⟨[], none, []⟩

/-- The collective engines: communication queues by module number, group tables ((bank, module queue) ↦ entry), the quads
in force as dedicated (quad ↦ dedicated), functions whose COLL_QUADS write is pending, dedicated cores in use (core ↦
module queue + 1), and the launches so far (R376). -/
structure CollSt where
  cq : NMap CollQ
  grp : PMap Nat
  quads : NMap Bool
  quadsPend : NMap Bool
  inUse : NMap Nat
  launches : Nat
  deriving DecidableEq, Repr

/-- No operation, no group. -/
def CollSt.init : CollSt := ⟨[], [], [], [], [], 0⟩

/-! ### Agreement (10_agreement_limits.md) -/

/-- The daymark (R355, R358): whether it or the epoch changed since the last boundary, whether a change arrived during a
computation, the EXPECT table of an approval that waits for its log record (page ↦ digest), and the pages whose banked table has deferred its flip
and has no new flip count since (R360). -/
structure AgreeSt where
  changed : Bool
  again : Bool
  approval : Option (List (Nat × Nat))
  spent : List Nat
  deriving DecidableEq, Repr

/-- Nothing pending. -/
def AgreeSt.init : AgreeSt := ⟨false, false, none, []⟩

/-! ### Power, clock and heat (13_power_clock_thermal.md) -/

/-- A source of the envelope (R453): the setpoint (W) and slope (W/ms) applied, the newest change held, and the TBC of the
last change applied. -/
structure EnvSrc where
  set : Nat
  slope : Nat
  held : Option (Nat × Nat)
  last : Option Nat
  deriving DecidableEq, Repr

/-- A source with the reset values of R470. -/
def EnvSrc.init : EnvSrc := ⟨600, 40, none, none⟩

/-- An AVSBus rail 0–2 (R441, R442): the setting in force (0.05 mV units), the write that waits for its confirmation (setting,
its TBC, the retries used) and what it is for (0 frequency, 1 trim, 2 CLK_HST, 3 halt or lowering), and whether the last write failed. -/
structure Rail where
  set : Nat
  pend : Option (Nat × Nat × Nat)
  why : Nat
  failed : Bool
  deriving DecidableEq, Repr

/-- A rail as the board starts it. -/
def Rail.init : Rail := ⟨0, none, 0, false⟩

/-- The interconnect watch of a domain (R449): evaluations in a row above 1.15, above 1.40, at or below 1.40, and the steps of
0.05 already reported. -/
structure IcRun where
  high : Nat
  worse : Nat
  low : Nat
  steps : Nat
  deriving DecidableEq, Repr

/-- A domain never found high. -/
def IcRun.init : IcRun := ⟨0, 0, 0, 0⟩

/-- Power, clock and heat besides their registers. -/
structure PwrSt where
  host : EnvSrc
  tray : EnvSrc
  /-- P_ENV in mW, and its sum and the number of microseconds in the millisecond under way. -/
  penv : Nat
  penvSum : Nat
  penvUs : Nat
  /-- P_STAT in mW and P_DYNFULL in mW, as of the last millisecond, and EDYN in mW per MHz and (0.05 mV)². -/
  pstat : Int
  pdyn : Rat
  edyn : Rat
  /-- Measured power of the non-CG domains and of the CG domains in the last millisecond, mW. -/
  pNon : Nat
  pCg : Nat
  /-- Microseconds in a row with L_ENV at 64, and at 0. -/
  lenvFull : Nat
  lenvZero : Nat
  /-- Core ↦ LVL; core ↦ (hint level, TBC of the window's end); core ↦ level-microseconds in the millisecond. -/
  lvl : NMap Nat
  hint : NMap (Nat × Nat)
  lvlUs : NMap Nat
  /-- Ceilings in the hold of R460 step 4 by core, 0 where none is listed; none where nothing is held. -/
  hold : Option (NMap Nat)
  thermLimit : Nat
  /-- Frequency change (R460): its step reached (0 none, 1 scheduled, 2 voltage written, 3 voltage confirmed), whether the governor
  scheduled it. -/
  chg : Nat
  /-- The point that the running PLL is locked to and, for the spare, the point it is locked to. -/
  spare : Nat
  /-- A downward change's lower voltage is still to be written. -/
  lower : Bool
  /-- Point to which the governor returns after a halt. -/
  resume : Option Nat
  rails : NMap Rail
  /-- CLK_HST change under way: the frequency before it. -/
  hstOld : Option Nat
  /-- Milliseconds in a row with a current mismatch (R442), and above the envelope (R458). -/
  mismatch : Nat
  exceed : Nat
  /-- Last telemetry record, and whether one waits to be sent on the flow. -/
  telem : List Nat
  telemWait : Bool
  /-- A frequency change fell in the millisecond. -/
  fchg : Bool
  /-- Energy in µJ: domain (25 unattributed), function; since the last hourly record, and over the module's life. -/
  energy : NMap Nat
  fnEnergy : NMap Nat
  hourUj : Nat
  lifeUj : Nat
  /-- Cluster ↦ (last slack, lowest), and samples in a row below FLOOR; domain ↦ due for a trim, TBC of the last trim. -/
  slack : NMap (Nat × Nat)
  slackRun : NMap Nat
  trimDue : NMap Bool
  trimLast : NMap Nat
  trimLogged : NMap Bool
  /-- Domain ↦ its due trim has been counted as held (R473). -/
  trimHeld : NMap Bool
  exhausted : NMap Bool
  ic : NMap IcRun
  /-- Domains that a fence by segments takes out of service. -/
  fencing : NMap Bool
  /-- Stacks whose request rate is at 50 % by heat (R465). -/
  stackHeat : NMap Bool
  /-- The domain switch under way (R443): the domains to turn on in order, and those to turn off. -/
  switchOn : List Nat
  switchOff : List Nat
  /-- Pins: QUENCH_N low, AIRFLOW_FAIL_N low, THERMTRIP_N driven. -/
  quench : Bool
  airflow : Bool
  tripped : Bool
  regTemp : List Nat
  avsStatus : Nat
  deriving DecidableEq, Repr

/-- As registers and pins read before the first boot step: no level, no hint, no change pending. -/
def PwrSt.init : PwrSt :=
  { host := .init, tray := .init, penv := 600000, penvSum := 0, penvUs := 0, pstat := 0, pdyn := 0, edyn := 0,
    pNon := 0, pCg := 0, lenvFull := 0, lenvZero := 0, lvl := [], hint := [], lvlUs := [], hold := none, thermLimit := 64, chg := 0, spare := 0,
    lower := false, resume := none, rails := [], hstOld := none, mismatch := 0, exceed := 0, telem := [], telemWait := false,
    fchg := false, energy := [], fnEnergy := [], hourUj := 0, lifeUj := 0, slack := [], slackRun := [], trimDue := [],
    trimLast := [], trimLogged := [], trimHeld := [], exhausted := [], ic := [], fencing := [], stackHeat := [],
    switchOn := [], switchOff := [], quench := false, airflow := false,
    tripped := false, regTemp := [], avsStatus := 0 }

/-! ### Firmware, the side-band port, boot (16_firmware_sideband.md, 18_bringup.md) -/

/-- A STAGE or a side-band load in progress (R538, R545): its target slot, whether it comes over KSB, the image bytes
received, the next chunk, whether the header and signature were accepted, and whether ABORT was written. -/
structure FwLoad where
  target : Nat
  ksb : Bool
  bytes : List Nat
  next : Nat
  abort : Bool
  deriving DecidableEq, Repr

/-- Firmware besides its registers: the flash slots' image bytes, the load under way, whether the booted slot is
confirmed, how the last attempt ended (R537), Fog mode requested, the level of STRAP_FOG_N as sampled, and whether the next boot is
the first after Fog mode. -/
structure FwSt where
  slots : NMap (List Nat)
  load : Option FwLoad
  confirmed : Bool
  prevEnd : Nat
  fogRequested : Bool
  strapLow : Bool
  afterFog : Bool
  deriving DecidableEq, Repr

/-- Empty slots. -/
def FwSt.init : FwSt := ⟨[], none, false, 3, false, false, false⟩

/-- The side-band port (R546–R549): the fields of the status response, the data words offered, and the log selection: the records
selected as bytes still to be given, in blocks of 64. -/
structure KsbSt where
  op : Nat
  accepted : Nat
  result : Nat
  crcBad : Nat
  torn : Nat
  short : Nat
  long : Nat
  extra : Bool
  dataValid : Bool
  last : Bool
  data : List Nat
  seekSeq : Nat
  seekLo : Nat
  seekHi : Nat
  seekRec : List Nat
  deriving DecidableEq, Repr

/-- A port that has seen no frame. -/
def KsbSt.init : KsbSt := ⟨0, 0, 0, 0, 0, 0, 0, false, false, false, [], 0, 0, 0xFFFF, []⟩

/-- Boot (R573–R578): whether the airflow holds step 8, whether a BOOT_READY event waits for PF0's default queue, and whether AON_RST_N is
high. -/
structure BootSt where
  holdAir : Bool
  readyPend : Bool
  aon : Bool
  deriving DecidableEq, Repr

/-! ### The whole -/

/-- Recovery: dumps being written per function, resets in progress, rescheduled tests, fencings by escalation, the
Keeper's watchdog (R475–R501). -/
structure RecSt where
  dumps : NMap Dump
  resets : List RstOp
  /-- (test, page) ↦ its rescheduling; tests: 0 array KAT, 1 memory, 2 lane margin. -/
  tests : PMap TestRec
  /-- Page ↦ TBC of each fencing by escalation (R481). -/
  fencings : NMap (List Nat)
  /-- Pages fenced by escalation, until the next RST_CHIP. -/
  fenced : NMap Bool
  /-- TBC of the watchdog expiries of the last hour (R477). -/
  expiries : List Nat
  pwrcyc : Bool
  /-- Escalation records written in each function's dump buffer (R490). -/
  escRecs : NMap Nat
  deriving DecidableEq, Repr

/-- Nothing in recovery. -/
def RecSt.init : RecSt := ⟨[], [], [], [], [], [], false, []⟩

/-- The module. -/
structure State where
  /-- Register fields: (`Fld.id`, instance) ↦ value; an unlisted field holds its reset value. -/
  regs : PMap Nat
  /-- Halves held or latched by 32-bit accesses of 64-bit registers (R22, R602): (page, offset) ↦ half, reads at
  odd second components. -/
  latch : PMap Nat
  /-- Memory, in canonical form: address = space × 2^64 + offset (spaces: `Spc`). -/
  mem : List Host.Cell
  /-- Lines (address div 64) whose contents are poisoned (R181, R187, R259). -/
  poison : NMap Bool
  /-- Regions (first address, end address, epoch) that have lost their contents (R39); the newest first. -/
  lost : List (Nat × Nat × Nat)
  /-- Time base count of the AON master, in ns (R52). -/
  tbc : Nat
  /-- Copies of the TBC in the clock domains (R42, R52): 0 CLK_CORE, 1 CLK_HST, 2–9 CLK_MEM0–7, 10–25 CLK_LNK0–15, 26 CLK_PCIE,
  27 CLK_CXL; one that is not listed agrees with the master. -/
  tbcCopies : NMap Nat
  /-- Pages whose ENABLE is to clear once they have quiesced (R13) ↦ whether software had set QUIESCE itself. -/
  disabling : NMap Bool
  /-- MODEL's own: how many free values the run has taken. -/
  free : Nat
  /-- Data that the last read returned to its requester. -/
  rdata : List Nat
  /-- What has left the block, oldest first. -/
  out : List OutMsg
  cores : NMap Core
  /-- Signals of the module (R163). -/
  sig : NMap Nat
  /-- DMA engines: core c is c, the cluster DMA of cluster n is 1024 + n. -/
  dma : NMap DmaEng
  hbm : HbmSt
  xlt : NMap XltSt
  host : HostSt
  recov : RecSt
  log : LogSt
  dbg : NMap DbgFn
  net : NetSt
  step : NMap StepSt
  coll : CollSt
  agree : AgreeSt
  pwr : PwrSt
  fw : FwSt
  ksb : KsbSt
  boot : BootSt
  /-- Lines that a cluster host core holds in its L2: CHC × 2^42 + local address div 64 ↦ dirty (R204). -/
  l2 : NMap Bool
  /-- Commands waiting, first in, first out. -/
  pending : List Instr
  deriving DecidableEq, Repr

/-- The module at the rise of AON_RST_N, before the first step of the boot sequence (R573): every register at its reset
value, every memory as the reset contents of `Machine/Ops.lean` read it, nothing in progress, no command waiting. -/
def State.reset : State :=
  { regs := [], latch := [], mem := [], poison := [], lost := [], tbc := 0, tbcCopies := [], disabling := [], free := 0,
    rdata := [], out := [], cores := [], sig := [], dma := [], hbm := .init, xlt := [], host := .init, recov := .init,
    log := .fresh, dbg := [], net := .init, step := [], coll := .init, agree := .init, pwr := .init,
    fw := .init, ksb := .init, boot := ⟨false, false, true⟩, l2 := [], pending := [] }

end Sys2Proof.Machine
end

