-- ==== Sys2Proof/Machine/Ops.lean ====
section
/-!
DEFINITION. The named operations over the state: pages and register fields, counters, memory, signals and free values.
-/

namespace Sys2Proof.Machine

/-! ### Pages (R604, R605) -/

/-- Page of a core. -/
def pCore (c : Nat) : Nat := 0x200 + c
/-- Page of a cluster. -/
def pClu (n : Nat) : Nat := 0x040 + n
/-- Page of a cluster host core. -/
def pChc (n : Nat) : Nat := 0x080 + n
/-- Page of a stack controller. -/
def pMem (m : Nat) : Nat := 0x010 + m
/-- Page of channel `ch` of stack `m`. -/
def pMch (m ch : Nat) : Nat := 0x100 + 32 * m + ch
/-- Page of an optical port. -/
def pLnk (p : Nat) : Nat := 0x020 + p
/-- HIF page of a function. -/
def pHif (fn : Nat) : Nat := 0x600 + fn
/-- QUE page of a function. -/
def pQue (fn : Nat) : Nat := 0x700 + fn
/-- EVT page of a function. -/
def pEvt (fn : Nat) : Nat := 0x800 + fn
/-- XPT page of a function. -/
def pXpt (fn : Nat) : Nat := 0x900 + fn
/-- COL page of a function. -/
def pCol (fn : Nat) : Nat := 0xA00 + fn
/-- DBG page of a function. -/
def pDbg (fn : Nat) : Nat := 0xB00 + fn
/-- The TOP page. -/
def pTop : Nat := 0x000
/-- The KPR page. -/
def pKpr : Nat := 0x001
/-- The PWR page. -/
def pPwr : Nat := 0x002
/-- The CLK page. -/
def pClk : Nat := 0x003
/-- The FAR page. -/
def pFar : Nat := 0x004
/-- The RTE page. -/
def pRte : Nat := 0x005
/-- The LOG page. -/
def pLog : Nat := 0x006
/-- The FWU page. -/
def pFwu : Nat := 0x007
/-- The KSB page. -/
def pKsb : Nat := 0x008

/-- Whether `lo ≤ p ≤ hi`. -/
def within (lo hi p : Nat) : Bool := decide (lo ≤ p) && decide (p ≤ hi)

/-- Block type code of a page (R604, R605; the four CORE codes as 0x60); 0 for a reserved index. -/
def blkOf (p : Nat) : Nat :=
  if p = 0 then 0x10 else if p = 1 then 0x11 else if p = 2 then 0x12 else if p = 3 then 0x13
  else if p = 4 then 0x22 else if p = 5 then 0x31 else if p = 6 then 0x14 else if p = 7 then 0x15
  else if p = 8 then 0x16
  else if within 0x010 0x017 p then 0x20 else if within 0x020 0x02F p then 0x30
  else if within 0x040 0x07F p then 0x58 else if within 0x080 0x0BF p then 0x59
  else if within 0x100 0x1FF p then 0x21 else if within 0x200 0x5FF p then 0x60
  else if within 0x600 0x6FF p then 0x50 else if within 0x700 0x7FF p then 0x51
  else if within 0x800 0x8FF p then 0x52 else if within 0x900 0x9FF p then 0x32
  else if within 0xA00 0xAFF p then 0x40 else if within 0xB00 0xBFF p then 0x53
  else 0

/-- ID.BLOCK_TYPE of a page (R604). -/
def blockType (p : Nat) : Nat :=
  if within 0x200 0x5FF p then 0x60 + (p - 0x200) / 256 else blkOf p

/-- ID.INSTANCE of a page (R604). -/
def instanceOf (p : Nat) : Nat :=
  if p < 0x010 then 0
  else if within 0x010 0x017 p then p - 0x010 else if within 0x020 0x02F p then p - 0x020
  else if within 0x040 0x07F p then p - 0x040 else if within 0x080 0x0BF p then p - 0x080
  else if within 0x100 0x1FF p then p - 0x100 else p % 256

/-- The power domain of a page, numbered as in R450: CGnn 0–15, HSTC 16, SRAM_N 17, SRAM_S 18, HBMPHY_W 19,
HBMPHY_E 20, OPT_W 21, OPT_E 22, HIO 23, AON 24. -/
def cgOfCluster (n : Nat) : Nat := 4 * (n / 8 / 2) + n % 8 / 2

/-- Power domain of a page (R605). -/
def domainOf (p : Nat) : Nat :=
  match blkOf p with
  | 0x22 => 23
  | 0x31 => 21
  | 0x20 => if p - 0x010 < 4 then 19 else 20
  | 0x21 => if p - 0x100 < 128 then 19 else 20
  | 0x30 => if p % 2 = 0 then 21 else 22
  | 0x58 => cgOfCluster (p - 0x040)
  | 0x59 => 16
  | 0x60 => cgOfCluster ((p - 0x200) / 16)
  | 0x50 => 23
  | 0x51 => 23
  | 0x52 => 23
  | 0x32 => 21
  | 0x40 => 23
  | 0x53 => 23
  | _ => 24

/-- The clock domain of a page, numbered as the copies of the TBC are; 28 for AON, which holds the master (R42, R52; log entry 118). -/
def clockOf (p : Nat) : Nat :=
  match blkOf p with
  | 0x60 => 0
  | 0x58 => 0
  | 0x59 => 1
  | 0x20 => 2 + (p - 0x010)
  | 0x21 => 2 + (p - 0x100) / 32
  | 0x30 => 10 + (p - 0x020)
  | 0x31 => 0
  | 0x32 => 0
  | 0x22 => 27
  | 0x50 => 26
  | 0x51 => 26
  | 0x52 => 26
  | 0x40 => 26
  | 0x53 => 26
  | _ => 28

/-- The time that a page's clock domain takes for its timestamps: its local copy of the TBC (R52). -/
def State.tbcAt (s : State) (p : Nat) : Nat := NMap.get s.tbc s.tbcCopies (clockOf p)

/-- The copy of the TBC of CLK_CORE, at whose edges the banked tables flip (R52, R360). -/
def State.coreTbc (s : State) : Nat := NMap.get s.tbc s.tbcCopies 0

/-- The reset level that CTRL.RESET_REQ requests on a page: 0 none, 1 RST_CTX, 2 RST_ENG, 3 RST_PART, 4 RST_CHIP (R605). -/
def resetLevelOf (p : Nat) : Nat :=
  match blkOf p with
  | 0x10 => 4
  | 0x50 => 3
  | 0x51 => 1
  | 0x52 => 1
  | 0x32 => 1
  | 0x53 => 1
  | 0x11 => 0
  | 0x12 => 0
  | 0x13 => 0
  | 0x14 => 0
  | 0x15 => 0
  | 0x16 => 0
  | 0 => 0
  | _ => 2

/-! ### Register fields -/

/-- CLK_CORE in MHz at an operating point (R459). -/
def oppFreq (k : Nat) : Nat := [200, 400, 600, 800, 1000, 1100, 1200, 1300].getD k 0

/-- VOP in mV of an operating point (R459). -/
def oppVop (k : Nat) : Nat := [380, 400, 430, 460, 500, 530, 570, 620].getD k 0

/-- The value a field takes at reset on a page or bank, where it differs from the table's number: the ID fields (R604),
ERR_SEVERITY (R15), CHC CAP0 (R606), the operating points (R459), the bit of AON
(R443), laser input and role of a port (R33, R286), and the suffix and stepping that the manufacturing record gives
(R4, R53; log entry 9). -/
def regReset (f : Fld) (inst : Nat) : Nat :=
  if f.id = R.HDR_ID_BLOCK_TYPE.id then blockType inst
  else if f.id = R.HDR_ID_INSTANCE.id then instanceOf inst
  else if f.id = R.HDR_ID_VERSION.id then 1
  else if f.id = R.HDR_ERR_SEVERITY_SEV.id then sevReset (blkOf inst)
  else if f.id = R.HDR_CAP0_CAP.id then (if blkOf inst = 0x59 then 1024 else 0)
  else if f.id = R.LNK_PORT_STATUS_ROLE.id then inst % 16
  else if f.blk = 0x13 ∧ 0x800 ≤ f.pos ∧ f.pos < 0x900 then
    (if f.pos % 32 = 0 then oppVop ((f.pos - 0x800) / 32) else oppFreq ((f.pos - 0x800) / 32))
  else if f.id = R.PWR_DOM_STATUS_ON.id ∨ f.id = R.PWR_DOM_CTRL_ON.id then 2 ^ 24
  else if f.id = R.TOP_PART_SUFFIX.id then 0x41 + Config.factory 2 % 2
  else if f.id = R.TOP_PART_DIE_STEP.id then Config.factory 3 % 256
  else if f.id = R.LNK_OE_PWR_LASER_IN.id then 2 * (inst % 2) + inst % 16 / 8
  else f.rst

/-- The value of field `f` of instance `inst` (a page index, or a module number for a banked register). -/
def State.rg (s : State) (f : Fld) (inst : Nat) : Nat :=
  PMap.get (regReset f inst) s.regs (f.id, inst)

/-- Whether a one-bit field reads 1. -/
def State.flag (s : State) (f : Fld) (inst : Nat) : Bool := s.rg f inst != 0

/-- Hardware writes `v` to field `f` of `inst`; the field keeps its width. -/
def State.wr (s : State) (f : Fld) (inst v : Nat) : State :=
  { s with regs := PMap.put (f.id, inst) (v % 2 ^ f.width) s.regs }

/-- Hardware writes a one-bit field. -/
def State.wrB (s : State) (f : Fld) (inst : Nat) (b : Bool) : State := s.wr f inst (b2n b)

/-- Add to a counter field that saturates at its width. -/
def State.incSat (s : State) (f : Fld) (inst n : Nat) : State :=
  s.wr f inst (min (2 ^ f.width - 1) (s.rg f inst + n))

/-- The fields of a page: the common header and the block's own (R12). -/
def fieldsOfPage (p : Nat) : List Fld := fieldsHdr ++ fieldsOf (blkOf p)

/-- The numbers of the RWS fields (R9). -/
def rwsIds : List Nat := (allFields.filter (fun f => f.acc == .rws)).map Fld.id

/-- A listed register cell, by number and instance, returns to reset when `keep` is false of it: RWS fields stay. -/
def State.dropRegs (s : State) (gone : Nat → Nat → Bool) : State :=
  { s with regs := s.regs.filter (fun e => rwsIds.contains e.1.1 || !(gone e.1.1 e.1.2)) }

/-! ### Ownership (R19, R406) -/

/-- The function that holds a quad. -/
def State.quadFn (s : State) (q : Nat) : Option Nat :=
  match NMap.get 0 s.host.quadOwner q with
  | 0 => none
  | n + 1 => some n

/-- The function that owns a core's page: that of its quad, PF0 when no function holds it. -/
def State.coreFn (s : State) (c : Nat) : Nat := (s.quadFn (c / 4)).getD 0

/-- The owner of a CLU page: the function that holds all four quads, PF0 otherwise. -/
def State.cluFn (s : State) (n : Nat) : Nat :=
  match s.quadFn (4 * n), s.quadFn (4 * n + 1), s.quadFn (4 * n + 2), s.quadFn (4 * n + 3) with
  | some a, some b, some c, some d => if a = b ∧ b = c ∧ c = d then a else 0
  | _, _, _, _ => 0

/-- The owner of a CHC (R408). -/
def State.chcFn (s : State) (n : Nat) : Nat := (s.quadFn (4 * n)).getD 0

/-- The owning function of a page (R19). -/
def State.owner (s : State) (p : Nat) : Nat :=
  match blkOf p with
  | 0x60 => s.coreFn (p - 0x200)
  | 0x58 => s.cluFn (p - 0x040)
  | 0x59 => s.chcFn (p - 0x080)
  | 0x50 => p % 256
  | 0x51 => p % 256
  | 0x52 => p % 256
  | 0x32 => p % 256
  | 0x40 => p % 256
  | 0x53 => p % 256
  | _ => 0

/-- The resources of a function. -/
def State.fnRes (s : State) (fn : Nat) : Fn := NMap.get Fn.none s.host.fns fn

/-- The quads of a function's partition. -/
def State.quadsOf (s : State) (fn : Nat) : List Nat := (List.range 256).filter (fun q => s.quadFn q == some fn)

/-- The cores of a function's partition. -/
def State.coresOf (s : State) (fn : Nat) : List Nat :=
  (s.quadsOf fn).flatMap (fun q => [4 * q, 4 * q + 1, 4 * q + 2, 4 * q + 3])

/-- Module command queue of a function's local index, when the function owns it. -/
def State.cmdqOf (s : State) (fn k : Nat) : Option Nat :=
  let r := s.fnRes fn
  if k < r.cmdqCount then some (r.cmdqBase + k) else none

/-- Module event queue of a function's local index, when the function owns it. -/
def State.evtqOf (s : State) (fn k : Nat) : Option Nat :=
  let r := s.fnRes fn
  if k < r.evtqCount then some (r.evtqBase + k) else none

/-- Module communication queue (GID) of a function's local index, when the function owns it. -/
def State.commqOf (s : State) (fn k : Nat) : Option Nat :=
  let r := s.fnRes fn
  if k < r.commCount then some (r.commBase + k) else none

/-- The function that owns a module command queue. -/
def State.cmdqFn (s : State) (q : Nat) : Nat :=
  ((s.host.fns.find? (fun e => decide (e.2.cmdqBase ≤ q) && decide (q < e.2.cmdqBase + e.2.cmdqCount))).map
    (fun e => e.1)).getD 0

/-- The function that owns a module event queue. -/
def State.evtqFn (s : State) (q : Nat) : Nat :=
  ((s.host.fns.find? (fun e => decide (e.2.evtqBase ≤ q) && decide (q < e.2.evtqBase + e.2.evtqCount))).map
    (fun e => e.1)).getD 0

/-- The function that owns a communication queue. -/
def State.commqFn (s : State) (g : Nat) : Nat :=
  ((s.host.fns.find? (fun e => decide (e.2.commBase ≤ g) && decide (g < e.2.commBase + e.2.commCount))).map
    (fun e => e.1)).getD 0

/-- Whether a function owns a signal (R410). -/
def State.ownsSig (s : State) (fn n : Nat) : Bool :=
  let r := s.fnRes fn
  decide (r.sigBase ≤ n) && decide (n < r.sigBase + r.sigCount)

/-- The module queues of a function's command queues. -/
def State.cmdqsOf (s : State) (fn : Nat) : List Nat :=
  let r := s.fnRes fn
  (List.range r.cmdqCount).map (r.cmdqBase + ·)

/-- The module queues of a function's event queues. -/
def State.evtqsOf (s : State) (fn : Nat) : List Nat :=
  let r := s.fnRes fn
  (List.range r.evtqCount).map (r.evtqBase + ·)

/-- Whether a power domain is on. -/
def State.domOn (s : State) (d : Nat) : Bool := decide (d = 24) || bit (s.rg R.PWR_DOM_STATUS_ON pPwr) d

/-- Whether a page's domain is on (R603). -/
def State.pageOn (s : State) (p : Nat) : Bool := s.domOn (domainOf p)

/-- Whether a page lies in a function's BAR0 (R600). -/
def State.inBar (s : State) (fn p : Nat) : Bool :=
  decide (fn = 0) ||
    match blkOf p with
    | 0x60 => s.quadFn ((p - 0x200) / 4) == some fn
    | 0x58 => (List.range 4).any (fun i => s.quadFn (4 * (p - 0x040) + i) == some fn)
    | 0x59 => s.chcFn (p - 0x080) == fn
    | _ => decide (p ≥ 0x600) && decide (p % 256 = fn)

/-- Whether the requests of a function's host reach the module and are performed: the HST domain is on, the link is up, and no Function Level
Reset of the function is in progress (R402, R404). -/
def State.hostUp (s : State) (fn : Nat) : Bool := s.domOn 23 && s.host.pcieUp && !(NMap.get false s.host.flr fn)

/-- Whether a page responds in a function's BAR0 (R599, R600): through a host port that is on, not during the function's FLR (R404),
and in Fog mode the FWU page alone (R544). -/
def State.responds (s : State) (fn p : Nat) : Bool :=
  s.hostUp fn && (decide (s.rg R.KPR_KSTATE_STATE pKpr ≠ 2) || (decide (p = pFwu) && decide (fn = 0)))
  && (blkOf p != 0) && s.pageOn p && s.inBar fn p

/-- Whether a function's write to a page is performed (R600, R601). -/
def State.mayWrite (s : State) (fn p : Nat) : Bool :=
  s.responds fn p && (decide (fn = 0) || (blkOf p != 0x58) || s.cluFn (p - 0x040) == fn)

/-! ### Header shorthands -/

/-- CTRL.ENABLE. -/
def State.enabled (s : State) (p : Nat) : Bool := s.flag R.HDR_CTRL_ENABLE p
/-- CTRL.QUIESCE. -/
def State.quiescing (s : State) (p : Nat) : Bool := s.flag R.HDR_CTRL_QUIESCE p
/-- STATUS.QUIESCED. -/
def State.quiesced (s : State) (p : Nat) : Bool := s.flag R.HDR_STATUS_QUIESCED p
/-- STATUS.FENCED. -/
def State.fencedP (s : State) (p : Nat) : Bool := s.flag R.HDR_STATUS_FENCED p

/-- Whether a unit's retirement is in force. -/
def State.isRetired (s : State) (kind id : Nat) : Bool := PMap.get 0 s.log.image.retired (kind, id) != 0

/-- Why a unit takes no new work, if it does not (R14, R25). -/
def State.unitStatus (s : State) (p : Nat) : Nat :=
  if s.fencedP p then St.FENCED
  else if s.enabled p = false ∨ s.quiescing p = true then St.QUIESCED
  else St.OK

/-- What a unit out of service answers to new work (R14): FENCED, or QUIESCED while its ENABLE is 0; OK where it may take it. -/
def State.workStatus (s : State) (p : Nat) : Nat :=
  if s.fencedP p then St.FENCED else if s.enabled p then St.OK else St.QUIESCED

/-- Whether the module is halted (R467). -/
def State.halted (s : State) : Bool := s.flag R.PWR_THERM_STATUS_HALTED pPwr

/-! ### Counters (R12, R20, R607) -/

/-- CNT_SELn fields. -/
def cntEvent (n : Nat) : Fld := ⟨0, 8 * (0x40 + 4 * n), 16, .rw, 0⟩
/-- CNT_SELn.FREEZE. -/
def cntFreeze (n : Nat) : Fld := ⟨0, 8 * (0x40 + 4 * n) + 30, 1, .rw, 0⟩
/-- CNTn.COUNT. -/
def cntCount (n : Nat) : Fld := ⟨0, 8 * (0x60 + 8 * n), 64, .ro, 0⟩

/-- Count `k` occurrences of event `code` on a page in counter `n`. -/
def State.cnt1 (s : State) (p code k n : Nat) : State :=
  if code ≠ 0 ∧ k ≠ 0 ∧ s.rg (cntEvent n) p = code ∧ s.flag (cntFreeze n) p = false then
    s.wr (cntCount n) p (s.rg (cntCount n) p + k)
  else s

/-- Count `k` occurrences of event `code` on a page. -/
def State.cnt (s : State) (p code : Nat) (k : Nat := 1) : State :=
  (((s.cnt1 p code k 0).cnt1 p code k 1).cnt1 p code k 2).cnt1 p code k 3

/-! ### Free values -/

/-- The next free value: unconstrained (`Config.free`). -/
def State.freeVal (s : State) : Nat × State := (Config.free s.free, { s with free := s.free + 1 })

/-! ### Memory -/

/-- Address spaces of `State.mem`. -/
def Spc (tag : Nat) : Nat := tag * 2 ^ 64
/-- Scratchpad byte `o` of core `c`. -/
def aSpad (c o : Nat) : Nat := Spc 0 + c * 2 ^ 19 + o
/-- Cluster-memory byte `o` of cluster `n`. -/
def aClmem (n o : Nat) : Nat := Spc 1 + n * 2 ^ 25 + o
/-- HBM byte `o` (frame × 2^21 + offset). -/
def aHbm (o : Nat) : Nat := Spc 2 + o
/-- Far-tier byte `o`. -/
def aFar (o : Nat) : Nat := Spc 3 + o
/-- Host memory byte at a bus address. -/
def aHost (o : Nat) : Nat := Spc 4 + o % 2 ^ 64
/-- Cluster host core L2 byte: data that a CHC holds dirty, by its local address (R37). -/
def aL2 (n o : Nat) : Nat := Spc 5 + n * 2 ^ 48 + o

/-- The epoch of the loss that address `a` is in, 0 for none. -/
def lostEpoch (lost : List (Nat × Nat × Nat)) (a : Nat) : Nat :=
  match lost with
  | [] => 0
  | (lo, hi, e) :: r => if lo ≤ a ∧ a < hi then e else lostEpoch r a

/-- What an unlisted byte reads as: 0, or a free byte in a region that has lost its contents (R39). -/
def memDefault (lost : List (Nat × Nat × Nat)) (a : Nat) : Byte :=
  match lostEpoch lost a with
  | 0 => 0
  | e => Config.freeByte e a

/-- Read a byte of memory. -/
def State.rb (s : State) (a : Nat) : Byte := Map.get (memDefault s.lost a) s.mem a

/-- Write a byte of memory: outside lost regions, writing 0 removes the entry, so that equal memories are equal data. -/
def State.wb (s : State) (a : Nat) (b : Byte) : State :=
  { s with mem := if b = 0 ∧ lostEpoch s.lost a = 0 then Map.del a s.mem else Map.put natLt a b s.mem }

/-- `n` bytes from `a`, lowest first. -/
def State.rbs (s : State) (a : Nat) : Nat → List Nat
  | 0 => []
  | n + 1 => (s.rb a).toNat :: s.rbs (a + 1) n

/-- Write bytes from `a` on. -/
def State.wbs (s : State) (a : Nat) : List Nat → State
  | [] => s
  | b :: bs => (s.wb a (BitVec.ofNat 8 b)).wbs (a + 1) bs

/-- The little-endian number in the `n` bytes at `a`. -/
def State.rle (s : State) (a n : Nat) : Nat := ofBytes (s.rbs a n)

/-- Write the `n` low bytes of `v` at `a`, little-endian (R8). -/
def State.wle (s : State) (a n v : Nat) : State := s.wbs a (leBytes n v)

/-- A region loses its contents: they are undefined from now on (R39). -/
def State.lose (s : State) (lo hi : Nat) : State :=
  { s with
    mem := s.mem.filter (fun c => decide (c.1 < lo) || decide (hi ≤ c.1))
    lost := (lo, hi, (s.lost.map (fun r => r.2.2)).foldl max 0 + 1) :: s.lost
    poison := s.poison.filter (fun c => decide (c.1 < lo / 64) || decide (hi ≤ c.1 * 64)) }

/-- Whether the line holding `a` is poisoned. -/
def State.poisoned (s : State) (a : Nat) : Bool := NMap.get false s.poison (a / 64)

/-- Mark the line holding `a` poisoned, or clear the mark. -/
def State.setPoison (s : State) (a : Nat) (b : Bool) : State :=
  { s with poison := if b then NMap.put (a / 64) true s.poison else Map.del (a / 64) s.poison }

/-- The canonical form of the memory: addresses strictly rising, bytes below 2^8 by their type, and no entry equal to
what an unlisted address reads as outside lost regions. -/
def State.memWf (s : State) : Bool :=
  Map.sorted natLt s.mem && s.mem.all (fun c => decide (c.2 ≠ 0) || decide (lostEpoch s.lost c.1 ≠ 0))

/-! ### Signals (R163, R410) -/

/-- Value of a signal. -/
def State.sigVal (s : State) (n : Nat) : Nat := NMap.get 0 s.sig n

/-- A signal takes a value. -/
def State.sigPut (s : State) (n v : Nat) : State := { s with sig := NMap.put n (v % 2 ^ 64) s.sig }

/-- SIGSET: a value below the current one leaves the signal unchanged (R163). -/
def State.sigSet (s : State) (n v : Nat) : State := if v % 2 ^ 64 < s.sigVal n then s else s.sigPut n v

/-- SIGADD: the outcome OK, or SIG_OVERFLOW with nothing changed (R163). -/
def State.sigAdd (s : State) (n v : Nat) : Nat × State :=
  let x := s.sigVal n + v % 2 ^ 64
  if x < 2 ^ 64 then (St.OK, s.sigPut n x) else (St.SIG_OVERFLOW, s)

/-! ### Cores, engines, functions -/

/-- A core. -/
def State.core (s : State) (c : Nat) : Core := NMap.get Core.init s.cores c

/-- Replace a core. -/
def State.setCore (s : State) (c : Nat) (x : Core) : State := { s with cores := NMap.put c x s.cores }

/-- A DMA engine. -/
def State.eng (s : State) (e : Nat) : DmaEng := NMap.get DmaEng.empty s.dma e

/-- Replace a DMA engine. -/
def State.setEng (s : State) (e : Nat) (x : DmaEng) : State := { s with dma := NMap.put e x s.dma }

/-- The page of a DMA engine. -/
def pEng (e : Nat) : Nat := if e < 1024 then pCore e else pClu (e - 1024)

/-- A command queue's contents. -/
def State.cq (s : State) (q : Nat) : CmdQ := NMap.get CmdQ.empty s.host.cmdq q

/-- Replace a command queue's contents. -/
def State.setCq (s : State) (q : Nat) (x : CmdQ) : State :=
  { s with host := { s.host with cmdq := NMap.put q x s.host.cmdq } }

/-- An event queue's contents. -/
def State.eq (s : State) (q : Nat) : EvQ := NMap.get EvQ.empty s.host.evtq q

/-- Replace an event queue's contents. -/
def State.setEq (s : State) (q : Nat) (x : EvQ) : State :=
  { s with host := { s.host with evtq := NMap.put q x s.host.evtq } }

/-- A function's step machine. -/
def State.stepSt (s : State) (fn : Nat) : StepSt := NMap.get StepSt.init s.step fn

/-- Replace a function's step machine. -/
def State.setStep (s : State) (fn : Nat) (x : StepSt) : State := { s with step := NMap.put fn x s.step }

/-- STATE of a function's step machine (R229). -/
def State.stepState (s : State) (fn : Nat) : Nat := s.rg R.COL_STEP_STATUS_STATE (pCol fn)

/-- A command, descriptor or operation of a function completes with a status: FAIL, RETRY and a clean apply phase take note
(R231, R235, R394). -/
def State.stepNote (s : State) (fn status : Nat) : State :=
  if status = St.OK then s
  else
    let x := s.stepSt fn
    s.setStep fn { x with
      fail := x.fail || decide (status ≠ St.ABORTED)
      retry := x.retry || decide (status = St.ABORTED)
      unclean := true }

/-- SAT and NONFIN events of a function's domain (R231). -/
def State.stepTally (s : State) (fn : Option Nat) (sat nonfin : Nat) : State :=
  match fn with
  | none => s
  | some fn =>
    if sat = 0 ∧ nonfin = 0 then s
    else
      let x := s.stepSt fn
      s.setStep fn { x with sat := min (2 ^ 32 - 1) (x.sat + sat), nonfin := min (2 ^ 32 - 1) (x.nonfin + nonfin) }

/-- A port. -/
def State.port (s : State) (p : Nat) : Port := NMap.get Port.init s.net.ports p

/-- Replace a port. -/
def State.setPort (s : State) (p : Nat) (x : Port) : State :=
  { s with net := { s.net with ports := NMap.put p x s.net.ports } }

/-- A flow context. -/
def State.flow (s : State) (f : Nat) : Flow := NMap.get Flow.free s.net.flows f

/-- Replace a flow context; one that is FREE is not listed. -/
def State.setFlow (s : State) (f : Nat) (x : Flow) : State :=
  { s with net := { s.net with flows := if x.state = 0 then Map.del f s.net.flows else NMap.put f x s.net.flows } }

/-- A communication queue. -/
def State.commq (s : State) (g : Nat) : CollQ := NMap.get CollQ.empty s.coll.cq g

/-- Replace a communication queue. -/
def State.setCommq (s : State) (g : Nat) (x : CollQ) : State := { s with coll := { s.coll with cq := NMap.put g x s.coll.cq } }

/-- A message leaves the block. -/
def State.emit (s : State) (m : OutMsg) : State := { s with out := s.out ++ [m] }

/-- The rescheduling of a test on a unit (R496). -/
def State.testRec (s : State) (test page : Nat) : TestRec := PMap.get TestRec.init s.recov.tests (test, page)

/-- Replace the rescheduling of a test on a unit. -/
def State.setTestRec (s : State) (test page : Nat) (r : TestRec) : State :=
  { s with recov := { s.recov with tests := PMap.put (test, page) r s.recov.tests } }

/-- A pass of an in-service test (0 array KAT, 1 memory, 2 lane margin) on a page completes: its rescheduling starts over (R496). -/
def State.testPassed (s : State) (test page : Nat) : State :=
  let r : TestRec := s.testRec test page
  s.setTestRec test page { r with consecutive := 0, interval := 0, since := none }

/-- A test on a unit is abandoned after 16 preemptions in a row: the Keeper reschedules it (R496). -/
def State.testAbandoned (s : State) (test page : Nat) : State :=
  s.setTestRec test page { s.testRec test page with since := some s.tbc }

/-- RUN_STATUS.STATE of a core (R171). -/
def State.runState (s : State) (c : Nat) : Nat := s.rg R.CORE_RUN_STATUS_STATE (pCore c)

end Sys2Proof.Machine
end

