-- ==== Sys2Proof/Machine/Events.lean ====
section
/-!
DEFINITION. Event records and their way to the host (R425–R432), error sources (R15–R18), incidents (R518, R519), the
queues of the Keeper's log (R508), and what starts a dump (R484–R486).
-/

namespace Sys2Proof.Machine

/-- An error source to be recorded: page, bit and the detail of its payload. -/
structure Src where
  page : Nat
  bit : Nat
  detail : Nat
  deriving DecidableEq, Repr

/-! ### The ring (R427, R430, R431) -/

/-- The 32 bytes of an event record with its PHASE, as one number (R425). -/
def EvRec.bytes (r : EvRec) (phase : Nat) : Nat :=
  r.typ % 2 ^ 16 + (r.cls % 8 + b2n r.inj * 8 + b2n r.addr * 16 + phase % 2 * 128) * 2 ^ 16
  + r.fn % 256 * 2 ^ 24 + r.src % 2 ^ 16 * 2 ^ 32 + r.merge % 2 ^ 16 * 2 ^ 48
  + r.tbc % 2 ^ 64 * 2 ^ 64 + r.attr % 2 ^ 64 * 2 ^ 128 + r.payload % 2 ^ 64 * 2 ^ 192

/-- Whether an event queue is ACTIVE. -/
def State.eqActive (s : State) (q : Nat) : Bool := decide (s.rg R.EVT_EQ_STATUS_STATE q = 1)

/-- SIZE of an event queue's ring. -/
def State.eqSize (s : State) (q : Nat) : Nat := 2 ^ s.rg R.EVT_EQ_CFG_LOG2SIZE q

/-- Whether the ring has a free slot (R427). -/
def State.eqSpace (s : State) (q : Nat) : Bool :=
  decide ((s.rg R.EVT_EQ_PROD_COUNT q + 2 ^ 32 - s.rg R.EVT_EQ_CONS_COUNT q) % 2 ^ 32 < s.eqSize q)

/-- Send the MSI-X vector of an event queue, or set its pending bit while the vector is masked (R431). -/
def State.sendMsix (s : State) (q : Nat) : State :=
  let fn := s.evtqFn q
  let v := s.rg R.EVT_EQ_CFG_VECTOR q
  let dw (i : Nat) : Nat := PMap.get (if i = 3 then 1 else 0) s.host.msix (fn, 4 * v + i)
  if dw 3 % 2 = 1 then
    { s with host := { s.host with pba := PMap.put (fn, v) true s.host.pba } }
  else
    (s.emit (.msix fn v (dw 0 + dw 1 * 2 ^ 32) (dw 2))).cnt (pHif fn) Cn.HIF_MSIX_SENT

/-- After a record is written: send the message now, or note the record for the coalescing limits (R431). -/
def State.signalWritten (s : State) (q cls : Nat) : State :=
  if s.flag R.EVT_EQ_CFG_MSIX_EN q then
    let e := s.eq q
    if cls ≤ 1 ∨ e.unsig + 1 ≥ s.rg R.EVT_EQ_MOD_COAL_COUNT q then
      (s.setEq q { e with unsig := 0 }).sendMsix q
    else s.setEq q { e with unsig := e.unsig + 1, unsigTbc := if e.unsig = 0 then s.tbc else e.unsigTbc }
  else s

/-- Write a record to the next slot of the ring (R427). -/
def State.evWrite (s : State) (q : Nat) (r : EvRec) : State :=
  let prod := s.rg R.EVT_EQ_PROD_COUNT q
  let size := s.eqSize q
  let phase (p : Nat) : Nat := 1 - p / size % 2
  let s := s.wle (aHost (s.rg R.EVT_EQ_BASE_BASE q * 32 + 32 * (prod % size))) 32 (r.bytes (phase prod))
  let s := (s.wr R.EVT_EQ_PROD_COUNT q (prod + 1)).wr R.EVT_EQ_STATUS_PHASE q (phase (prod + 1))
  let e := s.eq q
  let s := s.setEq q { e with hist := (e.hist ++ [r]).drop ((e.hist.length + 1) - 64) }
  (s.cnt (pHif (s.evtqFn q)) Cn.HIF_EVT_WRITTEN).signalWritten q r.cls

/-- Count a dropped record of class `cls` in EQ_DROP (R426: 12 bits per class, saturating). -/
def State.dropCount (s : State) (q cls : Nat) : State :=
  let d := s.rg R.EVT_EQ_DROP_COUNTS q
  let c := bits d (12 * cls + 11) (12 * cls)
  s.wr R.EVT_EQ_DROP_COUNTS q (putBits d (12 * cls + 11) (12 * cls) (min 4095 (c + 1)))

/-- The position of the record that a full pending buffer drops: the newest of the lowest class (R430). -/
def dropIndex (l : List EvRec) : Nat :=
  let worst := (l.map (fun r => r.cls)).foldl max 0
  (l.zipIdx.foldl (fun acc e => if e.1.cls = worst then e.2 else acc) 0)

/-- Highest class (lowest number) with a count in EQ_DROP. -/
def dropClass (d : Nat) : Nat :=
  ((List.range 5).find? (fun c => decide (bits d (12 * c + 11) (12 * c) ≠ 0))).getD 4

/-- With space in the ring, drops counted since the last LOST record are reported by one, ahead of what else waits: it clears EQ_DROP
and records EVT_DROP (R28, R430). -/
def State.evLost (s : State) (q : Nat) : State × List Src :=
  let d := s.rg R.EVT_EQ_DROP_COUNTS q
  if d = 0 ∨ s.eqSpace q = false then (s, [])
  else
    let fn := s.evtqFn q
    ((s.evWrite q ⟨3, dropClass d, false, true, fn, pEvt fn, 1, s.tbcAt (pEvt fn), 0, d⟩).wr R.EVT_EQ_DROP_COUNTS q 0,
      [⟨pHif fn, Er.HIF_EVT_DROP, 0⟩])

/-- A record goes to the ring, or to the pending buffer when the ring is full (R430). -/
def State.evPlace (s : State) (q : Nat) (r : EvRec) : State × List Src :=
  let (s, src) := if (s.eq q).pend = [] then s.evLost q else (s, [])
  let e := s.eq q
  if e.pend = [] ∧ s.eqSpace q = true then (s.evWrite q r, src)
  else
    let l := e.pend ++ [r]
    if l.length ≤ 16 then
      ((s.setEq q { e with pend := l }).wr R.EVT_EQ_STATUS_PENDING q l.length, src)
    else
      let i := dropIndex l
      let cls := (l.getD i r).cls
      (((s.setEq q { e with pend := l.eraseIdx i }).dropCount q cls).cnt (pHif (s.evtqFn q)) Cn.HIF_EVT_DROPPED, src)

/-- Whether two records are identical (R429). -/
def EvRec.same (a b : EvRec) : Bool :=
  decide (a.typ = b.typ) && decide (a.cls = b.cls) && decide (a.fn = b.fn) && decide (a.src = b.src)
  && decide (a.attr = b.attr)

/-- Count `r` in the first open slot of `l` that it is identical with; none when there is none. -/
def mergeInto (win tbc : Nat) (r : EvRec) : List MergeSlot → Option (List MergeSlot)
  | [] => none
  | m :: l =>
    if m.first.same r = true ∧ tbc ≤ m.opened + win then
      some ({ m with count := m.count + 1, lastTbc := r.tbc, lastPayload := r.payload } :: l)
    else (mergeInto win tbc r l).map (fun l' => m :: l')

/-- A record arrives at an ACTIVE event queue: merging first, then the rate limit, then the ring (R428–R430). -/
def State.evArrive (s : State) (q : Nat) (r : EvRec) : State × List Src :=
  let e := s.eq q
  if r.cls = 0 then s.evPlace q r
  else
    match mergeInto (s.rg R.EVT_EQ_LIMIT_MERGE_WIN q * 1000) s.tbc r e.slots with
    | some l => ((s.setEq q { e with slots := l }).cnt (pHif (s.evtqFn q)) Cn.HIF_EVT_MERGED, [])
    | none =>
      let ms := s.tbc / 1000000
      let used := match PMap.get (0, 0) e.rate (r.src, r.cls) with
        | (m, n) => if m = ms then n else 0
      if used ≥ s.rg R.EVT_EQ_LIMIT_RATE q then
        ((s.dropCount q r.cls).cnt (pHif (s.evtqFn q)) Cn.HIF_EVT_LIMITED, [])
      else
        let slots := if e.slots.length < 32 then e.slots ++ [⟨r, s.tbc, 0, r.tbc, r.payload⟩] else e.slots
        (s.setEq q { e with rate := PMap.put (r.src, r.cls) (ms, used + 1) e.rate, slots := slots }).evPlace q r

/-- The record that closing a merge slot with a count writes (R429). -/
def MergeSlot.close (m : MergeSlot) : EvRec :=
  { m.first with merge := min 0xFFFF m.count, tbc := m.lastTbc, payload := m.lastPayload }

/-- The default event queue of a function, when ACTIVE (R432). -/
def State.eqDefault (s : State) (fn : Nat) : Option Nat :=
  match s.evtqOf fn (s.rg R.HIF_EQ_DEFAULT_QUEUE (pHif fn)) with
  | some q => if s.eqActive q then some q else none
  | none => none

/-- The queue that a page's EVT_QUEUE names, when its owner may name it and it is ACTIVE (R18). -/
def State.evNamed (s : State) (page : Nat) : Option Nat :=
  let v := s.rg R.HDR_EVT_QUEUE_QUEUE page
  match (if s.owner page = 0 then some v else s.evtqOf (s.owner page) v) with
  | some q => if s.eqActive q then some q else none
  | none => none

/-- The queue that takes a page's records: the one it names, else the owner's default queue (R18, R432). -/
def State.evTarget (s : State) (page : Nat) : Option Nat :=
  match s.evNamed page with
  | some q => some q
  | none => s.eqDefault (s.owner page)

/-- A record that goes to a default queue for want of the one named is counted there (R18). -/
def State.evRedirect (s : State) (page : Nat) : State :=
  match s.evNamed page, s.eqDefault (s.owner page) with
  | none, some q => s.setEq q { s.eq q with redirected := (s.eq q).redirected + 1 }
  | _, _ => s

/-- A record reaches the queue `q`, or is dropped for want of one: counted as error source EVT_NOQUEUE of the
function (R432), unless the record itself reports that source. -/
def State.evDeliver (s : State) (q : Option Nat) (r : EvRec) : State × List Src :=
  match q with
  | some q => s.evArrive q r
  | none =>
    if r.typ = 2 ∧ r.src = pHif r.fn ∧ r.payload % 32 = Er.HIF_EVT_NOQUEUE then (s, [])
    else (s, [⟨pHif r.fn, Er.HIF_EVT_NOQUEUE, 0⟩])

/-! ### Queues of the Keeper's log (R508) -/

/-- Bytes of a log record on flash (R506). -/
def LogRec.size (r : LogRec) : Nat := 64 * ceilDiv (32 + r.payload.length) 64

/-- An event record of the log is not written: it is counted toward LOST by its TYPE group (R508, R516). -/
def State.logDrop (s : State) (typ : Nat) : State :=
  ({ s with log := { s.log with lost := NMap.put (typ / 256) (NMap.get 0 s.log.lost (typ / 256) + 1) s.log.lost } }).cnt
    pLog Cn.LOG_EVT_DROPPED

/-- An event record joins the event queue of the log, or is dropped and counted toward LOST (R508, R516). -/
def State.logEvent (s : State) (typ cls : Nat) (payload : List Nat) : State :=
  let r : LogRec := ⟨typ, 0, cls * 2, s.tbc, payload⟩
  let used := (s.log.eventQ.map LogRec.size).foldl (· + ·) 0
  if used + r.size ≤ 65536 then { s with log := { s.log with eventQ := s.log.eventQ ++ [r] } }
  else s.logDrop typ

/-- INC_OPEN and INC_REC records: left out and counted while THROTTLED (R516); an INC_REC record that joins the queue counts under
INC_KEPT. -/
def State.logIncident (s : State) (typ cls : Nat) (payload : List Nat) : State :=
  if s.flag R.LOG_LOG_STATUS_THROTTLED pLog then
    let s := s.logDrop typ
    let i := s.log.incident
    { s with log := { s.log with incident := { i with notKept := i.notKept + b2n (decide (typ = 0x0211)) } } }
  else (s.logEvent typ cls payload).cnt pLog Cn.LOG_INC_KEPT (b2n (decide (typ = 0x0211)))

/-- A state record joins the state queue; with the queue full it is retried, and STATE_WAIT is recorded (R508). -/
def State.logState (s : State) (typ : Nat) (payload : List Nat) : State × List Src :=
  let r : LogRec := ⟨typ, 0, 1, s.tbc, payload⟩
  if s.log.stateQ.length < 256 then
    let q := s.log.stateQ ++ [r]
    (({ s with log := { s.log with stateQ := q } }).wr R.LOG_LOG_STATUS_STATE_QUEUED pLog q.length, [])
  else
    ({ s with log := { s.log with retryQ := s.log.retryQ ++ [r] } }, [⟨pLog, Er.LOG_STATE_WAIT, 0⟩])

/-! ### Incidents (R518, R519) -/

/-- Open an incident when none is open: the next number, and an INC_OPEN record unless THROTTLED (R516, R518). -/
def State.incidentOpen (s : State) (typ src cls : Nat) : State :=
  let i := s.log.incident
  if i.isOpen then s
  else
    let n := (i.number + 1) % 2 ^ 32
    let throttled := s.flag R.LOG_LOG_STATUS_THROTTLED pLog
    let s := { s with log := { s.log with incident :=
      { Incident.none with
        number := n, isOpen := true, openTbc := s.tbc, lastTbc := s.tbc, firstTyp := typ, firstSrc := src,
        flags := b2n throttled * 4, step := s.rg R.COL_STEP_COUNT_COUNT (pCol 0) } } }
    let s := (((s.wr R.LOG_LOG_STATUS_INC_OPEN pLog 1).wr R.LOG_INCIDENT_OPEN pLog 1).wr R.LOG_INCIDENT_NUMBER pLog n)
    s.logIncident 0x0210 cls (leBytes 4 n ++ leBytes 2 typ ++ leBytes 2 src ++ leBytes 1 cls)

/-- Note an effect on the open incident. -/
def State.incidentMap (s : State) (f : Incident → Incident) : State :=
  { s with log := { s.log with incident := if s.log.incident.isOpen then f s.log.incident else s.log.incident } }

/-- Copies taken in the current second. -/
def Incident.secondCount (i : Incident) (tbc : Nat) : Nat :=
  if i.second.1 = tbc / 1000000000 then i.second.2 else 0

/-- A copy of a class C0, C1 or C2 record at its source, before the limits of its queue (R519). -/
def State.incidentCopy (s : State) (r : EvRec) : State :=
  if r.cls > 2 then s
  else
    let s := if r.cls ≤ 1 then s.incidentOpen r.typ r.src r.cls else s
    let i := s.log.incident
    if i.isOpen = false then s
    else
      let i := if r.cls ≤ 1 then { i with lastTbc := s.tbc } else i
      match mergeInto 100000 s.tbc r i.slots with
      | some l => s.incidentMap (fun _ => { i with slots := l })
      | none =>
        let live : List MergeSlot := i.slots.filter (fun m => decide (s.tbc ≤ m.opened + 100000))
        let i := { i with slots := if live.length < 32 then live ++ [(⟨r, s.tbc, 0, r.tbc, r.payload⟩ : MergeSlot)] else live }
        let n := i.secondCount s.tbc
        if n ≥ 4096 then
          (s.incidentMap (fun _ => { i with notKept := i.notKept + 1 })).cnt pLog Cn.LOG_INC_NOT_KEPT
        else
          let i := { i with
            second := (s.tbc / 1000000000, n + 1)
            c0 := i.c0 + b2n (decide (r.cls = 0))
            c1 := i.c1 + b2n (decide (r.cls = 1))
            c2 := i.c2 + b2n (decide (r.cls = 2)) }
          if i.kept < 64 then
            let s := s.incidentMap (fun _ => { i with kept := i.kept + 1 })
            s.logIncident 0x0211 r.cls (leBytes 4 i.number ++ leBytes 2 i.kept ++ leBytes 32 (r.bytes 0))
          else
            let full := decide (i.ring.length ≥ 64)
            (s.incidentMap (fun _ => { i with
              ring := i.ring.drop (b2n full) ++ [r], notKept := i.notKept + b2n full })).cnt pLog Cn.LOG_INC_NOT_KEPT (b2n full)

/-! ### Dumps and escalation records (R484–R486, R490) -/

/-- Write an escalation record in the last 4 KiB of a function's dump buffer and in the log (R490, R502). -/
def State.escalationRecord (s : State) (fn level page status : Nat) : State :=
  let body := leBytes 8 s.tbc ++ leBytes 1 level ++ leBytes 2 page ++ leBytes 2 status ++ List.replicate 47 0
  let recBytes := body ++ leBytes 4 (crc32c body)
  let h := pHif fn
  let len := s.rg R.HIF_DUMP_LEN_LEN h
  let n := NMap.get 0 s.recov.escRecs fn
  let s := s.logEvent 0x0213 1 recBytes
  if len < 65536 then s
  else if n < 64 then
    let s := s.wbs (aHost (s.rg R.HIF_DUMP_BASE_ADDR h * 4096 + len - 4096 + 64 * n)) recBytes
    { s with recov := { s.recov with escRecs := NMap.put fn (n + 1) s.recov.escRecs } }
  else (s.incSat R.HIF_DUMP_MISSED_COUNT h 1).cnt pKpr Cn.KPR_DUMP_MISSED

/-- A cause for a dump arises in function `fn`'s scope (R484–R486): it joins a dump in progress, meets no buffer, meets an
unread dump, or begins a dump. -/
def State.dumpCause (s : State) (fn kind level code src bit : Nat) : State :=
  let h := pHif fn
  match (s.recov.dumps.find? (fun e => decide (e.1 = fn))) with
  | some (_, d) =>
    { s with recov := { s.recov with dumps := NMap.put fn { d with triggers := d.triggers + 1 } s.recov.dumps } }
  | none =>
    if s.rg R.HIF_DUMP_LEN_LEN h < 65536 then s.wr R.HIF_DUMP_STATUS_STATUS h St.DUMP_NO_BUFFER
    else if s.flag R.HIF_DUMP_STATUS_VALID h = true ∧ s.flag R.HIF_DUMP_CFG_OVERWRITE h = false then
      (((s.escalationRecord fn level src code).incSat R.HIF_DUMP_MISSED_COUNT h 1).cnt pKpr Cn.KPR_DUMP_MISSED).wr
        R.HIF_DUMP_STATUS_STATUS h St.DUMP_PENDING
    else
      let s := s.incidentOpen 0x0002 src 1
      let m := NMap.put fn (⟨s.tbc, kind, level, code, src, bit, fn, 1⟩ : Dump) s.recov.dumps
      ({ s with recov := { s.recov with dumps := m } }).wr R.HIF_DUMP_STATUS_BUSY h 1

/-- Whether a dump of the function is being written. -/
def State.dumping (s : State) (fn : Nat) : Bool := s.recov.dumps.any (fun e => decide (e.1 = fn))

/-! ### Resets in progress (R479, R483), events and error sources -/

/-- An event record raised on a page at class `cls` (R27): dropped where the page disables the class, copied to an open
incident, and delivered. In Fog mode no event record is raised (R544). -/
def State.evRaise (s : State) (page : Nat) (r : EvRec) : State × List Src :=
  if s.rg R.KPR_KSTATE_STATE pKpr = 2 then (s, [])
  else if r.cls ≠ 0 ∧ bit (s.rg R.HDR_EVT_ENABLE_CLASS_EN page) (r.cls - 1) = false then (s, [])
  else
    let s := (s.incidentCopy r).evRedirect page
    s.evDeliver (s.evTarget page) r

/-- The page of a unit that RST_ENG may name: its own, or its core's where the unit is an array, which has none. -/
def unitPage (target : Nat) : Nat := if target < 0x1000 then target else pCore ((target - 0x1000) / 4)

/-- The number under which an array is named as the target of a reset: above every page. -/
def pArr (c a : Nat) : Nat := 0x1000 + 4 * c + a

/-- The number under which RST_CTX of one command queue is named, and that of every data queue of a function. -/
def pQueue (q : Nat) : Nat := 0x20000 + q

/-- RST_CTX of a function's data queues by a FENCE or a STOP. -/
def pQueues (fn : Nat) : Nat := 0x30000 + fn

/-- The function whose queues a RST_CTX without a page of its own names. -/
def State.ctxFn (s : State) (t : Nat) : Option Nat :=
  if t ≥ pQueues 0 then some (t - pQueues 0) else if t ≥ pQueue 0 then some (s.cmdqFn (t - pQueue 0)) else none

/-- Whether a reset of a level and target covers a lower one. -/
def State.covers (s : State) (level target l t : Nat) : Bool :=
  decide (l < level) &&
  (decide (level = 4) ||
    (decide (level = 3) &&
      if t ≥ pQueue 0 then s.ctxFn t == some target
      else match blkOf (unitPage t) with
      | 0x60 => s.quadFn ((unitPage t - 0x200) / 4) == some target
      | 0x59 => s.quadFn (4 * (t - 0x080)) == some target
      | b => (b == 0x40 || b == 0x51 || b == 0x32) && decide (t % 256 = target)))

/-- RST_CTX requested by CQ_CTRL.RESET, by a FENCE with ABORT or by FUNC_CTRL.STOP (R479): it takes effect at once, and is in progress until
every unit has dropped its work; the same request joins it, and a higher reset in progress completes it (R483). -/
def State.ctxNote (s : State) (t : Nat) : State :=
  if s.recov.resets.any (fun r => decide (r.level = 1) && decide (r.target = t)) then s
  else
    let covered := s.recov.resets.any (fun h => s.covers h.level h.target 1 t)
    let s := s.incidentMap (fun i => { i with level := max i.level 1 })
    { s with recov := { s.recov with resets := s.recov.resets ++ [⟨1, t, [], false, true, covered⟩] } }

/-- Whether no in-service test starts on a unit: a dump of its function or a reset of it is in progress (R495). -/
def State.testBarred (s : State) (p : Nat) : Bool :=
  s.dumping (s.owner p) || s.recov.resets.any (fun r =>
    decide (r.level = 4) || (decide (r.level = 3) && decide (blkOf p = 0x60) && decide (r.target = s.owner p))
      || (decide (r.level = 2) && decide (unitPage r.target = p)))

/-- A record of a page, its function and time filled in. -/
def State.evRec (s : State) (page typ cls : Nat) (addr : Bool) (attr payload : Nat) : EvRec :=
  ⟨typ, cls, false, addr, s.owner page, page, 1, s.tbcAt page, attr, payload⟩

/-- The class of an error source (R15, R17): C0 for a fatal one, C3 for QUENCH (R466), else C1 or C2 as ERR_SEVERITY says. -/
def State.srcClass (s : State) (page n : Nat) : Nat :=
  if bit (fatalMask (blkOf page)) n then 0
  else if page = pPwr ∧ n = Er.PWR_QUENCH then 3
  else if bit (s.rg R.HDR_ERR_SEVERITY_SEV page) n then 1 else 2

/-- Record one error source: ERR_STATUS, the event record unless masked (a fatal source is always reported), and at
class C1 the notification and dump (R15–R17, R484). What else that raises is answered in the list. -/
def State.raise1 (s : State) (page n detail : Nat) (inj addr : Bool) (attr : Nat) : State × List Src :=
  let s := s.wr R.HDR_ERR_STATUS_ERR page (setBit (s.rg R.HDR_ERR_STATUS_ERR page) n)
  let cls := s.srcClass page n
  let (s, l) :=
    if cls = 0 ∨ bit (s.rg R.HDR_ERR_MASK_MASK page) n = false then
      s.evRaise page { s.evRec page 2 cls addr attr (n + detail * 32) with inj := inj }
    else (s, [])
  (if cls = 1 then s.dumpCause (s.owner page) 1 0 0 page n else s, l)

/-- Record a list of error sources and those that follow from them; `fuel` bounds a chain of sources that each raise the
next (a record with no queue raises EVT_NOQUEUE, whose record may raise its own). -/
def State.raiseAll : Nat → State → List Src → State
  | _, s, [] => s
  | 0, s, _ => s
  | k + 1, s, x :: l =>
    let (s, l') := s.raise1 x.page x.bit x.detail false true 0
    State.raiseAll k s (l ++ l')

/-- Record an error source with an attribution. -/
def State.raiseAt (s : State) (page n detail : Nat) (inj addr : Bool) (attr : Nat) : State :=
  let (s, l) := s.raise1 page n detail inj addr attr
  s.raiseAll 8 l

/-- Record an error source that no command is attributed to (ADDR = 1, ATTR = 0). -/
def State.raise (s : State) (page n : Nat) (detail : Nat := 0) : State := s.raiseAt page n detail false true 0

/-- Raise a named event (R608). -/
def State.event (s : State) (page typ cls payload : Nat) (addr : Bool := true) (attr : Nat := 0) : State :=
  let (s, l) := s.evRaise page (s.evRec page typ cls addr attr payload)
  s.raiseAll 8 l

/-- Queue a state record of the Keeper's log. -/
def State.logStateRec (s : State) (typ : Nat) (payload : List Nat) : State :=
  let (s, l) := s.logState typ payload
  s.raiseAll 8 l

/-- LAYER_ID, OP_ID and module queue as ATTR holds them (R425). -/
def attrOf (layer op q : Nat) : Nat := layer % 65536 + op % 65536 * 2 ^ 16 + q % 4096 * 2 ^ 32

/-- The attribution of what a core's kernel causes: its layer, operator and queue; none without a kernel. -/
def State.coreAttr (s : State) (c : Nat) : Bool × Nat :=
  let x := s.core c
  match x.launch with
  | some (q, _) => (false, attrOf x.layer x.op q)
  | none => (true, 0)

/-- Record an error source of a core's page, attributed to its kernel. -/
def State.raiseCore (s : State) (c n : Nat) (detail : Nat := 0) : State :=
  let (a, v) := s.coreAttr c
  s.raiseAt (pCore c) n detail false a v

/-! ### Space returns (R430) -/

/-- The first waiting record of the highest class. -/
def pendFirst (l : List EvRec) : Nat :=
  let best := (l.map (fun r => r.cls)).foldl min 8
  (l.zipIdx.find? (fun e => decide (e.1.cls = best))).elim 0 (fun e => e.2)

/-- Write waiting records while the ring has space, C0 first. -/
def State.evDrainPend : Nat → State → Nat → State
  | 0, s, _ => s
  | k + 1, s, q =>
    let e := s.eq q
    if e.pend = [] ∨ s.eqSpace q = false then s
    else
      let i := pendFirst e.pend
      match e.pend[i]? with
      | none => s
      | some r =>
        let s := (s.setEq q { e with pend := e.pend.eraseIdx i }).wr R.EVT_EQ_STATUS_PENDING q (e.pend.length - 1)
        State.evDrainPend k (s.evWrite q r) q

/-- Space has returned: a LOST record first if drops were counted, which clears EQ_DROP and records EVT_DROP, then the
waiting records (R430). -/
def State.evSpace (s : State) (q : Nat) : State :=
  let (s, src) := s.evLost q
  (s.evDrainPend 17 q).raiseAll 8 src

/-! ### Traces (R558–R560) -/

/-- A function's trace and watch state. -/
def State.dbgFn (s : State) (fn : Nat) : DbgFn := NMap.get DbgFn.empty s.dbg fn

/-- Replace a function's trace and watch state. -/
def State.setDbg (s : State) (fn : Nat) (x : DbgFn) : State := { s with dbg := NMap.put fn x s.dbg }

/-- An event reaches the trace of its function when the filters pass it (R559): it joins the queue, or is dropped.
`src` is its source bit: 0 commands, 1 kernels, 2 DMA, 3 collectives, 4 step machine, 5 marks. -/
def State.trace (s : State) (fn src typ payload page : Nat) (addr : Bool) (attr : Nat) : State :=
  let p := pDbg fn
  let layer := attr % 65536
  if s.flag R.DBG_TRACE_CFG_EN p = true ∧ s.tbcAt p ≥ s.rg R.DBG_TRACE_START_TBC_TBC p
      ∧ bit (s.rg R.DBG_TRACE_SRC_SRC p) src = true
      ∧ (addr = true ∨ (s.rg R.DBG_TRACE_LAYER_LAYER_LO p ≤ layer ∧ layer ≤ s.rg R.DBG_TRACE_LAYER_LAYER_HI p)) then
    let d := s.dbgFn fn
    if d.queue.length < 64 then
      (s.setDbg fn { d with queue := d.queue ++ [⟨typ, 4, false, addr, fn, page, 1, s.tbcAt page, attr, payload⟩] }).wr
        R.DBG_TRACE_STATUS_ACTIVE p 1
    else
      ((s.setDbg fn { d with dropped := d.dropped + 1 }).cnt p Cn.DBG_TRACE_DROP).raise p Er.DBG_TRACE_DROP
  else s

/-- Write one trace entry: to slot r mod SIZE of the ring, or as an event record to the trace's event queue (R559); with
STOP_FULL the trace stops once the ring has been filled (R560). -/
def State.traceWrite (s : State) (fn : Nat) (r : EvRec) : State :=
  let p := pDbg fn
  let n := s.rg R.DBG_TRACE_PROD_COUNT p
  let size := 2 ^ s.rg R.DBG_TRACE_CFG_LOG2SIZE p
  let s := (s.wr R.DBG_TRACE_PROD_COUNT p (n + 1)).cnt p Cn.DBG_TRACE_WRITTEN
  if s.flag R.DBG_TRACE_CFG_TO_EQ p then
    let q := s.evtqOf fn (s.rg R.DBG_TRACE_CFG_EQ p)
    let q := match q with
      | some q => if s.eqActive q then some q else s.eqDefault fn
      | none => s.eqDefault fn
    let (s, l) := s.evDeliver q r
    s.raiseAll 8 l
  else
    let s := s.wle (aHost (s.rg R.DBG_TRACE_BASE_ADDR p * 32 + 32 * (n % size))) 32 (r.bytes 0)
    if s.flag R.DBG_TRACE_CFG_STOP_FULL p = true ∧ n + 1 ≥ size then
      (s.wr R.DBG_TRACE_CFG_EN p 0).wr R.DBG_TRACE_STATUS_STOPPED p 1
    else s

/-- Whether a trace with STOP_FULL = 1 has filled its ring since EN was set (R560). -/
def State.traceFull (s : State) (fn : Nat) : Bool :=
  s.flag R.DBG_TRACE_CFG_STOP_FULL (pDbg fn) && !(s.flag R.DBG_TRACE_CFG_TO_EQ (pDbg fn))
    && decide (s.rg R.DBG_TRACE_PROD_COUNT (pDbg fn) ≥ 2 ^ s.rg R.DBG_TRACE_CFG_LOG2SIZE (pDbg fn))

/-- Write the entries of a list while the ring has not stopped (R560). -/
def State.traceWriteAll (s : State) (fn : Nat) : List EvRec → State
  | [] => s
  | r :: l => if s.traceFull fn then s else (s.traceWrite fn r).traceWriteAll fn l

/-- Write a function's queued entries: space has returned, so a GAP entry with the drops goes first (R559). -/
def State.traceFlush (s : State) (fn : Nat) : State :=
  let d := s.dbgFn fn
  if d.queue = [] ∧ d.dropped = 0 then s
  else
    let gap : List EvRec :=
      if d.dropped = 0 then [] else [⟨0x0C17, 4, false, true, fn, pDbg fn, 1, s.tbcAt (pDbg fn), 0, d.dropped % 2 ^ 32⟩]
    ((s.setDbg fn { d with queue := [], dropped := 0 }).traceWriteAll fn (gap ++ d.queue)).wr
      R.DBG_TRACE_STATUS_ACTIVE (pDbg fn) 0

end Sys2Proof.Machine
end

