-- ==== Sys2Proof/Machine/Operands.lean ====
section
/-!
DEFINITION. Operand forms: local addresses and their translation (R174–R176, R268, R269), line accesses to scratchpads,
cluster memory, stacked memory and the far tier (R181, R187, R254–R261, R267), tensor descriptors (R140–R142) and elements
with their scales (R70–R74, R80).
-/

namespace Sys2Proof.Machine

/-- The code of an access that must wait: its channel holds requests, or the write-combining buffer is full (R14, R258,
R260). It is no status of the module. -/
def waitCode : Nat := 0x10000

/-! ### Stacked memory: stacks, channels, buffers -/

/-- Stack of an HBM byte address (R252). -/
def stackOf (o : Nat) : Nat := o / 2 ^ 36 % 8

/-- Channel of an HBM byte address (R254). -/
def channelOf (o : Nat) : Nat := bits o 12 8 ^^^ bits o 17 13

/-- The channel state of a stack's channel. -/
def State.chan (s : State) (m ch : Nat) : Chan := NMap.get Chan.init s.hbm.chans (32 * m + ch)

/-- Replace a channel's state. -/
def State.setChan (s : State) (m ch : Nat) (x : Chan) : State :=
  { s with hbm := { s.hbm with chans := NMap.put (32 * m + ch) x s.hbm.chans } }

/-- Whether a channel is fenced (R261). -/
def State.chFenced (s : State) (m ch : Nat) : Bool := s.fencedP (pMch m ch)

/-- Whether requests to a channel are held: a transfer of it is being repeated, it retrains, or its or its stack's ENABLE is 0
(R14, R260). -/
def State.chHeld (s : State) (m ch : Nat) : Bool :=
  !(s.chFenced m ch) && ((s.chan m ch).retraining || decide ((s.chan m ch).repeats ≠ 0) || !(s.enabled (pMch m ch)) || !(s.enabled (pMem m)))

/-- Whether a stack is out of reach: in self-refresh, its PHY domain being off (R41). -/
def State.stackOff (s : State) (m : Nat) : Bool := !(s.pageOn (pMem m)) || NMap.get false s.hbm.selfRefresh m

/-- Write-combining entries of a stack, oldest first. -/
def State.wcb (s : State) (m : Nat) : List WcbEntry := NMap.get [] s.hbm.wcb m

/-- Replace a stack's write-combining entries. -/
def State.setWcb (s : State) (m : Nat) (l : List WcbEntry) : State :=
  { s with hbm := { s.hbm with wcb := NMap.put m l s.hbm.wcb } }

/-- Count `n` line reads or writes of an HBM frame (R271). -/
def State.countHbmN (s : State) (o n : Nat) (write : Bool) : State :=
  let f := o / 2 ^ 21
  let (r, w) := NMap.get (0, 0) s.hbm.frameCnt f
  let x := if write then (r, min 0xFFFFFFFF (w + n)) else (min 0xFFFFFFFF (r + n), w)
  { s with hbm := { s.hbm with frameCnt := NMap.put f x s.hbm.frameCnt } }

/-- Count a line read or write of an HBM frame (R271). -/
def State.countHbm (s : State) (o : Nat) (write : Bool) : State := s.countHbmN o 1 write

/-- Count an access of a far-tier frame (R271). -/
def State.countFar (s : State) (o : Nat) : State :=
  let f := o / 2 ^ 21
  let n := min 0xFFFFFFFF (NMap.get 0 s.hbm.farCnt f + 1)
  { s with hbm := { s.hbm with farCnt := NMap.put f n s.hbm.farCnt } }

/-- A byte of stacked memory as a read returns it: the write-combining entry's where its mask holds the byte (R256). -/
def wcbByte (l : List WcbEntry) (o : Nat) (b : Nat) : Nat :=
  match l.find? (fun e => decide (e.line = o / 64)) with
  | some e => if bit e.mask (o % 64) then e.data / 2 ^ (8 * (o % 64)) % 256 else b
  | none => b

/-- Write the bytes that are given from `a` on; a byte not given stays. -/
def State.wbsM (s : State) (a : Nat) : List (Option Nat) → State
  | [] => s
  | some b :: bs => (s.wb a (BitVec.ofNat 8 b)).wbsM (a + 1) bs
  | none :: bs => s.wbsM (a + 1) bs

/-- Merge bytes at offset `o` into an entry (R255). -/
def WcbEntry.merge (e : WcbEntry) (o : Nat) : List (Option Nat) → WcbEntry
  | [] => e
  | none :: bs => WcbEntry.merge e (o + 1) bs
  | some b :: bs =>
    WcbEntry.merge { e with mask := setBit e.mask (o % 64),
                            data := putBits e.data (8 * (o % 64) + 7) (8 * (o % 64)) b } (o + 1) bs

/-- Write the bytes of an entry's mask into the line (the merge of R257). -/
def State.wcbStore (s : State) (e : WcbEntry) : Nat → State
  | 0 => s
  | i + 1 =>
    let s := s.wcbStore e i
    if bit e.mask i then s.wb (aHbm (e.line * 64 + i)) (BitVec.ofNat 8 (e.data / 2 ^ (8 * i))) else s

/-- Drain one entry by read-modify-write, counted under WCB_RMW; a fenced channel discards it (R257, R261). Bytes of it that came marked have
marked the line (R181). -/
def State.wcbDrain (s : State) (m : Nat) (e : WcbEntry) : State :=
  let s := s.setWcb m ((s.wcb m).filter (fun x => decide (x.line ≠ e.line)))
  if s.chFenced m (channelOf (e.line * 64)) then s
  else (((s.wcbStore e 64).cnt (pMem m) Cn.MEM_WCB_RMW).cnt (pMem m) Cn.MEM_RD_BYTES 64).cnt (pMem m) Cn.MEM_WR_BYTES 64

/-- Drain every entry of a stack, oldest first (R257). -/
def State.wcbDrainAll (s : State) (m : Nat) : State :=
  (s.wcb m).foldl (fun s e => if s.chHeld m (channelOf (e.line * 64)) then s else s.wcbDrain m e) s

/-- Mask of a complete line. -/
def fullMask : Nat := 2 ^ 64 - 1

/-- Whether a partial write at `o` would have to wait for an entry (R258). -/
def State.wcbFull (s : State) (o : Nat) : Bool :=
  let m := stackOf o
  decide ((s.wcb m).length ≥ 256) && ((s.wcb m).all (fun e => decide (e.line ≠ o / 64)))

/-- Whether bytes cover a whole line. -/
def fullLine (bs : List (Option Nat)) : Bool := decide (bs.length = 64) && bs.all Option.isSome

/-- Whether an HBM offset lies in a frame that holds entries of a frozen shadow bank of translation (R268, R361). -/
def State.bankFrozen (s : State) (o : Nat) : Bool :=
  s.regs.any (fun e => decide (e.1.1 = R.HIF_XLT_CTRL_FLIP_ARM.id) && decide (e.2 ≠ 0) &&
    (let h := e.1.2
     let b := 8 * (1 - s.rg R.HIF_XLT_CTRL_ACTIVE h)
     s.flag R.HIF_XLT_CTRL_SHADOW_READY h && (List.range 8).any (fun j =>
       s.flag (R.HIF_XLT_DIR_VALID (b + j)) h && decide (s.rg (R.HIF_XLT_DIR_FRAME (b + j)) h = o / 2 ^ 21))))

/-- An incomplete entry does not stay in the buffer of a stack whose QUIESCE is set, nor the oldest of more than 224 (R257). -/
def State.wcbSettle (s : State) (m : Nat) : State :=
  if s.quiescing (pMem m) then s.wcbDrainAll m
  else if (s.wcb m).length > 224 then
    match (s.wcb m).find? (fun x => !(s.chHeld m (channelOf (x.line * 64)))) with
    | some old => s.wcbDrain m old
    | none => s
  else s

/-- A partial write of bytes within one line of a stack reaches its write-combining buffer (R255, R257); `bad` marks bytes of a poisoned source
line, whose marker the line takes and keeps (R181). -/
def State.wcbWrite (s : State) (o : Nat) (bs : List (Option Nat)) (bad : Bool) : State :=
  let m := stackOf o
  let l := s.wcb m
  let s := if bad then s.setPoison (aHbm o) true else s
  match l.find? (fun e => decide (e.line = o / 64)) with
  | some e =>
    let e' := { e.merge o bs with bad := e.bad || bad }
    let s := s.cnt (pMem m) Cn.MEM_WCB_MERGE
    if e'.mask = fullMask then
      let s := s.setWcb m (l.filter (fun x => decide (x.line ≠ o / 64)))
      ((s.wcbStore e' 64).setPoison (aHbm o) e'.bad).cnt (pMem m) Cn.MEM_WR_BYTES 64
    else (s.setWcb m (l.map (fun x => if x.line = o / 64 then e' else x))).wcbSettle m
  | none => (s.setWcb m (l ++ [(⟨o / 64, 0, 0, s.tbc, bad⟩ : WcbEntry).merge o bs])).wcbSettle m

/-- A write of bytes within one line of a stack (R255–R257, R261): the status CHANNEL_FENCED from a fenced channel; `bad` marks bytes of a
poisoned source line (R181). A write to an entry of a frozen shadow bank is ignored and counted (R361). -/
def State.hbmWrite (s : State) (o : Nat) (bs : List (Option Nat)) (bad : Bool) : Nat × State :=
  let m := stackOf o
  if s.chFenced m (channelOf o) then (St.CHANNEL_FENCED, s)
  else if s.bankFrozen o then (St.OK, s.cnt pTop Cn.TOP_SHADOW_FROZEN)
  else
    let s := s.countHbm o true
    if fullLine bs = true then
      let s := s.setWcb m ((s.wcb m).filter (fun x => decide (x.line ≠ o / 64)))
      (St.OK, ((s.wbsM (aHbm o) bs).setPoison (aHbm o) bad).cnt (pMem m) Cn.MEM_WR_BYTES 64)
    else (St.OK, s.wcbWrite o bs bad)

/-- Expander link that serves a far-tier frame: the last whose base is at or below it (R266). -/
def State.farLink (s : State) (f : Nat) : Option Nat :=
  (List.range 4).reverse.find? (fun d =>
    bit (s.rg R.FAR_FAR_STATUS_PRESENT pFar) d && decide (s.rg (R.FAR_DEV_BASE_BASE d) pFar ≤ f)
    && decide (f < s.rg (R.FAR_DEV_BASE_BASE d) pFar + s.rg (R.FAR_DEV_BASE_FRAMES d) pFar))

/-- STATUS.DEGRADED of the FAR page: a link that is up trained at 32 GT/s or at half width (R265). -/
def State.farDegraded (s : State) : State :=
  s.wrB R.HDR_STATUS_DEGRADED pFar (s.rg R.FAR_FAR_STATUS_UP pFar &&& s.hbm.farLow != 0)

/-- Whether the far tier answers for a byte address: an expander maps it and its link is up (R267). -/
def State.farUp (s : State) (o : Nat) : Bool :=
  match s.farLink (o / 2 ^ 21) with
  | some d => bit (s.rg R.FAR_FAR_STATUS_UP pFar) d && s.pageOn pFar && !(s.fencedP pFar)
  | none => false

/-! ### Accesses within one line -/

/-- Space of a memory address: 0 scratchpad, 1 cluster memory, 2 HBM, 3 far tier, 4 host. -/
def spaceOf (pa : Nat) : Nat := pa / 2 ^ 64

/-- Offset within the space. -/
def offOf (pa : Nat) : Nat := pa % 2 ^ 64

/-- The bytes of a part of a line as a read of it returns them, a write-combining entry over them (R256). -/
def State.lineBytes (s : State) (pa n : Nat) : List Nat :=
  let bs := s.rbs pa n
  if spaceOf pa = 2 then (bs.zipIdx).map (fun b => wcbByte (s.wcb (stackOf (offOf pa))) (offOf pa + b.2) b.1) else bs

/-- Read `n` bytes within one line at `pa`: the bytes, whether they are poisoned, and the counts of the access. -/
def State.readLine (s : State) (pa n : Nat) : State × List Nat × Bool :=
  let o := offOf pa
  match spaceOf pa with
  | 1 => (s.cnt (pClu (o / 2 ^ 25)) Cn.CLU_CLMEM_RD_BYTES n, s.rbs pa n, s.poisoned pa)
  | 2 =>
    let m := stackOf o
    let bs := s.lineBytes pa n
    if s.chFenced m (channelOf o) then (s, bs, true)
    else ((s.countHbm o false).cnt (pMem m) Cn.MEM_RD_BYTES 64, bs, s.poisoned pa)
  | 3 =>
    let s := s.countFar o
    if s.farUp o then (s.cnt pFar Cn.FAR_FAR_RD_BYTES n, s.rbs pa n, s.poisoned pa)
    else ((s.cnt pFar Cn.FAR_FAR_FAIL).raiseAt pFar Er.FAR_FAR_LINK_DOWN (o / 2 ^ 21) false true o, s.rbs pa n, true)
  | _ => (s, s.rbs pa n, s.poisoned pa)

/-- Write bytes within one line at `pa`: a full line clears the poison marker and a partial write keeps it (R181);
`poison` marks the line as a DMA of a poisoned source does. -/
def State.writeLine (s : State) (pa : Nat) (bs : List (Option Nat)) (poison : Bool) : Nat × State :=
  let o := offOf pa
  let n := (bs.filter Option.isSome).length
  let mark (s : State) : State := if poison then s.setPoison pa true else s
  let plain (s : State) : State :=
    mark (if fullLine bs then (s.wbsM pa bs).setPoison pa false else s.wbsM pa bs)
  match spaceOf pa with
  | 1 => (St.OK, (plain s).cnt (pClu (o / 2 ^ 25)) Cn.CLU_CLMEM_WR_BYTES n)
  | 2 => s.hbmWrite o bs poison
  | 3 =>
    let s := s.countFar o
    if s.farUp o then (St.OK, (plain s).cnt pFar Cn.FAR_FAR_WR_BYTES n)
    else (St.FAR_DOWN, (s.cnt pFar Cn.FAR_FAR_FAIL).raiseAt pFar Er.FAR_FAR_LINK_DOWN (o / 2 ^ 21) false true o)
  | _ => (St.OK, plain s)

/-! ### Translation (R268, R269) -/

/-- Offset in HBM of the entry for a VPN in a bank; none when the bank does not reach it. -/
def State.xltEntryAddr (s : State) (fn bank vpn : Nat) : Option Nat :=
  let h := pHif fn
  let len := s.rg (if bank = 0 then R.HIF_XLT_LEN0_LEN else R.HIF_XLT_LEN1_LEN) h
  let slot := 8 * bank + vpn / 262144
  if vpn < len ∧ vpn / 262144 < 8 ∧ s.flag (R.HIF_XLT_DIR_VALID slot) h = true then
    some (s.rg (R.HIF_XLT_DIR_FRAME slot) h * 2 ^ 21 + 8 * (vpn % 262144))
  else none

/-- The 8 bytes of stacked memory at offset `o`, write-combining entries merged over them. -/
def State.hbm8 (s : State) (o : Nat) : Nat :=
  let l := s.wcb (stackOf o)
  ofBytes (((s.rbs (aHbm o) 8).zipIdx).map (fun b => wcbByte l (o + b.2) b.1))

/-- Why the line at an HBM offset cannot be accessed now, if it cannot: its stack is out of reach (R41), or its channel holds accesses
(R14, R260). -/
def State.lineRefusal (s : State) (o : Nat) : Option Nat :=
  if s.stackOff (stackOf o) then some St.STACK_OFF
  else if s.chHeld (stackOf o) (channelOf o) then some waitCode
  else none

/-- The translation entry at an HBM offset as a lookup reads it. Of an entry in a line that is delivered poisoned (R181, R261) the spec says
nothing: its value is free (DESIGN CHOICE, log entry 128). -/
def State.entryRead (s : State) (o : Nat) : Nat :=
  if s.chFenced (stackOf o) (channelOf o) = true ∨ s.poisoned (aHbm o) = true then Config.free (s.free + o) % 2 ^ 64 else s.hbm8 o

/-- The line of an entry is read: it counts as any line read of its frame (R271, R284). -/
def State.noteEntry (s : State) (o : Nat) : State :=
  if s.chFenced (stackOf o) (channelOf o) then s else (s.countHbm o false).cnt (pMem (stackOf o)) Cn.MEM_RD_BYTES 64

/-- Translation state of a function. -/
def State.xltFn (s : State) (fn : Nat) : XltSt := NMap.get XltSt.empty s.xlt fn

/-- Replace a function's translation state. -/
def State.setXlt (s : State) (fn : Nat) (x : XltSt) : State := { s with xlt := NMap.put fn x s.xlt }

/-- The translation cache of a cluster, newest entry first. -/
def State.tlb (s : State) (cl : Nat) : List (Nat × Nat × Nat) := NMap.get [] s.hbm.tlb cl

/-- The entry of a function's VPN that a cluster caches. -/
def State.tlbEntry (s : State) (cl fn vpn : Nat) : Option Nat :=
  ((s.tlb cl).find? (fun e => decide (e.1 = fn) && decide (e.2.1 = vpn))).map (fun e => e.2.2)

/-- Offset in HBM of a VPN's entry in the active bank. -/
def State.activeEntry (s : State) (fn vpn : Nat) : Option Nat := s.xltEntryAddr fn (s.rg R.HIF_XLT_CTRL_ACTIVE (pHif fn)) vpn

/-- The entry of the active bank for a VPN, as a lookup of cluster `cl` finds it. Where the entry that the cluster caches differs from the
one in memory, a lookup may use either until XLT_INVAL: a free choice (R269); the cached one, where memory cannot be read now. -/
def State.xltEntry (s : State) (cl fn vpn : Nat) : Nat :=
  let now := match s.activeEntry fn vpn with
    | some o => s.entryRead o
    | none => 0
  match s.tlbEntry cl fn vpn with
  | none => now
  | some e => if e = now then now
      else if ((s.activeEntry fn vpn).bind s.lineRefusal).isNone = true ∧ Config.free (s.free + vpn) % 2 = 0 then now else e

/-- Why a lookup that the cluster's cache does not serve cannot read the entry now, if it cannot (R41, R260). -/
def State.lookupRefusal (s : State) (cl fn vpn : Nat) : Option Nat :=
  if (s.tlbEntry cl fn vpn).isSome then none else (s.activeEntry fn vpn).bind s.lineRefusal

/-- Whether an entry maps anything: VALID, and no reserved bit set (R269). -/
def xltValid (e : Nat) : Bool := bit e 0 && decide (bits e 15 6 = 0) && decide (bits e 63 39 = 0)

/-- Translate a local address of the translated window for a function: the memory address, or ADDR_RANGE; STACK_OFF where
the stack of the entry or of the frame is in self-refresh (R41, R268, R269); a lookup may have to wait for its channel (R260). -/
def State.translate (s : State) (cl fn a : Nat) (write exec : Bool) : Except Nat Nat :=
  let vpn := a / 2 ^ 21 - 0x80000
  let e := s.xltEntry cl fn vpn
  match s.lookupRefusal cl fn vpn with
  | some code => .error code
  | none =>
  if xltValid e = false ∨ (write = true ∧ bit e 1 = false) ∨ (exec = true ∧ bit e 3 = false) then .error St.ADDR_RANGE
  else
    let o := bits e 38 16 * 2 ^ 21 + a % 2 ^ 21
    if bit e 4 then .ok (aFar o)
    else if bits e 38 34 ≠ 0 ∨ bits e 30 16 ≥ 18424 then .error St.ADDR_RANGE
    else if s.stackOff (stackOf o) then .error St.STACK_OFF
    else .ok (aHbm o)


/-! ### Local addresses (R174–R176) -/

/-- Who reaches a local address: an instruction of core `core`, or a DMA engine working for it (R174). -/
structure Via where
  core : Nat
  fn : Nat
  dma : Bool
  deriving DecidableEq, Repr

/-- The cluster whose translation cache serves a requester. -/
def Via.cluster (v : Via) : Nat := v.core / 16

/-- A lookup that its cluster's cache cannot serve reads the entry's line (R254, R271), and the entry is cached: the oldest of 1,024 gives
way (R269), DESIGN CHOICE, log entry 128. -/
def State.noteLookup (s : State) (v : Via) (a : Nat) : State :=
  if a < 2 ^ 40 then s
  else
    let vpn := a / 2 ^ 21 - 0x80000
    match s.tlbEntry v.cluster v.fn vpn with
    | some _ => s
    | none =>
      let e := s.xltEntry v.cluster v.fn vpn
      let s := match s.activeEntry v.fn vpn with
        | some o => s.noteEntry o
        | none => s
      { s with hbm := { s.hbm with tlb := NMap.put v.cluster (((v.fn, vpn, e) :: s.tlb v.cluster).take 1024) s.hbm.tlb } }

/-- Whether a quad lies in the function's partition (R176). -/
def State.inPart (s : State) (fn q : Nat) : Bool := s.quadFn q == some fn

/-- The memory address of a byte at a local address, or the code with which it is refused (R174–R176). -/
def State.mapAddr (s : State) (v : Via) (a : Nat) (write exec : Bool) : Except Nat Nat :=
  let cl := v.core / 16
  let sp (core o : Nat) : Except Nat Nat :=
    if s.inPart v.fn (core / 4) then .ok (aSpad core o) else .error St.ADDR_RANGE
  let cm (n o : Nat) : Except Nat Nat :=
    if s.inPart v.fn (4 * n + o / 2 ^ 23) then .ok (aClmem n o) else .error St.ADDR_RANGE
  if a < 0x80000 then sp v.core a
  else if 0x1000000 ≤ a ∧ a < 0x1800000 then sp (16 * cl + (a - 0x1000000) / 0x80000) (a % 0x80000)
  else if 0x2000000 ≤ a ∧ a < 0x4000000 then cm cl (a - 0x2000000)
  else if v.dma = true ∧ 0x100000000 ≤ a ∧ a < 0x200000000 then
    let n := (a - 0x100000000) / 0x4000000
    let o := a % 0x4000000
    if o < 0x2000000 then cm n o
    else if o < 0x2800000 then sp (16 * n + (o - 0x2000000) / 0x80000) (o % 0x80000)
    else .error St.ADDR_RANGE
  else if 2 ^ 40 ≤ a ∧ a < 2 ^ 48 then s.translate v.cluster v.fn a write exec
  else .error St.ADDR_RANGE

/-- Whether an access to `n` bytes of a line at a memory address must wait: its channel holds accesses (R260), or it is a partial write, a line
with masked bytes among them, and its buffer is full (R258). -/
def State.mustWait (s : State) (pa n : Nat) (write : Bool) : Bool :=
  decide (spaceOf pa = 2) &&
    (s.chHeld (stackOf (offOf pa)) (channelOf (offOf pa)) ||
      (write && decide (n < 64) && s.wcbFull (offOf pa)))

/-- Bytes from `a` to the end of its line, at most `n`. -/
def chunk (a n : Nat) : Nat := min n (64 - a % 64)

/-- Whether every line of `n` bytes at `a` may be accessed: the code of the first that may not. -/
def State.checkSpan (s : State) (v : Via) (write exec : Bool) : Nat → Nat → Nat → Except Nat Unit
  | 0, _, _ => .ok ()
  | k + 1, a, n =>
    if n = 0 then .ok ()
    else do
      let pa ← s.mapAddr v a write exec
      if s.mustWait pa (chunk a n) write then .error waitCode
      else s.checkSpan v write exec k (a + chunk a n) (n - chunk a n)

/-- Read `n` bytes at local address `a`, line by line, up to a line that is refused: the state, which counts the lines read, for each byte read
its value and whether its line is poisoned, and the code of the line that is refused, if one is. -/
def State.readUpto (s : State) (v : Via) : Nat → Nat → Nat → State × List (Nat × Bool) × Option Nat
  | 0, _, _ => (s, [], none)
  | k + 1, a, n =>
    if n = 0 then (s, [], none)
    else
      let c := chunk a n
      match s.mapAddr v a false false with
      | .error e => (s, [], some e)
      | .ok pa =>
        if s.mustWait pa c false then (s, [], some waitCode)
        else
          let (s, bs, p) := (s.noteLookup v a).readLine pa c
          let (s, r, e) := s.readUpto v k (a + c) (n - c)
          (s, bs.map (fun b => (b, p)) ++ r, e)

/-- Read `n` bytes at local address `a`: the code of the first line that is refused, or the bytes. -/
def State.readSpan (s : State) (v : Via) (k a n : Nat) : Except Nat (State × List (Nat × Bool)) :=
  match s.readUpto v k a n with
  | (s, bs, none) => .ok (s, bs)
  | (_, _, some e) => .error e

/-- Lines that a span of `n` bytes at `a` touches, as fuel for the walks over them. -/
def spanLines (n : Nat) : Nat := n / 64 + 2

/-- Read `n` bytes at local address `a`. -/
def State.ldN (s : State) (v : Via) (a n : Nat) : Except Nat (State × List (Nat × Bool)) :=
  s.readSpan v (spanLines n) a n

/-- Write bytes at local address `a`, line by line; a byte not given stays, and each byte may carry the mark of a poisoned
source. A line refused by its channel or expander ends the walk with its code, what was written before it staying
written. -/
def State.writeSpan (s : State) (v : Via) : Nat → Nat → List (Option Nat × Bool) → Nat × State
  | 0, _, _ => (St.OK, s)
  | k + 1, a, bs =>
    if bs = [] then (St.OK, s)
    else
      let c := chunk a bs.length
      match s.mapAddr v a true false with
      | .error e => (e, s)
      | .ok pa =>
        let now := bs.take c
        if now.all (fun b => b.1.isNone) then s.writeSpan v k (a + c) (bs.drop c)
        else if s.mustWait pa (now.filter (fun b => b.1.isSome)).length true then (waitCode, s)
        else
          let (st, s) := (s.noteLookup v a).writeLine pa (now.map (fun b => b.1)) (now.any (fun b => b.2))
          if st = St.OK then s.writeSpan v k (a + c) (bs.drop c) else (st, s)

/-- Store bytes at local address `a` as an instruction does: nothing changes where a line is refused (R134). -/
def State.stN (s : State) (v : Via) (a : Nat) (bs : List (Option Nat)) : Except Nat State := do
  s.checkSpan v true false (spanLines bs.length) a bs.length
  match s.writeSpan v (spanLines bs.length) a (bs.map (fun b => (b, false))) with
  | (0, s) => .ok s
  | (st, _) => .error st

/-! ### Format words and tensor descriptors (R56–R58, R140–R142) -/

/-- R58 on a format word; `array` for an array operand. -/
def fmtWordOk (w : Nat) (array : Bool) : Bool :=
  let fmt := bits w 4 0
  let sgn := bit w 5
  let sf := bits w 7 6
  match fmtOf fmt sgn false with
  | none => false
  | some f =>
    (sgn || fmt == 0x02 || fmt == 0x03 || fmt == 0x04 || fmt == 0x0C)
    && !(decide (sf ≠ 0) && decide (f.cls ≥ 16))
    && decide (sf ≠ 3)
    && !(decide (sf ≠ 0) && decide (bits w 10 8 ≥ 6))
    && !(array && (fmt == 0x12 || fmt == 0x13))

/-- The format of a format word. -/
def fmtOfWord (w : Nat) : Fmt := (fmtOf (bits w 4 0) (bit w 5) (bit w 13)).getD fp32

/-- A tensor as the elements of a descriptor are read and written: base and scale base, dimensions, format word, strides. -/
structure Ten where
  base : Nat
  sbase : Nat
  dim0 : Nat
  dim1 : Nat
  dim2 : Nat
  fmt : Nat
  st1 : Nat
  st2 : Nat
  ss1 : Nat
  ss2 : Nat
  deriving DecidableEq, Repr

/-- The descriptor in a T register (R140). -/
def Ten.ofBits (b : BitVec 512) : Ten :=
  let n := b.toNat
  let f (off len : Nat) : Nat := bits n (8 * off + len - 1) (8 * off)
  ⟨f 0 64, f 8 64, f 0x10 32, f 0x14 32, f 0x18 32, f 0x1C 32, f 0x20 64, f 0x28 64, f 0x30 64, f 0x38 64⟩

/-- The 64 bytes of a descriptor. -/
def Ten.toBits (t : Ten) : BitVec 512 :=
  BitVec.ofNat 512 (t.base % 2 ^ 64 + t.sbase % 2 ^ 64 * 2 ^ 64 + t.dim0 % 2 ^ 32 * 2 ^ 128 + t.dim1 % 2 ^ 32 * 2 ^ 160
    + t.dim2 % 2 ^ 32 * 2 ^ 192 + t.fmt % 2 ^ 32 * 2 ^ 224 + t.st1 % 2 ^ 64 * 2 ^ 256 + t.st2 % 2 ^ 64 * 2 ^ 320
    + t.ss1 % 2 ^ 64 * 2 ^ 384 + t.ss2 % 2 ^ 64 * 2 ^ 448)

/-- VALID of a descriptor. -/
def Ten.valid (t : Ten) : Bool := bit t.fmt 31
/-- SCALE_FMT. -/
def Ten.sf (t : Ten) : Nat := bits t.fmt 7 6
/-- Block size (R57). -/
def Ten.blk (t : Ten) : Nat := 8 * 2 ^ bits t.fmt 10 8
/-- BLK_DIR = 1: blocks run along the outer dimension. -/
def Ten.outer (t : Ten) : Bool := bit t.fmt 11
/-- The element format. -/
def Ten.f (t : Ten) : Fmt := fmtOfWord t.fmt
/-- Rows of the tensor. -/
def Ten.rows (t : Ten) : Nat := t.dim1 * t.dim2

/-- The checks of a loaded descriptor, in the order of R142: none when it passes. -/
def Ten.check (t : Ten) : Option Nat :=
  if t.valid = false then some St.DESC_INVALID
  else if bits t.fmt 30 14 ≠ 0 ∨ t.st1 ≥ 2 ^ 48 ∨ t.st2 ≥ 2 ^ 48 ∨ t.ss1 ≥ 2 ^ 48 ∨ t.ss2 ≥ 2 ^ 48 then
    some St.DESC_INVALID
  else if fmtWordOk t.fmt false = false then some St.INVALID_ARG
  else if t.dim0 = 0 ∨ t.dim1 = 0 ∨ t.dim2 = 0 then some St.DESC_INVALID
  else none

/-- Address of the first byte of row `r` (R140). -/
def Ten.rowAddr (t : Ten) (r : Nat) : Nat := t.base + r % t.dim1 * t.st1 + r / t.dim1 * t.st2

/-- Address of the scale byte of element (r, c) (R74, R140). -/
def Ten.scaleAddr (t : Ten) (r c : Nat) : Nat :=
  let i := r % t.dim1
  t.sbase + (if t.outer then i / t.blk else i) * t.ss1 + r / t.dim1 * t.ss2 + (if t.outer then c else c / t.blk)

/-- The FP6 row rule of R80: a stride that places a row is a multiple of 3. -/
def Ten.rowsAligned (t : Ten) : Bool :=
  !(t.f.width == 6) || ((decide (t.dim1 ≤ 1) || decide (t.st1 % 3 = 0)) && (decide (t.dim2 ≤ 1) || decide (t.st2 % 3 = 0)))

/-- Whether an inner index lies on a byte boundary, and for FP6 on a group boundary (R80, R144, R156). -/
def Ten.innerAligned (t : Ten) (c : Nat) : Bool :=
  if t.f.width = 6 then decide (c % 4 = 0) else decide (t.f.width * c % 8 = 0)

/-- Bytes that `n` elements from inner index 0 take, the last byte or group whole (R80). -/
def rowBytes (f : Fmt) (n : Nat) : Nat := if f.width = 6 then 3 * ceilDiv n 4 else ceilDiv (n * f.width) 8

/-- The code of element `i` in the bytes of a row. -/
def elemCode (f : Fmt) (bs : List Nat) (i : Nat) : Nat :=
  let lo := f.width * i / 8
  let n := ofBytes ((bs.drop lo).take 5)
  n / 2 ^ (f.width * i % 8) % 2 ^ f.width

/-- The bytes of a row of element codes, padding written 0 (R80). -/
def packRow (f : Fmt) (codes : List Nat) : List Nat :=
  let n := (codes.zipIdx).foldl (fun acc e => acc + e.1 % 2 ^ f.width * 2 ^ (f.width * e.2)) 0
  leBytes (rowBytes f codes.length) n

/-- Rows and bytes per row of one plane of the scale tensor (R74). -/
def Ten.scaleDims (t : Ten) : Nat × Nat :=
  if t.outer then (ceilDiv t.dim1 t.blk, t.dim0) else (t.dim1, ceilDiv t.dim0 t.blk)

/-- Whether every address that a descriptor names, of its elements and of its scales, lies in the own scratchpad (R177). -/
def Ten.placed (t : Ten) : Bool :=
  decide (t.base + (t.dim1 - 1) * t.st1 + (t.dim2 - 1) * t.st2 + rowBytes t.f t.dim0 ≤ 0x80000)
  && (t.sf == 0 ||
    decide (t.sbase + (t.scaleDims.1 - 1) * t.ss1 + (t.dim2 - 1) * t.ss2 + t.scaleDims.2 ≤ 0x80000))

/-- The first element (row, column) of every block among the first `rows` rows and `cols` columns of a tensor (R73). -/
def Ten.blocks (t : Ten) (rows cols : Nat) : List (Nat × Nat) :=
  if t.outer then
    ((List.range rows).filter (fun r => decide (r % t.dim1 % t.blk = 0))).flatMap
      (fun r => (List.range cols).map (fun c => (r, c)))
  else
    (List.range rows).flatMap (fun r => (List.range (ceilDiv cols t.blk)).map (fun i => (r, i * t.blk)))

/-! ### Elements in the own scratchpad -/

/-- Whether any of `n` bytes at scratchpad offset `o` of a core lies in a poisoned line. -/
def State.spadPoisoned (s : State) (c o n : Nat) : Bool :=
  s.poisoned (aSpad c o) || s.poisoned (aSpad c (o + n - 1))

/-- Bytes of the element at inner index `i`. -/
def elemSpan (f : Fmt) (i : Nat) : Nat × Nat :=
  (f.width * i / 8, (f.width * i % 8 + f.width + 7) / 8)

/-- The stored code of element (r, i) of a tensor in a core's scratchpad, and whether its line is poisoned. -/
def State.spadElem (s : State) (c : Nat) (t : Ten) (r i : Nat) : Nat × Bool :=
  let (o, n) := elemSpan t.f i
  let a := t.rowAddr r + o
  (s.rle (aSpad c a) n / 2 ^ (t.f.width * i % 8) % 2 ^ t.f.width, s.spadPoisoned c a n)

/-- The NaN code of a scale format, as a scale byte reads from a poisoned line (R71, R181). -/
def nanScale (sf : Nat) : Nat := if sf = 1 then 0xFF else 0x7F

/-- The scale byte of element (r, i) of a tensor in a core's scratchpad; the NaN scale from a poisoned line (R181). -/
def State.spadScale (s : State) (c : Nat) (t : Ten) (r i : Nat) : Nat :=
  let a := t.scaleAddr r i
  if s.poisoned (aSpad c a) then nanScale t.sf else (s.rb (aSpad c a)).toNat

/-- The value of an element under its scale (R70, R71) as an array or the vector unit reads it. Every non-finite code that is read counts under
NONFIN (R87), those of BF16 and FP16 too, which R72 does not name; and an element of a poisoned line in a block whose scale is 0 is 0
(R71) and not NaN (R181): DESIGN CHOICE, log entry 125. -/
def elemVal (t : Ten) (code : Nat) (poisoned : Bool) (scale : Nat) : Val × Tally :=
  let (v, k) := t.f.decode true code
  let v := if poisoned then .nan else v
  let k := if poisoned then {} else
    { k with nonfin := match v with
        | .fin _ _ => 0
        | _ => 1 }
  (if t.sf = 0 then v else v.scaled (scaleVal t.sf scale), k)

end Sys2Proof.Machine
end

