-- ==== Sys2Proof/Machine/Retire.lean ====
section
/-!
DEFINITION. Taking a unit out of service (R36, R54, R263, R264, R503, R527): the presence registers of the TOP page, retirement
records, the retirement map, and rows and frames of the stacks.
-/

namespace Sys2Proof.Machine

/-- A change of a presence register raises PRESENCE (R54, R608). -/
def State.presenceEvent (s : State) (kind id : Nat) : State := s.event pTop 0x0801 2 (kind + id * 2 ^ 32)

/-- A bit of a presence field clears; nothing happens where it is 0 already. -/
def State.clearPresent (s : State) (f : Fld) (b kind id : Nat) : State :=
  if bit (s.rg f pTop) b then (s.wr f pTop (clrBit (s.rg f pTop) b)).presenceEvent kind id else s

/-- Whether a quad may be assigned and used (R53). -/
def State.quadPresent (s : State) (q : Nat) : Bool := bit (s.rg (R.TOP_QUAD_PRESENT_PRESENT (q / 32)) pTop) (q % 32)

/-- The arrays of a core out of service: those retired, and those that FENCED shows, fenced by escalation among them (R36, R127, R481). -/
def State.arraysOut (s : State) (c : Nat) : List Nat :=
  (List.range 4).filter (fun a => s.isRetired 1 (4 * c + a) || bit (s.rg R.CORE_ARR_FENCE_FENCED (pCore c)) a)

/-- The cores that a retirement record of an array, or a FENCED bit, names. -/
def State.coresFenced (s : State) : List Nat :=
  ((s.log.image.retired.filter (fun e : (Nat × Nat) × Nat => decide (e.1.1 = 1))).map (fun e : (Nat × Nat) × Nat => e.1.2 / 4)
    ++ (s.regs.filter (fun e : (Nat × Nat) × Nat => decide (e.1.1 = R.CORE_ARR_FENCE_FENCED.id))).map
      (fun e : (Nat × Nat) × Nat => e.1.2 - pCore 0)).eraseDups

/-- ARRAY_FENCED.COUNT: the arrays out of service in cores that remain in service (R36, R53). -/
def State.arraysCount (s : State) : State :=
  let counts (c : Nat) : Bool := s.quadPresent (c / 4) && !(s.fencedP (pCore c)) && decide ((s.arraysOut c).length < 4)
  s.wr R.TOP_ARRAY_FENCED_COUNT pTop ((s.coresFenced.filter counts).map (fun c => (s.arraysOut c).length)).sum

/-- A quad leaves QUAD_PRESENT, and with it its cores leave the count of fenced arrays. -/
def State.clearQuad (s : State) (q : Nat) : State :=
  (s.clearPresent (R.TOP_QUAD_PRESENT_PRESENT (q / 32)) (q % 32) 2 q).arraysCount

/-- A cluster leaves CLU_PRESENT. -/
def State.clearCluster (s : State) (n : Nat) : State := s.clearPresent R.TOP_CLU_PRESENT_PRESENT n 3 n

/-- A stack leaves MEM_PORT_PRESENT; named as another unit by its page index (R503). -/
def State.clearMem (s : State) (m : Nat) : State := s.clearPresent R.TOP_MEM_PORT_PRESENT_MEM m 9 (pMem m)

/-- A port leaves MEM_PORT_PRESENT. -/
def State.clearPort (s : State) (p : Nat) : State := s.clearPresent R.TOP_MEM_PORT_PRESENT_PORT p 9 (pLnk p)

/-- An entry of a bank of the retirement map: KIND, ID and CLEARED; KIND 0 for an entry not in use (R527). -/
def State.rmapAt (s : State) (bank i : Nat) : Nat × Nat × Bool := NMap.get (0, 0, false) s.log.rmap (bank * 16384 + i)

/-- Replace an entry of the retirement map. -/
def State.rmapPut (s : State) (bank i : Nat) (e : Nat × Nat × Bool) : State :=
  { s with log := { s.log with rmap := NMap.put (bank * 16384 + i) e s.log.rmap } }

/-- The index at which a unit stands in a bank, among the listed entries. -/
def State.rmapFind (s : State) (bank kind id : Nat) : Option Nat :=
  (s.log.rmap.find? (fun e => decide (e.1 / 16384 = bank) && decide (e.2.1 = kind) && decide (e.2.2.1 = id))).map
    (fun e => e.1 % 16384)

/-- The lowest entry of a bank that is not in use. -/
def State.rmapSpace (s : State) (bank : Nat) : Option Nat :=
  (List.range 16384).find? (fun i => decide ((s.rmapAt bank i).1 = 0))

/-- Insert a retirement into one bank, clearing CLEARED where the unit is listed (R527). -/
def State.rmapInsert1 (s : State) (bank kind id : Nat) : State :=
  match s.rmapFind bank kind id with
  | some i => s.rmapPut bank i (kind, id, false)
  | none =>
    match s.rmapSpace bank with
    | some i => s.rmapPut bank i (kind, id, false)
    | none => s

/-- Insert a retirement into both banks at once; a full map is recorded (R527). -/
def State.rmapInsert (s : State) (kind id : Nat) : State :=
  let known := (s.rmapFind 0 kind id).isSome
  if known then (s.rmapInsert1 0 kind id).rmapInsert1 1 kind id
  else if s.rg R.LOG_RMAP_COUNT_COUNT pLog ≥ 16384 then
    (s.wr R.LOG_RMAP_COUNT_FULL pLog 1).raise pLog Er.LOG_RMAP_FULL
  else
    let s := (s.rmapInsert1 0 kind id).rmapInsert1 1 kind id
    s.wr R.LOG_RMAP_COUNT_COUNT pLog (s.rg R.LOG_RMAP_COUNT_COUNT pLog + 1)

/-- Retire a unit (R502, R503, R527): the state record, the retirement in force, and the map, which lists all but rows. -/
def State.retireUnit (s : State) (kind id cause : Nat) : State :=
  let s := s.logStateRec 0x0110 (leBytes 4 kind ++ leBytes 4 id ++ leBytes 2 cause)
  let s := { s with log := { s.log with image := s.log.image.retire kind id cause } }
  if kind = 5 then s else s.rmapInsert kind id

/-- A quad is retired (R36): its bit in QUAD_PRESENT clears and the retirement is recorded. -/
def State.retireQuad (s : State) (q cause : Nat) : State := (s.clearQuad q).retireUnit 2 q cause

/-! ### Rows and frames (R262–R264) -/

/-- A frame of either tier as one number: tier × 2^23 + FRAME (R252). -/
def frameKey (tier frame : Nat) : Nat := tier * 2 ^ 23 + frame

/-- The VPNs that a bank of a function's translation maps, with their entries. -/
def State.bankEntries (s : State) (fn bank : Nat) : List (Nat × Nat) :=
  let len := s.rg (if bank = 0 then R.HIF_XLT_LEN0_LEN else R.HIF_XLT_LEN1_LEN) (pHif fn)
  (List.range len).filterMap (fun v =>
    match s.xltEntryAddr fn bank v with
    | some o => if xltValid (s.hbm8 o) then some (v, s.hbm8 o) else none
    | none => none)

/-- The frame that an entry names. -/
def entryFrame (e : Nat) : Nat := frameKey (b2n (bit e 4)) (bits e 38 16)

/-- A function and a VPN that map a frame in either bank. -/
def State.mappedBy (s : State) (key : Nat) : Option (Nat × Nat) :=
  ((List.range 256).flatMap (fun fn =>
    ((s.bankEntries fn 0 ++ s.bankEntries fn 1).filter (fun e => decide (entryFrame e.2 = key))).map (fun e => (fn, e.1)))).head?

/-- Row within its stack of the line at an HBM offset: the controller's mapping. -/
def rowOf (o : Nat) : Nat := Config.memRow (o % 2 ^ 36 / 64) % 2 ^ 26

/-- The frame that holds a failing row is retired as a whole (R264). -/
def State.frameRetire (s : State) (o : Nat) : State :=
  let m := stackOf o
  let p := pMem m
  let f := o / 2 ^ 21
  let n := s.rg R.MEM_RETIRE_STATUS_FRAMES p
  if s.hbm.retiredFrames.any (fun e => decide (e.1 = f)) then s
  else if n ≥ 1024 then
    if NMap.get false s.hbm.exhausted m then s
    else { s with hbm := { s.hbm with exhausted := NMap.put m true s.hbm.exhausted } }.raise p Er.MEM_RETIRE_EXHAUSTED
  else
    let s := (s.wr R.MEM_RETIRE_STATUS_FRAMES p (n + 1)).retireUnit 6 f 0
    match s.mappedBy f with
    | none => { s with hbm := { s.hbm with retiredFrames := NMap.put f true s.hbm.retiredFrames } }
    | some (fn, vpn) =>
      { s with hbm := { s.hbm with retiredFrames := NMap.put f false s.hbm.retiredFrames } }.raise p Er.MEM_FRAME_RETIRE
        (f + fn * 2 ^ 18 + vpn * 2 ^ 26)

/-- The row of the line at an HBM offset is retired to a spare row, its 16 lines copied (R253, R263), or its frame once the stack has no spare
(R264). -/
def State.rowRetire (s : State) (o : Nat) : State :=
  let m := stackOf o
  let p := pMem m
  let n := s.rg R.MEM_RETIRE_STATUS_ROWS p
  if n < 4096 then
    let s := { s with hbm := { s.hbm with rows := NMap.put (m * 2 ^ 26 + rowOf o) (n + 1) s.hbm.rows } }
    let s := (s.cnt p Cn.MEM_RD_BYTES 1024).cnt p Cn.MEM_WR_BYTES 1024
    ((s.wr R.MEM_RETIRE_STATUS_ROWS p (n + 1)).retireUnit 5 (m * 2 ^ 29 + rowOf o) 0).raise p Er.MEM_ROW_RETIRE
  else s.frameRetire o

/-- Retired frames that no function maps any more leave service (R264). -/
def State.framesLeave (s : State) : State :=
  { s with hbm := { s.hbm with retiredFrames := s.hbm.retiredFrames.map (fun e => (e.1, e.2 || (s.mappedBy e.1).isNone)) } }

end Sys2Proof.Machine
end

