-- ==== Sys2Proof/Machine/Flags.lean ====
section
/-!
DEFINITION. Counted events: how the events of number handling and accumulation (`Tally`) reach the counters of a core's page
(R87, R130), its step counters (R127) and the step machine (R231), and how errors that the check bits of a store detect are recorded
(R122, R172, R181, R187, R259).
-/

namespace Sys2Proof.Machine

/-- Count events on a core's page. -/
def State.tally (s : State) (c : Nat) (t : Tally) : State :=
  let p := pCore c
  let s := s.stepTally (s.quadFn (c / 4)) t.sat t.nonfin
  let s := ((((((s.cnt p Cn.CORE_SAT t.sat).cnt p Cn.CORE_NONFIN t.nonfin).cnt p Cn.CORE_FLUSH t.flush).cnt p
    Cn.CORE_SCALE_CLAMP t.clamp).cnt p Cn.CORE_TERN_BAD t.ternBad).cnt p Cn.CORE_SCALE_NAN t.scaleNan).cnt p
    Cn.CORE_SR_DRAW t.draw
  let s := ((((s.cnt p Cn.CORE_ACC_BW t.bw).cnt p Cn.CORE_ACC_RA t.ra).cnt p Cn.CORE_ACC_OVF t.ovf).cnt p
    Cn.CORE_ACC_NF t.nf).cnt p Cn.CORE_REANCHOR t.reanchor
  let bump (f : Fld) (n : Nat) (s : State) : State := if n = 0 then s else s.incSat f p n
  bump R.CORE_ACC_STEP_NF_COUNT t.nf (bump R.CORE_ACC_STEP_OVF_COUNT t.ovf
    (bump R.CORE_ACC_STEP_RA_COUNT t.ra (bump R.CORE_ACC_STEP_BW_COUNT t.bw s)))

/-! ### Registers of a core (R135) -/

/-- Key of V register `r`, lane `i`, among the registers that a loss leaves undefined. -/
def vKey (r i : Nat) : Nat := 64 + 64 * r + i

/-- S register: S0 reads 0. -/
def Core.rdS (x : Core) (r : Nat) : Nat :=
  if r = 0 then 0
  else (NMap.get (if x.fill = 0 then 0 else BitVec.ofNat 64 (Config.freeReg x.fill r)) x.s r).toNat

/-- Write an S register: S0 ignores writes. -/
def Core.wrS (x : Core) (r v : Nat) : Core :=
  if r = 0 then x else { x with s := NMap.put r (BitVec.ofNat 64 v) x.s }

/-- Lane `i` of a V register. -/
def Core.rdV (x : Core) (r i : Nat) : Nat :=
  (PMap.get (if x.fill = 0 then 0 else BitVec.ofNat 32 (Config.freeReg x.fill (vKey r i))) x.v (r, i)).toNat

/-- Write lane `i` of a V register. -/
def Core.wrV (x : Core) (r i v : Nat) : Core := { x with v := PMap.put (r, i) (BitVec.ofNat 32 v) x.v }

/-- P register: P0 reads all ones. -/
def Core.rdP (x : Core) (r : Nat) : Nat :=
  if r = 0 then 2 ^ 64 - 1
  else (NMap.get (if x.fill = 0 then 0 else BitVec.ofNat 64 (Config.freeReg x.fill (4096 + r))) x.p r).toNat

/-- Write a P register: P0 ignores writes. -/
def Core.wrP (x : Core) (r v : Nat) : Core :=
  if r = 0 then x else { x with p := NMap.put r (BitVec.ofNat 64 v) x.p }

/-- T register. -/
def Core.rdT (x : Core) (r : Nat) : Ten := Ten.ofBits (NMap.get 0 x.t r)

/-- Write a T register. -/
def Core.wrT (x : Core) (r : Nat) (t : Ten) : Core := { x with t := NMap.put r t.toBits x.t }

/-- Key of accumulator entry (m, n) of a bank. -/
def accKey (bank m n : Nat) : Nat := 4096 * bank + 64 * m + n

/-- An entry whose content is undefined but carries valid check bits (R101). -/
def Ewa.undefined (n : Nat) : Ewa :=
  ⟨((n % (2 ^ 63 - 1) : Nat) : Int) - (2 ^ 62 - 1), n / 2 ^ 64 % 512, bit n 73,
   match bits n 75 74 with
   | 0 => .fin
   | 1 => .pinf
   | 2 => .ninf
   | _ => .nan, bit n 76⟩

/-- Accumulator entry (m, n) of a bank. -/
def Core.rdA (x : Core) (bank m n : Nat) : Ewa :=
  let d := NMap.get 0 x.accFill bank
  NMap.get (if d = 0 then Ewa.clear else Ewa.undefined (Config.freeReg d (8192 + accKey bank m n))) x.acc (accKey bank m n)

/-- Write an accumulator entry; the bank counts as written since the kernel began (R169). -/
def Core.wrA (x : Core) (bank m n : Nat) (e : Ewa) : Core :=
  { x with acc := NMap.put (accKey bank m n) e x.acc, dirtyBanks := setBit x.dirtyBanks bank }

/-- Forget what is listed of a bank: every entry reads as `fill` says from now on. -/
def Core.dropBank (x : Core) (bank fill : Nat) : Core :=
  { x with acc := x.acc.filter (fun e => decide (e.1 / 4096 ≠ bank)), accFill := NMap.put bank fill x.accFill }

/-- Banks lose their contents (R101, R121). -/
def State.loseBanks (s : State) (c : Nat) (banks : Nat) : State :=
  let x := s.core c
  let x := (onesBelow 8 banks).foldl (fun x b => x.dropBank b (s.free + 1)) x
  { s.setCore c x with free := s.free + 1 }

/-- Generator state of a lane. -/
def Core.rngState (x : Core) (lane : Nat) : Nat := NMap.get 0 x.rng lane
/-- Tap mask of a lane. -/
def Core.rngTap (x : Core) (lane : Nat) : Nat := NMap.get 0 x.tap lane

/-- One draw from a lane's generator (R158): the output, and the core with the state advanced. -/
def Core.draw (x : Core) (lane : Nat) : Nat × Core :=
  let (st, y) := rngDraw (x.rngState lane) (x.rngTap lane)
  (y, { x with rng := NMap.put lane st x.rng })

/-- CRC-32C over the lane states as RNGST lays them out (R171, RNG_DIGEST). -/
def Core.rngDigest (x : Core) : Nat :=
  crc32c ((List.range 64).flatMap (fun i => leBytes 8 (x.rngState i)))

/-- A norm watch slot. -/
def Core.nwSlot (x : Core) (k : Nat) : NwSlot := NMap.get NwSlot.clear x.nw k

/-- Replace a norm watch slot. -/
def Core.setNw (x : Core) (k : Nat) (v : NwSlot) : Core := { x with nw := NMap.put k v x.nw }

/-! ### Detected errors -/

/-- Note an error of a scratchpad line in SPAD_ERR: an uncorrectable error overwrites a corrected one, not the reverse
(R205). -/
def State.noteSpadErr (s : State) (c line : Nat) (ue : Bool) : State :=
  let p := pCore c
  if ue = false ∧ s.flag R.CORE_SPAD_ERR_VALID p = true ∧ s.flag R.CORE_SPAD_ERR_UE p = true then s
  else ((s.wr R.CORE_SPAD_ERR_VALID p 1).wrB R.CORE_SPAD_ERR_UE p ue).wr R.CORE_SPAD_ERR_LINE p line

/-- Note an error of a cluster-memory line in CLMEM_ERR (R208). -/
def State.noteClmemErr (s : State) (n line : Nat) (ue : Bool) : State :=
  let p := pClu n
  if ue = false ∧ s.flag R.CLU_CLMEM_ERR_VALID p = true ∧ s.flag R.CLU_CLMEM_ERR_UE p = true then s
  else ((s.wr R.CLU_CLMEM_ERR_VALID p 1).wrB R.CLU_CLMEM_ERR_UE p ue).wr R.CLU_CLMEM_ERR_LINE p line

/-- Note an error of a stack's line in ECC_ERR (R259, R279): its page within the stack (R252) and line offset; an uncorrectable error is not
overwritten by a corrected one. -/
def State.noteHbmErr (s : State) (o : Nat) (ue : Bool) : State :=
  let p := pMem (stackOf o)
  if ue = false ∧ s.flag R.MEM_ECC_ERR_VALID p = true ∧ s.flag R.MEM_ECC_ERR_UE p = true then s
  else (((s.wr R.MEM_ECC_ERR_VALID p 1).wrB R.MEM_ECC_ERR_UE p ue).wr R.MEM_ECC_ERR_PAGE p (o % 2 ^ 36 / 2 ^ 21)).wr
    R.MEM_ECC_ERR_OFFSET p (o % 2 ^ 21 / 64)

/-- Record one detected error. `c` is the core that the command runs on, for errors of its own stores. -/
def State.upset (s : State) (c : Nat) : Upset → State
  | .spadCe k l => ((s.cnt (pCore k) Cn.CORE_SPAD_CE).noteSpadErr k l false).raiseCore k Er.CORE_SPAD_CE
  | .spadUe k l => ((s.setPoison (aSpad k (64 * l)) true).noteSpadErr k l true).raiseCore k Er.CORE_SPAD_UE
  | .clmemCe n l => ((s.cnt (pClu n) Cn.CLU_CLMEM_CE).noteClmemErr n l false).raiseAt (pClu n) Er.CLU_CLMEM_CE 0 false true (64 * l)
  | .clmemUe n l =>
    ((s.setPoison (aClmem n (64 * l)) true).noteClmemErr n l true).raiseAt (pClu n) Er.CLU_CLMEM_UE 0 false true (64 * l)
  | .accCe _ _ _ => (s.cnt (pCore c) Cn.CORE_ACC_CE).raiseCore c Er.CORE_ACC_CE
  | .accUe b m n =>
    let x := s.core c
    let e := x.rdA b m n
    let s := s.setCore c (x.wrA b m n { e with nf := .nan, loss := true })
    ((s.tally c { nf := b2n (e.nf == .fin) }).cnt (pCore c) Cn.CORE_ACC_UE).raiseCore c Er.CORE_ACC_UE
  | .vregCe => s.raiseCore c Er.CORE_VREG_CE
  | .vregUe r i => (s.setCore c ((s.core c).wrV r i 0x7FC00000)).raiseCore c Er.CORE_VREG_UE
  | .ifetchCe => s.raiseCore c Er.CORE_IFETCH_CE
  | .ifetchUe => s.raiseCore c Er.CORE_IFETCH_UE
  | .bbufPar _ => (s.cnt (pCore c) Cn.CORE_BBUF_PAR).raiseCore c Er.CORE_BBUF_PAR
  | .bbufFail _ _ _ _ _ => s
  | .feedPar _ => (s.cnt (pCore c) Cn.CORE_FEED_LINES).raiseCore c Er.CORE_FEED_PAR
  | .feedFail _ _ _ _ => s
  | .hbmCe o =>
    let m := stackOf o
    (((s.cnt (pMem m) Cn.MEM_ECC_CE).cnt (pMem m) Cn.MEM_WR_BYTES 64).noteHbmErr o false).raiseAt (pMem m) Er.MEM_ECC_CE 0 false true o
  | .hbmUe o =>
    let m := stackOf o
    ((((s.setPoison (aHbm o) true).cnt (pMem m) Cn.MEM_ECC_UE).noteHbmErr o true).raiseAt (pMem m) Er.MEM_ECC_UE 0 false true o).rowRetire o
  | .farPoison o => ((s.setPoison (aFar o) true).cnt pFar Cn.FAR_FAR_FAIL).raiseAt pFar Er.FAR_FAR_POISON 0 false true o
  | .farTimeoutRd o => ((s.setPoison (aFar o) true).cnt pFar Cn.FAR_FAR_FAIL).raiseAt pFar Er.FAR_FAR_TIMEOUT 0 false true o
  | .farTimeoutWr o => (s.cnt pFar Cn.FAR_FAR_FAIL).raiseAt pFar Er.FAR_FAR_TIMEOUT 0 false true o

/-- Whether an error is an uncorrectable one of an accumulator entry, which is met as the instruction reads its bank (R122). -/
def upsetOfBank : Upset → Bool
  | .accUe _ _ _ => true
  | _ => false

/-- After the command: a line that a read timed out on is poisoned for that read alone, and whether a write that timed out
took effect is unknown (R267). `s0` is the state before the command. -/
def State.upsetAfter (s0 s : State) : Upset → State
  | .farTimeoutRd o => s.setPoison (aFar o) (s0.poisoned (aFar o))
  | .farTimeoutWr o => s.lose (aFar (o / 64 * 64)) (aFar (o / 64 * 64 + 64))
  | _ => s

/-- The ends of the errors of a command. -/
def State.upsetsAfter (s0 s : State) (l : List Upset) : State := l.foldl (fun s u => s0.upsetAfter s u) s

/-- Whether a write of the command timed out in the far tier. -/
def wrTimeout (l : List Upset) : Bool := l.any (fun u => match u with
  | .farTimeoutWr _ => true
  | _ => false)

/-- Whether a read of the command timed out in the far tier. -/
def rdTimeout (l : List Upset) : Bool := l.any (fun u => match u with
  | .farTimeoutRd _ => true
  | _ => false)

/-- Record the errors that a command met. -/
def State.upsets (s : State) (c : Nat) (l : List Upset) : State := l.foldl (fun s u => s.upset c u) s

/-- The uncorrectable errors of accumulator entries that an instruction meets as it reads them, its bank standing as the instructions before
it left it (R122). -/
def State.bankUpsets (s : State) (c : Nat) (l : List Upset) : State := s.upsets c (l.filter upsetOfBank)

end Sys2Proof.Machine
end

