-- ==== Sys2Proof/Machine/Arrays.lean ====
section
/-!
DEFINITION. The arrays of a core: which of them run known-answer tests (R124–R127), the values of an MMA's operands and their counts
(R70–R72, R96, R104), the weight registers and feeder queues that hold them (R92, R182–R185), and the contribution of every slice
to every output, in the canonical order and up to any slice boundary (R94–R98, R112–R116, R120), with what soft errors of the
arrays do (R123, R184).
-/

namespace Sys2Proof.Machine

/-! ### Known-answer tests (R123–R127) -/

/-- The pattern that an array is to run next. -/
def Kat.at (k : Kat) (a : Nat) : Nat := bits k.pattern (8 * a + 7) (8 * a)

/-- The live arrays of a core. -/
def State.live (s : State) (c : Nat) : List Nat := onesBelow 4 (s.rg R.CORE_ARR_STATUS_LIVE (pCore c))

/-- The arrays of a core for which its running MMA names a group (R112, R124). -/
def State.mmaArrays (s : State) (c : Nat) : List Nat :=
  match (s.core c).mma with
  | none => []
  | some r => (s.live c).take (ceilDiv (r.x.n1 + 1) 64)

/-- The arrays of a core that run a test show in KAT_ACTIVE and SELFTEST_ACTIVE: those under test for which no running MMA names a group (R124,
R125). With none left of those that were asked for, REQ reads 0 (R127). -/
def State.katShow (s : State) (c : Nat) : State :=
  let p := pCore c
  let k := (s.core c).kat
  let runs := maskOf 4 (fun a => bit k.todo a && !((s.mmaArrays c).contains a))
  let s := (s.wr R.CORE_ARR_STATUS_KAT_ACTIVE p runs).wrB R.HDR_STATUS_SELFTEST_ACTIVE p (decide (runs ≠ 0))
  if k.active = 0 then s.wr R.CORE_KAT_CTRL_REQ p 0 else s

/-- Replace the self-test state of a core. -/
def State.setKat (s : State) (c : Nat) (k : Kat) : State := (s.setCore c { s.core c with kat := k }).katShow c

/-- Start a run of every pattern from `first` on the arrays of `mask` that are live; `asked` when KAT_CTRL.REQ asks for it. -/
def State.katStart (s : State) (c first mask : Nat) (asked : Bool) : State :=
  let k := (s.core c).kat
  let arrays := (onesBelow 4 mask).filter (bit (s.rg R.CORE_ARR_STATUS_LIVE (pCore c)))
  let clear (m : Nat) : Nat := arrays.foldl clrBit m
  let pat := arrays.foldl (fun p a => putBits p (8 * a + 7) (8 * a) first) k.pattern
  let todo := arrays.foldl setBit k.todo
  let k := { k with failedOnce := clear k.failedOnce, due := clear k.due, parity := clear k.parity, redo := clear k.redo }
  (s.setKat c { k with pattern := pat, todo := todo, active := if asked then arrays.foldl setBit k.active else k.active }).wr
    R.CORE_KAT_STATUS_YIELDS (pCore c) 0

/-- Whether a test may start on a core (R124, R495, R496). -/
def State.katAllowed (s : State) (c : Nat) : Bool :=
  let p := pCore c
  s.flag R.HDR_CTRL_SELFTEST_ALLOW p && !(s.quiescing p) && !(s.fencedP p) && !(s.testBarred p) && !((s.testRec 0 p).suspended)

/-- The arrays that a failed weight register has scheduled for a test start it, every pattern of it, where one may start (R123). -/
def State.katDue (s : State) (c : Nat) : State :=
  let k := (s.core c).kat
  if k.due = 0 ∨ s.katAllowed c = false then s
  else
    let s := s.katStart c 0 k.due false
    s.setCore c { s.core c with kat := { (s.core c).kat with parity := (s.core c).kat.parity ||| k.due } }

/-- A test of an array is over, whatever its outcome. -/
def State.katOver (s : State) (c a : Nat) : State :=
  let k := (s.core c).kat
  s.setKat c { k with todo := clrBit k.todo a, active := clrBit k.active a, failedOnce := clrBit k.failedOnce a }

/-! ### Operands -/

/-- The value of element (r, i) of an operand in the own scratchpad under its scale; NaN from a poisoned line (R70, R181). -/
def State.opVal (s : State) (c : Nat) (t : Ten) (r i : Nat) : Val :=
  let (code, p) := s.spadElem c t r i
  (elemVal t code p (if t.sf = 0 then 0 else s.spadScale c t r i)).1

/-- Whether element (r, i) is the first of its block (R73). -/
def Ten.opens (t : Ten) (r i : Nat) : Bool := if t.outer then r % t.dim1 % t.blk == 0 else i % t.blk == 0

/-- What is counted as an element is read for the first time, and its block's scale with the block's first element (R71, R72,
R87). -/
def State.cellTally (s : State) (c : Nat) (t : Ten) (r i : Nat) : Tally :=
  let (code, p) := s.spadElem c t r i
  let e := (elemVal t code p 0).2
  if t.sf ≠ 0 ∧ t.opens r i = true then { e with scaleNan := b2n (scaleVal t.sf (s.spadScale c t r i)).isNone } else e

/-- One pass of a product: the operands' values, and the signs with which it enters the real and the imaginary part
(0: it does not). -/
structure Pass where
  a : Nat → Nat → Val
  b : Nat → Nat → Val
  re : Int
  im : Int

/-- The sign of a pass in the real or the imaginary part. -/
def Pass.sign (p : Pass) (im : Bool) : Int := if im then p.im else p.re

/-- The contribution of slice `i` of a pass to output (m, n) (R96, R104). -/
def Pass.slice (p : Pass) (kdim i m n : Nat) : Val :=
  (List.range (min 8 (kdim - 8 * i))).foldl
    (fun acc j => acc.add ((p.a m (8 * i + j)).mul (p.b (8 * i + j) n))) (.fin false 0)

/-- A contribution under a sign. -/
def Val.signed (v : Val) (sg : Int) : Val := if sg < 0 then v.negate else v

/-- The contributions to one output in canonical order (R97): pass by pass, slice by slice. -/
def contributions (ps : List Pass) (im : Bool) (kdim m n : Nat) : List Val :=
  (ps.filter (fun p => p.sign im != 0)).flatMap (fun p =>
    (List.range (ceilDiv kdim 8)).map (fun i => (p.slice kdim i m n).signed (p.sign im)))

/-- The product passes of an MMA by KIND (R114, R115): real, complex 4-pass, complex 3-pass. -/
def passes (kind : Nat) (ar ai br bi : Nat → Nat → Val) : List Pass :=
  match kind with
  | 0 => [⟨ar, br, 1, 0⟩]
  | 1 => [⟨ar, br, 1, 0⟩, ⟨ai, bi, -1, 0⟩, ⟨ar, bi, 0, 1⟩, ⟨ai, br, 0, 1⟩]
  | _ => [⟨ar, br, 1, -1⟩, ⟨ai, bi, -1, -1⟩,
          ⟨fun m i => (ar m i).add (ai m i), fun i n => (br i n).add (bi i n), 0, 1⟩]

/-- Add contributions in order. -/
def Ewa.addAll (e : Ewa) (l : List Val) : Ewa × Tally :=
  l.foldl (fun p v =>
    let (e, t) := p.1.addVal v
    (e, p.2.add t)) (e, {})

/-! ### The order of slices (R97, R112, R120) -/

/-- The descriptor of a T register's contents in a run. -/
def MmaRun.ar (r : MmaRun) : Ten := Ten.ofBits r.ta
/-- Imaginary A operand. -/
def MmaRun.ai (r : MmaRun) : Ten := Ten.ofBits r.tai
/-- Real B operand. -/
def MmaRun.br (r : MmaRun) : Ten := Ten.ofBits r.tb
/-- Imaginary B operand. -/
def MmaRun.bi (r : MmaRun) : Ten := Ten.ofBits r.tbi

/-- Column groups (R95). -/
def MmaRun.groups (r : MmaRun) : Nat := ceilDiv (r.x.n1 + 1) 64
/-- Slices of one fold pass (R96). -/
def MmaRun.slices (r : MmaRun) : Nat := ceilDiv r.ar.dim0 8
/-- Fold passes of one product pass (R112). -/
def MmaRun.folds (r : MmaRun) : Nat := ceilDiv r.groups r.per
/-- Slices of one product pass, through its fold passes. -/
def MmaRun.stride (r : MmaRun) : Nat := r.folds * r.slices
/-- Product passes (R114). -/
def MmaRun.passCount (r : MmaRun) : Nat := match r.x.kind with
  | 0 => 1
  | 1 => 4
  | _ => 3
/-- Every slice of the MMA. -/
def MmaRun.total (r : MmaRun) : Nat := r.passCount * r.stride
/-- The first slice of column group `g` in a product pass. -/
def MmaRun.groupAt (r : MmaRun) (g : Nat) : Nat := g / r.per * r.slices

/-- The bank of column group `g` (R95, R114). -/
def groupBank (a g : Nat) (im : Bool) : Nat := a + b2n im + 2 * g

/-- The banks that an MMA writes, as a mask. -/
def MmaRun.banks (r : MmaRun) : Nat :=
  (List.range r.groups).foldl (fun b i =>
    let b := setBit b (groupBank r.x.bank i false)
    if r.x.kind ≠ 0 then setBit b (groupBank r.x.bank i true) else b) 0

/-- The banks that a running MMA writes. -/
def Core.mmaBanks (k : Core) : Nat := match k.mma with
  | none => 0
  | some r => r.banks

/-- The contributions to an output whose slices are numbered from `lo` to below `hi`, each with its number; `first` numbers the output's first
slice of pass 0, and each further pass comes `stride` later. -/
def numberedIn (ps : List Pass) (im : Bool) (kdim stride first lo hi m n : Nat) : List (Nat × Val) :=
  (ps.zipIdx.filter (fun e => e.1.sign im != 0)).flatMap (fun e =>
    ((List.range (ceilDiv kdim 8)).filter (fun i =>
      decide (lo ≤ e.2 * stride + first + i) && decide (e.2 * stride + first + i < hi))).map (fun i =>
        (e.2 * stride + first + i, (e.1.slice kdim i m n).signed (e.1.sign im))))

/-- The contributions alone. -/
def contributionsIn (ps : List Pass) (im : Bool) (kdim stride first lo hi m n : Nat) : List Val :=
  (numberedIn ps im kdim stride first lo hi m n).map (fun e => e.2)

/-- Whether the first contribution of one part of an output lies among the slices from `lo` to below `hi`. -/
def opensIn (ps : List Pass) (im : Bool) (stride first lo hi : Nat) : Bool :=
  let n := ps.findIdx (fun p => p.sign im != 0) * stride + first
  decide (lo ≤ n) && decide (n < hi)

/-- An entry that a soft error leaves non-finite: it counts under ACC_NF where it was finite (R103, R122, R123). -/
def Ewa.spoil (e : Ewa) (loss : Bool) : Ewa × Tally := ({ e with nf := .nan, loss := e.loss || loss }, { nf := b2n (e.nf == .fin) })

/-- Whether the step that contributes slice `n` to rows `m` of column group `g` fails again when it is repeated (R123, R184). -/
def MmaRun.stepLost (r : MmaRun) (g m n : Nat) : Bool := r.x.ups.any (fun u => match u with
  | .bbufFail _ g' rows pass slice => decide (g' = g) && decide (rows = m / 8) && decide (pass * r.stride + r.groupAt g + slice = n)
  | .feedFail g' rows pass slice => decide (g' = g) && decide (rows = m / 8) && decide (pass * r.stride + r.groupAt g + slice = n)
  | _ => false)

/-- Add numbered contributions in order; the outputs of a step that is lost become NaN in place of its contribution. -/
def MmaRun.addSteps (r : MmaRun) (g m : Nat) (e : Ewa) (l : List (Nat × Val)) : Ewa × Tally :=
  l.foldl (fun p v =>
    let (e, t) := if r.stepLost g m v.1 then p.1.spoil false else p.1.addVal v.2
    (e, p.2.add t)) (e, {})

/-- The slices of a run from its progress up to `hi` enter one part of the product: rows and columns of the MMA alone (R95). With START = 1
an entry is cleared before its first contribution (R101). An uncorrectable error of an entry is met before its first contribution, the
clearing being done (R122; log entry 134). -/
def Core.product (k : Core) (r : MmaRun) (ps : List Pass) (im : Bool) (hi : Nat) : Core × Tally :=
  ((List.range (r.x.m1 + 1)).flatMap (fun m => (List.range (r.x.n1 + 1)).map (fun n => (m, n)))).foldl
    (fun (p : Core × Tally) mn =>
      let g := mn.2 / 64
      let first := r.groupAt g
      match numberedIn ps im r.ar.dim0 r.stride first r.done hi mn.1 mn.2 with
      | [] => p
      | vs =>
        let bank := groupBank r.x.bank g im
        let e := if r.x.start && opensIn ps im r.stride first r.done hi then Ewa.clear else p.1.rdA bank mn.1 (mn.2 % 64)
        let (e, t) := if opensIn ps im r.stride first r.done hi = true ∧ r.x.ups.contains (.accUe bank mn.1 (mn.2 % 64)) then e.spoil true else (e, {})
        let (e, u) := r.addSteps g mn.1 e vs
        (p.1.wrA bank mn.1 (mn.2 % 64) e, (p.2.add t).add u)) (k, {})

/-- What is counted for the elements that a run reads for the first time in its slices up to `hi`: A once, in the first fold pass of the
first product pass that reads it, and B in that of its column group (R71, R72, R87). -/
def State.opTally (s : State) (c : Nat) (r : MmaRun) (hi : Nat) : Tally :=
  let reads (n : Nat) : Bool := decide (r.done ≤ n) && decide (n < hi)
  let a (t : Ten) (pass : Nat) : List Tally := (List.range (r.x.m1 + 1)).flatMap (fun m =>
    ((List.range r.ar.dim0).filter (fun i => reads (pass * r.stride + i / 8))).map (fun i => s.cellTally c t m i))
  let b (t : Ten) (pass : Nat) : List Tally := (List.range r.ar.dim0).flatMap (fun i =>
    ((List.range (r.x.n1 + 1)).filter (fun n => reads (pass * r.stride + r.groupAt (n / 64) + i / 8))).map (fun n =>
      s.cellTally c t i n))
  (a r.ar 0 ++ b r.br 0 ++ (if r.x.kind = 0 then [] else a r.ai 1 ++ b r.bi 1)).foldl Tally.add {}

/-! ### Soft errors of the arrays (R123, R184) -/

/-- The number of the slice whose step an error fails, and its array where a weight register failed. -/
def MmaRun.failsAt (r : MmaRun) : Upset → Option (Nat × Option Nat)
  | .bbufFail array g _ pass slice => some (pass * r.stride + r.groupAt g + slice, some array)
  | .feedFail g _ pass slice => some (pass * r.stride + r.groupAt g + slice, none)
  | _ => none

/-- Steps among the slices from a run's progress to below `hi` that failed again after their weight register was reloaded or their feeder entry
fetched anew are recorded (R123, R184): a weight register's array is scheduled for a known-answer test, and the line fetched anew
counts (R207). -/
def State.stepFails (s : State) (c : Nat) (r : MmaRun) (hi : Nat) : State :=
  r.x.ups.foldl (fun s u =>
    match r.failsAt u with
    | some (n, from_) =>
      if n < r.done ∨ hi ≤ n then s
      else
        match from_ with
        | some array =>
          let s := ((s.cnt (pCore c) Cn.CORE_BBUF_PAR).raiseCore c Er.CORE_BBUF_PAR).raiseCore c Er.CORE_BBUF_FAIL
          let k := s.core c
          s.setCore c { k with kat := { k.kat with due := setBit k.kat.due array } }
        | none => (s.cnt (pCore c) Cn.CORE_FEED_LINES).raiseCore c Er.CORE_FEED_PAR
    | none => s) s

/-- Accumulator errors that an MMA meets, counted and recorded (R122): what they do to the entry stands in `Core.product`, and an entry that
the MMA does not write is spoiled where it stands. -/
def State.mmaBankUpsets (s : State) (c : Nat) (r : MmaRun) : State :=
  (r.x.ups.filter upsetOfBank).foldl (fun s u =>
    match u with
    | .accUe b m n =>
      let written := (List.range r.groups).any (fun g =>
        (decide (b = groupBank r.x.bank g false) || (decide (r.x.kind ≠ 0) && decide (b = groupBank r.x.bank g true)))
          && decide (m ≤ r.x.m1) && decide (64 * g + n ≤ r.x.n1))
      if written then (s.cnt (pCore c) Cn.CORE_ACC_UE).raiseCore c Er.CORE_ACC_UE else s.upset c u
    | _ => s) s

/-! ### Lines that an MMA reads (R183, R185, R207) -/

/-- The A operands that product pass `p` reads (R114). -/
def MmaRun.aOf (r : MmaRun) (p : Nat) : List Ten :=
  if r.x.kind = 0 then [r.ar]
  else if r.x.kind = 1 then (if p % 2 = 0 then [r.ar] else [r.ai])
  else if p = 0 then [r.ar] else if p = 1 then [r.ai] else [r.ar, r.ai]

/-- The B operands that product pass `p` reads. -/
def MmaRun.bOf (r : MmaRun) (p : Nat) : List Ten :=
  if r.x.kind = 0 then [r.br]
  else if r.x.kind = 1 then (if p = 0 ∨ p = 3 then [r.br] else [r.bi])
  else if p = 0 then [r.br] else if p = 1 then [r.bi] else [r.br, r.bi]

/-- The lines, with their tags, that slice `sl` of row `m` takes from its feeder queue: those of its elements, then those of its
scales. -/
def Ten.feedLines (t : Ten) (m sl : Nat) : List (Bool × Nat) :=
  let n := min 8 (t.dim0 - 8 * sl)
  let a := t.rowAddr m + t.f.width * sl
  let lines (tag : Bool) (lo hi : Nat) : List (Bool × Nat) := (List.range (hi / 64 + 1 - lo / 64)).map (fun i => (tag, lo / 64 + i))
  lines false a (a + ceilDiv (n * t.f.width) 8 - 1)
    ++ (if t.sf = 0 then [] else lines true (t.scaleAddr m (8 * sl)) (t.scaleAddr m (8 * sl + n - 1)))

/-- The lines that a slice takes through queue `q`, each once. -/
def MmaRun.sliceLines (r : MmaRun) (pass sl q : Nat) : List (Bool × Nat) :=
  (((List.range (r.x.m1 + 1)).filter (fun m => decide (m % 8 = q))).flatMap (fun m =>
    (r.aOf pass).flatMap (fun t => t.feedLines m sl))).eraseDups

/-- Lines that the fetch unit reads for slice `n`: those that the slice before it in the fold pass did not use (R183). -/
def MmaRun.fetched (r : MmaRun) (n : Nat) : Nat :=
  let pass := n / r.stride
  let sl := n % r.slices
  ((List.range 8).map (fun q =>
    let old := if sl = 0 then [] else r.sliceLines pass (sl - 1) q
    ((r.sliceLines pass sl q).filter (fun e => !(old.contains e))).length)).foldl (· + ·) 0

/-- Line reads of the load and scale ports for slice `n` (R185): for each row of weights the lines that hold its elements of the fold pass,
whatever the arrays that read one together, and once each the lines of the slice's scales: log entry 119. -/
def MmaRun.loaded (r : MmaRun) (n : Nat) : Nat :=
  let g := n / r.slices % r.folds * r.per
  let lo := 64 * g
  let hi := min (64 * (g + r.per)) (r.x.n1 + 1)
  ((r.bOf (n / r.stride)).map (fun t =>
    let rows := (List.range 8).map (fun j => 8 * (n % r.slices) + j) |>.filter (fun k => decide (k < t.dim1))
    let span (a b : Nat) : List Nat := (List.range (b / 64 + 1 - a / 64)).map (fun i => a / 64 + i)
    (rows.map (fun k => (span (t.rowAddr k + t.f.width * lo / 8) (t.rowAddr k + ceilDiv (t.f.width * hi) 8 - 1)).length)).foldl (· + ·) 0
    + (if t.sf = 0 then 0 else (rows.flatMap (fun k => span (t.scaleAddr k lo) (t.scaleAddr k (hi - 1)))).eraseDups.length))).foldl (· + ·) 0

/-- The arrays that compute a step of slice `n` of a run, as a mask: those with a group in its fold pass (R112, R127). -/
def MmaRun.computing (r : MmaRun) (live : List Nat) (n : Nat) : Nat :=
  let first := n / r.slices % r.folds * r.per
  (live.take (min r.per (r.groups - first))).foldl setBit 0

/-- ARR_STATUS.BUSY of a core shows the arrays that compute the next slice of its MMA, those of the last slice until the MMA has ended
(R127). -/
def State.busyShow (s : State) (c : Nat) : State :=
  s.wr R.CORE_ARR_STATUS_BUSY (pCore c) (match (s.core c).mma with
    | none => 0
    | some r => r.computing (s.live c) (min r.done (r.total - 1)))

/-- The slices of a run from its progress up to `hi`, on these operand values (R96, R97, R102), with the lines they
read counted (R207) and the steps that failed recorded. -/
def State.mmaWork (s : State) (c : Nat) (r : MmaRun) (ps : List Pass) (hi : Nat) : State :=
  let t := s.opTally c r hi
  let (k, u) := (s.core c).product r ps false hi
  let (k, v) := if r.x.kind = 0 then (k, {}) else k.product r ps true hi
  let s := (((s.setCore c { k with mma := some { r with done := hi } }).tally c ((t.add u).add v)).stepFails c r hi).busyShow c
  let steps := (List.range (hi - r.done)).map (fun i => r.done + i)
  (s.cnt (pCore c) Cn.CORE_FEED_LINES ((steps.map r.fetched).foldl (· + ·) 0)).cnt (pCore c) Cn.CORE_BLOAD_LINES
    ((steps.map r.loaded).foldl (· + ·) 0)

/-- The operand values of a run as the scratchpad holds them. -/
def State.spadPasses (s : State) (c : Nat) (r : MmaRun) : List Pass :=
  passes r.x.kind (s.opVal c r.ar) (s.opVal c r.ai) (s.opVal c r.br) (s.opVal c r.bi)

/-! ### Weight registers and feeder queues (R92, R182–R185) -/

/-- The lines that feeder queue `q` holds at a slice boundary: the next 32 in the order in which the rest of the fold pass consumes them
(R183). -/
def MmaRun.queueLines (r : MmaRun) (q : Nat) : List (Bool × Nat) :=
  let here := r.done % r.slices
  let rows := (List.range (r.x.m1 + 1)).filter (fun m => decide (m % 8 = q))
  let add (l : List (Bool × Nat)) (e : Bool × Nat) : List (Bool × Nat) := if l.length ≥ 32 ∨ l.contains e = true then l else l ++ [e]
  (List.range (r.slices - here)).foldl (fun l i =>
    if l.length ≥ 32 then l
    else (rows.flatMap (fun m => (r.aOf (r.done / r.stride)).flatMap (fun t => t.feedLines m (here + i)))).foldl add l) []

/-- A feeder entry as the fetch unit reads it from the scratchpad. -/
def State.feedRead (s : State) (c : Nat) (e : Bool × Nat) : FeedEntry :=
  ⟨e.1, e.2, s.rbs (aSpad c (64 * e.2)) 64, s.poisoned (aSpad c (64 * e.2))⟩

/-- The weights of slice `n` of a run for column group `g`. -/
def State.weightsRead (s : State) (c : Nat) (r : MmaRun) (n g : Nat) : Weights :=
  ⟨n, g, (r.bOf (n / r.stride)).flatMap (fun t => (List.range 8).flatMap (fun j => (List.range 64).map (fun i =>
    let k := 8 * (n % r.slices) + j
    if k < t.dim1 ∧ 64 * g + i ≤ r.x.n1 then
      let (code, p) := s.spadElem c t k (64 * g + i)
      (code, p, if t.sf = 0 then 0 else s.spadScale c t k (64 * g + i))
    else (0, false, 0))))⟩

/-- At a slice boundary each array that computes a group holds the weights of the next slice in one register and of the slice after it in
the other, and the queues of every live array hold the lines that come next (R92, R182, R183). Queues of a fenced array are not
written. -/
def State.feedersFill (s : State) (c : Nat) : State :=
  match (s.core c).mma with
  | none => s
  | some r =>
    if r.done ≥ r.total then s
    else
      let live := s.live c
      let br := ([r.done, r.done + 1].filter (fun n => decide (n < r.total))).foldl (fun b n =>
        (live.take r.per).zipIdx.foldl (fun b e =>
          let g := n / r.slices % r.folds * r.per + e.2
          if g < r.groups then NMap.put (2 * e.1 + n % 2) (s.weightsRead c r n g) b else b) b) []
      let fq := (List.range 8).foldl (fun f q =>
        let es := (r.queueLines q).map (s.feedRead c)
        live.foldl (fun f a => NMap.put (8 * a + q) es f) f) []
      s.setCore c { s.core c with br := br, fq := fq }

/-- A byte that queue `q` feeds: from its entry for the line, else as the fetch unit reads it from the scratchpad now. -/
def State.feedByte (s : State) (c q : Nat) (scale : Bool) (a : Nat) : Nat × Bool :=
  match ((s.core c).fq.find? (fun e => decide (e.1 % 8 = q))).bind (fun e =>
      e.2.find? (fun x => x.scale == scale && decide (x.line = a / 64))) with
  | some e => (e.data.getD (a % 64) 0, e.poison)
  | none => ((s.rb (aSpad c a)).toNat, s.poisoned (aSpad c a))

/-- The value of A element (m, i) as the feeders of row `m` give it. -/
def State.feedVal (s : State) (c : Nat) (t : Ten) (m i : Nat) : Val :=
  let (o, n) := elemSpan t.f i
  let bs := (List.range n).map (fun j => s.feedByte c (m % 8) false (t.rowAddr m + o + j))
  let code := ofBytes (bs.map (fun b => b.1)) / 2 ^ (t.f.width * i % 8) % 2 ^ t.f.width
  let (sb, sp) := if t.sf = 0 then (0, false) else s.feedByte c (m % 8) true (t.scaleAddr m i)
  (elemVal t code (bs.any (fun b => b.2)) (if sp then nanScale t.sf else sb)).1

/-- The value of B element (i, n) in product pass `p`: from the weight register that holds its slice and group, else as the load port
reads it from the scratchpad now. -/
def State.weightVal (s : State) (c : Nat) (r : MmaRun) (p : Nat) (t : Ten) (i n : Nat) : Val :=
  let sl := p * r.stride + r.groupAt (n / 64) + i / 8
  let j := (r.bOf p).findIdx (fun u => u == t)
  match (s.core c).br.find? (fun e => decide (e.2.slice = sl) && decide (e.2.group = n / 64)) with
  | some e =>
    let (code, poison, scale) := e.2.cells.getD ((8 * j + i % 8) * 64 + n % 64) (0, false, 0)
    (elemVal t code poison scale).1
  | none => s.opVal c t i n

/-- The operand values of a run as its feeders and weight registers give them. -/
def State.fedPasses (s : State) (c : Nat) (r : MmaRun) : List Pass :=
  (List.range r.passCount).filterMap (fun p =>
    (passes r.x.kind (s.feedVal c r.ar) (s.feedVal c r.ai) (s.weightVal c r p r.br) (s.weightVal c r p r.bi))[p]?)

/-- A running MMA goes on from its slice to the end: through the fold pass in progress on what its feeders and weight registers hold, then
through the rest, each fold pass reading its lines again (R120, R183). -/
def State.mmaRest (s : State) (c : Nat) : State :=
  match (s.core c).mma with
  | none => s
  | some r =>
    if r.done ≥ r.total then s
    else
      let mid := (r.done / r.slices + 1) * r.slices
      let s := s.mmaWork c r (s.fedPasses c r) mid
      let s := s.setCore c { s.core c with br := [], fq := [] }
      if mid < r.total then s.mmaWork c { r with done := mid } (s.spadPasses c r) r.total else s

/-- The arrays finish: the MMA's last slice enters, its banks are released, tests go on or start on the arrays it used, and the MMA counts as
completed (R173). -/
def State.mmaFinish (s : State) (c : Nat) : State :=
  if (s.core c).mma.isNone then s
  else
    let s := s.mmaRest c
    let s := (s.setCore c { s.core c with mma := none, br := [], fq := [] }).cnt (pCore c) Cn.CORE_INSTR_RETIRED
    (((s.wr R.CORE_RUN_STATUS_MMA_ACTIVE (pCore c) 0).wr R.CORE_ARR_STATUS_BUSY (pCore c) 0).katShow c).katDue c

end Sys2Proof.Machine
end

