-- ==== Sys2Proof/Machine/Quant.lean ====
section
/-!
DEFINITION. The work of the scale unit (R76, R77, R79, R149–R152, R171): histories, scales, rounding draws, and the blocks of a SQUANT up to
any block boundary.
-/

namespace Sys2Proof.Machine

/-- Round a magnitude towards +∞ to BF16 (R150): 0 stays 0, and beyond the largest finite value +∞. -/
def bf16Up (a : Rat) : Nat :=
  if a = 0 then 0
  else
    let ulp := p2 (flog2 a - 7)
    let t := floorNat (a / ulp)
    let v : Rat := (if (t : Rat) * ulp = a then (t : Rat) else ((t + 1 : Nat) : Rat)) * ulp
    if v > bf16.max then 0x7F80 else bf16.encode false v

/-- The amax that 16 history entries give (R150): none when every entry is empty; else none for +∞ or the largest
magnitude. -/
def historyAmax (es : List Nat) : Option (Option Rat) :=
  let live := es.filter (fun e => e != 0xFFFF)
  if live = [] then none
  else if live.any (fun e => decide (bits e 14 7 = 255)) then some none
  else some (some ((live.map (fun e =>
    match (bf16.decode false (e % 2 ^ 15)).1 with
    | .fin _ x => x
    | _ => 0)).foldl max 0))

/-- The 16 entries of block `b` of a history tensor in the own scratchpad; an entry in a poisoned line reads 0x7FC0. -/
def State.history (s : State) (c : Nat) (t : Ten) (b : Nat) : List Nat :=
  (List.range 16).map (fun h =>
    let a := t.base + 32 * b + 2 * h
    if s.spadPoisoned c a 2 then 0x7FC0 else s.rle (aSpad c a) 2)

/-- The members of the block that begins at element (r, i) (R73). -/
def Ten.members (t : Ten) (r i : Nat) : List (Nat × Nat) :=
  if t.outer then (List.range (min t.blk (t.dim1 - r % t.dim1))).map (fun j => (r + j, i))
  else (List.range (min t.blk (t.dim0 - i))).map (fun j => (r, i + j))

/-- A source element as the scale unit reads it, and the events of reading it: NaN from a poisoned line. With `flush`, as for the amax, a
long-format subnormal counts as zero (R66, R149); it is quantised as it stands (R79). -/
def State.srcVal (s : State) (c : Nat) (t : Ten) (flush : Bool) (r i : Nat) : Val × Tally :=
  let (code, p) := s.spadElem c t r i
  let (v, k) := t.f.decode flush code
  if p then (.nan, {}) else (v, k)

/-- The current amax of a block (R149, step 1). -/
def State.amax (s : State) (c : Nat) (t : Ten) (ms : List (Nat × Nat)) : Rat :=
  (ms.map (fun m => match (s.srcVal c t true m.1 m.2).1 with
    | .fin _ x => absR x
    | _ => 0)).foldl max 0

/-- The draws of an SR SQUANT (R151): element (r, i) draws from lane i mod 64, rows and columns in increasing order. -/
def Core.squantDraws (k : Core) (rows cols : Nat) : List Nat × Core :=
  (List.range (rows * cols)).foldl (fun (p : List Nat × Core) n =>
    let (y, k) := p.2.draw (n % cols % 64)
    (p.1 ++ [y % 65536], k)) ([], k)

/-- What SQUANT works out for one block: its scale code, the entry a push writes, and the events. -/
structure BlockScale where
  first : Nat × Nat
  code : Nat
  push : Nat
  events : Tally
  fallback : Bool
  deriving DecidableEq, Repr

/-- The scale of block number `b` that begins at `first` (R149, R150). -/
def State.blockScale (s : State) (c : Nat) (src dst hist : Ten) (delayed : Bool) (b : Nat) (first : Nat × Nat) : BlockScale :=
  let cur := s.amax c src (dst.members first.1 first.2)
  let h := if delayed then historyAmax (s.history c hist b) else some (some cur)
  let (code, clamp) := deriveScale (h.getD (some cur)) dst.f dst.sf (bit dst.fmt 12)
  ⟨first, code, bf16Up cur, { clamp := b2n clamp }, h.isNone⟩

/-- Quantise element (r, i) under a scale code (R79). -/
def State.quantElem (s : State) (c : Nat) (src dst : Ten) (code r i : Nat) (draw : Option Nat) : Nat × Tally :=
  let (v, k) := s.srcVal c src false r i
  let q := match v with
    | .fin n x => .fin n (x / (scaleVal dst.sf code).getD 1)
    | w => w
  let (e, u) := dst.f.convert q draw
  (e, convTally k u)

/-- How the instructions of a core reach memory. -/
def State.via (s : State) (c : Nat) : Via := ⟨c, (s.core c).fn, false⟩

/-- Store a list of byte rows at local addresses of the own scratchpad. -/
def State.stRows (s : State) (c : Nat) : List (Nat × List Nat) → Except Nat State
  | [] => .ok s
  | (a, bs) :: l => do
    let s ← s.stN (s.via c) a (bs.map some)
    s.stRows c l

/-! ### A SQUANT and its blocks -/

/-- The source of a run. -/
def SquantRun.srcT (r : SquantRun) : Ten := Ten.ofBits r.src
/-- Its history. -/
def SquantRun.histT (r : SquantRun) : Ten := Ten.ofBits r.hist
/-- Its destination. -/
def SquantRun.dstT (r : SquantRun) : Ten := Ten.ofBits r.dst
/-- Its copy-forward history. -/
def SquantRun.fwdT (r : SquantRun) : Ten := Ten.ofBits r.fwd

/-- The blocks of a run. -/
def SquantRun.total (r : SquantRun) : Nat := (r.dstT.blocks r.dstT.rows r.dstT.dim0).length

/-- What a SQUANT works out for some of its blocks before it writes: the events, the blocks derived, those that fell back to the
current amax, and the rows of bytes to be written in their order (R149–R151). -/
structure SquantOut where
  events : Tally
  blocks : Nat
  fallbacks : Nat
  rows : List (Nat × List Nat)
  deriving DecidableEq, Repr

/-- The blocks of a run from its progress to below `hi`, under SCALE_CTRL as it stands now: a write of it takes effect at a block boundary
(R171). Sources and history are read before the destination is written: software keeps them apart (R152). An element of a
row outside these blocks stays. -/
def State.squantOut (s : State) (c : Nat) (r : SquantRun) (hi : Nat) : SquantOut :=
  let src := r.srcT
  let hist := r.histT
  let dst := r.dstT
  let sr := bit r.x.mod 1
  let cols := dst.dim0
  let head := s.rg R.CORE_SCALE_CTRL_HEAD (pCore c)
  let delayed := bit r.x.mod 0 && !(s.flag R.CORE_SCALE_CTRL_FORCE_JIT (pCore c))
  let draws := if sr then ({ s.core c with rng := r.rng }.squantDraws dst.rows cols).1 else []
  let bs := (((dst.blocks dst.rows cols).zipIdx).filter (fun e => decide (r.done ≤ e.2) && decide (e.2 < hi))).map (fun e =>
    (s.blockScale c src dst hist delayed e.2 e.1, e.2))
  let blockOf (m i : Nat) : Option BlockScale :=
    let f := if dst.outer then (m - m % dst.dim1 % dst.blk, i) else (m, i - i % dst.blk)
    (bs.find? (fun b => decide (b.1.first = f))).map (fun b => b.1)
  let q := (List.range dst.rows).map (fun m => (List.range cols).map (fun i =>
    match blockOf m i with
    | some b =>
      let (e, t) := s.quantElem c src dst b.code m i (if sr then draws[m * cols + i]? else none)
      (e, t, true)
    | none => ((s.spadElem c dst m i).1, {}, false)))
  let t := ((q.flatten.map (fun e => e.2.1)) ++ bs.map (fun b => b.1.events)).foldl Tally.add {}
  let scales := bs.map (fun b => (dst.scaleAddr b.1.first.1 b.1.first.2, [b.1.code]))
  let elems := ((q.zipIdx).filter (fun e => e.1.any (fun v => v.2.2))).map (fun e =>
    (dst.rowAddr e.2, packRow dst.f (e.1.map (fun v => v.1))))
  let pushed (b : BlockScale × Nat) : List Nat :=
    ((s.history c hist b.2).zipIdx).map (fun e => if e.2 = head ∧ bit r.x.mod 2 = true then b.1.push else e.1)
  let hrows : List (Nat × List Nat) :=
    if bit r.x.mod 3 then bs.map (fun b => (r.fwdT.base + 32 * b.2, (pushed b).flatMap (leBytes 2)))
    else if bit r.x.mod 2 then bs.map (fun b => (hist.base + 32 * b.2 + 2 * head, leBytes 2 b.1.push))
    else []
  ⟨t, bs.length, (bs.filter (fun b => b.1.fallback)).length, scales ++ elems ++ hrows⟩

/-- The blocks of a run up to `hi` are done. -/
def State.squantWork (s : State) (c : Nat) (r : SquantRun) (hi : Nat) : Except Nat State :=
  let o := s.squantOut c r hi
  let s := (s.setCore c { s.core c with squant := some { r with done := hi } }).tally c o.events
  let s := (s.cnt (pCore c) Cn.CORE_SQUANT_BLOCKS o.blocks).cnt (pCore c) Cn.CORE_SCALE_JIT_FALLBACK o.fallbacks
  s.stRows c o.rows

/-- A SQUANT in progress goes on to its last block. Its operands lie in the own scratchpad (R177), which takes every write. -/
def State.squantRest (s : State) (c : Nat) : State :=
  match (s.core c).squant with
  | none => s
  | some r =>
    if r.done ≥ r.total then s
    else
      match s.squantWork c r r.total with
      | .ok s => s
      | .error _ => s

/-- The scale unit finishes its SQUANT and is free, and the SQUANT counts as completed (R173). -/
def State.squantFinish (s : State) (c : Nat) : State :=
  if (s.core c).squant.isNone then s
  else
    let s := s.squantRest c
    (s.setCore c { s.core c with squant := none }).cnt (pCore c) Cn.CORE_INSTR_RETIRED

end Sys2Proof.Machine
end

