-- ==== Sys2Proof/Machine/Issue.lean ====
section
/-!
DEFINITION. How a core issues an instruction, retires it, and takes an exception (R131–R134, R166, R610), and how the units
of a core give back what they hold (R94, R121, R132, R152, R201).
-/

namespace Sys2Proof.Machine

/-- Program counter of a core (R131). -/
def State.pc (s : State) (c : Nat) : Nat := s.rg R.CORE_PC_PC (pCore c)

/-- Whether the core can issue: it runs a kernel that has not ended, is enabled, neither fenced nor quiescing nor without power,
does not wait, and the module is not halted (R14, R132, R163, R165, R167, R467). -/
def State.canIssue (s : State) (c : Nat) : Bool :=
  let x := s.core c
  decide (s.runState c = 1) && s.pageOn (pCore c) && s.enabled (pCore c) && !(s.fencedP (pCore c)) && !(s.quiescing (pCore c))
  && x.wait.isNone && x.ended.isNone && !(s.halted)

/-- Whether a core is at issue level 0 (R454, R458): it issues no array step and no vector operation, which wait without abort. How the
slots of a level above 0 lie in its window of 64 cycles is log entry 142. -/
def State.throttled (s : State) (c : Nat) : Bool := decide (NMap.get 0 s.pwr.lvl c = 0)

/-- Whether an error is one of the instruction's own fetch. -/
def upsetOfFetch : Upset → Bool
  | .ifetchCe => true
  | .ifetchUe => true
  | _ => false

/-- The fetch at PC (R131, R136): the state with the read of the line counted (R210, R271, R284), the word, eight bytes with the least significant
first, and whether the line is poisoned; or the code that refuses it, ALIGN or that of the access. The 64 KiB instruction cache is not
held: every issue reads its line, so that a write to code is seen at the next issue, and the spec says nothing of the cache's coherence
(DESIGN CHOICE, log entry 133). -/
def State.fetch (s : State) (c : Nat) : Except Nat (State × Nat × Bool) :=
  if s.pc c % 8 ≠ 0 then .error St.ALIGN
  else
    match s.mapAddr (s.via c) (s.pc c) false true with
    | .error e => .error e
    | .ok pa =>
      if s.mustWait pa 8 false then .error waitCode
      else
        let (s, bs, bad) := (s.noteLookup (s.via c) (s.pc c)).readLine pa 8
        .ok (s, ofBytes bs, bad)

/-- The state after the fetch at PC. -/
def State.fetched (s : State) (c : Nat) : State :=
  match s.fetch c with
  | .ok (t, _, _) => t
  | .error _ => s

/-- The word at PC. -/
def State.codeWord (s : State) (c : Nat) : Nat :=
  match s.fetch c with
  | .ok (_, w, _) => w
  | .error _ => 0

/-- The code with which the fetch at PC fails, if it does: ALIGN, ADDR_RANGE (R131) or IFETCH_UE (R167); a fetch may have
to wait for its channel. -/
def State.fetchCode (s : State) (c : Nat) (ups : List Upset) : Option Nat :=
  match s.fetch c with
  | .error e => some e
  | .ok (_, _, bad) => if ups.contains .ifetchUe ∨ bad = true then some St.IFETCH_UE else none

/-- An instruction that reads, clears or merges one of these banks waits for an MMA that writes it (R94, R132): what it
then sees is what that MMA left. -/
def State.waitBanks (s : State) (c banks : Nat) : State :=
  if (s.core c).mmaBanks &&& banks = 0 then s else s.mmaFinish c

/-- Whether a unit of the core has work of an issued instruction left to do. -/
def Core.behind (k : Core) : Bool :=
  (match k.mma with
    | some r => decide (r.done < r.total)
    | none => false)
  || (match k.squant with
    | some r => decide (r.done < r.total)
    | none => false)

/-- What the instructions before have left to do in the units is done. The core's own accesses take effect in program order (R132, R201): an
instruction that reaches memory, a bank or a generator finds their work done, though their units may not have reported its end. -/
def State.catchUp (s : State) (c : Nat) : State := if (s.core c).behind then (s.mmaRest c).squantRest c else s

/-- Whether any unit of the core is at work on an issued instruction (R121, R167). -/
def Core.atWork (k : Core) : Bool := k.mma.isSome || k.ast.isSome || k.squant.isSome

/-- The unit of an AST has finished it, and it counts as completed (R147, R173). -/
def State.astFinish (s : State) (c : Nat) : State :=
  if (s.core c).ast.isNone then s else (s.setCore c { s.core c with ast := none }).cnt (pCore c) Cn.CORE_INSTR_RETIRED

/-- Every unit of a core has finished what was issued to it (R166, second step). -/
def State.unitsFinish (s : State) (c : Nat) : State :=
  if (s.core c).atWork then ((s.mmaFinish c).squantFinish c).astFinish c else s

/-- One more instruction has completed since those at work in the units were issued. -/
def Core.aged (k : Core) : Core :=
  { k with ast := k.ast.map (fun r => { r with age := r.age + 1 }), squant := k.squant.map (fun r => { r with age := r.age + 1 }) }

/-- The AST or SQUANT at work is preempted where it is the newest instruction issued (R152): its unit gives up, the generators are as they
were before it (R84), and PC names it, so that it is executed again from its start. -/
def State.unissue (s : State) (c : Nat) : State :=
  let younger (k : Core) : Core := { k with
    ast := k.ast.map (fun r => { r with age := r.age - 1 }), squant := k.squant.map (fun r => { r with age := r.age - 1 }) }
  let astBack (s : State) : State := match (s.core c).ast with
    | some r => if r.age = 1 then
        (s.setCore c (younger { s.core c with ast := none, rng := r.rng })).wr R.CORE_PC_PC (pCore c) r.pc
      else s
    | none => s
  let squantBack (s : State) : State := match (s.core c).squant with
    | some r => if r.age = 1 then
        (s.setCore c (younger { s.core c with squant := none, rng := r.rng, openBlk := r.done })).wr R.CORE_PC_PC (pCore c) r.pc
      else s
    | none => s
  astBack (squantBack (astBack s))

/-- RUN_STATUS.STATE of a core. -/
def State.setRun (s : State) (c n : Nat) : State := s.wr R.CORE_RUN_STATUS_STATE (pCore c) n

/-- Take an exception (R166): the units finish, EXC_STATUS and EXC_PC are written (an exception recorded before is
overwritten and counted, R171), error source EXC is recorded, and the kernel ends with the code. The core is idle. -/
def State.takeExc (s : State) (c code : Nat) : State :=
  let p := pCore c
  let s := s.unitsFinish c
  let s := if s.flag R.CORE_EXC_STATUS_VALID p then s.cnt p Cn.CORE_EXC_OVERWRITE else s
  let s := ((s.wr R.CORE_EXC_STATUS_VALID p 1).wr R.CORE_EXC_STATUS_CODE p code).wr R.CORE_EXC_PC_PC p (s.pc c)
  let s := s.raiseCore c Er.CORE_EXC
  let x := s.core c
  ((s.setCore c { x with ended := some code, wait := none }).setRun c 0).wr R.HDR_STATUS_READY p 1

/-- PC moves on past an instruction that has been issued. -/
def State.moveOn (s : State) (c pc : Nat) : State :=
  let k := s.core c
  let s := if k.ast.isSome || k.squant.isSome then s.setCore c k.aged else s
  s.wr R.CORE_PC_PC (pCore c) pc

/-- An instruction completes: PC moves on, and it is counted (R173). -/
def State.retire (s : State) (c pc : Nat) : State := (s.moveOn c pc).cnt (pCore c) Cn.CORE_INSTR_RETIRED

/-- The lane mask of an instruction (R133). -/
def Core.mask (x : Core) (pred : Nat) (pneg : Bool) : Nat :=
  if pneg then 2 ^ 64 - 1 - x.rdP pred else x.rdP pred

/-- Issue one instruction of core `c` (R131–R134). `lanes` tells the instructions that are masked lane by lane (R133); any
other is a no-op when bit 0 of its mask is 0. `body` answers the state and the next PC, or the exception's code; an
instruction that must wait has not issued. Errors of accumulator entries are the body's, which knows when it reads them. -/
def State.issue (s : State) (c pred : Nat) (pneg : Bool) (ups : List Upset) (lanes : Bool)
    (body : Nat → State → Except Nat (State × Option Nat)) : State :=
  if s.canIssue c = false then s
  else
    let fetched := (s.fetched c).upsets c (ups.filter upsetOfFetch)
    match s.fetchCode c ups with
    | some e =>
      if e = waitCode then s
      else (if e = St.IFETCH_UE ∧ ups.contains .ifetchUe = false then fetched.raiseCore c Er.CORE_IFETCH_UE else fetched).takeExc c e
    | none =>
      let m := (s.core c).mask pred pneg
      if lanes = false ∧ bit m 0 = false then fetched.retire c (s.pc c + 8)
      else
        let s1 := fetched.upsets c (ups.filter (fun u => !(upsetOfFetch u) && !(upsetOfBank u)))
        match body m s1 with
        | .error e => if e = waitCode then s else (s.upsetsAfter s1 ups).takeExc c e
        | .ok (s2, pc) =>
          if wrTimeout ups then (s.upsetsAfter s1 ups).takeExc c St.FAR_TIMEOUT
          else
            let s2 := s.upsetsAfter s2 ups
            match pc with
            | some pc => s2.retire c pc
            | none => s2

/-- Issue an instruction that goes on to the next one. -/
def State.issueNext (s : State) (c pred : Nat) (pneg : Bool) (ups : List Upset) (lanes : Bool)
    (body : Nat → State → Except Nat State) : State :=
  s.issue c pred pneg ups lanes (fun m s1 =>
    match body m s1 with
    | .error e => .error e
    | .ok s2 => .ok (s2, some (s.pc c + 8)))

/-- Issue an instruction that its unit goes on working at: it counts as completed when the unit has finished it (R173). -/
def State.issueLong (s : State) (c pred : Nat) (pneg : Bool) (ups : List Upset) (body : State → Except Nat State) : State :=
  s.issue c pred pneg ups false (fun _ s1 =>
    match body s1 with
    | .error e => .error e
    | .ok s2 => .ok (s2.moveOn c (s.pc c + 8), none))

/-- Issue an instruction of form R. -/
def State.issueR (s : State) (x : RForm) (lanes : Bool) (body : Nat → State → Except Nat State) : State :=
  s.issueNext x.core x.pred x.pneg x.ups lanes body

/-- Issue an instruction of form I. -/
def State.issueI (s : State) (x : IForm) (lanes : Bool) (body : Nat → State → Except Nat State) : State :=
  s.issueNext x.core x.pred x.pneg x.ups lanes body

/-- Issue an instruction of form R that reaches memory, a bank or a generator. -/
def State.issueUnit (s : State) (x : RForm) (lanes : Bool) (body : Nat → State → Except Nat State) : State :=
  s.issueR x lanes (fun m s => body m (s.catchUp x.core))

/-- Issue an instruction of form I that reaches memory. -/
def State.issueUnitI (s : State) (x : IForm) (lanes : Bool) (body : Nat → State → Except Nat State) : State :=
  s.issueI x lanes (fun m s => body m (s.catchUp x.core))

/-- Raise `code` unless the condition holds. -/
def must (ok : Bool) (code : Nat) : Except Nat Unit := if ok then .ok () else .error code

/-- A 32-bit immediate extended to 64 bits (R137). -/
def simm (imm : Nat) : Nat := wrap 64 (sext 32 imm)

end Sys2Proof.Machine
end

