-- ==== Sys2Proof/Machine/Kat.lean ====
section
/-!
DEFINITION. The events of the arrays' known-answer tests and their fencing (R36, R113, R124–R127), and the ageing of scratchpad requests
(R179).
-/

namespace Sys2Proof.Machine

/-- KAT_REQ (R124, R127): a write of KAT_CTRL with REQ = 1. A pattern above 63 makes the whole write ignored, and REQ is
ignored while SELFTEST_ALLOW is 0; the model ignores it too while the core is quiescing, fenced or barred by a dump or a reset, where
no test may start, and PATTERN and MASK are taken: DESIGN CHOICE, log entry 119. -/
def execKatReq (fn core pattern mask : Nat) (s : State) : Host.Outcome State Fault Refusal :=
  let p := pCore core
  .next (if core ≥ 1024 ∨ s.mayWrite fn p = false ∨ pattern > 63 then s
    else
      let s := (s.wr R.CORE_KAT_CTRL_PATTERN p pattern).wr R.CORE_KAT_CTRL_MASK p mask
      if s.katAllowed core = false then s
      else (s.wr R.CORE_KAT_CTRL_REQ p 1).katStart core pattern mask true)

/-- KAT_PATTERN_DONE (R126) of an array that runs a test (R124): a pass is dated by the local TBC (R52) and the next pattern follows; after a
failure the pattern runs again, and after a second one the array awaits its fence. A run of a pattern that fails does not end a run of
yields: a completed pattern is one that passed (DESIGN CHOICE, log entry 134). -/
def execKatPatternDone (core array : Nat) (pass : Bool) (s : State) : Host.Outcome State Fault Refusal :=
  let p := pCore core
  let k := (s.core core).kat
  .next (if array ≥ 4 ∨ bit k.todo array = false ∨ (s.mmaArrays core).contains array = true
        ∨ s.flag R.HDR_CTRL_SELFTEST_ALLOW p = false then s
    else if pass then
      let s := (s.wr (R.CORE_KAT_PASS_TBC_TBC array) p s.coreTbc).wr R.CORE_KAT_STATUS_YIELDS p 0
      if k.at array ≥ 63 then
        ((s.wr R.CORE_KAT_STATUS_PASS p (setBit (s.rg R.CORE_KAT_STATUS_PASS p) array)).katOver core array).testPassed 0 p
      else
        s.setKat core { k with
          pattern := putBits k.pattern (8 * array + 7) (8 * array) (k.at array + 1)
          failedOnce := clrBit k.failedOnce array }
    else if bit k.failedOnce array then
      let s := s.wr R.CORE_KAT_STATUS_FAIL p (setBit (s.rg R.CORE_KAT_STATUS_FAIL p) array)
      let s := s.setCore core { s.core core with kat := { k with fencing := setBit k.fencing array } }
      s.katOver core array
    else s.setKat core { k with failedOnce := setBit k.failedOnce array })

/-- KAT_ABANDON (R125): the test has yielded 16 times in a row. It awaits its rescheduling (R496). -/
def execKatAbandon (core array : Nat) (s : State) : Host.Outcome State Fault Refusal :=
  let p := pCore core
  let k := (s.core core).kat
  .next (if array ≥ 4 ∨ bit k.todo array = false ∨ s.rg R.CORE_KAT_STATUS_YIELDS p < 16 then s
    else
      let s := s.wr R.CORE_KAT_STATUS_ABANDONED p (setBit (s.rg R.CORE_KAT_STATUS_ABANDONED p) array)
      let s := s.katOver core array
      let k := (s.core core).kat
      ((s.setCore core { s.core core with kat := { k with redo := setBit k.redo array } }).testAbandoned 0 p).cnt p Cn.CORE_KAT_ABANDON)

/-- A core is fenced as a whole (R36, R113): it takes no work, and its quad is retired. -/
def State.fenceCore (s : State) (c cause : Nat) : State := (s.wr R.HDR_STATUS_FENCED (pCore c) 1).retireQuad (c / 4) cause

/-- An array leaves LIVE (R126, R127). With none left, its core is fenced; otherwise it counts among the fenced arrays of
cores in service (R53). -/
def State.fenceArray (s : State) (c a cause : Nat) : State :=
  let p := pCore c
  let live := clrBit (s.rg R.CORE_ARR_STATUS_LIVE p) a
  let s := (((s.wr R.CORE_ARR_STATUS_LIVE p live).wr R.CORE_ARR_FENCE_FENCED p (15 - live)).wr R.CORE_ARR_FENCE_LAST p a).wr
    R.CORE_ARR_FENCE_CAUSE p cause
  let s := (s.setCore c { s.core c with foldSeen := false }).wr R.HDR_STATUS_DEGRADED p 1
  if live = 0 then (s.fenceCore c cause).arraysCount else s.arraysCount.presenceEvent 1 (4 * c + a)

/-- An array that has failed its test is fenced (R126): its retirement is recorded, and KAT_FAIL
is recorded with the array and the TBC of its last passing pattern, attributed by address alone (R29). CAUSE is 2 where the test that
failed had been scheduled by a weight register's repeated parity failure (R123, R127; log entry 119). -/
def State.katFence (s : State) (c a : Nat) : State :=
  let p := pCore c
  let k := (s.core c).kat
  let s := s.setKat c { k with fencing := clrBit k.fencing a }
  let s := s.retireUnit 1 (4 * c + a) 0
  let s := s.fenceArray c a (if bit k.parity a then 2 else 1)
  s.raise p Er.CORE_KAT_FAIL (a + 4 * s.rg (R.CORE_KAT_PASS_TBC_TBC a) p)

/-- ARRAY_FENCE (R126): at an MMA boundary of its core the failed array is fenced. -/
def execArrayFence (core array : Nat) (s : State) : Host.Outcome State Fault Refusal :=
  .next (if array ≥ 4 ∨ bit (s.core core).kat.fencing array = false ∨ (s.core core).mma.isSome = true then s
    else s.katFence core array)

/-- The fences that the arrays of the cores await (R126). -/
def State.katFenceAll (s : State) : State :=
  s.cores.foldl (fun s e => (onesBelow 4 e.2.kat.fencing).foldl (fun s a => s.katFence e.1 a) s) s

/-- BANK_REQUEST_AGED (R179): a request refused in 16 consecutive cycles is granted ahead of every class. -/
def execBankRequestAged (core bank : Nat) (s : State) : Host.Outcome State Fault Refusal :=
  .next (if core < 1024 ∧ bank < 32 then (s.cnt (pCore core) Cn.CORE_BANK_CONFLICT 16).cnt (pCore core) Cn.CORE_AGED_GRANT
    else s)

end Sys2Proof.Machine
end

