-- ==== Sys2Proof/Machine/Tdesc.lean ====
section
/-!
DEFINITION. The TDESC class (R139–R144): loading, storing, moving and resizing tensor descriptors.
-/

namespace Sys2Proof.Machine

/-- Step 2 of R610: VALID of every T register an instruction uses. -/
def needValid (l : List Ten) : Except Nat Unit := must (l.all Ten.valid) St.DESC_INVALID

/-- R58 on every descriptor an instruction uses (R610, step 3). -/
def needFmt (l : List Ten) (array : Bool) : Except Nat Unit :=
  must (l.all (fun t => fmtWordOk t.fmt array)) St.INVALID_ARG

/-- Whether the 64 bytes at a local address lie in the core's own scratchpad, the one window that R174 lets TLD, TST and DMAQ reach (R175):
DEDUCED, log entry 134. -/
def ownLine (a : Nat) : Bool := decide (a + 64 ≤ 0x80000)

/-- TLD (R139, R142). -/
def execTld (x : RForm) (s : State) : Host.Outcome State Fault Refusal :=
  .next (s.issueUnit x false (fun _ s => do
    must (x.mod == 0 && decide (x.d < 16)) St.RESERVED_BITS
    let k := s.core x.core
    must (k.rdS x.a % 64 == 0) St.ALIGN
    must (ownLine (k.rdS x.a)) St.ADDR_RANGE
    let (s, bs) ← s.ldN (s.via x.core) (k.rdS x.a) 64
    must (!(bs.any (fun b => b.2))) St.DESC_INVALID
    let t := Ten.ofBits (BitVec.ofNat 512 (ofBytes (bs.map (fun b => b.1))))
    match t.check with
    | some e => .error e
    | none => .ok (s.setCore x.core ((s.core x.core).wrT x.d t))))

/-- TST (R139). -/
def execTst (x : RForm) (s : State) : Host.Outcome State Fault Refusal :=
  .next (s.issueUnit x false (fun _ s => do
    must (x.mod == 0 && decide (x.d < 16)) St.RESERVED_BITS
    let k := s.core x.core
    let t := k.rdT x.d
    needValid [t]
    must (k.rdS x.a % 64 == 0) St.ALIGN
    must (ownLine (k.rdS x.a)) St.ADDR_RANGE
    s.stN (s.via x.core) (k.rdS x.a) ((leBytes 64 t.toBits.toNat).map some)))

/-- The descriptor after its origin has moved to row `r0` and inner index `c0`, or why it may not move (R144). -/
def Ten.move (t : Ten) (r0 c0 : Nat) : Except Nat Ten := do
  must (decide (r0 < t.rows) && decide (c0 < t.dim0)) St.INVALID_ARG
  must t.rowsAligned St.ALIGN
  must (decide (t.dim2 ≤ 1) || r0 % t.dim1 == 0) St.ALIGN
  must (t.innerAligned c0) St.ALIGN
  must (t.sf == 0 || (if t.outer then r0 % t.dim1 % t.blk == 0 else c0 % t.blk == 0)) St.ALIGN
  .ok { t with
    base := t.rowAddr r0 + (if t.f.width = 6 then 3 * (c0 / 4) else t.f.width * c0 / 8)
    sbase := if t.sf = 0 then t.sbase else t.scaleAddr r0 c0
    dim0 := t.dim0 - c0
    dim1 := if t.dim2 > 1 then t.dim1 else t.dim1 - r0
    dim2 := if t.dim2 > 1 then t.dim2 - r0 / t.dim1 else t.dim2 }

/-- TOFS (R144). -/
def execTofs (x : RForm) (s : State) : Host.Outcome State Fault Refusal :=
  .next (s.issueR x false (fun _ s => do
    must (x.mod == 0 && decide (x.d < 16)) St.RESERVED_BITS
    let k := s.core x.core
    let t := k.rdT x.d
    needValid [t]
    needFmt [t] false
    let t ← t.move (k.rdS x.a) (k.rdS x.b)
    .ok (s.setCore x.core (k.wrT x.d t))))

/-- A descriptor with dimension `i` replaced. -/
def Ten.setDim (t : Ten) (i v : Nat) : Ten :=
  match i with
  | 0 => { t with dim0 := v }
  | 1 => { t with dim1 := v }
  | _ => { t with dim2 := v }

/-- TDIM (R139, R142). -/
def execTdim (x : RForm) (s : State) : Host.Outcome State Fault Refusal :=
  .next (s.issueR x false (fun _ s => do
    must (decide (x.mod < 3) && decide (x.d < 16)) St.RESERVED_BITS
    let k := s.core x.core
    let t := (k.rdT x.d).setDim x.mod (k.rdS x.a % 2 ^ 32)
    match t.check with
    | some e => .error e
    | none => .ok (s.setCore x.core (k.wrT x.d t))))

end Sys2Proof.Machine
end

