-- ==== Sys2Proof/Machine/Acc.lean ====
section
/-!
DEFINITION. The ACC class (R101, R108, R109, R139, R147, R148): clearing, merging and reading accumulator banks.
-/

namespace Sys2Proof.Machine

/-- The generators of these lanes can be drawn from (R160). -/
def needRng (k : Core) (lanes : List Nat) : Except Nat Unit := must (lanes.all (fun i => k.rngState i != 0)) St.RNG_ZERO

/-- Bits [15:0] of a draw of a lane in SR mode, and the core with the lane's state advanced (R82). -/
def Core.drawIf (k : Core) (sr : Bool) (lane : Nat) : Option Nat × Core :=
  if sr then
    let (y, k) := k.draw lane
    (some (y % 65536), k)
  else (none, k)

/-- Clear banks (R101). -/
def Core.clearBanks (k : Core) (banks : List Nat) : Core :=
  banks.foldl (fun k b => { k.dropBank b 0 with dirtyBanks := setBit k.dirtyBanks b }) k

/-- ACLR (R101, R139). -/
def execAclr (x : RForm) (s : State) : Host.Outcome State Fault Refusal :=
  .next (s.issueUnit x false (fun _ s => do
    must (x.mod / 256 == 0) St.RESERVED_BITS
    let s := s.waitBanks x.core x.mod
    .ok (s.setCore x.core ((s.core x.core).clearBanks (onesBelow 8 x.mod)))))

/-- Merge entry (m, n) of bank `f` into that of bank `e` (R109). -/
def Core.mergeEntry (k : Core) (t : Tally) (e f m n : Nat) : Core × Tally :=
  let (v, u) := (k.rdA e m n).merge (k.rdA f m n)
  (k.wrA e m n v, t.add u)

/-- The 4,096 entries of a bank in row-major order. -/
def bankEntries : List (Nat × Nat) := (List.range 4096).map (fun i => (i / 64, i % 64))

/-- AMERGE (R109, R148). -/
def execAmerge (x : RForm) (s : State) : Host.Outcome State Fault Refusal :=
  .next (s.issueUnit x false (fun _ s => do
    must (x.mod == 0 && decide (x.d < 8) && decide (x.a < 8)) St.RESERVED_BITS
    must (x.d != x.a) St.INVALID_ARG
    let s := (s.waitBanks x.core (2 ^ x.d + 2 ^ x.a)).bankUpsets x.core x.ups
    let (k, t) := bankEntries.foldl (fun (p : Core × Tally) e => p.1.mergeEntry p.2 x.d x.a e.1 e.2) (s.core x.core, {})
    .ok ((s.setCore x.core k).tally x.core t)))

/-- AROW (R108, R139, R148). -/
def execArow (x : RForm) (s : State) : Host.Outcome State Fault Refusal :=
  .next (s.issueUnit x true (fun mask s => do
    must (x.mod / 4 == 0 && decide (x.c < 8)) St.RESERVED_BITS
    let row := (s.core x.core).rdS x.a
    must (decide (row < 64)) St.INVALID_ARG
    let sr := bit x.mod 1
    let lanes := onesBelow 64 mask
    if sr then needRng (s.core x.core) lanes
    let s := (s.waitBanks x.core (2 ^ x.c)).bankUpsets x.core x.ups
    let f := if bit x.mod 0 then int32 else fp32
    let (k, t) := lanes.foldl (fun (p : Core × Tally) j =>
      let (r, k) := p.1.drawIf sr j
      let (c, t) := f.convert (k.rdA x.c row j).val r
      (k.wrV x.d j c, p.2.add t)) (s.core x.core, {})
    .ok ((s.setCore x.core k).tally x.core t)))

/-- Convert row `m` of a bank for AST: the codes of columns below `n`, drawn lane by lane in SR mode. -/
def Core.astRow (k : Core) (bank m n : Nat) (f : Fmt) (sr : Bool) : List Nat × Core × Tally :=
  (List.range n).foldl (fun (p : List Nat × Core × Tally) j =>
    let (r, k) := p.2.1.drawIf sr j
    let (c, t) := f.convert (k.rdA bank m j).val r
    (p.1 ++ [c], k, p.2.2.add t)) ([], k, {})

/-- Write rows `m` on of a bank to a tensor in the own scratchpad, in increasing order. -/
def State.astRows (s : State) (c bank : Nat) (t : Ten) (sr : Bool) : Nat → Nat → Except Nat State
  | 0, _ => .ok s
  | n + 1, m => do
    let (codes, k, u) := (s.core c).astRow bank m t.dim0 t.f sr
    let s ← ((s.setCore c k).tally c u).stN (s.via c) (t.rowAddr m) ((packRow t.f codes).map some)
    s.astRows c bank t sr n (m + 1)

/-- AST (R147): the refusals in the order of R610, then the rows. AST_DONE releases the unit. -/
def execAst (x : RForm) (s : State) : Host.Outcome State Fault Refusal :=
  .next (s.issueLong x.core x.pred x.pneg x.ups (fun s => do
    let s := s.catchUp x.core
    must ((x.mod == 0 || x.mod == 2) && decide (x.d < 16) && decide (x.c < 8)) St.RESERVED_BITS
    let t := (s.core x.core).rdT x.d
    needValid [t]
    needFmt [t] false
    must (decide (t.dim0 ≤ 64) && decide (t.dim1 ≤ 64) && t.dim2 == 1 && t.sf == 0) St.INVALID_ARG
    must t.placed St.INVALID_ARG
    must t.rowsAligned St.ALIGN
    let sr := bit x.mod 1
    if sr then needRng (s.core x.core) (List.range t.dim0)
    let s := (s.waitBanks x.core (2 ^ x.c)).bankUpsets x.core x.ups
    let rng := (s.core x.core).rng
    let s ← s.astRows x.core x.c t sr t.dim1 0
    let s := s.astFinish x.core
    .ok (s.setCore x.core { s.core x.core with ast := some ⟨s.pc x.core, 0, rng⟩ })))

/-- AST_DONE (R147): the AST's unit is free; during a halt it stands still (R467). -/
def execAstDone (core : Nat) (s : State) : Host.Outcome State Fault Refusal := .next (if s.halted then s else s.astFinish core)

/-- ALOSS (R139, R148): disabled lanes write 0 (R133), with an all-zero mask too: log entry 24. -/
def execAloss (x : RForm) (s : State) : Host.Outcome State Fault Refusal :=
  .next (s.issueUnit x true (fun mask s => do
    must (x.mod == 0 && decide (x.d < 8) && decide (x.c < 8)) St.RESERVED_BITS
    let row := (s.core x.core).rdS x.a
    must (decide (row < 64)) St.INVALID_ARG
    let s := (s.waitBanks x.core (2 ^ x.c)).bankUpsets x.core x.ups
    let k := s.core x.core
    let v := maskOf 64 (fun j =>
      let e := k.rdA x.c row j
      bit mask j && (e.loss || e.nf != .fin))
    .ok (s.setCore x.core (k.wrP x.d v))))

end Sys2Proof.Machine
end

