-- ==== Sys2Proof/Machine/Vector.lean ====
section
/-!
DEFINITION. The VEC, VCVT and VOPT classes (R133, R139, R153–R155, R157, R612): lane operations in FP32 and INT32, comparisons,
selection, reductions, conversions between formats and the fused optimiser update.
-/

namespace Sys2Proof.Machine

/-! ### Shared operations -/

/-- A lane operation on the core, lane by lane in increasing order over the enabled lanes, with the events counted. -/
def Core.eachLane (k : Core) (mask : Nat) (f : Core → Nat → Core × Tally) : Core × Tally :=
  (onesBelow 64 mask).foldl (fun p i =>
    let (k, t) := f p.1 i
    (k, p.2.add t)) (k, {})

/-- Class VEC writing V[D]: `f` answers the result of a lane. -/
def State.vec (s : State) (x : RForm) (f : Core → Nat → Nat × Tally) : State :=
  s.issueR x true (fun mask s => do
    must (x.mod == 0) St.RESERVED_BITS
    must (!(s.throttled x.core)) waitCode
    let (k, t) := (s.core x.core).eachLane mask (fun k i =>
      let (r, t) := f k i
      (k.wrV x.d i r, t))
    .ok ((s.setCore x.core k).tally x.core t))

/-- FP32 operations of one operand (R153). -/
def State.vecF1 (s : State) (x : RForm) (f : Val → Val) : State :=
  s.vec x (fun k i =>
    let (a, t) := rdFp32 (k.rdV x.a i)
    let (r, u) := toFp32 (f a)
    (r, t.add u))

/-- FP32 operations of two operands. -/
def State.vecF2 (s : State) (x : RForm) (f : Val → Val → Val) : State :=
  s.vec x (fun k i =>
    let (a, t) := rdFp32 (k.rdV x.a i)
    let (b, t') := rdFp32 (k.rdV x.b i)
    let (r, u) := toFp32 (f a b)
    (r, (t.add t').add u))

/-- FP32 operations of three operands. -/
def State.vecF3 (s : State) (x : RForm) (f : Val → Val → Val → Val) : State :=
  s.vec x (fun k i =>
    let (a, t) := rdFp32 (k.rdV x.a i)
    let (b, t') := rdFp32 (k.rdV x.b i)
    let (c, t'') := rdFp32 (k.rdV x.c i)
    let (r, u) := toFp32 (f a b c)
    (r, ((t.add t').add t'').add u))

/-- Sign operations: only the sign bit changes, a subnormal is flushed, and a NaN is not made canonical (R154). -/
def State.vecSign (s : State) (x : RForm) (f : Nat → Nat) : State :=
  s.vec x (fun k i =>
    let c := k.rdV x.a i
    let sub := decide (bits c 30 23 = 0) && decide (bits c 22 0 ≠ 0)
    let c := if sub then c / 2 ^ 31 * 2 ^ 31 else c
    (f c, { flush := b2n sub }))

/-- Bit and INT32 operations. -/
def State.vecI (s : State) (x : RForm) (f : Nat → Nat → Nat) : State :=
  s.vec x (fun k i => (f (k.rdV x.a i) (k.rdV x.b i) % 2 ^ 32, {}))

/-- Comparisons: P[D] bit i, 0 for a disabled lane (R133, R154). -/
def State.vecCmp (s : State) (x : RForm) (f : Nat → Nat → Bool × Tally) : State :=
  s.issueR x true (fun mask s => do
    must (x.mod == 0 && decide (x.d < 8)) St.RESERVED_BITS
    must (!(s.throttled x.core)) waitCode
    let k := s.core x.core
    let r (i : Nat) := f (k.rdV x.a i) (k.rdV x.b i)
    let v := maskOf 64 (fun i => bit mask i && (r i).1)
    let t := ((onesBelow 64 mask).map (fun i => (r i).2)).foldl Tally.add {}
    .ok ((s.setCore x.core (k.wrP x.d v)).tally x.core t))

/-- FP32 comparisons. -/
def State.vecCmpF (s : State) (x : RForm) (f : Val → Val → Bool) : State :=
  s.vecCmp x (fun a b =>
    let (u, t) := rdFp32 a
    let (v, t') := rdFp32 b
    (f u v, t.add t'))

/-- A reduction writing S[D]: `f` answers the value from the registers and the mask. -/
def State.vecRed (s : State) (x : RForm) (f : Core → Nat → Nat × Tally) : State :=
  s.issueR x true (fun mask s => do
    must (x.mod == 0) St.RESERVED_BITS
    must (!(s.throttled x.core)) waitCode
    let k := s.core x.core
    let (v, t) := f k mask
    .ok ((s.setCore x.core (k.wrS x.d v)).tally x.core t))

/-- One level of the summing tree of R155: pairs of the lower and the upper half, each sum rounded once. -/
def sumLevel (h : Nat) (l : List Val) : List Val × Tally :=
  ((List.range h).map (fun i => toFp32 ((l.getD i .nan).add (l.getD (i + h) .nan)))).foldr
    (fun r p => ((rdFp32 r.1).1 :: p.1, r.2.add p.2)) ([], {})

/-- The summing tree of R155 over 2^n values. -/
def sumTree : Nat → List Val → Tally → Val × Tally
  | 0, l, t => (l.getD 0 .nan, t)
  | n + 1, l, t =>
    let (l, u) := sumLevel (2 ^ n) l
    sumTree n l (t.add u)

/-- The lanes of a register as FP32 values, a disabled one as `dflt`. -/
def Core.lanesF (k : Core) (r mask : Nat) (dflt : Val) : List Val × Tally :=
  ((List.range 64).map (fun i => if bit mask i then rdFp32 (k.rdV r i) else (dflt, {}))).foldr
    (fun v p => (v.1 :: p.1, v.2.add p.2)) ([], {})

/-- Signed 32-bit value of a lane. -/
def lane32 (c : Nat) : Int := sext 32 c

/-! ### FP32 and INT32 lane operations (R154) -/

/-- VADD.F (R154). -/
def execVaddF (x : RForm) (s : State) : Host.Outcome State Fault Refusal := .next (s.vecF2 x Val.add)

/-- VSUB.F (R154). -/
def execVsubF (x : RForm) (s : State) : Host.Outcome State Fault Refusal := .next (s.vecF2 x (fun a b => a.add b.negate))

/-- VMUL.F (R154). -/
def execVmulF (x : RForm) (s : State) : Host.Outcome State Fault Refusal := .next (s.vecF2 x Val.mul)

/-- VFMA.F (R154): A × B + C, rounded once. -/
def execVfmaF (x : RForm) (s : State) : Host.Outcome State Fault Refusal := .next (s.vecF3 x (fun a b c => (a.mul b).add c))

/-- VMAX.F (R153, R154). -/
def execVmaxF (x : RForm) (s : State) : Host.Outcome State Fault Refusal := .next (s.vecF2 x Val.maxv)

/-- VMIN.F (R153, R154). -/
def execVminF (x : RForm) (s : State) : Host.Outcome State Fault Refusal := .next (s.vecF2 x Val.minv)

/-- VABS.F (R154). -/
def execVabsF (x : RForm) (s : State) : Host.Outcome State Fault Refusal := .next (s.vecSign x (fun c => c % 2 ^ 31))

/-- VNEG.F (R154). -/
def execVnegF (x : RForm) (s : State) : Host.Outcome State Fault Refusal := .next (s.vecSign x (fun c => c ^^^ 2 ^ 31))

/-- VDIV.F (R153, R154). -/
def execVdivF (x : RForm) (s : State) : Host.Outcome State Fault Refusal := .next (s.vecF2 x Val.div)

/-- VSQRT.F (R153, R154). -/
def execVsqrtF (x : RForm) (s : State) : Host.Outcome State Fault Refusal := .next (s.vecF1 x Val.sqrt)

/-- VRSQ.F (R153, R154). -/
def execVrsqF (x : RForm) (s : State) : Host.Outcome State Fault Refusal := .next (s.vecF1 x Val.rsqrt)

/-- VADD.I (R154). -/
def execVaddI (x : RForm) (s : State) : Host.Outcome State Fault Refusal := .next (s.vecI x (fun a b => a + b))

/-- VSUB.I (R154). -/
def execVsubI (x : RForm) (s : State) : Host.Outcome State Fault Refusal := .next (s.vecI x (fun a b => wrap 32 ((a : Int) - b)))

/-- VMUL.I (R154). -/
def execVmulI (x : RForm) (s : State) : Host.Outcome State Fault Refusal := .next (s.vecI x (fun a b => a * b))

/-- VAND (R154). -/
def execVand (x : RForm) (s : State) : Host.Outcome State Fault Refusal := .next (s.vecI x (fun a b => a &&& b))

/-- VOR (R154). -/
def execVor (x : RForm) (s : State) : Host.Outcome State Fault Refusal := .next (s.vecI x (fun a b => a ||| b))

/-- VXOR (R154). -/
def execVxor (x : RForm) (s : State) : Host.Outcome State Fault Refusal := .next (s.vecI x (fun a b => a ^^^ b))

/-- VSHL (R154): by B[4:0]. -/
def execVshl (x : RForm) (s : State) : Host.Outcome State Fault Refusal := .next (s.vecI x (fun a b => a * 2 ^ (b % 32)))

/-- VSHR (R154): by B[4:0]. -/
def execVshr (x : RForm) (s : State) : Host.Outcome State Fault Refusal := .next (s.vecI x (fun a b => a / 2 ^ (b % 32)))

/-- VSRA (R154): by B[4:0]. -/
def execVsra (x : RForm) (s : State) : Host.Outcome State Fault Refusal := .next (s.vecI x (fun a b => wrap 32 (lane32 a / 2 ^ (b % 32))))

/-- VCMPEQ.F (R154). -/
def execVcmpeqF (x : RForm) (s : State) : Host.Outcome State Fault Refusal := .next (s.vecCmpF x Val.eqv)

/-- VCMPLT.F (R154). -/
def execVcmpltF (x : RForm) (s : State) : Host.Outcome State Fault Refusal := .next (s.vecCmpF x Val.lt)

/-- VCMPLE.F (R154): false when either operand is NaN. -/
def execVcmpleF (x : RForm) (s : State) : Host.Outcome State Fault Refusal := .next (s.vecCmpF x (fun a b => a.lt b || a.eqv b))

/-- VCMPEQ.I (R154). -/
def execVcmpeqI (x : RForm) (s : State) : Host.Outcome State Fault Refusal := .next (s.vecCmp x (fun a b => (a == b, {})))

/-- VCMPLT.I (R154). -/
def execVcmpltI (x : RForm) (s : State) : Host.Outcome State Fault Refusal := .next (s.vecCmp x (fun a b => (decide (lane32 a < lane32 b), {})))

/-- VSEL (R154): A where P[C] bit i is 1, else B. -/
def execVsel (x : RForm) (s : State) : Host.Outcome State Fault Refusal :=
  .next (s.issueR x true (fun mask s => do
    must (x.mod == 0 && decide (x.c < 8)) St.RESERVED_BITS
    must (!(s.throttled x.core)) waitCode
    let (k, _) := (s.core x.core).eachLane mask (fun k i =>
      (k.wrV x.d i (if bit (k.rdP x.c) i then k.rdV x.a i else k.rdV x.b i), {}))
    .ok (s.setCore x.core k)))

/-- VREDSUM.F (R155). -/
def execVredsumF (x : RForm) (s : State) : Host.Outcome State Fault Refusal :=
  .next (s.vecRed x (fun k mask =>
    let (l, t) := k.lanesF x.a mask (.fin false 0)
    let (v, u) := sumTree 6 l t
    ((toFp32 v).1, u)))

/-- VREDMAX.F (R154): −∞ with no enabled lane. -/
def execVredmaxF (x : RForm) (s : State) : Host.Outcome State Fault Refusal :=
  .next (s.vecRed x (fun k mask =>
    let (l, t) := k.lanesF x.a mask (.inf true)
    ((toFp32 (l.foldl Val.maxv (.inf true))).1, t)))

/-- VREDSUM.I (R154): the exact sum of the enabled lanes, sign-extended. -/
def execVredsumI (x : RForm) (s : State) : Host.Outcome State Fault Refusal :=
  .next (s.vecRed x (fun k mask =>
    (wrap 64 (((onesBelow 64 mask).map (fun i => lane32 (k.rdV x.a i))).foldl (· + ·) 0), {})))

/-- VBCAST (R154). -/
def execVbcast (x : RForm) (s : State) : Host.Outcome State Fault Refusal :=
  .next (s.vec x (fun k _ => (k.rdS x.a % 2 ^ 32, {})))

/-! ### Conversion (R612) -/

/-- VCVT (R612). -/
def execVcvt (x : IForm) (s : State) : Host.Outcome State Fault Refusal :=
  .next (s.issueI x true (fun mask s => do
    must (x.mod == 0 && x.imm / 2 ^ 14 == 0) St.RESERVED_BITS
    let src := bits x.imm 4 0 + b2n (bit x.imm 11) * 32
    let dst := bits x.imm 9 5 + b2n (bit x.imm 12) * 32 + b2n (bit x.imm 13) * 2 ^ 13
    must (fmtWordOk src false && fmtWordOk dst false) St.INVALID_ARG
    must (!(s.throttled x.core)) waitCode
    let f := fmtOfWord src
    let g := fmtOfWord dst
    let sr := bit x.imm 10
    if sr then needRng (s.core x.core) (onesBelow 64 mask)
    let (k, t) := (s.core x.core).eachLane mask (fun k i =>
      let (v, t) := f.decode true (k.rdV x.a i % 2 ^ f.width)
      let (r, k) := k.drawIf sr i
      let (c, u) := g.convert v r
      (k.wrV x.d i (c % 2 ^ g.width), convTally t u))
    .ok ((s.setCore x.core k).tally x.core t)))

/-! ### The fused optimiser update (R157) -/

/-- One lane of VUPD: the new master code in MFMT, m1, and the events. -/
def vupdLane (mfmt : Fmt) (w g m d lr b1 c1 wd : Val) (r : Nat) : Nat × Nat × Tally :=
  let (t, k1) := toFp32 (c1.mul g)
  let (m1, k2) := toFp32 ((b1.mul m).add (rdFp32 t).1)
  let (u, k3) := toFp32 ((rdFp32 m1).1.mul d)
  let (u, k4) := toFp32 ((wd.mul w).add (rdFp32 u).1)
  let (wn, k5) := mfmt.convert (w.add (lr.mul (rdFp32 u).1).negate) (some r)
  (wn, m1, (((k1.add k2).add k3).add k4).add k5)

/-- VUPD (R157). -/
def execVupd (x : RForm) (s : State) : Host.Outcome State Fault Refusal :=
  .next (s.issueR x true (fun mask s => do
    must (decide (x.mod < 2)) St.RESERVED_BITS
    must (decide (x.a + 3 ≤ 31) && decide (x.b + 3 ≤ 31) && decide (x.d + 1 ≤ 31)) St.INVALID_ARG
    must (!(s.throttled x.core)) waitCode
    needRng (s.core x.core) (onesBelow 64 mask)
    let mfmt := if x.mod = 0 then bf16 else fp16
    let sc (k : Core) (i : Nat) : Val × Tally := rdFp32 (k.rdS (x.b + i) % 2 ^ 32)
    let (k, t) := (s.core x.core).eachLane mask (fun k i =>
      let la (j : Nat) : Val × Tally := rdFp32 (k.rdV (x.a + j) i)
      let rd := [la 0, la 1, la 2, la 3, sc k 0, sc k 1, sc k 2, sc k 3]
      let t := (rd.map (fun v => v.2)).foldl Tally.add {}
      let (y, k) := k.draw i
      let (wn, m1, u) := vupdLane mfmt (la 0).1 (la 1).1 (la 2).1 (la 3).1 (sc k 0).1 (sc k 1).1 (sc k 2).1 (sc k 3).1 y
      let w := (fp32.convert (mfmt.decode false wn).1 none).1
      ((k.wrV x.d i w).wrV (x.d + 1) i m1, t.add u))
    .ok ((s.setCore x.core k).tally x.core t)))

end Sys2Proof.Machine
end

