-- ==== Sys2Proof/Machine/Ldst.lean ====
section
/-!
DEFINITION. The LDST and RNG classes (R139, R156, R158–R160, R181): scalar, raw and tensor loads and stores, and the lane
generators.
-/

namespace Sys2Proof.Machine

/-- What a lane reads as from a poisoned line (R181). -/
def poisonLane : Nat := 0x7FC00000

/-- The little-endian number of the `n`-th group of `w` bytes, `poison` where a byte of it lies in a poisoned line. -/
def wordAt (w poison : Nat) (bs : List (Nat × Bool)) (n : Nat) : Nat :=
  let g := (bs.drop (w * n)).take w
  if g.any (fun b => b.2) then poison else ofBytes (g.map (fun b => b.1))

/-- The byte that a local address holds now, as a byte that a store shares with other elements is merged. -/
def State.peekByte (s : State) (v : Via) (a : Nat) : Nat :=
  match s.mapAddr v a false false with
  | .error _ => 0
  | .ok pa =>
    let b := (s.rb pa).toNat
    if spaceOf pa = 2 then wcbByte (s.wcb (stackOf (offOf pa))) (offOf pa) b else b

/-- Bytes to store from a mask of the bits written and their values. -/
def State.maskedBytes (s : State) (v : Via) (a n mask val : Nat) : List (Option Nat) :=
  (List.range n).map (fun i =>
    let m := mask / 2 ^ (8 * i) % 256
    let w := val / 2 ^ (8 * i) % 256
    if m = 0 then none
    else if m = 255 then some w
    else some ((s.peekByte v (a + i) &&& (255 - m)) ||| (w &&& m)))

/-! ### Scalar and raw accesses -/

/-- SLD (R139): 8-byte aligned; each 32-bit half from a poisoned line reads as a lane does (R181). -/
def execSld (x : IForm) (s : State) : Host.Outcome State Fault Refusal :=
  .next (s.issueUnitI x false (fun _ s => do
    must (x.mod == 0) St.RESERVED_BITS
    let a := ((s.core x.core).rdS x.a + simm x.imm) % 2 ^ 64
    must (a % 8 == 0) St.ALIGN
    let (s, bs) ← s.ldN (s.via x.core) a 8
    let v := wordAt 4 poisonLane bs 0 + wordAt 4 poisonLane bs 1 * 2 ^ 32
    .ok (s.setCore x.core ((s.core x.core).wrS x.d v))))

/-- SST (R139). -/
def execSst (x : IForm) (s : State) : Host.Outcome State Fault Refusal :=
  .next (s.issueUnitI x false (fun _ s => do
    must (x.mod == 0) St.RESERVED_BITS
    let k := s.core x.core
    let a := (k.rdS x.a + simm x.imm) % 2 ^ 64
    must (a % 8 == 0) St.ALIGN
    s.stN (s.via x.core) a ((leBytes 8 (k.rdS x.d)).map some)))

/-- VLDR (R139): lane i from bytes 4i to 4i + 3, the enabled lanes only. -/
def execVldr (x : RForm) (s : State) : Host.Outcome State Fault Refusal :=
  .next (s.issueUnit x true (fun mask s => do
    must (x.mod == 0) St.RESERVED_BITS
    let a := (s.core x.core).rdS x.a
    must (a % 256 == 0) St.ALIGN
    s.checkSpan (s.via x.core) false false (spanLines 256) a 256
    if mask = 0 then .ok s
    else
      let (s, bs) ← s.ldN (s.via x.core) a 256
      let (k, _) := (s.core x.core).eachLane mask (fun k i => (k.wrV x.d i (wordAt 4 poisonLane bs i), {}))
      .ok (s.setCore x.core k)))

/-- VSTR (R139): the bytes of enabled lanes only. -/
def execVstr (x : RForm) (s : State) : Host.Outcome State Fault Refusal :=
  .next (s.issueUnit x true (fun mask s => do
    must (x.mod == 0) St.RESERVED_BITS
    let k := s.core x.core
    let a := k.rdS x.a
    must (a % 256 == 0) St.ALIGN
    s.stN (s.via x.core) a ((List.range 64).flatMap (fun i =>
      (leBytes 4 (k.rdV x.d i)).map (fun b => if bit mask i then some b else none)))))

/-! ### Tensor rows (R156) -/

/-- Whether VLD and VST move a format as INT32 lanes. -/
def intLanes (t : Ten) : Bool := t.f.isInt && t.f.code != 0x0D

/-- How many of the 64 elements from inner index `i0` lie within DIM0. -/
def Ten.within (t : Ten) (i0 : Nat) : Nat := min 64 (t.dim0 - i0)

/-- Byte address of element (r, i), for an inner index on a byte (or group) boundary. -/
def Ten.elemAddr (t : Ten) (r i : Nat) : Nat := t.rowAddr r + (if t.f.width = 6 then 3 * (i / 4) else t.f.width * i / 8)

/-- The lane code and events of one loaded element: its code, whether poisoned, and its scale byte. A poisoned element is 0x7FC0_0000 (R181)
whatever its scale, 0 included: DESIGN CHOICE, log entry 125. -/
def vldLane (t : Ten) (code : Nat) (poisoned : Bool) (scale : Nat) : Nat × Tally :=
  if poisoned then (poisonLane, {})
  else
    let (v, k) := elemVal t code false scale
    if intLanes t ∧ t.sf = 0 then ((int32.convert v none).1, k)
    else
      let (c, u) := fp32.convert v none
      (c, convTally k u)

/-- VLD (R156). -/
def execVld (x : RForm) (s : State) : Host.Outcome State Fault Refusal :=
  .next (s.issueUnit x true (fun mask s => do
    must (x.mod == 0 && decide (x.c < 16)) St.RESERVED_BITS
    let k := s.core x.core
    let t := k.rdT x.c
    let r := k.rdS x.a
    let i0 := k.rdS x.b
    needValid [t]
    needFmt [t] false
    must (t.innerAligned i0) St.ALIGN
    let n := if r < t.rows then t.within i0 else 0
    if n = 0 then
      .ok (s.setCore x.core (k.eachLane mask (fun k i => (k.wrV x.d i 0, {}))).1)
    else
      must t.rowsAligned St.ALIGN
      let a := t.elemAddr r i0
      let nb := rowBytes t.f n
      let sa := t.scaleAddr r i0
      let sn := if t.sf = 0 then 0 else t.scaleAddr r (i0 + n - 1) + 1 - sa
      s.checkSpan (s.via x.core) false false (spanLines nb) a nb
      s.checkSpan (s.via x.core) false false (spanLines sn) sa sn
      if mask = 0 then .ok s
      else
        let (s, bs) ← s.ldN (s.via x.core) a nb
        let (s, ss) ← s.ldN (s.via x.core) sa sn
        let raw := bs.map (fun b => b.1)
        let sc (i : Nat) : Nat := match ss[t.scaleAddr r (i0 + i) - sa]? with
          | some (b, p) => if p then (if t.sf = 1 then 0xFF else 0x7F) else b
          | none => 0
        let bad (i : Nat) : Bool :=
          let (o, m) := elemSpan t.f i
          ((bs.drop o).take m).any (fun b => b.2)
        let (k, u) := (s.core x.core).eachLane mask (fun k i =>
          if i < n then
            let (c, u) := vldLane t (elemCode t.f raw i) (bad i) (sc i)
            (k.wrV x.d i c, u)
          else (k.wrV x.d i 0, {}))
        let blocks := (((onesBelow 64 mask).filter (fun i => decide (i < n))).map (fun i => t.scaleAddr r (i0 + i))).dedup
        let nan := if t.sf = 0 then 0
          else (blocks.filter (fun b => (scaleVal t.sf (match ss[b - sa]? with
            | some (v, p) => if p then (if t.sf = 1 then 0xFF else 0x7F) else v
            | none => 0)).isNone)).length
        .ok ((s.setCore x.core k).tally x.core (u.add { scaleNan := nan }))))

/-- The lane value that VST converts (R156). -/
def vstVal (t : Ten) (code : Nat) : Val × Tally :=
  if intLanes t then (.fin (decide (lane32 code < 0)) (lane32 code : Rat), {}) else rdFp32 code

/-- VST (R156): no element at or beyond DIM0, nor of a row beyond the last, is written; padding after the row's last
element is written 0 with it (R80), and stays where the last element's lane is disabled: log entry 31. -/
def execVst (x : RForm) (s : State) : Host.Outcome State Fault Refusal :=
  .next (s.issueUnit x true (fun mask s => do
    must (decide (x.mod < 2) && decide (x.c < 16)) St.RESERVED_BITS
    let k := s.core x.core
    let t := k.rdT x.c
    let r := k.rdS x.a
    let i0 := k.rdS x.b
    needValid [t]
    needFmt [t] false
    must (t.sf == 0) St.INVALID_ARG
    must (t.innerAligned i0) St.ALIGN
    let n := if r < t.rows then t.within i0 else 0
    if n = 0 then .ok s
    else
      must t.rowsAligned St.ALIGN
      let a := t.elemAddr r i0
      let nb := rowBytes t.f n
      s.checkSpan (s.via x.core) true false (spanLines nb) a nb
      let lanes := (onesBelow 64 mask).filter (fun i => decide (i < n))
      if x.mod = 1 then needRng k lanes
      let w := t.f.width
      let (k, u, m, v) := lanes.foldl (fun (p : Core × Tally × Nat × Nat) i =>
        let (y, u) := vstVal t (k.rdV x.d i)
        let (q, k) := p.1.drawIf (x.mod == 1) i
        let (c, u') := t.f.convert y q
        (k, p.2.1.add (convTally u u'), p.2.2.1 + (2 ^ w - 1) * 2 ^ (w * i), p.2.2.2 + c % 2 ^ w * 2 ^ (w * i)))
        (k, {}, 0, 0)
      let pad := if i0 + n = t.dim0 ∧ bit mask (n - 1) = true then 2 ^ (8 * nb) - 2 ^ (w * n) else 0
      ((s.setCore x.core k).tally x.core u).stN (s.via x.core) a (s.maskedBytes (s.via x.core) a nb (m + pad) v)))

/-! ### Generators (R158–R160) -/

/-- RNGLD (R159): the states are checked first, then the tap masks, and nothing changes where one fails. A word in a
poisoned line is a free value: no rule states what it reads as. -/
def execRngld (x : RForm) (s : State) : Host.Outcome State Fault Refusal :=
  .next (s.issueUnit x false (fun _ s => do
    must (x.mod == 0) St.RESERVED_BITS
    let a := (s.core x.core).rdS x.a
    must (a % 1024 == 0) St.ALIGN
    let (s, bs) ← s.ldN (s.via x.core) a 1024
    let w (i : Nat) : Nat := wordAt 8 (Config.free (s.free + i) % 2 ^ 64) bs i
    must ((List.range 64).all (fun i => w i != 0)) St.RNG_ZERO
    must ((List.range 64).all (fun i => bit (w (64 + i)) 63)) St.RNG_TAP
    let k := (List.range 64).foldl (fun (k : Core) i =>
      { k with rng := NMap.put i (w i) k.rng, tap := NMap.put i (w (64 + i)) k.tap }) (s.core x.core)
    let s := if bs.any (fun b => b.2) then { s with free := s.free + 128 } else s
    .ok (s.setCore x.core k)))

/-- The image of the generators in the RNGLD layout (R159). -/
def Core.rngImage (k : Core) : List Nat :=
  (List.range 64).flatMap (fun i => leBytes 8 (k.rngState i)) ++ (List.range 64).flatMap (fun i => leBytes 8 (k.rngTap i))

/-- RNGST (R159). -/
def execRngst (x : RForm) (s : State) : Host.Outcome State Fault Refusal :=
  .next (s.issueUnit x false (fun _ s => do
    must (x.mod == 0) St.RESERVED_BITS
    let k := s.core x.core
    must (k.rdS x.a % 1024 == 0) St.ALIGN
    s.stN (s.via x.core) (k.rdS x.a) (k.rngImage.map some)))

/-- RNGDRAW (R139, R158). -/
def execRngdraw (x : RForm) (s : State) : Host.Outcome State Fault Refusal :=
  .next (s.issueR x true (fun mask s => do
    must (decide (x.mod < 2)) St.RESERVED_BITS
    needRng (s.core x.core) (onesBelow 64 mask)
    let (k, _) := (s.core x.core).eachLane mask (fun k i =>
      let (y, k) := k.draw i
      (k.wrV x.d i (if x.mod = 0 then y % 2 ^ 32 else y / 2 ^ 32), {}))
    .ok (s.setCore x.core k)))

end Sys2Proof.Machine
end

