-- ==== Sys2Proof/Machine/Sync.lean ====
section
/-!
DEFINITION. The SYNC and DMA classes and FENCE (R163–R165, R189, R202): signals, queuing DMA descriptors, and waiting for
earlier accesses.
-/

namespace Sys2Proof.Machine

/-! ### DMA queues (R189) -/

/-- Queue `i` of an engine. -/
def DmaEng.q (e : DmaEng) (i : Nat) : List DmaDesc :=
  match i with
  | 0 => e.q0
  | 1 => e.q1
  | 2 => e.q2
  | _ => e.q3

/-- Replace queue `i` of an engine. -/
def DmaEng.setQ (e : DmaEng) (i : Nat) (l : List DmaDesc) : DmaEng :=
  match i with
  | 0 => { e with q0 := l }
  | 1 => { e with q1 := l }
  | 2 => { e with q2 := l }
  | _ => { e with q3 := l }

/-- All descriptors of an engine, queue by queue. -/
def DmaEng.all (e : DmaEng) : List DmaDesc := e.q0 ++ e.q1 ++ e.q2 ++ e.q3

/-- Number of the cluster DMA engine of a cluster. -/
def engCluster (n : Nat) : Nat := 1024 + n

/-- The engine that DMAQ's MOD[0] names for a core, and the queue there (R164, R189). -/
def engineOf (c sel : Nat) : Nat × Nat := if sel = 0 then (c, 0) else (engCluster (c / 16), c / 4 % 4)

/-- Descriptors that a queue holds. -/
def engDepth (e : Nat) : Nat := if e < 1024 then 16 else 32

/-- FILL and ACTIVE fields of an engine follow its queues (R205, R208). -/
def State.engRegs (s : State) (e : Nat) : State :=
  let x := s.eng e
  let act := x.all.any DmaDesc.started
  let p := pEng e
  if e < 1024 then (s.wr R.CORE_DMA_STATUS_FILL p x.q0.length).wrB R.CORE_DMA_STATUS_ACTIVE p act
  else
    ((((s.wr R.CLU_CDMA_STATUS_FILL0 p x.q0.length).wr R.CLU_CDMA_STATUS_FILL1 p x.q1.length).wr
      R.CLU_CDMA_STATUS_FILL2 p x.q2.length).wr R.CLU_CDMA_STATUS_FILL3 p x.q3.length).wrB R.CLU_CDMA_STATUS_ACTIVE p act

/-- Replace an engine's queues. -/
def State.putEng (s : State) (e : Nat) (x : DmaEng) : State := (s.setEng e x).engRegs e

/-- Set the engine's generator after an SR descriptor: its own advance on OK, then a write that waited (R195, R205). -/
def State.engRngEnd (s : State) (e : Nat) (d : DmaDesc) : State :=
  let p := pEng e
  let fs := if e < 1024 then R.CORE_DMA_RNG_STATE_VALUE else R.CLU_CDMA_RNG_STATE_VALUE
  let ft := if e < 1024 then R.CORE_DMA_RNG_TAP_VALUE else R.CLU_CDMA_RNG_TAP_VALUE
  let put (f : Fld) (o : Option Nat) (s : State) : State := o.elim s (fun v => s.wr f p v)
  put ft d.tapW (put fs d.rngW (put fs d.rng s))

/-- Whether the queue has room. -/
def State.engRoom (s : State) (e i : Nat) : Bool := decide (((s.eng e).q i).length < engDepth e)

/-- Place a descriptor in a queue. -/
def State.enqueue (s : State) (e i c addr desc : Nat) : State :=
  let x := s.eng e
  let k := s.core c
  let d : DmaDesc := ⟨desc, addr, c, k.fn, k.layer, k.op, false, none, 0, none, none, none, 0, k.launch, x.taken, []⟩
  s.putEng e { x.setQ i (x.q i ++ [d]) with taken := x.taken + 1 }

/-- Read the descriptor at a local address; one in a poisoned line is a free value: no rule states what it reads as. -/
def State.readDesc (s : State) (c a : Nat) : Except Nat (State × Nat) := do
  let (s, bs) ← s.ldN (s.via c) a 64
  if bs.any (fun b => b.2) then
    let (v, s) := s.freeVal
    .ok (s, v % 2 ^ 512)
  else .ok (s, ofBytes (bs.map (fun b => b.1)))

/-- DMAQ (R164): waits while the queue is full. -/
def execDmaq (x : RForm) (s : State) : Host.Outcome State Fault Refusal :=
  .next (s.issue x.core x.pred x.pneg x.ups false (fun _ s => do
    must (decide (x.mod < 2)) St.RESERVED_BITS
    let s := s.catchUp x.core
    let a := (s.core x.core).rdS x.a
    must (a % 64 == 0) St.ALIGN
    must (ownLine a) St.ADDR_RANGE
    let (e, i) := engineOf x.core x.mod
    s.checkSpan (s.via x.core) false false (spanLines 64) a 64
    if s.engRoom e i then
      let (s, d) ← s.readDesc x.core a
      .ok (s.enqueue e i x.core a d, some (s.pc x.core + 8))
    else
      .ok ((s.setCore x.core { s.core x.core with wait := some (.dma x.mod a) }).wr R.CORE_RUN_STATUS_DMA_WAIT (pCore x.core) 1,
        none)))

/-- A waiting instruction completes. -/
def State.waitOver (s : State) (c : Nat) : State :=
  let s := s.setCore c { s.core c with wait := none }
  let s := (s.wr R.CORE_RUN_STATUS_DMA_WAIT (pCore c) 0).wr R.CORE_RUN_STATUS_SIG_WAIT (pCore c) 0
  s.retire c (s.pc c + 8)

/-- DMAQ_SPACE (R164): a waiting DMAQ finds room and queues its descriptor. -/
def execDmaqSpace (core : Nat) (s : State) : Host.Outcome State Fault Refusal :=
  .next (match (s.core core).wait with
    | some (.dma sel a) =>
      let (e, i) := engineOf core sel
      if s.engRoom e i then
        match s.readDesc core a with
        | .ok (s, d) => (s.enqueue e i core a d).waitOver core
        | .error code =>
          if code = waitCode then s
          else ((s.setCore core { s.core core with wait := none }).wr R.CORE_RUN_STATUS_DMA_WAIT (pCore core) 0).takeExc core code
      else s
    | _ => s)

/-! ### Signals (R163) -/

/-- SIGWAIT (R163). -/
def execSigwait (x : RForm) (s : State) : Host.Outcome State Fault Refusal :=
  .next (s.issue x.core x.pred x.pneg x.ups false (fun _ s => do
    must (x.mod == 0) St.RESERVED_BITS
    let k := s.core x.core
    let n := k.rdS x.a % 65536
    let v := k.rdS x.b
    must (s.ownsSig k.fn n) St.DENIED
    if s.sigVal n ≥ v then .ok (s, some (s.pc x.core + 8))
    else
      .ok ((s.setCore x.core { k with wait := some (.sig n v) }).wr R.CORE_RUN_STATUS_SIG_WAIT (pCore x.core) 1, none)))

/-- SIGWAIT_MET (R163): a waiting SIGWAIT finds its signal at or above the value. -/
def execSigwaitMet (core : Nat) (s : State) : Host.Outcome State Fault Refusal :=
  .next (match (s.core core).wait with
    | some (.sig n v) => if s.sigVal n ≥ v then s.waitOver core else s
    | _ => s)

/-- SIGSET (R163). -/
def execSigset (x : RForm) (s : State) : Host.Outcome State Fault Refusal :=
  .next (s.issueR x false (fun _ s => do
    must (x.mod == 0) St.RESERVED_BITS
    let k := s.core x.core
    let n := k.rdS x.a % 65536
    must (s.ownsSig k.fn n) St.DENIED
    .ok (s.sigSet n (k.rdS x.b))))

/-- SIGADD (R163): SIG_OVERFLOW leaves the signal unchanged. -/
def execSigadd (x : RForm) (s : State) : Host.Outcome State Fault Refusal :=
  .next (s.issueR x false (fun _ s => do
    must (x.mod == 0) St.RESERVED_BITS
    let k := s.core x.core
    let n := k.rdS x.a % 65536
    must (s.ownsSig k.fn n) St.DENIED
    match s.sigAdd n (k.rdS x.b) with
    | (0, s) => .ok s
    | (e, _) => .error e))

/-! ### FENCE (R165, R202) -/

/-- Whether a flow holds a frame of a PUT of a core that its remote module has not acknowledged (R193, R202). -/
def State.putOut (s : State) (c : Nat) : Bool :=
  s.net.flows.any (fun f => (f.2.waitq ++ f.2.sent).any (fun r => decide (r.op = 1) && decide (r.src.map Prod.fst = some c)))

/-- Whether every access of the scopes is complete: the writes of a SQUANT to the scratchpad (scope 0), this core's descriptors (scope 1)
and its puts (scope 2), every frame of them acknowledged, and none left without its acknowledgement (log entry 124). Any other write to a
scratchpad or to the translated window is performed when it is made. -/
def State.fenceDone (s : State) (c scopes : Nat) : Bool :=
  let mine := ((s.eng c).all ++ (s.eng (engCluster (c / 16))).all).filter (fun d => decide (d.core = c))
  let written := match (s.core c).squant with
    | some r => decide (r.total ≤ r.done)
    | none => true
  (!(bit scopes 0) || written) && (!(bit scopes 1) || mine.isEmpty)
    && (!(bit scopes 2) || (mine.all (fun d => decide (d.desc % 16 ≠ 5)) && !(s.putOut c) && !(s.core c).putLost))

/-- FENCE (R165). -/
def execFence (x : IForm) (s : State) : Host.Outcome State Fault Refusal :=
  .next (s.issue x.core x.pred x.pneg x.ups false (fun _ s => do
    must (x.mod == 0 && x.imm / 16 == 0) St.RESERVED_BITS
    must (x.imm % 16 != 0) St.INVALID_ARG
    if s.fenceDone x.core x.imm then .ok (s, some (s.pc x.core + 8))
    else .ok (s.setCore x.core { s.core x.core with wait := some (.fence x.imm) }, none)))

/-- FENCE_DONE (R202): a waiting FENCE finds every access in its scopes complete. -/
def execFenceDone (core : Nat) (s : State) : Host.Outcome State Fault Refusal :=
  .next (match (s.core core).wait with
    | some (.fence scopes) => if s.fenceDone core scopes then s.waitOver core else s
    | _ => s)

end Sys2Proof.Machine
end

