-- ==== Sys2Proof/Machine/Dma.lean ====
section
/-!
DEFINITION. The DMA engines (R189–R199): which descriptor starts, its checks, COPY, CONVERT, FILL and TRANSPOSE, and completion.
-/

namespace Sys2Proof.Machine

/-! ### Descriptor fields (R190, R191) -/

/-- A field of a descriptor: `len` bits at byte offset `off`. -/
def DmaDesc.fld (d : DmaDesc) (off len : Nat) : Nat := bits d.desc (8 * off + len - 1) (8 * off)
/-- OP. -/
def DmaDesc.opc (d : DmaDesc) : Nat := bits d.desc 3 0
/-- SR. -/
def DmaDesc.sr (d : DmaDesc) : Bool := bit d.desc 8
/-- ERR_SIGNAL. -/
def DmaDesc.errSignal (d : DmaDesc) : Bool := bit d.desc 9
/-- FENCE. -/
def DmaDesc.fence (d : DmaDesc) : Bool := bit d.desc 10
/-- COMPL_SIG. -/
def DmaDesc.sig (d : DmaDesc) : Nat := bits d.desc 31 16
/-- SIG_INC. -/
def DmaDesc.inc (d : DmaDesc) : Nat := d.fld 4 32
/-- SRC. -/
def DmaDesc.src (d : DmaDesc) : Nat := d.fld 8 64
/-- DST. -/
def DmaDesc.dst (d : DmaDesc) : Nat := d.fld 0x10 64
/-- SRC_FMT. -/
def DmaDesc.srcFmt (d : DmaDesc) : Nat := d.fld 0x18 32
/-- DST_FMT. -/
def DmaDesc.dstFmt (d : DmaDesc) : Nat := d.fld 0x1C 32
/-- ROWS. -/
def DmaDesc.rows (d : DmaDesc) : Nat := d.fld 0x20 32
/-- COLS. -/
def DmaDesc.cols (d : DmaDesc) : Nat := d.fld 0x24 32
/-- SRC_STRIDE. -/
def DmaDesc.srcStride (d : DmaDesc) : Nat := d.fld 0x28 32
/-- DST_STRIDE. -/
def DmaDesc.dstStride (d : DmaDesc) : Nat := d.fld 0x2C 32

/-- The source as a tensor of one plane. -/
def DmaDesc.srcTen (d : DmaDesc) : Ten :=
  ⟨d.src, d.fld 0x30 48, d.cols, d.rows, 1, d.srcFmt, d.srcStride, 0, d.fld 0x36 16, 0⟩

/-- The destination as a tensor of one plane: transposed under TRANSPOSE. -/
def DmaDesc.dstTen (d : DmaDesc) : Ten :=
  let (r, c) := if d.opc = 4 then (d.cols, d.rows) else (d.rows, d.cols)
  ⟨d.dst, d.fld 0x38 48, c, r, 1, d.dstFmt, d.dstStride, 0, d.fld 0x3E 16, 0⟩

/-- Whether a descriptor is a widening CONVERT (R192). -/
def DmaDesc.widens (d : DmaDesc) : Bool := d.opc == 2 && d.dstTen.sf != 0

/-- Whether the descriptor draws: SR is ignored by a widening CONVERT. -/
def DmaDesc.draws (d : DmaDesc) : Bool := d.opc == 2 && d.sr && !d.widens

/-! ### Which descriptor starts (R189, R191, R195, R408) -/

/-- The place, among those of a queue, of its first descriptor that has not started. -/
def firstWaiting (l : List DmaDesc) : Option (Nat × DmaDesc) :=
  ((l.zipIdx).find? (fun e => !e.1.started)).map (fun e => (e.2, e.1))

/-- Descriptors in progress. -/
def DmaEng.running (x : DmaEng) : List DmaDesc := x.all.filter DmaDesc.started

/-- Whether the first waiting descriptor of a queue may start: at most 4 in progress, none of them SR, FENCE and SR
descriptors after those before them, and none after an SR descriptor that its engine took before (R189, R191, R195). -/
def DmaEng.ready (x : DmaEng) (i : Nat) : Option (Nat × DmaDesc) :=
  match firstWaiting (x.q i) with
  | none => none
  | some (n, d) =>
    if x.running.length < 4 ∧ x.running.all (fun r => !r.draws) = true
        ∧ (d.fence = false ∨ n = 0)
        ∧ x.all.all (fun r => decide (d.place ≤ r.place) || (!d.draws && !r.draws)) = true
    then some (n, d) else none

/-- Weight of a quad queue: CDMA_WEIGHT of the function that owns the quad (R408). -/
def State.quadWeight (s : State) (q : Nat) : Nat := Nat.max 1 (s.fnRes ((s.quadFn q).getD 0)).weight

/-- The queue that an engine serves next, in weighted round robin: the current one while starts are left to it. -/
def State.dmaPick (s : State) (e : Nat) : Option (Nat × Nat × DmaDesc) :=
  let x := s.eng e
  let cand (i : Nat) : Option (Nat × Nat × DmaDesc) := (x.ready i).map (fun p => (i, p.1, p.2))
  if e < 1024 then cand 0
  else
    let order := (if x.left = 0 then [] else [x.turn]) ++ (List.range 4).map (fun k => (x.turn + 1 + k) % 4)
    order.findSome? cand

/-- Whether an engine serves its queues: powered, not halted, and, for a cluster DMA in service, not quiescing (R199, R467). -/
def State.engServes (s : State) (e : Nat) : Bool :=
  let p := pEng e
  s.pageOn p && !(s.halted) && (decide (e < 1024) || decide (s.workStatus p ≠ St.OK) || !(s.quiescing p))

/-- Whether an engine takes descriptors as work: it serves its queues, and is in service (R14). -/
def State.engTakes (s : State) (e : Nat) : Bool := s.engServes e && decide (s.workStatus (pEng e) = St.OK)

/-- The round robin after a start from queue `i`. -/
def State.dmaTurn (s : State) (e i : Nat) : State :=
  let x := s.eng e
  if e < 1024 then s
  else if i = x.turn ∧ x.left > 0 then s.setEng e { x with left := x.left - 1 }
  else s.setEng e { x with turn := i, left := s.quadWeight (4 * (e - 1024) + i) - 1 }

/-! ### Checks (R194) -/

/-- The engine's generator: state and tap mask (R195). -/
def State.engRng (s : State) (e : Nat) : Nat × Nat :=
  let p := pEng e
  if e < 1024 then (s.rg R.CORE_DMA_RNG_STATE_VALUE p, s.rg R.CORE_DMA_RNG_TAP_VALUE p)
  else (s.rg R.CLU_CDMA_RNG_STATE_VALUE p, s.rg R.CLU_CDMA_RNG_TAP_VALUE p)

/-- The pairs of a widening CONVERT (R192). -/
def widenPair (f g : Fmt) : Bool :=
  match f.code with
  | 0x04 => (g.code == 0x03 || g.code == 0x02 || g.code == 0x0C) && f.sgn == g.sgn
  | 0x05 => (g.code == 0x03 || g.code == 0x02 || g.code == 0x0C) && g.sgn
  | 0x03 => (g.code == 0x02 || g.code == 0x0C) && f.sgn == g.sgn
  | 0x02 => g.code == 0x0C && f.sgn == g.sgn
  | 0x01 => g.code == 0x08 || g.code == 0x09 || g.code == 0x0A
  | 0x08 => g.code == 0x0A
  | 0x09 => g.code == 0x0A
  | _ => false

/-- The pair of format words of CONVERT and TRANSPOSE (R192, R198). BLK_DIR of a TRANSPOSE must differ without scales too, as R198 says; R58
ignores it there: DEDUCED, log entry 126. -/
def DmaDesc.pairOk (d : DmaDesc) : Bool :=
  let s := d.srcTen
  let t := d.dstTen
  if d.opc = 4 then
    (s.f.width == 4 || s.f.width == 8) && decide (putBit d.srcFmt 11 false = putBit d.dstFmt 11 false) && (s.outer != t.outer)
  else if t.sf = 0 then true
  else s.sf == t.sf && s.blk == t.blk && s.outer == t.outer && widenPair s.f t.f

/-- Bytes of a tensor of one plane: its elements, and its scales where it has them. -/
def Ten.planeBytes (t : Ten) : Nat := t.dim1 * rowBytes t.f t.dim0 + (if t.sf = 0 then 0 else t.scaleDims.1 * t.scaleDims.2)

/-- Bytes that a descriptor would move: the larger of its source and destination. -/
def DmaDesc.size (d : DmaDesc) : Nat :=
  if d.opc = 2 ∨ d.opc = 4 then Nat.max d.srcTen.planeBytes d.dstTen.planeBytes else d.rows * d.cols

/-- The checks of R194 in table order: the status of the first that fails. `flowOk` says whether the flow of a PUT or GET is
the function's. -/
def State.dmaCheck (s : State) (e : Nat) (d : DmaDesc) (flowOk : Bool) : Nat :=
  let op := d.opc
  let formats := op = 2 ∨ op = 4
  let w (x : Nat) : Bool := bit x 31 && decide (bits x 30 14 = 0) && fmtWordOk x false
  if op = 0 ∨ op > 6 ∨ bits d.desc 15 11 ≠ 0 ∨ bits d.desc 7 4 ≠ 0 ∨ (d.sr = true ∧ op ≠ 2) ∨ d.size > 2 ^ 32 then St.INVALID_ARG
  else if op = 4 ∧ e < 1024 then St.NOT_SUPPORTED
  else if formats ∧ (w d.srcFmt && w d.dstFmt && d.pairOk) = false then St.INVALID_ARG
  else if (d.inc ≠ 0 ∧ s.ownsSig d.fn d.sig = false) ∨ flowOk = false then St.DENIED
  else if formats ∧ (d.srcTen.rowsAligned && d.dstTen.rowsAligned) = false then St.ALIGN
  else if d.draws = true ∧ (s.engRng e).1 = 0 then St.RNG_ZERO
  else if d.draws = true ∧ bit (s.engRng e).2 63 = false then St.RNG_TAP
  else St.OK

/-! ### Moving data -/

/-- How a descriptor reaches memory (R174). -/
def DmaDesc.via (d : DmaDesc) : Via := ⟨d.core, d.fn, true⟩

/-- Bytes read and written, counted on the engine's page (R207, R210). -/
def State.dmaBytes (s : State) (e rd wr : Nat) : State :=
  let p := pEng e
  if e < 1024 then (s.cnt p Cn.CORE_DMA_RD_BYTES rd).cnt p Cn.CORE_DMA_WR_BYTES wr
  else (s.cnt p Cn.CLU_CDMA_RD_BYTES rd).cnt p Cn.CLU_CDMA_WR_BYTES wr

/-- The result of moving data: the status so far, the state, and the bytes written. -/
abbrev Move := Nat × State × Nat

/-- Whether a byte of a span lies behind a far-tier link that is down (R267): the read still delivers poisoned lines. -/
def State.farDown (s : State) (v : Via) (a n : Nat) : Bool :=
  (List.range (spanLines n)).any (fun i =>
    let b := if i = 0 then a else (a / 64 + i) * 64
    decide (b < a + n) && (match s.mapAddr v b false false with
      | .ok pa => decide (spaceOf pa = 3) && !(s.farUp (offOf pa))
      | .error _ => false))

/-- Bytes of a span that are written before the line that ends the walk. -/
def State.spanWritten (s : State) (v : Via) : Nat → Nat → List (Option Nat × Bool) → Nat
  | 0, _, _ => 0
  | k + 1, a, bs =>
    if bs = [] then 0
    else
      let c := chunk a bs.length
      match s.writeSpan v 1 a (bs.take c) with
      | (0, s) => c + s.spanWritten v k (a + c) (bs.drop c)
      | _ => 0

/-- Write one run of bytes at a local address, line by line (R194); what was written is counted (R207, R210). -/
def State.dmaStore (s : State) (e : Nat) (v : Via) (a : Nat) (bs : List (Nat × Bool)) : Move :=
  let row := bs.map (fun b => (some b.1, b.2))
  let (st, t) := s.writeSpan v (spanLines bs.length) a row
  let w := if st = St.OK then bs.length else s.spanWritten v (spanLines bs.length) a row
  (st, t.dmaBytes e 0 w, w)

/-- An engine reads bytes at a local address; the code of a line that is refused comes with the state, in which what was read before it is
counted (R207, R210). -/
def State.dmaLoad (s : State) (e : Nat) (v : Via) (a n : Nat) : Except (Nat × State) (State × List (Nat × Bool)) :=
  match s.readUpto v (spanLines n) a n with
  | (s, bs, none) => .ok (s.dmaBytes e bs.length 0, bs)
  | (s, bs, some c) => .error (c, s.dmaBytes e bs.length 0)

/-- Copy `n` bytes from `a` to `b`, one destination line at a time: what was written before an unmapped line stays. -/
def State.copyRun (s : State) (e : Nat) (v : Via) : Nat → Nat → Nat → Nat → Move
  | 0, _, _, _ => (St.OK, s, 0)
  | k + 1, a, b, n =>
    if n = 0 then (St.OK, s, 0)
    else
      let c := chunk b n
      match s.dmaLoad e v a c with
      | .error (st, s) => (st, s, 0)
      | .ok (s, bs) =>
        match s.dmaStore e v b bs with
        | (0, s, w) =>
          let (st, s, w') := s.copyRun e v k (a + c) (b + c) (n - c)
          (st, s, w + w')
        | r => r

/-- Do `row` for each of `n` rows while all is well. -/
def eachRow (n : Nat) (s : State) (row : State → Nat → Move) : Move :=
  (List.range n).foldl (fun (acc : Move) r =>
    match acc with
    | (0, s, w) =>
      let (st, s, w') := row s r
      (st, s, w + w')
    | bad => bad) (St.OK, s, 0)

/-- COPY (R192). -/
def State.dmaCopy (s : State) (e : Nat) (d : DmaDesc) : Move :=
  eachRow d.rows s (fun s r =>
    s.copyRun e d.via (d.cols / 64 + 2) (d.src + r * d.srcStride) (d.dst + r * d.dstStride) d.cols)

/-- FILL (R192): the pattern repeated from byte 0 of each row. -/
def State.dmaFill (s : State) (e : Nat) (d : DmaDesc) : Move :=
  let pat := leBytes 8 d.src
  eachRow d.rows s (fun s r =>
    s.dmaStore e d.via (d.dst + r * d.dstStride) ((List.range d.cols).map (fun i => (pat.getD (i % 8) 0, false))))

/-- Read a row of elements: codes with their poison marks. -/
def State.dmaRow (s : State) (e : Nat) (v : Via) (t : Ten) (r : Nat) : Except (Nat × State) (State × List (Nat × Bool)) := do
  let (s, bs) ← s.dmaLoad e v (t.rowAddr r) (rowBytes t.f t.dim0)
  let raw := bs.map (fun b => b.1)
  .ok (s, (List.range t.dim0).map (fun i =>
    let (o, m) := elemSpan t.f i
    (elemCode t.f raw i, ((bs.drop o).take m).any (fun b => b.2))))

/-- The bytes of a row of codes, each with the mark of the elements it holds. -/
def packMarked (f : Fmt) (codes : List (Nat × Bool)) : List (Nat × Bool) :=
  let bs := packRow f (codes.map (fun c => c.1))
  (bs.zipIdx).map (fun b => (b.1, (codes.zipIdx).any (fun c =>
    c.1.2 && (let (o, m) := elemSpan f c.2; decide (o ≤ b.2) && decide (b.2 < o + m)))))

/-- The scale bytes of row `i` of a scale tensor of one plane, the NaN scale from a poisoned line (R181). -/
def State.scaleRow (s : State) (e : Nat) (v : Via) (t : Ten) (i : Nat) : Except (Nat × State) (State × List (Nat × Bool)) :=
  s.dmaLoad e v (t.sbase + i * t.ss1) t.scaleDims.2

/-- The NaN scale of a poisoned byte. -/
def scaleOf (t : Ten) (b : Nat × Bool) : Nat := if b.2 then (if t.sf = 1 then 0xFF else 0x7F) else b.1

/-- The scale of column `c` in a scale row (R74). -/
def Ten.scaleIn (t : Ten) (row : List (Nat × Bool)) (c : Nat) : Nat :=
  scaleOf t (row.getD (if t.outer then c else c / t.blk) (0, false))

/-- Convert one row of elements; `st` is the engine's generator (R81, R86, R195). The marks of poisoned elements stay.
A poisoned element in a block whose scale is 0 reads as 0 (R71), and not as NaN (R181): DESIGN CHOICE, log entry 125. -/
def convertRow (src dst : Ten) (draw : Bool) (tap : Nat) (scales : List (Nat × Bool)) (codes : List (Nat × Bool)) (st : Nat) :
    List (Nat × Bool) × Nat × Tally :=
  (codes.zipIdx).foldl (fun (acc : List (Nat × Bool) × Nat × Tally) c =>
    let (v, k) := src.f.decode false c.1.1
    let v := if c.1.2 then .nan else v
    let k := if c.1.2 then {} else k
    let v := if src.sf = 0 then v else v.scaled (scaleVal src.sf (src.scaleIn scales c.2))
    let (y, st) := if draw then
        let (n, y) := rngDraw acc.2.1 tap
        (some (y % 65536), n)
      else (none, acc.2.1)
    let (code, u) := dst.f.convert v y
    (acc.1 ++ [(code, c.1.2)], st, acc.2.2.add (convTally k u))) ([], st, {})

/-- Blocks with a NaN scale that a row begins to read (R71): all of a row's with blocks along it, and those of the first row
of each block otherwise. -/
def nanBlocks (t : Ten) (r : Nat) (scales : List (Nat × Bool)) : Nat :=
  if t.sf = 0 ∨ (t.outer = true ∧ r % t.blk ≠ 0) then 0
  else (scales.filter (fun b => (scaleVal t.sf (scaleOf t b)).isNone)).length

/-- One row of a converting CONVERT. -/
def State.convRow (s : State) (e : Nat) (d : DmaDesc) (st : Nat) (r : Nat) : Move × Nat :=
  let src := d.srcTen
  let dst := d.dstTen
  match (do
    let (s, codes) ← s.dmaRow e d.via src r
    if src.sf = 0 then .ok (s, codes, [])
    else
      let (s, sc) ← s.scaleRow e d.via src (if src.outer then r / src.blk else r)
      .ok (s, codes, sc) : Except (Nat × State) (State × List (Nat × Bool) × List (Nat × Bool))) with
  | .error (c, s) => ((c, s, 0), st)
  | .ok (s, codes, sc) =>
    let (out, st, t) := convertRow src dst d.draws (s.engRng e).2 sc codes st
    let s := s.tally d.core (t.add { scaleNan := nanBlocks src r sc })
    (s.dmaStore e d.via (dst.rowAddr r) (packMarked dst.f out), st)

/-- CONVERT to a format without scales: row by row, drawing in row-major order. -/
def State.dmaConvert (s : State) (e : Nat) (d : DmaDesc) : Move × Nat :=
  (List.range d.rows).foldl (fun (acc : Move × Nat) r =>
    match acc with
    | ((0, s, w), st) =>
      let ((c, s, w'), st) := s.convRow e d st r
      ((c, s, w + w'), st)
    | bad => bad) ((St.OK, s, 0), (s.engRng e).1)

/-- Copy the rows of a scale tensor (R192). -/
def State.copyScales (s : State) (e : Nat) (d : DmaDesc) : Move :=
  eachRow d.srcTen.scaleDims.1 s (fun s i =>
    s.copyRun e d.via (d.srcTen.scaleDims.2 / 64 + 2) (d.srcTen.sbase + i * d.srcTen.ss1) (d.dstTen.sbase + i * d.dstTen.ss1)
      d.srcTen.scaleDims.2)

/-- A widening CONVERT (R192): every value exactly in the wider format, and the scales copied. A scale byte that it reads only to copy it is no
scale that it applies: that no SCALE_NAN is counted for one (R71) is a DESIGN CHOICE, log entry 136. -/
def State.dmaWiden (s : State) (e : Nat) (d : DmaDesc) : Move :=
  let src := d.srcTen
  let dst := d.dstTen
  let m := eachRow d.rows s (fun s r =>
    match s.dmaRow e d.via src r with
    | .error (c, s) => (c, s, 0)
    | .ok (s, codes) =>
      let out := codes.map (fun c => (match (src.f.decode false c.1).1 with
        | .fin n x => dst.f.encode n x
        | _ => 0, c.2))
      let bad := ((codes.map (fun c => (src.f.decode false c.1).2)).foldl Tally.add {}).ternBad
      (s.tally d.core { ternBad := bad }).dmaStore e d.via (dst.rowAddr r) (packMarked dst.f out))
  match m with
  | (0, s, w) =>
    let (c, s, w') := s.copyScales e d
    (c, s, w + w')
  | bad => bad

/-- Read every row of a tensor, codes with marks. -/
def State.dmaRows (s : State) (e : Nat) (v : Via) (t : Ten) : Nat → Except (Nat × State) (State × List (List (Nat × Bool)))
  | 0 => .ok (s, [])
  | n + 1 => do
    let (s, l) ← s.dmaRows e v t n
    let (s, r) ← s.dmaRow e v t n
    .ok (s, l ++ [r])

/-- Read every row of a scale tensor. -/
def State.scaleRowsAll (s : State) (e : Nat) (v : Via) (t : Ten) : Nat → Except (Nat × State) (State × List (List (Nat × Bool)))
  | 0 => .ok (s, [])
  | n + 1 => do
    let (s, l) ← s.scaleRowsAll e v t n
    let (s, r) ← s.scaleRow e v t n
    .ok (s, l ++ [r])

/-- Column `c` of a list of rows. -/
def column (l : List (List (Nat × Bool))) (c : Nat) : List (Nat × Bool) := l.map (fun r => r.getD c (0, false))

/-- TRANSPOSE (R198): element (r, c) becomes (c, r), and scale byte (i, j) becomes (j, i). -/
def State.dmaTranspose (s : State) (e : Nat) (d : DmaDesc) : Move :=
  let src := d.srcTen
  let dst := d.dstTen
  match s.dmaRows e d.via src src.dim1 with
  | .error (c, s) => (c, s, 0)
  | .ok (s, rows) =>
    match (if src.sf = 0 then .ok (s, []) else s.scaleRowsAll e d.via src src.scaleDims.1) with
    | .error (c, s) => (c, s, 0)
    | .ok (s, scales) =>
      let m := eachRow dst.dim1 s (fun s r => s.dmaStore e d.via (dst.rowAddr r) (packMarked dst.f (column rows r)))
      let m := match m with
        | (0, s, w) =>
          if src.sf = 0 then (0, s, w)
          else
            let (c, s, w') := eachRow dst.scaleDims.1 s (fun s i => s.dmaStore e d.via (dst.sbase + i * dst.ss1) (column scales i))
            (c, s, w + w')
        | bad => bad
      (m.1, m.2.1.cnt (pEng e) Cn.CLU_TRANSPOSE_BYTES m.2.2, m.2.2)

/-! ### Starting and completing -/

/-- Replace a descriptor of a queue. -/
def State.setDesc (s : State) (e i n : Nat) (d : DmaDesc) : State :=
  let x := s.eng e
  s.putEng e (x.setQ i ((x.q i).set n d))

/-- Whether a descriptor's source lies behind a far-tier link that is down. -/
def State.srcFarDown (s : State) (d : DmaDesc) : Bool :=
  let t := d.srcTen
  let n := if d.opc = 1 then d.cols else rowBytes t.f d.cols
  (d.opc == 1 || d.opc == 2 || d.opc == 4) && (List.range d.rows).any (fun r => s.farDown d.via (d.src + r * d.srcStride) n)

/-- The spans of local addresses that a descriptor writes on this module: its rows and its scales. -/
def DmaDesc.dstSpans (d : DmaDesc) : List (Nat × Nat) :=
  let t := d.dstTen
  let rows (n : Nat) : List (Nat × Nat) := (List.range d.rows).map (fun r => (d.dst + r * d.dstStride, n))
  let scales : List (Nat × Nat) := if t.sf = 0 then [] else (List.range t.scaleDims.1).map (fun i => (t.sbase + i * t.ss1, t.scaleDims.2))
  match d.opc with
  | 1 => rows d.cols
  | 2 => rows (rowBytes t.f d.cols) ++ scales
  | 3 => rows d.cols
  | 4 => (List.range t.dim1).map (fun r => (t.rowAddr r, rowBytes t.f t.dim0)) ++ scales
  | _ => []

/-- The lines of a span at `a` of `n` bytes: address and bytes of each part. -/
def spanParts (a n : Nat) : List (Nat × Nat) :=
  ((List.range (spanLines n)).map (fun i => if i = 0 then a else (a / 64 + i) * 64)).filterMap (fun b =>
    if b < a + n then some (b, chunk b (a + n - b)) else none)

/-- What a descriptor has changed from state `s` to state `t`, line by line (R180, R199). -/
def DmaDesc.moved (d : DmaDesc) (s t : State) : List (Nat × List Nat × List Nat × Bool) :=
  (d.dstSpans.flatMap (fun x => spanParts x.1 x.2)).filterMap (fun x =>
    match s.mapAddr d.via x.1 true false with
    | .ok pa =>
      let old := s.lineBytes pa x.2
      let new := t.lineBytes pa x.2
      if old = new ∧ s.poisoned pa = t.poisoned pa then none else some (pa, old, new, s.poisoned pa)
    | .error _ => none)

/-- A descriptor that the engine serves next starts when its OP is one of `ops`: an engine out of service answers it (R14), a failed check
completes it at once, and otherwise `move` moves its data. Where a line must wait for its channel the descriptor has not started yet. -/
def State.dmaStart (s : State) (e : Nat) (ops : Nat → Bool) (ups : List Upset)
    (move : State → DmaDesc → Move × Option Nat) : State :=
  if s.engServes e = false then s
  else
    match s.dmaPick e with
    | none => s
    | some (i, n, d) =>
      if ops d.opc = false then s
      else
        let st := if s.engTakes e then s.dmaCheck e d true else s.workStatus (pEng e)
        if st ≠ St.OK then (s.dmaTurn e i).setDesc e i n { d with started := true, result := some st }
        else
          let s1 := s.upsets d.core ups
          let ((c, s2, w), rng) := move s1 d
          if c = waitCode then s
          else
            let s2 := s.upsetsAfter s2 ups
            let c := if c ≠ St.OK then c
              else if rdTimeout ups ∨ wrTimeout ups then St.FAR_TIMEOUT
              else if s.srcFarDown d then St.FAR_DOWN
              else c
            (s2.dmaTurn e i).setDesc e i n
              { d with started := true, result := some c, bytes := w, undo := d.moved s s2, rng := if c = St.OK then rng else none }

/-- COPY (R192): it also takes a descriptor with a reserved OP, whose check fails. -/
def execCopy (eng : Nat) (ups : List Upset) (s : State) : Host.Outcome State Fault Refusal :=
  .next (s.dmaStart eng (fun o => o == 1 || o == 0 || decide (o > 6)) ups (fun s d => (s.dmaCopy eng d, none)))

/-- CONVERT (R192, R195). -/
def execConvert (eng : Nat) (ups : List Upset) (s : State) : Host.Outcome State Fault Refusal :=
  .next (s.dmaStart eng (fun o => o == 2) ups (fun s d =>
    if d.widens then (s.dmaWiden eng d, none)
    else
      let (m, st) := s.dmaConvert eng d
      (m, if d.draws then some st else none)))

/-- FILL (R192). -/
def execFill (eng : Nat) (ups : List Upset) (s : State) : Host.Outcome State Fault Refusal :=
  .next (s.dmaStart eng (fun o => o == 3) ups (fun s d => (s.dmaFill eng d, none)))

/-- TRANSPOSE (R198). -/
def execTranspose (eng : Nat) (ups : List Upset) (s : State) : Host.Outcome State Fault Refusal :=
  .next (s.dmaStart eng (fun o => o == 4) ups (fun s d => (s.dmaTranspose eng d, none)))

/-- What a descriptor that is over has outstanding on a flow (R193): requests not sent are not sent any more, and the responses to those that
have been sent are taken and dropped. -/
def Flow.dropTag (x : Flow) (t : Nat) : Flow :=
  { x with
    waitq := x.waitq.filter (fun r => decide (r.tag ≠ t))
    gets := x.gets.map (fun r => if r.tag = t then { r with src := none, tag := 0 } else r) }

/-- A failed descriptor is recorded in the engine's ERR registers and error source (R196, R205, R208). -/
def State.dmaFail (s : State) (e i code addr : Nat) : State :=
  let p := pEng e
  if e < 1024 then
    let s := if s.flag R.CORE_DMA_ERR_VALID p then s.incSat R.CORE_DMA_ERR_COUNT p 1
      else (((s.wr R.CORE_DMA_ERR_VALID p 1).wr R.CORE_DMA_ERR_CODE p code).wr R.CORE_DMA_ERR_COUNT p 1).wr
        R.CORE_DMA_ERR_DESC_ADDR p addr
    s.raise p Er.CORE_DMA_FAIL
  else
    let s := if s.flag R.CLU_CDMA_ERR_VALID p then s.incSat R.CLU_CDMA_ERR_COUNT p 1
      else ((((s.wr R.CLU_CDMA_ERR_VALID p 1).wr R.CLU_CDMA_ERR_CODE p code).wr R.CLU_CDMA_ERR_COUNT p 1).wr
        R.CLU_CDMA_ERR_QUAD p i).wr R.CLU_CDMA_ERR_DESC_ADDR p addr
    s.raise p Er.CLU_CDMA_FAIL

/-- The end of a descriptor (R196, R611): its signal, its engine's generator, which one that ends with SIG_OVERFLOW leaves as it was (DESIGN
CHOICE, log entry 137), whether a PUT stays without its acknowledgement (R202; log entry 124), its status, its counts, what the step
verdict notes of it (R231, R394) and its trace entry. -/
def State.dmaEnd (s : State) (e i : Nat) (d : DmaDesc) (st : Nat) : State :=
  let p := pEng e
  let (c, s) := if st ≠ St.OK then (st, s) else if d.inc = 0 then (St.OK, s) else s.sigAdd d.sig d.inc
  let s := s.engRngEnd e (if c = St.OK then d else { d with rng := none })
  let s := if d.opc = 5 ∧ (c = St.FLOW_TIMEOUT ∨ c = St.FLOW_FAILED ∨ c = St.FLOW_RESET ∨ c = St.ABORTED) then s.setCore d.core { s.core d.core with putLost := true } else s
  let s := if c = St.OK then s.cnt p (if e < 1024 then Cn.CORE_DMA_DONE else Cn.CLU_CDMA_DONE)
    else s.dmaFail e i c d.addr
  let s := if st ≠ St.OK ∧ d.errSignal = true ∧ d.inc ≠ 0 ∧ s.ownsSig d.fn d.sig = true then (s.sigAdd d.sig d.inc).2 else s
  let s := s.stepNote d.fn c
  s.trace d.fn 2 0x0C13 (c + d.sig * 2 ^ 16 + d.bytes % 2 ^ 32 * 2 ^ 32) p false (attrOf d.layer d.op 0)

/-- DMA_COMPLETE (R196): the `n`-th descriptor of queue `q` of the engine leaves it once its outcome is known. -/
def execDmaComplete (eng q n : Nat) (s : State) : Host.Outcome State Fault Refusal :=
  let x := s.eng eng
  .next (match (x.q q)[n]? with
    | none => s
    | some d =>
      match d.started, d.result with
      | true, some st => (s.putEng eng (x.setQ q ((x.q q).eraseIdx n))).dmaEnd eng q d st
      | _, _ => s)

end Sys2Proof.Machine
end

