-- ==== Sys2Proof/Machine/Crypto.lean ====
section
/-!
DEFINITION. The functions of link security that the spec names by their standards (R301–R306): HMAC and HKDF over SHA-384, AES-256 in
Galois/Counter Mode, and the CRC-64 of a flit. What the standards say is PRESUMED, log entry 58.
-/

namespace Sys2Proof.Machine

/-- Exclusive or of two byte strings, as long as the shorter. -/
def xorBytes (a b : List Nat) : List Nat := List.zipWith (· ^^^ ·) a b

/-! ### HMAC and HKDF over SHA-384 -/

/-- A key as the 128 bytes of one block: hashed first where it is longer. -/
def macKey (k : List Nat) : List Nat :=
  let k := if k.length > 128 then sha384 k else k
  k ++ List.replicate (128 - k.length) 0

/-- HMAC-SHA-384 of a message. -/
def hmac384 (k m : List Nat) : List Nat :=
  let pad (v : Nat) : List Nat := (macKey k).map (· ^^^ v)
  sha384 (pad 92 ++ sha384 (pad 54 ++ m))

/-- HKDF-Extract: the keying material under a salt. -/
def hkdfExtract (salt material : List Nat) : List Nat := hmac384 salt material

/-- The first `n` bytes, at most 48, of HKDF-Expand. -/
def hkdfExpand (secret info : List Nat) (n : Nat) : List Nat := (hmac384 secret (info ++ [1])).take n

/-! ### AES-256 -/

/-- Double an element of the field of 256 elements of AES. -/
def fieldDouble (a : Nat) : Nat := if a < 128 then 2 * a else (2 * a) ^^^ 0x11B

/-- Product of two elements of that field, over the `n` low bits of the second. -/
def fieldMul (a b : Nat) : Nat → Nat
  | 0 => 0
  | n + 1 => (if bit b 0 then a else 0) ^^^ fieldMul (fieldDouble a) (b / 2) n

/-- The inverse in that field, 0 for 0: the 254th power. -/
def fieldInverse (a : Nat) : Nat :=
  (List.range 7).foldl (fun y _ => fieldMul (fieldMul y a 8) (fieldMul y a 8) 8) 1

/-- The byte substitution: inverse, then the affine map. -/
def substitution (a : Nat) : Nat :=
  let b := fieldInverse a
  (List.range 8).foldl (fun acc i =>
    acc + (([0, 4, 5, 6, 7].foldl (fun x j => x ^^^ bits b ((i + j) % 8) ((i + j) % 8)) (bits 0x63 i i)) * 2 ^ i)) 0

/-- The substitutions of the 256 bytes as one number, the byte of index 0 lowest; `Tests/Slice0.lean` holds it against `substitution`. -/
def substitutionTable : Nat :=
  0x16BB54B00F2D99416842E6BF0D89A18CDF2855CEE9871E9B948ED9691198F8E19E1DC186B95735610EF6034866B53E708A8BBD4B1F74DDE8C6B4A61C2E2578BA08AE7A65EAF4566CA94ED58D6D37C8E779E4959162ACD3C25C2406490A3A32E0DB0B5EDE14B8EE4688902A22DC4F816073195D643D7EA7C41744975FEC130CCDD2F3FF1021DAB6BCF5389D928F40A351A89F3C507F02F94585334D43FBAAEFD0CF584C4A39BECB6A5BB1FC20ED00D153842FE329B3D63B52A05A6E1B1A2C830975B227EBE28012079A059618C323C7041531D871F1E5A534CCF73F362693FDB7C072A49CAFA2D4ADF04759FA7DC982CA76ABD7FE2B670130C56F6BF27B777C63

/-- The byte substitution, from its table. -/
def subByte (a : Nat) : Nat := substitutionTable / 2 ^ (8 * (a % 256)) % 256

/-- The next word of the key schedule, `i` of 8 to 59, after the words so far, newest first. -/
def nextKeyWord (ws : List (List Nat)) (i : Nat) : List Nat :=
  let t := ws.headD []
  let t := if i % 8 = 0 then xorBytes ((t.drop 1 ++ t.take 1).map subByte) [2 ^ (i / 8 - 1), 0, 0, 0]
    else if i % 8 = 4 then t.map subByte else t
  xorBytes t (ws.getD 7 [])

/-- The fifteen round keys of a 32-byte key, 16 bytes each. -/
def roundKeys (key : List Nat) : List (List Nat) :=
  let first := (List.range 8).reverse.map (fun i => (key.drop (4 * i)).take 4)
  let all := ((List.range 52).foldl (fun ws i => nextKeyWord ws (i + 8) :: ws) first).reverse.flatten
  (List.range 15).map (fun r => (all.drop (16 * r)).take 16)

/-- Substitute the bytes of a state and rotate its rows. -/
def substituteShift (x : List Nat) : List Nat :=
  (List.range 16).map (fun i => subByte (x.getD ((i + 4 * (i % 4)) % 16) 0))

/-- Mix one column of a state. -/
def mixColumn (c : List Nat) : List Nat :=
  let t := c.foldl (· ^^^ ·) 0
  (List.range 4).map (fun i => c.getD i 0 ^^^ t ^^^ fieldDouble (c.getD i 0 ^^^ c.getD ((i + 1) % 4) 0))

/-- AES-256 of a 16-byte block under its round keys. -/
def aesBlock (rks : List (List Nat)) (b : List Nat) : List Nat :=
  let mid := ((rks.drop 1).take 13).foldl (fun x rk =>
    let y := substituteShift x
    xorBytes ((List.range 4).flatMap (fun c => mixColumn ((y.drop (4 * c)).take 4))) rk) (xorBytes b (rks.headD []))
  xorBytes (substituteShift mid) (rks.getD 14 [])

/-! ### Galois/Counter Mode -/

/-- Product in the field of the mode, whose elements are blocks as big-endian numbers, their first bit the lowest coefficient: over the `n`
low bits of the first. -/
def blockMul (x v : Nat) : Nat → Nat
  | 0 => 0
  | n + 1 => (if bit x n then v else 0) ^^^ blockMul x (if v % 2 = 1 then v / 2 ^^^ 0xE1 * 2 ^ 120 else v / 2) n

/-- Bytes filled with zeros to whole blocks. -/
def blockPad (bs : List Nat) : List Nat := bs ++ List.replicate ((16 - bs.length % 16) % 16) 0

/-- The hash of whole blocks under the hash key. -/
def blockHash (h : Nat) (bs : List Nat) : Nat :=
  (List.range (bs.length / 16)).foldl (fun y i => blockMul (y ^^^ ofBytesBE ((bs.drop (16 * i)).take 16)) h 128) 0

/-- The key stream block `i` under a 12-byte nonce. -/
def counterBlock (rks : List (List Nat)) (nonce : List Nat) (i : Nat) : List Nat := aesBlock rks (nonce ++ beBytes 4 i)

/-- A text under the key stream: what enciphers it also deciphers it. -/
def counterMode (rks : List (List Nat)) (nonce text : List Nat) : List Nat :=
  (List.range (ceilDiv text.length 16)).flatMap (fun i => xorBytes ((text.drop (16 * i)).take 16) (counterBlock rks nonce (i + 2)))

/-- The 16-byte tag of additional data and an enciphered text. -/
def authTag (rks : List (List Nat)) (nonce extra cipher : List Nat) : List Nat :=
  let h := ofBytesBE (aesBlock rks (List.replicate 16 0))
  let s := blockHash h (blockPad extra ++ blockPad cipher ++ beBytes 8 (8 * extra.length) ++ beBytes 8 (8 * cipher.length))
  xorBytes (beBytes 16 s) (counterBlock rks nonce 1)

/-! ### CRC-64 -/

/-- A CRC-64 with the ECMA-182 polynomial, continued over bits. -/
def crc64Bits : List Nat → Nat → Nat
  | [], c => c
  | b :: bs, c => if c / 2 ^ 63 = b then crc64Bits bs (2 * c % 2 ^ 64) else crc64Bits bs (2 * c % 2 ^ 64 ^^^ 0x42F0E1EBA9EA3693)

/-- CRC-64 with the ECMA-182 polynomial over bytes, highest bit first, from 0. -/
def crc64 (bs : List Nat) : Nat := crc64Bits (bs.flatMap (fun b => (List.range 8).map (fun i => b / 2 ^ (7 - i) % 2))) 0

/-! ### Certificates -/

/-- Length of the first DER element of a byte string, its header included. -/
def derLen (bs : List Nat) : Nat :=
  let n := bs.getD 1 0
  if n < 128 then 2 + n else 2 + (n - 128) + ofBytesBE ((bs.drop 2).take (n - 128))

/-- IDENT of a certificate chain, leaf first: the first eight bytes of the leaf's SHA-384 (R295; which eight and in which
order: log entry 131). -/
def identOf (chain : List Nat) : Nat := ofBytes ((sha384 (chain.take (derLen chain))).take 8)

end Sys2Proof.Machine
end

