-- ==== Sys2Proof/Machine/Link.lean ====
section
/-!
DEFINITION. The transmit side of a port (R302–R309, R312, R313): keys, flit headers, sealed flits, arbitration, credits, the replay buffer,
control flits and REJECT (R316), and the transport frame as bytes (R330).
-/

namespace Sys2Proof.Machine

/-! ### Frames as bytes (R330) -/

/-- Payload bytes that a frame of an OP and a LEN carries: a GET_REQ carries none, its LEN being the bytes asked for (R339; R330 makes no
exception for it: DEDUCED, log entry 52). -/
def payloadLen (op len : Nat) : Nat := if op = 2 then 0 else len

/-- The bytes of a frame: header, then payload. -/
def Frame.bytes (f : Frame) : List Nat :=
  leBytes 4 f.dst ++ leBytes 4 f.src ++ leBytes 1 f.op ++ leBytes 1 f.flags ++ leBytes 2 f.hops ++ leBytes 4 f.dflow
  ++ leBytes 4 (f.sflow + f.inc * 2 ^ 20) ++ leBytes 4 f.seq ++ leBytes 4 f.ack ++ leBytes 2 f.len ++ leBytes 2 f.status
  ++ leBytes 8 f.off ++ leBytes 4 f.sig ++ leBytes 4 f.sigInc ++ leBytes 8 f.poison ++ leBytes 8 0 ++ f.data

/-- The `n` bytes at offset `o` of a byte string as a number. -/
def byteFld (bs : List Nat) (o n : Nat) : Nat := ofBytes ((bs.drop o).take n)

/-- A frame from its bytes. -/
def Frame.ofBytes (bs : List Nat) : Frame :=
  let b := byteFld bs
  { dst := b 0 4, src := b 4 4, op := b 8 1, flags := b 9 1, hops := b 0x0A 2, dflow := b 0x0C 4, sflow := b 0x10 4 % 2 ^ 20,
    inc := b 0x10 4 / 2 ^ 20 % 256, seq := b 0x14 4, ack := b 0x18 4, len := b 0x1C 2, status := b 0x1E 2, off := b 0x20 8,
    sig := b 0x28 4, sigInc := b 0x2C 4, poison := b 0x30 8,
    data := (bs.drop 64).take (payloadLen (b 8 1) (b 0x1C 2)) }

/-- Whether the header bytes of a frame are well formed (R330, R316): a defined OP, reserved bits 0, LEN at most 4,096, STATUS 0 but in a
NAK. -/
def frameHeaderOk (bs : List Nat) : Bool :=
  let b := byteFld bs
  decide (bs.length ≥ 64) && decide (b 0 4 < 2 ^ 30) && decide (b 4 4 < 2 ^ 30) && decide (1 ≤ b 8 1) && decide (b 8 1 ≤ 8)
  && decide (b 9 1 < 4) && decide (b 0x0A 2 < 4096) && decide (b 0x0C 4 < 2 ^ 20) && decide (b 0x10 4 < 2 ^ 28)
  && decide (b 0x14 4 < 2 ^ 24) && decide (b 0x18 4 < 2 ^ 24) && decide (b 0x1C 2 ≤ 4096)
  && (decide (b 8 1 = 7) || decide (b 0x1E 2 = 0)) && decide (b 0x20 8 < 2 ^ 44) && decide (b 0x28 4 < 2 ^ 16) && decide (b 0x38 8 = 0)

/-- Flits of a frame of `n` payload bytes (R307, R330). -/
def flitsOf (n : Nat) : Nat := ceilDiv (64 + n) 224

/-! ### Flits -/

/-- STATE of a port (R291). -/
def State.lnkState (s : State) (p : Nat) : Nat := s.rg R.LNK_PORT_STATUS_STATE (pLnk p)

/-- Whether a port accepts and sends VC1–VC3 (R317). -/
def State.quarantined (s : State) (p : Nat) : Bool := s.flag R.LNK_PORT_STATUS_QUARANTINED (pLnk p)

/-- Whether a port is UP. -/
def State.lnkUp (s : State) (p : Nat) : Bool := decide (s.lnkState p = 6) && s.pageOn (pLnk p) && !(s.fencedP (pLnk p))

/-- DM_TAG of the module's own daymark (R306). -/
def State.dmTag (s : State) : Nat :=
  (s.rg R.TOP_DAYMARK_DIGEST pTop) % 65536 ^^^ (s.rg R.TOP_CFG_EPOCH_EPOCH pTop) % 65536

/-- A credit count of a VC. -/
def creditOf (m : NMap Nat) (vc : Nat) : Nat := NMap.get 0 m vc

/-! ### Keys and sealed flits (R302–R306) -/

/-- The key of a direction (0 from the initiator) and a generation (R302, R305). The labels that the spec does not print, and that a roll names
its direction too, are DESIGN CHOICE, log entry 58. -/
def deriveKey (secret : List Nat) (dir gen : Nat) : LinkKey :=
  let info := if gen = 0 then Config.label (1 + dir) else [0x72, 0x6F, 0x6C, 0x6C] ++ leBytes 4 gen ++ Config.label (1 + dir)
  let m := hkdfExpand secret info 36
  ⟨m.take 32, m.drop 32⟩

/-- Whether the flits of a port are encrypted: UP with keys (R304). What a port that has gone from UP to MISCABLED sends and receives is in clear,
which the rules do not say: DESIGN CHOICE, log entry 140. -/
def State.linkKeyed (s : State) (p : Nat) : Bool := decide (s.lnkState p = 6) && (s.port p).rxKey

/-- The nonce of the flit that is the `n`-th under a key (R304). -/
def LinkKey.nonce (k : LinkKey) (n : Nat) : List Nat := k.salt ++ leBytes 8 n

/-- The 224 bytes of a payload. -/
def payloadBytes (bs : List Nat) : List Nat := bs ++ List.replicate (224 - bs.length) 0

/-- The 256 bytes of a flit (R304, R306): in UP under a key, the payload enciphered and its tag; otherwise in clear, the tag 0. -/
def sealFlit (key : Option LinkKey) (hdr n : Nat) (payload : List Nat) : List Nat :=
  let h := leBytes 8 hdr
  let body := match key with
    | some k =>
      let rks := roundKeys k.key
      let c := counterMode rks (k.nonce n) (payloadBytes payload)
      h ++ c ++ authTag rks (k.nonce n) h c
    | none => h ++ payloadBytes payload ++ List.replicate 16 0
  body ++ leBytes 8 (crc64 body)

/-- A flit on the line (R306): with its parity bytes, byte by byte over the live lanes in increasing number. -/
def State.onLine (s : State) (p : Nat) (raw : List Nat) : OutMsg :=
  let lanes := onesBelow 8 (s.rg R.LNK_PORT_STATUS_LIVE (pLnk p))
  let bs := (raw ++ leBytes 8 (Config.fecParity (ofBytes raw))).zipIdx
  .link p ((lanes.zipIdx).map (fun l => (l.1, (bs.filter (fun b => decide (b.2 % lanes.length = l.2))).map (fun b => b.1))))

/-- The header of a flit that leaves now (R306): ACK_SEQ, ACK_KIND and the credits of the VC whose turn it is. -/
def Port.header (x : Port) (kind : Nat) (f : Flit) (seq ackKind : Nat) : Nat :=
  let cvc := x.rotate % 4
  kind * 2 ^ 62 + x.txGen % 2 * 2 ^ 61 + f.vc % 4 * 2 ^ 59 + b2n f.sof * 2 ^ 58 + b2n f.eof * 2 ^ 57 + b2n f.dmCheck * 2 ^ 56
  + seq % 4096 * 2 ^ 44 + (x.rxSeq + 4095) % 4096 * 2 ^ 32 + ackKind % 4 * 2 ^ 30 + cvc * 2 ^ 28
  + creditOf x.freed cvc % 2048 * 2 ^ 17 + b2n f.telem * 2 ^ 16 + f.dmTag % 65536

/-- A flit that is not sequenced, to return acknowledgement and credits (R306: idle flits; R334 of the link: the next header
sent). `ackKind` is 1 for ACK, 2 for NAK. An idle flit takes no number of the sequence, and counts among the flits sent under the key. In
MISCABLED none is sent (R291). -/
def State.sendIdle (s : State) (p ackKind : Nat) : State :=
  let x := s.port p
  if s.lnkState p = 7 then s else
  let f : Flit := ⟨false, 0, false, false, false, s.dmTag, false, [], 0, [], 0⟩
  let key := if s.linkKeyed p then some x.txKey else none
  let raw := sealFlit key (x.header 2 f 0 ackKind) x.txFlits []
  (s.setPort p { x with rotate := (x.rotate + 1) % 4, txFlits := x.txFlits + 1 }).emit (s.onLine p raw)

/-- Send one flit for the first time: it takes the next sequence number and enters the replay buffer (R309). -/
def State.sendFlit (s : State) (p : Nat) (f : Flit) : State :=
  let x := s.port p
  let kind := b2n f.control
  let key := if s.linkKeyed p then some x.txKey else none
  let f := { f with seq := x.txSeq, resends := 0, raw := sealFlit key (x.header kind f x.txSeq 1) x.txFlits f.bytes }
  let sent := if f.control then x.sent else NMap.put f.vc ((creditOf x.sent f.vc + 1) % 2048) x.sent
  let x := { x with
    txSeq := (x.txSeq + 1) % 4096, replay := x.replay ++ [f], rotate := (x.rotate + 1) % 4, sent := sent,
    txFlits := x.txFlits + 1, tokens := if f.telem then x.tokens - 102400 else x.tokens }
  ((s.setPort p x).emit (s.onLine p f.raw)).cnt (pLnk p) Cn.LNK_FLITS_TX

/-- The queue of a port that holds flits for a key (VC, 8 + VC, or 4). -/
def Port.queue (x : Port) (k : Nat) : List Flit := NMap.get [] x.txq k

/-- Which queue a VC sends from next: the frame in progress goes on, and between frames local and passed ones alternate
(R312). -/
def Port.vcQueue (x : Port) (vc : Nat) : Option Nat :=
  let has (k : Nat) : Bool := !(x.queue k).isEmpty
  let pick (a b : Nat) : Option Nat := if has a then some a else if has b then some b else none
  match NMap.get 1 x.cur vc with
  | 2 => if has vc then some vc else none
  | 3 => if has (8 + vc) then some (8 + vc) else none
  | 0 => pick (8 + vc) vc
  | _ => pick vc (8 + vc)

/-- Whether the port may send the head flit of a queue now: UP with a credit for its VC, VC1–VC3 only while not quarantined,
a telemetry flit only with a token (R312, R313, R317). -/
def State.maySend (s : State) (p : Nat) (k : Nat) : Bool :=
  let x := s.port p
  match (x.queue k).head? with
  | none => false
  | some f =>
    s.lnkUp p && (decide (f.vc = 0) || !(s.flag R.LNK_PORT_STATUS_QUARANTINED (pLnk p)))
    && decide (creditOf x.sent f.vc ≠ creditOf x.grant f.vc) && (!f.telem || decide (x.tokens ≥ 102400))

/-- Weight of VC1, VC2 or VC3. -/
def State.vcWeight (s : State) (p vc : Nat) : Nat :=
  s.rg (if vc = 1 then R.LNK_VC_WEIGHT_W1 else if vc = 2 then R.LNK_VC_WEIGHT_W2 else R.LNK_VC_WEIGHT_W3) (pLnk p)

/-- Send the head flit of a data queue. -/
def State.sendHead (s : State) (p k : Nat) : State :=
  let x := s.port p
  match x.queue k with
  | [] => s
  | f :: l =>
    let at8 := if k ≥ 8 then 1 else 0
    let x := { x with
      txq := NMap.put k l x.txq
      cur := NMap.put f.vc (if f.eof then at8 else 2 + at8) x.cur
      wrr := NMap.put f.vc (NMap.get 0 x.wrr f.vc + 1) x.wrr }
    (s.setPort p x).sendFlit p f

/-- The VC among VC1–VC3 that weighted round robin serves, of those that may send (R312). -/
def State.wrrPick (s : State) (p : Nat) : Option (Nat × Bool) :=
  let x := s.port p
  let ok := [1, 2, 3].filter (fun vc => match x.vcQueue vc with
    | some k => s.maySend p k
    | none => false)
  match ok.find? (fun vc => decide (NMap.get 0 x.wrr vc < s.vcWeight p vc)) with
  | some vc => some (vc, false)
  | none => (ok.head?).map (fun vc => (vc, true))

/-- Whether a control flit may leave (R291): in MISCABLED only character frames and REJECTs. -/
def State.mayControl (s : State) (p : Nat) (f : Flit) : Bool :=
  decide (s.lnkState p ≠ 7) || f.bytes.head? == some 1 || f.bytes.head? == some 0x10

/-- Send what may be sent, `fuel` flits at most: a VC0 frame in progress, control flits, VC0, then VC1–VC3 (R296, R312). -/
def State.pumpPort : Nat → State → Nat → State
  | 0, s, _ => s
  | n + 1, s, p =>
    let x := s.port p
    if x.replay.length ≥ 2048 then s
    else
      let q0 := x.vcQueue 0
      let vc0 := match q0 with
        | some k => s.maySend p k
        | none => false
      let mid := decide (NMap.get 1 x.cur 0 ≥ 2)
      if vc0 = true ∧ mid = true then State.pumpPort n (s.sendHead p (q0.getD 0)) p
      else
        match (if 4 ≤ s.lnkState p ∧ s.lnkState p ≤ 7 then (x.queue 4).filter (s.mayControl p) else []) with
        | f :: l => State.pumpPort n ((s.setPort p { x with txq := NMap.put 4 l x.txq }).sendFlit p f) p
        | [] =>
          if vc0 then State.pumpPort n (s.sendHead p (q0.getD 0)) p
          else
            match (if s.halted then none else s.wrrPick p) with
            | some (vc, fresh) =>
              let s := if fresh then s.setPort p { x with wrr := [] } else s
              State.pumpPort n (s.sendHead p (((s.port p).vcQueue vc).getD vc)) p
            | none => s

/-- Flits waiting on a port. -/
def Port.waiting (x : Port) : Nat := (x.txq.map (fun e => e.2.length)).foldl (· + ·) 0

/-- The telemetry tokens gained since they were counted last (R312): one in 100 flit slots of 10.24 ns divided by the width, at most 64. -/
def State.tokenFill (s : State) (p : Nat) : State :=
  let x := s.port p
  let gain := (s.tbc - x.tokenTbc) * 100 * s.rg R.LNK_PORT_STATUS_WIDTH (pLnk p)
  s.setPort p { x with tokens := min 6553600 (x.tokens + gain), tokenTbc := s.tbc }

/-- Send everything that may be sent. -/
def State.pump (s : State) (p : Nat) : State := (s.tokenFill p).pumpPort (s.port p).waiting p

/-- Queue flits. -/
def State.queueFlits (s : State) (p k : Nat) (l : List Flit) : State :=
  let x := s.port p
  s.setPort p { x with txq := NMap.put k (x.queue k ++ l) x.txq }

/-- A control flit with the given payload bytes (R307), sent in every state that carries control flits. -/
def State.sendControl (s : State) (p : Nat) (bytes : List Nat) : State :=
  (s.queueFlits p 4 [⟨true, 0, true, true, false, s.dmTag, false, bytes, 0, [], 0⟩]).pump p

/-- Cut bytes into flit payloads of 224 bytes; `fuel` bounds their number. -/
def cut224 : Nat → List Nat → List (List Nat)
  | 0, _ => []
  | n + 1, bs => if bs.length ≤ 224 then [bs] else bs.take 224 :: cut224 n (bs.drop 224)

/-- DM_CHECK, DM_TAG and TELEM of a flit of a frame: those at its place, or the last ones given. -/
def markAt (marks : List (Bool × Nat × Bool)) (i : Nat) : Bool × Nat × Bool := marks.getD (min i (marks.length - 1)) (false, 0, false)

/-- The flits of a frame on a VC, each with its own marks (R314). -/
def frameFlits (vc : Nat) (marks : List (Bool × Nat × Bool)) (bytes : List Nat) : List Flit :=
  let l := cut224 (bytes.length / 224 + 1) bytes
  (l.zipIdx).map (fun e =>
    let m := markAt marks e.2
    ⟨false, vc, decide (e.2 = 0), decide (e.2 + 1 = l.length), m.1, m.2.1, m.2.2, e.1, 0, [], 0⟩)

/-! ### Routing (R323, R325–R328) -/

/-- Coordinate of a module address on an axis (R323). -/
def coord (m a : Nat) : Nat := m / 2 ^ (10 * a) % 1024

/-- Length of an axis. -/
def State.axisLen (s : State) (a : Nat) : Nat := coord (s.rg R.RTE_AXIS_LEN_M1 pRte) a + 1

/-- WRAP of an axis: bits for X, Y, Z from the lowest. -/
def State.axisWrap (s : State) (a : Nat) : Bool := bit (s.rg R.RTE_AXIS_WRAP pRte) a

/-- The module's own address. -/
def State.maddr (s : State) : Nat := s.rg R.RTE_MADDR_MADDR pRte

/-- Whether every coordinate of an address lies within its axis. -/
def State.maddrOk (s : State) (m : Nat) : Bool :=
  decide (m < 2 ^ 30) && (List.range 3).all (fun a => decide (coord m a < s.axisLen a))

/-- Whether a port carries a VC: UP, not in self-loopback, and for VC1–VC3 not quarantined (R325). -/
def State.usable (s : State) (p vc : Nat) : Bool :=
  s.lnkUp p && !(s.flag R.LNK_PORT_FLAGS_LOOPBACK (pLnk p)) && (decide (vc = 0) || !(s.quarantined p))

/-- Whether a table entry applies: valid, no reserved bit set, its VC bit, and the match (R326). -/
def entryHit (e dst vc : Nat) : Bool :=
  bit e 127 && decide (bits e 31 30 = 0) && decide (bits e 63 62 = 0) && decide (bits e 126 73 = 0) && bit e (68 + vc)
  && decide (dst &&& bits e 61 32 = bits e 29 0 &&& bits e 61 32)

/-- The best entry of a table: among those that apply, forwarding ones only with a usable port, the one with the most MASK
bits, then the lowest index. The answer is a port, or 17 to discard. -/
def State.bestMatch (s : State) (table : List (Nat × Nat)) (dst vc : Nat) : Option Nat :=
  let ok := table.filter (fun e => entryHit e.2 dst vc && (bit e.2 72 || s.usable (bits e.2 67 64) vc))
  let best := ok.foldl (fun (acc : Option (Nat × Nat)) e =>
    let n := popcount 30 (bits e.2 61 32)
    match acc with
    | none => some (n, e.2)
    | some (m, _) => if n > m then some (n, e.2) else acc) none
  best.map (fun b => if bit b.2 72 then 17 else bits b.2 67 64)

/-- The entries of the active exception bank, by rising index. -/
def State.excTable (s : State) : List (Nat × Nat) :=
  (s.net.exc.filter (fun e => decide (e.1.1 = s.rg R.RTE_EXC_CTRL_ACTIVE pRte))).map (fun e => (e.1.2, e.2))

/-- Port number of an axis, direction and letter (R286). -/
def ringPort (a : Nat) (plus : Bool) (letter : Nat) : Nat := 4 * a + 2 * b2n plus + letter

/-- Whether the arithmetic route leaves in the + direction on an axis. -/
def State.dirPlus (s : State) (a dst : Nat) : Bool :=
  let c := coord s.maddr a
  let t := coord dst a
  if s.axisWrap a then decide (2 * ((t + s.axisLen a - c % s.axisLen a) % s.axisLen a) ≤ s.axisLen a) else decide (t > c)

/-- The arithmetic route: the first axis on which the addresses differ, its usable port with the letter of DFLOW[0] first. It never leads to
an address with a coordinate at or beyond its axis length (R323, R324). -/
def State.arithRoute (s : State) (dst vc dflow : Nat) : Option Nat :=
  if s.maddrOk dst = false then none else
  match (List.range 3).find? (fun a => decide (coord dst a ≠ coord s.maddr a)) with
  | none => none
  | some a =>
    let l := dflow % 2
    let plus := s.dirPlus a dst
    [ringPort a plus l, ringPort a plus (1 - l)].find? (fun p => s.usable p vc)

/-- A frame without a route: counted and recorded (R325, R348). -/
def State.noRoute (s : State) : State := (s.cnt pRte Cn.RTE_NO_ROUTE).raise pRte Er.RTE_NO_ROUTE

/-- The way of a frame (R325): a port, 16 for this module, 17 for a frame that is dropped. -/
def State.route (s : State) (dst vc dflow : Nat) : Nat × State :=
  if dst = s.maddr then (16, s)
  else
    match s.bestMatch s.net.patch dst vc with
    | some 17 => (17, s.noRoute)
    | some p => (p, s.cnt pRte Cn.RTE_PATCH_HIT)
    | none =>
      match s.bestMatch s.excTable dst vc with
      | some 17 => (17, s.noRoute)
      | some p => (p, s.cnt pRte Cn.RTE_EXC_HIT)
      | none =>
        match s.arithRoute dst vc dflow with
        | some p => (p, s)
        | none => (17, s.noRoute)

/-- Whether a frame to an address can leave at all (R323, R324): its coordinates lie within the axes, or an entry forwards it. -/
def State.reachable (s : State) (dst vc : Nat) : Bool :=
  let entry (t : List (Nat × Nat)) : Bool := match s.bestMatch t dst vc with
    | some p => p != 17
    | none => false
  s.maddrOk dst || entry s.net.patch || entry s.excTable

/-- The frame bytes with HOPS one higher (R328). -/
def hopped (bs : List Nat) : List Nat := bs.take 0x0A ++ leBytes 2 (byteFld bs 0x0A 2 + 1) ++ bs.drop 0x0C

/-- Send a frame, of this module (`pass` false) or passing: to the queue of its port with HOPS incremented, or, for this
module, to the frames delivered. The flits of a passing frame keep their DM_CHECK, DM_TAG and TELEM (R314); those of a telemetry frame are
marked (R312). -/
def State.launch (s : State) (vc : Nat) (marks : List (Bool × Nat × Bool)) (pass : Bool) (bs : List Nat) : State :=
  match s.route (byteFld bs 0 4) vc (byteFld bs 0x0C 4) with
  | (16, s) => { s with net := { s.net with rx := NMap.put vc (NMap.get [] s.net.rx vc ++ [Frame.ofBytes bs]) s.net.rx } }
  | (17, s) => s
  | (p, s) =>
    if byteFld bs 0x0A 2 ≥ 4095 then (s.cnt pRte Cn.RTE_HOP_DROP).raise pRte Er.RTE_HOP_DROP
    else (s.queueFlits p (if pass then 8 + vc else vc) (frameFlits vc marks (hopped bs))).pump p

/-- Whether a frame carries telemetry: a PUT of the flow that TELEM_CTRL names (R451). -/
def State.telemetry (s : State) (f : Frame) : Bool :=
  s.flag R.PWR_TELEM_CTRL_FLOW_EN pPwr && decide (f.op = 1) && decide (f.sflow = s.rg R.PWR_TELEM_CTRL_FLOW pPwr)

/-- Send a frame of this module. -/
def State.sendFrame (s : State) (vc : Nat) (dmCheck : Bool) (f : Frame) : State :=
  s.launch vc [(dmCheck, s.dmTag, s.telemetry f)] false f.bytes

/-! ### Quarantine (R317) -/

/-- Whole frames at the head of a list of flits, each as its flits; the rest of a frame of which a part is sent already is left
out. -/
def wholeFrames : Option (List Flit) → List Flit → List (List Flit)
  | _, [] => []
  | acc, f :: l =>
    let acc := if f.sof then some [f] else acc.map (fun a => a ++ [f])
    if f.eof then
      match acc with
      | some a => a :: wholeFrames none l
      | none => wholeFrames none l
    else wholeFrames acc l

/-- Hand frames back to routing; each was counted a hop when it was queued. -/
def State.relaunch (s : State) (l : List (List Flit)) : State :=
  l.foldl (fun s fs =>
    let b := fs.flatMap (fun f => f.bytes)
    let bs := b.take 0x0A ++ leBytes 2 (byteFld b 0x0A 2 - 1) ++ b.drop 0x0C
    s.launch ((fs.map (fun f => f.vc)).headD 0) (fs.map (fun f => (f.dmCheck, f.dmTag, f.telem))) true bs) s

/-- Quarantine a port: the frames of VC1–VC3 waiting there go back to routing, which takes the port as failed for them. -/
def State.quarantine (s : State) (p : Nat) : State :=
  let g := pLnk p
  let s := (s.wr R.LNK_PORT_STATUS_QUARANTINED g 1).incSat R.LNK_RETRAIN_QCOUNT g 1
  let s := s.raise g Er.LNK_QUARANTINE
  let x := s.port p
  let keys := [1, 2, 3, 9, 10, 11]
  let frames := keys.flatMap (fun k => wholeFrames none (x.queue k))
  let txq := keys.foldl (fun m k => Map.del k m) x.txq
  let cur := [1, 2, 3].foldl (fun m k => Map.del k m) x.cur
  (s.setPort p { x with txq := txq, cur := cur }).relaunch frames

/-! ### REJECT (R316) -/

/-- Whether a reason counts toward quarantine. -/
def hostileReason (r : Nat) : Bool := r != 6 && r != 9 && r != 10

/-- Count a rejection toward quarantine: the window runs from its first (R317). -/
def State.hostileCount (s : State) (p : Nat) : State :=
  let g := pLnk p
  let x := s.port p
  let win := s.rg R.LNK_QUAR_CTRL_WINDOW g * 1000000
  let n := s.rg R.LNK_RETRAIN_HOSTILE g
  let old := n ≠ 0 ∧ s.tbc ≤ x.quarFrom + win
  let s := if old then s.incSat R.LNK_RETRAIN_HOSTILE g 1
    else (s.setPort p { x with quarFrom := s.tbc }).wr R.LNK_RETRAIN_HOSTILE g 1
  if s.rg R.LNK_RETRAIN_HOSTILE g ≥ s.rg R.LNK_QUAR_CTRL_THRESH g ∧ s.quarantined p = false then s.quarantine p else s

/-- Send REJECT with a reason, a VC and a sequence number; REJECTs of one reason are limited to one per microsecond, the
others being counted only (R316). -/
def State.reject (s : State) (p reason vc seq : Nat) : State :=
  let g := pLnk p
  let x := s.port p
  let s := s.cnt g Cn.LNK_REJECT_SENT
  let last := NMap.get 0 x.rejTbc reason
  let s :=
    if last ≠ 0 ∧ s.tbc < last + 999 then s
    else
      let s := s.setPort p { x with rejTbc := NMap.put reason (s.tbc + 1) x.rejTbc }
      let s := (s.wr R.LNK_REJECT_LAST_TX_STATUS g (0x0300 + reason)).wr R.LNK_REJECT_LAST_TX_SEQ g seq
      let s := s.sendControl p ([0x10, reason, vc] ++ leBytes 2 seq)
      if hostileReason reason then s.raise g Er.LNK_HOSTILE else s
  if hostileReason reason then s.hostileCount p else s

end Sys2Proof.Machine
end

