-- ==== Sys2Proof/Machine/Flow.lean ====
section
/-!
DEFINITION. Flows (R331–R340, R347): sending with credit and acknowledgement, receiving by sequence number, the operations
of delivered frames, PUT and GET descriptors (R193), and the FLOW_CMD commands.
-/

namespace Sys2Proof.Machine

/-- Sequence numbers count modulo 2^24 (R333). -/
def seqMod : Nat := 2 ^ 24

/-- How far `b` lies after `a`. -/
def seqDist (a b : Nat) : Nat := (b + seqMod - a % seqMod) % seqMod

/-- Whether `a` is before `b` by serial arithmetic. -/
def seqBefore (a b : Nat) : Bool := decide (0 < seqDist a b) && decide (seqDist a b < 2 ^ 23)

/-! ### The context table (R332, R333, R347) -/

/-- A use of a context: a miss of the 32,768 cached ones is counted, and the context cached; which one leaves a full
cache is a free choice. -/
def State.flowTouch (s : State) (id : Nat) : State :=
  if NMap.get false s.net.cached id then s
  else
    let s := s.cnt (pXpt (s.flow id).fn) Cn.XPT_FLOW_MISS
    let full := s.net.cached.length ≥ 32768
    let (n, s) := if full then s.freeVal else (0, s)
    let c := if full then s.net.cached.eraseIdx (n % 32768) else s.net.cached
    { s with net := { s.net with cached := NMap.put id true c } }

/-- Contexts of a function that are not FREE. -/
def State.flowsUsed (s : State) (fn : Nat) : Nat := (s.net.flows.filter (fun e => decide (e.2.fn = fn))).length

/-- FLOW_USED follows the table. -/
def State.flowUsedReg (s : State) (fn : Nat) : State := s.wr R.XPT_FLOW_USED_USED (pXpt fn) (s.flowsUsed fn)

/-- The lowest FREE FLOW_ID at or above `n`, given the ids in use, in rising order. -/
def lowestFree : Nat → List Nat → Nat
  | n, [] => n
  | n, k :: l => if k = n then lowestFree (n + 1) l else n

/-- The image of a context (R332), 64 bytes as one number. -/
def Flow.image (x : Flow) : Nat :=
  ofBytes (leBytes 4 (x.state + x.vc * 16 + b2n x.dmCheck * 64 + b2n x.synPend * 128 + x.fn * 256 + x.retryLimit * 2 ^ 16
      + x.retries * 2 ^ 20 + x.peerInc * 2 ^ 24)
    ++ leBytes 4 x.peerMaddr ++ leBytes 4 x.peerFlow ++ leBytes 4 x.rto ++ leBytes 4 x.txNext ++ leBytes 4 x.txAcked
    ++ leBytes 4 x.txLimit ++ leBytes 4 x.rxNext ++ leBytes 4 x.rxGrant ++ leBytes 4 x.sigBase ++ leBytes 4 x.sigCount
    ++ leBytes 4 0 ++ leBytes 8 x.winBase ++ leBytes 8 x.winLen)

/-- A newly opened context of function `fn`, its software fields from an image (R332, R333). -/
def Flow.opened (n fn : Nat) : Flow :=
  let w (i : Nat) : Nat := bits n (32 * i + 31) (32 * i)
  { Flow.free with
    state := 1, vc := bits n 5 4, dmCheck := bit n 6, synPend := true, fn := fn, retryLimit := bits n 19 16,
    peerMaddr := w 1 % 2 ^ 30, peerFlow := w 2 % 2 ^ 20, rto := w 3 % 2 ^ 20, rxGrant := w 8 % 2 ^ 23, sigBase := w 9 % 2 ^ 16,
    sigCount := min 65536 (w 10), winBase := bits n 431 384, winLen := bits n 491 448 }

/-- The sequence state of a context at 0, nothing waiting. -/
def Flow.rewound (x : Flow) : Flow :=
  { x with txNext := 0, txAcked := 0, txLimit := 0, rxNext := 0, retries := 0, waitq := [], sent := [], gets := [], unacked := 0 }

/-! ### Descriptors on a flow (R193) -/

/-- Every request that a flow has yet to finish. -/
def Flow.all (x : Flow) : List TxReq := x.waitq ++ x.sent ++ x.gets

/-- The outcome of the descriptor with a tag (its engine is the tag modulo 2,048), unless it is known already. -/
def State.tagResult (s : State) (tag st : Nat) : State :=
  if tag = 0 then s
  else
    let e := tag % 2048
    let f (d : DmaDesc) : DmaDesc := if d.tag = tag ∧ d.result.isNone = true then { d with result := some st } else d
    let x := s.eng e
    s.putEng e { x with q0 := x.q0.map f, q1 := x.q1.map f, q2 := x.q2.map f, q3 := x.q3.map f }

/-- Every descriptor outstanding on a flow completes with a status. -/
def State.flowEnd (s : State) (id st : Nat) : State := (s.flow id).all.foldl (fun s r => s.tagResult r.tag st) s

/-- Descriptors of a flow that have no request left complete with OK. -/
def State.flowSettle (s : State) (id : Nat) (tags : List Nat) : State :=
  tags.foldl (fun s t => if (s.flow id).all.any (fun r => decide (r.tag = t)) then s else s.tagResult t St.OK) s

/-! ### Sending (R334, R336, R337) -/

/-- How a flow reaches the memory of its function: the all-cluster and the translated window (R174). -/
def viaFn (fn : Nat) : Via := ⟨0, fn, true⟩

/-- Poison bits of a payload: bit j where a byte of line j is poisoned (R331). -/
def poisonBits (bs : List (Nat × Bool)) : Nat :=
  (bs.zipIdx).foldl (fun m b => if b.1.2 then setBit m (b.2 / 64) else m) 0

/-- The payload of a request: its source read again, or the bytes kept (R337). -/
def State.txRead (s : State) (x : Flow) (r : TxReq) : Except Nat (State × List Nat × Nat) :=
  match (if r.op = 2 then none else r.src) with
  | none => .ok (s, r.data, r.poison)
  | some (core, a) => do
    let (s, bs) ← s.ldN ⟨core, x.fn, true⟩ a r.len
    .ok (s, bs.map (fun b => b.1), poisonBits bs)

/-- The frame of a request: the first of a sequence carries SYN while SYN_PEND is 1 (R333). -/
def State.reqFrame (s : State) (id : Nat) (x : Flow) (r : TxReq) (data : List Nat) (poison : Nat) : Frame :=
  { dst := x.peerMaddr, src := s.maddr, op := r.op, flags := r.flags + b2n (x.synPend && decide (r.seq = 0)), hops := 0,
    dflow := x.peerFlow, sflow := id, inc := s.rg R.RTE_INC_INC pRte, seq := r.seq, ack := x.rxNext, len := r.len,
    status := 0, off := r.off, sig := r.sig, sigInc := r.sigInc, poison := poison, data := data }

/-- Whether a flow may send its next sequenced frame: TX_NEXT is before TX_LIMIT, or it is the first of a sequence whose
credit no ACK has yet given, while SYN_PEND is 1 (R333, R334; log entry 50). -/
def Flow.maySend (x : Flow) : Bool :=
  x.state == 1 && decide (seqDist x.txAcked x.txNext < 2 ^ 22)
  && (seqBefore x.txNext x.txLimit || (x.synPend && x.txNext == 0 && x.txAcked == 0 && x.txLimit == 0))

/-- Bytes that the descriptor with a tag has read and written (R207, R210), counted on its engine's page as they move. -/
def State.descMoved (s : State) (tag rd wr : Nat) : State :=
  if tag = 0 ∨ rd + wr = 0 then s
  else
    let e := tag % 2048
    let f (d : DmaDesc) : DmaDesc := if d.tag = tag then { d with bytes := d.bytes + rd + wr } else d
    let x := s.eng e
    (s.putEng e { x with q0 := x.q0.map f, q1 := x.q1.map f, q2 := x.q2.map f, q3 := x.q3.map f }).dmaBytes e rd wr

/-- Send what credit allows, `fuel` frames at most. A source line that is refused ends its descriptor there (R194). -/
def State.flowPumpN : Nat → State → Nat → State
  | 0, s, _ => s
  | n + 1, s, id =>
    let x := s.flow id
    match x.waitq with
    | [] => s
    | r :: l =>
      if x.maySend = false then s
      else
        match s.txRead x r with
        | .error e =>
          if e = waitCode then s
          else
            let s := s.tagResult r.tag e
            State.flowPumpN n (s.setFlow id { x with waitq := l.filter (fun q => decide (q.tag ≠ r.tag)) }) id
        | .ok (s, data, poison) =>
          let r := { r with seq := x.txNext, data := data, poison := poison }
          let s := s.setFlow id { x with
            waitq := l, sent := x.sent ++ [r], gets := if r.op = 2 then x.gets ++ [r] else x.gets,
            txNext := (x.txNext + 1) % seqMod }
          let s := (s.cnt (pXpt x.fn) Cn.XPT_FRAMES_TX).descMoved r.tag (if r.src.isSome && r.op == 1 then data.length else 0) 0
          State.flowPumpN n (s.sendFrame x.vc x.dmCheck (s.reqFrame id x r data poison)) id

/-- Send what credit allows. -/
def State.flowPump (s : State) (id : Nat) : State := (s.flowTouch id).flowPumpN (s.flow id).waitq.length id

/-- Queue requests on a flow and send what credit allows. -/
def State.flowQueue (s : State) (id : Nat) (l : List TxReq) : State :=
  let x := s.flow id
  (s.setFlow id { x with waitq := x.waitq ++ l }).flowPump id

/-- Resend requests in order, the source of each read again (R337). One whose source must wait for its memory channel ends the resend there;
bytes kept stand in for a source that is no longer mapped (log entry 56). -/
def State.resendReqs (id : Nat) (x : Flow) : List TxReq → State → State
  | [], s => s
  | r :: l, s =>
    let again (s : State) (data : List Nat) (poison : Nat) : State :=
      (s.cnt (pXpt x.fn) Cn.XPT_RESENDS).sendFrame x.vc x.dmCheck (s.reqFrame id x r data poison)
    match s.txRead x r with
    | .ok (s, data, poison) => State.resendReqs id x l (again s data poison)
    | .error e => if e = waitCode then s else State.resendReqs id x l (again s r.data r.poison)

/-- Resend every unacknowledged frame of a flow. -/
def State.flowResend (s : State) (id : Nat) : State := State.resendReqs id (s.flow id) (s.flow id).sent (s.flowTouch id)

/-- An ACK, NAK or TIME frame (R334): not sequenced. -/
def State.bareFrame (s : State) (id : Nat) (x : Flow) (op status off : Nat) : Frame :=
  { dst := x.peerMaddr, src := s.maddr, op := op, flags := 0, hops := 0, dflow := x.peerFlow, sflow := id,
    inc := s.rg R.RTE_INC_INC pRte, seq := 0, ack := x.rxNext, len := 0, status := status, off := off, sig := 0, sigInc := 0,
    poison := 0, data := [] }

/-- Send an ACK with TX_LIMIT = RX_NEXT + RX_GRANT (R334). -/
def State.sendAck (s : State) (id : Nat) : State :=
  let x := s.flow id
  (s.setFlow id { x with unacked := 0 }).sendFrame x.vc x.dmCheck (s.bareFrame id x 6 0 ((x.rxNext + x.rxGrant) % seqMod))

/-- Send a NAK with a status to the sender of a frame, carrying ACK = RX_NEXT (R335, R339). -/
def State.sendNak (s : State) (id status : Nat) (f : Frame) : State :=
  let x := s.flow id
  s.sendFrame x.vc x.dmCheck { s.bareFrame id x 7 status 0 with dst := f.src, dflow := f.sflow }

/-- TX_ACKED advances to `a`; a value that names nothing outstanding is stale and ignored (R334, R336). -/
def State.ackTo (s : State) (id a : Nat) : State :=
  let x := s.flow id
  let d := seqDist x.txAcked a
  if d = 0 ∨ d > seqDist x.txAcked x.txNext then s
  else
    let gone := x.sent.take d
    let s := s.setFlow id { x with sent := x.sent.drop d, txAcked := a % seqMod, retries := 0, synPend := false }
    s.flowSettle id (gone.map (fun r => r.tag))

/-! ### Failure and reset of a flow (R336, R338, R395) -/

/-- A data flow of a group fails: the operation running on its queue ends with PEER_LOST (R395). -/
def State.collPeerLost (s : State) (fn g : Nat) : State :=
  let q := s.commq g
  match q.ops with
  | o :: l =>
    if o.running = true ∧ o.result.isNone = true then
      (s.setCommq g { q with ops := { o with result := some St.PEER_LOST } :: l }).raise (pCol fn) Er.COL_PEER_LOST
    else s
  | [] => s

/-- A flow enters FAILED: its descriptors complete with FLOW_TIMEOUT, and FLOW_FAIL names the flow and its peer (R336). -/
def State.flowFail (s : State) (id : Nat) : State :=
  let x := s.flow id
  let s := s.flowEnd id St.FLOW_TIMEOUT
  let s := s.setFlow id { x with state := 2, waitq := [], sent := [], gets := [], retries := x.retryLimit }
  let s := (s.wr R.XPT_FLOW_FAILED_FLOW_ID (pXpt x.fn) id).raise (pXpt x.fn) Er.XPT_FLOW_FAIL (id + x.peerMaddr * 2 ^ 20)
  match x.grp with
  | some (g, i) => if i % 8 < 4 then s.collPeerLost x.fn g else s
  | none => s

/-- FLOW_CMD RESET: the flow is OPEN with SYN_PEND = 1 and its sequences at 0; descriptors outstanding complete with
ABORTED (R336, R480). -/
def State.flowReset (s : State) (id : Nat) : State :=
  let s := s.flowEnd id St.ABORTED
  let x := s.flow id
  if x.state = 0 then s else s.setFlow id { x.rewound with state := 1, synPend := true }

/-- Every flow of a function is reset (R480). -/
def State.flowsReset (s : State) (fn : Nat) : State :=
  ((s.net.flows.filter (fun e => decide (e.2.fn = fn))).map (fun e => e.1)).foldl State.flowReset s

/-- Close a flow: descriptors outstanding complete with ABORTED and the context is FREE (R347). -/
def State.flowClose (s : State) (id : Nat) : State :=
  let fn := (s.flow id).fn
  ((s.flowEnd id St.ABORTED).setFlow id Flow.free).flowUsedReg fn

/-! ### Receiving (R335, R338, R339) -/

/-- The oldest frame delivered on a VC that `sel` picks, with its place. -/
def State.rxFind (s : State) (vc : Nat) (sel : Frame → Bool) : Option (Nat × Frame) :=
  (((NMap.get [] s.net.rx vc).zipIdx).find? (fun e => sel e.1)).map (fun e => (e.2, e.1))

/-- Take the frame at place `i` of a VC. -/
def State.rxDrop (s : State) (vc i : Nat) : State :=
  { s with net := { s.net with rx := NMap.put vc ((NMap.get [] s.net.rx vc).eraseIdx i) s.net.rx } }

/-- A frame that names a FREE flow is answered with FLOW_UNKNOWN (R339). -/
def State.nakUnknown (s : State) (vc : Nat) (f : Frame) : State :=
  s.sendFrame vc false
    { dst := f.src, src := s.maddr, op := 7, flags := 0, hops := 0, dflow := f.sflow, sflow := f.dflow,
      inc := s.rg R.RTE_INC_INC pRte, seq := 0, ack := 0, len := 0, status := St.FLOW_UNKNOWN, off := 0, sig := 0,
      sigInc := 0, poison := 0, data := [] }

/-- A frame from a new incarnation with SYN resets the flow (R338). -/
def State.flowIncarnate (s : State) (id inc : Nat) : State :=
  let s := s.flowEnd id St.FLOW_RESET
  let x := s.flow id
  (s.setFlow id { x.rewound with peerInc := inc, synPend := true }).raise (pXpt x.fn) Er.XPT_FLOW_RESET id

/-- The window addresses of an access: within the all-cluster window or the translated window (R174), every line mapped for
the flow's function. -/
def State.checkWindow (s : State) (x : Flow) (write : Bool) (off n : Nat) : Except Nat Unit :=
  if n = 0 then .ok ()
  else if x.winBase + off < 2 ^ 32 then .error St.ADDR_RANGE
  else s.checkSpan (viaFn x.fn) write false (spanLines n) (x.winBase + off) n

/-- How the engine of a GET reaches its destination (R174). -/
def TxReq.getVia (r : TxReq) (fn : Nat) : Via := ⟨(r.src.getD (0, 0)).1, fn, true⟩

/-- The checks of R339 after the first, in order: the status of the first that fails. A frame whose line must wait for its channel or for the
write-combining buffer waits (R258, R260). -/
def State.frameCheck (s : State) (x : Flow) (f : Frame) : Nat :=
  let windowed := f.op = 1 ∨ f.op = 2 ∨ f.op = 4
  let wait (r : Except Nat Unit) : Nat := match r with
    | .error e => if e = waitCode then e else St.OK
    | .ok () => St.OK
  if f.src ≠ x.peerMaddr ∨ f.sflow ≠ x.peerFlow then St.FLOW_PEER
  else if windowed ∧ f.off + f.len > x.winLen then St.WINDOW_RANGE
  else if f.sigInc ≠ 0 ∧ ¬(x.sigBase ≤ f.sig ∧ f.sig < x.sigBase + x.sigCount) then St.DENIED
  else if windowed then
    match s.checkWindow x (f.op != 2) f.off f.len with
    | .error e => e
    | .ok () => St.OK
  else if f.op = 3 then
    match x.gets with
    | [] => St.OK
    | r :: _ => if r.src.isNone then St.OK
        else wait (s.checkSpan (r.getVia x.fn) true false (spanLines f.data.length) (r.dst + r.got) f.data.length)
  else St.OK

/-- How a sequenced frame meets its flow. -/
inductive Meet where
  /-- It is discarded, or answered; nothing of it takes effect. -/
  | done (s : State)
  /-- It must wait for a memory channel. -/
  | wait
  /-- It is consumed and its operation takes effect. -/
  | take (s : State)
  deriving Repr

/-- A frame of another incarnation without SYN is discarded, answered and counted (R338). -/
def State.flowStale (s : State) (id : Nat) (f : Frame) : State :=
  (s.cnt (pXpt (s.flow id).fn) Cn.XPT_FLOW_STALE).sendNak id St.FLOW_STALE f

/-- After a frame is consumed: the ACK that 32 of them call for (R334). -/
def State.ackDue (s : State) (id : Nat) : State := if (s.flow id).unacked ≥ 32 then s.sendAck id else s

/-- The frame at place `i` of VC `vc` meets its flow (R335, R338, R339), `check` giving the status of its checks: the state
with it consumed where it is next in sequence. Of a frame that fails a check nothing takes effect, its acknowledgement included. INC is compared
before the checks (log entry 132). -/
def State.meet (s : State) (vc i : Nat) (f : Frame) (check : State → Flow → Frame → Nat) : Meet :=
  let id := f.dflow
  if (s.flow id).state = 0 then .done ((s.rxDrop vc i).nakUnknown vc f)
  else
    let s0 := (s.rxDrop vc i).flowTouch id
    let syn := bit f.flags 0
    let other := decide (f.inc ≠ (s.flow id).peerInc)
    if other = true ∧ syn = false then
      .done (s0.flowStale id f)
    else
      let s1 := if other then s0.flowIncarnate id f.inc else s0
      let x := s1.flow id
      let d := if other then 0 else seqDist x.rxNext f.seq
      if d ≠ 0 then .done (if d < 2 ^ 23 then s1.sendNak id St.OUT_OF_ORDER f else s1.sendAck id)
      else
        let st := check s1 x f
        if st = waitCode then .wait
        else
          let s2 := s1.setFlow id { x with rxNext := (x.rxNext + 1) % seqMod, unacked := x.unacked + 1 }
          if st ≠ St.OK then .done ((s2.sendNak id st f).ackDue id)
          else .take (s2.ackTo id f.ack)

/-- Whether a frame is sequenced (R334). -/
def Frame.sequenced (f : Frame) : Bool := decide (f.op < 6)

/-- The oldest sequenced frame delivered on `vc` that is not a PUT of a group (those are the collective engine's) is of OP `op`: it meets
its flow, `apply` being its effect. -/
def State.takeFrame (s : State) (vc op : Nat) (apply : State → Flow → Frame → State) : State :=
  match s.rxFind vc (fun f => f.sequenced && ((s.flow f.dflow).grp.isNone || f.op != 1)) with
  | none => s
  | some (i, f) =>
    if f.op ≠ op then s
    else
      match s.meet vc i f State.frameCheck with
      | .done s => s.flowPump f.dflow
      | .wait => s
      | .take s => ((apply s (s.flow f.dflow) f).ackDue f.dflow).flowPump f.dflow

/-- The signal of a frame, after its data (R340, R611). -/
def State.frameSig (s : State) (f : Frame) : State := if f.sigInc = 0 then s else (s.sigAdd f.sig f.sigInc).2

/-- The payload with the poison of its lines (R331). -/
def Frame.marked (f : Frame) : List (Nat × Bool) := (f.data.zipIdx).map (fun b => (b.1, bit f.poison (b.2 / 64)))

/-- Write marked bytes into the window. -/
def State.windowWrite (s : State) (fn a : Nat) (bs : List (Nat × Bool)) : Nat × State :=
  s.writeSpan (viaFn fn) (spanLines bs.length) a (bs.map (fun b => (some b.1, b.2)))

/-- PUT (R339): the payload, then the signal. -/
def execPut (vc : Nat) (ups : List Upset) (s : State) : Host.Outcome State Fault Refusal :=
  .next (s.takeFrame vc 1 (fun s x f =>
    ((s.upsets 0 ups).windowWrite x.fn (x.winBase + f.off) f.marked).2.frameSig f))

/-- GET_REQ (R339): the window is read and returned in a GET_RESP on the flow's own sequence. -/
def execGetReq (vc : Nat) (ups : List Upset) (s : State) : Host.Outcome State Fault Refusal :=
  .next (s.takeFrame vc 2 (fun s x f =>
    match (s.upsets 0 ups).ldN (viaFn x.fn) (x.winBase + f.off) f.len with
    | .error _ => s
    | .ok (s, bs) =>
      let r : TxReq := ⟨3, 0, f.off, f.len, 0, 0, 0, none, 0, 0, 0, bs.map (fun b => b.1), poisonBits bs⟩
      (s.flowQueue f.dflow [r]).frameSig f))

/-- Write at the destination of a request, as its engine does: the status, the state, and the bytes written (R194, R207). A request whose
descriptor is over takes its response without effect. -/
def State.getWrite (s : State) (fn : Nat) (r : TxReq) (bs : List (Nat × Bool)) : Nat × State × Nat :=
  if r.src.isNone then (St.OK, s, 0)
  else
    let v := r.getVia fn
    let row := bs.map (fun b => (some b.1, b.2))
    let (st, t) := s.writeSpan v (spanLines bs.length) (r.dst + r.got) row
    (st, t, if st = St.OK then bs.length else s.spanWritten v (spanLines bs.length) (r.dst + r.got) row)

/-- GET_RESP (R339): the payload goes to the destination of the oldest request that is not answered in full. A descriptor that meets a line it may
not write stops there, and its later responses write nothing (R194). -/
def execGetResp (vc : Nat) (ups : List Upset) (s : State) : Host.Outcome State Fault Refusal :=
  .next (s.takeFrame vc 3 (fun s x f =>
    match x.gets with
    | [] => s
    | r :: l =>
      let (st, s, w) := (s.upsets 0 ups).getWrite x.fn r f.marked
      let s := s.descMoved r.tag 0 w
      let r' := { r with got := r.got + f.data.length }
      let y := { s.flow f.dflow with gets := if r'.got ≥ r.len then l else r' :: l }
      if st ≠ St.OK then (s.setFlow f.dflow (y.dropTag r.tag)).tagResult r.tag st
      else (s.setFlow f.dflow y).flowSettle f.dflow [r.tag]))

/-! ### ATOMIC_ADD (R339, R386) -/

/-- The saturating sum of two's complement numbers of `w` bits, and whether it left the range. -/
def satSum (w a b : Nat) : Nat × Bool :=
  let z := sext w a + sext w b
  let top : Int := 2 ^ (w - 1)
  if z ≥ top then (wrap w (top - 1), true) else if z < -top then (wrap w (-top), true) else (wrap w z, false)

/-- A sum saturated in the step domain of a function: the collective overflow count and error source COLL_OVF (R386). -/
def State.collOvf (s : State) (fn n : Nat) : State :=
  if n = 0 then s else (s.incSat R.COL_COLL_OVF_COUNT (pCol fn) n).raise (pCol fn) Er.COL_COLL_OVF

/-- Add the elements of `add` to those of `mem`, each of `w` bytes; bytes beyond the last whole element stay. The marks of both
stay with the bytes, and the count of saturated sums is answered. -/
def addElems (w : Nat) : Nat → List (Nat × Bool) → List (Nat × Bool) → List (Nat × Bool) × Nat
  | 0, mem, _ => (mem, 0)
  | k + 1, mem, add =>
    if mem.length < w ∨ add.length < w then (mem, 0)
    else
      let m := mem.take w
      let a := add.take w
      let (v, ov) := satSum (8 * w) (ofBytes (m.map (fun b => b.1))) (ofBytes (a.map (fun b => b.1)))
      let bad := m.any (fun b => b.2) || a.any (fun b => b.2)
      let (l, n) := addElems w k (mem.drop w) (add.drop w)
      ((leBytes w v).map (fun b => (b, bad)) ++ l, n + b2n ov)

/-- ATOMIC_ADD (R339): the sums are exact or saturate; then the signal. -/
def execAtomicAdd (vc : Nat) (ups : List Upset) (s : State) : Host.Outcome State Fault Refusal :=
  .next (s.takeFrame vc 4 (fun s x f =>
    match (s.upsets 0 ups).ldN (viaFn x.fn) (x.winBase + f.off) f.len with
    | .error _ => s
    | .ok (s, mem) =>
      let w := if bit f.flags 1 then 8 else 4
      let (l, n) := addElems w (f.len / w + 1) mem f.marked
      (((s.windowWrite x.fn (x.winBase + f.off) l).2).collOvf x.fn n).frameSig f))

/-- SIGNAL (R339): a result past 2^64 − 1 leaves the signal unchanged and is answered with SIG_OVERFLOW. -/
def execSignal (vc : Nat) (s : State) : Host.Outcome State Fault Refusal :=
  .next (s.takeFrame vc 5 (fun s _ f =>
    if f.sigInc = 0 then s
    else
      match s.sigAdd f.sig f.sigInc with
      | (0, s) => s
      | (e, s) => s.sendNak f.dflow e f))

/-! ### ACK and NAK (R334, R335, R336, R339) -/

/-- The oldest frame of an unsequenced OP on `vc`: taken, and applied where it names a flow whose peer sent it. One of another incarnation is
discarded, answered and counted (R338; log entry 51). -/
def State.takeBare (s : State) (vc op : Nat) (apply : State → Nat → Frame → State) : State :=
  match s.rxFind vc (fun f => decide (f.op = op)) with
  | none => s
  | some (i, f) =>
    let s := s.rxDrop vc i
    let x := s.flow f.dflow
    if x.state = 0 then s
    else if f.inc ≠ x.peerInc then (s.flowTouch f.dflow).flowStale f.dflow f
    else if f.src ≠ x.peerMaddr ∨ f.sflow ≠ x.peerFlow then s
    else apply (s.flowTouch f.dflow) f.dflow f

/-- ACK (R334): TX_ACKED and TX_LIMIT advance, a stale value of either being ignored. -/
def execAck (vc : Nat) (s : State) : Host.Outcome State Fault Refusal :=
  .next (s.takeBare vc 6 (fun s id f =>
    let s := s.ackTo id f.ack
    let x := s.flow id
    let lim := f.off % seqMod
    (if seqBefore x.txLimit lim then s.setFlow id { x with txLimit := lim } else s).flowPump id))

/-- The descriptor of a request ends with a status: what of it has not been sent is not sent any more. The request itself gets no response; those
before and after it that have been sent do, which are written at their destinations (R339). -/
def State.flowFailReq (s : State) (id : Nat) (r : TxReq) (st : Nat) : State :=
  let s := s.tagResult r.tag st
  let x := s.flow id
  if r.tag = 0 then s
  else s.setFlow id { x with
    waitq := x.waitq.filter (fun q => decide (q.tag ≠ r.tag)), gets := x.gets.filter (fun q => !(decide (q.tag = r.tag) && decide (q.seq = r.seq))) }

/-- NAK (R335, R338, R339): OUT_OF_ORDER asks for a resend from ACK; any other status fails the descriptor of the frame it
answers, which is the one before ACK, or, where no frame was consumed, the oldest outstanding. -/
def execNak (vc : Nat) (s : State) : Host.Outcome State Fault Refusal :=
  .next (s.takeBare vc 7 (fun s id f =>
    let p := pXpt (s.flow id).fn
    let s := s.cnt p Cn.XPT_NAK_RCVD
    if f.status = St.OUT_OF_ORDER then ((s.ackTo id f.ack).flowResend id).flowPump id
    else
      let s := s.raise p Er.XPT_FLOW_NAK f.status
      let x := s.flow id
      let unseen := f.status = St.FLOW_UNKNOWN ∨ f.status = St.FLOW_STALE
      let r := if unseen then x.sent.head? else x.sent.find? (fun r => decide ((r.seq + 1) % seqMod = f.ack))
      let s := match r with
        | some r => s.flowFailReq id r f.status
        | none => s
      ((if unseen then s else s.ackTo id f.ack)).flowPump id))

/-- ACK_TIMER (R334): 1 µs after a frame was accepted and not acknowledged, an ACK is sent. -/
def execAckTimer (flow : Nat) (s : State) : Host.Outcome State Fault Refusal :=
  .next (if (s.flow flow).state ≠ 0 ∧ (s.flow flow).unacked > 0 then s.sendAck flow else s)

/-- FLOW_RTO (R336): TX_ACKED has not advanced for RTO × 2^RETRIES: the flow resends and RETRIES increments; at RETRY_LIMIT it enters
FAILED. -/
def execFlowRto (flow : Nat) (s : State) : Host.Outcome State Fault Refusal :=
  .next (
    let x := s.flow flow
    if x.state ≠ 1 ∨ x.sent = [] then s
    else
      let s := (s.setFlow flow { x with retries := x.retries + 1 }).flowResend flow
      if x.retries + 1 ≥ x.retryLimit then s.flowFail flow else s)

/-! ### FLOW_CMD (R333, R336, R347) -/

/-- A FLOW_CMD of a function, given by `req`: performed only where the page takes the write and the last command is
complete. While the page is fenced or its ENABLE is 0 it does nothing, and completes with FENCED or QUIESCED (R14). -/
def State.flowCmd (s : State) (req fn op : Nat) (f : State → Nat → Nat × State) : State :=
  let p := pXpt fn
  if s.mayWrite req p = false ∨ s.flag R.XPT_FLOW_RESULT_DONE p = false then s
  else
    let s := s.wr R.XPT_FLOW_CMD_OP p op
    let (st, s) := if s.workStatus p = St.OK then f s (s.rg R.XPT_FLOW_ID_FLOW_ID p) else (s.workStatus p, s)
    s.wr R.XPT_FLOW_RESULT_STATUS p st

/-- Open a flow end for a function: FLOW_FULL at its quota or a full table, FLOW_IN_USE where the named one is not FREE
(R333). -/
def State.flowOpen (s : State) (fn : Nat) (named : Option Nat) (image : Nat) : Nat × State :=
  let id := named.getD (lowestFree 0 (s.net.flows.map (fun e => e.1)))
  if s.flowsUsed fn ≥ (s.fnRes fn).flows ∨ s.net.flows.length ≥ 2 ^ 20 then (St.FLOW_FULL, s)
  else if (s.flow id).state ≠ 0 then (St.FLOW_IN_USE, s)
  else (St.OK, (s.setFlow id (Flow.opened image fn)).flowUsedReg fn)

/-- FLOW_OPEN (R333). -/
def execFlowOpen (req fn : Nat) (s : State) : Host.Outcome State Fault Refusal :=
  .next (s.flowCmd req fn 1 (fun s id =>
    let p := pXpt fn
    let any := s.flag R.XPT_FLOW_ID_ANY p
    let id' := if any then lowestFree 0 (s.net.flows.map (fun e => e.1)) else id
    let (st, s) := s.flowOpen fn (some id') (s.rg R.XPT_FLOW_CTX_CTX p)
    (st, if st = St.OK then s.wr R.XPT_FLOW_ID_FLOW_ID p id' else s)))

/-- A command on a flow of another function, or on a FREE one, is DENIED (R347). -/
def State.flowOwned (s : State) (fn id : Nat) (f : State → State) : Nat × State :=
  if (s.flow id).state = 0 ∨ (s.flow id).fn ≠ fn then (St.DENIED, s) else (St.OK, f s)

/-- FLOW_CLOSE (R347). -/
def execFlowClose (req fn : Nat) (s : State) : Host.Outcome State Fault Refusal :=
  .next (s.flowCmd req fn 2 (fun s id => s.flowOwned fn id (fun s => s.flowClose id)))

/-- FLOW_RESET (R336). -/
def execFlowReset (req fn : Nat) (s : State) : Host.Outcome State Fault Refusal :=
  .next (s.flowCmd req fn 3 (fun s id => s.flowOwned fn id (fun s => s.flowReset id)))

/-- FLOW_READ (R347): the whole context. -/
def execFlowRead (req fn : Nat) (s : State) : Host.Outcome State Fault Refusal :=
  .next (s.flowCmd req fn 4 (fun s id => s.flowOwned fn id (fun s => s.wr R.XPT_FLOW_CTX_CTX (pXpt fn) (s.flow id).image)))

/-! ### PUT and GET descriptors (R193, R194) -/

/-- Flow that a PUT or GET names. -/
def DmaDesc.flowId (d : DmaDesc) : Nat := (if d.opc = 5 then d.dst else d.src) / 2 ^ 44
/-- Offset in its remote window. -/
def DmaDesc.flowOff (d : DmaDesc) : Nat := (if d.opc = 5 then d.dst else d.src) % 2 ^ 44

/-- The requests of a PUT or GET: rows cut into pieces of up to 4,096 bytes, the remote signal with the last; without data, a
PUT of length 0 for the signal alone. -/
def DmaDesc.requests (d : DmaDesc) (tag : Nat) : List TxReq :=
  let remoteStride := if d.opc = 5 then d.dstStride else d.srcStride
  let localStride := if d.opc = 5 then d.srcStride else d.dstStride
  let base := if d.opc = 5 then d.src else d.dst
  let pieces := (List.range d.rows).flatMap (fun r => (List.range (ceilDiv d.cols 4096)).map (fun k =>
    let n := min 4096 (d.cols - 4096 * k)
    let here := base + r * localStride + 4096 * k
    ({ op := if d.opc = 5 then 1 else 2, flags := 0, off := (d.flowOff + r * remoteStride + 4096 * k) % 2 ^ 44, len := n,
       sig := 0, sigInc := 0, seq := 0, src := some (d.core, if d.opc = 5 then here else 0), dst := if d.opc = 6 then here else 0,
       got := 0, tag := tag, data := [], poison := 0 } : TxReq)))
  let sig := d.fld 0x30 16
  let inc := d.fld 0x38 32
  match pieces.reverse with
  | r :: l => (({ r with sig := sig, sigInc := inc } : TxReq) :: l).reverse
  | [] => if inc = 0 then [] else [⟨1, 0, d.flowOff, 0, sig, inc, 0, some (d.core, 0), 0, 0, tag, [], 0⟩]

/-- A PUT or GET that the engine serves next starts (R193, R194): it completes at once where its engine or its function's transport is out of
service (R14), on a failed check, on a FAILED flow
(R336) or for a peer that no frame reaches (R323); otherwise its frames wait on the flow. -/
def State.dmaFlow (s : State) (e op : Nat) (ups : List Upset) : State :=
  if s.engServes e = false then s
  else
    match s.dmaPick e with
    | none => s
    | some (i, n, d) =>
      if d.opc ≠ op then s
      else
        let id := d.flowId
        let x := s.flow id
        let st := if s.engTakes e then s.dmaCheck e d (decide (x.state ≠ 0) && decide (x.fn = d.fn)) else s.workStatus (pEng e)
        let st := if st = St.OK then s.workStatus (pXpt d.fn) else st
        let s := (s.dmaTurn e i).upsets d.core ups
        if st ≠ St.OK then s.setDesc e i n { d with started := true, result := some st }
        else if x.state = 2 then s.setDesc e i n { d with started := true, result := some St.FLOW_FAILED }
        else if s.reachable x.peerMaddr x.vc = false then
          s.noRoute.setDesc e i n { d with started := true, result := some St.MADDR_RANGE }
        else
          let tag := s.net.nextTag * 2048 + e
          let reqs := d.requests tag
          if reqs = [] then s.setDesc e i n { d with started := true, result := some St.OK }
          else
            let s := { s with net := { s.net with nextTag := s.net.nextTag + 1 } }
            (s.setDesc e i n { d with started := true, tag := tag }).flowQueue id reqs

/-- DMA_PUT (R193). -/
def execDmaPut (eng : Nat) (ups : List Upset) (s : State) : Host.Outcome State Fault Refusal := .next (s.dmaFlow eng 5 ups)

/-- DMA_GET (R193). -/
def execDmaGet (eng : Nat) (ups : List Upset) (s : State) : Host.Outcome State Fault Refusal := .next (s.dmaFlow eng 6 ups)

end Sys2Proof.Machine
end

