-- ==== Sys2Proof/Machine/Queue.lean ====
section
/-!
DEFINITION. Command queues (R412–R420): the descriptor's fields, which command of a queue starts next, what holds it, and
the record of its outcome.
-/

namespace Sys2Proof.Machine

/-! ### The descriptor (R418, R419) -/

/-- A field of a command: `len` bits at byte offset `off`. -/
def Cmd.fld (c : Cmd) (off len : Nat) : Nat := bits c.desc (8 * off + len - 1) (8 * off)
/-- OPCODE. -/
def Cmd.opcode (c : Cmd) : Nat := c.fld 0 8
/-- EVT_DONE. -/
def Cmd.evtDone (c : Cmd) : Bool := bit c.desc 8
/-- ERR_SIGNAL. -/
def Cmd.errSignal (c : Cmd) : Bool := bit c.desc 9
/-- WAIT_PREV. -/
def Cmd.waitPrev (c : Cmd) : Bool := bit c.desc 10
/-- LAYER_ID. -/
def Cmd.layer (c : Cmd) : Nat := c.fld 2 16
/-- OP_ID. -/
def Cmd.opId (c : Cmd) : Nat := c.fld 4 16
/-- COMPL_SIG. -/
def Cmd.sig (c : Cmd) : Nat := c.fld 8 16
/-- SIG_INC. -/
def Cmd.inc (c : Cmd) : Nat := c.fld 0xC 32
/-- Operand bits: `len` from bit `lo` of the word at byte offset `off`. -/
def Cmd.opnd (c : Cmd) (off hi lo : Nat) : Nat := bits c.desc (8 * off + hi) (8 * off + lo)

/-- The attribution of a command of module queue `q` (R418, R425). -/
def Cmd.attr (c : Cmd) (q : Nat) : Nat := attrOf c.layer c.opId q

/-! ### Commands in flight -/

/-- CQ_STATUS.STATE of a queue. -/
def State.cqState (s : State) (q : Nat) : Nat := s.rg R.QUE_CQ_STATUS_STATE q

/-- CLASS of a queue. -/
def State.cqClass (s : State) (q : Nat) : Nat := s.rg R.QUE_CQ_CFG_CLASS q

/-- The command of a descriptor number. -/
def State.cmdFind (s : State) (q num : Nat) : Option Cmd := (s.cq q).inflight.find? (fun c => decide (c.num = num))

/-- Change a command in flight. -/
def State.cmdMap (s : State) (q num : Nat) (f : Cmd → Cmd) : State :=
  let x := s.cq q
  s.setCq q { x with inflight := x.inflight.map (fun c => if c.num = num then f c else c) }

/-- The outcome of a command, unless it is known already. -/
def State.cmdResult (s : State) (q num st : Nat) : State :=
  s.cmdMap q num (fun c => if c.result.isNone then { c with started := true, result := some st } else c)

/-- Show what holds a queue (R435); opcode 0 for nothing. -/
def State.cqWait (s : State) (q op sig : Nat) : State :=
  (s.wr R.QUE_CQ_WAIT_OPCODE q op).wr R.QUE_CQ_WAIT_SIG q sig

/-- All commands in flight of a function, with their queues. -/
def State.cmdsOf (s : State) (fn : Nat) : List (Nat × Cmd) :=
  (s.cmdqsOf fn).flatMap (fun q => (s.cq q).inflight.map (fun c => (q, c)))

/-- Whether a command is a step command. -/
def Cmd.isStep (c : Cmd) : Bool := c.opcode == 6 || c.opcode == 7

/-- Whether the barrier of a step command leaves a command of a queue alone (R233): a SNAPSHOT, and the commands of class 0 queues. -/
def State.stepExempt (s : State) (q : Nat) (c : Cmd) : Bool := c.opcode == 8 || decide (s.cqClass q = 0)

/-- Whether every command that the function fetched before `order` has completed, but for those exempt (R233). -/
def State.earlierDone (s : State) (fn order : Nat) : Bool :=
  (s.cmdsOf fn).all (fun e => decide (e.2.order ≥ order) || s.stepExempt e.1 e.2)

/-- Whether a step command in progress holds a command of a queue (R233). -/
def State.stepHolds (s : State) (fn q : Nat) (c : Cmd) : Bool :=
  !(s.stepExempt q c) && (s.cmdsOf fn).any (fun e => e.2.isStep && e.2.result.isNone && decide (e.2.order < c.order))

/-- Commands of a queue that execute now. -/
def CmdQ.executing (x : CmdQ) : Nat := (x.inflight.filter (fun c => c.started && c.result.isNone)).length

/-- The first command of a queue that has not started, with its place; none while a SIGNAL_WAIT before it waits (R416). -/
def State.cqFirst (s : State) (q : Nat) : Option (Nat × Cmd) :=
  let l := (s.cq q).inflight
  match (l.zipIdx).find? (fun e => !e.1.started) with
  | none => none
  | some (c, i) =>
    if (l.take i).any (fun e => e.opcode == 3 && e.started && e.result.isNone) then none else some (i, c)

/-- Instance of the banked registers of a function's watch point (R568). -/
def twInst (fn k : Nat) : Nat := 0x10000 + 16 * fn + k

/-- Digests queued for a function (R568). -/
def State.twPending (s : State) (fn : Nat) : State :=
  let n := (s.dbgFn fn).digests.length
  (s.wr R.DBG_TW_STATUS_PENDING (pDbg fn) (min 16 n)).wrB R.DBG_TW_STATUS_BUSY (pDbg fn) (decide (n ≠ 0))

/-- Watch point `k` of a function matches a command that starts: every PERIOD-th match takes a digest (R561, R564). -/
def State.twMatch1 (fn q : Nat) (c : Cmd) (s : State) (k : Nat) : State :=
  let i := twInst fn k
  if s.flag R.DBG_TW_CTRL_EN i = true
      ∧ (c.layer ^^^ s.rg R.DBG_TW_MATCH_LAYER_ID i) &&& s.rg R.DBG_TW_MATCH_LAYER_MASK i = 0
      ∧ (c.opId ^^^ s.rg R.DBG_TW_MATCH_OP_ID i) &&& s.rg R.DBG_TW_MATCH_OP_MASK i = 0 then
    let d := s.dbgFn fn
    let n := NMap.get 0 d.matched k + 1
    let d := { d with matched := NMap.put k n d.matched }
    if n % s.rg R.DBG_TW_CTRL_PERIOD i = 0 then
      let g : Digest := ⟨k, q, c.num, c.layer, c.opId, s.tbc, s.rg R.DBG_TW_DESC_ADDR i * 64, s.rg R.DBG_TW_CTRL_EBASE i⟩
      (s.setDbg fn { d with digests := d.digests ++ [g] }).twPending fn
    else s.setDbg fn d
  else s

/-- The watch points that match a command that starts (R561). -/
def State.twMatch (s : State) (fn q : Nat) (c : Cmd) : State :=
  if [1, 2, 5].contains c.opcode then (List.range 16).foldl (State.twMatch1 fn q c) s else s

/-- What holds command `c`, at place `i` of queue `q`: the OPCODE and SIG that CQ_WAIT shows (R415, R416, R233, R435). The limit of a
class 0 queue is no command, and shows as none. -/
def State.cmdHolder (s : State) (q i : Nat) (c : Cmd) : Option (Nat × Nat) :=
  let step := (s.cmdsOf (s.cmdqFn q)).find? (fun e => e.2.isStep && e.2.result.isNone && decide (e.2.order < c.order))
  if c.waitPrev = true ∧ i ≠ 0 then some (c.opcode, if c.opcode = 3 then c.fld 0x10 16 else 0)
  else if s.stepHolds (s.cmdqFn q) q c then some (((step.map (fun e => e.2.opcode)).getD 0), 0)
  else if s.cqClass q = 0 ∧ (s.cq q).executing ≥ 4 then some (0, 0)
  else none

/-- The next command of queue `q` starts when its OPCODE is `op` and nothing holds it (R415, R416, R233): `body` answers the
state and the outcome where it is known at once, or none where the command must go on waiting. -/
def State.cmdStart (s : State) (q op : Nat) (body : State → Cmd → Option (State × Option Nat)) : State :=
  match s.cqFirst q with
  | none => s
  | some (i, c) =>
    if c.opcode ≠ op then s
    else
      let fn := s.cmdqFn q
      match s.cmdHolder q i c with
      | some h => s.cqWait q h.1 h.2
      | none =>
        match body (s.cmdMap q c.num (fun c => { c with started := true, since := s.tbc })) c with
        | none => s.cqWait q op 0
        | some (s, r) =>
          let s := s.trace fn 0 0x0C10 (c.num % 2 ^ 32 + op * 2 ^ 32) (pQue fn) false (c.attr q)
          let s := (s.cqWait q 0 0).twMatch fn q c
          match r with
          | some st => s.cmdResult q c.num st
          | none => s

end Sys2Proof.Machine
end

