-- ==== Sys2Proof/Machine/Coll.lean ====
section
/-!
DEFINITION. Collectives (R368–R389, R394–R397): group tables and their flows, launching, ring phases, exact reduction,
gathering, failure and queue reset.
-/

namespace Sys2Proof.Machine

/-! ### Groups (R368–R372) -/

/-- The active entry of a communication queue's group. -/
def State.grpEntry (s : State) (g : Nat) : Nat :=
  PMap.get 0 s.coll.grp (s.rg R.COL_GRP_CTRL_ACTIVE (pCol (s.commqFn g)), g)

/-- TOLERANT. -/
def gTolerant (e : Nat) : Bool := bit e 1
/-- SINGLE. -/
def gSingle (e : Nat) : Bool := bit e 2
/-- LANES2. -/
def gLanes2 (e : Nat) : Bool := bit e 3
/-- RETRY_LIMIT. -/
def gRetry (e : Nat) : Nat := bits e 11 8
/-- FLOW_BASE. -/
def gFlowBase (e : Nat) : Nat := bits e 35 16
/-- ORIGIN. -/
def gOrigin (e : Nat) : Nat := bits e 93 64
/-- Extent of the box on an axis. -/
def gExt (e a : Nat) : Nat := bits e (105 + 10 * a) (96 + 10 * a) + 1
/-- RTO. -/
def gRto (e : Nat) : Nat := bits e 147 128
/-- Group size P. -/
def gSize (e : Nat) : Nat := gExt e 0 * gExt e 1 * gExt e 2
/-- Rings that carry data: 1 or 2. -/
def gRings (e : Nat) : List Nat := if gLanes2 e then [0, 1] else [0]
/-- Axes of extent greater than 1. -/
def gAxes (e : Nat) : List Nat := [0, 1, 2].filter (fun a => decide (gExt e a > 1))

/-- Whether an entry is valid and usable (R369). -/
def State.grpUsable (s : State) (e : Nat) : Bool :=
  bit e 0 && decide (bits e 7 4 = 0) && decide (bits e 15 12 = 0) && decide (bits e 63 36 = 0) && decide (bits e 95 94 = 0)
  && decide (bits e 127 126 = 0) && decide (bits e 255 148 = 0) && decide (gRetry e ≠ 0) && decide (gFlowBase e % 32 = 0)
  && decide (1 ≤ gRto e) && decide (gRto e ≤ 1000000)
  && [0, 1, 2].all (fun a => decide (gExt e a ≤ s.axisLen a) && (gSingle e || decide (s.axisLen a % gExt e a = 0)))

/-- t of R370: the module's offset from the origin on an axis. -/
def State.grpT (s : State) (e a : Nat) : Nat :=
  (coord s.maddr a + s.axisLen a - coord (gOrigin e) a % s.axisLen a) % s.axisLen a

/-- The module's local index on an axis (R370). -/
def State.grpIdx (s : State) (e a : Nat) : Nat := if gSingle e then s.grpT e a else s.grpT e a % gExt e a

/-- Whether the module is in the group (R370). -/
def State.grpMember (s : State) (e : Nat) : Bool := !(gSingle e) || [0, 1, 2].all (fun a => decide (s.grpT e a < gExt e a))

/-- The member whose local index on axis `a` is `i`, the other indices being this module's (R371). -/
def State.grpPeer (s : State) (e a i : Nat) : Nat :=
  let t := s.grpT e a - s.grpIdx e a + i
  let c := (coord (gOrigin e) a + t) % s.axisLen a
  putBits s.maddr (10 * a + 9) (10 * a) c

/-- The successor on ring `w`. -/
def State.grpNext (s : State) (e a w : Nat) : Nat :=
  let n := gExt e a
  s.grpPeer e a (if w = 0 then (s.grpIdx e a + 1) % n else (s.grpIdx e a + n - 1) % n)

/-- The predecessor on ring `w`. -/
def State.grpPrev (s : State) (e a w : Nat) : Nat := s.grpNext e a (1 - w)

/-- Index of a flow: axis, kind (0 data, 1 verdict), end (0 outbound, 1 inbound), ring (R372). -/
def gFlow (e a v d w : Nat) : Nat := gFlowBase e + 8 * a + 4 * v + 2 * d + w

/-- The flows of an entry, as (axis, kind, end, ring). -/
def gFlows (e : Nat) : List (Nat × Nat × Nat × Nat) :=
  (gAxes e).flatMap (fun a =>
    (gRings e).flatMap (fun w => [(a, 0, 0, w), (a, 0, 1, w)]) ++ [(a, 1, 0, 0), (a, 1, 1, 0), (a, 1, 0, 1), (a, 1, 1, 1)])

/-- The image that a flow of a group is opened with (R372). -/
def State.grpFlowImage (s : State) (e a v d w : Nat) : Nat :=
  let peer := if d = 0 then s.grpNext e a w else s.grpPrev e a w
  ofBytes (leBytes 4 ((if v = 0 then 1 else 0) * 16 + b2n (!(gTolerant e)) * 64 + gRetry e * 2 ^ 16) ++ leBytes 4 peer
    ++ leBytes 4 (gFlow e a v (1 - d) w) ++ leBytes 4 (gRto e) ++ leBytes 16 0 ++ leBytes 4 (1 + Config.groupGrant % 2 ^ 22)
    ++ leBytes 28 0)

/-- Close the flows of an entry of queue `g`. -/
def State.grpClose (s : State) (g e : Nat) : State :=
  (gFlows e).foldl (fun s k =>
    let id := gFlow e k.1 k.2.1 k.2.2.1 k.2.2.2
    match (s.flow id).grp with
    | some (g', _) => if g' = g ∧ (s.flow id).state ≠ 0 then s.flowClose id else s
    | none => s) s

/-- Open the flows of an entry of queue `g` of function `fn`: all of them, or none (R372). -/
def State.grpOpen (s : State) (fn g e : Nat) : State :=
  let s := s.wr R.COL_CQ_STATUS_FLOWS_OK g 0
  if (s.grpUsable e && s.grpMember e) = false then s
  else
    let (ok, opened, s) := (gFlows e).foldl (fun (acc : Bool × List Nat × State) k =>
      if acc.1 then
        let (a, v, d, w) := k
        let id := gFlow e a v d w
        match acc.2.2.flowOpen fn (some id) (acc.2.2.grpFlowImage e a v d w) with
        | (0, s) => (true, id :: acc.2.1, s.setFlow id { s.flow id with grp := some (g, 8 * a + 4 * v + 2 * d + w) })
        | (_, s) => (false, acc.2.1, s)
      else acc) (true, [], s)
    if ok then s.wr R.COL_CQ_STATUS_FLOWS_OK g 1 else (opened.foldl State.flowClose s).raise (pCol fn) Er.COL_GROUP_FLOWS

/-- An idle queue closes the flows of the entries it no longer has (R372). -/
def State.grpIdle (s : State) (g : Nat) : State :=
  let q := s.commq g
  if q.closing = [] ∨ s.rg R.COL_CQ_STATUS_STATE g ≠ 0 then s
  else (q.closing.foldl (fun s e => s.grpClose g e) s).setCommq g { q with closing := [] }

/-- The group table of a function has flipped from bank `old` (R372): the flows of the entries that changed. -/
def State.grpFlipped (s : State) (fn old : Nat) : State :=
  let r := s.fnRes fn
  (List.range r.commCount).foldl (fun s k =>
    let g := r.commBase + k
    let e := PMap.get 0 s.coll.grp (old, g)
    let n := PMap.get 0 s.coll.grp (1 - old, g)
    if e = n then s
    else
      let s := if bit e 0 then (s.setCommq g { s.commq g with closing := (s.commq g).closing ++ [e] }).grpIdle g else s
      s.grpOpen fn g n) s

/-- NBR_RESULT (R394, R398). -/
def State.nbrResult (s : State) (fn : Nat) : Nat :=
  let p := pCol fn
  let a := s.rg R.COL_NBR_QUERY_AXIS p
  match s.commqOf fn (s.rg R.COL_NBR_QUERY_GID p) with
  | none => 0
  | some g =>
    let e := s.grpEntry g
    if a < 3 ∧ (s.grpUsable e && s.grpMember e) = true ∧ gExt e a > 1 then
      2 ^ 63 + s.grpIdx e a * 2 ^ 52 + (gExt e a - 1) * 2 ^ 40 + s.grpNext e a (s.rg R.COL_NBR_QUERY_DIR p)
    else 0

/-! ### Operations (R373, R374, R378, R379, R383) -/

/-- A field of a COB: `len` bits at byte offset `off`. -/
def CollOp.fld (o : CollOp) (off len : Nat) : Nat := bits o.cob (8 * off + len - 1) (8 * off)
/-- KIND. -/
def CollOp.kind (o : CollOp) : Nat := o.fld 0 8
/-- RED. -/
def CollOp.red (o : CollOp) : Nat := o.fld 1 8
/-- FLAGS.EF. -/
def CollOp.ef (o : CollOp) : Bool := bit o.cob 16
/-- GID. -/
def CollOp.gid (o : CollOp) : Nat := o.fld 4 12
/-- COUNT. -/
def CollOp.count (o : CollOp) : Nat := o.fld 8 64
/-- SRC. -/
def CollOp.src (o : CollOp) : Nat := o.fld 0x10 64
/-- DST. -/
def CollOp.dst (o : CollOp) : Nat := o.fld 0x18 64
/-- DST_FMT. -/
def CollOp.dstFmt (o : CollOp) : Nat := o.fld 0x40 32
/-- COMPL_SIG. -/
def CollOp.sig (o : CollOp) : Nat := o.fld 0x44 16
/-- SIG_INC. -/
def CollOp.inc (o : CollOp) : Nat := o.fld 0x48 32
/-- DST_SCALE. -/
def CollOp.dstScale (o : CollOp) : Nat := o.fld 0x50 64

/-- Whether the reduction format is BFX64 (R383). -/
def CollOp.wide (o : CollOp) : Bool := o.red == 2 || (o.red == 0 && decide (gSize o.entry > 4096))
/-- W of R383. -/
def CollOp.w (o : CollOp) : Nat := if o.wide then 63 else 31
/-- Headroom H (R383). -/
def CollOp.h (o : CollOp) : Nat := if gSize o.entry ≤ 1 then 0 else Nat.log2 (gSize o.entry - 1) + 1
/-- Blocks B (R378). -/
def CollOp.blocks (o : CollOp) : Nat := ceilDiv o.count 64
/-- Elements of block `b` below COUNT. -/
def CollOp.blockLen (o : CollOp) (b : Nat) : Nat := min 64 (o.count - 64 * b)

/-- Part `k` of `n` of a range (start, length) (R378). -/
def cutRange (r : Nat × Nat) (k n : Nat) : Nat × Nat :=
  let a := k * r.2 / n
  (r.1 + a, (k + 1) * r.2 / n - a)

/-- The range of blocks on which a phase along axis `a` acts: what the axes before it leave this member (R379). -/
def State.collRange (s : State) (o : CollOp) (a : Nat) : Nat × Nat :=
  (List.range a).foldl (fun r x => cutRange r (s.grpIdx o.entry x) (gExt o.entry x)) (0, o.blocks)

/-- The blocks that the member owns: its Z part. -/
def State.collShard (s : State) (o : CollOp) : Nat × Nat := s.collRange o 3

/-- A phase: what it moves (0 exponents, 1 sums, 2 elements), its axis, and whether it gathers. -/
structure Phase where
  pass : Nat
  axis : Nat
  gather : Bool
  deriving DecidableEq, Repr

/-- The phases of an operation in order (R379, R384, R389). -/
def CollOp.phases (o : CollOp) : List Phase :=
  let ax := gAxes o.entry
  let rs (p : Nat) : List Phase := ax.map (fun a => ⟨p, a, false⟩)
  let ag (p : Nat) : List Phase := ax.reverse.map (fun a => ⟨p, a, true⟩)
  match o.kind with
  | 1 => rs 0 ++ ag 0 ++ rs 1
  | 2 => ag 2
  | _ => rs 0 ++ ag 0 ++ rs 1 ++ ag 2

/-- The piece that the member with index `i` of `e` sends on ring `w` in step `st` (R379). -/
def sendPiece (gather : Bool) (i e w st : Nat) : Nat :=
  match gather, w with
  | false, 0 => (i + e - st) % e
  | false, _ => (i + st) % e
  | true, 0 => (i + e - st + 1) % e
  | true, _ => (i + st + e - 1) % e

/-- The piece it receives there: what its predecessor sends. -/
def recvPiece (gather : Bool) (i e w st : Nat) : Nat :=
  sendPiece gather (if w = 0 then (i + e - 1) % e else (i + 1) % e) e w st

/-- The blocks of piece `k` that travel on ring `w`: with two rings, even-numbered ones on + and odd-numbered ones on −. -/
def State.pieceBlocks (s : State) (o : CollOp) (ph : Phase) (k w : Nat) : List Nat :=
  let r := cutRange (s.collRange o ph.axis) k (gExt o.entry ph.axis)
  ((List.range r.2).map (r.1 + ·)).filter (fun b => !(gLanes2 o.entry) || decide (b % 2 = w))

/-- The format in which a gather moves elements: DST_FMT, or FP32. -/
def CollOp.gatherWord (o : CollOp) : Nat := if o.kind = 2 then o.dstFmt else 0x12 + 2 ^ 5
/-- Its element format. -/
def CollOp.gatherFmt (o : CollOp) : Fmt := fmtOfWord o.gatherWord
/-- Scale bytes of `n` elements of a gather. -/
def CollOp.scaleBytes (o : CollOp) (n : Nat) : Nat :=
  if bits o.gatherWord 7 6 = 0 then 0 else ceilDiv n (8 * 2 ^ bits o.gatherWord 10 8)

/-- Bytes of block `b` in a phase. -/
def CollOp.blockBytes (o : CollOp) (ph : Phase) (b : Nat) : Nat :=
  match ph.pass with
  | 0 => 1
  | 1 => if o.wide then 512 else 256
  | _ => rowBytes o.gatherFmt (o.blockLen b) + o.scaleBytes (o.blockLen b)

/-- Bytes of a whole block in a phase. -/
def CollOp.fullBytes (o : CollOp) (ph : Phase) : Nat :=
  match ph.pass with
  | 0 => 1
  | 1 => if o.wide then 512 else 256
  | _ => rowBytes o.gatherFmt 64 + o.scaleBytes 64

/-! ### Sending -/

/-- Send a PUT on a flow of a group. -/
def State.grpPut (s : State) (id : Nat) (bytes : List Nat) (off poison : Nat) : State :=
  s.flowQueue id [⟨1, 0, off, bytes.length, 0, 0, 0, none, 0, 0, 0, bytes, poison⟩]

/-- Magic numbers (R381, R395). -/
def magicHeader : Nat := 0x4C435354
/-- Magic number of an ABORT. -/
def magicAbort : Nat := 0x41435354

/-- RED as an operation resolves it: 2 for BFX64, else 1. An ALL_GATHER ignores RED, as AUTO resolves it (R374, R381; log entry 63). -/
def CollOp.resolved (o : CollOp) : Nat := if o.kind = 2 then (if gSize o.entry > 4096 then 2 else 1) else if o.wide then 2 else 1

/-- The 64 bytes of the header frame of a phase (R381). -/
def State.collHeader (s : State) (o : CollOp) (ph : Phase) : List Nat :=
  leBytes 4 magicHeader ++ leBytes 2 o.gid ++ [ph.axis + ph.pass * 4, o.kind] ++ leBytes 4 o.seq
  ++ [o.resolved, o.h] ++ leBytes 2 (o.fld 2 16) ++ leBytes 8 o.count
  ++ leBytes 4 o.dstFmt ++ leBytes 4 (crc32c (leBytes 32 o.entry)) ++ leBytes 8 (s.rg R.TOP_DAYMARK_DIGEST pTop)
  ++ leBytes 4 (s.rg R.TOP_CFG_EPOCH_EPOCH pTop) ++ leBytes 4 0 ++ leBytes 8 o.begun ++ leBytes 8 0

/-- An ABORT on every open data flow of an entry, in both directions (R395): MAGIC, GID, SEQ and the status. -/
def State.sendAborts (s : State) (e gid seq st : Nat) : State :=
  (gFlows e).foldl (fun s k =>
    let id := gFlow e k.1 k.2.1 k.2.2.1 k.2.2.2
    if k.2.1 = 0 ∧ (s.flow id).state = 1 ∧ (s.flow id).grp.isSome = true then
      s.grpPut id (leBytes 4 magicAbort ++ leBytes 4 gid ++ leBytes 4 seq ++ leBytes 4 st) 0 0
    else s) s

/-- The head operation of a queue. -/
def State.collHead (s : State) (g : Nat) : Option CollOp := (s.commq g).ops.head?

/-- Replace the head operation. -/
def State.setHead (s : State) (g : Nat) (o : CollOp) : State :=
  let q := s.commq g
  s.setCommq g { q with ops := o :: q.ops.drop 1 }

/-- The outcome of the head operation, unless it is known. -/
def State.collFail (s : State) (g st : Nat) : State :=
  match s.collHead g with
  | some o => if o.result.isNone then s.setHead g { o with result := some st } else s
  | none => s

/-! ### Contributions, quantising, readout (R382–R387) -/

/-- A dedicated core that the queue's operation occupies: the events of its arithmetic are counted there (R387). -/
def State.collCore (s : State) (g : Nat) : Nat := ((s.coll.inUse.find? (fun e => decide (e.2 = g + 1))).map (fun e => e.1)).getD 0

/-- The value of an FP32 code, subnormals read as zero (R66). -/
def codeVal (c : Nat) : Val := (rdFp32 c).1

/-- The elements of an FP32 tensor: codes, the canonical NaN from a poisoned line. -/
def fp32Codes (n : Nat) (bs : List (Nat × Bool)) : List Nat :=
  (List.range n).map (fun i =>
    let b := (bs.drop (4 * i)).take 4
    if b.any (fun x => x.2) then 0x7FC00000 else ofBytes (b.map (fun x => x.1)))

/-- EF_C as an element format: signed INT4 (R211, R374). -/
def efFmt : Fmt := ((fmtOf 0x02 true false).getD fp32)

/-- The value of element `i` of an error term. -/
def efVal (els scales : List (Nat × Bool)) (i : Nat) : Val :=
  let b := els.getD (i / 2) (0, false)
  let sc := scales.getD (i / 64) (0, false)
  if b.2 then .nan
  else ((efFmt.decode false (b.1 / 16 ^ (i % 2) % 16)).1).scaled (if sc.2 then none else scaleVal 1 sc.1)

/-- What the member contributes (R382): an FP32 code for each element, with the events of the reads (R66, R71, R87) and of the addition. -/
def State.contributions (s : State) (fn : Nat) (o : CollOp) : Except Nat (State × List Nat × Tally) := do
  let n := o.count
  let (s, src) ← s.ldN (viaFn fn) o.src (4 * n)
  let g := fp32Codes n src
  let read := (g.map (fun c => (rdFp32 c).2)).foldl Tally.add {}
  if o.ef then
    let (s, els) ← s.ldN (viaFn fn) (o.fld 0x20 64) (ceilDiv n 2)
    let (s, scales) ← s.ldN (viaFn fn) (o.fld 0x28 64) o.blocks
    let r := (g.zipIdx).map (fun e => toFp32 ((codeVal e.1).add (efVal els scales e.2)))
    let nan := (scales.filter (fun b => !b.2 && (scaleVal 1 b.1).isNone)).length
    .ok (s, r.map (fun x => x.1), (r.map (fun x => x.2)).foldl Tally.add { read with scaleNan := read.scaleNan + nan })
  else .ok (s, g, read)

/-- The exponent byte of a block (R384). -/
def exponentByte (xs : List Nat) : Nat :=
  let v := xs.map codeVal
  if v.any (fun x => match x with
    | .fin _ _ => false
    | _ => true) then 0xFF
  else
    let m := (v.map (fun x => match x with
      | .fin _ q => absR q
      | _ => 0)).foldl max 0
    if m = 0 then 0 else (flog2 m + 127).toNat

/-- The codes of block `b`. -/
def blockOf {α : Type} (l : List α) (b : Nat) : List α := (l.drop (64 * b)).take 64

/-- The block's unit u (R385). -/
def CollOp.unit (o : CollOp) (a : Nat) : Rat := p2 ((a : Int) - 127 - o.w + 1 + o.h)

/-- One element on the agreed grid (R385): v, the residual, and whether it was clamped. -/
def CollOp.quant (o : CollOp) (a x : Nat) : Int × Rat × Bool :=
  if a = 0xFF ∨ a = 0 then (0, 0, false)
  else
    match codeVal x with
    | .fin _ q =>
      let u := o.unit a
      let lim : Int := 2 ^ (o.w - o.h) - 1
      let v := rne (q / u)
      let c := if v > lim then lim else if v < -lim then -lim else v
      (c, q - (c : Rat) * u, c != v)
    | _ => (0, 0, false)

/-- A block of residuals as EF_C (R385): the packed elements, the scale byte and the events. -/
def efBlock (a : Nat) (rs : List Rat) : List Nat × Nat × Tally :=
  if a = 0xFF ∨ a = 0 then (packRow efFmt (rs.map (fun _ => 0)), 0x7F, {})
  else
    let (code, clamp) := deriveScale (some ((rs.map absR).foldl max 0)) efFmt 1 true
    let sc := (scaleVal 1 code).getD 1
    let q := rs.map (fun r => efFmt.convert (.fin (decide (r < 0)) (r / sc)) none)
    (packRow efFmt (q.map (fun x => x.1)), code, (q.map (fun x => x.2)).foldl Tally.add { clamp := b2n clamp })

/-- Write plain bytes at a local address of a function. -/
def State.collWrite (s : State) (fn a : Nat) (bs : List Nat) : Nat × State :=
  s.writeSpan (viaFn fn) (spanLines bs.length) a (bs.map (fun b => (some (b % 256), decide (b ≥ 256))))

/-- Quantise every block onto the agreed grid, and write the residuals with FLAGS.EF (R385). -/
def State.collQuantise (s : State) (fn g : Nat) (o : CollOp) : Nat × State :=
  let xs := o.sums.map Int.toNat
  let q := (xs.zipIdx).map (fun e => o.quant (o.exps.getD (e.2 / 64) 0) e.1)
  let s := s.cnt (pCol fn) Cn.COL_BFX_CLAMP (q.filter (fun e => e.2.2)).length
  let v := (q.map (fun e => e.1)) ++ List.replicate (64 * o.blocks - q.length) 0
  if o.ef then
    let bl := (List.range o.blocks).map (fun b => efBlock (o.exps.getD b 0) ((blockOf q b).map (fun e => e.2.1)))
    let s := s.tally (s.collCore g) ((bl.map (fun b => b.2.2)).foldl Tally.add {})
    match s.collWrite fn (o.fld 0x30 64) (bl.flatMap (fun b => b.1)) with
    | (0, s) =>
      let (st, s) := s.collWrite fn (o.fld 0x38 64) (bl.map (fun b => b.2.1))
      (st, s.setHead g { o with sums := v, wroteEf := true })
    | (st, s) => (st, s.setHead g { o with sums := v, wroteEf := true })
  else (St.OK, s.setHead g { o with sums := v })

/-- Read out an element (R387): its FP32 code and the events. -/
def CollOp.readout (o : CollOp) (a : Nat) (v : Int) : Nat × Tally :=
  if a = 0xFF then (0x7FC00000, {}) else if a = 0 then (0, {}) else toFp32 (.fin (decide (v < 0)) ((v : Rat) * o.unit a))

/-- The owner reads its shard out into DST (R387, R389). -/
def State.collReadout (s : State) (fn g : Nat) (o : CollOp) : Nat × State :=
  let (lo, len) := s.collShard o
  let bl := (List.range len).map (lo + ·)
  let nf := (bl.filter (fun b => decide (o.exps.getD b 0 = 0xFF))).length
  let r := bl.flatMap (fun b => ((blockOf o.sums b).take (o.blockLen b)).map (o.readout (o.exps.getD b 0)))
  let s := s.tally (s.collCore g) ((r.map (fun x => x.2)).foldl Tally.add {})
  let s := (s.cnt (pCol fn) Cn.COL_NF_BLOCKS nf).incSat R.COL_COLL_NF_COUNT (pCol fn) nf
  let (st, s) := s.collWrite fn (if o.kind = 3 then o.dst + 256 * lo else o.dst) (r.flatMap (fun x => leBytes 4 x.1))
  (st, s.setHead g { o with wroteDst := true })

/-! ### Ring steps (R379, R380, R386, R388) -/

/-- The bytes of block `b` that a gather sends: elements from DST, then scales. -/
def State.gatherRead (s : State) (fn : Nat) (o : CollOp) (b : Nat) : Except Nat (State × List Nat) := do
  let n := o.blockLen b
  let m := fun (x : Nat × Bool) => x.1 + 256 * b2n x.2
  let (s, els) ← s.ldN (viaFn fn) (o.dst + 64 * b * o.gatherFmt.width / 8) (rowBytes o.gatherFmt n)
  let k := o.scaleBytes n
  if k = 0 then .ok (s, els.map m)
  else
    let (s, sc) ← s.ldN (viaFn fn) (o.dstScale + o.scaleBytes (64 * b)) k
    .ok (s, els.map m ++ sc.map m)

/-- The bytes of block `b` that a phase sends. -/
def State.blockData (s : State) (fn : Nat) (o : CollOp) (ph : Phase) (b : Nat) : Except Nat (State × List Nat) :=
  match ph.pass with
  | 0 => .ok (s, [o.exps.getD b 0])
  | 1 =>
    let n := if o.wide then 8 else 4
    .ok (s, (blockOf o.sums b).flatMap (fun v => leBytes n (wrap (8 * n) v)))
  | _ => s.gatherRead fn o b

/-- Send the frames of blocks, whole blocks of up to 4,096 bytes in each; `fuel` bounds the frames. -/
def State.sendBlocks : Nat → State → Nat → CollOp → Phase → Nat → Nat → List Nat → Nat × State
  | 0, s, _, _, _, _, _, _ => (St.OK, s)
  | k + 1, s, fn, o, ph, id, base, bl =>
    match bl with
    | [] => (St.OK, s)
    | b0 :: _ =>
      let n := Nat.max 1 (4096 / o.fullBytes ph)
      match (bl.take n).foldl (fun (acc : Except Nat (State × List Nat)) b => do
          let (s, d) ← acc
          let (s, x) ← s.blockData fn o ph b
          .ok (s, d ++ x)) (.ok (s, [])) with
      | .error e => (e, s)
      | .ok (s, d) =>
        let s := (s.cnt (pCol fn) Cn.COL_COLL_TX_BYTES d.length).cnt (pCol fn) Cn.COL_EXP_BYTES (if ph.pass = 0 then d.length else 0)
        let bad := poisonBits (d.map (fun x => (x, decide (x ≥ 256))))
        let s := s.grpPut id (d.map (· % 256)) ((b0 - base) * o.fullBytes ph) bad
        State.sendBlocks k s fn o ph id base (bl.drop n)

/-- Send the piece of ring step `st` on every ring in use. -/
def State.sendStep (s : State) (fn : Nat) (o : CollOp) (ph : Phase) (st : Nat) : Nat × State :=
  let e := gExt o.entry ph.axis
  let i := s.grpIdx o.entry ph.axis
  (gRings o.entry).foldl (fun (acc : Nat × State) w =>
    if acc.1 ≠ St.OK then acc
    else
      let k := sendPiece ph.gather i e w st
      let bl := acc.2.pieceBlocks o ph k w
      let base := (cutRange (acc.2.collRange o ph.axis) k e).1
      acc.2.sendBlocks (bl.length + 1) fn o ph (gFlow o.entry ph.axis 0 0 w) base bl) (St.OK, s)

/-- Replace element `i` of a list by `f` of it. -/
def modifyAt {α : Type} (l : List α) (i : Nat) (f : α → α) : List α :=
  match l.drop i with
  | [] => l
  | x :: r => l.take i ++ f x :: r

/-- Take the bytes of a received block into the operation: the maximum or the agreed exponent, the saturating sum, or the
elements into DST. The count is that of saturated sums. -/
def State.takeBlock (s : State) (fn : Nat) (o : CollOp) (ph : Phase) (b : Nat) (d : List Nat) : Nat × State × CollOp × Nat :=
  match ph.pass with
  | 0 =>
    let v := d.headD 0 % 256
    (St.OK, s, { o with exps := modifyAt o.exps b (fun x => if ph.gather then v else Nat.max x v) }, 0)
  | 1 =>
    let n := if o.wide then 8 else 4
    let r := (List.range 64).map (fun j =>
      satSum (8 * n) (wrap (8 * n) (o.sums.getD (64 * b + j) 0)) (ofBytes (((d.drop (n * j)).take n).map (· % 256))))
    (St.OK, s, { o with sums := o.sums.take (64 * b) ++ r.map (fun x => sext (8 * n) x.1) ++ o.sums.drop (64 * b + 64) },
      (r.filter (fun x => x.2)).length)
  | _ =>
    let n := o.blockLen b
    let k := rowBytes o.gatherFmt n
    match s.collWrite fn (o.dst + 64 * b * o.gatherFmt.width / 8) (d.take k) with
    | (0, s) =>
      if o.scaleBytes n = 0 then (St.OK, s, { o with wroteDst := true }, 0)
      else
        let (st, s) := s.collWrite fn (o.dstScale + o.scaleBytes (64 * b)) (d.drop k)
        (st, s, { o with wroteDst := true }, 0)
    | (st, s) => (st, s, { o with wroteDst := true }, 0)

/-- Take a whole piece. -/
def State.takePiece (s : State) (fn : Nat) (o : CollOp) (ph : Phase) : List Nat → List Nat → Nat × State × CollOp × Nat
  | [], _ => (St.OK, s, o, 0)
  | b :: bl, d =>
    let n := o.blockBytes ph b
    match s.takeBlock fn o ph b (d.take n) with
    | (0, s, o, k) =>
      let (st, s, o, k') := s.takePiece fn o ph bl (d.drop n)
      (st, s, o, k + k')
    | r => r

/-- Bytes received of the piece under way on a ring. -/
def CollOp.part (o : CollOp) (w : Nat) : List Nat := if w = 0 then o.part0 else o.part1
/-- Replace them. -/
def CollOp.setPart (o : CollOp) (w : Nat) (l : List Nat) : CollOp := if w = 0 then { o with part0 := l } else { o with part1 := l }
/-- Ring steps received on a ring. -/
def CollOp.recv (o : CollOp) (w : Nat) : Nat := if w = 0 then o.recv0 else o.recv1
/-- Replace it. -/
def CollOp.setRecv (o : CollOp) (w n : Nat) : CollOp := if w = 0 then { o with recv0 := n } else { o with recv1 := n }
/-- Whether the header of the phase has come on a ring. -/
def CollOp.hdr (o : CollOp) (w : Nat) : Bool := if w = 0 then o.hdr0 else o.hdr1
/-- Note it. -/
def CollOp.setHdr (o : CollOp) (w : Nat) : CollOp := if w = 0 then { o with hdr0 := true } else { o with hdr1 := true }

/-- Take the piece under way on ring `w` when all of it has come: none when it has not. -/
def State.ringTake (s : State) (fn g : Nat) (o : CollOp) (ph : Phase) (w : Nat) : Option (Nat × State) :=
  let e := gExt o.entry ph.axis
  let st := o.recv w + 1
  if o.hdr w = false ∨ st > e - 1 then none
  else
    let bl := s.pieceBlocks o ph (recvPiece ph.gather (s.grpIdx o.entry ph.axis) e w st) w
    let need := (bl.map (o.blockBytes ph)).foldl (· + ·) 0
    if (o.part w).length < need then none
    else
      let (c, s, o, k) := s.takePiece fn o ph bl ((o.part w).take need)
      let o := (o.setPart w ((o.part w).drop need)).setRecv w st
      some (c, (s.setHead g o).collOvf fn k)

/-- Enter phase `k`: what the members do between the passes, then the headers and the first piece of the phase; after the
last phase the operation is OK. -/
def State.collEnter (s : State) (fn g : Nat) (o : CollOp) (k : Nat) : Nat × State :=
  let nEx := if o.kind = 2 then 0 else 2 * (gAxes o.entry).length
  let nRed := if o.kind = 2 then 0 else (gAxes o.entry).length
  let o := { o with phase := k, recv0 := 0, recv1 := 0, hdr0 := false, hdr1 := false }
  let s := s.setHead g o
  let (st, s) := if o.kind ≠ 2 ∧ k = nEx then s.collQuantise fn g o else (St.OK, s)
  if st ≠ St.OK then (st, s)
  else
    let o := (s.collHead g).getD o
    let (st, s) := if o.kind ≠ 2 ∧ k = nEx + nRed then s.collReadout fn g o else (St.OK, s)
    if st ≠ St.OK then (st, s)
    else
      let o := (s.collHead g).getD o
      match o.phases[k]? with
      | none => (St.OK, s.setHead g { o with result := some St.OK })
      | some ph =>
        let s := (gRings o.entry).foldl (fun s w => s.grpPut (gFlow o.entry ph.axis 0 0 w) (s.collHeader o ph) 0 0) s
        s.sendStep fn o ph 1

/-- Go on with the operation while pieces are complete: the next piece leaves once both rings have the step, and the next
phase begins once both have every step. -/
def State.collRun : Nat → State → Nat → Nat → Nat × State
  | 0, s, _, _ => (St.OK, s)
  | n + 1, s, fn, g =>
    match s.collHead g with
    | none => (St.OK, s)
    | some o =>
      match o.phases[o.phase]? with
      | none => (St.OK, s)
      | some ph =>
        if o.result.isSome then (St.OK, s)
        else
          let e := gExt o.entry ph.axis
          let rings := gRings o.entry
          let done (o : CollOp) : Nat := (rings.map o.recv).foldl Nat.min (e - 1)
          if done o = e - 1 then
            match s.collEnter fn g o (o.phase + 1) with
            | (0, s) => State.collRun n s fn g
            | r => r
          else
            match rings.findSome? (s.ringTake fn g o ph) with
            | none => (St.OK, s)
            | some (0, s') =>
              let o' := (s'.collHead g).getD o
              if done o' > done o ∧ done o' < e - 1 then
                match s'.sendStep fn o' ph (done o' + 1) with
                | (0, s') => State.collRun n s' fn g
                | r => r
              else State.collRun n s' fn g
            | some r => r

/-- A bound on the steps of `collRun`. -/
def CollOp.fuel (o : CollOp) : Nat := 8 * (gExt o.entry 0 + gExt o.entry 1 + gExt o.entry 2 + 4) * 3

/-- Go on; a failed access fails the operation. None where a line must wait for its channel. -/
def State.collGo (s : State) (fn g : Nat) : Option State :=
  match s.collRun (((s.collHead g).map CollOp.fuel).getD 0) fn g with
  | (0, s) => some s
  | (st, s) => if st = waitCode then none else some (s.collFail g st)

/-! ### Dedicated cores (R376) -/

/-- Whether the quads' bits dedicate quad `q`, and it is of the partition and not retired. -/
def State.dedicatedQuad (s : State) (fn q : Nat) : Bool :=
  NMap.get false s.coll.quads q && s.quadFn q == some fn && s.quadPresent q

/-- The usable dedicated cores of a function. -/
def State.dedicatedCores (s : State) (fn : Nat) : List Nat :=
  ((s.quadsOf fn).filter (s.dedicatedQuad fn)).flatMap (fun q => [4 * q, 4 * q + 1, 4 * q + 2, 4 * q + 3])

/-- Dedicated cores that no operation occupies. -/
def State.freeCores (s : State) (fn : Nat) : List Nat :=
  (s.dedicatedCores fn).filter (fun c => decide (NMap.get 0 s.coll.inUse c = 0))

/-- The default: the lowest-numbered quad of each of the four cluster ranges (R376). -/
def defaultQuads (qs : List Nat) : List Nat := [0, 1, 2, 3].flatMap (fun r => (qs.find? (fun q => decide (q / 64 = r))).toList)

/-- Whether an operation of the function runs. -/
def State.collRunning (s : State) (fn : Nat) : Bool :=
  let r := s.fnRes fn
  (List.range r.commCount).any (fun k => match s.collHead (r.commBase + k) with
    | some o => o.running
    | none => false)

/-- COLL_QUADS takes effect (R376). -/
def State.quadsApply (s : State) (fn : Nat) : State :=
  let p := pCol fn
  let bitsOf (q : Nat) : Bool := bit (s.rg (R.COL_COLL_QUADS_MASK (q / 32)) p) (q % 32)
  let quads := (s.quadsOf fn).foldl (fun m q => NMap.put q (bitsOf q) m) s.coll.quads
  { s with coll := { s.coll with quads := quads, quadsPend := Map.del fn s.coll.quadsPend } }

/-! ### Launching (R373, R375) -/

/-- Depth and state of a queue follow its operations (R398); a FAILED queue stays so. -/
def State.collRegs (s : State) (g : Nat) : State :=
  let q := s.commq g
  let run := match q.ops.head? with
    | some o => o.running
    | none => false
  let s := s.wr R.COL_CQ_STATUS_DEPTH g q.ops.length
  if s.rg R.COL_CQ_STATUS_STATE g = 2 then s else s.wr R.COL_CQ_STATUS_STATE g (b2n run)

/-- What the status of a COLL_LAUNCH does to the signal of its COB (R373, R417, R611): OK advances it, another status where
FLAGS.ERR_SIGNAL is 1 and the function owns it. The answer is the status that the command ends with. -/
def State.collSignal (s : State) (fn : Nat) (errSignal : Bool) (sig inc st : Nat) : Nat × State :=
  if inc = 0 then (st, s)
  else if st = St.OK then s.sigAdd sig inc
  else if errSignal = true ∧ s.ownsSig fn sig = true then (st, (s.sigAdd sig inc).2)
  else (st, s)

/-- How a COLL_LAUNCH fares: it waits for a channel, or for space in its communication queue, or it has been taken, with its status where
it ends at once. -/
inductive LaunchAns where
  | wait
  | full
  | taken (s : State) (status : Option Nat)

/-- What starting a command makes of it. -/
def LaunchAns.start : LaunchAns → Option (State × Option Nat)
  | .taken s st => some (s, st)
  | _ => none

/-- A COLL_LAUNCH enqueues its operation, ends at once, or waits for space (R373); an engine out of service answers it (R14). -/
def State.collTry (s : State) (q : Nat) (c : Cmd) : LaunchAns :=
  let fn := s.cmdqFn q
  let a := c.fld 0x10 64
  if s.workStatus (pCol fn) ≠ St.OK then .taken s (some (s.workStatus (pCol fn)))
  else if a % 64 ≠ 0 then .taken s (some St.ALIGN)
  else
    match s.ldN (viaFn fn) a 128 with
    | .error e => if e = waitCode then .wait else .taken s (some e)
    | .ok (s, bs) =>
      let (cob, s) := if bs.any (fun b => b.2) then
          let (v, s) := s.freeVal
          (v % 2 ^ 1024, s)
        else (ofBytes (bs.map (fun b => b.1)), s)
      let ends (s : State) (st : Nat) : LaunchAns :=
        let (st, s) := s.collSignal fn c.errSignal (bits cob 559 544) (bits cob 607 576) st
        .taken s (some st)
      match s.commqOf fn (bits cob 43 32) with
      | none => ends s St.GROUP_INVALID
      | some g =>
        let e := s.grpEntry g
        let x := s.commq g
        let s := s.cnt (pCol fn) Cn.COL_CQ_FULL_NS (if c.aux = 0 then 0 else s.tbc + 1 - c.aux)
        if s.grpUsable e = false then ends s St.GROUP_INVALID
        else if s.grpMember e = false then ends s St.NOT_MEMBER
        else if s.rg R.COL_CQ_STATUS_STATE g = 2 then ends s St.CQ_FAILED
        else if x.ops.length ≥ 16 then .full
        else
          let seq := s.rg R.COL_CQ_SEQ_SEQ g
          let o : CollOp :=
            { seq := seq, queue := q, num := c.num, order := s.coll.launches, cob := cob, since := s.tbc, running := false, entry := 0,
              phase := 0, recv0 := 0, recv1 := 0, part0 := [], part1 := [], hdr0 := false, hdr1 := false, exps := [],
              sums := [], wroteDst := false, wroteEf := false,
              result := if x.pendAbort.map Prod.fst = some seq then some St.PEER_ABORT else none
              abortSt := (x.pendAbort.filter (fun a => decide (a.1 = seq))).map Prod.snd, begun := 0 }
          let pend := if x.pendAbort.map Prod.fst = some seq then none else x.pendAbort
          let s := { s with coll := { s.coll with launches := s.coll.launches + 1 } }
          let s := s.setCommq g { x with ops := x.ops ++ [o], pendAbort := pend }
          .taken ((s.wr R.COL_CQ_SEQ_SEQ g (seq + 1)).collRegs g) none

/-- Whether a COLL_LAUNCH that nothing else holds finds its communication queue full. -/
def State.launchFull (s : State) (q i : Nat) (c : Cmd) : Bool :=
  c.opcode == 5 && (s.cmdHolder q i c).isNone && (match s.collTry q c with
    | .full => true
    | _ => false)

/-- A COLL_LAUNCH starts; from when it first finds its queue full it keeps the time (as TBC + 1 in `aux`), for CQ_FULL_NS. -/
def State.collLaunch (s : State) (q : Nat) : State :=
  match s.cqFirst q with
  | none => s
  | some (i, c) =>
    let s' := s.cmdStart q 5 (fun s c => (s.collTry q c).start)
    if s.launchFull q i c then s'.cmdMap q c.num (fun c => if c.aux = 0 then { c with aux := s.tbc + 1 } else c) else s'

/-- COLL_LAUNCH (R373). -/
def execCollLaunch (q : Nat) (s : State) : Host.Outcome State Fault Refusal := .next (s.collLaunch q)

/-- COLL_QUEUE_SPACE (R373): a launch that holds its command queue finds space. -/
def execCollQueueSpace (q : Nat) (s : State) : Host.Outcome State Fault Refusal :=
  .next (if s.rg R.QUE_CQ_WAIT_OPCODE q = 5 then s.collLaunch q else s)

/-- The spans of memory that an operation names: address, bytes, whether it writes them (R375). -/
def State.collSpans (s : State) (o : CollOp) : List (Nat × Nat × Bool) :=
  let n := o.count
  if o.kind = 2 then
    [(o.dst, rowBytes o.gatherFmt n, true)] ++ (if o.scaleBytes 64 = 0 then [] else [(o.dstScale, o.scaleBytes n, true)])
  else
    let (lo, len) := s.collShard o
    let shard := min n (64 * (lo + len)) - min n (64 * lo)
    [(o.src, 4 * n, false), (o.dst, 4 * (if o.kind = 3 then n else shard), true)]
    ++ (if o.ef then [(o.fld 0x20 64, ceilDiv n 2, false), (o.fld 0x28 64, o.blocks, false),
        (o.fld 0x30 64, ceilDiv n 2, true), (o.fld 0x38 64, o.blocks, true)] else [])

/-- Whether LOCAL_MATCH holds (R357). -/
def State.localMatch (s : State) : Bool := s.flag R.TOP_AGREE_STATUS_LOCAL_MATCH pTop

/-- The checks at the start of an operation, in order (R375, R381); an address is checked also where no byte is read or written at it. -/
def State.collCheck (s : State) (fn g : Nat) (o : CollOp) : Nat :=
  let spans := s.collSpans o
  let w := o.dstFmt
  let reach (n : Nat) (x : Nat × Bool) : Bool := decide (2 ^ 32 ≤ x.1) && (match s.checkSpan (viaFn fn) x.2 false (spanLines n) x.1 n with
    | .ok _ => true
    | .error e => e == waitCode)
  if o.kind < 1 ∨ o.kind > 3 ∨ (o.kind ≠ 2 ∧ o.red > 2) ∨ o.fld 2 16 ≥ 2 ∨ bits o.cob 47 44 ≠ 0 ∨ o.fld 6 16 ≠ 0 ∨ o.fld 0x46 16 ≠ 0
      ∨ o.fld 0x4C 32 ≠ 0 ∨ o.fld 0x58 320 ≠ 0 ∨ o.count > 2 ^ 40 ∨ (o.kind = 2 ∧ bits w 30 14 ≠ 0) then St.INVALID_ARG
  else if o.kind ≠ 2 ∧ o.red = 1 ∧ gSize o.entry > 4096 then St.COLL_FORMAT
  else if o.kind ≠ 2 ∧ w ≠ 0 then St.COLL_FORMAT
  else if o.kind = 2 ∧ (fmtWordOk w false = false ∨ (bits w 7 6 ≠ 0 ∧ bit w 11 = true)
      ∨ (bits w 7 6 ≠ 0 ∧ bits w 10 8 > 3)) then St.COLL_FORMAT
  else if spans.any (fun x => decide (x.1 % 64 ≠ 0)) then St.ALIGN
  else if spans.any (fun x => !(reach (max 1 x.2.1) (x.1, x.2.2))) then St.ADDR_RANGE
  else if o.inc ≠ 0 ∧ s.ownsSig fn o.sig = false then St.DENIED
  else if s.dedicatedCores fn = [] then St.QUADS_NONE
  else if s.flag R.COL_CQ_STATUS_FLOWS_OK g = false then St.GROUP_FLOWS
  else if s.localMatch = false ∧ gTolerant o.entry = false then St.DAYMARK_MISMATCH
  else St.OK

/-- The oldest operation of a function, among the heads of its queues, that waits to start. -/
def State.collWaiting (s : State) (fn : Nat) : Option (Nat × CollOp) :=
  let r := s.fnRes fn
  let l := (List.range r.commCount).filterMap (fun k =>
    let g := r.commBase + k
    match s.collHead g with
    | some o => if o.running = false ∧ o.result.isNone = true ∧ s.rg R.COL_CQ_STATUS_STATE g ≠ 2 then some (g, o) else none
    | none => none)
  l.foldl (fun (acc : Option (Nat × CollOp)) e => match acc with
    | some a => if e.2.order < a.2.order then some e else acc
    | none => some e) none

/-- COLL_OP_START (R375, R376): the oldest waiting operation of function `fn` starts when enough dedicated cores are free. -/
def execCollOpStart (fn : Nat) (s : State) : Host.Outcome State Fault Refusal :=
  .next (
    let p := pCol fn
    if s.unitStatus p ≠ St.OK then s
    else
      match s.collWaiting fn with
      | none => s
      | some (g, o) =>
        let o := { o with entry := s.grpEntry g }
        let st := s.collCheck fn g o
        let cores := (s.freeCores fn).take (gRings o.entry).length
        if st ≠ St.OK then (s.setHead g { o with running := true, result := some st }).collRegs g
        else if cores.length < (gRings o.entry).length then s
        else
          let s0 := s
          let s := s.cnt p Cn.COL_CORE_WAIT_NS (s.tbc - o.since)
          let s := cores.foldl (fun (s : State) c =>
            ({ s with coll := { s.coll with inUse := NMap.put c (g + 1) s.coll.inUse } }).lose (aSpad c 0) (aSpad c (2 ^ 19))) s
          let o := { o with running := true, begun := s.tbcAt p }
          let s := (s.setHead g o).collRegs g
          let start : Option State :=
            if o.kind = 2 then
              match s.collEnter fn g o 0 with
              | (0, s) => s.collGo fn g
              | (e, s) => if e = waitCode then none else some (s.collFail g e)
            else
              match s.contributions fn o with
              | .error e => if e = waitCode then none else some (s.collFail g e)
              | .ok (s, xs, t) =>
                let s := s.tally (s.collCore g) t
                let o := { o with
                  exps := (List.range o.blocks).map (fun b => exponentByte (blockOf xs b)), sums := xs.map Int.ofNat }
                match (s.setHead g o).collEnter fn g o 0 with
                | (0, s) => s.collGo fn g
                | (e, s) => if e = waitCode then none else some (s.collFail g e)
          start.getD s0)

/-! ### Received frames (R380, R381, R386, R395) -/

/-- The checks of a frame on a flow of a group: its source, and no signal. -/
def grpCheck (_ : State) (x : Flow) (f : Frame) : Nat :=
  if f.src ≠ x.peerMaddr ∨ f.sflow ≠ x.peerFlow then St.FLOW_PEER
  else if f.sigInc ≠ 0 then St.DENIED
  else St.OK

/-- The oldest frame of a group's flow, a PUT that `kind` admits, meets the flow; `apply` answers none where it must be held
(R380), and then nothing happens. -/
def State.takeGroup (s : State) (vc flow : Nat) (kind : Frame → Bool) (apply : State → Nat → Nat → Frame → Option State) :
    State :=
  match s.rxFind vc (fun f => f.sequenced && decide (f.dflow = flow)), (s.flow flow).grp with
  | some (i, f), some (g, k) =>
    if f.op ≠ 1 ∨ kind f = false then s
    else
      match s.meet vc i f grpCheck with
      | .done s => s.flowPump flow
      | .wait => s
      | .take s1 =>
        match apply s1 g k f with
        | some s2 => (s2.ackDue flow).flowPump flow
        | none => s
  | _, _ => s

/-- Whether a frame is an ABORT or a header by its length and MAGIC (R381, R395). -/
def isMagic (n m : Nat) (f : Frame) : Bool := decide (f.len = n) && decide (byteFld f.data 0 4 = m)

/-- The phase of a queue's running operation in which a frame of flow index `k` can be taken: the phase and the ring. -/
def State.ringPhase (s : State) (g k : Nat) : Option (CollOp × Phase × Nat) :=
  match s.collHead g with
  | some o =>
    if o.running = false ∨ o.result.isSome = true then none
    else
      match o.phases[o.phase]? with
      | some ph => if k / 8 = ph.axis ∧ k % 8 / 2 = 1 then some (o, ph, k % 2) else none
      | none => none
  | none => none

/-- Whether a 32-bit sequence number is before another. -/
def seq32Before (a b : Nat) : Bool := decide (0 < (b + 2 ^ 32 - a) % 2 ^ 32) && decide ((b + 2 ^ 32 - a) % 2 ^ 32 < 2 ^ 31)

/-- The sequence number from which a queue's operations are not yet complete. -/
def State.collOldest (s : State) (g : Nat) : Nat := ((s.collHead g).map (fun o => o.seq)).getD (s.rg R.COL_CQ_SEQ_SEQ g)

/-- COLL_HEADER_RX (R381, R397): compared with the local operation; a FAILED queue answers with an ABORT. -/
def execCollHeaderRx (flow : Nat) (s : State) : Host.Outcome State Fault Refusal :=
  .next (s.takeGroup 1 flow (isMagic 64 magicHeader) (fun s g k f =>
    let fn := s.commqFn g
    let seq := byteFld f.data 8 4
    if s.rg R.COL_CQ_STATUS_STATE g = 2 then some (s.sendAborts (s.grpEntry g) (byteFld f.data 4 2) seq St.CQ_FAILED)
    else if seq32Before seq (s.collOldest g) then some s
    else
      match s.ringPhase g k with
      | none => none
      | some (o, ph, w) =>
        if seq ≠ o.seq ∨ o.hdr w = true then none
        else
          let own := s.collHeader o ph
          let cut (l : List Nat) (a n : Nat) : List Nat := (l.drop a).take n
          if cut own 4 28 ≠ cut f.data 4 28 then some (s.collFail g St.COLL_MISMATCH)
          else if gTolerant o.entry = false ∧ cut own 0x20 12 ≠ cut f.data 0x20 12 then
            some ((s.collFail g St.DAYMARK_MISMATCH).raise (pCol fn) Er.COL_DAYMARK_REFUSE)
          else (s.setHead g (o.setHdr w)).collGo fn g))

/-- COLL_DATA_RX (R386): a frame of a ring piece; a FAILED queue discards it. -/
def execCollDataRx (flow : Nat) (s : State) : Host.Outcome State Fault Refusal :=
  .next (s.takeGroup 1 flow (fun f => !(isMagic 16 magicAbort f)) (fun s g k f =>
    let fn := s.commqFn g
    if s.rg R.COL_CQ_STATUS_STATE g = 2 then (if isMagic 64 magicHeader f then none else some s)
    else
      match s.ringPhase g k with
      | none => none
      | some (o, ph, w) =>
        if o.hdr w = false ∨ o.recv w + 1 > gExt o.entry ph.axis - 1 then none
        else
          let s := s.cnt (pCol fn) Cn.COL_COLL_RX_BYTES f.data.length
          let d := f.marked.map (fun b => b.1 + 256 * b2n b.2)
          (s.setHead g (o.setPart w (o.part w ++ d))).collGo fn g))

/-- COLL_ABORT_RX (R395). -/
def execCollAbortRx (flow : Nat) (s : State) : Host.Outcome State Fault Refusal :=
  .next (s.takeGroup 1 flow (isMagic 16 magicAbort) (fun s g _ f =>
    let fn := s.commqFn g
    let s := s.cnt (pCol fn) Cn.COL_ABORT_RCVD
    let seq := byteFld f.data 8 4
    let st := byteFld f.data 12 4
    let q := s.commq g
    if s.rg R.COL_CQ_STATUS_STATE g = 2 ∨ seq32Before seq (s.collOldest g) = true then some s
    else if q.ops.any (fun x => decide (x.seq = seq)) then
      some (s.setCommq g { q with ops := q.ops.map (fun x =>
        if x.seq = seq ∧ x.result.isNone = true then { x with result := some St.PEER_ABORT, abortSt := some st } else x) })
    else some (s.setCommq g { q with pendAbort := some (seq, st) })))

/-! ### Completion, failure and reset (R373, R395, R396) -/

/-- Bytes that a failed operation had written become undefined (R395), line by line. -/
def State.loseSpan (s : State) (fn a n : Nat) : State :=
  (List.range (spanLines n)).foldl (fun s i =>
    let b := if i = 0 then a else (a / 64 + i) * 64
    let c := chunk b (a + n - b)
    if b < a + n then
      match s.mapAddr (viaFn fn) b true false with
      | .ok pa => s.lose pa (pa + c)
      | .error _ => s
    else s) s

/-- The dedicated cores of a queue's operation are free again. -/
def State.collFree (s : State) (g : Nat) : State :=
  { s with coll := { s.coll with inUse := s.coll.inUse.filter (fun e => decide (e.2 ≠ g + 1)) } }

/-- ERR_SIGNAL of the command that launched an operation. -/
def State.launchErrSignal (s : State) (o : CollOp) : Bool := ((s.cmdFind o.queue o.num).map Cmd.errSignal).getD false

/-- An operation has failed with a status: COLL_ERR keeps the first (R398), and COLL_FAIL is recorded. -/
def State.collError (s : State) (p : Nat) (o : CollOp) (c : Nat) : State :=
  let s := if s.flag R.COL_COLL_ERR_VALID p then s
    else (((s.wr R.COL_COLL_ERR_VALID p 1).wr R.COL_COLL_ERR_GID p o.gid).wr R.COL_COLL_ERR_SEQ p o.seq).wr R.COL_COLL_ERR_CODE p c
  s.raise p Er.COL_COLL_FAIL c

/-- The head operation of queue `g` leaves with a status: its signal, its command, and, on failure, the ABORTs, a received one being
forwarded as it came, and the state FAILED (R373, R395, R611). The next operation begins to wait for a core (R376). -/
def State.collFinish (s : State) (g : Nat) (o : CollOp) (st : Nat) : State :=
  let fn := s.commqFn g
  let p := pCol fn
  let q := s.commq g
  let next := match q.ops.drop 1 with
    | [] => []
    | n :: l => { n with since := s.tbc } :: l
  let s := (s.setCommq g { q with ops := next }).collFree g
  let (c, s) := s.collSignal fn (s.launchErrSignal o) o.sig o.inc st
  let s := s.wr R.COL_CQ_STATUS_LAST_STATUS g c
  let s := if c = St.OK then s.cnt p Cn.COL_COLL_DONE
    else
      s.collError p o c
  let s := if st = St.OK then s
    else
      let entry := if o.running then o.entry else s.grpEntry g
      let s := s.sendAborts entry o.gid o.seq (o.abortSt.getD st)
      let s := if o.wroteDst then (s.collSpans o).foldl (fun s x => if x.1 = o.dst ∨ (o.kind = 2 ∧ x.1 = o.dstScale) then
        s.loseSpan fn x.1 x.2.1 else s) s else s
      let s := if o.wroteEf then (s.loseSpan fn (o.fld 0x30 64) (ceilDiv o.count 2)).loseSpan fn (o.fld 0x38 64) o.blocks else s
      s.wr R.COL_CQ_STATUS_STATE g 2
  let s := (s.cmdResult o.queue o.num c).trace fn 3 0x0C14 (o.gid + c * 2 ^ 16 + o.seq * 2 ^ 32) p true 0
  (s.collRegs g).grpIdle g

/-- COLL_OP_DONE (R373, R395): the operation at the head of communication queue `gid` of function `fn` completes once its
outcome is known; the operations of a FAILED queue stay queued. -/
def execCollOpDone (fn gid : Nat) (s : State) : Host.Outcome State Fault Refusal :=
  .next (match s.commqOf fn gid with
    | none => s
    | some g =>
      if s.rg R.COL_CQ_STATUS_STATE g = 2 then s else
      match s.collHead g with
      | some o => (match o.result with
        | some st => s.collFinish g o st
        | none => s)
      | none => s)

/-- A running operation of queue `g` ends with ABORTED (R396). -/
def State.collAbort (s : State) (g : Nat) : State :=
  match s.collHead g with
  | some o => if o.running then s.collFinish g o (o.result.getD St.ABORTED) else s
  | none => s

/-- Every running operation of a function ends with ABORTED (R396). -/
def State.collAbortAll (s : State) (fn : Nat) : State :=
  let r := s.fnRes fn
  (List.range r.commCount).foldl (fun s k => s.collAbort (r.commBase + k)) s

/-- The operation that occupies a dedicated core ends with ABORTED when the core is reset (R396). -/
def State.collAbortCore (s : State) (c : Nat) : State :=
  match NMap.get 0 s.coll.inUse c with
  | 0 => s
  | n + 1 => s.collAbort n

/-- The flows of a queue's group are reset as FLOW_CMD RESET does. -/
def State.grpReset (s : State) (g : Nat) : State :=
  ((s.net.flows.filter (fun e => match e.2.grp with
    | some (g', _) => decide (g' = g)
    | none => false)).map (fun e => e.1)).foldl State.flowReset s

/-- Every operation left in a queue completes with ABORTED. -/
def State.collDrop (s : State) (g : Nat) : State :=
  let q := s.commq g
  let fn := s.commqFn g
  let s := q.ops.foldl (fun (s : State) o =>
    let s := (s.collSignal fn (s.launchErrSignal o) o.sig o.inc St.ABORTED).2
    (s.cmdResult o.queue o.num St.ABORTED).collError (pCol fn) o St.ABORTED) s
  let s := if q.ops = [] then s else s.wr R.COL_CQ_STATUS_LAST_STATUS g St.ABORTED
  s.setCommq g { q with ops := [], pendAbort := none }

/-- CQ_CMD.RESET of a communication queue (R396). -/
def State.collReset (s : State) (g : Nat) : State :=
  let s := ((s.collAbort g).collDrop g).grpReset g
  (((s.wr R.COL_CQ_SEQ_SEQ g 0).wr R.COL_CQ_STATUS_STATE g 0).collRegs g).grpIdle g

/-- COL_CQ_RESET (R396): `req` writes CQ_CMD.RESET on the COL page of `fn`, for the queue that CQ_SEL names. -/
def execColCqReset (req fn : Nat) (s : State) : Host.Outcome State Fault Refusal :=
  .next (
    let p := pCol fn
    if s.mayWrite req p = false then s
    else
      match s.commqOf fn (s.rg R.COL_CQ_SEL_GID p) with
      | some g => if s.flag R.COL_CQ_CMD_BUSY g then s else (s.wr R.COL_CQ_CMD_BUSY g 1).collReset g
      | none => s)

/-- COLL_QUADS_APPLY (R376): a pending write of COLL_QUADS takes effect once no operation of the function runs. -/
def execCollQuadsApply (fn : Nat) (s : State) : Host.Outcome State Fault Refusal :=
  .next (if NMap.get false s.coll.quadsPend fn = true ∧ s.collRunning fn = false then s.quadsApply fn else s)

end Sys2Proof.Machine
end

