-- ==== Sys2Proof/Machine/Verdict.lean ====
section
/-!
DEFINITION. The step machine (R224–R245): opening, sealing, the verdict collective (R390–R393), applying, committing, and SNAPSHOT.
-/

namespace Sys2Proof.Machine

/-! ### State and openings (R229, R234, R238) -/

/-- STEP_COUNT of a function. -/
def State.stepCount (s : State) (fn : Nat) : Nat := s.rg R.COL_STEP_COUNT_COUNT (pCol fn)

/-- The step machine changes state: the time spent in SEALING and VOTING, HOLD included, is counted as they end (R248), and the trace shows
the change (R558). -/
def State.stepTo (s : State) (fn new : Nat) : State :=
  let p := pCol fn
  let old := s.stepState fn
  let s := if old = new then s
    else if old = 2 then s.cnt p Cn.COL_SEAL_NS (s.tbc - (s.stepSt fn).sealTbc)
    else if old = 3 then s.cnt p Cn.COL_VOTE_NS (s.tbc - (s.stepSt fn).voteTbc)
    else s
  let s := s.wr R.COL_STEP_STATUS_STATE p new
  if old = new then s else s.trace fn 4 0x0C15 (old + new * 2 ^ 8 + s.stepCount fn * 2 ^ 16) p true 0

/-- The step counters of the domain return to 0 (R234, R235). -/
def State.stepClear (s : State) (fn : Nat) : State :=
  let x := s.stepSt fn
  let s := s.setStep fn { x with sat := 0, nonfin := 0 }
  let s := (s.wr R.COL_COLL_OVF_COUNT (pCol fn) 0).wr R.COL_COLL_NF_COUNT (pCol fn) 0
  (s.coresOf fn).foldl (fun s c =>
    let p := pCore c
    (((s.wr R.CORE_ACC_STEP_BW_COUNT p 0).wr R.CORE_ACC_STEP_RA_COUNT p 0).wr R.CORE_ACC_STEP_OVF_COUNT p 0).wr
      R.CORE_ACC_STEP_NF_COUNT p 0) s

/-- Slot 15 of a core's generator snapshots (R238): an address of cluster memory. -/
def State.slot15 (s : State) (fn c : Nat) : Nat :=
  aClmem (c / 16) (c / 4 % 4 * 2 ^ 23 + 65536 * s.rg R.COL_RNG_SNAP_OFS (pCol fn) + 16384 * (c % 4) + 15 * 1024)

/-- Whether the generator of a cluster's DMA engine is saved with core `c` (R238, R239). -/
def State.savesCdma (s : State) (fn c : Nat) : Bool :=
  decide (c % 16 = 0) && [0, 1, 2, 3].all (fun i => s.quadFn (c / 4 + i) == some fn)

/-- Save the DMA generators of the domain in slot 15. -/
def State.rngSave (s : State) (fn : Nat) : State :=
  (s.coresOf fn).foldl (fun s c =>
    let a := s.slot15 fn c
    let p := pCore c
    let s := (s.wle a 8 (s.rg R.CORE_DMA_RNG_STATE_VALUE p)).wle (a + 8) 8 (s.rg R.CORE_DMA_RNG_TAP_VALUE p)
    let s := s.setPoison a false
    if s.savesCdma fn c then
      let q := pClu (c / 16)
      (s.wle (a + 16) 8 (s.rg R.CLU_CDMA_RNG_STATE_VALUE q)).wle (a + 24) 8 (s.rg R.CLU_CDMA_RNG_TAP_VALUE q)
    else s) s

/-- A 64-bit value of slot 15: a free value from a poisoned line. -/
def State.slotWord (s : State) (a : Nat) : Nat × State :=
  if s.poisoned a then
    let (v, s) := s.freeVal
    (v % 2 ^ 64, s)
  else (s.rle a 8, s)

/-- Restore the DMA generators of the domain from slot 15. -/
def State.rngRestore (s : State) (fn : Nat) : State :=
  (s.coresOf fn).foldl (fun s c =>
    let a := s.slot15 fn c
    let p := pCore c
    let get (f : Fld) (inst o : Nat) (s : State) : State :=
      let (v, s) := s.slotWord (a + o)
      s.wr f inst v
    let s := get R.CORE_DMA_RNG_TAP_VALUE p 8 (get R.CORE_DMA_RNG_STATE_VALUE p 0 s)
    if s.savesCdma fn c then
      get R.CLU_CDMA_RNG_TAP_VALUE (pClu (c / 16)) 24 (get R.CLU_CDMA_RNG_STATE_VALUE (pClu (c / 16)) 16 s)
    else s) s

/-- The key of an opening (R392): STEP, ATTEMPT and CONSEC. -/
abbrev OpenKey := Nat × Nat × Nat

/-- The opening of the step machine as it stands. -/
def State.openKey (s : State) (fn : Nat) : OpenKey :=
  (s.stepCount fn, s.rg R.COL_STEP_STATUS_ATTEMPT (pCol fn), s.rg R.COL_SKIP_CTL_CONSEC (pCol fn))

/-- The opening of a record. -/
def VoteRec.key (v : VoteRec) : OpenKey := (bits v.record 47 0, bits v.record 48 48, v.consec)

/-- Whether `k` is the next opening after `c` (R392). -/
def nextOpening (c k : OpenKey) : Bool :=
  decide (k.1 = c.1 + 1) || (decide (k.1 = c.1) && k != c && (decide (k.2.1 = 1) || decide (k.2.2 = c.2.2 + 1)))

/-- The opening actions (R234), on an opening with a new step number or a reopening; ATTEMPT and CONSEC are set already. -/
def State.stepOpen (s : State) (fn : Nat) (newStep : Bool) : State :=
  let p := pCol fn
  let s := s.wr R.COL_OPEN_TBC_VALUE p s.tbc
  let s := s.stepClear fn
  let head := s.flag R.COL_STEP_CTRL_HEAD_AUTO p
  let s := (s.coresOf fn).foldl (fun s c =>
    let q := pCore c
    let s := s.wr R.CORE_NW_STATUS_JUMP q 0
    let s := if head then s.wr R.CORE_SCALE_CTRL_HEAD q (s.stepCount fn % 16) else s
    s.wr R.CORE_SCALE_CTRL_FORCE_JIT q (s.rg R.COL_STEP_STATUS_ATTEMPT p)) s
  let s := if s.flag R.COL_STEP_CTRL_DMA_RNG_SNAP p then (if newStep then s.rngSave fn else s.rngRestore fn) else s
  let x := s.stepSt fn
  let key := s.openKey fn
  let x := { x with
    fail := false, retry := false, unclean := false, cmd := none, askRetry := false, askVeto := false, phase := 0, record := 0
    cfg := ⟨s.rg R.COL_POLICY_ACTIONS p, s.rg R.COL_OVF_LIMIT_LIMIT p, s.rg R.COL_SAT_LIMIT_LIMIT p,
      s.rg R.COL_LOSS_LIMIT_LIMIT p⟩
    held := x.held.filter (fun v => v.key == key || nextOpening key v.key) }
  (s.setStep fn x).stepTo fn 1

/-- STEP_ARM (R230): `req` writes ARM = 1 on the COL page of `fn`, whose partition holds a quad. -/
def execStepArm (req fn : Nat) (s : State) : Host.Outcome State Fault Refusal :=
  .next (
    let p := pCol fn
    if s.mayWrite req p = false ∨ s.stepState fn ≠ 0 ∨ s.quadsOf fn = [] then s
    else ((s.wr R.COL_STEP_CTRL_ARM p 1).wr R.COL_STEP_STATUS_ATTEMPT p 0).stepOpen fn true)

/-- STEP_DISARM (R230): nothing is cleared. -/
def execStepDisarm (req fn : Nat) (s : State) : Host.Outcome State Fault Refusal :=
  .next (
    let p := pCol fn
    if s.mayWrite req p = false ∨ (s.stepState fn ≠ 1 ∧ s.stepState fn ≠ 5) then s
    else (s.wr R.COL_STEP_CTRL_ARM p 0).stepTo fn 0)

/-! ### Records and decisions (R231, R232) -/

/-- Sum of a counter over the cores of the domain. -/
def State.sumCores (s : State) (fn : Nat) (f : Fld) : Nat := ((s.coresOf fn).map (fun c => s.rg f (pCore c))).foldl (· + ·) 0

/-- A count in 32 bits, saturating. -/
def sat32 (n : Nat) : Nat := min (2 ^ 32 - 1) n

/-- The local record at the seal (R231). -/
def State.localRecord (s : State) (fn : Nat) : Nat :=
  let p := pCol fn
  let x := s.stepSt fn
  let nf := sat32 (x.nonfin + s.sumCores fn R.CORE_ACC_STEP_NF_COUNT + s.rg R.COL_COLL_NF_COUNT p)
  let jump := (s.coresOf fn).any (fun c => s.flag R.CORE_NW_STATUS_JUMP (pCore c))
  let flags := b2n (decide (nf ≠ 0)) + b2n jump * 2 + b2n x.fail * 4 + b2n (x.retry || x.askRetry) * 8 + b2n x.askVeto * 16
  s.stepCount fn + s.rg R.COL_STEP_STATUS_ATTEMPT p * 2 ^ 48 + flags * 2 ^ 64 + 2 ^ 96
  + sat32 (s.sumCores fn R.CORE_ACC_STEP_OVF_COUNT + s.rg R.COL_COLL_OVF_COUNT p) * 2 ^ 128 + x.sat * 2 ^ 160
  + sat32 (s.sumCores fn R.CORE_ACC_STEP_BW_COUNT + s.sumCores fn R.CORE_ACC_STEP_RA_COUNT) * 2 ^ 192 + nf * 2 ^ 224

/-- Two records combined (R231). -/
def combine (a b : Nat) : Nat :=
  let w (n lo : Nat) : Nat := bits n (lo + 31) lo
  a % 2 ^ 64 + (w a 64 ||| w b 64) * 2 ^ 64 + (w a 96 + w b 96) % 2 ^ 32 * 2 ^ 96 + sat32 (w a 128 + w b 128) * 2 ^ 128
  + sat32 (w a 160 + w b 160) * 2 ^ 160 + sat32 (w a 192 + w b 192) * 2 ^ 192 + sat32 (w a 224 + w b 224) * 2 ^ 224

/-- The active causes of a combined record, as VERDICT.CAUSES (R232, R246). -/
def causes (c : StepCfg) (r : Nat) : Nat :=
  let w (lo : Nat) : Nat := bits r (lo + 31) lo
  maskOf 8 (fun i => match i with
    | 0 => bit r 64
    | 1 => bit r 65
    | 2 => decide (w 128 > c.ovf)
    | 3 => decide (w 160 > c.sat)
    | 4 => decide (w 192 > c.loss)
    | 5 => bit r 66
    | 6 => bit r 67
    | _ => bit r 68)

/-- The decision (R232): 1 COMMIT, 2 SKIP, 3 REPLAY. -/
def decideStep (c : StepCfg) (r attempt : Nat) : Nat :=
  let acts := (onesBelow 8 (causes c r)).map (fun i => bits c.policy (2 * i + 1) (2 * i))
  let act := acts.foldl max 0
  if act = 2 then 2 else if act = 1 then (if attempt = 0 then 3 else 2) else 1

/-! ### Transitions out of VOTING (R230, R235, R236, R237) -/

/-- The step command in progress completes with a status. -/
def State.stepCmdEnd (s : State) (fn st : Nat) : State :=
  let x := s.stepSt fn
  match x.cmd with
  | some (q, num, _) => (s.setStep fn { x with cmd := none }).cmdResult q num st
  | none => s

/-- Entry to FAULTED: no entry to APPLYING waits any more, the command completes with a status, and STEP_FAULT is raised (R230, R235,
R237). -/
def State.stepFault (s : State) (fn st : Nat) : State :=
  (((s.wr R.COL_STEP_STATUS_HOLD (pCol fn) 0).stepCmdEnd fn st).stepTo fn 5).raise (pCol fn) Er.COL_STEP_FAULT

/-- Entry to APPLYING (R235). COMB_REC shows the combined record from here on: during VOTING, HOLD included, it is the previous one
(R246). -/
def State.stepApply (s : State) (fn : Nat) : State :=
  let s := (s.wr R.COL_COMB_REC_RECORD (pCol fn) (s.stepSt fn).record).stepClear fn
  let s := s.setStep fn { s.stepSt fn with unclean := false }
  ((s.wr R.COL_STEP_STATUS_HOLD (pCol fn) 0).stepTo fn 4).stepCmdEnd fn St.OK

/-- Whether a SNAPSHOT runs. -/
def State.snapRunning (s : State) (fn : Nat) : Bool := ((s.stepSt fn).snap.map (fun n => n.started)).getD false

/-- The combined record is complete: the verdict (R230, R232, R237). -/
def State.stepDecide (s : State) (fn r : Nat) : State :=
  let p := pCol fn
  let x := s.stepSt fn
  let att := s.rg R.COL_STEP_STATUS_ATTEMPT p
  let c := causes x.cfg r
  let v := decideStep x.cfg r att
  let s := if v = 1 then s.setStep fn { x with record := r } else s.wr R.COL_COMB_REC_RECORD p r
  let s := (((s.wr R.COL_VERDICT_CAUSES p c).wr R.COL_VERDICT_ATTEMPT p att).wr R.COL_VERDICT_VERDICT p v).wr R.COL_VERDICT_STEP_STEP p (s.stepCount fn)
  let s := s.event p 0x0D01 (if v = 1 then 4 else 3) (s.stepCount fn + v * 2 ^ 48 + att * 2 ^ 50 + c * 2 ^ 51)
  match v with
  | 1 =>
    let s := s.cnt p Cn.COL_VERDICT_COMMIT
    if s.snapRunning fn then (s.wr R.COL_STEP_STATUS_HOLD p 1).setStep fn { s.stepSt fn with holdTbc := s.tbc }
    else s.stepApply fn
  | 2 =>
    let s := (s.cnt p Cn.COL_VERDICT_SKIP).wr R.COL_STEP_STATUS_ATTEMPT p 0
    let s := (s.incSat R.COL_SKIP_TOTAL_COUNT p 1).incSat R.COL_SKIP_CTL_CONSEC p 1
    let warn := s.rg R.COL_SKIP_CTL_SKIP_WARN p
    let s := if warn ≠ 0 ∧ s.rg R.COL_SKIP_CTL_CONSEC p ≥ warn then s.raise p Er.COL_SKIP_RUN else s
    let cmd := (s.stepSt fn).cmd
    let s := s.stepOpen fn false
    (s.setStep fn { s.stepSt fn with cmd := cmd }).stepCmdEnd fn St.OK
  | _ =>
    let s := (s.cnt p Cn.COL_VERDICT_REPLAY).wr R.COL_STEP_STATUS_ATTEMPT p 1
    let s := s.incSat R.COL_REPLAY_TOTAL_COUNT p 1
    let cmd := (s.stepSt fn).cmd
    let s := s.stepOpen fn false
    (s.setStep fn { s.stepSt fn with cmd := cmd }).stepCmdEnd fn St.OK

/-! ### The verdict collective (R390–R392) -/

/-- The verdict group of a function, with its queue: a usable one of which the module is a member, its flows open. -/
def State.verdictGroup (s : State) (fn : Nat) : Option (Nat × Nat) :=
  match s.commqOf fn (s.rg R.COL_VERDICT_GID_GID (pCol fn)) with
  | some g =>
    let e := s.grpEntry g
    if (s.grpUsable e && s.grpMember e && s.flag R.COL_CQ_STATUS_FLOWS_OK g) = true then some (g, e) else none
  | none => none

/-- MAGIC of a verdict frame. -/
def magicVerdict : Nat := 0x56435354

/-- Send the record of the phase on axis `a` (R391, R392). -/
def State.sendVerdict (s : State) (fn e a r : Nat) : State :=
  let n := gExt e a
  let send (s : State) (w hops : Nat) : State :=
    if hops = 0 then s
    else s.grpPut (gFlow e a 1 0 w) (leBytes 4 magicVerdict ++ leBytes 2 (s.rg R.COL_VERDICT_GID_GID (pCol fn)) ++ leBytes 2 (hops - 1)
      ++ [a, 0] ++ leBytes 2 (s.rg R.COL_SKIP_CTL_CONSEC (pCol fn)) ++ leBytes 4 0 ++ leBytes 32 r) 0 0
  send (send s 0 (ceilDiv (n - 1) 2)) 1 ((n - 1) / 2)

/-- Combine phases while their records are complete; after the last, decide. `fuel` bounds the phases. -/
def State.voteRun : Nat → State → Nat → Nat → State
  | 0, s, _, _ => s
  | k + 1, s, fn, e =>
    let x := s.stepSt fn
    match (gAxes e)[x.phase]? with
    | none => s.stepDecide fn x.record
    | some a =>
      let key := s.openKey fn
      let mine (v : VoteRec) : Bool := v.key == key && decide (v.axis = a)
      let recs := x.held.filter mine
      if recs.length < gExt e a - 1 then s
      else
        let r := (recs.map (fun v => v.record)).foldl combine x.record
        let s := s.setStep fn { x with record := r, phase := x.phase + 1, held := x.held.filter (fun v => !(mine v)) }
        let s := match (gAxes e)[x.phase + 1]? with
          | some b => s.sendVerdict fn e b r
          | none => s
        State.voteRun k s fn e

/-- Go on with the vote. Without a usable verdict group it never completes. -/
def State.vote (s : State) (fn : Nat) : State :=
  match s.verdictGroup fn with
  | some (_, e) => if s.stepState fn = 3 ∧ s.flag R.COL_STEP_STATUS_HOLD (pCol fn) = false then s.voteRun 4 fn e else s
  | none => s

/-- The seal (R230, R231): the local record, and the contribution. -/
def State.stepSeal (s : State) (fn : Nat) : State :=
  let p := pCol fn
  let x := s.stepSt fn
  let r := s.localRecord fn
  let s := s.wr R.COL_LOCAL_REC_RECORD p r
  let s := (s.setStep fn { x with record := r, phase := 0, voteTbc := s.tbc }).stepTo fn 3
  match s.verdictGroup fn with
  | some (_, e) =>
    let s := match (gAxes e)[0]? with
      | some a => s.sendVerdict fn e a r
      | none => s
    s.vote fn
  | none => s

/-- SEALING ends once every command that the function fetched before the STEP_VERDICT has completed (R230, R233). -/
def State.sealCheck (s : State) (fn : Nat) : State :=
  if s.stepState fn ≠ 2 then s
  else
    match (s.stepSt fn).cmd with
    | some _ => if s.earlierDone fn (s.stepSt fn).order then s.stepSeal fn else s
    | none => s

/-- A verdict frame reaches the step machine (R230, R392). -/
def State.voteTake (s : State) (fn : Nat) (v : VoteRec) : State :=
  let x := s.stepSt fn
  let key := s.openKey fn
  let hold := s.setStep fn { x with held := x.held ++ [v] }
  match s.stepState fn with
  | 0 => hold
  | 5 => s
  | st =>
    if nextOpening key v.key then hold
    else if v.key = key then (if st = 4 then s else hold.vote fn)
    else if st = 2 ∨ st = 3 then s.stepFault fn St.STEP_MISMATCH
    else s

/-- VERDICT_FRAME_RX (R391): the oldest frame of verdict flow `flow` is forwarded while LEFT > 0, and taken. -/
def execVerdictFrameRx (flow : Nat) (s : State) : Host.Outcome State Fault Refusal :=
  .next (s.takeGroup 0 flow (isMagic 48 magicVerdict) (fun s g k f =>
    let fn := s.commqFn g
    let e := s.grpEntry g
    let left := byteFld f.data 6 2
    let a := byteFld f.data 8 1
    let s := if left = 0 ∨ a > 2 then s
      else
        let d := f.data.take 6 ++ leBytes 2 (left - 1) ++ f.data.drop 8
        (s.grpPut (gFlow e a 1 0 (k % 2)) d 0 0).cnt (pCol fn) Cn.COL_VERDICT_FWD
    match s.verdictGroup fn with
    | some (g', _) =>
      if g' = g then some (s.voteTake fn ⟨a, byteFld f.data 10 2, ofBytes ((f.data.drop 16).take 32)⟩) else some s
    | none => some s))

/-! ### STEP_VERDICT and STEP_COMMIT (R230, R233, R236) -/

/-- The first command of queue `q` with OPCODE `op` that has not started. -/
def State.stepFirst (s : State) (q op : Nat) : Option Cmd :=
  (s.cq q).inflight.find? (fun c => !c.started && c.result.isNone && c.opcode == op)

/-- A step command starts. -/
def State.stepBegin (s : State) (fn q : Nat) (c : Cmd) : State :=
  (s.cmdMap q c.num (fun c => { c with started := true, since := s.tbc })).trace fn 0 0x0C10
    (c.num % 2 ^ 32 + c.opcode * 2 ^ 32) (pQue fn) false (c.attr q)

/-- The refusals of a step command (R236): another that was fetched before it in progress, the state, the step number. -/
def State.stepRefusal (s : State) (fn want : Nat) (c : Cmd) : Nat :=
  let other := (s.cmdsOf fn).any (fun e => e.2.isStep && e.2.result.isNone && decide (e.2.order < c.order))
  if (s.stepSt fn).cmd.isSome = true ∨ other = true ∨ s.stepState fn ≠ want then St.STEP_STATE
  else if c.opnd 0x10 47 0 ≠ s.stepCount fn then St.STEP_MISMATCH
  else St.OK

/-- STEP_VERDICT (R230): the step machine goes to SEALING. -/
def execStepVerdict (q : Nat) (s : State) : Host.Outcome State Fault Refusal :=
  .next (
    let fn := s.cmdqFn q
    match s.stepFirst q 6 with
    | none => s
    | some c =>
      let st := s.stepRefusal fn 1 c
      let s := s.stepBegin fn q c
      if st ≠ St.OK then s.cmdResult q c.num st
      else
        let s := s.setStep fn { s.stepSt fn with
          cmd := some (q, c.num, 6), order := c.order, askRetry := bit (c.fld 0x18 8) 0, askVeto := bit (c.fld 0x18 8) 1, sealTbc := s.tbc }
        (s.stepTo fn 2).sealCheck fn)

/-- Whether the apply phase is clean (R235). -/
def State.applyClean (s : State) (fn : Nat) : Bool :=
  let x := s.stepSt fn
  !x.unclean && decide (x.nonfin = 0) && decide (s.sumCores fn R.CORE_ACC_STEP_NF_COUNT = 0)

/-- The FP32 rounding of a smoothed value (R227). -/
def smooth (old new shift : Nat) : Nat :=
  let v (c : Nat) : Val := (rdFp32 c).1
  (toFp32 ((v old).add (((v new).add (v old).negate).mul (.fin false (p2 (-(shift : Int))))))).1

/-- The update of one norm watch record (R226, R227): its 64 bytes after it. -/
def baselineUpdate (openTbc : Nat) (bs : List Nat) : Option (List Nat) :=
  let w (o : Nat) : Nat := byteFld bs o 4
  let cfg := w 0x2C
  let shift := cfg % 32
  if bit cfg 31 = false ∨ shift = 0 ∨ shift > 16 ∨ byteFld bs 0x20 8 < openTbc ∨ bit (w 8) 0 = true then none
  else
    let n := w 0x28
    let sl2 := if n = 0 then w 0 else smooth (w 0x30) (w 0) shift
    let smax := if n = 0 then w 4 else smooth (w 0x34) (w 4) shift
    let n' := sat32 (n + 1)
    let warm := decide (n' ≥ bits cfg 15 8)
    some (bs.take 0x10 ++ leBytes 4 (if warm then sl2 else w 0x10) ++ leBytes 4 (if warm then smax else w 0x14)
      ++ (bs.drop 0x18).take 16 ++ leBytes 4 n' ++ leBytes 4 cfg ++ leBytes 4 sl2 ++ leBytes 4 smax ++ leBytes 8 0)

/-- Every record of every core of the partition (R227). A poisoned record, or one past the scratchpad's end, is left alone. -/
def State.baselines (s : State) (fn : Nat) : State :=
  let t := s.rg R.COL_OPEN_TBC_VALUE (pCol fn)
  (s.coresOf fn).foldl (fun s c =>
    let base := s.rg R.CORE_NW_BASE_BASE (pCore c) * 2048
    (List.range 32).foldl (fun s k =>
      let o := base + 64 * k
      if o + 64 > 0x80000 ∨ s.spadPoisoned c o 64 = true then s
      else
        match baselineUpdate t (s.rbs (aSpad c o) 64) with
        | some bs => s.wbs (aSpad c o) bs
        | none => s) s) s

/-- STEP_COMMIT (R230, R235, R236): it starts once every command fetched before it has completed. -/
def execStepCommit (q : Nat) (s : State) : Host.Outcome State Fault Refusal :=
  .next (
    let fn := s.cmdqFn q
    let p := pCol fn
    match s.stepFirst q 7 with
    | none => s
    | some c =>
      let st := s.stepRefusal fn 4 c
      if st ≠ St.OK then (s.stepBegin fn q c).cmdResult q c.num st
      else if s.earlierDone fn c.order = false then s.cqWait q 7 0
      else
        let s := (s.stepBegin fn q c).cqWait q 0 0
        if s.stepCount fn = 2 ^ 48 - 1 then s.cmdResult q c.num St.STEP_EXHAUSTED
        else
          let s := s.setStep fn { s.stepSt fn with cmd := some (q, c.num, 7), order := c.order }
          if s.applyClean fn = false then s.stepFault fn St.APPLY_FAULT
          else
            let s := s.baselines fn
            let s := ((s.wr R.COL_STEP_COUNT_COUNT p (s.stepCount fn + 1)).wr R.COL_SKIP_CTL_CONSEC p 0).wr
              R.COL_STEP_STATUS_ATTEMPT p 0
            (s.stepOpen fn true).cmdResult q c.num St.OK)

/-! ### SNAPSHOT (R243–R245) -/

/-- The region list of a SNAPSHOT: addresses and lengths. -/
def snapRegions : Nat → List Nat → List (Nat × Nat)
  | 0, _ => []
  | n + 1, bs => (byteFld bs 0 8, byteFld bs 8 8) :: snapRegions n (bs.drop 16)

/-- Whether a local address is mapped to the far tier. -/
def State.toFar (s : State) (fn a : Nat) : Bool :=
  match s.mapAddr (viaFn fn) a true false with
  | .ok pa => decide (spaceOf pa = 3)
  | .error _ => false

/-- Whether a region lies in cluster memory or the translated window, aligned and whole lines, and is mapped (R243). -/
def State.regionOk (s : State) (fn : Nat) (r : Nat × Nat) : Bool :=
  decide (r.1 % 64 = 0) && decide (r.2 % 64 = 0) && decide (r.1 ≥ 2 ^ 32)
  && (List.range (r.2 / 64)).all (fun i => match s.mapAddr (viaFn fn) (r.1 + 64 * i) false false with
    | .ok pa => decide (spaceOf pa ≠ 0)
    | .error _ => false)

/-- The list of a SNAPSHOT command, and whether it and the destination meet R243. -/
def State.snapList (s : State) (fn : Nat) (c : Cmd) : Except Nat (State × List Nat × List (Nat × Nat)) := do
  let n := c.opnd 0x18 12 0
  if n = 0 ∨ n > 4096 then .error St.SNAP_RANGE
  else
    let (s, bs) ← s.ldN (viaFn fn) (c.fld 0x10 64) (16 * n)
    let raw := bs.map (fun b => b.1)
    let rs := snapRegions n raw
    let total := 64 + 16 * n + (rs.map (fun r => r.2)).foldl (· + ·) 0
    let dest := c.fld 0x20 64
    let far := bit (c.fld 0x28 8) 0
    let destOk := !far || (List.range (spanLines total)).all (fun i =>
      let a := if i = 0 then dest else (dest / 64 + i) * 64
      decide (a ≥ dest + total) || s.toFar fn a)
    if rs.all (s.regionOk fn) && destOk then .ok (s, raw, rs) else .error St.SNAP_RANGE

/-- A SNAPSHOT ends with a status other than OK: SNAP_FAIL is recorded, and the step machine takes note of it now, before an entry to
APPLYING that it held (R231, R235, R247). -/
def State.snapNote (s : State) (fn q num st : Nat) : State :=
  ((s.cmdMap q num (fun c => { c with aux := 1 })).stepNote fn st).raise (pCol fn) Er.COL_SNAP_FAIL st

/-- The SNAPSHOT of a step machine fails with a status. -/
def State.snapFail (s : State) (fn q num st : Nat) : State :=
  (((s.setStep fn { s.stepSt fn with snap := none }).wr R.COL_STEP_STATUS_SNAP_ACTIVE (pCol fn) 0).cmdResult q num st).snapNote fn q num st

/-- A SNAPSHOT starts, or fails its checks (R244); none where the channel of its region list holds its accesses. -/
def State.snapStart (s : State) (fn q num : Nat) (c : Cmd) : Option State :=
  if s.stepCount fn = 0 then some (s.snapFail fn q num St.SNAP_NONE)
  else
    match s.snapList fn c with
    | .error e => if e = waitCode then none else some (s.snapFail fn q num e)
    | .ok _ =>
      let n : Snap :=
        ⟨q, num, true, s.stepCount fn - 1, s.rg R.TOP_DAYMARK_DIGEST pTop, s.rg R.TOP_CFG_EPOCH_EPOCH pTop, s.tbc⟩
      some ((s.setStep fn { s.stepSt fn with snap := some n }).wr R.COL_STEP_STATUS_SNAP_ACTIVE (pCol fn) 1)

/-- SNAPSHOT (R244). -/
def execSnapshot (q : Nat) (s : State) : Host.Outcome State Fault Refusal :=
  .next (s.cmdStart q 8 (fun s c =>
    let fn := s.cmdqFn q
    let st := s.stepState fn
    let bad (s : State) (e : Nat) : Option (State × Option Nat) := some (s.snapNote fn q c.num e, some e)
    if st = 0 ∨ st = 5 then bad s St.STEP_STATE
    else if (s.stepSt fn).snap.isSome then bad s St.SNAP_BUSY
    else if st = 4 then some (s.setStep fn { s.stepSt fn with snap := some (⟨q, c.num, false, 0, 0, 0, 0⟩ : Snap) }, none)
    else (s.snapStart fn q c.num c).map (fun s => (s, none))))

/-- SNAPSHOT_DEFERRED_START (R244): a SNAPSHOT fetched in APPLYING starts at the next OPEN. -/
def execSnapshotDeferredStart (fn : Nat) (s : State) : Host.Outcome State Fault Refusal :=
  .next (match (s.stepSt fn).snap with
    | some n =>
      if n.started = true ∨ s.stepState fn ≠ 1 then s
      else
        (match s.cmdFind n.queue n.num with
        | some c => (s.snapStart fn n.queue n.num c).getD s
        | none => s)
    | none => s)

/-- Write a run of bytes of the image: to host memory, or by local address. -/
def State.snapWrite (s : State) (fn : Nat) (far : Bool) (a : Nat) (bs : List (Nat × Bool)) : Nat × State :=
  if far then s.writeSpan (viaFn fn) (spanLines bs.length) a (bs.map (fun b => (some b.1, b.2)))
  else (St.OK, s.wbs (aHost a) (bs.map (fun b => b.1)))

/-- Copy the regions of an image from `a` on; the bytes copied are answered. -/
def State.snapCopy (s : State) (fn : Nat) (far : Bool) : Nat → List (Nat × Nat) → Except Nat (State × List Nat)
  | _, [] => .ok (s, [])
  | a, (src, n) :: l => do
    let (s, bs) ← s.ldN (viaFn fn) src n
    let (st, s) := s.snapWrite fn far a bs
    if st ≠ St.OK then .error st
    else
      let (s, d) ← s.snapCopy fn far (a + n) l
      .ok (s, bs.map (fun b => b.1) ++ d)

/-- The image header (R245). -/
def Snap.header (n : Snap) (fn : Nat) (body : List Nat) (tbc : Nat) : List Nat :=
  leBytes 4 0x534C5354 ++ leBytes 4 1 ++ leBytes 8 n.step ++ leBytes 8 n.digest ++ leBytes 4 n.epoch ++ leBytes 4 fn
  ++ leBytes 8 body.length ++ leBytes 4 (crc32c body) ++ leBytes 4 0 ++ leBytes 8 n.tbc ++ leBytes 8 tbc

/-- The image of a running SNAPSHOT, the header last (R243). -/
def State.snapImage (s : State) (fn : Nat) (n : Snap) (c : Cmd) : Except Nat (State × Nat) := do
  let far := bit (c.fld 0x28 8) 0
  let dest := c.fld 0x20 64
  let (s, raw, rs) ← s.snapList fn c
  let (st, s) := s.snapWrite fn far (dest + 64) (raw.map (fun b => (b, false)))
  if st ≠ St.OK then .error st
  else
    let (s, d) ← s.snapCopy fn far (dest + 64 + raw.length) rs
    let h := n.header fn (raw ++ d) s.tbc
    let (st, s) := s.snapWrite fn far dest (h.map (fun b => (b, false)))
    if st ≠ St.OK then .error st else .ok (s, 64 + raw.length + d.length)

/-- A held entry goes on to APPLYING, where the step machine is still in VOTING (R230, R244). -/
def State.holdEnd (s : State) (fn : Nat) : State :=
  let p := pCol fn
  if s.flag R.COL_STEP_STATUS_HOLD p = true ∧ s.stepState fn = 3 then
    (s.wr R.COL_SNAP_HOLD_NS_VALUE p (s.rg R.COL_SNAP_HOLD_NS_VALUE p + (s.tbc - (s.stepSt fn).holdTbc))).stepApply fn
  else s

/-- SNAPSHOT_DONE (R243): the image is written, header last, unless host memory answers with an error. -/
def execSnapshotDone (fn : Nat) (hostErr : Bool) (s : State) : Host.Outcome State Fault Refusal :=
  .next (match (s.stepSt fn).snap with
    | none => s
    | some n =>
      if n.started = false then s
      else
        match s.cmdFind n.queue n.num with
        | none => s
        | some c =>
          if hostErr then (s.snapFail fn n.queue n.num St.HOST_ERROR).holdEnd fn
          else
            match s.snapImage fn n c with
            | .error e => if e = waitCode then s else (s.snapFail fn n.queue n.num e).holdEnd fn
            | .ok (s, k) =>
              let s := (s.setStep fn { s.stepSt fn with snap := none }).wr R.COL_STEP_STATUS_SNAP_ACTIVE (pCol fn) 0
              ((s.cnt (pCol fn) Cn.COL_SNAP_BYTES k).cmdResult n.queue n.num St.OK).holdEnd fn)

/-- RST_PART of the partition, or RST_CHIP (R230, R244): UNARMED, STEP_COUNT kept. -/
def State.stepReset (s : State) (fn : Nat) : State :=
  let x := s.stepSt fn
  let s := match x.snap with
    | some n => s.snapFail fn n.queue n.num St.ABORTED
    | none => s
  let s := s.stepCmdEnd fn St.ABORTED
  let s := ((s.wr R.COL_STEP_CTRL_ARM (pCol fn) 0).wr R.COL_STEP_STATUS_HOLD (pCol fn) 0).stepTo fn 0
  s.setStep fn StepSt.init

end Sys2Proof.Machine
end

