-- ==== Sys2Proof/Machine/Abort.lean ====
section
/-!
DEFINITION. What a reset at level RST_CTX does to the work of a context (R199, R480): descriptors, kernels, commands and command
queues; and the end of a kernel (R166, R421).
-/

namespace Sys2Proof.Machine

/-! ### DMA descriptors (R199) -/

/-- Put bytes back into a part of a line, with the marker that it had (R181): into the write-combining entry of the line too, where one stands. -/
def State.putBack (s : State) (pa : Nat) (bs : List Nat) (bad : Bool) : State :=
  let m := stackOf (offOf pa)
  let s := if spaceOf pa = 2 then s.setWcb m ((s.wcb m).map (fun x => if x.line = offOf pa / 64 then x.merge (offOf pa) (bs.map some) else x))
    else s
  (s.wbs pa bs).setPoison pa (bad || (decide (bs.length < 64) && s.poisoned pa))

/-- A line that an aborted descriptor has written holds its old or its new contents: a free choice (R180, R199; log entry 20). One written again
since keeps what it holds. -/
def State.unmove (s : State) (u : Nat × List Nat × List Nat × Bool) : State :=
  let (v, s) := s.freeVal
  if v % 2 = 0 ∧ s.lineBytes u.1 u.2.1.length = u.2.2.1 then s.putBack u.1 u.2.1 u.2.2.2 else s

/-- A descriptor leaves its engine with ABORTED and without its signal; each line of the destination of one that has moved data holds its old or
its new contents (R199), a PUT stays without its acknowledgement (R202; log entry 124), and a write that it held of its engine's generator takes
effect (R195, R205). -/
def State.descAbort (s : State) (e : Nat) (d : DmaDesc) : State :=
  let s := d.undo.foldl State.unmove s
  let s := if d.tag = 0 then s
    else { s with net := { s.net with flows := s.net.flows.map (fun f => (f.1, f.2.dropTag d.tag)) } }
  let s := if d.opc = 5 ∧ d.started = true then s.setCore d.core { s.core d.core with putLost := true } else s
  let s := if d.started then s.engRngEnd e { d with rng := none } else s
  (s.stepNote d.fn St.ABORTED).trace d.fn 2 0x0C13 (St.ABORTED + d.sig * 2 ^ 16) (pEng e) false (attrOf d.layer d.op 0)

/-- Every descriptor of an engine that `sel` picks (by queue) is aborted; DMA_ABORT or CDMA_ABORT is recorded. -/
def State.dmaAbort (s : State) (e : Nat) (sel : Nat → DmaDesc → Bool) : State :=
  let x := s.eng e
  let gone := [0, 1, 2, 3].flatMap (fun i => (x.q i).filter (sel i))
  if gone = [] then s
  else
    let y := [0, 1, 2, 3].foldl (fun (y : DmaEng) i => y.setQ i ((x.q i).filter (fun d => !(sel i d)))) x
    let s := gone.foldl (fun s d => s.descAbort e d) (s.putEng e y)
    s.raise (pEng e) (if e < 1024 then Er.CORE_DMA_ABORT else Er.CLU_CDMA_ABORT)

/-! ### Kernels (R166, R421) -/

/-- Outcome of a KERNEL_LAUNCH from `Cmd.aux`: bits 3 to 0 the cores still running, then a status of 16 bits for each core. -/
def launchResult (aux : Nat) : Option Nat :=
  if aux % 16 ≠ 0 then none
  else
    let l := (List.range 4).map (fun i => bits aux (19 + 16 * i) (4 + 16 * i))
    some ((l.find? (fun st => decide (st ≠ 0))).getD St.OK)

/-- A save or restore under way is aborted with ABORTED (R170, R172). -/
def State.ctxAbort (s : State) (c : Nat) : State :=
  if (s.core c).ctx.isNone then s
  else
    let s := s.setCore c { s.core c with ctx := none }
    ((s.wr R.CORE_CTX_CMD_BUSY (pCore c) 0).wr R.CORE_CTX_RESULT_STATUS (pCore c) St.ABORTED).raise (pCore c) Er.CORE_CTX_FAIL

/-- A core's kernel is over with a status: the core is idle, the trace shows it, and the command that launched it completes with
the last of its cores (R421, R558). -/
def State.kernelOver (s : State) (c st : Nat) : State :=
  let x := s.core c
  let s := s.setCore c { x with launch := none, ended := none, wait := none }
  let s := ((s.setRun c 0).wr R.CORE_RUN_STATUS_SIG_WAIT (pCore c) 0).wr R.CORE_RUN_STATUS_DMA_WAIT (pCore c) 0
  match x.launch with
  | none => s
  | some (q, num) =>
    let s := s.trace x.fn 1 0x0C12 (c + st * 2 ^ 16 + s.pc c % 2 ^ 32 * 2 ^ 32) (pCore c) false (attrOf x.layer x.op q)
    let i := c % 4
    s.cmdMap q num (fun k =>
      let aux := putBits (clrBit k.aux i) (19 + 16 * i) (4 + 16 * i) st
      { k with aux := aux, result := if k.result.isSome then k.result else launchResult aux })

/-- KERNEL_END (R166, R421): a core whose kernel has executed HALT or taken an exception is idle again once its units have
finished. -/
def execKernelEnd (core : Nat) (s : State) : Host.Outcome State Fault Refusal :=
  let x := s.core core
  .next (match x.ended with
    | some st => if x.atWork then s else s.kernelOver core st
    | none => s)

/-- The units of a core stop where they are: an MMA at its slice boundary, its feeders and weight registers empty. -/
def State.unitsStop (s : State) (c : Nat) : State :=
  let k := s.core c
  if k.atWork then
    let s := s.setCore c { k with mma := none, ast := none, squant := none, br := [], fq := [] }
    ((s.wr R.CORE_RUN_STATUS_MMA_ACTIVE (pCore c) 0).busyShow c).katShow c
  else s

/-- A kernel is stopped with ABORTED (R480), and with it a save or restore of its context (R170): a running MMA stops at the slice
boundary it has reached (R120), AST and SQUANT stop, a waiting instruction is abandoned, and the descriptors that the kernel queued are
aborted. A kernel that has executed HALT or taken an exception ends as it said, unless a unit was still at work for it (R121, R139). -/
def State.kernelAbort (s : State) (c : Nat) : State :=
  let x := s.core c
  if x.launch = none ∧ s.runState c = 0 then s
  else
    let s := (s.unitsStop c).ctxAbort c
    let sel (_ : Nat) (d : DmaDesc) : Bool := decide (d.core = c) && decide (d.launch = x.launch)
    let s := (s.dmaAbort c sel).dmaAbort (engCluster (c / 16)) sel
    let s := s.setCore c { s.core c with putLost := false }
    s.kernelOver c (if x.atWork then St.ABORTED else x.ended.getD St.ABORTED)

/-! ### Commands and command queues -/

/-- A command in flight is aborted (R480): what it runs is stopped, and it completes with ABORTED. -/
def State.cmdAbort (s : State) (q num : Nat) : State :=
  let fn := s.cmdqFn q
  match s.cmdFind q num with
  | none => s
  | some c =>
    let s :=
      if c.started = false ∨ c.result.isSome = true then s
      else
        match c.opcode with
        | 1 =>
          let quad := c.opnd 0x28 7 0
          (List.range 4).foldl (fun s i => if (s.core (4 * quad + i)).launch = some (q, num) then s.kernelAbort (4 * quad + i) else s) s
        | 5 =>
          s.coll.cq.foldl (fun (s : State) e =>
            match e.2.ops with
            | o :: l =>
              if o.queue = q ∧ o.num = num ∧ o.running = true then s.collAbort e.1
              else
                let f (o : CollOp) : CollOp :=
                  if o.queue = q ∧ o.num = num ∧ o.result.isNone = true then { o with result := some St.ABORTED } else o
                s.setCommq e.1 { e.2 with ops := (o :: l).map f }
            | [] => s) s
        | 8 => (match (s.stepSt fn).snap with
          | some n => if n.queue = q ∧ n.num = num then (s.snapFail fn q num St.ABORTED).holdEnd fn else s
          | none => s)
        | 10 => { s with host := { s.host with fences := s.host.fences.filter (fun f => decide (f.cmd ≠ some (q, num))) } }
        | 11 => { s with host := { s.host with
            quiesce := s.host.quiesce.map (fun e => (e.1, e.2.filter (fun x => decide (x ≠ (q, num))))) } }
        | _ => s
    s.cmdMap q num (fun c => { c with started := true, result := some St.ABORTED })

/-- RST_CTX of one command queue: every command fetched and not completed. -/
def State.queueAbort (s : State) (q : Nat) : State :=
  (((s.cq q).inflight.map (fun c => c.num)).foldl (fun s n => s.cmdAbort q n) s).cqWait q 0 0

end Sys2Proof.Machine
end

