-- ==== Sys2Proof/Machine/Train.lean ====
section
/-!
DEFINITION. The states of a port (R291–R294, R310): training from DETECT to UP, character frames (R295–R300), what a link-down does, and
the control registers that act on them.
-/

namespace Sys2Proof.Machine

/-- ROLE of a port (R286). -/
def State.role (s : State) (p : Nat) : Nat := s.rg R.LNK_PORT_STATUS_ROLE (pLnk p)

/-! ### The module's character (R295) -/

/-- The key slot in force (R525): the newest commit whose slot has a copy that matches it. -/
def State.activeKey (s : State) : Option KeySlot :=
  s.log.image.keyCommit.findSome? (fun c =>
    [0, 1].findSome? (fun d =>
      match NMap.get none s.log.keys (2 * c.1 + d) with
      | some k => if k.gen = c.2.1 ∧ k.digest = c.2.2 then some k else none
      | none => none))

/-- Anchors of the trust list in force; the factory slot's one before any KEY_COMMIT. -/
def State.anchors (s : State) : List Nat :=
  match s.activeKey with
  | some k => k.anchors
  | none => if s.log.image.keyCommit = [] then [Config.factory 3] else []

/-- The module's certificate chain, leaf first: that of the slot in force, the factory's before any commit; none where no slot
qualifies (R525). -/
def State.ownChain (s : State) : Option (List Nat) :=
  match s.activeKey with
  | some k => some k.certs
  | none => if s.log.image.keyCommit = [] then some (leBytes (Config.factory 4 % 16384) (Config.factory 5)) else none

/-- Whether the module has an identity to show (R525). -/
def State.hasKey (s : State) : Bool := decide (s.log.image.keyCommit = []) || s.activeKey.isSome

/-- IDENT of the module's leaf certificate (R295). -/
def State.ownIdent (s : State) : Nat := identOf (s.ownChain.getD [])

/-- The 44 bytes of the port's character frame (R295). -/
def State.charFrame (s : State) (p : Nat) : List Nat :=
  let ident := if s.flag R.LNK_PORT_STATUS_AUTH (pLnk p) then s.ownIdent else 0
  let body := leBytes 1 1 ++ leBytes 1 (s.role p)
    ++ leBytes 2 (s.rg R.TOP_AGREE_STATUS_ALL_AGREE pTop + 2 * s.rg R.RTE_MADDR_STANDBY pRte)
    ++ leBytes 4 s.maddr ++ leBytes 8 (s.rg R.TOP_DAYMARK_DIGEST pTop) ++ leBytes 4 (s.rg R.TOP_CFG_EPOCH_EPOCH pTop)
    ++ leBytes 4 (s.rg R.TOP_AGREE_STATE_GEN pTop * 4096 + s.rg R.TOP_AGREE_STATE_DEPTH pTop)
    ++ leBytes 8 (s.tbcAt (pLnk p)) ++ leBytes 8 ident
  body ++ leBytes 4 (crc32c body)

/-- Send a character frame now, and remember what it showed (R303); that of step 4 of R292 enters the transcript (R301). -/
def State.sendChar (s : State) (p : Nat) : State :=
  let x := s.port p
  let c := s.charFrame p
  let now := s.tbcAt (pLnk p)
  let recent := x.sentChars.filter (fun e => decide (now ≤ e.2.2 + 1000000))
  let s := s.setPort p { x with
    sentChars := (s.maddr, s.role p, now % 2 ^ 64) :: recent
    shake := if s.lnkState p = 4 then { x.shake with own := c } else x.shake }
  s.sendControl p c

/-- A field of the partner's last good character frame. -/
def State.peerChar (s : State) (p off n : Nat) : Nat :=
  s.rg R.LNK_PEER_CHAR_CHAR (pLnk p) / 2 ^ (8 * off) % 2 ^ (8 * n)

/-- MADDR and ROLE of the partner's last good character frame. -/
def State.peerId (s : State) (p : Nat) : Nat × Nat := (s.peerChar p 4 4, s.peerChar p 1 1)

/-! ### Time sources (R341, R343) -/

/-- The port whose partner the module follows. -/
def State.upstream (s : State) : Option Nat :=
  let up := s.rg R.RTE_TIME_CTRL_UP_PORT pRte
  let alt := s.rg R.RTE_TIME_CTRL_ALT_PORT pRte
  if s.lnkUp up then some up
  else if s.flag R.RTE_TIME_CTRL_ALT_EN pRte = true ∧ s.lnkUp alt = true then some alt else none

/-- After a port has left UP: with neither of its two ports UP, a module that follows enters holdover, and its TBC runs free (R343). -/
def State.timeCheck (s : State) : State :=
  match s.upstream with
  | some p => s.wr R.RTE_TIME_STATUS_SRC pRte p
  | none =>
    if s.flag R.RTE_TIME_CTRL_ROOT pRte = true ∨ s.flag R.RTE_TIME_STATUS_HOLDOVER pRte = true
        ∨ s.lnkUp (s.rg R.RTE_TIME_CTRL_ALT_PORT pRte) = true then s
    else (({ s with net := { s.net with slew := 0 } }.wr R.RTE_TIME_STATUS_HOLDOVER pRte 1).wr R.RTE_TIME_STATUS_LOCKED pRte 0).raise pRte Er.RTE_TIME_HOLDOVER

/-! ### Leaving a link (R310) -/

/-- Drop the rest of a frame of which a part has been sent: the flits up to the next first one. -/
def dropTail : List Flit → List Flit
  | [] => []
  | f :: l => if f.sof then f :: l else dropTail l

/-- A port without a link: sequence, credits, keys and frames being received start over; whole frames waiting stay. -/
def Port.unlinked (x : Port) : Port :=
  { x with
    locks := 0, stage := 0, shake := Shake.none, lastChar := none, txSeq := 0, rxSeq := 0, replay := [],
    txq := (x.txq.filter (fun e => decide (e.1 ≠ 4))).map (fun e => (e.1, dropTail e.2)),
    nak := false, tagFail := [], wrr := [], cur := [], sent := [], grant := [], got := [], freed := [], rotate := 0,
    part := [], rxKey := false, secret := [], side := 0, txKey := ⟨[], []⟩, rxKeys := [], txGen := 0, rxGen := 0, txFlits := 0,
    rekey := 0, rxNew := none, graceFrom := none, starved := [] }

/-- A margin scan ends (R318): GO clears, DONE is set, with what it found or ABANDONED. -/
def State.scanEnd (s : State) (p : Nat) (abandoned : Bool) : State :=
  let g := pLnk p
  let x := s.port p
  if x.scan.isNone then s
  else
    let s := (s.setPort p { x with scan := none, yields := 0 }).wr R.HDR_STATUS_SELFTEST_ACTIVE g 0
    ((s.wr R.LNK_MARGIN_CTRL_GO g 0).wr R.LNK_MARGIN_RESULT_DONE g 1).wrB
      R.LNK_MARGIN_RESULT_ABANDONED g abandoned

/-- A lane's margin scan starts (R318), with SELFTEST_ALLOW 1, QUIESCE 0, the link UP and no scan under way. -/
def State.scanStart (s : State) (p lane : Nat) : State :=
  let g := pLnk p
  let x := s.port p
  if s.flag R.HDR_CTRL_SELFTEST_ALLOW g = false ∨ s.quiescing g = true ∨ s.lnkState p ≠ 6 ∨ x.scan.isSome = true
      ∨ s.testBarred g = true ∨ (s.testRec 2 g).suspended = true then s
  else
    let s := s.setPort p { x with scan := some (lane % 8), yields := 0 }
    let s := ((s.wr R.LNK_MARGIN_CTRL_LANE g lane).wr R.LNK_MARGIN_CTRL_GO g 1).wr R.HDR_STATUS_SELFTEST_ACTIVE g 1
    (s.wr R.LNK_MARGIN_RESULT_DONE g 0).wr R.LNK_MARGIN_RESULT_ABANDONED g 0

/-- The link of a port is no more: its registers and its link state. -/
def State.linkDrop (s : State) (p : Nat) : State :=
  let g := pLnk p
  let s := s.scanEnd p true
  let s := (((s.wr R.LNK_PORT_STATUS_WIDTH g 0).wr R.LNK_PORT_STATUS_LIVE g 0).wr R.LNK_PORT_STATUS_AUTH g 0)
  let s := (((s.wr R.LNK_PORT_STATUS_TX_KEY g 0).wr R.LNK_PORT_STATUS_GRACE g 0).wr R.LNK_PORT_FLAGS_LOOPBACK g 0)
  let s := (List.range 8).foldl (fun s j => s.wr (R.LNK_LANE_STATUS_LOCK j) g 0) s
  s.setPort p (s.port p).unlinked

/-- Whether a port may train at all: enabled, its domain on, not fenced. -/
def State.portOn (s : State) (p : Nat) : Bool := s.enabled (pLnk p) && s.pageOn (pLnk p) && !(s.fencedP (pLnk p))

/-- The link of a port that is UP or MISCABLED goes down (R310): LINK_DOWN, and the port waits to train itself again under R294. -/
def State.linkDown (s : State) (p : Nat) : State :=
  if s.lnkState p ≠ 6 ∧ s.lnkState p ≠ 7 then s
  else
    let s := s.linkDrop p
    let s := s.wr R.LNK_PORT_STATUS_STATE (pLnk p) (if s.portOn p then 8 else 0)
    let s := s.setPort p { s.port p with selfPend := s.portOn p }
    (s.raise (pLnk p) Er.LNK_LINK_DOWN).timeCheck

/-! ### Training (R292, R293) -/

/-- Retired lanes of a port as the log has them (R292, R319, R527). -/
def State.portLoad (s : State) (p : Nat) : State :=
  let g := pLnk p
  let gone (j : Nat) : Bool := s.isRetired 7 (8 * p + j)
  let s := s.wr R.LNK_PORT_STATUS_RETIRED g (maskOf 8 gone)
  (List.range 8).foldl (fun s j => s.wrB (R.LNK_LANE_STATUS_MARKED j) g (gone j)) s

/-- Receive credits that a training grants at UP (R312): VC0 its reservation, VC1–VC3 their limits, made smaller in proportion where
together they are more than the shared pool (DESIGN CHOICE, log entry 46). -/
def State.credits (s : State) (p : Nat) : NMap Nat :=
  let g := pLnk p
  let r := s.rg R.LNK_VC_CREDIT_VC0_RSV g
  let pool := 2048 - r
  let m (f : Fld) : Nat := min (16 * s.rg f g) pool
  let sum := m R.LNK_VC_CREDIT_VC1_MAX + m R.LNK_VC_CREDIT_VC2_MAX + m R.LNK_VC_CREDIT_VC3_MAX
  let part (f : Fld) : Nat := if sum ≤ pool then m f else pool * m f / sum
  [(0, r), (1, part R.LNK_VC_CREDIT_VC1_MAX), (2, part R.LNK_VC_CREDIT_VC2_MAX), (3, part R.LNK_VC_CREDIT_VC3_MAX)]

/-- Training starts: DETECT, on the lanes that LANE_MASK permits and the log does not record as retired, with the credits that VC_CREDIT
gives (R292, R319). A self-started one is remembered (R294). -/
def State.trainBegin (s : State) (p : Nat) (self : Bool) : State :=
  if s.portOn p = false then s
  else
    let g := pLnk p
    let s := (s.linkDrop p).portLoad p
    let x := s.port p
    let s := s.setPort p { x with
      training := true, trainTbc := s.tbc, selfPend := false, lastSelf := if self then some s.tbc else x.lastSelf
      lanes := s.rg R.LNK_PORT_CTRL_LANE_MASK g &&& (255 ^^^ s.rg R.LNK_PORT_STATUS_RETIRED g), limits := s.credits p }
    ((s.wr R.LNK_PORT_STATUS_STATE g 2).wr R.LNK_PORT_CTRL_TRAIN g 1).timeCheck

/-- A training fails with a status: BACKOFF, with the interval doubled (R292, R293). -/
def State.trainFail (s : State) (p status : Nat) : State :=
  let g := pLnk p
  let s := s.linkDrop p
  let x := s.port p
  let s := s.setPort p { x with
    training := false, backoff := if x.backoff = 0 then 1 else min 1024 (2 * x.backoff), selfPend := false }
  let s := ((s.wr R.LNK_PORT_STATUS_STATE g 8).wr R.LNK_PORT_CTRL_TRAIN g 0).cnt g Cn.LNK_TRAIN_FAIL
  (s.raise g Er.LNK_TRAIN_FAIL status).timeCheck

/-- The link fails for a reason of its own: down when UP or MISCABLED, a failed training before. -/
def State.linkLost (s : State) (p : Nat) : State :=
  if s.lnkState p = 6 ∨ s.lnkState p = 7 then s.linkDown p
  else if (s.port p).training = true ∧ 3 ≤ s.lnkState p then s.trainFail p St.LINK_DOWN else s

/-- Authentication fails (R300, R301). -/
def State.authFail (s : State) (p : Nat) : State :=
  ((s.raise (pLnk p) Er.LNK_AUTH_FAIL).reject p 4 0 0xFFF).trainFail p 0x0304

/-- A handshake message out of its place (R301): MALFORMED, which ends a training in progress. -/
def State.handshakeFault (s : State) (p : Nat) : State :=
  let s := s.reject p 1 0 0xFFF
  if (s.port p).training then s.trainFail p 0x0301 else s

/-- The interval before a self-started training (R294), in ns. -/
def State.retrainWait (s : State) (p : Nat) : Nat :=
  min 64000 (s.rg R.LNK_RETRAIN_MIN (pLnk p) * 2 ^ s.rg R.LNK_RETRAIN_QCOUNT (pLnk p)) * 1000000

/-- Whether a self-started training may begin now. -/
def State.retrainOk (s : State) (p : Nat) : Bool :=
  match (s.port p).lastSelf with
  | none => true
  | some t => decide (s.tbc ≥ t + s.retrainWait p)

/-- Training reaches UP (R292 step 6): the sequence starts at 0, the credits are granted, the backoff is reset, and the keys of generation 0
are derived from the session secret for the direction `side` in which this side sends; in self-loopback both directions have one key
(R302, R303). A partner with another IDENT than the last is reported, with the low word of each IDENT in PAYLOAD, the last one's
below (R300, R608). -/
def State.reachUp (s : State) (p : Nat) (auth loop : Bool) (secret : List Nat) (side : Nat) : State :=
  let g := pLnk p
  let x := s.port p
  let newPartner := auth && decide (x.partner ≠ 0) && decide (x.ident ≠ x.partner)
  let s := if newPartner then s.event g 0x0303 3 (x.partner % 2 ^ 32 + x.ident % 2 ^ 32 * 2 ^ 32) else s
  let keyed := auth || loop
  let keys := fun d => if keyed then deriveKey secret d 0 else ⟨[], []⟩
  let y := x.unlinked
  let s := s.setPort p { y with
    stage := if auth then 7 else 0, training := false, backoff := 0, lastChar := x.lastChar, selfPend := false
    partner := if auth then x.ident else x.partner, partnerChar := s.peerId p, freed := x.limits
    rxKey := keyed, secret := secret, side := side, txKey := keys side
    rxKeys := [(0, keys (if loop then side else 1 - side))], txKeyTbc := s.tbc }
  let s := (((s.wr R.LNK_PORT_STATUS_STATE g 6).wrB R.LNK_PORT_STATUS_AUTH g auth).wrB R.LNK_PORT_FLAGS_LOOPBACK g loop).wr
    R.LNK_PORT_CTRL_TRAIN g 0
  ((((s.sendIdle p 0).sendIdle p 0).sendIdle p 0).sendIdle p 0).pump p

/-! ### Cabling (R298, R303) -/

/-- The partner role of R286. -/
def roleMatches (own peer : Nat) : Bool := if own < 12 then decide (peer = own ^^^ 2) else decide (12 ≤ peer)

/-- Whether a character (MADDR and ROLE) passes the cabling check of a port. -/
def State.cablingOk (s : State) (p maddr role : Nat) (loop : Bool) : Bool :=
  let g := pLnk p
  let mode := s.rg R.LNK_PEER_EXPECT_MODE g
  let em := s.rg R.LNK_PEER_EXPECT_MADDR g
  let er := s.rg R.LNK_PEER_EXPECT_ROLE g
  if loop then decide (mode = 3) && decide (er = s.role p) && decide (em = s.maddr)
  else if mode = 3 then decide (role = er) && decide (maddr = em)
  else if maddr = s.maddr then false
  else
    match mode with
    | 0 => true
    | 1 => roleMatches (s.role p) role
    | _ => roleMatches (s.role p) role && decide (maddr = em)

/-- The port enters MISCABLED, with both characters in the payload: the partner's MADDR and ROLE, then the port's ROLE and as
many bits of its own MADDR as fit. A margin scan ends, since the link is no longer UP (R318), and of the control flits that wait only
character frames and REJECTs stay (R291; log entry 131). -/
def State.miscabled (s : State) (p maddr role : Nat) : State :=
  let g := pLnk p
  if s.lnkState p = 7 then s
  else
    let s := s.scanEnd p true
    let x := s.port p
    let s := (s.wr R.LNK_PORT_STATUS_STATE g 7).wr R.LNK_PORT_CTRL_TRAIN g 0
    let s := s.setPort p { x with training := false, txq := NMap.put 4 ((x.queue 4).filter (s.mayControl p)) x.txq }
    let s := s.raise g Er.LNK_MISCABLED (maddr + role * 2 ^ 30 + s.role p * 2 ^ 34 + s.maddr % 2 ^ 21 * 2 ^ 38)
    (s.reject p 9 0 0xFFF).timeCheck

/-! ### The commands -/

/-- Training in DETECT or DARK goes on to ALIGN when lanes lock; in ALIGN the AND of the two lane masks gives the width and the port goes on to
CHAR (R292 steps 2 to 4). -/
def State.trainOn (s : State) (p locked peer : Nat) : State :=
  let g := pLnk p
  let x := s.port p
  if x.training = false then s
  else if s.lnkState p = 1 ∨ s.lnkState p = 2 then
    let lanes := x.lanes &&& locked % 256
    if lanes = 0 then s
    else
      let s := (s.setPort p { x with locks := lanes }).wr R.LNK_PORT_STATUS_STATE g 3
      (onesBelow 8 lanes).foldl (fun s j => s.wr (R.LNK_LANE_STATUS_LOCK j) g 1) s
  else if s.lnkState p = 3 then
    let live := x.locks &&& peer % 256
    let width := popcount 8 live
    if width < 4 then s.trainFail p St.WIDTH_LOW
    else
      let s := ((s.wr R.LNK_PORT_STATUS_LIVE g live).wr R.LNK_PORT_STATUS_WIDTH g width).wr R.LNK_PORT_STATUS_STATE g 4
      (if width < 8 then s.raise g Er.LNK_WIDTH_DEGRADE live else s).sendChar p
  else s

/-- PORT_TRAIN (R292, R294): training is triggered, by software (`self` false) or by the port itself, and one in progress goes on with
the lanes in `locked` locked and `peer` the partner's lane mask. -/
def execPortTrain (p : Nat) (self : Bool) (locked peer : Nat) (s : State) : Host.Outcome State Fault Refusal :=
  .next <|
  let x := s.port p
  let s :=
    if self = false then s.trainBegin p false
    else if x.training = false ∧ x.selfPend = true ∧ s.retrainOk p = true then s.trainBegin p true
    else s
  s.trainOn p locked peer

/-- LANE_LOCK_TIMEOUT (R292): no lane has locked within 1 ms, so the port reports DARK. -/
def execLaneLockTimeout (p : Nat) (s : State) : Host.Outcome State Fault Refusal :=
  .next <|
  if s.lnkState p = 2 ∧ (s.port p).training = true then s.wr R.LNK_PORT_STATUS_STATE (pLnk p) 1 else s

/-- TRAIN_TIMEOUT (R292): a training that has not reached UP within TRAIN_TO fails. -/
def execTrainTimeout (p : Nat) (s : State) : Host.Outcome State Fault Refusal :=
  .next <|
  if (s.port p).training then s.trainFail p St.TRAIN_TIMEOUT else s

/-- BACKOFF_EXPIRE (R293): the backoff interval after a failed training ends and the port trains again. -/
def execBackoffExpire (p : Nat) (s : State) : Host.Outcome State Fault Refusal :=
  .next <|
  if s.lnkState p = 8 ∧ (s.port p).selfPend = false then s.trainBegin p false else s

/-- CHAR_SEND (R296): the slot of the port in the millisecond. A port that is UP, or MISCABLED (R298), sends. -/
def execCharSend (p : Nat) (s : State) : Host.Outcome State Fault Refusal :=
  .next <|
  if s.lnkState p = 6 ∨ s.lnkState p = 7 then s.sendChar p else s

/-- CHAR_STALE (R297): no good frame for 4 ms while UP. -/
def execCharStale (p : Nat) (s : State) : Host.Outcome State Fault Refusal :=
  .next <|
  let g := pLnk p
  if s.lnkState p = 6 then
    let (m, r) := s.peerId p
    (s.wr R.LNK_PEER_CHAR_CHAR g (setBit (s.rg R.LNK_PEER_CHAR_CHAR g) (8 * 0x2C))).event g 0x0301 3 (m + r * 2 ^ 30)
  else s

/-- MISCABLED_REJECT (R298): once a second. -/
def execMiscabledReject (p : Nat) (s : State) : Host.Outcome State Fault Refusal := .next <| if s.lnkState p = 7 then s.reject p 9 0 0xFFF else s

/-- PEER_EXPECT_WRITE (R298, R319): the register takes the value; while MISCABLED a change starts training at once. -/
def execPeerExpectWrite (p val : Nat) (s : State) : Host.Outcome State Fault Refusal :=
  .next <|
  let g := pLnk p
  let img (s : State) : Nat × Nat × Nat :=
    (s.rg R.LNK_PEER_EXPECT_MODE g, s.rg R.LNK_PEER_EXPECT_ROLE g, s.rg R.LNK_PEER_EXPECT_MADDR g)
  let old := img s
  if s.mayWrite 0 g = false then s else
  let s := ((s.wr R.LNK_PEER_EXPECT_MODE g (bits val 63 62)).wr R.LNK_PEER_EXPECT_ROLE g (bits val 35 32)).wr
    R.LNK_PEER_EXPECT_MADDR g (bits val 29 0)
  if s.lnkState p = 7 ∧ img s ≠ old then s.trainBegin p false else s

/-- REPLAY_TIMEOUT's resend and a NAK's (R309): everything unacknowledged again, with the bytes of its first sending; a flit
resent 8 times already takes the link down. While MISCABLED only character frames and REJECTs are resent (R291). -/
def State.replay (s : State) (p : Nat) : State :=
  let g := pLnk p
  let x := s.port p
  let due (f : Flit) : Bool := decide (s.lnkState p ≠ 7) || (f.control && s.mayControl p f)
  let l := x.replay.filter due
  if l = [] then s
  else if l.any (fun f => decide (f.resends ≥ 8)) then (s.raise g Er.LNK_REPLAY_EXHAUSTED).linkLost p
  else
    let s := s.setPort p { x with replay := x.replay.map (fun f => if due f then { f with resends := f.resends + 1 } else f) }
    let s := l.foldl (fun s f => s.emit (s.onLine p f.raw)) s
    (s.cnt g Cn.LNK_REPLAY_FLITS l.length).raise g Er.LNK_REPLAY l.length

/-- REPLAY_TIMEOUT (R309): no ACK has advanced for REPLAY_TO. -/
def execReplayTimeout (p : Nat) (s : State) : Host.Outcome State Fault Refusal :=
  .next <| if 4 ≤ s.lnkState p ∧ s.lnkState p ≤ 7 then s.replay p else s

/-- A lane is marked for retirement (R311). -/
def State.laneRetire (s : State) (p j : Nat) : State :=
  let g := pLnk p
  if s.flag (R.LNK_LANE_STATUS_MARKED j) g then s
  else
    let s := s.wr (R.LNK_LANE_STATUS_MARKED j) g 1
    let s := s.wr R.LNK_PORT_STATUS_RETIRED g (setBit (s.rg R.LNK_PORT_STATUS_RETIRED g) j)
    (s.raise g Er.LNK_LANE_RETIRE j).retireUnit 7 (8 * p + j) 0

/-- LANE_LOCK_LOSS (R310, R311): a lane in use loses lock; the third time within 60 s it is marked. -/
def execLaneLockLoss (p lane : Nat) (s : State) : Host.Outcome State Fault Refusal :=
  .next <|
  let g := pLnk p
  let x := s.port p
  if bit (s.rg R.LNK_PORT_STATUS_LIVE g) lane = false ∧ (s.lnkState p ≠ 3 ∨ bit x.locks lane = false) then s
  else
    let times := ((NMap.get [] x.lockLoss lane).filter (fun t => decide (s.tbc ≤ t + 60000000000))) ++ [s.tbc]
    let s := s.setPort p { x with lockLoss := NMap.put lane times x.lockLoss }
    let s := (s.wr (R.LNK_LANE_STATUS_LOCK_LOSS lane) g (min 63 times.length)).wr (R.LNK_LANE_STATUS_LOCK lane) g 0
    let s := if times.length ≥ 3 then s.laneRetire p lane else s
    s.linkLost p

/-- LANE_CORR_CHECK (R311): the second ends for a lane. Above 10,000 corrected symbols in each of 10 seconds it is marked,
and the port trains itself at the earliest time R294 permits. -/
def execLaneCorrCheck (p lane : Nat) (s : State) : Host.Outcome State Fault Refusal :=
  .next <|
  let g := pLnk p
  let x := s.port p
  let n := NMap.get 0 x.corr lane
  let run := if n > 10000 then NMap.get 0 x.corrRun lane + 1 else 0
  let times := (NMap.get [] x.lockLoss lane).filter (fun t => decide (s.tbc ≤ t + 60000000000))
  let s := s.setPort p { x with
    corr := NMap.put lane 0 x.corr, corrRun := NMap.put lane run x.corrRun, lockLoss := NMap.put lane times x.lockLoss }
  let s := (s.wr (R.LNK_LANE_STATUS_CORR lane) g (min (2 ^ 24 - 1) n)).wr (R.LNK_LANE_STATUS_LOCK_LOSS lane) g (min 63 times.length)
  if run ≥ 10 ∧ s.flag (R.LNK_LANE_STATUS_MARKED lane) g = false then
    let s := s.laneRetire p lane
    s.setPort p { s.port p with selfPend := true }
  else s

/-- CREDIT_STARVE (R313): a VC has had no credit for CREDIT_TO, whether or not a flit waits for one. -/
def execCreditStarve (p vc : Nat) (s : State) : Host.Outcome State Fault Refusal :=
  .next <|
  let x := s.port p
  if s.lnkState p = 6 ∧ vc < 4 ∧ creditOf x.sent vc = creditOf x.grant vc ∧ NMap.get false x.starved vc = false then
    (s.setPort p { x with starved := NMap.put vc true x.starved }).raise (pLnk p) Er.LNK_CREDIT_STARVE vc
  else s

/-- VC0_STARVE_DOWN (R313): VC0 has had no credit for a further 10 × CREDIT_TO. -/
def execVc0StarveDown (p : Nat) (s : State) : Host.Outcome State Fault Refusal :=
  .next <|
  if NMap.get false (s.port p).starved 0 then s.linkDown p else s

/-- HOSTILE_WINDOW_END (R317). -/
def execHostileWindowEnd (p : Nat) (s : State) : Host.Outcome State Fault Refusal := .next <| s.wr R.LNK_RETRAIN_HOSTILE (pLnk p) 0

/-- Quarantine and its count end (R317). -/
def State.quarRelease (s : State) (p : Nat) : State :=
  let g := pLnk p
  (((s.wr R.LNK_PORT_STATUS_QUARANTINED g 0).wr R.LNK_RETRAIN_QCOUNT g 0).wr R.LNK_RETRAIN_HOSTILE g 0).pump p

/-- QUAR_RELEASE (R317): PF0 writes QUAR_CTRL.RELEASE = 1. -/
def execQuarRelease (p : Nat) (s : State) : Host.Outcome State Fault Refusal := .next <| if s.pageOn (pLnk p) then s.quarRelease p else s

/-- ENABLE of a port becomes 1 (R292). -/
def State.portEnable (s : State) (p : Nat) : State := s.trainBegin p false

/-- A port is disabled, fenced or loses its domain (R291, R310). -/
def State.portDisable (s : State) (p : Nat) : State :=
  let s := s.linkDown p
  let s := s.linkDrop p
  let s := s.setPort p { s.port p with training := false, selfPend := false }
  (s.wr R.LNK_PORT_STATUS_STATE (pLnk p) 0).wr R.LNK_PORT_CTRL_TRAIN (pLnk p) 0

end Sys2Proof.Machine
end

