-- ==== Sys2Proof/Machine/Handshake.lean ====
section
/-!
DEFINITION. The handshake of a training (R301, R302) and the secret of a port in self-loopback (R303): what each message holds, the
transcript, and what is derived from it. Where the rules leave the encoding of a message open it is DESIGN CHOICE, log entry 58.
-/

namespace Sys2Proof.Machine

/-- Whether this side is the initiator. -/
def State.initiator (s : State) (p : Nat) : Bool :=
  let (m, r) := s.peerId p
  decide (s.maddr < m) || (decide (s.maddr = m) && decide (s.role p < r))

/-- The direction in which this side sends: 0 for the initiator, 1 for the responder. -/
def State.sideOf (s : State) (p : Nat) : Nat := if s.initiator p then 0 else 1

/-! ### Random numbers of a handshake -/

/-- The `k`-th random number of the Keeper's source for a handshake: 0 the nonce, 1 the ECDH private number, 2 the ML-KEM seed or random
number, 3 the secret of a self-loopback. -/
def Shake.draw (k : Shake) (i : Nat) : Nat := Config.secret (2 ^ 64 + 4 * k.id + i)

/-- The numbers of a new handshake are taken; the character frames stay. -/
def State.shakeBegin (s : State) (p : Nat) : State :=
  let x := s.port p
  { s with free := s.free + 1 }.setPort p { x with shake := { x.shake with id := s.free, msgs := [], part := [] } }

/-! ### Messages and transcript -/

/-- The key of a message: its CTYPE and the side that sends it. -/
def msgKey (t side : Nat) : Nat := 2 * t + side

/-- A message of a handshake; nothing while it has not been sent or received. -/
def Shake.msg (k : Shake) (t side : Nat) : List Nat := NMap.get [] k.msgs (msgKey t side)

/-- SHA-384 over both character frames, the initiator's first, followed by the messages up to CTYPE `t` in order (R301). -/
def Shake.hash (k : Shake) (side t : Nat) : List Nat :=
  let frames := if side = 0 then k.own ++ k.peer else k.peer ++ k.own
  let msgs := (List.range 6).flatMap (fun c => if 2 ≤ c ∧ c ≤ t then k.msg c 0 ++ k.msg c 1 else [])
  sha384 (frames ++ msgs)

/-- The session secret (R302): HKDF with the transcript hash as salt over the ECDH secret followed by the ML-KEM secret. HELLO holds a
nonce of 32 bytes, a share of 97 and an encapsulation key of 1,184; RESPONSE a nonce, a share and a ciphertext of 1,088. -/
def Shake.session (k : Shake) (side : Nat) : List Nat :=
  let hello := k.msg 2 0
  let resp := k.msg 3 1
  let dh := Config.p384Shared (k.draw 1) (byteFld (if side = 0 then resp else hello) 32 97)
  let kem := if side = 0 then Config.kemGot (k.draw 2) (byteFld resp 129 1088) else Config.kemSent (byteFld hello 129 1184) (k.draw 2)
  hkdfExtract (k.hash side 5) (leBytes 48 dh ++ leBytes 32 kem)

/-- FINISHED of a side: HMAC-SHA-384 over the transcript hash, keyed from the handshake secret. -/
def Shake.finished (k : Shake) (side of : Nat) : List Nat :=
  hmac384 (hkdfExpand (k.session side) (Config.label 0 ++ [of]) 48) (k.hash side 5)

/-- The number of the module's identity key: that of the leaf in force. -/
def State.leafKey (s : State) : Nat := (s.activeKey.map (fun k => k.leaf)).getD (Config.factory 1)

/-- The contents of the message of CTYPE `t` that this side sends (R301). -/
def State.message (s : State) (p t : Nat) : List Nat :=
  let k := (s.port p).shake
  let side := s.sideOf p
  let share := leBytes 32 (k.draw 0) ++ leBytes 97 (Config.p384Public (k.draw 1))
  match t with
  | 2 => share ++ leBytes 1184 (Config.kemKey (k.draw 2))
  | 3 => share ++ leBytes 1088 (Config.kemCipher (byteFld (k.msg 2 0) 129 1184) (k.draw 2))
  | 4 => (s.ownChain.getD []).take 16384
  | 5 => leBytes 96 (Config.sign 0 s.leafKey (k.hash side 4)) ++ leBytes 3309 (Config.sign 1 s.leafKey (k.hash side 4))
  | _ => k.finished side side

/-- Cut a message into pieces of 223 bytes, the last filled with zeros; `fuel` bounds their number. -/
def pieces : Nat → List Nat → List (List Nat)
  | 0, _ => []
  | n + 1, bs =>
    if bs.length ≤ 223 then [bs ++ List.replicate (223 - bs.length) 0] else bs.take 223 :: pieces n (bs.drop 223)

/-- Send the message of CTYPE `t`: control flits whose payload is the CTYPE and a piece, the first with SOF and the last with EOF. -/
def State.sendHandshake (s : State) (p t : Nat) : State :=
  let l := pieces 74 (s.message p t)
  let x := s.port p
  let k := x.shake
  let s := s.setPort p { x with shake := { k with msgs := NMap.put (msgKey t (s.sideOf p)) l.flatten k.msgs } }
  let flits := l.zipIdx.map (fun e =>
    (⟨true, 0, decide (e.2 = 0), decide (e.2 + 1 = l.length), false, s.dmTag, false, t :: e.1, 0, [], 0⟩ : Flit))
  (s.queueFlits p 4 flits).pump p

/-- AUTH begins: the initiator sends HELLO. -/
def State.authBegin (s : State) (p : Nat) : State :=
  let s := (s.wr R.LNK_PORT_STATUS_STATE (pLnk p) 5).shakeBegin p
  if s.initiator p then (s.setPort p { s.port p with stage := 3 }).sendHandshake p 2
  else s.setPort p { s.port p with stage := 2 }

/-- UP in self-loopback (R303): the session secret is fresh, its salt the hash of the port's own character frame. -/
def State.loopUp (s : State) (p : Nat) : State :=
  let s := s.shakeBegin p
  let k := (s.port p).shake
  s.reachUp p false true (hkdfExtract (sha384 k.own) (leBytes 48 (k.draw 3))) 0

end Sys2Proof.Machine
end

