-- ==== Sys2Proof/Machine/Flits.lean ====
section
/-!
DEFINITION. Receiving flits (R304–R309, R313, R314, R316): the common checks, character frames, data flits and pass-through,
REJECT, the handshake messages (R301), key rolls (R305) and RETRAIN_REQ.
-/

namespace Sys2Proof.Machine

/-! ### A received flit (R304, R306) -/

/-- A received flit as the port sees it: its header, its payload deciphered, the symbols corrected by lane, and whether its CRC and its tag
are right. -/
structure Seen where
  port : Nat
  hdr : Nat
  payload : List Nat
  corr : List Nat
  crcOk : Bool
  tagOk : Bool
  deriving DecidableEq, Repr

/-- KIND. -/
def Seen.kind (f : Seen) : Nat := bits f.hdr 63 62
/-- KEY_ID. -/
def Seen.keyId (f : Seen) : Nat := bits f.hdr 61 61
/-- VC. -/
def Seen.vc (f : Seen) : Nat := bits f.hdr 60 59
/-- SOF. -/
def Seen.sof (f : Seen) : Bool := bit f.hdr 58
/-- EOF. -/
def Seen.eof (f : Seen) : Bool := bit f.hdr 57
/-- DM_CHECK. -/
def Seen.dmCheck (f : Seen) : Bool := bit f.hdr 56
/-- FLIT_SEQ. -/
def Seen.seq (f : Seen) : Nat := bits f.hdr 55 44
/-- DM_TAG. -/
def Seen.dmTag (f : Seen) : Nat := bits f.hdr 15 0
/-- A byte of the payload. -/
def Seen.byte (f : Seen) (o : Nat) : Nat := f.payload.getD o 0 % 256
/-- The 224 bytes of the payload. -/
def Seen.bytes (f : Seen) : List Nat := (List.range 224).map f.byte
/-- DM_CHECK, DM_TAG and TELEM, which a hop that forwards the flit leaves as they are (R314). -/
def Seen.mark (f : Seen) : Bool × Nat × Bool := (f.dmCheck, f.dmTag, bit f.hdr 16)
/-- Whether CRC and tag are right. -/
def Seen.good (f : Seen) : Bool := f.crcOk && f.tagOk

/-- Where a sequence number lies from the next expected one: −2,048 to 2,047. -/
def Port.distance (x : Port) (seq : Nat) : Int :=
  let d : Int := ((seq + 4096 - x.rxSeq) % 4096 : Nat)
  if d < 2048 then d else d - 4096

/-- A flit as a port receives it: its CRC checked and, on an encrypted link, its tag checked and its payload deciphered (R304, R306; log
entry 58). -/
def State.seen (s : State) (r : RxFlit) : Seen :=
  let x := s.port r.port
  let part (o n : Nat) : List Nat := (r.raw.drop o).take n
  let f : Seen := ⟨r.port, ofBytes (part 0 8), part 8 224, r.rx.corr, decide (crc64 (part 0 248) = ofBytes (part 248 8)), true⟩
  if s.linkKeyed r.port = false then f
  else
    match (x.rxKeys.find? (fun e => decide (e.1 = f.keyId))).map (fun e => e.2) with
    | none => { f with tagOk := false }
    | some k =>
      let rks := roundKeys k.key
      let nonce := k.nonce r.rx.count
      { f with
        payload := counterMode rks nonce f.payload
        tagOk := decide (authTag rks nonce (part 0 8) f.payload = part 232 16) }

/-! ### The common checks (R308) -/

/-- Corrected symbols are counted, and a margin scan yields on more than two or on a failed CRC (R308, R318). The run of
consecutive yields ends at the next flit that causes none: DESIGN CHOICE, log entry 140. -/
def State.rxFec (s : State) (f : Seen) : State :=
  let g := pLnk f.port
  let n := f.corr.foldl (· + ·) 0
  let s := s.cnt g Cn.LNK_FEC_CORR n
  let x := s.port f.port
  let corr := (f.corr.zipIdx).foldl (fun m e => if e.1 = 0 then m else NMap.put e.2 (NMap.get 0 m e.2 + e.1) m) x.corr
  let s := s.setPort f.port { x with corr := corr }
  match x.scan with
  | none => s
  | some lane =>
    if f.corr.getD lane 0 > 2 ∨ f.crcOk = false then
      (s.setPort f.port { s.port f.port with yields := x.yields + 1 }).cnt g Cn.LNK_SCAN_PREEMPT
    else s.setPort f.port { s.port f.port with yields := 0 }

/-- A NAK for the expected sequence number (R308). -/
def State.nak (s : State) (p : Nat) : State := (s.setPort p { s.port p with nak := true }).sendIdle p 2

/-- A flit with the next expected number counts as received in order, accepted or acknowledged with a REJECT; the first under a key installed
by a roll opens the grace window of the key before (R305). -/
def State.rxPass (s : State) (f : Seen) : State :=
  let x := s.port f.port
  if f.kind = 2 ∨ f.seq ≠ x.rxSeq then s
  else
    let x := { x with rxSeq := (x.rxSeq + 1) % 4096, nak := false, tagFail := x.tagFail.filter (· != f.seq) }
    s.setPort f.port (
      if f.keyId = x.rxGen % 2 then x
      else match x.rxNew with
        | some n => { x with rxGen := n, rxNew := none, graceFrom := some s.tbc }
        | none => x)

/-- A buffer of a VC is taken and freed again at once. -/
def State.rxBuffer (s : State) (p vc : Nat) : State :=
  let x := s.port p
  s.setPort p { x with
    got := NMap.put vc ((creditOf x.got vc + 1) % 2048) x.got
    freed := NMap.put vc ((creditOf x.freed vc + 1) % 2048) x.freed }

/-- The frame that a flit belongs to is discarded whole: what has been received of it, and the rest up to its EOF. -/
def State.rxDiscard (s : State) (f : Seen) : State :=
  let x := s.port f.port
  s.setPort f.port { x with part := if f.eof then Map.del f.vc x.part else NMap.put f.vc ⟨[], true, []⟩ x.part }

/-- A data flit rejected for its header in UP: its buffer is freed and its frame discarded (R316). -/
def State.rxRefuse (s : State) (f : Seen) : State :=
  if f.kind ≠ 0 ∨ s.lnkState f.port ≠ 6 then s
  else
    let x := s.port f.port
    (if creditOf x.freed f.vc ≠ creditOf x.got f.vc then s.rxBuffer f.port f.vc else s).rxDiscard f

/-- A flit that is rejected before its acknowledgement is looked at: in its turn it counts as received, and the frame of a data flit is
discarded. -/
def State.rxTurnedAway (s : State) (f : Seen) : State :=
  if f.kind ≠ 2 ∧ f.seq = (s.port f.port).rxSeq then (s.rxPass f).rxRefuse f else s

/-- A NAK for the expected number, unless one is outstanding. -/
def State.nakOnce (s : State) (p : Nat) : State := if (s.port p).nak then s else s.nak p

/-- Steps 3 and 4 of R308, and whether the flit is accepted. A key that is not installed is the old one after its grace window, whose
duplicates are discarded as step 4 discards them, or no key at all (R305, R316). The first flit under a new key that passes its tag switches
the receiver, also where it is then rejected (log entry 131). A data flit rejected in its turn is acknowledged and its frame discarded (R316). -/
def State.rxSecure (s : State) (f : Seen) : State × Bool :=
  let p := f.port
  let x := s.port p
  if s.linkKeyed p = true ∧ x.rxKeys.any (fun e => decide (e.1 = f.keyId)) = false then
    if f.kind ≠ 2 ∧ x.distance f.seq < 0 ∧ x.rxGen ≠ 0 then (s.nakOnce p, false)
    else ((s.rxTurnedAway f).reject p 8 f.vc (if f.kind = 2 then 0xFFF else f.seq), false)
  else if f.tagOk = false then
    if f.kind ≠ 2 ∧ x.tagFail.contains f.seq = true then
      ((((s.setPort p { x with tagFail := x.tagFail.filter (· != f.seq) }).rxTurnedAway f).reject p 7 f.vc f.seq), false)
    else ((s.setPort p { x with tagFail := if f.kind = 2 then x.tagFail else f.seq :: x.tagFail }).nak p, false)
  else if f.kind = 2 then (s.rxPass f, true)
  else if f.seq ≠ x.rxSeq then (s.nakOnce p, false)
  else ((s.rxPass f).cnt (pLnk p) Cn.LNK_FLITS_RX, true)

/-- The acknowledgement that a header carries (R308, R309, R316), and whether it is one that may be made. -/
def State.rxAck (s : State) (f : Seen) : State × Bool :=
  let p := f.port
  let x := s.port p
  let kind := bits f.hdr 31 30
  if kind = 0 then (s, true)
  else if kind = 3 then (s.reject p 1 f.vc f.seq, false)
  else
    let n := x.replay.length
    let d := (bits f.hdr 43 32 + 1 + 4096 + n - x.txSeq) % 4096
    if d ≤ n then
      let s := s.setPort p { x with replay := x.replay.drop d }
      (if kind = 2 then s.replay p else s, true)
    else if d < 2048 then (s.reject p 3 f.vc f.seq, false)
    else (s, true)

/-- The credits that a header carries (R308, R313). The first grant of a VC may be any; a later value that would take back or jump by half
of the count is stale (DEDUCED, log entry 46). -/
def State.rxCredit (s : State) (f : Seen) : State :=
  let p := f.port
  let x := s.port p
  let vc := bits f.hdr 29 28
  let cum := bits f.hdr 27 17
  let d := (cum + 2048 - creditOf x.grant vc) % 2048
  let first := !(x.grant.any (fun e => decide (e.1 = vc)))
  if 0 < d ∧ (first = true ∨ d < 1024) then
    s.setPort p { x with grant := NMap.put vc cum x.grant, starved := NMap.put vc false x.starved }
  else s

/-- The checks of R308 on a flit that a port receives, and whether it is accepted. Sequence numbers and acknowledgements work in every
state that carries flits; credits and keys belong to UP. -/
def State.rxAccept (s : State) (f : Seen) : State × Bool :=
  let p := f.port
  let st := s.lnkState p
  if st < 4 ∨ st > 7 ∨ s.portOn p = false then (s, false)
  else
    let s := s.rxFec f
    if f.crcOk = false then ((s.cnt (pLnk p) Cn.LNK_CRC_FAIL).nak p, false)
    else
      match s.rxSecure f with
      | (s, false) => (s, false)
      | (s, true) =>
        match s.rxAck f with
        | (s, false) => (s.rxRefuse f, false)
        | (s, true) =>
          if s.lnkState p ≠ st then (s, false)
          else if st = 6 then ((s.rxCredit f).pump p, true)
          else (s.pump p, true)

/-- A control flit of CTYPE `ctype` passes the checks and goes to `body`; any other good flit is not this command. A flit whose CRC or tag
is wrong ends in the checks whatever it held. -/
def State.rxControl (s : State) (f : Seen) (ctype : Nat) (body : State → State) : State :=
  if f.good = true ∧ (f.kind ≠ 1 ∨ f.byte 0 ≠ ctype) then s
  else
    match s.rxAccept f with
    | (s, false) => s
    | (s, true) => body s

/-! ### Character frames (R297–R300, R303, R341) -/

/-- The TIME frame that answers a character frame (R341): VC0, to the partner, T3 and T4 as its 16 payload bytes; it leaves on
the port that received the frame. -/
def State.sendTime (s : State) (p t3 : Nat) : State :=
  let f : Frame :=
    { dst := s.peerChar p 4 4, src := s.maddr, op := 8, flags := 0, hops := 0, dflow := 0, sflow := 0,
      inc := s.rg R.RTE_INC_INC pRte, seq := 0, ack := 0, len := 16, status := 0, off := 0, sig := 0, sigInc := 0, poison := 0,
      data := leBytes 8 t3 ++ leBytes 8 (s.tbcAt (pLnk p)) }
  (s.queueFlits p 0 (frameFlits 0 [(false, s.dmTag, false)] (hopped f.bytes))).pump p

/-- Whether a character frame (MADDR, ROLE, TX_TBC) is one that this port sent within the last millisecond (R303). -/
def State.ownChar (s : State) (p : Nat) (c : Nat × Nat × Nat) : Bool :=
  (s.port p).sentChars.contains c && decide (s.tbcAt (pLnk p) ≤ c.2.2 + 1000000)

/-- What a port in UP does with a good frame that passes the cabling check: R299, and the IDENT of R301. -/
def State.charUp (s : State) (p : Nat) (old : Nat × Nat) (first : Bool) (maddr role ident : Nat) : State :=
  let g := pLnk p
  let x := s.port p
  if x.stage = 7 ∧ ident ≠ x.ident then s.authFail p
  else
    let s := s.setPort p { x with stage := 0 }
    if s.rg R.LNK_PEER_EXPECT_MODE g = 0 ∧ first = false ∧ (maddr, role) ≠ old then
      s.event g 0x0302 2 (old.1 + old.2 * 2 ^ 30 + maddr * 2 ^ 34)
    else s

/-- CHAR (R297, R298, R303): a character frame arrives. -/
def execChar (r : RxFlit) (s : State) : Host.Outcome State Fault Refusal :=
  .next <|
  let f := s.seen r
  let p := f.port
  let g := pLnk p
  s.rxControl f 1 (fun s =>
    let bs := f.bytes
    let fld := byteFld bs
    if crc32c (bs.take 0x28) ≠ fld 0x28 4 then s.cnt g Cn.LNK_CHAR_BAD
    else if fld 1 1 ≥ 16 ∨ fld 2 2 ≥ 4 ∨ fld 4 4 ≥ 2 ^ 30 ∨ (bs.drop 0x2C).any (fun b => decide (b ≠ 0)) = true then
      s.reject p 1 0 f.seq
    else
      let maddr := fld 4 4
      let role := fld 1 1
      let tx := fld 0x18 8
      let st := s.lnkState p
      let old := s.peerId p
      let first := (s.port p).lastChar.isNone
      let s := s.wr R.LNK_PEER_CHAR_CHAR g (ofBytes (bs.take 0x2C))
      let x := s.port p
      let s := s.setPort p { x with lastChar := some s.tbc, shake := if st = 4 then { x.shake with peer := bs.take 0x2C } else x.shake }
      let s := if s.upstream = some p then { s with net := { s.net with t1 := tx, t2 := s.tbcAt g, tPort := some p } } else s
      let s := if st = 6 then s.sendTime p tx else s
      let loop := s.ownChar p (maddr, role, tx)
      let ok := s.cablingOk p maddr role loop
      if ok = false then s.miscabled p maddr role
      else if st = 7 then s.trainBegin p false
      else if st = 4 then
        if loop then s.loopUp p
        else if s.flag R.LNK_PORT_CTRL_REQUIRE_AUTH g then s.authBegin p
        else s.reachUp p false false [] 0
      else if st = 6 then s.charUp p old first maddr role (fld 0x20 8)
      else s)

/-! ### Data flits (R307, R312–R314, R316, R325) -/

/-- Flits that a frame may have by its header, once its first flit is known. -/
def frameFlitCount (bs : List Nat) : Nat := flitsOf (payloadLen (byteFld bs 8 1) (byteFld bs 0x1C 2))

/-- A whole frame: its bytes without the filling, routed onward or delivered, with the marks of its flits. -/
def State.rxFrame (s : State) (f : Seen) (bs : List Nat) (marks : List (Bool × Nat × Bool)) : State :=
  let p := f.port
  let x := s.port p
  let s := s.setPort p { x with part := Map.del f.vc x.part }
  let len := 64 + (if byteFld bs 8 1 = 2 then 0 else byteFld bs 0x1C 2)
  let pass := decide (byteFld bs 0 4 ≠ s.maddr)
  let s := if pass then s.cnt (pLnk p) Cn.LNK_PASS_FLITS (bs.length / 224) else s
  s.launch f.vc marks true (bs.take len)

/-- A flit joins its frame; a whole frame goes to routing (R314, R325). -/
def State.rxAssemble (s : State) (f : Seen) : State :=
  let p := f.port
  let x := s.port p
  let bad (s : State) : State := (s.rxDiscard f).reject p 1 f.vc f.seq
  let join (bs : List Nat) (marks : List (Bool × Nat × Bool)) : State :=
    if f.eof then s.rxFrame f bs marks else s.setPort p { x with part := NMap.put f.vc ⟨bs, false, marks⟩ x.part }
  match (x.part.find? (fun e => decide (e.1 = f.vc))).map (fun e => e.2), f.sof with
  | some q, false =>
    if q.drop then s.rxDiscard f
    else
      let bs := q.bytes ++ f.bytes
      let n := bs.length / 224
      let want := frameFlitCount bs
      if (f.eof = true ∧ n ≠ want) ∨ (f.eof = false ∧ n ≥ want) then bad s else join bs (q.marks ++ [f.mark])
  | none, false => bad s
  | some q, true => if q.drop = true ∧ f.eof = false then s.rxDiscard f else bad s
  | none, true =>
    let bs := f.bytes
    let want := frameFlitCount bs
    if frameHeaderOk bs = false ∨ (f.eof = true ∧ want ≠ 1) ∨ (f.eof = false ∧ want ≤ 1) then bad s else join bs [f.mark]

/-- DATA_FLIT (R308, R314–R316): a data flit arrives; a reserved KIND or CTYPE is MALFORMED. Only a flit that passed its CRC and tag checks
joins a frame and is forwarded, so a corrupt one is never carried beyond this hop (R315). -/
def execDataFlit (r : RxFlit) (s : State) : Host.Outcome State Fault Refusal :=
  .next <|
  let f := s.seen r
  let p := f.port
  let known := [1, 2, 3, 4, 5, 6, 0x10, 0x20, 0x21, 0x30]
  if f.good = true ∧ (f.kind = 2 ∨ (f.kind = 1 ∧ known.contains (f.byte 0) = true)) then s
  else
    match s.rxAccept f with
    | (s, false) => s
    | (s, true) =>
      if f.kind ≠ 0 then s.reject p 1 0 f.seq
      else if s.lnkState p ≠ 6 then s.reject p 5 f.vc f.seq
      else
        let x := s.port p
        let credit := decide (creditOf x.freed f.vc ≠ creditOf x.got f.vc)
        if s.quarantined p = true ∧ f.vc ≠ 0 then
          ((if credit then s.rxBuffer p f.vc else s).rxDiscard f).reject p 10 f.vc f.seq
        else if credit = false then (s.rxDiscard f).reject p 2 f.vc f.seq
        else
          let s := s.rxBuffer p f.vc
          if f.dmCheck = true ∧ f.dmTag ≠ s.dmTag then (s.rxDiscard f).reject p 6 f.vc f.seq
          else s.rxAssemble f

/-- IDLE_FLIT (R306): only acknowledgement and credits. -/
def execIdleFlit (r : RxFlit) (s : State) : Host.Outcome State Fault Refusal :=
  .next <|
  let f := s.seen r
  if f.good = true ∧ f.kind ≠ 2 then s else (s.rxAccept f).1

/-- REJECT (R316): counted and recorded; the frame is left to its flow. -/
def execReject (r : RxFlit) (s : State) : Host.Outcome State Fault Refusal :=
  .next <|
  let f := s.seen r
  s.rxControl f 0x10 (fun s =>
    (s.cnt (pLnk f.port) Cn.LNK_REJECT_RCVD).wr R.LNK_REJECT_LAST_RX_STATUS (pLnk f.port) (0x0300 + f.byte 1))

/-! ### The handshake (R301) -/

/-- A flit of the handshake message of CTYPE `t` arrives. In its place and within 16 KiB its piece is kept; the whole message is verified
(`ok`) and `next` goes on with it. -/
def State.handshake (s : State) (f : Seen) (t : Nat) (ok : Bool) (next : List Nat → State → State) : State :=
  let p := f.port
  s.rxControl f t (fun s =>
    let x := s.port p
    let k := x.shake
    if s.lnkState p ≠ 5 ∨ x.stage ≠ t ∨ f.sof ≠ k.part.isEmpty ∨ k.part.length ≥ 16384 then s.handshakeFault p
    else
      let bs := k.part ++ f.bytes.drop 1
      if f.eof = false then s.setPort p { x with shake := { k with part := bs } }
      else if ok = false ∨ s.hasKey = false then s.authFail p
      else
        let k := { k with part := [], msgs := NMap.put (msgKey t (1 - s.sideOf p)) bs k.msgs }
        next bs (s.setPort p { x with stage := t + 1, shake := k }))

/-- HELLO (R301): the responder answers with RESPONSE and its certificates. -/
def execHello (f : RxFlit) (ecdh kem : Bool) (s : State) : Host.Outcome State Fault Refusal :=
  .next <|
  s.handshake (s.seen f) 2 (ecdh && kem) (fun _ s =>
    ((s.setPort f.port { s.port f.port with stage := 4 }).sendHandshake f.port 3).sendHandshake f.port 4)

/-- RESPONSE (R301): the initiator sends its certificates. -/
def execResponse (f : RxFlit) (ecdh kem : Bool) (s : State) : Host.Outcome State Fault Refusal :=
  .next <| s.handshake (s.seen f) 3 (ecdh && kem) (fun _ s => s.sendHandshake f.port 4)

/-- CERT (R301): a chain whose last certificate, `anchor`, is a trust anchor of the link trust list; its leaf's IDENT is kept. -/
def execCert (f : RxFlit) (form links : Bool) (anchor : Nat) (s : State) : Host.Outcome State Fault Refusal :=
  .next <|
  s.handshake (s.seen f) 4 (form && links && s.anchors.contains anchor) (fun chain s =>
    (s.setPort f.port { s.port f.port with ident := identOf chain }).sendHandshake f.port 5)

/-- PROOF (R301): both signatures verify. -/
def execProof (f : RxFlit) (ecdsa mldsa : Bool) (s : State) : Host.Outcome State Fault Refusal :=
  .next <| s.handshake (s.seen f) 5 (ecdsa && mldsa) (fun _ s => s.sendHandshake f.port 6)

/-- FINISHED (R301, R300): the HMAC of the partner's side is right, and with a partner that may be accepted the training reaches UP with
fresh keys of generation 0. -/
def execFinished (port : Nat) (raw : List Nat) (rx : Reception) (s : State) : Host.Outcome State Fault Refusal :=
  .next <|
  let f : RxFlit := ⟨port, raw, rx⟩
  let p := f.port
  s.handshake (s.seen f) 6 true (fun mac s =>
    let x := s.port p
    let side := s.sideOf p
    let replaced := decide (x.partner ≠ 0) && decide (x.ident ≠ x.partner)
    let accept := s.flag R.LNK_PORT_CTRL_ACCEPT_NEW (pLnk p) && decide (s.peerId p = x.partnerChar)
    if mac.take 48 ≠ x.shake.finished side (1 - side) ∨ (replaced && !accept) = true then s.authFail p
    else s.reachUp p true false (x.shake.session side) side)

/-! ### Key rolls (R305) -/

/-- Send REKEY for the next generation. -/
def State.sendRekey (s : State) (p : Nat) : State := s.sendControl p ([0x20] ++ leBytes 4 ((s.port p).txGen + 1))

/-- A roll of the transmit key starts, unless one is under way or the link has no keys. -/
def State.keyRoll (s : State) (p : Nat) : State :=
  let x := s.port p
  if s.lnkState p ≠ 6 ∨ x.rxKey = false ∨ x.rekey ≠ 0 then s
  else (s.setPort p { x with rekey := 1 }).sendRekey p

/-- KEY_CTRL_REKEY: KEY_CTRL.REKEY = 1 is written; ignored unless the port is UP. -/
def execKeyCtrlRekey (p : Nat) (s : State) : Host.Outcome State Fault Refusal := .next <| s.keyRoll p

/-- KEY_LIFE_EXPIRE: the transmit key has been in use for KEY_CTRL.LIFE hours. -/
def execKeyLifeExpire (p : Nat) (s : State) : Host.Outcome State Fault Refusal := .next <| if s.lnkState p = 6 then s.keyRoll p else s

/-- KEY_FLIT_LIMIT: 2^40 flits have been sent under the transmit key. -/
def execKeyFlitLimit (p : Nat) (s : State) : Host.Outcome State Fault Refusal := .next <| if s.lnkState p = 6 then s.keyRoll p else s

/-- The direction in which the partner sends: the same as this side's in self-loopback (R303). -/
def State.peerSide (s : State) (p : Nat) : Nat :=
  if s.flag R.LNK_PORT_FLAGS_LOOPBACK (pLnk p) then (s.port p).side else 1 - (s.port p).side

/-- REKEY: the receiver installs generation g + 1 in its inactive slot and answers REKEY_ACK. -/
def execRekey (r : RxFlit) (s : State) : Host.Outcome State Fault Refusal :=
  .next <|
  let f := s.seen r
  let p := f.port
  s.rxControl f 0x20 (fun s =>
    let x := s.port p
    let g := byteFld f.bytes 1 4
    if s.lnkState p ≠ 6 ∨ x.rxKey = false ∨ g ≠ (x.rxGen + 1) % 2 ^ 32 then s.reject p 1 0 f.seq
    else
      let key := deriveKey x.secret (s.peerSide p) g
      let s := s.setPort p { x with rxNew := some g, graceFrom := none, rxKeys := NMap.put (g % 2) key x.rxKeys }
      (s.wr R.LNK_PORT_STATUS_GRACE (pLnk p) 1).sendControl p ([0x21] ++ leBytes 4 g))

/-- REKEY_ACK: from its next new flit the transmitter uses the new key, under the inverted KEY_ID. -/
def execRekeyAck (r : RxFlit) (s : State) : Host.Outcome State Fault Refusal :=
  .next <|
  let f := s.seen r
  let p := f.port
  let g := pLnk p
  s.rxControl f 0x21 (fun s =>
    let x := s.port p
    if s.lnkState p = 6 ∧ x.rekey ≠ 0 ∧ byteFld f.bytes 1 4 = (x.txGen + 1) % 2 ^ 32 then
      let n := x.txGen + 1
      let s := s.setPort p { x with txGen := n, txKey := deriveKey x.secret x.side n, rekey := 0, txFlits := 0, txKeyTbc := s.tbc }
      (s.wr R.LNK_PORT_STATUS_TX_KEY g (n % 2)).cnt g Cn.LNK_KEY_ROLL
    else s)

/-- REKEY_ACK_TIMEOUT: no REKEY_ACK within 1 ms. REKEY is sent again; the third failure records REKEY_FAIL and the port trains. -/
def execRekeyAckTimeout (p : Nat) (s : State) : Host.Outcome State Fault Refusal :=
  .next <|
  let x := s.port p
  if s.lnkState p ≠ 6 ∨ x.rekey = 0 then s
  else if x.rekey ≤ 3 then (s.setPort p { x with rekey := x.rekey + 1 }).sendRekey p
  else (s.raise (pLnk p) Er.LNK_REKEY_FAIL).linkDown p

/-- GRACE_EXPIRE: the receiver drops the old key. -/
def execGraceExpire (p : Nat) (s : State) : Host.Outcome State Fault Refusal :=
  .next <|
  let x := s.port p
  if x.graceFrom.isNone then s
  else
    (s.setPort p { x with graceFrom := none, rxKeys := Map.del ((x.rxGen + 1) % 2) x.rxKeys }).wr R.LNK_PORT_STATUS_GRACE (pLnk p) 0

/-! ### RETRAIN_REQ (R294) -/

/-- RETRAIN_REQ: the partner asks for a training; within the interval of R294 it is refused with RETRAIN_LIMIT. -/
def execRetrainReq (r : RxFlit) (s : State) : Host.Outcome State Fault Refusal :=
  .next <|
  let f := s.seen r
  let p := f.port
  s.rxControl f 0x30 (fun s => if s.retrainOk p then s.trainBegin p true else s.reject p 11 0 f.seq)

end Sys2Proof.Machine
end

