-- ==== Sys2Proof/Machine/Light.lean ====
section
/-!
DEFINITION. Lane margin scans (R318), laser inputs (R290), the time base (R341–R343), and the patch and address registers of
routing (R324, R327, R345).
-/

namespace Sys2Proof.Machine

/-! ### Margin scans (R318) -/

/-- LANE_MARGIN_GO: MARGIN_CTRL.GO = 1 is written with a lane. Ignored while SELFTEST_ALLOW is 0, while QUIESCE is 1, with the link
not UP, or with a scan under way. -/
def execLaneMarginGo (p lane : Nat) (s : State) : Host.Outcome State Fault Refusal :=
  .next (s.scanStart p lane)

/-- SCAN_ABANDON: a scan that has yielded 16 times in a row. -/
def execScanAbandon (p : Nat) (s : State) : Host.Outcome State Fault Refusal :=
  .next <|
  let x := s.port p
  if x.scan.isSome = true ∧ x.yields ≥ 16 then ((s.scanEnd p true).testAbandoned 2 (pLnk p)).cnt (pLnk p) Cn.LNK_SCAN_ABANDON else s

/-- LANE_MARGIN_DONE: the scan ends with the passing steps found below and above the trained point. -/
def execLaneMarginDone (p low high : Nat) (s : State) : Host.Outcome State Fault Refusal :=
  .next <|
  let g := pLnk p
  if (s.port p).scan.isNone then s
  else (((s.scanEnd p false).wr R.LNK_MARGIN_RESULT_LOW g low).wr R.LNK_MARGIN_RESULT_HIGH g high).testPassed 2 g

/-! ### Laser inputs (R33, R289, R290) -/

/-- A laser input. -/
def State.laser (s : State) (i : Nat) : Laser := NMap.get Laser.init s.net.lasers i

/-- Replace a laser input. -/
def State.setLaser (s : State) (i : Nat) (x : Laser) : State := { s with net := { s.net with lasers := NMap.put i x s.net.lasers } }

/-- The four ports whose engines an input feeds (R33). -/
def laserPorts (i : Nat) : List Nat := (List.range 4).map (fun k => 8 * (i % 2) + i / 2 % 2 + 2 * k)

/-- A power register value, two's complement in 0.01 dBm, offset by 2^15 so that it orders as a number. -/
def pwrBias (v : Nat) : Nat := (v + 2 ^ 15) % 2 ^ 16

/-- The engine of a port has lost its light: its link goes down, and the training that follows finds no lane, so the port reports DARK. -/
def State.laserLoss (s : State) (p : Nat) : State :=
  let s := s.raise (pLnk p) Er.LNK_LASER_LOSS
  if s.portOn p = false then s
  else ((s.linkDown p).trainBegin p false).wr R.LNK_PORT_STATUS_STATE (pLnk p) 1

/-- LASER_SAMPLE (R290): once a second the powers of the four engines of an input are compared with its baseline; OE_PWR changes
here only (log entry 131). -/
def execLaserSample (inp p0 p1 p2 p3 : Nat) (s : State) : Host.Outcome State Fault Refusal :=
  .next <|
  let ports := laserPorts inp
  let pw := [p0, p1, p2, p3].map pwrBias
  let s := (ports.zip [p0, p1, p2, p3]).foldl (fun s e => s.wr R.LNK_OE_PWR_PWR (pLnk e.1) e.2) s
  let mean := (pw.foldl (· + ·) 0) / 4
  let x := s.laser inp
  let first := x.newFrom.isSome
  let x := { x with
    firstN := x.firstN + b2n first, firstSum := x.firstSum + (if first then mean else 0)
    dayMin := min x.dayMin mean, daySum := x.daySum + mean, dayN := x.dayN + 1 }
  let base := NMap.get (0, 0) s.log.image.laserBase inp
  let known := s.log.image.laserBase.any (fun e => decide (e.1 = inp))
  let loss := pwrBias base.1 - mean
  let k := if known = true ∧ loss > 150 then (loss - 101) / 50 else 0
  let s := s.setLaser inp { x with steps := max x.steps k }
  let s := (List.range (k - x.steps)).foldl (fun s _ => ports.foldl (fun s p => s.raise (pLnk p) Er.LNK_LASER_AGEING loss) s) s
  let s := if mean < 1700 + 2 ^ 15 then ports.foldl (fun s p => s.raise (pLnk p) Er.LNK_LASER_LOW) s else s
  (ports.zip pw).foldl (fun s e => if e.2 < 1000 + 2 ^ 15 then s.laserLoss e.1 else s) s

/-- LASER_DAILY (R290, R502): the daily record of an input. -/
def execLaserDaily (inp : Nat) (s : State) : Host.Outcome State Fault Refusal :=
  .next <|
  let x := s.laser inp
  if x.dayN = 0 then s
  else
    (s.setLaser inp { x with dayMin := 65535, daySum := 0, dayN := 0 }).logEvent 0x0201 3
      (leBytes 1 inp ++ leBytes 2 (pwrBias x.dayMin) ++ leBytes 2 (pwrBias (x.daySum / x.dayN)) ++ leBytes 4 x.bias)

/-- LASER_BASELINE_SET (R290, R502): the first hour of a new source ends; its mean is the baseline. -/
def execLaserBaselineSet (inp : Nat) (s : State) : Host.Outcome State Fault Refusal :=
  .next <|
  let x := s.laser inp
  if x.newFrom.isNone = true ∨ x.firstN = 0 then s
  else
    let base := pwrBias (x.firstSum / x.firstN)
    let s := s.setLaser inp { x with newFrom := none, firstN := 0, firstSum := 0, steps := 0 }
    let s := { s with log := { s.log with image := { s.log.image with
      laserBase := NMap.put inp (base, x.source) s.log.image.laserBase } } }
    s.logStateRec 0x0130 (leBytes 1 inp ++ leBytes 2 base ++ leBytes 8 x.source)

/-! ### Time (R341–R343) -/

/-- θ in sixteenths of a nanosecond from the four times (R342). -/
def thetaOf (t1 t2 t3 t4 : Nat) : Int := (((t2 : Int) - t1) - ((t4 : Int) - t3)) * 8

/-- A two's complement 32-bit register takes a value, saturating. -/
def satTheta (z : Int) : Nat := wrap 32 (max (-(2 ^ 31)) (min (2 ^ 31 - 1) z))

/-- TIME (R341, R342): the oldest TIME frame delivered is taken. When it comes from the upstream partner and answers a character frame that
the port sent within the millisecond, and the partner's own frame came within a millisecond of that one, both in the time as it is now kept, θ is
formed: the first lock steps the TBC, any later one slews it. "The same millisecond" is read as less than 1 ms apart: DEDUCED, log entry 141. -/
def execTime (s : State) : Host.Outcome State Fault Refusal :=
  .next <|
  match s.rxFind 0 (fun f => decide (f.op = 8)) with
  | none => s
  | some (i, f) =>
    let s := s.rxDrop 0 i
    match s.upstream with
    | none => s
    | some p =>
      if s.flag R.RTE_TIME_CTRL_ROOT pRte = true ∨ f.src ≠ s.peerChar p 4 4 ∨ f.data.length < 16 then s
      else
        let t3 := byteFld f.data 0 8
        let t4 := byteFld f.data 8 8
        let near := decide (s.net.t2 < t3 + 1000000) && decide (t3 < s.net.t2 + 1000000)
        if (s.port p).sentChars.any (fun e => decide (e.2.2 = t3)) = false ∨ s.net.before.contains t3 = true ∨ s.net.tPort ≠ some p
            ∨ near = false then s else
        let z := thetaOf s.net.t1 s.net.t2 t3 t4
        let s := { s with net := { s.net with t3 := t3, t4 := t4 } }
        let s := (s.wr R.RTE_TIME_OFS_THETA pRte (satTheta z)).wr R.RTE_TIME_STATUS_SRC pRte p
        let locked := s.flag R.RTE_TIME_STATUS_LOCKED pRte
        let s :=
          if s.net.stepped then
            let s := { s with net := { s.net with slewNeg := decide (z > 0), slew := z.natAbs } }
            if locked = true ∧ z.natAbs > 16000 then s.raise pRte Er.RTE_TIME_JUMP else s
          else
            let old := (List.range 16).flatMap (fun q => (s.port q).sentChars.map (fun e => e.2.2))
            { s with tbc := wrap 64 ((s.tbc : Int) - z / 16), net := { s.net with stepped := true, slew := 0, tPort := none, before := old } }
        (s.wr R.RTE_TIME_STATUS_LOCKED pRte 1).wr R.RTE_TIME_STATUS_HOLDOVER pRte 0

/-- The TBC counts one nanosecond. Once a microsecond it is slewed by at most 1 ns (R342): forward by counting two, back by
counting none, so that it never steps backward. Each clock domain's own clock advances its copy (R52). -/
def State.tbcTick (s : State) : State :=
  let s := { s with tbcCopies := List.map (fun (d, t) => (d, t + 1)) s.tbcCopies }
  let due := decide (s.tbc % 1000 = 999) && decide (s.net.slew ≥ 16)
  if due && s.net.slewNeg && !s.net.slewHeld then
    { s with net := { s.net with slew := s.net.slew - 16, slewHeld := true } }
  else if due && !s.net.slewNeg then
    { s with tbc := s.tbc + 2, net := { s.net with slew := s.net.slew - 16 } }
  else { s with tbc := s.tbc + 1, net := { s.net with slewHeld := false } }

/-! ### Routing registers (R324, R327, R345) -/

/-- PATCH_WRITE (R327): the upper half of PATCH_DATA is written, and the entry that PATCH_IDX names takes both halves. -/
def execPatchWrite (fn hi : Nat) (s : State) : Host.Outcome State Fault Refusal :=
  .next <|
  if s.mayWrite fn pRte = false then s
  else
    let e := s.rg R.RTE_PATCH_DATA_ENTRY pRte % 2 ^ 64 + hi % 2 ^ 64 * 2 ^ 64
    let s := s.wr R.RTE_PATCH_DATA_ENTRY pRte e
    { s with net := { s.net with patch := NMap.put (s.rg R.RTE_PATCH_IDX_IDX pRte) e s.net.patch } }

/-- MADDR_WRITE (R324, R345): accepted with every ring port DISABLED, or on a standby module, which it adopts. -/
def execMaddrWrite (fn val : Nat) (s : State) : Host.Outcome State Fault Refusal :=
  .next <|
  let standby := s.flag R.RTE_MADDR_STANDBY pRte
  let ringOff := (List.range 12).all (fun p => decide (s.lnkState p = 0))
  if s.mayWrite fn pRte = false ∨ (standby = false ∧ ringOff = false) then s
  else
    let s := s.wr R.RTE_MADDR_MADDR pRte val
    let s :=
      if standby then
        let s := (s.wr R.RTE_MADDR_STANDBY pRte 0).wr R.RTE_INC_INC pRte (s.rg R.RTE_INC_INC pRte + 1)
        { s with net := { s.net with stepped := false, slew := 0 } }.wr R.RTE_TIME_STATUS_LOCKED pRte 0
      else s
    (List.range 16).foldl (fun s p =>
      if standby = true ∨ (s.port p).training = true then s.trainBegin p false else s) s

end Sys2Proof.Machine
end

