-- ==== Sys2Proof/Machine/Mem.lean ====
section
/-!
DEFINITION. The stack controllers and the far tier (R255–R267, R275–R278): accesses as they reach a controller, parity errors and
retraining, fencing of channels, scrubbing, the traffic generator, margining, and the expanders' links.
-/

namespace Sys2Proof.Machine

/-! ### Accesses (R14, R255–R258, R41) -/

/-- A completion to the requester: kind 5 (memory) and its status. -/
def State.memDone (s : State) (st : Nat) : State := s.emit (.status 5 st)

/-- Read data as a requester receives it: a byte of a poisoned line is marked by 256. -/
def marked (bs : List Nat) (bad : Bool) : List Nat := if bad then bs.map (fun b => b % 256 + 256) else bs

/-- A controller serves a request; a partial write that finds no entry of the buffer waits for one (R258), unless its channel is fenced and
discards it (R261). -/
def State.memServe (s : State) (r : MemReq) : State :=
  let m := stackOf r.addr
  match r.write with
  | none =>
    let (s, bs, bad) := s.readLine (aHbm r.addr) r.len
    { s with rdata := marked bs bad }.memDone St.OK
  | some v =>
    if r.len < 64 ∧ s.wcbFull r.addr = true ∧ s.chFenced m (channelOf r.addr) = false then
      { s with hbm := { s.hbm with wcbWait := NMap.put m (NMap.get [] s.hbm.wcbWait m ++ [r]) s.hbm.wcbWait } }
    else
      let (st, s) := s.hbmWrite r.addr ((leBytes r.len v).map some) false
      s.memDone st

/-- Requests that a channel held are served, oldest first, once nothing holds it. -/
def State.chResume (s : State) (m ch : Nat) : State :=
  if s.chHeld m ch then s
  else
    let x := s.chan m ch
    x.held.foldl State.memServe (s.setChan m ch { x with held := [] })

/-- Requests that the channels of a stack held go on. -/
def State.memResume (s : State) (m : Nat) : State := (List.range 32).foldl (fun s ch => s.chResume m ch) s

/-- A request reaches a stack controller. -/
def State.memRequest (s : State) (r : MemReq) : State :=
  let m := stackOf r.addr
  let ch := channelOf r.addr
  if s.stackOff m then s.memDone St.STACK_OFF
  else if s.chHeld m ch then s.setChan m ch { s.chan m ch with held := (s.chan m ch).held ++ [r] }
  else s.memServe r

/-- HBM_READ (R256, R259): `n` bytes within the line at HBM offset `addr`; `ups` are the errors that the read meets. -/
def execHbmRead (addr n : Nat) (ups : List Upset) (s : State) : Host.Outcome State Fault Refusal :=
  .next ((s.upsets 0 ups).memRequest ⟨addr, chunk addr n, none⟩)

/-- HBM_WRITE (R255): bytes within the line at HBM offset `addr`; `ups` are the errors that the read of an entry it drains meets (R257, R259),
recorded first, so that a line which cannot be corrected stays poisoned under the merge (log entry 128). -/
def execHbmWrite (addr : Nat) (bytes : Met (List Nat)) (s : State) : Host.Outcome State Fault Refusal :=
  let n := chunk addr bytes.val.length
  .next ((s.upsets 0 bytes.ups).memRequest ⟨addr, n, some (ofBytes (bytes.val.take n))⟩)

/-- WCB_AGE_DRAIN (R257): the incomplete entry of line `line` of stack `m` has been in the buffer for 4 µs; `ups` are the errors that its read
meets. -/
def execWcbAgeDrain (m : Nat) (line : Met Nat) (s : State) : Host.Outcome State Fault Refusal :=
  .next (match (s.wcb m).find? (fun e => decide (e.line = line.val)) with
    | some e => if s.chHeld m (channelOf (line.val * 64)) then s else (s.upsets 0 line.ups).wcbDrain m e
    | none => s)

/-- WCB_SPACE (R258): the oldest partial write that waits at stack `m` gets an entry. -/
def execWcbSpace (m : Nat) (s : State) : Host.Outcome State Fault Refusal :=
  .next (match NMap.get [] s.hbm.wcbWait m with
    | [] => s
    | r :: l =>
      if s.wcbFull r.addr then s
      else { s with hbm := { s.hbm with wcbWait := NMap.put m l s.hbm.wcbWait } }.memRequest r)

/-! ### Parity errors, retraining, fencing (R260, R261) -/

/-- A channel is fenced (R261): what it holds and the buffer's lines of it are discarded, and the fence is logged. -/
def State.chFence (s : State) (m ch : Nat) : State :=
  let p := pMch m ch
  let s := (s.wr R.MCH_CH_STATUS_RATE p 2).wr R.HDR_STATUS_FENCED p 1
  let s := s.setWcb m ((s.wcb m).filter (fun e => decide (channelOf (e.line * 64) ≠ ch)))
  let x := s.chan m ch
  let s := s.setChan m ch { Chan.init with lastRetrain := x.lastRetrain }
  let s := x.held.foldl State.memServe s
  (s.raise (pMem m) Er.MEM_CH_FENCED ch).retireUnit 8 (32 * m + ch) St.CHANNEL_FENCED

/-- A channel steps down to 6.4 Gb/s and retrains again (R260, step 5). The log keeps the rate, which R280 loads from it at boot: as a
retirement of KIND 8 with CAUSE 0, since R502 gives no record of it (DESIGN CHOICE, log entry 135). -/
def State.chDegrade (s : State) (m ch : Nat) : State :=
  let i := 32 * m + ch
  let s := s.logStateRec 0x0110 (leBytes 4 8 ++ leBytes 4 i ++ leBytes 2 0)
  let s := { s with log := { s.log with image := s.log.image.retire 8 i 0 } }
  let s := ((s.wr R.MCH_CH_STATUS_RATE (pMch m ch) 1).wr R.HDR_STATUS_DEGRADED (pMch m ch) 1).wr R.HDR_STATUS_DEGRADED (pMem m) 1
  (s.setChan m ch { s.chan m ch with retraining := true, low := true }).raise (pMem m) Er.MEM_CH_DEGRADED ch

/-- PARITY_ERROR (R260, steps 1 and 2): a transfer of the channel meets a parity error, and is withheld; `write` holds the bytes of a
write as one number. -/
def execParityError (addr n : Nat) (write : Option Nat) (s : State) : Host.Outcome State Fault Refusal :=
  let m := stackOf addr
  let ch := channelOf addr
  .next (if s.stackOff m = true ∨ s.chHeld m ch = true ∨ s.chFenced m ch = true then s
    else
      let x := s.chan m ch
      let r : MemReq := ⟨addr, chunk addr n, write⟩
      (s.setChan m ch { x with held := r :: x.held, repeats := 1 }).cnt (pMem m) Cn.MEM_PAR_RETRY)

/-- PARITY_REPEAT (R260, steps 2 and 3): the transfer is repeated; the fourth failure is persistent. -/
def execParityRepeat (m ch : Nat) (ok : Bool) (s : State) : Host.Outcome State Fault Refusal :=
  let x := s.chan m ch
  .next (if x.repeats = 0 then s
    else if ok then
      ((s.setChan m ch { x with repeats := 0 }).raise (pMem m) Er.MEM_PAR_RETRY ch).chResume m ch
    else if x.repeats < 4 then s.setChan m ch { x with repeats := x.repeats + 1 }
    else
      let s := s.setChan m ch { x with repeats := 0, retraining := true }
      let again := match x.lastRetrain with
        | some t => decide (s.tbc ≤ t + 1000000000)
        | none => false
      if s.rg R.MCH_CH_STATUS_RATE (pMch m ch) = 1 then s.chFence m ch
      else if again then s.chDegrade m ch else s)

/-- CH_RETRAIN_DONE (R260, steps 4 to 6). -/
def execChRetrainDone (m ch : Nat) (ok : Bool) (s : State) : Host.Outcome State Fault Refusal :=
  let x := s.chan m ch
  .next (if x.retraining = false then s
    else
      let s := s.incSat R.MCH_CH_STATUS_RETRAINS (pMch m ch) 1
      if ok then
        let s := s.setChan m ch { x with retraining := false, lastRetrain := some s.tbc, low := false }
        (if x.low then s else s.raise (pMem m) Er.MEM_CH_RETRAIN ch).chResume m ch
      else if s.rg R.MCH_CH_STATUS_RATE (pMch m ch) = 0 then s.chDegrade m ch
      else s.chFence m ch)

/-! ### Scrubbing and tests (R262, R275, R276) -/

/-- Lines of a stack that a scrub pass covers. -/
def stackLines : Nat := 18432 * 2 ^ 15

/-- The scrubber reads its next line of stack `m` (R262): a fenced channel's line is passed over. -/
def State.scrubLine (s : State) (m result : Nat) : State :=
  let p := pMem m
  let pos := NMap.get 0 s.hbm.scrubPass m
  let line := pos % stackLines
  let pass := pos / stackLines
  let o := m * 2 ^ 36 + line * 64
  let s := { s with hbm := { s.hbm with scrubPass := NMap.put m (pos + 1) s.hbm.scrubPass } }
  let s := if line + 1 = stackLines then s.testPassed 1 p else s
  if s.chFenced m (channelOf o) then s
  else
    let s := (s.cnt p Cn.MEM_SCRUB_LINES).cnt p Cn.MEM_RD_BYTES 64
    if result = 0 then s
    else if result = 1 then
      let s := s.upset 0 (.hbmCe o)
      let key := m * 2 ^ 26 + rowOf o
      let l := NMap.get [] s.hbm.rowPasses key
      let l := if pass ∈ l then l else l ++ [pass]
      let s := { s with hbm := { s.hbm with rowPasses := NMap.put key l s.hbm.rowPasses } }
      if l.length ≥ 3 then
        { s with hbm := { s.hbm with rowPasses := Map.del key s.hbm.rowPasses } }.rowRetire o
      else s
    else s.upset 0 (.hbmUe o)

/-- Whether an HBM frame is quarantined (R274). -/
def State.frameHeld (s : State) (f : Nat) : Bool := s.xlt.any (fun x => x.2.quarantined.any (fun e => decide (e.2 = f + 1)))

/-- SCRUB_READ (R262, R275, R276): a test of stack `m` reaches its next line. `preempted` when a normal request comes first. A test that has been
preempted 16 times in a row runs no more before it is abandoned, an abandoned one waits for its rescheduling, and a suspended one for its
resumption (R496). -/
def execScrubRead (m : Nat) (test : MemTest) (preempted : Bool) (s : State) : Host.Outcome State Fault Refusal :=
  let p := pMem m
  let pos := NMap.get 0 s.hbm.scrubPass m
  let o := m * 2 ^ 36 + pos % stackLines * 64
  let ch := match test with
    | .scrub _ => channelOf o
    | .compare a => channelOf a
    | .pattern a => channelOf a
    | .spare c => c % 32
  let x := s.chan m ch
  .next (if m ≥ 8 ∨ s.stackOff m = true ∨ s.flag R.HDR_CTRL_SELFTEST_ALLOW p = false ∨ s.quiescing p = true ∨ s.chHeld m ch = true
        ∨ s.testBarred p = true ∨ x.abandoned = true ∨ (s.testRec 1 p).suspended = true ∨ x.preempts ≥ 16 then s
    else if preempted then (s.setChan m ch { x with preempts := x.preempts + 1 }).cnt p Cn.MEM_TEST_PREEMPT
    else
      let s := s.setChan m ch { x with preempts := 0 }
      match test with
      | .scrub result => if s.flag R.MEM_SCRUB_CTRL_ENABLE p then s.scrubLine m result else s
      | .compare a => if stackOf a = m ∧ NMap.get 0 s.hbm.rows (m * 2 ^ 26 + rowOf a) ≠ 0 then s.cnt p Cn.MEM_RD_BYTES 128 else s
      | .pattern a =>
        if stackOf a = m ∧ s.frameHeld (a / 2 ^ 21) = true then
          (((s.setWcb m ((s.wcb m).filter (fun e => decide (e.line ≠ a / 64)))).lose (aHbm (a / 64 * 64)) (aHbm (a / 64 * 64 + 64))).cnt p
            Cn.MEM_WR_BYTES 64).cnt p Cn.MEM_RD_BYTES 64
        else s
      | .spare _ =>
        if s.rg R.MEM_RETIRE_STATUS_ROWS p < 4096 then (s.cnt p Cn.MEM_WR_BYTES 64).cnt p Cn.MEM_RD_BYTES 64 else s)

/-- MEM_TEST_ABANDON (R276): the test on a channel has been preempted 16 times in a row. It awaits its rescheduling (R496). -/
def execMemTestAbandon (m ch : Nat) (s : State) : Host.Outcome State Fault Refusal :=
  let x := s.chan m ch
  .next (if x.preempts < 16 then s
    else ((s.setChan m ch { x with preempts := 0, abandoned := true }).testAbandoned 1 (pMem m)).cnt (pMem m) Cn.MEM_TEST_ABANDON)

/-! ### Traffic generator and margining (R277, R278, R280) -/

/-- TG_GO (R277, R280): function `req` writes TG_CTRL with GO = 1 on the page of channel `ch` of stack `m`. A reserved PATTERN or
MODE starts nothing. -/
def execTgGo (req m ch pattern mode : Nat) (s : State) : Host.Outcome State Fault Refusal :=
  let p := pMch m ch
  .next (if s.mayWrite req p = false ∨ pattern > 3 ∨ mode > 2 then s
    else if s.flag R.MCH_TG_CTRL_GO p then s
    else
      let s := (s.wr R.MCH_TG_CTRL_PATTERN p pattern).wr R.MCH_TG_CTRL_MODE p mode
      let out := !(s.enabled p) && (s.quiesced (pMem m) || !(bit (s.rg R.TOP_MEM_PORT_PRESENT_MEM pTop) m))
      if out = false then s.wr R.MCH_TG_RESULT_STATUS p St.TEST_BUSY
      else
        let s := ((s.wr R.MCH_TG_CTRL_GO p 1).wr R.MCH_TG_RESULT_STATUS p 0).wr R.MCH_TG_RESULT_ERRORS p 0
        let s := (s.wr R.MCH_TG_FAIL_ADDR_ADDR p 0).wr R.MCH_TG_FAIL_BITS_BITS p 0
        s.setChan m ch { s.chan m ch with tgOn := true, tgStop := false })

/-- TG_STOP (R280): 0 is written to TG_CTRL.GO; the run stops at the next line. -/
def execTgStop (req m ch : Nat) (s : State) : Host.Outcome State Fault Refusal :=
  .next (if s.mayWrite req (pMch m ch) = true ∧ (s.chan m ch).tgOn = true then
      s.setChan m ch { s.chan m ch with tgStop := true }
    else s)

/-- The contents that a run of the generator leaves in a line: TG_SEED repeated for PATTERN 3; free bytes for the patterns of which the spec
gives no words (log entry 129). -/
def State.tgFill (s : State) (p o : Nat) : State :=
  let a := aHbm (o / 64 * 64)
  if s.rg R.MCH_TG_CTRL_PATTERN p = 3 then
    (s.wbs a ((List.range 8).flatMap (fun _ => leBytes 8 (s.rg R.MCH_TG_SEED_SEED p)))).setPoison a false
  else s.lose a (a + 64)

/-- The words of a line that miscompare with TG_SEED repeated. -/
def State.tgMiss (s : State) (p o : Nat) : Nat :=
  ((List.range 8).filter (fun i => decide (s.rle (aHbm (o / 64 * 64) + 8 * i) 8 ≠ s.rg R.MCH_TG_SEED_SEED p))).length

/-- The accesses of a run of the generator, `n` passes over a line, count as any of the stack's (R271, R284): a run reads, writes, or does
both. -/
def State.tgCount (s : State) (m mode n o : Nat) : State :=
  let s := if mode = 0 then s else (s.countHbmN o n false).cnt (pMem m) Cn.MEM_RD_BYTES (64 * n)
  if mode = 1 then s else (s.countHbmN o n true).cnt (pMem m) Cn.MEM_WR_BYTES (64 * n)

/-- TG_DONE (R277, R280): the run ends. Its lines are the HBM offsets of the channel that the controller's mapping puts in the row range:
a run that writes replaces what they held. It made TG_COUNT.PASSES passes, or, where it was stopped or ran until stopped, as many as `run`
says. The miscompares are those of the memory with TG_SEED repeated, where a run of PATTERN 3 only reads, once in each pass, and those that the
channel itself causes (`errors`). -/
def execTgDone (m ch errors addr bitsX : Nat) (run : TgRun) (s : State) : Host.Outcome State Fault Refusal :=
  let p := pMch m ch
  let x := s.chan m ch
  .next (if x.tgOn = false then s
    else
      let mode := s.rg R.MCH_TG_CTRL_MODE p
      let mine := run.lines.filter (fun o => decide (stackOf o = m) && decide (channelOf o = ch))
      let passes := if x.tgStop = true ∨ s.rg R.MCH_TG_COUNT_PASSES p = 0 then run.passes else s.rg R.MCH_TG_COUNT_PASSES p
      let miss := if mode = 1 ∧ s.rg R.MCH_TG_CTRL_PATTERN p = 3 then passes * (mine.map (s.tgMiss p)).sum else 0
      let errors := errors + miss
      let s := mine.foldl (fun s o => s.tgCount m mode passes o) s
      let s := if mode = 1 then s else mine.foldl (fun s o => s.tgFill p o) s
      let early := x.tgStop && decide (s.rg R.MCH_TG_COUNT_PASSES p ≠ 0)
      let s := (s.wr R.MCH_TG_CTRL_GO p 0).wr R.MCH_TG_RESULT_STATUS p (if early then St.ABORTED else St.OK)
      let s := if mode = 0 then s
        else ((s.wr R.MCH_TG_RESULT_ERRORS p (min (2 ^ 48 - 1) errors)).wr R.MCH_TG_FAIL_ADDR_ADDR p addr).wr R.MCH_TG_FAIL_BITS_BITS p bitsX
      s.setChan m ch { x with tgOn := false, tgStop := false })

/-- MEM_MARGIN_GO (R278, R279): function `req` writes MARGIN_CTRL with GO = 1 on the page of stack `m`. -/
def execMemMarginGo (req m mask param : Nat) (s : State) : Host.Outcome State Fault Refusal :=
  let p := pMem m
  .next (if s.mayWrite req p = false ∨ s.flag R.MEM_MARGIN_CTRL_GO p = true then s
    else
      let s := (s.wr R.MEM_MARGIN_CTRL_CH_MASK p mask).wr R.MEM_MARGIN_CTRL_PARAM p param
      let ok := s.quiesced p && (onesBelow 32 mask).all (fun ch => !(s.enabled (pMch m ch)))
      if ok then (s.wr R.MEM_MARGIN_CTRL_GO p 1).wr R.MEM_MARGIN_RESULT_DONE p 0
      else (s.wr R.MEM_MARGIN_RESULT_STATUS p St.TEST_BUSY).wr R.MEM_MARGIN_RESULT_DONE p 1)

/-- MEM_MARGIN_DONE (R278): the passing range, the trained settings being restored. -/
def execMemMarginDone (m low high : Nat) (s : State) : Host.Outcome State Fault Refusal :=
  let p := pMem m
  .next (if s.flag R.MEM_MARGIN_CTRL_GO p = false then s
    else
      let s := ((s.wr R.MEM_MARGIN_CTRL_GO p 0).wr R.MEM_MARGIN_RESULT_DONE p 1).wr R.MEM_MARGIN_RESULT_STATUS p St.OK
      (s.wr R.MEM_MARGIN_RESULT_LOW p low).wr R.MEM_MARGIN_RESULT_HIGH p high)

/-! ### The far tier (R266, R267) -/

/-- FAR_READ (R267): `n` bytes within the line at far-tier offset `addr`. -/
def execFarRead (addr n : Nat) (ups : List Upset) (s : State) : Host.Outcome State Fault Refusal :=
  let s1 := s.upsets 0 ups
  let st := if s.farUp addr = false then St.FAR_DOWN else if rdTimeout ups then St.FAR_TIMEOUT else St.OK
  let (s2, bs, bad) := s1.readLine (aFar addr) (chunk addr n)
  .next (s1.upsetsAfter ({ s2 with rdata := marked bs bad }.memDone st) ups)

/-- FAR_WRITE (R267): bytes within the line at far-tier offset `addr`. -/
def execFarWrite (addr : Nat) (bytes : List Nat) (ups : List Upset) (s : State) : Host.Outcome State Fault Refusal :=
  let s1 := s.upsets 0 ups
  let (st, s2) := s1.writeLine (aFar addr) ((bytes.take (chunk addr bytes.length)).map some) false
  .next (s1.upsetsAfter (s2.memDone (if st = St.OK ∧ wrTimeout ups = true then St.FAR_TIMEOUT else st)) ups)

/-- FAR_TIMEOUT (R267): an access of the line at far-tier offset `addr` has had no completion within TIMEOUT. A read delivers a poisoned
line; whether a write took effect is unknown. -/
def execFarTimeout (addr : Nat) (write : Bool) (s : State) : Host.Outcome State Fault Refusal :=
  let s := (s.cnt pFar Cn.FAR_FAR_FAIL).raiseAt pFar Er.FAR_FAR_TIMEOUT 0 false true addr
  let a := aFar (addr / 64 * 64)
  .next ((if write then s.lose a (a + 64) else { s with rdata := marked (s.rbs a 64) true }).memDone St.FAR_TIMEOUT)

/-- FAR_LINK_DOWN (R267): the link of expander `d` goes down; it retrains after 1 ms. -/
def execFarLinkDown (d : Nat) (s : State) : Host.Outcome State Fault Refusal :=
  let up := s.rg R.FAR_FAR_STATUS_UP pFar
  .next (if bit up d then
      { s.wr R.FAR_FAR_STATUS_UP pFar (clrBit up d) with hbm := { s.hbm with farWait := NMap.put d 1 s.hbm.farWait } }.farDegraded
    else s)

/-- FAR_LINK_RETRAIN (R265, R267): the wait of a link that is down is over; a failure doubles it, up to 1 s, and a link may come up at
32 GT/s or at half width. -/
def execFarLinkRetrain (d : Nat) (how : FarTraining) (s : State) : Host.Outcome State Fault Refusal :=
  let up := s.rg R.FAR_FAR_STATUS_UP pFar
  .next (if d ≥ 4 ∨ bit up d = true ∨ bit (s.rg R.FAR_FAR_STATUS_PRESENT pFar) d = false then s
    else match how with
    | .up low =>
      { s.wr R.FAR_FAR_STATUS_UP pFar (setBit up d) with hbm := { s.hbm with
          farWait := Map.del d s.hbm.farWait
          farLow := if low then setBit s.hbm.farLow d else clrBit s.hbm.farLow d } }.farDegraded
    | .failed => { s with hbm := { s.hbm with farWait := NMap.put d (min 1000 (2 * NMap.get 1 s.hbm.farWait d)) s.hbm.farWait } })

/-- FAR_DEV_EVENT (R267): the Keeper has read an expander's event record about a far-tier frame. -/
def execFarDevEvent (frame : Nat) (s : State) : Host.Outcome State Fault Refusal :=
  .next (s.raise pFar Er.FAR_FAR_DEV_EVENT frame)

end Sys2Proof.Machine
end

