-- ==== Sys2Proof/Machine/Header.lean ====
section
/-!
DEFINITION. The common page header (R12–R23): CTRL, error injection and clearing, counters, the configuration digest (R609),
and the events of the clock domains (R47, R52).
-/

namespace Sys2Proof.Machine

/-! ### Quiescing (R13, R14, R167, R199, R396) -/

/-- The test state of a core's arrays: every run under way is given up without count, and shows in ABANDONED (R13, R127, R495). A test
abandoned before still awaits its rescheduling. -/
def State.katDrop (s : State) (c : Nat) : State :=
  let k := (s.core c).kat
  if k.todo = 0 ∧ k.active = 0 then s
  else
    let s := s.wr R.CORE_KAT_STATUS_ABANDONED (pCore c) (s.rg R.CORE_KAT_STATUS_ABANDONED (pCore c) ||| k.todo)
    (s.setKat c { k with todo := 0, active := 0, failedOnce := 0 }).wr R.CORE_KAT_CTRL_REQ (pCore c) 0

/-- The in-service tests of a unit are given up without count (R13, R318, R495). -/
def State.testsDrop (s : State) (p : Nat) : State :=
  match blkOf p with
  | 0x60 => s.katDrop (p - 0x200)
  | 0x30 => s.scanEnd (p - 0x020) true
  | 0x21 =>
    let i := p - 0x100
    s.setChan (i / 32) (i % 32) { s.chan (i / 32) (i % 32) with preempts := 0 }
  | 0x20 => (List.range 32).foldl (fun s ch => s.setChan (p - 0x010) ch { s.chan (p - 0x010) ch with preempts := 0 }) s
  | _ => s

/-- QUIESCE becomes 1: tests are given up, a waiting SIGWAIT or DMAQ of a core counts as not issued, what was issued before it completing (R167),
and an AST or SQUANT at work is preempted where it is the newest instruction issued (R152; log entry 120). -/
def State.quiesceSet (s : State) (p : Nat) : State :=
  let s := (s.wr R.HDR_CTRL_QUIESCE p 1).testsDrop p
  match blkOf p with
  | 0x20 => s.wcbDrainAll (p - 0x010)
  | 0x60 =>
    let c := p - 0x200
    (match (s.core c).wait with
    | some (.fence _) => s
    | some _ => ((s.setCore c { s.core c with wait := none }).wr R.CORE_RUN_STATUS_SIG_WAIT p 0).wr R.CORE_RUN_STATUS_DMA_WAIT p 0
    | none => if s.runState c = 1 then s.unissue c else s)
  | _ => s

/-- The kernel of a quiesced core goes on (R170): an MMA that its context holds goes on too, its feeders and weight registers filled again
(R120, R169). -/
def State.coreResume (s : State) (c : Nat) : State :=
  let s := s.setRun c 1
  match (s.core c).mma with
  | none => s
  | some _ => (((s.feedersFill c).wr R.CORE_RUN_STATUS_MMA_ACTIVE (pCore c) 1).busyShow c).katShow c

/-- QUIESCE becomes 0: the unit accepts work, a test that is due on an array starts before its next use (R123), and a quiesced kernel goes on
(R170) unless its core is disabled (R14). -/
def State.quiesceClear (s : State) (p : Nat) : State :=
  let s := (s.wr R.HDR_CTRL_QUIESCE p 0).wr R.HDR_STATUS_QUIESCED p 0
  if blkOf p = 0x60 then
    let s := s.katDue (p - 0x200)
    if s.runState (p - 0x200) = 2 ∧ s.enabled p = true then s.coreResume (p - 0x200) else s
  else s

/-- Whether a unit has drained: no work of it is in progress (R13, R121, R199, R396). -/
def State.drained (s : State) (p : Nat) : Bool :=
  match blkOf p with
  | 0x60 =>
    let c := p - 0x200
    let x := s.core c
    !x.atWork && (s.eng c).all.isEmpty && x.wait.isNone && x.ended.isNone
      && decide (NMap.get 0 s.coll.inUse c = 0) && decide (s.runState c ≤ 2)
  | 0x58 => (s.eng (engCluster (p - 0x040))).running.isEmpty
  | 0x40 => !(s.collRunning (p % 256))
  | 0x20 => (s.wcb (p - 0x010)).isEmpty
  | 0x51 => (s.cmdsOf (p % 256)).isEmpty
  | 0x50 => (s.cmdsOf (p % 256)).all (fun e => !e.2.started || e.2.result.isSome)
  | 0x32 => s.net.flows.all (fun e => decide (e.2.fn ≠ p % 256) || e.2.sent.isEmpty)
  | _ => true

/-- What follows when ENABLE of a unit becomes 0. -/
def State.unitOff (s : State) (p : Nat) : State := if blkOf p = 0x30 then s.portDisable (p - 0x020) else s

/-- ENABLE of a unit becomes 0. -/
def State.enableOff (s : State) (p : Nat) : State := (s.wr R.HDR_CTRL_ENABLE p 0).unitOff p

/-- QUIESCE commands of a function whose partition has quiesced complete (R423). -/
def State.quiesceCheck (s : State) (fn : Nat) : State :=
  let l := NMap.get [] s.host.quiesce fn
  let done := ((s.coresOf fn).map pCore ++ [pCol fn]).all s.quiesced
  if l = [] ∨ done = false then s
  else
    let s := l.foldl (fun s e => s.cmdResult e.1 e.2 St.OK) s
    { s with host := { s.host with quiesce := Map.del fn s.host.quiesce } }

/-- QUIESCED becomes 1 once the unit has drained; a disable that waited for it takes effect, and the QUIESCE that the instance
had set for it ends. -/
def State.quiesceDone (s : State) (p : Nat) : State :=
  if s.quiescing p = false ∨ s.quiesced p = true ∨ s.drained p = false then s
  else
    let s := s.wr R.HDR_STATUS_QUIESCED p 1
    let s := if blkOf p = 0x60 ∧ s.runState (p - 0x200) = 1 then
        (s.setRun (p - 0x200) 2).cnt p Cn.CORE_PREEMPTIONS
      else s
    let s := match s.disabling.find? (fun e => decide (e.1 = p)) with
      | some (_, soft) =>
        let s := { s with disabling := Map.del p s.disabling }
        (if soft then s else s.wr R.HDR_CTRL_QUIESCE p 0).enableOff p
      | none => s
    s.quiesceCheck (s.owner p)

/-! ### CTRL (R13, R14) -/

/-- Whether a function's write to CTRL bits other than RESET_REQ takes effect. -/
def State.ctrlTakes (s : State) (fn p : Nat) : Bool := s.mayWrite fn p && !(s.fencedP p)

/-- Requests that a channel held while ENABLE was 0 go on. -/
def State.unitOn (s : State) (p : Nat) : State :=
  match blkOf p with
  | 0x30 => s.portEnable (p - 0x020)
  | 0x20 => s.memResume (p - 0x010)
  | 0x21 => s.chResume ((p - 0x100) / 32) ((p - 0x100) % 32)
  | _ => s

/-- ENABLE is written 1: a disable that waits is cancelled; otherwise a unit that was out of service returns. -/
def State.enableSet (s : State) (p : Nat) : State :=
  match s.disabling.find? (fun e => decide (e.1 = p)) with
  | some (_, soft) =>
    let s := { s with disabling := Map.del p s.disabling }
    if soft then s else s.quiesceClear p
  | none =>
    if s.enabled p then s
    else
      let s := s.wr R.HDR_CTRL_ENABLE p 1
      let s := if s.quiescing p then s else s.quiesceClear p
      s.unitOn p

/-- ENABLE is written 0: at once with the unit quiesced, else once it has drained. -/
def State.enableClear (s : State) (p : Nat) : State :=
  if s.enabled p = false ∨ (s.disabling.any (fun e => decide (e.1 = p))) = true then s
  else if s.quiesced p then s.enableOff p
  else
    let s := { s with disabling := NMap.put p (s.quiescing p) s.disabling }
    s.quiesceSet p

/-- CTRL_ENABLE_SET (R13, R14). -/
def execCtrlEnableSet (fn page : Nat) (s : State) : Host.Outcome State Fault Refusal := .next <| if s.ctrlTakes fn page then s.enableSet page else s

/-- CTRL_ENABLE_CLEAR (R13, R14). -/
def execCtrlEnableClear (fn page : Nat) (s : State) : Host.Outcome State Fault Refusal := .next <| if s.ctrlTakes fn page then s.enableClear page else s

/-- Software sets or releases QUIESCE (R13). While a disable waits, the QUIESCE of the instance stays; whether software has set it too is
remembered. -/
def State.quiesceWrite (s : State) (p : Nat) (set : Bool) : State :=
  if s.disabling.any (fun e => decide (e.1 = p)) then { s with disabling := NMap.put p set s.disabling }
  else if set then (if s.quiescing p then s else s.quiesceSet p)
  else s.quiesceClear p

/-- CTRL_QUIESCE (R13). -/
def execCtrlQuiesce (fn page : Nat) (set : Bool) (s : State) : Host.Outcome State Fault Refusal :=
  .next <| if s.ctrlTakes fn page = false then s else s.quiesceWrite page set

/-- SUSPENDED counts the suspended pairs (R497). -/
def State.suspendedReg (s : State) : State :=
  s.wr R.KPR_TEST_CTRL_SUSPENDED pKpr (s.recov.tests.filter (fun e => e.2.suspended)).length

/-- Whether an abandoned test of a unit may start again now (R124, R276, R318). -/
def State.testMay (s : State) (test page : Nat) : Bool :=
  if test = 0 then decide (blkOf page = 0x60) && s.katAllowed (page - 0x200) && decide ((s.core (page - 0x200)).kat.redo ≠ 0)
  else s.flag R.HDR_CTRL_SELFTEST_ALLOW page && !(s.quiescing page) && !(s.testBarred page)

/-- An abandoned test of a unit runs again, where one may start: an array's from the first pattern that KAT_CTRL names (log entry 119), a
stack's on every channel where it was abandoned, a lane's margin scan from its start (log entry 129). -/
def State.testAgain (s : State) (test page : Nat) : State :=
  match test, blkOf page with
  | 0, 0x60 =>
    let c := page - 0x200
    let k := (s.core c).kat
    if k.redo = 0 ∨ s.katAllowed c = false then s else s.katStart c (s.rg R.CORE_KAT_CTRL_PATTERN page) k.redo false
  | 1, 0x20 =>
    let m := page - 0x010
    (List.range 32).foldl (fun s ch => s.setChan m ch { s.chan m ch with abandoned := false }) s
  | 2, 0x30 => s.scanStart (page - 0x020) (s.rg R.LNK_MARGIN_CTRL_LANE page)
  | _, _ => s

/-- Suspended tests that `sel` picks resume (R496). -/
def State.testsResume (s : State) (sel : Nat × Nat → Bool) : State :=
  let l := s.recov.tests.filter (fun e => sel e.1 && e.2.suspended)
  (l.foldl (fun s e => (s.setTestRec e.1.1 e.1.2 { e.2 with suspended := false, consecutive := 0 }).testAgain e.1.1 e.1.2) s).suspendedReg

/-- SELFTEST_ALLOW is written: 0 abandons the tests under way without count, and 1 where it was 0 resumes suspended ones (R13, R496)
and starts those that a failed weight register has scheduled (R123). -/
def State.selftestWrite (s : State) (page : Nat) (set : Bool) : State :=
  let old := s.flag R.HDR_CTRL_SELFTEST_ALLOW page
  let s := s.wrB R.HDR_CTRL_SELFTEST_ALLOW page set
  if set = false then s.testsDrop page
  else if old = false then
    let s := s.testsResume (fun k => decide (k.2 = page))
    if blkOf page = 0x60 then s.katDue (page - 0x200) else s
  else s

/-- CTRL_SELFTEST_ALLOW (R13, R496). -/
def execCtrlSelftestAllow (fn page : Nat) (set : Bool) (s : State) : Host.Outcome State Fault Refusal :=
  .next <| if s.ctrlTakes fn page = false then s else s.selftestWrite page set

/-- QUIESCE_DONE (R13). -/
def execQuiesceDone (page : Nat) (s : State) : Host.Outcome State Fault Refusal := .next <| s.quiesceDone page

/-! ### Error sources (R15, R16) -/

/-- The sources that a block type's chapter defines. -/
def srcMask (blk : Nat) : Nat :=
  match blk with
  | 0x60 => 0x1F3F3F
  | 0x58 => 0xF
  | 0x40 => 0xF00003F
  | 0x20 => 0x1FF
  | 0x22 => 0xF
  | 0x30 => 0x7FFF
  | 0x32 => 0x7
  | 0x31 => 0x1F
  | 0x10 => 0xF0000
  | 0x50 => 0x30000FF
  | 0x12 => 0xFFFF
  | 0x13 => 0x3
  | 0x11 => 0xFF
  | 0x14 => 0x7FF
  | 0x15 => 0x1F
  | 0x16 => 0x3
  | 0x53 => 0x7
  | 0x59 => 0x3
  | _ => 0

/-- ERR_STATUS is written: the bits of `mask` clear, but a source recorded in the same cycle (`coincident`) stays and is reported. -/
def State.errClear (s : State) (page mask coincident : Nat) : State :=
  let old := s.rg R.HDR_ERR_STATUS_ERR page
  let s := s.wr R.HDR_ERR_STATUS_ERR page (old - (old &&& mask))
  (onesBelow 32 (coincident &&& srcMask (blkOf page))).foldl (fun s n => s.raise page n) s

/-- ERR_STATUS_CLEAR (R16). -/
def execErrStatusClear (fn page mask coincident : Nat) (s : State) : Host.Outcome State Fault Refusal :=
  .next (if s.mayWrite fn page then s.errClear page mask coincident else s)

/-- ERR_INJECT is written: each source is recorded and reported with its record marked injected, and its recovery action, the
notification and dump, follows (R15–R17, R484; log entry 112). -/
def State.errInject (s : State) (page mask : Nat) : State :=
  (onesBelow 32 (mask &&& srcMask (blkOf page))).foldl (fun s n => s.raiseAt page n 0 true true 0) s

/-- ERR_INJECT (R15). -/
def execErrInject (fn page mask : Nat) (s : State) : Host.Outcome State Fault Refusal :=
  .next (if s.mayWrite fn page then s.errInject page mask else s)

/-! ### Counters (R20) -/

/-- CNT_CLEAR (R20): CNT_SELn.CLEAR = 1 is written; an increment in the same cycle leaves 1. -/
def execCntClear (fn page n : Nat) (coincident : Bool) (s : State) : Host.Outcome State Fault Refusal :=
  .next <|
  if s.mayWrite fn page = true ∧ n < 4 then s.wrB (cntCount n) page coincident else s

/-! ### The configuration digest (R23, R609) -/

/-- A configuration-class register: offset, width in bytes, and the counted fields with their lowest bits. -/
def cfgRegs (blk : Nat) : List (Nat × Nat × List (Fld × Nat)) :=
  match blk with
  | 0x10 =>
    [(0x108, 8, [(R.TOP_CLU_PRESENT_PRESENT, 0)])]
      ++ (List.range 8).map (fun m => (0x110 + 4 * m, 4, [(R.TOP_QUAD_PRESENT_PRESENT m, 0)]))
      ++ [(0x130, 4, [(R.TOP_MEM_PORT_PRESENT_MEM, 0), (R.TOP_MEM_PORT_PRESENT_PORT, 8)]), (0x138, 4, [(R.TOP_ARRAY_FENCED_COUNT, 0)])]
  | 0x11 =>
    [(0x300, 4, [(R.KPR_DM_CFG_DIAM, 0)]),
     (0x308, 8, [(R.KPR_MANIFEST_EXTRA_RNG_TABLE_ID, 0), (R.KPR_MANIFEST_EXTRA_FMT_DEFAULT, 32)])]
  | 0x30 =>
    [(0x140, 8, [(R.LNK_PEER_EXPECT_MADDR, 0), (R.LNK_PEER_EXPECT_ROLE, 32), (R.LNK_PEER_EXPECT_MODE, 62)]),
     (0x148, 8, [(R.LNK_TIMERS_TRAIN_TO, 0), (R.LNK_TIMERS_CREDIT_TO, 16), (R.LNK_TIMERS_REPLAY_TO, 32)]),
     (0x150, 4, [(R.LNK_VC_CREDIT_VC0_RSV, 0), (R.LNK_VC_CREDIT_VC1_MAX, 8), (R.LNK_VC_CREDIT_VC2_MAX, 16),
       (R.LNK_VC_CREDIT_VC3_MAX, 24)]),
     (0x154, 4, [(R.LNK_VC_WEIGHT_W1, 0), (R.LNK_VC_WEIGHT_W2, 8), (R.LNK_VC_WEIGHT_W3, 16)]),
     (0x158, 4, [(R.LNK_QUAR_CTRL_WINDOW, 0), (R.LNK_QUAR_CTRL_THRESH, 16)]),
     (0x15C, 4, [(R.LNK_RETRAIN_MIN, 0)]),
     (0x160, 4, [(R.LNK_KEY_CTRL_LIFE, 0), (R.LNK_KEY_CTRL_GRACE, 8)])]
  | 0x31 =>
    [(0x108, 8, [(R.RTE_AXIS_LEN_M1, 0), (R.RTE_AXIS_WRAP, 56)]), (0x170, 4, [(R.RTE_SDS_OFS_OFS, 0)]),
     (0x178, 4, [(R.RTE_SDS_OFS1_OFS, 0)])]
  | 0x40 =>
    [(0x164, 4, [(R.COL_VERDICT_GID_GID, 0)]), (0x800, 4, [(R.COL_STEP_CTRL_HEAD_AUTO, 2)]),
     (0x860, 4, [(R.COL_POLICY_ACTIONS, 0)]), (0x864, 4, [(R.COL_OVF_LIMIT_LIMIT, 0)]), (0x868, 4, [(R.COL_SAT_LIMIT_LIMIT, 0)]),
     (0x86C, 4, [(R.COL_LOSS_LIMIT_LIMIT, 0)])]
  | _ => []

/-- The 32-bit ID register of a page. -/
def State.idReg (s : State) (p : Nat) : Nat :=
  s.rg R.HDR_ID_VERSION p + s.rg R.HDR_ID_INSTANCE p * 2 ^ 8 + s.rg R.HDR_ID_BLOCK_TYPE p * 2 ^ 16

/-- The byte string of a page (R609). -/
def State.cfgString (s : State) (p : Nat) : List Nat :=
  let regs := (cfgRegs (blkOf p)).flatMap (fun r =>
    leBytes 2 r.1 ++ leBytes 2 r.2.1 ++ leBytes r.2.1 ((r.2.2.map (fun f => s.rg f.1 p * 2 ^ f.2)).foldl (· + ·) 0))
  let grp := if blkOf p = 0x40 then
      let r := s.fnRes (p % 256)
      leBytes 2 r.commCount ++ (List.range r.commCount).flatMap (fun k => leBytes 32 (s.grpEntry (r.commBase + k)))
    else []
  leBytes 4 (s.idReg p) ++ regs ++ grp

/-- CFG_DIGEST of a page as its registers give it now. -/
def State.cfgDigest (s : State) (p : Nat) : Nat :=
  if cfgRegs (blkOf p) = [] then 0 else ofBytes ((sha384 (s.cfgString p)).take 8)

/-- The page's CFG_DIGEST follows its registers; a change asks for a new daymark (R355). -/
def State.digestUpdate (s : State) (p : Nat) : State :=
  let d := s.cfgDigest p
  if d = s.rg R.HDR_CFG_DIGEST_DIGEST p then s
  else { (s.wr R.HDR_CFG_DIGEST_DIGEST p d) with agree := { s.agree with again := true } }.wr R.TOP_AGREE_STATUS_COMPUTING pTop 1

/-- CFG_DIGEST_UPDATE (R23). -/
def execCfgDigestUpdate (page : Nat) (s : State) : Host.Outcome State Fault Refusal := .next <| s.digestUpdate page

/-! ### Clock domains (R47, R52) -/

/-- TBC_CORRECT (R52): the AON master corrects the copy of every clock domain. -/
def execTbcCorrect (s : State) : Host.Outcome State Fault Refusal :=
  .next <|
  { s with tbcCopies := (List.range 28).map (fun d => (d, s.tbc)) }

/-- RX_CLOCK_STOP (R47): the recovered clock of a port stops. A frame partly written is discarded and counted as a receive error,
and the link goes down. R321 lists no count of receive errors: that CRC_FAIL takes it is the model's choice (DESIGN CHOICE, log entry
130). -/
def execRxClockStop (port : Nat) (partialFrame : Bool) (s : State) : Host.Outcome State Fault Refusal :=
  .next <|
  let s := if partialFrame then s.cnt (pLnk port) Cn.LNK_CRC_FAIL else s
  s.linkLost port

end Sys2Proof.Machine
end

