-- ==== Sys2Proof/Machine/Words.lean ====
section
/-!
DEFINITION. The 64-bit words of the core's instructions (R136–R139, R154): classes, operations and operand forms, each way.
-/

namespace Sys2Proof.Machine

/-- Class, operation and predicate of a word (R136). -/
def wordOf (cls op pred : Nat) (pneg : Bool) (operands : Nat) : Nat :=
  operands + b2n pneg * 2 ^ 48 + pred * 2 ^ 49 + op * 2 ^ 52 + cls * 2 ^ 60

/-- The word of an instruction of form R (R137). -/
def RForm.word (x : RForm) (cls op : Nat) : Nat :=
  wordOf cls op x.pred x.pneg (x.mod + x.c * 2 ^ 28 + x.b * 2 ^ 33 + x.a * 2 ^ 38 + x.d * 2 ^ 43)

/-- The word of an instruction of form I. -/
def IForm.word (x : IForm) (cls op : Nat) : Nat :=
  wordOf cls op x.pred x.pneg (x.imm + x.mod * 2 ^ 32 + x.a * 2 ^ 38 + x.d * 2 ^ 43)

/-- The word of an MMA, the one instruction of form M. -/
def MForm.word (x : MForm) : Nat :=
  wordOf 4 0 x.pred x.pneg (x.rsv + x.n1 * 2 ^ 12 + x.m1 * 2 ^ 20 + x.tbi * 2 ^ 26 + x.tai * 2 ^ 30 + x.kind * 2 ^ 34
    + b2n x.start * 2 ^ 36 + x.bank * 2 ^ 37 + x.tb * 2 ^ 40 + x.ta * 2 ^ 44)

/-- The fields of form R in a word that core `c` issues. -/
def RForm.ofWord (c w : Nat) : RForm :=
  ⟨c, bits w 51 49, bit w 48, bits w 47 43, bits w 42 38, bits w 37 33, bits w 32 28, bits w 27 0, []⟩

/-- The fields of form I. -/
def IForm.ofWord (c w : Nat) : IForm := ⟨c, bits w 51 49, bit w 48, bits w 47 43, bits w 42 38, bits w 37 32, bits w 31 0, []⟩

/-- The fields of form M. -/
def MForm.ofWord (c w : Nat) : MForm :=
  ⟨c, bits w 51 49, bit w 48, bits w 47 44, bits w 43 40, bits w 39 37, bit w 36, bits w 35 34, bits w 33 30, bits w 29 26,
   bits w 25 20, bits w 19 12, bits w 11 0, []⟩

/-- The operations of form R by class and operation (R139, R154). A SQUANT that a core fetches does every block in its step. -/
def opsR : List ((Nat × Nat) × (RForm → Instr)) :=
  [((0x0, 0x00), .nop), ((0x0, 0x01), .halt), ((0x0, 0x02), .brk),
   ((0x1, 0x00), .add), ((0x1, 0x01), .sub), ((0x1, 0x02), .mul), ((0x1, 0x03), .and), ((0x1, 0x04), .or), ((0x1, 0x05), .xor),
   ((0x1, 0x06), .shl), ((0x1, 0x07), .shr), ((0x1, 0x08), .sra), ((0x1, 0x09), .min), ((0x1, 0x0A), .max), ((0x1, 0x0B), .minu),
   ((0x1, 0x0C), .maxu),
   ((0x3, 0x00), .tld), ((0x3, 0x01), .tst), ((0x3, 0x02), .tofs), ((0x3, 0x03), .tdim),
   ((0x5, 0x00), .aclr), ((0x5, 0x01), .amerge), ((0x5, 0x02), .arow), ((0x5, 0x03), .ast), ((0x5, 0x04), .aloss),
   ((0x6, 0x00), .vaddF), ((0x6, 0x01), .vsubF), ((0x6, 0x02), .vmulF), ((0x6, 0x03), .vfmaF), ((0x6, 0x04), .vmaxF),
   ((0x6, 0x05), .vminF), ((0x6, 0x06), .vabsF), ((0x6, 0x07), .vnegF), ((0x6, 0x08), .vdivF), ((0x6, 0x09), .vsqrtF),
   ((0x6, 0x0A), .vrsqF)]
  ++ [((0x6, 0x10), .vaddI), ((0x6, 0x11), .vsubI), ((0x6, 0x12), .vmulI), ((0x6, 0x13), .vand), ((0x6, 0x14), .vor),
   ((0x6, 0x15), .vxor), ((0x6, 0x16), .vshl), ((0x6, 0x17), .vshr), ((0x6, 0x18), .vsra), ((0x6, 0x20), .vcmpeqF),
   ((0x6, 0x21), .vcmpltF), ((0x6, 0x22), .vcmpleF), ((0x6, 0x23), .vcmpeqI), ((0x6, 0x24), .vcmpltI), ((0x6, 0x28), .vsel),
   ((0x6, 0x30), .vredsumF), ((0x6, 0x31), .vredmaxF), ((0x6, 0x32), .vredsumI), ((0x6, 0x38), .vbcast),
   ((0x8, 0x00), .vupd), ((0x9, 0x00), fun x => .squant ⟨x, 2 ^ 64⟩),
   ((0xA, 0x00), .rngld), ((0xA, 0x01), .rngst), ((0xA, 0x02), .rngdraw),
   ((0xB, 0x00), .nwadd), ((0xB, 0x01), .nwclose), ((0xB, 0x02), .nwclr),
   ((0xC, 0x00), .sigwait), ((0xC, 0x01), .sigset), ((0xC, 0x02), .sigadd), ((0xD, 0x00), .dmaq),
   ((0xE, 0x02), .vld), ((0xE, 0x03), .vst), ((0xE, 0x04), .vldr), ((0xE, 0x05), .vstr)]

/-- The operations of form I. -/
def opsI : List ((Nat × Nat) × (IForm → Instr)) :=
  [((0x0, 0x03), .fence), ((0x0, 0x04), .csrr),
   ((0x1, 0x10), .addi), ((0x1, 0x11), .subi), ((0x1, 0x12), .muli), ((0x1, 0x13), .andi), ((0x1, 0x14), .ori), ((0x1, 0x15), .xori),
   ((0x1, 0x16), .shli), ((0x1, 0x17), .shri), ((0x1, 0x18), .srai), ((0x1, 0x19), .mini), ((0x1, 0x1A), .maxi), ((0x1, 0x1B), .minui),
   ((0x1, 0x1C), .maxui), ((0x1, 0x20), .li), ((0x1, 0x21), .lui),
   ((0x2, 0x00), .beq), ((0x2, 0x01), .bne), ((0x2, 0x02), .blt), ((0x2, 0x03), .bge), ((0x2, 0x04), .bltu), ((0x2, 0x05), .bgeu),
   ((0x2, 0x06), .jmp), ((0x7, 0x00), .vcvt), ((0xE, 0x00), .sld), ((0xE, 0x01), .sst)]

/-- The instruction that a word spells for core `c`: none where its class and operation are not listed (R138). An MMA that a core fetches
enters every slice in its step. -/
def decodeInstr (c w : Nat) : Option Instr :=
  let key := (bits w 63 60, bits w 59 52)
  if key = (4, 0) then some (.mma ⟨MForm.ofWord c w, 2 ^ 64⟩)
  else
    match opsR.find? (fun e => decide (e.1 = key)) with
    | some (_, mk) => some (mk (RForm.ofWord c w))
    | none => (opsI.find? (fun e => decide (e.1 = key))).map (fun e => e.2 (IForm.ofWord c w))

end Sys2Proof.Machine
end

