-- ==== Sys2Proof/Machine/Context.lean ====
section
/-!
DEFINITION. The context image of a core and its save and restore (R169, R170).
-/

namespace Sys2Proof.Machine

/-- How a context transfer reaches memory: for the function whose quad the core is in. -/
def State.ctxVia (s : State) (c : Nat) : Via := ⟨c, s.coreFn c, false⟩

/-- Where the image of the transfer in progress lies: at CTX_BASE as it stood when the transfer was commanded (log entry 123). -/
def State.ctxBase (s : State) (c : Nat) : Nat :=
  match (s.core c).ctx with
  | some r => r.base
  | none => s.rg R.CORE_CTX_BASE_BASE (pCore c) * 4096

/-- The header bytes (R169): version, VALID, MMA_ACTIVE, BANK_MASK, PC, IDs and the TBC. -/
def State.ctxHeader (s : State) (c : Nat) (valid : Bool) : List Nat :=
  let k := s.core c
  leBytes 8 (1 + b2n valid * 256 + b2n k.mma.isSome * 512 + k.dirtyBanks % 256 * 2 ^ 16) ++ leBytes 8 (s.pc c) ++ leBytes 2 k.layer
    ++ leBytes 2 k.op ++ leBytes 4 0 ++ leBytes 8 s.tbc ++ List.replicate 32 0

/-- The MMA progress of an image (R120, R169): instruction word, fold pass, complex pass, slice and row group. Every row group of a slice is
done at a slice boundary, so the last is 0. R169 gives no offsets: that the five follow each other as 8 bytes and 4 times 4, with the
groups of one fold pass in the next 4, is a DESIGN CHOICE, log entry 123. -/
def MmaRun.image (r : MmaRun) : List Nat :=
  leBytes 8 (MForm.word r.x) ++ leBytes 4 (r.done / r.slices % r.folds) ++ leBytes 4 (r.done / r.stride) ++ leBytes 4 (r.done % r.slices)
    ++ leBytes 4 0 ++ leBytes 4 r.per ++ List.replicate 36 0

/-- The bytes of one norm watch slot: the EWA image, MAX, FLAGS and the count. -/
def NwSlot.image (w : NwSlot) : List Nat :=
  leBytes 16 w.ewa.image ++ leBytes 4 w.max ++ leBytes 4 (b2n w.nonfin + b2n w.ewa.loss * 4) ++ leBytes 8 w.count

/-- The slot of 32 bytes. -/
def NwSlot.ofImage (bs : List Nat) : NwSlot :=
  ⟨Ewa.ofImage (ofBytes (bs.take 16)), ofBytes ((bs.drop 16).take 4), bit (ofBytes ((bs.drop 20).take 4)) 0,
   ofBytes ((bs.drop 24).take 8)⟩

/-- The image from offset 0x40 to the banks. -/
def State.ctxBody (s : State) (c : Nat) : List Nat :=
  let k := s.core c
  (match k.mma with
    | some r => r.image
    | none => List.replicate 64 0)
  ++ (List.range 32).flatMap (fun i => leBytes 8 (k.rdS i))
  ++ (List.range 8).flatMap (fun i => leBytes 8 (k.rdP i))
  ++ leBytes 4 (s.rg R.CORE_SCALE_CTRL_HEAD (pCore c) + s.rg R.CORE_SCALE_CTRL_FORCE_JIT (pCore c) * 256)
  ++ leBytes 4 k.openBlk ++ List.replicate 56 0
  ++ (List.range 16).flatMap (fun i => leBytes 64 (NMap.get 0 k.t i).toNat)
  ++ k.rngImage
  ++ (List.range 32).flatMap (fun i => (k.nwSlot i).image)
  ++ List.replicate 512 0
  ++ (List.range 32).flatMap (fun r => (List.range 64).flatMap (fun i => leBytes 4 (k.rdV r i)))

/-- The image of one bank (R100, R169). -/
def Core.bankImage (k : Core) (b : Nat) : List Nat :=
  (List.range 4096).flatMap (fun i => leBytes 16 (k.rdA b (i / 64) (i % 64)).image)

/-- Write a list of pieces of the image. -/
def State.ctxWrite (s : State) (c : Nat) : List (Nat × List Nat) → Except Nat State
  | [] => .ok s
  | (o, bs) :: l => do
    let s ← s.stN (s.ctxVia c) (s.ctxBase c + o) (bs.map some)
    s.ctxWrite c l

/-- A command of CTX_CMD ends: its status is posted, and CTX_FAIL recorded for any but OK. -/
def State.ctxEnd (s : State) (c status : Nat) : State :=
  let p := pCore c
  let s := (s.wr R.CORE_CTX_CMD_BUSY p 0).wr R.CORE_CTX_RESULT_STATUS p status
  if status = St.OK then s else s.raise p Er.CORE_CTX_FAIL

/-- A transfer is over: the core is again in the STATE it is to have. Where QUIESCE was cleared while the transfer ran, its kernel goes on
now (DESIGN CHOICE, log entry 123). -/
def State.ctxRest (s : State) (c n : Nat) : State :=
  let s := (s.setCore c { s.core c with ctx := none }).setRun c n
  if n = 2 ∧ s.quiescing (pCore c) = false ∧ s.enabled (pCore c) = true then s.coreResume c else s

/-- Whether a CTX_CMD write takes effect at all: the page takes it and no transfer runs. -/
def State.ctxTakes (s : State) (fn c : Nat) : Bool :=
  decide (c < 1024) && s.mayWrite fn (pCore c) && !(s.flag R.CORE_CTX_CMD_BUSY (pCore c))

/-- A transfer begins: STATE is 3 for a save and 4 for a restore, and BUSY is 1. -/
def State.ctxBegin (s : State) (c state : Nat) (r : CtxRun) : State :=
  ((s.setCore c { s.core c with ctx := some r }).setRun c state).wr R.CORE_CTX_CMD_BUSY (pCore c) 1

/-- Everything but VALID of an image is written (R169, R170). -/
def State.ctxSaveAll (s : State) (c : Nat) : Except Nat State :=
  s.ctxWrite c ((0, s.ctxHeader c false) :: (0x40, s.ctxBody c)
    :: (onesBelow 8 (s.core c).dirtyBanks).map (fun b => (0x3000 + 0x10000 * b, (s.core c).bankImage b)))

/-- The version and VALID of an image are checked before anything is loaded (R170). A header whose line is poisoned is not valid: no rule
says so (DESIGN CHOICE, log entry 123). -/
def State.ctxCheck (s : State) (c : Nat) : Except Nat State := do
  let (s, bs) ← s.ldN (s.ctxVia c) (s.ctxBase c) 64
  let h := ofBytes ((bs.take 8).map (fun b => b.1))
  if bs.any (fun b => b.2) ∨ bit h 8 = false ∧ bits h 7 0 = 1 then .error St.CTX_INVALID
  else if bits h 7 0 ≠ 1 then .error St.CTX_VERSION
  else .ok s

/-- The first thing that a save writes: the header with VALID clear. Where a channel holds it (R260), the write stands among the requests that
the channel holds, so that an aborted save leaves VALID clear (R170). -/
def State.ctxClear (s : State) (c : Nat) : State :=
  let bs := s.ctxHeader c false
  match s.ctxWrite c [(0, bs)], s.mapAddr (s.ctxVia c) (s.ctxBase c) true false with
  | .ok t, _ => t
  | .error _, .ok pa =>
    let o := offOf pa
    let x := s.chan (stackOf o) (channelOf o)
    if spaceOf pa = 2 ∧ s.chHeld (stackOf o) (channelOf o) = true then
      s.setChan (stackOf o) (channelOf o) { x with held := x.held ++ [⟨o, 64, some (ofBytes bs)⟩] }
    else s
  | .error _, .error _ => s

/-- Begin a transfer with its first accesses (R170). One whose accesses a channel holds (R260) has begun and waits. -/
def State.ctxStart (s : State) (fn c state : Nat) (ups : List Upset) (first : State → Except Nat State) : State :=
  if s.ctxTakes fn c = false then s
  else if s.quiesced (pCore c) = false then s.ctxEnd c St.BUSY
  else
    let r : CtxRun := ⟨decide (state = 3), s.rg R.CORE_CTX_BASE_BASE (pCore c) * 4096, s.runState c, false⟩
    match first (s.upsets c ups) with
    | .ok t => if wrTimeout ups then (s.upsetsAfter t ups).ctxEnd c St.FAR_TIMEOUT else (s.upsetsAfter t ups).ctxBegin c state r
    | .error e =>
      if e = waitCode then (if r.save then s.ctxClear c else s).ctxBegin c state { r with waits := true }
      else (s.upsetsAfter (s.upsets c ups) ups).ctxEnd c e

/-- CTX_SAVE (R170): everything but VALID is written, or BUSY is posted where the core is not quiesced. -/
def execCtxSave (fn : Nat) (core : Met Nat) (s : State) : Host.Outcome State Fault Refusal :=
  .next (s.ctxStart fn core.val 3 core.ups (fun s => s.ctxSaveAll core.val))

/-- CTX_RESTORE (R170). -/
def execCtxRestore (fn : Nat) (core : Met Nat) (s : State) : Host.Outcome State Fault Refusal :=
  .next (s.ctxStart fn core.val 4 core.ups (fun s => s.ctxCheck core.val))

/-- Bytes of an image, those of a poisoned line as free values: no rule states what a restore loads from one. -/
def State.freshBytes (s : State) (bs : List (Nat × Bool)) : State × List Nat :=
  if bs.any (fun b => b.2) then
    ({ s with free := s.free + bs.length },
      (bs.zipIdx).map (fun b => if b.1.2 then Config.free (s.free + b.2) % 256 else b.1.1))
  else (s, bs.map (fun b => b.1))

/-- The little-endian numbers of consecutive groups of `w` bytes from offset `o`. -/
def imageWord (bs : List Nat) (o w i : Nat) : Nat := ofBytes ((bs.drop (o + w * i)).take w)

/-- The MMA that an image holds, on the T registers it holds (R120); `ups` are the errors that its steps meet from now on (R123, R184). -/
def MmaRun.ofImage (c : Nat) (bs : List Nat) (ups : List Upset) : MmaRun :=
  let x := { MForm.ofWord c (imageWord bs 0x40 8 0) with ups := ups.filter (fun u => match u with
    | .bbufFail _ _ _ _ _ => true
    | .feedFail _ _ _ _ => true
    | _ => false) }
  let word (i : Nat) : BitVec 512 := BitVec.ofNat 512 (imageWord bs 0x200 64 i)
  let r : MmaRun := ⟨x, word x.ta, word x.tai, word x.tb, word x.tbi, max 1 (imageWord bs 0x58 4 0), 0⟩
  { r with done := imageWord bs 0x4C 4 0 * r.stride + imageWord bs 0x48 4 0 * r.slices + imageWord bs 0x50 4 0 }

/-- The registers of core `c` from the first 0x3000 bytes of an image. -/
def Core.load (k : Core) (c : Nat) (bs : List Nat) (ups : List Upset) : Core :=
  let h := imageWord bs 0 8 0
  let k := (List.range 32).foldl (fun (k : Core) i => k.wrS i (imageWord bs 0x80 8 i)) k
  let k := (List.range 8).foldl (fun (k : Core) i => k.wrP i (imageWord bs 0x180 8 i)) k
  let k := (List.range 16).foldl (fun (k : Core) i =>
    { k with t := NMap.put i (BitVec.ofNat 512 (imageWord bs 0x200 64 i)) k.t }) k
  let k := (List.range 64).foldl (fun (k : Core) i =>
    { k with rng := NMap.put i (imageWord bs 0x600 8 i) k.rng, tap := NMap.put i (imageWord bs 0x800 8 i) k.tap }) k
  let k := (List.range 32).foldl (fun (k : Core) i => k.setNw i (NwSlot.ofImage ((bs.drop (0xA00 + 32 * i)).take 32))) k
  let k := (List.range 2048).foldl (fun (k : Core) i => k.wrV (i / 64) (i % 64) (imageWord bs 0x1000 4 i)) k
  { k with
    layer := imageWord bs 0x10 2 0, op := imageWord bs 0x12 2 0, dirtyBanks := bits h 23 16, openBlk := imageWord bs 0x1C4 4 0,
    mma := if bit h 9 then some (MmaRun.ofImage c bs ups) else none, ast := none, squant := none, br := [], fq := [] }

/-- One bank of an image. -/
def Core.loadBank (k : Core) (b : Nat) (bs : List Nat) : Core :=
  (List.range 4096).foldl (fun (k : Core) i => k.wrA b (i / 64) (i % 64) (Ewa.ofImage (imageWord bs 0 16 i))) k

/-- Read the banks of an image. -/
def State.ctxBanks (s : State) (c : Nat) : List Nat → Except Nat State
  | [] => .ok s
  | b :: l => do
    let (s, bs) ← s.ldN (s.ctxVia c) (s.ctxBase c + 0x3000 + 0x10000 * b) 0x10000
    let (s, bs) := s.freshBytes bs
    (s.setCore c ((s.core c).loadBank b bs)).ctxBanks c l

/-- Load an image: only the banks of BANK_MASK are restored (R169). -/
def State.ctxLoad (s : State) (c : Nat) (ups : List Upset) : Except Nat State := do
  let (s, bs) ← s.ldN (s.ctxVia c) (s.ctxBase c) 0x3000
  let (s, bs) := s.freshBytes bs
  let p := pCore c
  let sc := imageWord bs 0x1C0 4 0
  let s := s.setCore c ((s.core c).load c bs ups)
  let s := ((s.wr R.CORE_SCALE_CTRL_HEAD p (sc % 16)).wr R.CORE_SCALE_CTRL_FORCE_JIT p (sc / 256 % 2)).wr
    R.CORE_PC_PC p (imageWord bs 8 8 0)
  s.ctxBanks c (onesBelow 8 (bits (imageWord bs 0 8 0) 23 16))

/-- What is left of a save (R170): what had to wait, and VALID last of all. -/
def State.ctxSaveRest (s : State) (c : Nat) (r : CtxRun) : Except Nat State := do
  let s ← if r.waits then s.ctxSaveAll c else .ok s
  s.stN (s.ctxVia c) (s.ctxBase c) ((leBytes 8 (ofBytes ((s.ctxHeader c true).take 8))).map some)

/-- What is left of a restore: the checks where they had to wait, and the load. -/
def State.ctxRestoreRest (s : State) (c : Nat) (r : CtxRun) (ups : List Upset) : Except Nat State := do
  let s ← if r.waits then s.ctxCheck c else .ok s
  s.ctxLoad c ups

/-- CTX_DONE (R170): a save sets VALID last and is counted, one that ends with OK alone (DESIGN CHOICE, log entry 123); a restore leaves
the core quiesced at PC, with the KERNEL_LAUNCH that it runs as before: with none, no command waits for the kernel's end (DESIGN CHOICE,
log entry 123). A transfer whose accesses a channel holds goes on waiting. -/
def execCtxDone (at_ : Met Nat) (s : State) : Host.Outcome State Fault Refusal :=
  let core := at_.val
  let ups := at_.ups
  .next (match (s.core core).ctx with
    | none => s
    | some r =>
      let u := s.upsets core ups
      match if r.save then u.ctxSaveRest core r else u.ctxRestoreRest core r ups with
      | .error e => if e = waitCode then s else ((s.upsetsAfter u ups).ctxEnd core e).ctxRest core r.rest
      | .ok t =>
        let t := s.upsetsAfter t ups
        if wrTimeout ups then (t.ctxEnd core St.FAR_TIMEOUT).ctxRest core r.rest
        else if r.save then ((t.ctxEnd core St.OK).ctxRest core r.rest).cnt (pCore core) Cn.CORE_CTX_SAVES
        else ((t.setCore core { t.core core with fn := t.coreFn core, ended := none, wait := none }).ctxEnd core St.OK).ctxRest core 2)

end Sys2Proof.Machine
end

