-- ==== Sys2Proof/Machine/Fetch.lean ====
section
/-!
DEFINITION. The rings of commands (R412–R420, R435): doorbells, fetching, the checks at fetch, completion, and the registers that
enable, resume and reset a queue.
-/

namespace Sys2Proof.Machine

/-! ### Queue state (R423, R435) -/

/-- STATE of a queue follows EN, FSTOP and QSTOP; only a reset leaves ERROR (R414, R435). -/
def State.cqRestate (s : State) (q : Nat) : State :=
  if s.cqState q = 3 then s
  else
    s.wr R.QUE_CQ_STATUS_STATE q
      (if s.flag R.QUE_CQ_CTRL_EN q = false then 0
       else if s.flag R.QUE_CQ_STATUS_FSTOP q ∨ s.flag R.QUE_CQ_STATUS_QSTOP q then 2 else 1)

/-- FSTOP of a queue is set or cleared. -/
def State.cqFstop (s : State) (q : Nat) (b : Bool) : State := (s.wrB R.QUE_CQ_STATUS_FSTOP q b).cqRestate q

/-- QSTOP of a queue is set or cleared. -/
def State.cqQstop (s : State) (q : Nat) (b : Bool) : State := (s.wrB R.QUE_CQ_STATUS_QSTOP q b).cqRestate q

/-- EN of a queue takes a value. -/
def State.cqEn (s : State) (q : Nat) (b : Bool) : State := (s.wrB R.QUE_CQ_CTRL_EN q b).cqRestate q

/-- The class 1–3 queues of a function. -/
def State.dataQueues (s : State) (fn : Nat) : List Nat := (s.cmdqsOf fn).filter (fun q => decide (s.cqClass q ≠ 0))

/-- The queue that CQ_SEL of a function's QUE page names. -/
def State.cqSel (s : State) (fn : Nat) : Option Nat := s.cmdqOf fn (s.rg R.QUE_CQ_SEL_QUEUE (pQue fn))

/-! ### Doorbells (R413) -/

/-- Whether a reset of a queue, or of what holds it, is in progress (R413, R479). -/
def State.cqResetting (s : State) (q : Nat) : Bool :=
  s.recov.resets.any (fun r => decide (r.level = 4) || (decide (r.level = 3) && decide (r.target = s.cmdqFn q))
    || (decide (r.level = 1) && decide (r.target = pQue (s.cmdqFn q))))

/-- CQ_DOORBELL (R413): function `fn` writes producer count `p` to the doorbell of its queue `k`; over a link that is down, or during its Function
Level Reset, nothing arrives (R402, R404). -/
def execCqDoorbell (fn k p : Nat) (s : State) : Host.Outcome State Fault Refusal :=
  let ignore := s.cnt (pHif fn) Cn.HIF_DB_IGNORED
  .next (if s.hostUp fn = false then s else match s.cmdqOf fn k with
    | none => ignore
    | some q =>
      if s.cqState q ≠ 1 ∨ s.cqResetting q = true then ignore
      else
        let p := p % 2 ^ 32
        let t := s.rg R.QUE_CQ_TAIL_TAIL q
        let ahead := (p + 2 ^ 32 - s.rg R.QUE_CQ_FETCHED_FETCHED q) % 2 ^ 32
        let step := (p + 2 ^ 32 - t) % 2 ^ 32
        if step = 0 then s
        else if ahead ≤ 2 ^ s.rg R.QUE_CQ_CFG_LOG2SIZE q ∧ step < 2 ^ 31 then s.wr R.QUE_CQ_TAIL_TAIL q p
        else ignore.raise (pHif fn) Er.HIF_DOORBELL_RANGE)

/-! ### Checks at fetch (R420) -/

/-- The operand bits of an opcode (R419): byte offset, highest and lowest bit; none for an opcode not defined. -/
def operandBits (opcode : Nat) : Option (List (Nat × Nat × Nat)) :=
  match opcode with
  | 1 => some [(0x10, 63, 0), (0x18, 63, 0), (0x20, 63, 0), (0x28, 11, 0)]
  | 2 => some [(0x10, 63, 0), (0x18, 63, 0), (0x20, 31, 0), (0x24, 0, 0)]
  | 3 => some [(0x10, 15, 0), (0x18, 63, 0)]
  | 4 => some [(0x10, 16, 0), (0x18, 63, 0)]
  | 5 => some [(0x10, 63, 0)]
  | 6 => some [(0x10, 47, 0), (0x18, 1, 0)]
  | 7 => some [(0x10, 47, 0)]
  | 8 => some [(0x10, 63, 0), (0x18, 12, 0), (0x20, 63, 0), (0x28, 0, 0)]
  | 9 => some [(0x10, 17, 0)]
  | 10 => some [(0x10, 11, 0), (0x10, 16, 16), (0x10, 17, 17)]
  | 11 => some [(0x10, 0, 0)]
  | _ => none

/-- Clear a range of bits. -/
def clearBits (x : Nat) (off hi lo : Nat) : Nat := putBits x (8 * off + hi) (8 * off + lo) 0

/-- Whether a reserved bit or byte of a descriptor is set; for COLL_LAUNCH also COMPL_SIG and SIG_INC. -/
def Cmd.reserved (c : Cmd) (ops : List (Nat × Nat × Nat)) : Bool :=
  decide (bits c.desc 15 11 ≠ 0) || decide (c.fld 6 16 ≠ 0) || decide (c.fld 0xA 16 ≠ 0)
  || (c.opcode == 5 && (decide (c.sig ≠ 0) || decide (c.inc ≠ 0)))
  || decide ((ops.foldl (fun x o => clearBits x o.1 o.2.1 o.2.2) c.desc) / 2 ^ 128 ≠ 0)

/-- Whether a queue's class may carry a command (R419). -/
def classOk (opcode cls : Nat) : Bool :=
  match opcode with
  | 3 => true
  | 4 => true
  | 9 => true
  | 10 => decide (cls = 0)
  | 11 => decide (cls = 0)
  | _ => decide (cls ≠ 0)

/-- Commands that need a partition (R420). -/
def needsPartition (opcode : Nat) : Bool := [1, 5, 6, 7, 8, 11].contains opcode

/-- The status of the first check at fetch that fails (R420). -/
def State.cmdCheck (s : State) (fn q : Nat) (c : Cmd) : Nat :=
  match operandBits c.opcode with
  | none => St.BAD_OPCODE
  | some ops =>
    if c.reserved ops then St.INVALID_ARG
    else if classOk c.opcode (s.cqClass q) = false then St.WRONG_CLASS
    else if (c.inc ≠ 0 ∧ s.ownsSig fn c.sig = false)
        ∨ ((c.opcode = 3 ∨ c.opcode = 4) ∧ s.ownsSig fn (c.fld 0x10 16) = false) then St.DENIED
    else if needsPartition c.opcode = true ∧ s.quadsOf fn = [] then St.NO_PARTITION
    else St.OK

/-! ### Fetching (R414, R415) -/

/-- Whether a queue has descriptors to fetch and may fetch them, over a link that is up (R402, R413, R434). -/
def State.cqReady (s : State) (q : Nat) : Bool :=
  let fn := s.cmdqFn q
  decide (s.cqState q = 1) && decide (s.rg R.QUE_CQ_TAIL_TAIL q ≠ s.rg R.QUE_CQ_FETCHED_FETCHED q)
  && s.host.pcieUp && s.flag R.HIF_FUNC_CTRL_EN (pHif fn) && decide (s.unitStatus (pQue fn) = St.OK)

/-- The queues ready to be fetched from, in the order of functions and queues. -/
def State.cqsReady (s : State) : List Nat := (s.host.fns.flatMap (fun e => s.cmdqsOf e.1)).filter s.cqReady

/-- Weights of the classes 1, 2 and 3 (R415). -/
def classWeight (c : Nat) : Nat := if c = 1 then 8 else if c = 2 then 4 else 1

/-- The least number of a list. -/
def least (l : List Nat) : Option Nat := l.foldl (fun a q => match a with
  | none => some q
  | some m => some (min m q)) none

/-- The queue of a class that is served next: round robin by queue number, from the one after the last served (R415). -/
def State.cqTurn (s : State) (ready : List Nat) (c : Nat) : Option Nat :=
  let l := ready.filter (fun q => decide (s.cqClass q = c))
  let last := NMap.get 0 s.host.cqCredit (16 + c)
  match least (l.filter (fun q => decide (q ≥ last))) with
  | some q => some q
  | none => least l

/-- The class served next: class 0 ahead of all others and alone during a halt (R467), then weighted round robin. A class with credit left
is served; with none left among those that are ready, a new round begins (R415). Which of several classes with credit goes first is the
command's choice (`c`). -/
def State.classTurn (s : State) (ready : List Nat) (c : Nat) : Option State :=
  let has (k : Nat) : Bool := ready.any (fun q => decide (s.cqClass q = k))
  let left (k : Nat) : Bool := decide (NMap.get 0 s.host.cqCredit k < classWeight k)
  let use (s : State) (k : Nat) : State :=
    { s with host := { s.host with cqCredit := NMap.put k (NMap.get 0 s.host.cqCredit k + 1) s.host.cqCredit } }
  if has c = false then none
  else if c = 0 then some s
  else if has 0 = true ∨ s.halted = true then none
  else if left c then some (use s c)
  else if [1, 2, 3].any (fun k => has k && left k) then none
  else
    let cr := [1, 2, 3].foldl (fun m k => NMap.put k 0 m) s.host.cqCredit
    some (use { s with host := { s.host with cqCredit := cr } } c)

/-- Write the head write-back when it is due (R414): at the 32nd fetch since the last, and when every descriptor offered has been fetched. -/
def State.headWb (s : State) (q : Nat) : State :=
  let a := s.rg R.QUE_CQ_HEAD_WB_ADDR q
  let x := s.cq q
  let fetched := s.rg R.QUE_CQ_FETCHED_FETCHED q
  if x.unwritten ≥ 32 ∨ fetched = s.rg R.QUE_CQ_TAIL_TAIL q then
    let s := s.setCq q { x with unwritten := 0 }
    if a = 0 then s else s.wle (aHost (8 * a)) 8 (fetched + s.rg R.QUE_CQ_DONE_DONE q % 2 ^ 32 * 2 ^ 32)
  else s

/-- Fetch one descriptor (R414, R420); a step command that R236 refuses is refused as it is fetched. -/
def State.fetchOne (s : State) (q : Nat) : State :=
  let fn := s.cmdqFn q
  let num := s.rg R.QUE_CQ_FETCHED_FETCHED q
  let size := 2 ^ s.rg R.QUE_CQ_CFG_LOG2SIZE q
  let desc := s.rle (aHost (s.rg R.QUE_CQ_BASE_BASE q * 64 + 64 * (num % size))) 64
  let c : Cmd := ⟨num, s.host.order, desc, false, none, s.tbc, 0⟩
  let st := s.cmdCheck fn q c
  let st := if st ≠ St.OK ∨ c.isStep = false then st else s.stepRefusal fn (if c.opcode = 6 then 1 else 4) c
  let c := if st = St.OK then c else { c with started := true, result := some st }
  let x := s.cq q
  let s := s.setCq q { inflight := x.inflight ++ [c], unwritten := x.unwritten + 1 }
  let s := { s with host := { s.host with order := s.host.order + 1 } }
  ((s.wr R.QUE_CQ_FETCHED_FETCHED q (num + 1)).cnt (pHif fn) Cn.HIF_CMD_FETCHED).headWb q

/-- CMD_FETCH (R414, R415): one read of `n` descriptors, at most 8 and at most those offered, from the queue of class `cls` whose
turn it is; `fail` when the read ends in a completion error. -/
def execCmdFetch (cls n : Nat) (fail : Bool) (s : State) : Host.Outcome State Fault Refusal :=
  let ready := s.cqsReady
  .next (match s.classTurn ready cls, s.cqTurn ready cls with
    | some s, some q =>
      let s := { s with host := { s.host with cqCredit := NMap.put (16 + cls) (q + 1) s.host.cqCredit } }
      if fail then
        ((s.wr R.QUE_CQ_STATUS_STATE q 3).wr R.QUE_CQ_STATUS_LAST_ERR q St.FETCH_FAIL).raise (pHif (s.cmdqFn q))
          Er.HIF_FETCH_FAIL
      else
        let offered := (s.rg R.QUE_CQ_TAIL_TAIL q + 2 ^ 32 - s.rg R.QUE_CQ_FETCHED_FETCHED q) % 2 ^ 32
        (List.range (min n (min 8 offered))).foldl (fun s _ => s.fetchOne q) s
    | _, _ => s)

/-! ### Completion (R417, R611) -/

/-- The event queue of a command queue: CQ_CFG.EQ where it is ACTIVE, else the default (R417, R432). -/
def State.cqEvq (s : State) (fn q : Nat) : Option Nat :=
  match s.evtqOf fn (s.rg R.QUE_CQ_CFG_EQ q) with
  | some e => if s.eqActive e then some e else s.eqDefault fn
  | none => s.eqDefault fn

/-- Write the CMD_DONE record of a command (R417, R426). -/
def State.cmdDoneRecord (s : State) (fn q : Nat) (c : Cmd) (st : Nat) : State :=
  let p := pQue fn
  let cls := if st = St.OK then 3 else 2
  if bit (s.rg R.HDR_EVT_ENABLE_CLASS_EN p) (cls - 1) = false then s
  else
    let r := s.evRec p 1 cls false (c.attr q) (c.num + st * 2 ^ 32 + c.opcode * 2 ^ 48)
    let (s, l) := (s.incidentCopy r).evDeliver (s.cqEvq fn q) r
    s.raiseAll 8 l

/-- Whether every command that a fence waits for has completed (R423). -/
def State.fenceMet (s : State) (f : Fence) : Bool :=
  f.targets.all (fun t => (s.cq t.1).inflight.all (fun c => decide (c.order ≥ t.2)))

/-- STOP_BUSY reads 1 until the STOP completes (R424). -/
def State.stopCheck (s : State) (fn : Nat) : State :=
  let mine (f : Fence) : Bool := decide (f.fn = fn) && f.cmd.isNone
  let gone := s.host.fences.filter (fun f => mine f && s.fenceMet f)
  if gone = [] then s
  else
    let l := s.host.fences.filter (fun f => !(mine f && s.fenceMet f))
    ({ s with host := { s.host with fences := l } }).wrB R.HIF_FUNC_STATUS_STOP_BUSY (pHif fn) (l.any mine)

/-- A command whose outcome is known completes (R417): signal, record, progress counter. A status other than OK counts for the step (R231,
R235) but for the refusal STEP_STATE of a step command, which changes nothing (R236), and a SNAPSHOT records SNAP_FAIL with it (R247),
each once. -/
def State.cmdEnd (s : State) (q : Nat) (c : Cmd) (st : Nat) : State :=
  let fn := s.cmdqFn q
  let x := s.cq q
  let s := s.setCq q { x with inflight := x.inflight.filter (fun y => decide (y.num ≠ c.num)) }
  let (st, s) :=
    if c.inc = 0 then (st, s)
    else if st = St.OK then s.sigAdd c.sig c.inc
    else if c.errSignal = true ∧ s.ownsSig fn c.sig = true then (st, (s.sigAdd c.sig c.inc).2)
    else (st, s)
  let s := if c.evtDone = true ∨ st ≠ St.OK then s.cmdDoneRecord fn q c st else s
  let s := s.wr R.QUE_CQ_DONE_DONE q (s.rg R.QUE_CQ_DONE_DONE q + 1)
  let s := if st = St.OK then s.cnt (pHif fn) Cn.HIF_CMD_OK
    else (s.cnt (pHif fn) Cn.HIF_CMD_FAIL).wr R.QUE_CQ_STATUS_LAST_ERR q st
  let s := if (c.isStep = true ∧ st = St.STEP_STATE) ∨ (c.opcode = 8 ∧ c.aux = 1) then s else s.stepNote fn st
  let s := if c.opcode = 8 ∧ c.aux ≠ 1 ∧ st ≠ St.OK then s.raise (pCol fn) Er.COL_SNAP_FAIL st else s
  let s := s.trace fn 0 0x0C11 (c.num + st * 2 ^ 32 + c.opcode * 2 ^ 48) (pQue fn) false (c.attr q)
  (s.sealCheck fn).stopCheck fn

/-- Whether a tensor watch digest still holds a command (R564). -/
def State.digestHolds (s : State) (fn q num : Nat) : Bool :=
  (s.dbgFn fn).digests.any (fun d => decide (d.queue = q) && decide (d.num = num))

/-- CMD_COMPLETE (R417): the command of descriptor number `num` of queue `q` completes once its outcome is known. -/
def execCmdComplete (q num : Nat) (s : State) : Host.Outcome State Fault Refusal :=
  .next (match s.cmdFind q num with
    | none => s
    | some c =>
      match c.result with
      | none => s
      | some st => if s.digestHolds (s.cmdqFn q) q num then s else s.cmdEnd q c st)

/-! ### Enabling, resuming, resetting (R423, R435) -/

/-- Whether a queue's LOG2SIZE is one of 6 to 16. -/
def sizeOk (n : Nat) : Bool := decide (6 ≤ n) && decide (n ≤ 16)

/-- CQ_ENABLE (R435): function `req` writes CQ_CTRL.EN on the QUE page of `fn`. -/
def execCqEnable (req fn : Nat) (en : Bool) (s : State) : Host.Outcome State Fault Refusal :=
  .next (if s.mayWrite req (pQue fn) = false then s
    else match s.cqSel fn with
    | none => s
    | some q => if sizeOk (s.rg R.QUE_CQ_CFG_LOG2SIZE q) then s.cqEn q en else s)

/-- CQ_RESUME (R423): CQ_CTRL.RESUME = 1 clears FSTOP. -/
def execCqResume (req fn : Nat) (s : State) : Host.Outcome State Fault Refusal :=
  .next (if s.mayWrite req (pQue fn) = false then s
    else match s.cqSel fn with
    | none => s
    | some q => s.cqFstop q false)

/-- Pending digests that `sel` picks are abandoned (R564). -/
def State.digestsDrop (s : State) (fn : Nat) (sel : Digest → Bool) : State :=
  let d := s.dbgFn fn
  let l := d.digests.filter (fun x => !(sel x))
  ((s.setDbg fn { d with digests := l }).cnt (pDbg fn) Cn.DBG_TW_ABANDONED (d.digests.length - l.length)).twPending fn

/-- Every command of a queue is aborted and completes with ABORTED (R417, R480). -/
def State.cqFlush (s : State) (q : Nat) : State :=
  let s := s.queueAbort q
  let fn := s.cmdqFn q
  let s := s.digestsDrop fn (fun x => decide (x.queue = q))
  (s.cq q).inflight.foldl (fun s c => s.cmdEnd q c St.ABORTED) s

/-- RST_CTX of a queue by CQ_CTRL.RESET or its page (R435, R480): it returns to DISABLED with every count at 0. -/
def State.cqReset (s : State) (q : Nat) : State :=
  let s := s.cqFlush q
  let s := (((s.wr R.QUE_CQ_CTRL_EN q 0).wr R.QUE_CQ_STATUS_STATE q 0).wr R.QUE_CQ_STATUS_QSTOP q 0).wr
    R.QUE_CQ_STATUS_FSTOP q 0
  let s := ((s.wr R.QUE_CQ_TAIL_TAIL q 0).wr R.QUE_CQ_FETCHED_FETCHED q 0).wr R.QUE_CQ_DONE_DONE q 0
  s.setCq q CmdQ.empty

/-- QUE_CQ_RESET (R435, R479): CQ_CTRL.RESET = 1 requests RST_CTX of the selected queue. -/
def execQueCqReset (req fn : Nat) (s : State) : Host.Outcome State Fault Refusal :=
  .next (if s.mayWrite req (pQue fn) = false then s
    else match s.cqSel fn with
    | none => s
    | some q => (s.cqReset q).ctxNote (pQueue q))

end Sys2Proof.Machine
end

