-- ==== Sys2Proof/Machine/EvQueues.lean ====
section
/-!
DEFINITION. The rings of event records as the host drives them (R427, R429, R431, R432, R436): consumption doorbells, enabling and
disabling, the end of a merge window, the coalescing timer, and a record write that fails.
-/

namespace Sys2Proof.Machine

/-- The queue that EQ_SEL of a function's EVT page names. -/
def State.eqSel (s : State) (fn : Nat) : Option Nat := s.evtqOf fn (s.rg R.EVT_EQ_SEL_QUEUE (pEvt fn))

/-- Deliver records one after another to the default queue of a function, as it is then (R432). -/
def State.eqMove (s : State) (fn : Nat) (l : List EvRec) : State :=
  l.foldl (fun s r =>
    let (s, src) := s.evDeliver (s.eqDefault fn) r
    s.raiseAll 8 src) s

/-- The record that closes a merge slot is written to a queue: always, and it counts toward the limit of the millisecond (R428, R429). -/
def State.evClose (s : State) (q : Nat) (r : EvRec) : State :=
  let e := s.eq q
  let ms := s.tbc / 1000000
  let used := match PMap.get (0, 0) e.rate (r.src, r.cls) with
    | (t, n) => if t = ms then n else 0
  let (s, src) := (s.setEq q { e with rate := PMap.put (r.src, r.cls) (ms, used + 1) e.rate }).evPlace q r
  s.raiseAll 8 src

/-- The closing records of merge slots go to the default queue of a function, or are dropped for want of one (R432). -/
def State.eqMoveSlots (s : State) (fn : Nat) (l : List EvRec) : State :=
  l.foldl (fun s r => match s.eqDefault fn with
    | some q => s.evClose q r
    | none => s.eqMove fn [r]) s

/-- The merge slots of a queue that have a count, closed. -/
def EvQ.closing (e : EvQ) : List EvRec := (e.slots.filter (fun m => decide (m.count > 0))).map MergeSlot.close

/-- A queue leaves service in STATE `st`: to the default queue go the records that failed, those that wait, those that had followed the
failed one, and the merge slots with a count, closed (R432). -/
def State.eqLeave (s : State) (q st : Nat) (first later : List EvRec) : State :=
  let e := s.eq q
  let fn := s.evtqFn q
  let s := (s.wr R.EVT_EQ_STATUS_STATE q st).wr R.EVT_EQ_STATUS_PENDING q 0
  let s := s.setEq q { e with pend := [], slots := [], unsig := 0 }
  (s.eqMove fn (first ++ e.pend ++ later)).eqMoveSlots fn e.closing

/-- EN of a queue clears (R432, R436). -/
def State.eqDisable (s : State) (q : Nat) : State :=
  if s.flag R.EVT_EQ_CTRL_EN q then (s.wr R.EVT_EQ_CTRL_EN q 0).eqLeave q 0 [] [] else s

/-- EQ_DOORBELL (R427): function `fn` writes its consumption count of its queue `k`, where its requests are performed (R402, R404). -/
def execEqDoorbell (fn k c : Nat) (s : State) : Host.Outcome State Fault Refusal :=
  let ignore := s.cnt (pHif fn) Cn.HIF_DB_IGNORED
  .next (if s.hostUp fn = false then s else match s.evtqOf fn k with
    | none => ignore
    | some q =>
      if s.eqActive q = false then ignore
      else
        let cons := s.rg R.EVT_EQ_CONS_COUNT q
        let full := (s.rg R.EVT_EQ_PROD_COUNT q + 2 ^ 32 - cons) % 2 ^ 32
        if (c % 2 ^ 32 + 2 ^ 32 - cons) % 2 ^ 32 > full then s.raise (pHif fn) Er.HIF_DOORBELL_RANGE
        else (s.wr R.EVT_EQ_CONS_COUNT q c).evSpace q)

/-- A BOOT_READY event that waits for PF0's default queue is raised once the queue is ACTIVE (R573, R608). -/
def State.bootReadyTry (s : State) : State :=
  if s.boot.readyPend = true ∧ (s.eqDefault 0).isSome = true then
    { s with boot := { s.boot with readyPend := false } }.event pKpr 0x0802 3
      (s.rg R.KPR_BOOT_STATUS_ENTRY pKpr + 4 * s.rg R.KPR_BOOT_STATUS_DEGRADED pKpr)
  else s

/-- EQ_ENABLE (R436): EQ_CTRL.EN = 1 on the EVT page of `fn`. -/
def execEqEnable (req fn : Nat) (s : State) : Host.Outcome State Fault Refusal :=
  .next (if s.mayWrite req (pEvt fn) = false then s
    else match s.eqSel fn with
    | none => s
    | some q =>
      if sizeOk (s.rg R.EVT_EQ_CFG_LOG2SIZE q) = false ∨ s.flag R.EVT_EQ_CTRL_EN q = true then s
      else
        let s := ((s.wr R.EVT_EQ_CTRL_EN q 1).wr R.EVT_EQ_STATUS_STATE q 1).wr R.EVT_EQ_STATUS_PHASE q 1
        (((s.wr R.EVT_EQ_PROD_COUNT q 0).wr R.EVT_EQ_CONS_COUNT q 0).setEq q { EvQ.empty with
          hist := (s.eq q).hist, redirected := (s.eq q).redirected }).bootReadyTry)

/-- EQ_DISABLE (R432): EQ_CTRL.EN = 0. -/
def execEqDisable (req fn : Nat) (s : State) : Host.Outcome State Fault Refusal :=
  .next (if s.mayWrite req (pEvt fn) = false then s
    else match s.eqSel fn with
    | none => s
    | some q => s.eqDisable q)

/-- MERGE_WINDOW_END (R428, R429): the window of merge slot `slot` of module queue `q` ends; with a count above 0 its record is
always written, and counts toward the limit of the millisecond. -/
def execMergeWindowEnd (q slot : Nat) (s : State) : Host.Outcome State Fault Refusal :=
  let e := s.eq q
  .next (match e.slots[slot]? with
    | none => s
    | some m =>
      let e := { e with slots := e.slots.eraseIdx slot }
      if m.count = 0 then s.setEq q e
      else
        (s.setEq q e).evClose q m.close)

/-- MSIX_COAL_TIMER (R431): COAL_US after the first record of module queue `q` not yet signalled. -/
def execMsixCoalTimer (q : Nat) (s : State) : Host.Outcome State Fault Refusal :=
  let e := s.eq q
  .next (if e.unsig = 0 ∨ s.flag R.EVT_EQ_CFG_MSIX_EN q = false then s else (s.setEq q { e with unsig := 0 }).sendMsix q)

/-- Add drop counts to a queue's EQ_DROP, class by class, saturating (R426, R432). -/
def addDrops (a b : Nat) : Nat :=
  (List.range 5).foldl (fun acc c =>
    putBits acc (12 * c + 11) (12 * c) (min 4095 (bits a (12 * c + 11) (12 * c) + bits b (12 * c + 11) (12 * c)))) 0

/-- The drop counts of a LOST record whose write failed join those of the default queue; with none they are lost (R432). -/
def State.lostAgain (s : State) (fn : Nat) (r : EvRec) : State :=
  match r.typ, s.eqDefault fn with
  | 3, some d => s.wr R.EVT_EQ_DROP_COUNTS d (addDrops (s.rg R.EVT_EQ_DROP_COUNTS d) r.payload)
  | _, _ => s

/-- EQ_WRITE_FAIL (R432): the write of a record of a module queue, not yet consumed, ends in a host error. It and those written after it are no
longer in the ring; what their slots then hold is undefined. -/
def execEqWriteFail (rec : EqFail) (s : State) : Host.Outcome State Fault Refusal :=
  let q := rec.queue
  let e := s.eq q
  let fn := s.evtqFn q
  let n := rec.later + 1
  let full := (s.rg R.EVT_EQ_PROD_COUNT q + 2 ^ 32 - s.rg R.EVT_EQ_CONS_COUNT q) % 2 ^ 32
  let kept := e.hist.length - n
  .next (match e.hist.drop kept with
    | [] => s
    | r :: after =>
      if s.eqActive q = false ∨ e.hist.length < n ∨ full < n then s
      else
        let prod := (s.rg R.EVT_EQ_PROD_COUNT q + 2 ^ 32 - n) % 2 ^ 32
        let slot (i : Nat) : Nat := aHost (s.rg R.EVT_EQ_BASE_BASE q * 32 + 32 * ((prod + i) % s.eqSize q))
        let s := (List.range n).foldl (fun s i => s.lose (slot i) (slot i + 32)) s
        let s := ((s.wr R.EVT_EQ_PROD_COUNT q prod).setEq q { e with hist := e.hist.take kept }).wr R.EVT_EQ_STATUS_STATE q 3
        let s := (r :: after).foldl (fun s x => s.lostAgain fn x) s
        let plain (l : List EvRec) : List EvRec := l.filter (fun x => decide (x.typ ≠ 3))
        let s := s.wr R.EVT_EQ_DROP_COUNTS q (if r.typ = 3 then 0 else s.rg R.EVT_EQ_DROP_COUNTS q)
        (s.eqLeave q 3 (plain [r]) (plain after)).raise (pHif fn) Er.HIF_EVT_WRITE_FAIL)

/-- Every event queue of a function is reset (R436): DISABLED, counts 0, PHASE 1, and what waits in it discarded. -/
def State.eqReset (s : State) (q : Nat) : State :=
  let s := ((s.wr R.EVT_EQ_CTRL_EN q 0).wr R.EVT_EQ_STATUS_STATE q 0).wr R.EVT_EQ_STATUS_PENDING q 0
  let s := ((s.wr R.EVT_EQ_PROD_COUNT q 0).wr R.EVT_EQ_CONS_COUNT q 0).wr R.EVT_EQ_DROP_COUNTS q 0
  (s.wr R.EVT_EQ_STATUS_PHASE q 1).setEq q EvQ.empty

end Sys2Proof.Machine
end

