-- ==== Sys2Proof/Machine/Cmds.lean ====
section
/-!
DEFINITION. What the commands of the command queues do (R416, R419–R424, R456), and the registers of a function's HIF page: the
stop path, enabling, the assignment of resources (R406, R407) and the signals of BAR4 (R411).
-/

namespace Sys2Proof.Machine

/-! ### Kernels and host DMA (R421, R422) -/

/-- The cores that a KERNEL_LAUNCH names. -/
def Cmd.cores (c : Cmd) : List Nat :=
  ((List.range 4).filter (fun i => bit (c.opnd 0x28 11 8) i)).map (fun i => 4 * c.opnd 0x28 7 0 + i)

/-- Why a unit of a list takes no new work, if one does not. -/
def State.unitsStatus (s : State) (ps : List Nat) : Nat :=
  ((ps.map s.unitStatus).find? (fun st => decide (st ≠ 0))).getD St.OK

/-- Whether a core is idle (R421). -/
def State.coreIdle (s : State) (c : Nat) : Bool := decide (s.runState c = 0) && (s.core c).launch.isNone

/-- Load one core (R421): PC, S1, S2 and S3, its IDs, and it runs; no bank has been written by the kernel that begins (R169). -/
def State.loadCore (q fn : Nat) (k : Cmd) (s : State) (c : Nat) : State :=
  let x := (((s.core c).wrS 1 (k.fld 0x18 64)).wrS 2 (k.fld 0x20 64)).wrS 3 (c % 4)
  let x := { x with layer := k.layer, op := k.opId, fn := fn, launch := some (q, k.num), ended := none, wait := none, dirtyBanks := 0, putLost := false }
  ((s.setCore c x).wr R.CORE_PC_PC (pCore c) (k.fld 0x10 64)).setRun c 1

/-- KERNEL_LAUNCH (R421). -/
def execKernelLaunch (q : Nat) (s : State) : Host.Outcome State Fault Refusal :=
  .next (s.cmdStart q 1 (fun s k =>
    let fn := s.cmdqFn q
    let quad := k.opnd 0x28 7 0
    let cs := k.cores
    let st := s.unitsStatus (cs.map pCore)
    if s.quadFn quad ≠ some fn ∨ s.quadPresent quad = false ∨ cs = [] then some (s, some St.TARGET_RANGE)
    else if s.dedicatedQuad fn quad then some (s, some St.DENIED)
    else if st ≠ St.OK then some (s, some st)
    else if cs.all s.coreIdle = false then none
    else
      let s := cs.foldl (State.loadCore q fn k) s
      some (s.cmdMap q k.num (fun c => { c with aux := k.opnd 0x28 11 8 }), none)))

/-- Whether a local address lies in the all-cluster window or the translated window and the `n` bytes from it stay in that window (R174,
R422). -/
def windowOk (a n : Nat) : Bool :=
  (decide (0x100000000 ≤ a) && decide (a + max 1 n ≤ 0x200000000)) || (decide (2 ^ 40 ≤ a) && decide (a + max 1 n ≤ 2 ^ 48))

/-- Copy host memory to module memory, one line at a time; a poisoned host line ends it with HOST_ERROR (R422). -/
def State.hostIn (s : State) (v : Via) : Nat → Nat → Nat → Nat → Move
  | 0, _, _, _ => (St.OK, s, 0)
  | k + 1, h, a, n =>
    if n = 0 then (St.OK, s, 0)
    else
      let c := chunk a n
      if s.poisoned (aHost h) ∨ s.poisoned (aHost (h + c - 1)) then (St.HOST_ERROR, s, 0)
      else
        match s.writeSpan v (spanLines c) a ((s.rbs (aHost h) c).map (fun b => (some b, false))) with
        | (0, s) =>
          let (st, s, w) := s.hostIn v k (h + c) (a + c) (n - c)
          (st, s, w + c)
        | (st, s) => (st, s, 0)

/-- Copy module memory to host memory; a poisoned line is written as stored, and marked (R422). -/
def State.hostOut (s : State) (v : Via) : Nat → Nat → Nat → Nat → Move
  | 0, _, _, _ => (St.OK, s, 0)
  | k + 1, h, a, n =>
    if n = 0 then (St.OK, s, 0)
    else
      let c := chunk a n
      match s.ldN v a c with
      | .error st => (st, s, 0)
      | .ok (s, bs) =>
        let s := s.wbs (aHost h) (bs.map (fun b => b.1))
        let bad := bs.any (fun b => b.2)
        let s := (s.setPoison (aHost h) (bad || (s.poisoned (aHost h) && decide (c < 64)))).setPoison (aHost (h + c - 1))
          (bad || (s.poisoned (aHost (h + c - 1)) && decide (c < 64)))
        let (st, s, w) := s.hostOut v k (h + c) (a + c) (n - c)
        (st, s, w + c)

/-- DMA (R422): `ups` are the soft errors that its lines met, `hostErr` the number of bytes moved before the host answered with an
error, if it did; a link that is down answers no request (R402). A halt starts none (R467). -/
def execDma (q : Nat) (ups : List Upset) (hostErr : Option Nat) (s : State) : Host.Outcome State Fault Refusal :=
  .next (s.cmdStart q 2 (fun s k =>
    let fn := s.cmdqFn q
    let len := k.fld 0x20 32
    let a := k.fld 0x18 64
    let h := k.fld 0x10 64
    if s.halted then none
    else if windowOk a len = false then some (s, some St.ADDR_RANGE)
    else if len = 0 then some (s, some St.OK)
    else
      let hostErr := if s.host.pcieUp then hostErr else some 0
      let n := match hostErr with
        | some m => min m len
        | none => len
      let s1 := s.upsets 0 ups
      let (st, s2, w) := if bit (k.fld 0x24 8) 0 then s1.hostOut (viaFn fn) (n / 64 + 2) h a n
        else s1.hostIn (viaFn fn) (n / 64 + 2) h a n
      if st = waitCode then none
      else
        let s2 := (s1.upsetsAfter s2 ups).cnt (pHif fn) Cn.HIF_HOST_DMA_BYTES w
        let st := if st ≠ St.OK then st
          else if hostErr.isSome then St.HOST_ERROR
          else if rdTimeout ups ∨ wrTimeout ups then St.FAR_TIMEOUT
          else if bit (k.fld 0x24 8) 0 = true ∧ s.farDown (viaFn fn) a n = true then St.FAR_DOWN
          else st
        let s2 := if st = St.HOST_ERROR then s2.raiseAt (pHif fn) Er.HIF_HOST_DMA_FAIL 0 false false (k.attr q) else s2
        some (s2, some st)))

/-! ### Signals (R163, R416, R419) -/

/-- Whether the condition of a SIGNAL_WAIT holds. -/
def State.waitMet (s : State) (k : Cmd) : Bool := decide (s.sigVal (k.fld 0x10 16) ≥ k.fld 0x18 64)

/-- SIGNAL_WAIT (R416, R419): it starts, and holds its queue while its condition does not hold. -/
def execSignalWait (q : Nat) (s : State) : Host.Outcome State Fault Refusal :=
  let s' := s.cmdStart q 3 (fun s k => some (s, if s.waitMet k then some St.OK else none))
  .next (match (s'.cq q).inflight.find? (fun c => c.opcode == 3 && c.started && c.result.isNone) with
    | some k => s'.cqWait q 3 (k.fld 0x10 16)
    | none => s')

/-- SIGNAL_WAIT_MET (R416): the SIGNAL_WAIT that holds queue `q` finds its condition true. -/
def execSignalWaitMet (q : Nat) (s : State) : Host.Outcome State Fault Refusal :=
  .next (match (s.cq q).inflight.find? (fun c => c.opcode == 3 && c.started && c.result.isNone) with
    | some k => if s.waitMet k then (s.cmdResult q k.num St.OK).cqWait q 0 0 else s
    | none => s)

/-- SIGNAL_SET (R163, R419). -/
def execSignalSet (q : Nat) (s : State) : Host.Outcome State Fault Refusal :=
  .next (s.cmdStart q 4 (fun s k =>
    let n := k.fld 0x10 16
    let v := k.fld 0x18 64
    if bit (k.fld 0x12 8) 0 then
      let (st, s) := s.sigAdd n v
      some (s, some st)
    else some (s.sigSet n v, some St.OK)))

/-! ### Power hints (R456) -/

/-- POWER_HINT (R456): a START above 1,000 is out of range. -/
def execPowerHint (q : Nat) (s : State) : Host.Outcome State Fault Refusal :=
  .next (s.cmdStart q 9 (fun s k =>
    let fn := s.cmdqFn q
    let start := k.opnd 0x10 17 8
    if start > 1000 then some (s, some St.INVALID_ARG)
    else
      let e := (min 64 (k.opnd 0x10 7 0), k.since + (start + 1000) * 1000)
      let m := (s.coresOf fn).foldl (fun m c => NMap.put c e m) s.pwr.hint
      some ({ s with pwr := { s.pwr with hint := m } }, some St.OK)))

/-! ### FENCE, QUIESCE and STOP (R423, R424) -/

/-- Stop fetching on queues, abort what they run where `abort` says so, and wait for the rest. -/
def State.fence (s : State) (fn : Nat) (cmd : Option (Nat × Nat)) (targets : List Nat) (abort : Bool) : State :=
  let s := targets.foldl (fun s t => s.cqFstop t true) s
  let f : Fence := ⟨fn, cmd, targets.map (fun t => (t, s.host.order))⟩
  let s := { s with host := { s.host with fences := s.host.fences ++ [f] } }
  if abort then (targets.foldl (fun s t => s.queueAbort t) s).ctxNote (match targets with | [t] => pQueue t | _ => pQueues fn) else s

/-- FENCE_CMD (R423). -/
def execFenceCmd (q : Nat) (s : State) : Host.Outcome State Fault Refusal :=
  .next (s.cmdStart q 10 (fun s k =>
    let fn := s.cmdqFn q
    let abort := bit (k.fld 0x12 8) 1
    if bit (k.fld 0x12 8) 0 then some (s.fence fn (some (q, k.num)) (s.dataQueues fn) abort, none)
    else
      match s.cmdqOf fn (k.opnd 0x10 11 0) with
      | none => some (s, some St.INVALID_ARG)
      | some t =>
        if s.cqClass t = 0 then some (s, some St.INVALID_ARG) else some (s.fence fn (some (q, k.num)) [t] abort, none)))

/-- FENCE_CMD_DONE (R423): the FENCE of descriptor `num` of queue `q` finds every command of its targets completed. -/
def execFenceCmdDone (q num : Nat) (s : State) : Host.Outcome State Fault Refusal :=
  .next (match s.host.fences.find? (fun f => decide (f.cmd = some (q, num))) with
    | none => s
    | some f =>
      if s.fenceMet f = false then s
      else
        ({ s with host := { s.host with fences := s.host.fences.filter (fun f => decide (f.cmd ≠ some (q, num))) } }).cmdResult
          q num St.OK)

/-- The pages that a QUIESCE of a function acts on. -/
def State.quiescePages (s : State) (fn : Nat) : List Nat := (s.coresOf fn).map pCore ++ [pCol fn]

/-- QUIESCE (R423). -/
def execQuiesce (q : Nat) (s : State) : Host.Outcome State Fault Refusal :=
  .next (if (match s.cqFirst q with
      | some (_, c) => c.opcode == 11 && bit (c.fld 0x10 8) 0
      | none => false) then s
    else s.cmdStart q 11 (fun s k =>
      let fn := s.cmdqFn q
      let s := (s.dataQueues fn).foldl (fun s t => s.cqQstop t true) s
      let s := (s.quiescePages fn).foldl (fun s p => if s.quiescing p then s else s.quiesceSet p) s
      let l := NMap.get [] s.host.quiesce fn ++ [(q, k.num)]
      some (({ s with host := { s.host with quiesce := NMap.put fn l s.host.quiesce } }).quiesceCheck fn, none)))

/-- QUIESCE_RESUME (R423). -/
def execQuiesceResume (q : Nat) (s : State) : Host.Outcome State Fault Refusal :=
  .next (if (match s.cqFirst q with
      | some (_, c) => c.opcode == 11 && !(bit (c.fld 0x10 8) 0)
      | none => false) then s
    else s.cmdStart q 11 (fun s _ =>
      let fn := s.cmdqFn q
      let s := (s.quiescePages fn).foldl (fun s p => s.quiesceClear p) s
      some ((s.dataQueues fn).foldl (fun s t => s.cqQstop t false) s, some St.OK)))

/-- The stop path (R424, R491): FENCE with ALL and ABORT. -/
def State.stopFn (s : State) (fn : Nat) : State :=
  ((s.wr R.HIF_FUNC_STATUS_STOP_BUSY (pHif fn) 1).fence fn none (s.dataQueues fn) true).stopCheck fn

/-- FUNC_STOP (R424): FUNC_CTRL.STOP = 1 on the HIF page of `fn`. -/
def execFuncStop (req fn : Nat) (s : State) : Host.Outcome State Fault Refusal :=
  .next (if s.mayWrite req (pHif fn) then s.stopFn fn else s)

/-- FUNC_CTRL_EN (R434): clearing it disables every queue of the function. -/
def execFuncCtrlEn (req fn : Nat) (en : Bool) (s : State) : Host.Outcome State Fault Refusal :=
  .next (if s.mayWrite req (pHif fn) = false then s
    else
      let s := (s.wrB R.HIF_FUNC_CTRL_EN (pHif fn) en).wrB R.HIF_FUNC_STATUS_EN (pHif fn) en
      if en then s
      else (s.evtqsOf fn).foldl (fun s q => s.eqDisable q) ((s.cmdqsOf fn).foldl (fun s q => s.cqEn q false) s))

/-! ### Resources (R406, R407, R376) -/

/-- The assignment that the RES registers of a function stage. -/
def State.resStaged (s : State) (fn : Nat) : Fn :=
  let p := pHif fn
  { cmdqBase := s.rg R.HIF_RES_CMDQ_BASE p, cmdqCount := s.rg R.HIF_RES_CMDQ_COUNT p,
    evtqBase := s.rg R.HIF_RES_EVTQ_BASE p, evtqCount := s.rg R.HIF_RES_EVTQ_COUNT p,
    commBase := s.rg R.HIF_RES_COMMQ_BASE p, commCount := s.rg R.HIF_RES_COMMQ_COUNT p,
    sigBase := s.rg R.HIF_RES_SIG_BASE p, sigCount := s.rg R.HIF_RES_SIG_COUNT p,
    flows := s.rg R.HIF_RES_FLOWS_QUOTA p, framesHbm := s.rg R.HIF_RES_FRAMES_HBM p,
    framesFar := s.rg R.HIF_RES_FRAMES_FAR p, weight := s.rg R.HIF_RES_CTRL_CDMA_WEIGHT p }

/-- The quads that the RES registers of a function stage. -/
def State.quadsStaged (s : State) (fn : Nat) : List Nat :=
  (List.range 256).filter (fun q => bit (s.rg (R.HIF_RES_QUADS_MASK (q / 32)) (pHif fn)) (q % 32))

/-- Whether two ranges of a base and a count share a number. -/
def rangesMeet (a n b m : Nat) : Bool := decide (0 < n) && decide (0 < m) && decide (a < b + m) && decide (b < a + n)

/-- Frames mapped in the far tier over all expanders (R266). -/
def State.farFrames (s : State) : Nat :=
  ((List.range 4).map (fun d => s.rg (R.FAR_DEV_BASE_FRAMES d) pFar)).foldl (· + ·) 0

/-- Frames of the stacks in service that the module offers (R253, R574). -/
def State.hbmFrames (s : State) : Nat :=
  18424 * ((List.range 8).filter (fun m => bit (s.rg R.TOP_MEM_PORT_PRESENT_MEM pTop) m)).length

/-- The checks of RES_CTRL.GO in order (R407). -/
def State.resCheck (s : State) (fn : Nat) : Nat :=
  let r := s.resStaged fn
  let qs := s.quadsStaged fn
  let others := s.host.fns.filter (fun e => decide (e.1 ≠ fn))
  let sum (f : Fn → Nat) : Nat := (others.map (fun e => f e.2)).foldl (· + ·) (f r)
  if s.flag R.HIF_FUNC_CTRL_EN (pHif fn) = true ∨ s.cmdsOf fn ≠ [] then St.FUNC_ACTIVE
  else if qs.any (fun q => !(s.quadPresent q)) = true ∨ r.cmdqBase + r.cmdqCount > 4096 ∨ r.evtqBase + r.evtqCount > 1024
      ∨ r.commBase + r.commCount > 4096 ∨ r.sigBase + r.sigCount > 65536 ∨ r.flows > 1048576 ∨ r.weight = 0 then St.INVALID_ARG
  else if qs.any (fun q => match s.quadFn q with
        | some f => decide (f ≠ fn)
        | none => false) = true
      ∨ others.any (fun e => rangesMeet r.cmdqBase r.cmdqCount e.2.cmdqBase e.2.cmdqCount
        || rangesMeet r.evtqBase r.evtqCount e.2.evtqBase e.2.evtqCount
        || rangesMeet r.commBase r.commCount e.2.commBase e.2.commCount
        || rangesMeet r.sigBase r.sigCount e.2.sigBase e.2.sigCount) = true
      ∨ sum Fn.framesHbm > s.hbmFrames ∨ sum Fn.framesFar > s.farFrames then St.RES_OVERLAP
  else St.OK

/-- EVT_QUEUE of a page whose owner changes returns to 0, the default (R18, R19). -/
def State.ownersChange (s0 s : State) : State :=
  ((List.range 1024).map pCore ++ (List.range 64).map pClu ++ (List.range 64).map pChc).foldl (fun s p =>
    if s0.owner p = s.owner p then s else s.wr R.HDR_EVT_QUEUE_QUEUE p 0) s

/-- The checked assignment is applied (R407). -/
def State.resApply (s : State) (fn : Nat) : State :=
  let old := s.fnRes fn
  let r := s.resStaged fn
  let qs := s.quadsStaged fn
  let s0 := s
  let own := (s.quadsOf fn).foldl (fun m q => NMap.put q 0 m) s.host.quadOwner
  let own := qs.foldl (fun m q => NMap.put q (fn + 1) m) own
  let s := { s with host := { s.host with fns := NMap.put fn r s.host.fns, quadOwner := own } }
  let isNew (n : Nat) : Bool := !(decide (old.sigBase ≤ n) && decide (n < old.sigBase + old.sigCount))
  let s := { s with sig := s.sig.filter (fun e =>
    !(decide (r.sigBase ≤ e.1) && decide (e.1 < r.sigBase + r.sigCount) && isNew e.1)) }
  let s := (s.wr R.XPT_FLOW_QUOTA_QUOTA (pXpt fn) r.flows).wr R.COL_CQ_RANGE_COUNT (pCol fn) r.commCount
  let s := s.wr R.COL_CQ_RANGE_BASE (pCol fn) r.commBase
  let ded := defaultQuads qs
  let s := (List.range 8).foldl (fun s m => s.wr (R.COL_COLL_QUADS_MASK m) (pCol fn)
    ((ded.filter (fun q => decide (q / 32 = m))).foldl (fun x q => setBit x (q % 32)) 0)) s
  let s := (s.quadsApply fn).wrB R.HIF_FUNC_STATUS_PARTITION (pHif fn) (decide (qs ≠ []))
  s0.ownersChange s

/-- RES_GO (R407): function `req` writes RES_CTRL.GO on the HIF page of `fn`; only PF0's write takes effect (R406). -/
def execResGo (req fn : Nat) (s : State) : Host.Outcome State Fault Refusal :=
  let p := pHif fn
  .next (if req ≠ 0 ∨ s.mayWrite 0 p = false ∨ s.flag R.HIF_RES_RESULT_DONE p = false then s
    else
      let st := s.resCheck fn
      (if st = St.OK then s.resApply fn else s).wr R.HIF_RES_RESULT_STATUS p st)

/-! ### BAR4 (R411) -/

/-- BAR4_ACCESS (R411): a read, or a write of `val`, of `width` bits at offset `off` of the function's BAR4, where its requests are
performed (R402, R404). -/
def execBar4Access (fn off width : Nat) (val : Option Nat) (s : State) : Host.Outcome State Fault Refusal :=
  let n := off / 8
  .next (if s.hostUp fn = false then s
    else if width ≠ 64 ∨ off % 8 ≠ 0 ∨ n ≥ 65536 then (if val.isNone then { s with rdata := [0] } else s)
    else if s.ownsSig fn n then
      match val with
      | none => { s with rdata := [s.sigVal n] }
      | some v => s.sigSet n v
    else
      let s := (s.cnt (pHif fn) Cn.HIF_SIG_DENIED).raise (pHif fn) Er.HIF_SIG_DENIED
      if val.isNone then { s with rdata := [0] } else s)

end Sys2Proof.Machine
end

