-- ==== Sys2Proof/Machine/Page.lean ====
section
/-!
DEFINITION. The registers of a page as they read (R9, R11, R602): which instance of a banked field a page shows, fields that are
read through an index or computed, and the words of a page.
-/

namespace Sys2Proof.Machine

/-- Whether a field lies at offsets `lo` to `hi` (exclusive) of its page. -/
def Fld.at (f : Fld) (lo hi : Nat) : Bool := decide (8 * lo ≤ f.pos) && decide (f.pos < 8 * hi)

/-- The instance of a field that a page shows: a queue's registers follow the page's selector (R398, R435, R436, R568); `none`
where the selector names nothing. -/
def State.regInst (s : State) (p : Nat) (f : Fld) : Option Nat :=
  let fn := p % 256
  match f.blk with
  | 0x51 => if f.at 0x108 0x1000 then s.cqSel fn else some p
  | 0x52 => if f.at 0x108 0x1000 then s.eqSel fn else some p
  | 0x40 => if f.at 0x1A4 0x1B0 then s.commqOf fn (s.rg R.COL_CQ_SEL_GID p) else some p
  | 0x53 => if f.at 0x178 0x190 then some (twInst fn (s.rg R.DBG_TW_IDX_POINT p)) else some p
  | 0x12 => if f.at 0x1B0 0x1B8 then some (0x10000 + s.rg R.PWR_IC_IDX_DOMAIN p) else some p
  | _ => some p

/-- An entry of the retirement map as RMAP_DATA shows it (R527). -/
def rmapWord (e : Nat × Nat × Bool) : Nat := if e.1 = 0 then 0 else e.1 + b2n e.2.2 * 2 ^ 8 + e.2.1 * 2 ^ 16

/-- HBM frame that FRAME_CNT_IDX of a MEM page names (R252, R271). -/
def State.cntFrame (s : State) (p : Nat) : Nat := (p - 0x010) * 2 ^ 15 + s.rg R.MEM_FRAME_CNT_IDX_PAGE p

/-- Whether the unit of a page is fenced, or out of service by a retirement of its own, of its core's quad or of its cluster (R12, R36,
R503). -/
def State.unitAbsent (s : State) (p : Nat) : Bool :=
  s.fencedP p || s.isRetired 9 p ||
    match blkOf p with
    | 0x60 => s.isRetired 2 ((p - 0x200) / 4) || s.isRetired 3 ((p - 0x200) / 16)
    | 0x58 => s.isRetired 3 (p - 0x040)
    | 0x59 => s.isRetired 3 (p - 0x080)
    | _ => false

/-- A field as a page shows it. RNG_DIGEST is current whenever STATE is 0, also after reset, where its Reset column says 0 (R171): DESIGN
CHOICE, log entry 138. -/
def State.fldVal (s : State) (p : Nat) (f : Fld) : Nat :=
  let fn := p % 256
  if f.acc = .wo then 0
  else if (f.id = R.HDR_CAP0_CAP.id ∨ f.id = R.HDR_CAP1_CAP.id) ∧ s.unitAbsent p = true then 0
  else if f.id = R.KPR_KSTATE_RESTARTS.id then
    min 3 (s.recov.expiries.filter (fun t => decide (s.tbc ≤ t + 3600000000000))).length
  else if f.id = R.DBG_VIS_CLOSED.id then s.rg f (pDbg 0)
  else if f.id = R.CORE_RNG_DIGEST_CRC.id then (s.core (p - 0x200)).rngDigest
  else if f.id = R.MEM_WCB_STATUS_FILL.id then (s.wcb (p - 0x010)).length
  else if f.id = R.MEM_FRAME_CNT_READS.id then (NMap.get (0, 0) s.hbm.frameCnt (s.cntFrame p)).1
  else if f.id = R.MEM_FRAME_CNT_WRITES.id then (NMap.get (0, 0) s.hbm.frameCnt (s.cntFrame p)).2
  else if f.id = R.FAR_FRAME_CNT_ACCESSES.id then NMap.get 0 s.hbm.farCnt (s.rg R.FAR_FRAME_CNT_IDX_FRAME p)
  else if f.id = R.RTE_EXC_DATA_ENTRY.id then
    PMap.get 0 s.net.exc (1 - s.rg R.RTE_EXC_CTRL_ACTIVE p, s.rg R.RTE_EXC_IDX_IDX p)
  else if f.id = R.RTE_PATCH_DATA_ENTRY.id then NMap.get 0 s.net.patch (s.rg R.RTE_PATCH_IDX_IDX p)
  else if f.id = R.COL_GRP_DATA_ENTRY.id then
    match s.commqOf fn (s.rg R.COL_GRP_IDX_IDX p) with
    | some g => PMap.get 0 s.coll.grp (1 - s.rg R.COL_GRP_CTRL_ACTIVE p, g)
    | none => 0
  else if f.id = R.COL_GRP_ACTIVE_ENTRY.id then
    match s.commqOf fn (s.rg R.COL_GRP_IDX_IDX p) with
    | some g => s.grpEntry g
    | none => 0
  else if f.blk = 0x40 ∧ f.at 0x1C8 0x1D0 = true then bits (s.nbrResult fn) (f.pos % 64 + f.width - 1) (f.pos % 64)
  else if f.id = R.LOG_RMAP_DATA_ENTRY.id then
    rmapWord (s.rmapAt (1 - s.rg R.LOG_RMAP_CTRL_ACTIVE p) (s.rg R.LOG_RMAP_IDX_IDX p))
  else if f.id = R.PWR_EN_DATA_UJ.id then
    (if s.flag R.PWR_EN_IDX_FUNC p then NMap.get 0 s.pwr.fnEnergy (s.rg R.PWR_EN_IDX_INDEX p)
      else NMap.get 0 s.pwr.energy (s.rg R.PWR_EN_IDX_INDEX p)) % 2 ^ 64
  else if f.id = R.PWR_MARGIN_SLACK.id then (NMap.get (0, 255) s.pwr.slack (s.rg R.PWR_MARGIN_IDX_CLUSTER p)).1
  else if f.id = R.PWR_MARGIN_LOW.id then (NMap.get (0, 255) s.pwr.slack (s.rg R.PWR_MARGIN_IDX_CLUSTER p)).2
  else
    match s.regInst p f with
    | some i => s.rg f i
    | none => 0

/-- The fields that overlap the `n` bytes at an offset of a page. -/
def fieldsAt (p off n : Nat) : List Fld :=
  (fieldsOfPage p).filter (fun f => decide (f.pos < 8 * (off + n)) && decide (8 * off < f.pos + f.width))

/-- The `n` bytes at an offset of a page as one number: reserved bits and undefined offsets read 0 (R11). -/
def State.pageVal (s : State) (p off n : Nat) : Nat :=
  ((fieldsAt p off n).map (fun f =>
    let v := s.fldVal p f
    if f.pos ≥ 8 * off then v * 2 ^ (f.pos - 8 * off) % 2 ^ (8 * n) else v / 2 ^ (8 * off - f.pos) % 2 ^ (8 * n))).foldl (· + ·) 0

/-- The counter whose low or high half lies at an offset (R12). -/
def cntHalf (off : Nat) : Option (Nat × Bool) :=
  if 0x060 ≤ off ∧ off < 0x080 ∧ off % 4 = 0 then some ((off - 0x060) / 8, decide (off % 8 = 4)) else none

/-- A word of PEER_CHAR is read (R319): the first takes the whole frame, of which the words read after it, up to the last, are parts
(log entry 131). -/
def State.charRead (s : State) (p off : Nat) : Nat × State :=
  let key : Nat × Nat := (p, 2 * 0x110 + 1)
  let now := s.rg R.LNK_PEER_CHAR_CHAR p
  let c := if off = 0x110 then now else PMap.get now s.latch key
  let latch := if off = 0x110 then PMap.put key now s.latch else if off = 0x13C then Map.del key s.latch else s.latch
  (c / 2 ^ (8 * (off - 0x110)) % 2 ^ 32, { s with latch := latch })

/-- A 32-bit read of a page: the low half of a counter latches the high half, and the next read of the high half takes what was
latched (R22). -/
def State.read32 (s : State) (p off : Nat) : Nat × State :=
  match cntHalf off with
  | none => if blkOf p = 0x30 ∧ 0x110 ≤ off ∧ off < 0x140 ∧ off % 4 = 0 then s.charRead p off else (s.pageVal p off 4, s)
  | some (n, high) =>
    let key : Nat × Nat := (p, 2 * (0x060 + 8 * n) + 1)
    if high then (PMap.get (s.pageVal p off 4) s.latch key, { s with latch := Map.del key s.latch })
    else (s.pageVal p off 4, { s with latch := PMap.put key (s.rg (cntCount n) p / 2 ^ 32) s.latch })

/-- `n` 32-bit reads from an offset on, one after the other; words past the page's end read 0. -/
def State.readWords (s : State) (p off : Nat) : Nat → List Nat × State
  | 0 => ([], s)
  | n + 1 =>
    let (w, s) := if off < 4096 then s.read32 p off else (0, s)
    let (ws, s) := s.readWords p (off + 4) n
    (w :: ws, s)

/-- Bytes of a page, as a sequence of 32-bit reads gives them. -/
def State.pageBytes (s : State) (p off n : Nat) : List Nat :=
  (List.range (n / 4)).flatMap (fun i => leBytes 4 (s.pageVal p (off + 4 * i) 4))

end Sys2Proof.Machine
end

