-- ==== Sys2Proof/Machine/Dump.lean ====
section
/-!
DEFINITION. Dumps (R484–R490, R566): the sections, the wait-for graph, the header written last, and the commands that start and end a
dump; the summary of an incident (R518–R520).
-/

namespace Sys2Proof.Machine

/-! ### Sections 1 to 3, 5 and 6 (R487, R488) -/

/-- Section 1 for a function: its command queues, their descriptors in flight, its communication queues and its step machine. -/
def State.dumpQueues (s : State) (fn : Nat) : List Nat :=
  let r := s.fnRes fn
  (List.range r.cmdqCount).flatMap (fun k =>
    (s.wr R.QUE_CQ_SEL_QUEUE (pQue fn) k).pageBytes (pQue fn) 0x124 0x1C
      ++ ((s.cq (r.cmdqBase + k)).inflight.take 8).flatMap (fun c => leBytes 64 c.desc))
  ++ (List.range r.commCount).flatMap (fun k => (s.wr R.COL_CQ_SEL_GID (pCol fn) k).pageBytes (pCol fn) 0x1A4 8)
  ++ s.pageBytes (pCol fn) 0x800 0x90

/-- Section 2 for a function: the values of its signals. -/
def State.dumpSignals (s : State) (fn : Nat) : List Nat :=
  let r := s.fnRes fn
  (List.range r.sigCount).flatMap (fun i => leBytes 8 (s.sigVal (r.sigBase + i)))

/-- The clusters that hold a quad of a function's partition. -/
def State.clustersOf (s : State) (fn : Nat) : List Nat :=
  (List.range 64).filter (fun n => [0, 1, 2, 3].any (fun i => s.quadFn (4 * n + i) == some fn))

/-- Flows of a function with unacknowledged frames, by FLOW_ID. -/
def State.flowsOpen (s : State) (fn : Nat) : List Nat :=
  (s.net.flows.filter (fun e => decide (e.2.fn = fn) && !e.2.sent.isEmpty)).map (fun e => e.1)

/-- Section 3 for a function. -/
def State.dumpEngines (s : State) (fn : Nat) : List Nat :=
  (s.coresOf fn).flatMap (fun c =>
    let p := pCore c
    s.pageBytes p 0x014 4 ++ s.pageBytes p 0x100 0x44 ++ s.pageBytes p 0x400 0x10 ++ s.pageBytes p 0x600 0x18)
  ++ (s.clustersOf fn).flatMap (fun n => s.pageBytes (pClu n) 0x014 4 ++ s.pageBytes (pClu n) 0x100 0x10)
  ++ s.pageBytes (pCol fn) 0x014 4 ++ s.pageBytes (pCol fn) 0x1A0 0x20
  ++ ((s.flowsOpen fn).take 4096).flatMap (fun f => leBytes 64 (s.flow f).image)

/-- The samples of one core's scratchpad (R488); those of a core whose domain is off or that is fenced are absent. -/
def State.dumpCore (s : State) (len stride c : Nat) : List Nat :=
  if s.pageOn (pCore c) = false ∨ s.fencedP (pCore c) = true then leBytes 2 c ++ leBytes 2 0xFFFF ++ List.replicate 12 0
  else
    let lines := (List.range (2 ^ 19 / 2 ^ stride)).flatMap (fun i =>
      (List.range (2 ^ len / 64)).map (fun j => i * 2 ^ stride / 64 + j))
    let bad := lines.filter (fun l => s.poisoned (aSpad c (64 * l)))
    leBytes 2 c ++ leBytes 2 bad.length ++ leBytes 12 (bad.head?.getD 0 % 2 ^ 13)
      ++ lines.flatMap (fun l =>
        if s.poisoned (aSpad c (64 * l)) then List.replicate 64 0 else s.rbs (aSpad c (64 * l)) 64)

/-- Section 5 for a function: sampled as the DUMP_CFG of page `h` says. -/
def State.dumpSamples (s : State) (h fn : Nat) : List Nat :=
  (s.coresOf fn).flatMap (s.dumpCore (s.rg R.HIF_DUMP_CFG_LEN_LOG2 h) (s.rg R.HIF_DUMP_CFG_STRIDE_LOG2 h))

/-- Section 6: the last 64 records of the function's default event queue, as its ring holds them. -/
def State.dumpEvents (s : State) (fn : Nat) : List Nat :=
  match s.evtqOf fn (s.rg R.HIF_EQ_DEFAULT_QUEUE (pHif fn)) with
  | none => []
  | some q =>
    let l := (s.eq q).hist
    let prod := s.rg R.EVT_EQ_PROD_COUNT q
    (l.zipIdx).flatMap (fun e =>
      let n := (prod + 2 ^ 32 + e.2 - l.length) % 2 ^ 32
      leBytes 32 (e.1.bytes (1 - n / s.eqSize q % 2)))

/-! ### The wait-for graph (R489, R566) -/

/-- A node: KIND, ID, what tells nodes of one ID apart, and its fields. -/
structure GNode where
  kind : Nat
  id : Nat
  sub : Nat
  fn : Nat
  value : Nat
  aux : Nat
  since : Nat
  remote : Bool
  deriving DecidableEq, Repr

/-- The name of a node in the edges: KIND, ID and what tells nodes of one ID apart. -/
abbrev GKey := Nat × Nat × Nat

/-- A node's name. -/
def GNode.key (n : GNode) : GKey := (n.kind, n.id, n.sub)

/-- Insert a node in the order of R566. -/
def GNode.insert (n : GNode) : List GNode → List GNode
  | [] => [n]
  | m :: l =>
    if n.kind < m.kind ∨ (n.kind = m.kind ∧ (n.id < m.id ∨ (n.id = m.id ∧ n.sub < m.sub))) then n :: m :: l
    else if n.key = m.key then m :: l
    else m :: GNode.insert n l

/-- Descriptors of a function with their node names: engine and slot in the engine's queues. -/
def State.gDescs (s : State) (fn : Nat) : List (GKey × DmaDesc) :=
  s.dma.flatMap (fun e => ((e.2.all.zipIdx).filter (fun d => decide (d.1.fn = fn))).map (fun d => ((4, e.1 * 65536 + d.2, 0), d.1)))

/-- The flows that carry frames of a descriptor not yet acknowledged. -/
def State.descFlows (s : State) (d : DmaDesc) : List Nat :=
  if d.tag = 0 then []
  else (s.net.flows.filter (fun e => (e.2.sent ++ e.2.waitq).any (fun r => decide (r.tag = d.tag)))).map (fun e => e.1)

/-- The name of a command's node. -/
def gCmd (q : Nat) (c : Cmd) : GKey := (3, c.num, q)

/-- The descriptors that a FENCE waits on: those of the core in its scopes, or those that the kernels of the fenced commands queued. -/
def State.fenceDescs (s : State) (fn : Nat) (sel : DmaDesc → Bool) : List (GKey × DmaDesc) :=
  (s.gDescs fn).filter (fun d => sel d.2)

/-- The edges of a function's graph. -/
def State.gEdges (s : State) (fn : Nat) : List (GKey × GKey) :=
  let cores := s.coresOf fn
  let cmds := s.cmdsOf fn
  let descs := s.gDescs fn
  let waits := cores.filterMap (fun c => match (s.core c).wait with
      | some (.sig n _) => some ((1, c, 0), n)
      | _ => none)
    ++ (s.cmdqsOf fn).filterMap (fun q => if s.rg R.QUE_CQ_WAIT_OPCODE q = 3 then some ((2, q, 0), s.rg R.QUE_CQ_WAIT_SIG q) else none)
  let sigs := (waits.map (fun w => w.2)).dedup
  let toSig : List (GKey × GKey) := waits.map (fun w => (w.1, (7, w.2, 0)))
  let fromSig : List (GKey × GKey) := sigs.flatMap (fun n =>
    (cmds.filter (fun c => decide (c.2.inc ≠ 0) && decide (c.2.sig = n))).map (fun c => (((7, n, 0) : GKey), gCmd c.1 c.2))
    ++ (descs.filter (fun d => decide (d.2.inc ≠ 0) && decide (d.2.sig = n))).map (fun d => (((7, n, 0) : GKey), d.1))
    ++ (s.net.flows.filter (fun f => decide (f.2.fn = fn) && decide (f.2.sigBase ≤ n) && decide (n < f.2.sigBase + f.2.sigCount))).map
      (fun f => (((7, n, 0) : GKey), ((8, f.1, 0) : GKey))))
  let step : List (GKey × GKey) :=
    if s.stepState fn = 2 then (cmds.filter (fun c => !c.2.isStep)).map (fun c => (((6, fn, 0) : GKey), gCmd c.1 c.2)) else []
  let both (k : GKey) (l : List (GKey × DmaDesc)) : List (GKey × GKey) :=
    l.flatMap (fun d => (k, d.1) :: (s.descFlows d.2).map (fun f => (k, ((8, f, 0) : GKey))))
  let fenceI := cores.flatMap (fun c => match (s.core c).wait with
    | some (.fence scopes) =>
      let puts := (s.net.flows.filter (fun f => (f.2.waitq ++ f.2.sent).any (fun r => decide (r.op = 1) && decide (r.src.map Prod.fst = some c)))).map
        (fun f => f.1)
      (s.fenceDescs fn (fun d => decide (d.core = c) && (bit scopes 1 || (bit scopes 2 && decide (d.desc % 16 = 5))))).map
        (fun d => (((1, c, 0) : GKey), d.1))
      ++ (if bit scopes 2 then puts.map (fun f => (((1, c, 0) : GKey), ((8, f, 0) : GKey))) else [])
    | _ => [])
  let fenceC := s.host.fences.flatMap (fun f => match f.cmd with
    | some (q, num) =>
      if f.fn = fn then both (3, num, q) (s.fenceDescs fn (fun d => match d.launch with
        | some (t, _) => f.targets.any (fun x => decide (x.1 = t))
        | none => false)) else []
    | none => [])
  let own := descs.flatMap (fun d => (s.descFlows d.2).map (fun f => (d.1, ((8, f, 0) : GKey))))
  toSig ++ fromSig ++ step ++ fenceI ++ fenceC ++ own

/-- The nodes of a function's graph: cores that run, command queues with commands, the commands, descriptors, communication queues
with operations, the step machine once armed, and the signals and flows at work. -/
def State.gNodes (s : State) (fn : Nat) (edges : List (GKey × GKey)) : List GNode :=
  let r := s.fnRes fn
  let cores := (s.coresOf fn).filterMap (fun c =>
    let x := s.core c
    if x.launch.isNone then none
    else some (⟨1, c, 0, fn, (match x.wait with | some (.sig _ v) => v | _ => 0), 0, 0, false⟩ : GNode))
  let queues := (s.cmdqsOf fn).filterMap (fun q =>
    if (s.cq q).inflight = [] then none
    else
      let w := (s.cq q).inflight.find? (fun c => c.opcode == 3 && c.started && c.result.isNone)
      some (⟨2, q, 0, fn, (w.map (fun c => c.fld 0x18 64)).getD 0, 0, (w.map (fun c => c.since)).getD 0, false⟩ : GNode))
  let cmds := (s.cmdsOf fn).map (fun c => (⟨3, c.2.num, c.1, fn, 0, c.2.opcode, c.2.since, false⟩ : GNode))
  let descs := (s.gDescs fn).map (fun d => (⟨4, d.1.2.1, 0, fn, 0, 0, 0, false⟩ : GNode))
  let comms := (List.range r.commCount).filterMap (fun k =>
    match (s.commq (r.commBase + k)).ops with
    | o :: _ => some (⟨5, r.commBase + k, 0, fn, 0, 0, o.since, false⟩ : GNode)
    | [] => none)
  let step := if s.stepState fn = 0 then [] else [(⟨6, fn, 0, fn, 0, 0, (s.stepSt fn).sealTbc, false⟩ : GNode)]
  let named (k : Nat) : List Nat :=
    ((edges.flatMap (fun e => [e.1, e.2])).filterMap (fun x => if x.1 = k then some x.2.1 else none)).dedup
  let sigs := (named 7).map (fun n => (⟨7, n, 0, fn, s.sigVal n, 0, 0, false⟩ : GNode))
  let flows := ((named 8 ++ s.flowsOpen fn).dedup).map (fun f =>
    let x := s.flow f
    (⟨8, f, 0, fn, 0, x.peerMaddr + x.peerFlow * 2 ^ 32, 0, !x.sent.isEmpty⟩ : GNode))
  (cores ++ queues ++ cmds ++ descs ++ comms ++ step ++ sigs ++ flows).foldl (fun l n => n.insert l) []

/-- What is reached from a set of nodes along edges. -/
def gReach (edges : List (GKey × GKey)) : Nat → List GKey → List GKey
  | 0, l => l
  | k + 1, l =>
    let m := (edges.filter (fun e => decide (e.1 ∈ l) && !decide (e.2 ∈ l))).map (fun e => e.2)
    if m = [] then l else gReach edges k (l ++ m.dedup)

/-- Whether a node lies on a cycle. -/
def gOnCycle (edges : List (GKey × GKey)) (k : GKey) : Bool :=
  decide (k ∈ gReach edges edges.length ((edges.filter (fun e => decide (e.1 = k))).map (fun e => e.2)))

/-- Insert an edge of indices in the order of R566. -/
def edgeInsert (e : Nat × Nat) : List (Nat × Nat) → List (Nat × Nat)
  | [] => [e]
  | f :: l => if pairLt e f then e :: f :: l else if e = f then f :: l else f :: edgeInsert e l

/-- Section 4 and whether it is cut short. -/
def State.dumpGraph (s : State) (fn : Nat) : List Nat × Bool :=
  let edges := s.gEdges fn
  let all := s.gNodes fn edges
  let nodes := all.take 32768
  let ix (k : GKey) : Option Nat := nodes.findIdx? (fun n => decide (n.key = k))
  let es := (edges.filterMap (fun e => match ix e.1, ix e.2 with
    | some a, some b => some (a, b)
    | _, _ => none)).foldl (fun l e => edgeInsert e l) []
  let kept := es.take 131072
  let body (n : GNode) : List Nat :=
    let out := edges.any (fun e => decide (e.1 = n.key))
    let waits := if n.kind = 7 then false else out
    let noProd := decide (n.kind = 7) && edges.any (fun e => decide (e.2 = n.key)) && !out
    let fl := b2n waits + 2 * b2n (gOnCycle edges n.key) + 4 * b2n n.remote + 8 * b2n noProd
    leBytes 1 n.kind ++ leBytes 1 fl ++ leBytes 1 n.fn ++ [0] ++ leBytes 4 n.id ++ leBytes 8 n.value ++ leBytes 8 n.aux
      ++ leBytes 8 n.since
  let last := leBytes 4 0 ++ leBytes 4 nodes.length ++ leBytes 8 kept.length ++ List.replicate 16 0
  (nodes.flatMap body ++ last ++ kept.flatMap (fun e => leBytes 4 e.1 ++ leBytes 4 e.2),
   decide (all.length > 32768) || decide (es.length > 131072))

/-! ### Writing a dump (R484–R487) -/

/-- The functions that sections 1 to 3 and 5 cover. -/
def Dump.scope (d : Dump) : List Nat := if d.kind ≥ 2 ∧ d.level = 4 then List.range 256 else [d.fn]

/-- The six sections, and whether the graph is cut short. -/
def State.dumpSections (s : State) (d : Dump) : List (List Nat) × Bool :=
  let (g, cut) := s.dumpGraph d.fn
  let all (f : Nat → List Nat) : List Nat := d.scope.flatMap f
  ([all s.dumpQueues, all s.dumpSignals, all s.dumpEngines, g, all (s.dumpSamples (pHif d.fn)), s.dumpEvents d.fn], cut)

/-- The sections as far as `room` bytes take them: what is written, and (offset from the header, length) of each. -/
def dumpFit : Nat → Nat → List (List Nat) → List Nat × List (Nat × Nat)
  | _, _, [] => ([], [])
  | pos, room, x :: l =>
    let y := x.take room
    let (b, t) := dumpFit (pos + y.length) (room - y.length) l
    (y ++ b, (if y = [] then (0, 0) else (pos, y.length)) :: t)

/-- A function's dump ends: `stop` gives the bytes after the header that were written when it was stopped at MAX_MS, or `none`. The header
is written last. -/
def State.dumpWrite (s : State) (d : Dump) (stop : Option Nat) : State :=
  let h := pHif d.fn
  let base := aHost (s.rg R.HIF_DUMP_BASE_ADDR h * 4096)
  let room := s.rg R.HIF_DUMP_LEN_LEN h - 4096 - 128
  let (secs, cut) := s.dumpSections d
  let total := (secs.map List.length).foldl (· + ·) 0
  let (body, tab) := dumpFit 128 (match stop with | some n => min n room | none => room) secs
  let trunc := decide (body.length < total) || stop.isSome
  let flags := b2n trunc + 2 * b2n cut + 4 * b2n stop.isSome
  let st := if trunc then St.DUMP_TRUNCATED else St.OK
  let step := s.rg R.COL_STEP_COUNT_COUNT (pCol d.fn) + s.stepState d.fn * 2 ^ 48
  let head := leBytes 4 0x444C5354 ++ leBytes 4 1 ++ leBytes 8 d.begun
    ++ leBytes 4 (d.kind + d.level * 2 ^ 8 + d.code * 2 ^ 16) ++ leBytes 4 (d.source + d.bit * 2 ^ 16 + d.fn * 2 ^ 24)
    ++ leBytes 4 flags ++ leBytes 4 d.triggers ++ leBytes 8 body.length ++ leBytes 4 (crc32c body) ++ leBytes 4 0
    ++ leBytes 8 step ++ leBytes 8 s.tbc ++ tab.flatMap (fun t => leBytes 4 t.1 ++ leBytes 4 t.2) ++ List.replicate 16 0
  let s := s.wbs (base + 128) body
  let s := s.wbs base head
  let n := 128 + body.length
  let s := ((s.cnt pKpr Cn.KPR_DUMPS).cnt pKpr Cn.KPR_DUMP_BYTES n).wr R.HIF_DUMP_SIZE_BYTES h n
  let s := ((s.wr R.HIF_DUMP_STATUS_VALID h 1).wrB R.HIF_DUMP_STATUS_TRUNCATED h trunc).wrB R.HIF_DUMP_STATUS_TIMED_OUT h stop.isSome
  let s := (s.wr R.HIF_DUMP_STATUS_STATUS h st).wr R.HIF_DUMP_STATUS_BUSY h 0
  let s := s.incidentMap (fun i => { i with flags := setBit i.flags 3 })
  let s := { s with recov := { s.recov with dumps := Map.del d.fn s.recov.dumps } }
  if trunc then s.raise pKpr Er.KPR_DUMP_FAIL else s

/-! ### Incidents (R518–R520) -/

/-- The INC_SUMMARY record of the open incident (R520). -/
def State.incidentSummary (s : State) : State :=
  let i := s.log.incident
  let body := leBytes 4 i.number ++ leBytes 4 i.flags ++ leBytes 8 i.openTbc ++ leBytes 8 s.tbc ++ leBytes 4 i.c0 ++ leBytes 4 i.c1
    ++ leBytes 4 i.c2 ++ leBytes 4 i.notKept ++ leBytes 2 i.firstTyp ++ leBytes 2 i.firstSrc ++ leBytes 4 i.level
    ++ leBytes 8 i.step
  let l := s.log.summaries ++ [body]
  ({ s with log := { s.log with summaries := l.drop (l.length - 256) } }).logEvent 0x0212 1 body

/-- The open incident closes (R518–R520): the ring as positions 64 onward, then the summary. -/
def State.incidentEnd (s : State) : State :=
  let i := s.log.incident
  if i.isOpen = false then s
  else
    let s := (i.ring.zipIdx).foldl (fun s r =>
      s.logIncident 0x0211 r.1.cls (leBytes 4 i.number ++ leBytes 2 (64 + r.2) ++ leBytes 32 (r.1.bytes 0))) s
    let s := s.incidentSummary
    let s := { s with log := { s.log with incident := { s.log.incident with isOpen := false, ring := [], slots := [] } } }
    (s.wr R.LOG_LOG_STATUS_INC_OPEN pLog 0).wr R.LOG_INCIDENT_OPEN pLog 0

end Sys2Proof.Machine
end

