-- ==== Sys2Proof/Machine/Frames.lean ====
section
/-!
DEFINITION. Translation caches, the scheduled flips of the banked tables, requests for frames, and access counters (R268–R274, R282,
R327, R360, R361, R368, R409, R527).
-/

namespace Sys2Proof.Machine

/-! ### Translation caches (R269) -/

/-- XLT_INVAL (R269, R282): a write of XLT_INVAL on the HIF page of `fn`. -/
def execXltInval (req fn vpn count : Nat) (s : State) : Host.Outcome State Fault Refusal :=
  let h := pHif fn
  .next (if s.mayWrite req h = false ∨ s.flag R.HIF_XLT_INVAL_BUSY h = true then s
    else (s.wr R.HIF_XLT_INVAL_BUSY h 1).setXlt fn { s.xltFn fn with inval := some (vpn % 2 ^ 21, count % 2 ^ 21) })

/-- A function's entries for `n` VPNs from `v` leave every cluster's cache. -/
def State.tlbDrop (s : State) (fn v n : Nat) : State :=
  { s with hbm := { s.hbm with tlb := s.hbm.tlb.map (fun l =>
      (l.1, l.2.filter (fun e => decide (e.1 ≠ fn) || decide (e.2.1 < v) || decide (v + n ≤ e.2.1)))) } }

/-- XLT_INVAL_DONE (R269): the cached entries of the range are gone. -/
def execXltInvalDone (fn : Nat) (s : State) : Host.Outcome State Fault Refusal :=
  let x := s.xltFn fn
  .next (match x.inval with
    | none => s
    | some (v, n) =>
      ((s.tlbDrop fn v n).setXlt fn { x with inval := none }).wr R.HIF_XLT_INVAL_BUSY (pHif fn) 0)

/-! ### Scheduled flips (R270, R327, R360, R361, R368, R527) -/

/-- The fields of a page's banked table: DEFERRED, FLIP_ARM, SHADOW_READY, ACTIVE, the flip count, and the deferral's error
source. -/
structure FlipTab where
  deferred : Fld
  arm : Fld
  ready : Fld
  active : Fld
  tbc : Fld
  src : Nat

/-- The banked table of a page, by block: translation, route exceptions, group table, retirement map. -/
def flipTab (blk : Nat) : Option FlipTab :=
  match blk with
  | 0x50 => some ⟨R.HIF_XLT_CTRL_DEFERRED, R.HIF_XLT_CTRL_FLIP_ARM, R.HIF_XLT_CTRL_SHADOW_READY, R.HIF_XLT_CTRL_ACTIVE,
      R.HIF_XLT_FLIP_TBC_TBC, 24⟩
  | 0x31 => some ⟨R.RTE_EXC_CTRL_DEFERRED, R.RTE_EXC_CTRL_FLIP_ARM, R.RTE_EXC_CTRL_SHADOW_READY, R.RTE_EXC_CTRL_ACTIVE,
      R.RTE_EXC_FLIP_TBC_TBC, Er.RTE_EXC_DEFER⟩
  | 0x40 => some ⟨R.COL_GRP_CTRL_DEFERRED, R.COL_GRP_CTRL_FLIP_ARM, R.COL_GRP_CTRL_SHADOW_READY, R.COL_GRP_CTRL_ACTIVE,
      R.COL_GRP_FLIP_TBC_TBC, Er.COL_GRP_DEFER⟩
  | 0x14 => some ⟨R.LOG_RMAP_CTRL_DEFERRED, R.LOG_RMAP_CTRL_FLIP_ARM, R.LOG_RMAP_CTRL_SHADOW_READY, R.LOG_RMAP_CTRL_ACTIVE,
      R.LOG_RMAP_FLIP_TBC_TBC, Er.LOG_RMAP_DEFER⟩
  | _ => none

/-- Whether a page's shadow bank is frozen (R361). -/
def State.frozen (s : State) (p : Nat) : Bool :=
  match flipTab (blkOf p) with
  | some t => s.flag t.arm p && s.flag t.ready p
  | none => false

/-- The retirement map has flipped (R527): RMAP_FLIP, then an UNRETIRE record for each entry CLEARED in the bank now active, which
leaves both banks. A lane's RETIRED bit, the log's state of it (R319), follows at once; the lane is used from its next training on. -/
def State.rmapFlipped (s : State) : State :=
  let bank := s.rg R.LOG_RMAP_CTRL_ACTIVE pLog
  let gone := (s.log.rmap.filter (fun e => decide (e.1 / 16384 = bank) && decide (e.2.1 ≠ 0) && e.2.2.2)).map
    (fun e => (e.2.1, e.2.2.1))
  let s := s.logStateRec 0x0112 (leBytes 8 s.tbc ++ leBytes 4 gone.length)
  let s := gone.foldl (fun s u =>
    let cause := PMap.get 0 s.log.image.retired u - 1
    let s := s.logStateRec 0x0111 (leBytes 4 u.1 ++ leBytes 4 u.2 ++ leBytes 2 cause)
    { s with log := { s.log with
        image := s.log.image.unretire u.1 u.2
        rmap := s.log.rmap.filter (fun e => !(decide (e.2.1 = u.1) && decide (e.2.2.1 = u.2))) } }) s
  let lanes := (gone.filter (fun u => decide (u.1 = 7))).map (fun u => u.2)
  let s := lanes.foldl (fun s i =>
    s.wr R.LNK_PORT_STATUS_RETIRED (pLnk (i / 8)) (s.rg R.LNK_PORT_STATUS_RETIRED (pLnk (i / 8)) &&& (255 ^^^ 2 ^ (i % 8)))) s
  let s := s.wr R.LOG_RMAP_COUNT_COUNT pLog (s.rg R.LOG_RMAP_COUNT_COUNT pLog - gone.length)
  if gone = [] then s else s.wr R.LOG_RMAP_COUNT_FULL pLog 0

/-- What a flip of a page's table brings with it. -/
def State.flipped (s : State) (p old : Nat) : State :=
  match blkOf p with
  | 0x50 => ((s.tlbDrop (p % 256) 0 (2 ^ 21)).setXlt (p % 256) { s.xltFn (p % 256) with awaiting := [] }).framesLeave
  | 0x40 => (s.grpFlipped (p % 256) old).digestUpdate p
  | 0x14 => s.rmapFlipped
  | _ => s

/-- The flip count of an armed table is reached (R360): the banks swap, or the flip is deferred. -/
def State.flipDue (s : State) (p : Nat) : State :=
  match flipTab (blkOf p) with
  | none => s
  | some t =>
    if s.flag t.arm p = false ∨ s.coreTbc < s.rg t.tbc p then s
    else
      let s := s.wr t.arm p 0
      if s.flag t.ready p then
        let old := s.rg t.active p
        let s := (s.wr t.ready p 0).wr t.active p (1 - old)
        (s.flipped p old).cnt pTop Cn.TOP_FLIPS
      else
        let s := { s with agree := { s.agree with spent := p :: s.agree.spent } }
        (s.wr t.deferred p 1).raise p t.src

/-- A page's table is armed: a count already reached is reported (R360, R364). After a deferral it takes a new count (`State.flipWrite`). -/
def State.flipArm (s : State) (p : Nat) : State :=
  match flipTab (blkOf p) with
  | none => s
  | some t =>
    if s.agree.spent.contains p then s else
    let s := s.wr t.arm p 1
    if s.rg t.tbc p ≤ s.coreTbc then (s.raise pTop Er.TOP_FLIP_LATE).cnt pTop Cn.TOP_FLIP_LATE else s

/-- A flip count is written, which arms the table (R360). -/
def State.flipWrite (s : State) (p v : Nat) : State :=
  match flipTab (blkOf p) with
  | none => s
  | some t => ({ s with agree := { s.agree with spent := s.agree.spent.filter (· != p) } }.wr t.tbc p v).flipArm p

/-- FLIP_TBC_WRITE (R360): function `req` writes the flip count of the banked table of page `page`. -/
def execFlipTbcWrite (req page val : Nat) (s : State) : Host.Outcome State Fault Refusal :=
  .next (if s.mayWrite req page then s.flipWrite page val else s)

/-- FLIP_ARM is written 0 (R360): a cancel that meets the flip edge loses. -/
def State.flipCancel (s : State) (p : Nat) : State :=
  match flipTab (blkOf p) with
  | none => s
  | some t => if s.flag t.arm p = true ∧ s.rg t.tbc p ≤ s.coreTbc then s.flipDue p else s.wr t.arm p 0

/-- FLIP_CANCEL (R360). -/
def execFlipCancel (req page : Nat) (s : State) : Host.Outcome State Fault Refusal :=
  .next (if s.mayWrite req page then s.flipCancel page else s)

/-- SCHEDULED_FLIP (R360): the edge at which the copy of the TBC has reached the flip count. -/
def execScheduledFlip (page : Nat) (s : State) : Host.Outcome State Fault Refusal := .next (s.flipDue page)

/-! ### Frames (R272–R274, R409) -/

/-- The frames that a function's banks map, released frames that await a flip, and quarantined ones. -/
def State.framesOf (s : State) (fn : Nat) : List Nat :=
  let x := s.xltFn fn
  let mapped : List Nat := (s.bankEntries fn 0 ++ s.bankEntries fn 1).map (fun e => entryFrame e.2)
  let away : List Nat := x.awaiting.map (fun e => e.1)
  let quar : List Nat := x.quarantined.map (fun e => e.2 - 1)
  (mapped ++ away ++ quar).dedup

/-- The frames of a tier that the module offers and that no function uses, in rising order. -/
def State.framesFree (s : State) (tier : Nat) : List Nat :=
  let used := (List.range 256).flatMap s.framesOf
  let all : List Nat :=
    if tier = 0 then
      ((List.range 8).filter (fun m => bit (s.rg R.TOP_MEM_PORT_PRESENT_MEM pTop) m)).flatMap (fun m =>
        (List.range 18424).map (fun k => m * 2 ^ 15 + k))
    else (List.range 4).flatMap (fun d =>
      (List.range (s.rg (R.FAR_DEV_BASE_FRAMES d) pFar)).map (fun k => 2 ^ 23 + s.rg (R.FAR_DEV_BASE_BASE d) pFar + k))
  all.filter (fun k => !(used.contains k) && !(s.hbm.retiredFrames.any (fun e => decide (e.1 = k))))

/-- The free frames of a function's pool in a tier (R409): within its quota, and not more than the module has. -/
def State.poolFree (s : State) (fn tier : Nat) : Nat :=
  let r := s.fnRes fn
  let quota := if tier = 0 then r.framesHbm else r.framesFar
  let used := ((s.framesOf fn).filter (fun k => decide (k / 2 ^ 23 = tier))).length
  min (quota - used) (s.framesFree tier).length

/-- How many frames a request takes from each tier (R272): HBM first, the far tier first with COLD. -/
def State.frameSplit (s : State) (fn : Nat) (r : FrameReq) : Nat × Nat :=
  let a := if r.tier = 1 then 0 else s.poolFree fn 0
  let b := if r.tier = 0 then 0 else s.poolFree fn 1
  if bit r.flags 3 then
    let y := min r.count b
    (min (r.count - y) a, y)
  else
    let x := min r.count a
    (x, min (r.count - x) b)

/-- The frames for `n` of a tier: those that the Keeper picks where they are free, each once, and `n`; else the lowest free. -/
def State.framesPick (s : State) (tier n : Nat) (picks : List Nat) : List Nat :=
  let free := s.framesFree tier
  let p := (picks.filter (fun k => decide (k / 2 ^ 23 = tier) && free.contains k)).dedup
  if p.length = n then p else free.take n

/-- The VPNs of a request. -/
def FrameReq.vpns (r : FrameReq) : List Nat := (List.range r.count).map (r.vpn + ·)

/-- The bank that is not active. -/
def State.shadow (s : State) (fn : Nat) : Nat := 1 - s.rg R.HIF_XLT_CTRL_ACTIVE (pHif fn)

/-- The entry of a bank for a VPN, as the Keeper reads it. -/
def State.bankEntry (s : State) (fn bank vpn : Nat) : Nat :=
  match s.xltEntryAddr fn bank vpn with
  | some o => s.entryRead o
  | none => 0

/-- The Keeper reads the entries of the shadow bank for VPNs, each read counting as any of its frame (R271, R273, R284); none while the line of
one cannot be accessed (R41, R260). -/
def State.readEntries (s : State) (fn : Nat) : List Nat → Option State
  | [] => some s
  | v :: l =>
    match s.xltEntryAddr fn (s.shadow fn) v with
    | none => s.readEntries fn l
    | some o => if (s.lineRefusal o).isSome then none else (s.noteEntry o).readEntries fn l

/-- Write entries of the shadow bank, each a partial write of its line (R255, R273): none while one cannot be accessed, or would have to wait for
an entry of the write-combining buffer (R258). A fenced channel discards it (R261). -/
def State.putEntries (s : State) (fn : Nat) : List (Nat × Nat) → Option State
  | [] => some s
  | e :: l =>
    match s.xltEntryAddr fn (s.shadow fn) e.1 with
    | none => s.putEntries fn l
    | some o =>
      if (s.lineRefusal o).isSome = true ∨ s.wcbFull o = true then none
      else (s.hbmWrite o ((leBytes 8 e.2).map some) false).2.putEntries fn l

/-- Whether a request's range lies within the shadow bank (R282); a slot without a frame has no entries. -/
def State.reqRange (s : State) (fn : Nat) (r : FrameReq) : Bool :=
  let len := s.rg (if s.shadow fn = 0 then R.HIF_XLT_LEN0_LEN else R.HIF_XLT_LEN1_LEN) (pHif fn)
  decide (r.vpn + r.count ≤ len) && r.vpns.all (fun v => (s.xltEntryAddr fn (s.shadow fn) v).isSome)

/-- What a frame request comes to: its status, the state, the frames granted in each tier, and how many it is short of. -/
structure FrameAns where
  status : Nat
  state : State
  near : Nat
  far : Nat
  short : Nat

/-- ALLOC (R272, R273); none while an entry cannot be read or written (R41, R258, R260). -/
def State.frameAlloc (s : State) (fn : Nat) (r : FrameReq) (picks : List Nat) : Option FrameAns :=
  let (x, y) := s.frameSplit fn r
  if s.reqRange fn r = false ∨ r.tier = 3 then some ⟨St.INVALID_ARG, s, 0, 0, 0⟩
  else do
  let t ← s.readEntries fn r.vpns
  if r.vpns.any (fun v => xltValid (s.bankEntry fn (s.shadow fn) v)) then some ⟨St.VPN_IN_USE, t, 0, 0, 0⟩
  else if x + y < r.count then some ⟨St.MEM_SHORT, t, 0, 0, r.count - (x + y)⟩
  else
    let near := s.framesPick 0 x picks
    let far := s.framesPick 1 y picks
    let order : List Nat := if bit r.flags 3 then far ++ near else near ++ far
    let u ← t.putEntries fn ((r.vpns.zip order).map (fun e =>
      (e.1, 1 + bits r.flags 2 0 * 2 + e.2 / 2 ^ 23 * 2 ^ 4 + b2n (bit r.flags 3) * 2 ^ 5 + e.2 % 2 ^ 23 * 2 ^ 16)))
    some ⟨St.OK, u, x, y, 0⟩

/-- FREE (R274): the entries of the range become invalid in the shadow bank, and their frames await the next flip; quarantined
frames of the range return at once. None while an entry cannot be read or written. -/
def State.frameFree (s : State) (fn : Nat) (r : FrameReq) : Option FrameAns :=
  if s.reqRange fn r = false then some ⟨St.INVALID_ARG, s, 0, 0, 0⟩
  else do
    let l := r.vpns.filter (fun v => xltValid (s.bankEntry fn (s.shadow fn) v))
    let keys := l.map (fun v => entryFrame (s.bankEntry fn (s.shadow fn) v))
    let s ← s.readEntries fn r.vpns
    let s ← s.putEntries fn (l.map (fun v => (v, 0)))
    let x := s.xltFn fn
    let away := keys.foldl (fun m k => NMap.put k true m) x.awaiting
    let quar := x.quarantined.filter (fun e => decide (e.1 < r.vpn) || decide (r.vpn + r.count ≤ e.1))
    some ⟨St.OK, s.setXlt fn { x with awaiting := away, quarantined := quar }, 0, 0, 0⟩

/-- QUARANTINE (R274): free frames leave the pool, held under the VPNs of the range. -/
def State.frameQuarantine (s : State) (fn : Nat) (r : FrameReq) (picks : List Nat) : FrameAns :=
  let (x, y) := s.frameSplit fn r
  let q := (s.xltFn fn).quarantined
  if s.reqRange fn r = false ∨ r.tier = 3 then ⟨St.INVALID_ARG, s, 0, 0, 0⟩
  else if q.any (fun e => decide (r.vpn ≤ e.1) && decide (e.1 < r.vpn + r.count)) then ⟨St.FRAME_QUARANTINED, s, 0, 0, 0⟩
  else if x + y < r.count then ⟨St.MEM_SHORT, s, 0, 0, r.count - (x + y)⟩
  else
    let order := s.framesPick 0 x picks ++ s.framesPick 1 y picks
    let q := (r.vpns.zip order).foldl (fun m e => NMap.put e.1 (e.2 + 1) m) q
    ⟨St.OK, s.setXlt fn { s.xltFn fn with quarantined := q }, 0, 0, 0⟩

/-- FRAME_REQ is written with GO = 1 (R273, R274): ignored and counted while a request is in progress; the start clears
SHADOW_READY. -/
def State.frameReq (s : State) (req fn op tier flags : Nat) : State :=
  let h := pHif fn
  if s.mayWrite req h = false then s
  else if s.flag R.HIF_FRAME_RESULT_DONE h = false then s.cnt h Cn.HIF_FRAME_REQ_BUSY
  else
    let s := ((s.wr R.HIF_FRAME_REQ_OP h op).wr R.HIF_FRAME_REQ_TIER h tier).wr R.HIF_FRAME_REQ_FLAGS h flags
    let s := (s.wr R.HIF_FRAME_RESULT_DONE h 0).wr R.HIF_XLT_CTRL_SHADOW_READY h 0
    s.setXlt fn { s.xltFn fn with
      req := some ⟨op, tier % 4, flags % 16, s.rg R.HIF_FRAME_VPN_VPN h, s.rg R.HIF_FRAME_COUNT_COUNT h⟩ }

/-- ALLOC (R272, R273). -/
def execAlloc (req fn tier flags : Nat) (s : State) : Host.Outcome State Fault Refusal := .next (s.frameReq req fn 1 tier flags)

/-- FREE (R274). -/
def execFree (req fn tier flags : Nat) (s : State) : Host.Outcome State Fault Refusal := .next (s.frameReq req fn 2 tier flags)

/-- QUARANTINE (R274). -/
def execQuarantine (req fn tier flags : Nat) (s : State) : Host.Outcome State Fault Refusal := .next (s.frameReq req fn 3 tier flags)

/-- The Keeper carries a frame request out. -/
def State.frameAns (s : State) (fn : Nat) (r : FrameReq) (picks : List Nat) : Option FrameAns :=
  if r.op = 1 then s.frameAlloc fn r picks
  else if r.op = 2 then s.frameFree fn r
  else some (s.frameQuarantine fn r picks)

/-- FRAME_REQ_DONE (R273): the Keeper carries the request out, once every entry that it reads and writes can be accessed (R41, R258, R260). Which
free frames it takes is its own choice (`picks`). -/
def execFrameReqDone (fn : Nat) (picks : List Nat) (s : State) : Host.Outcome State Fault Refusal :=
  let h := pHif fn
  .next (match (s.xltFn fn).req with
    | none => s
    | some r =>
      match (s.setXlt fn { s.xltFn fn with req := none }).frameAns fn r picks with
      | none => s
      | some a =>
        let s := if r.op = 1 then (a.state.wr R.HIF_FRAME_GRANT_HBM h a.near).wr R.HIF_FRAME_GRANT_FAR h a.far else a.state
        let s := ((s.wr R.HIF_FRAME_RESULT_DONE h 1).wr R.HIF_FRAME_RESULT_STATUS h a.status).wr R.HIF_FRAME_SHORT_SHORT h a.short
        if r.op = 1 ∧ a.status = St.MEM_SHORT then s.raise h 25 else s)

/-! ### Access counters (R271) -/

/-- FRAME_CNT_READ (R271): a read of FRAME_CNT on a MEM page or the FAR page; `rd` and `wrt` tell whether a read or a write of the frame
coincides with it. -/
def execFrameCntRead (req page : Nat) (rd wrt : Bool) (s : State) : Host.Outcome State Fault Refusal :=
  .next (if s.responds req page = false then { s with rdata := [0] }
    else if blkOf page = 0x20 then
      let f := s.cntFrame page
      let (a, b) := NMap.get (0, 0) s.hbm.frameCnt f
      let s := { s with rdata := [a + b * 2 ^ 32] }
      if s.flag R.MEM_FRAME_CNT_IDX_CLEAR_ON_READ page then
        { s with hbm := { s.hbm with frameCnt := NMap.put f (b2n rd, b2n wrt) s.hbm.frameCnt } }
      else s
    else if blkOf page = 0x22 then
      let f := s.rg R.FAR_FRAME_CNT_IDX_FRAME page
      let s := { s with rdata := [NMap.get 0 s.hbm.farCnt f] }
      if s.flag R.FAR_FRAME_CNT_IDX_CLEAR_ON_READ page then
        { s with hbm := { s.hbm with farCnt := NMap.put f (b2n (rd || wrt)) s.hbm.farCnt } }
      else s
    else s)

end Sys2Proof.Machine
end

