-- ==== Sys2Proof/Machine/Journal.lean ====
section
/-!
DEFINITION. The journal of the Keeper's log: records and their copies on flash (R502–R510), wear (R516, R517), and how a record is
written and committed (R507–R509).
-/

namespace Sys2Proof.Machine

/-- The Keeper runs: it does not restart (R477). -/
def State.keeperUp (s : State) : Bool := decide (s.rg R.KPR_KSTATE_STATE pKpr ≠ 3)

/-! ### Records (R506) -/

/-- The bytes of a record copy as the device `dev` holds it, committed (R506). -/
def LogRec.image (r : LogRec) (dev : Nat) : List Nat :=
  let a := leBytes 2 0x4B52 ++ leBytes 2 r.typ ++ leBytes 8 r.seq ++ leBytes 2 r.payload.length ++ leBytes 1 r.flags
    ++ leBytes 1 dev
  let b := leBytes 8 r.tbc
  leBytes 4 0xA55A ++ a ++ leBytes 4 (crc32c (a ++ b ++ r.payload)) ++ b ++ r.payload
    ++ List.replicate (r.size - 32 - r.payload.length) 0xFF

/-- Whether a record is a state record. -/
def LogRec.isState (r : LogRec) : Bool := bit r.flags 0

/-- `n` bytes of a payload at an offset, little-endian. -/
def plField (p : List Nat) (off n : Nat) : Nat := ofBytes ((p.drop off).take n)

/-! ### Devices and sectors (R505, R509, R510, R516, R517) -/

/-- A flash device. -/
def State.fl (s : State) (d : Nat) : FlashDev := if d = 0 then s.log.fl0 else s.log.fl1

/-- Replace a flash device's journal. -/
def State.setFl (s : State) (d : Nat) (x : FlashDev) : State :=
  { s with log := if d = 0 then { s.log with fl0 := x } else { s.log with fl1 := x } }

/-- Bytes of a sector in use: its header and the record copies. -/
def Sector.fill (k : Sector) : Nat := 64 + (k.recs.map (fun r => r.1.size)).foldl (· + ·) 0

/-- Whether a record fits the head sector of a device. -/
def FlashDev.fits (x : FlashDev) (size : Nat) : Bool :=
  match x.used with
  | [] => false
  | k :: _ => !k.closed && decide (k.fill + size ≤ 65536)

/-- The journal position after the head, past those that have left the ring (R517). -/
def FlashDev.nextPos (x : FlashDev) : Nat :=
  let h := match x.used with
    | [] => 1023
    | k :: _ => k.index
  (((List.range 1024).map (fun i => (h + 1 + i) % 1024)).find? (fun p => NMap.get 0 x.replaced p != 0xFFFF)).getD 0

/-- Position of the newest CKPT_BEGIN on a device. -/
def FlashDev.ckptPos (x : FlashDev) : Nat :=
  ((x.used.find? (fun k => k.recs.any (fun r => decide (r.1.typ = 0x0100)))).map (fun k => k.index)).getD 0

/-- A copy joins the head sector; `closed` where the sector is closed after it. -/
def FlashDev.append (x : FlashDev) (r : LogRec) (c : Commit) (closed : Bool) : FlashDev :=
  match x.used with
  | [] => x
  | k :: l => { x with used := { k with recs := k.recs ++ [(r, c)], closed := closed } :: l }

/-- Day of a TBC. -/
def dayOf (tbc : Nat) : Nat := tbc / 86400000000000

/-- Bytes programmed in the last 30 days (R516). -/
def FlashDev.total (x : FlashDev) (tbc : Nat) : Nat :=
  ((x.window.filter (fun e => decide (dayOf tbc < e.1 + 30))).map (fun e => e.2)).foldl (· + ·) 0

/-- Programmed bytes are counted toward the budget and the next checkpoint (R514, R516). -/
def FlashDev.spend (x : FlashDev) (tbc n : Nat) : FlashDev :=
  let day := dayOf tbc
  let w := x.window.filter (fun e => decide (day < e.1 + 30) && decide (e.1 ≠ day))
  let today := ((x.window.filter (fun e => decide (e.1 = day))).map (fun e => e.2)).foldl (· + ·) 0
  { x with window := w ++ [(day, today + n)], sinceCkpt := x.sinceCkpt + n }

/-- Highest erase count of a device. -/
def FlashDev.topErase (x : FlashDev) : Nat := (x.erases.map (fun e => e.2)).foldl max 0

/-- The head moves to the next erased sector (R505); the sector left is closed, by its CLOSED word where it is not full. -/
def FlashDev.newHead (x : FlashDev) (tbc : Nat) : FlashDev :=
  let p := x.nextPos
  let early := match x.used with
    | [] => false
    | k :: _ => !k.closed && decide (k.fill < 65536)
  let old : List Sector := match x.used with
    | [] => []
    | k :: l => { k with closed := true } :: l
  { (if early then x.spend tbc 4 else x) with
    used := (⟨p, NMap.get 0 x.erases p, x.sectorSeq + 1, [], false⟩ : Sector) :: old
    erasedN := x.erasedN - 1
    sectorSeq := x.sectorSeq + 1 }

/-- The metadata entry of a head that has moved (R510). Replay answers the same with and without it (log entry 143). -/
def FlashDev.entry (x : FlashDev) (number : Nat) : Hint :=
  ⟨(x.used.head?.map (fun k => k.index)).getD 0, x.ckptPos, x.replaced, x.topErase, number⟩

/-- The head of a device moves, and its metadata entry is written to FL0 and then to FL1 (R510). -/
def State.headMove (s : State) (d : Nat) : State :=
  let s := s.setFl d ((s.fl d).newHead s.tbc)
  let n := 1 + ((s.log.fl0.hints ++ s.log.fl1.hints).map (fun e => e.2.number)).foldl max 0
  let e := (s.fl d).entry n
  [0, 1].foldl (fun s i => if (s.fl i).failed then s else s.setFl i { s.fl i with hints := NMap.put d e (s.fl i).hints }) s

/-- The head sector of a device takes a record of `size` bytes: the next one where the record does not fit. -/
def State.headFor (s : State) (d size : Nat) : State := if (s.fl d).fits size then s else s.headMove d

/-- The committed copies of a device, in the order of writing. -/
def FlashDev.committed (x : FlashDev) : List LogRec :=
  x.used.reverse.flatMap (fun k => (k.recs.filter (fun r => decide (r.2 = Commit.committed))).map (fun r => r.1))

/-- The committed records of both devices merged by SEQ, each once, with the device of the copy taken (R511, R528). -/
def LogSt.records (l : LogSt) : List (LogRec × Nat) :=
  let add (d : Nat) (m : NMap (LogRec × Nat)) (r : LogRec) : NMap (LogRec × Nat) := NMap.put r.seq (r, d) m
  let m := if l.fl1.failed then [] else l.fl1.committed.foldl (add 1) []
  (if l.fl0.failed then m else l.fl0.committed.foldl (add 0) m).map (fun e => e.2)

/-- The OTP device secret as a key (R502, R504). -/
def deviceSecret : List Nat := leBytes 48 (Config.secret 0)

/-- The records of checkpoint number `n` in a list of records, and whether they make it complete (R502, R514). -/
def ckptParts (rs : List LogRec) (n : Nat) : List LogRec × Bool :=
  let mine := rs.filter (fun r => within 0x0100 0x0102 r.typ && decide (plField r.payload 0 4 = n))
  let data := mine.filter (fun r => decide (r.typ = 0x0101))
  let begins := mine.filter (fun r => decide (r.typ = 0x0100))
  let ends := mine.filter (fun r => decide (r.typ = 0x0102))
  match begins.head?, ends.head? with
  | some b, some e =>
    (data, decide (plField b.payload 4 4 = data.length)
      && decide ((e.payload.drop 8).take 16 = (hmac384 deviceSecret ((b :: data).flatMap (fun r => r.payload))).take 16))
  | _, _ => (data, false)

/-- The newest complete checkpoint of a list of records in SEQ order: its parts and the SEQ of its CKPT_BEGIN (R511). -/
def newestCkpt (rs : List LogRec) : Option (List LogRec × Nat) :=
  ((rs.reverse.filter (fun r => decide (r.typ = 0x0102))).findSome? (fun e =>
    let n := plField e.payload 0 4
    let (data, ok) := ckptParts rs n
    if ok then
      (rs.find? (fun b => decide (b.typ = 0x0100) && decide (plField b.payload 0 4 = n))).map (fun b => (data, b.seq))
    else none))

/-- The LOG page's registers that show the journal (R530). -/
def State.logRegs (s : State) : State :=
  let rs := s.log.records.map (fun r => r.1.seq)
  let x := s.log.fl0
  let y := s.log.fl1
  let s := (s.wr R.LOG_HEAD_SEQ_SEQ pLog ((rs.getLast?).getD 0)).wr R.LOG_OLDEST_SEQ_SEQ pLog (rs.head?.getD 0)
  let s := (s.wr R.LOG_WEAR_SPARE0 pLog x.spare).wr R.LOG_WEAR_SPARE1 pLog y.spare
  let s := (s.wr R.LOG_WEAR_ERASE0 pLog x.topErase).wr R.LOG_WEAR_ERASE1 pLog y.topErase
  let s := (s.wr R.LOG_BUDGET_KIB0 pLog (x.total s.tbc / 1024)).wr R.LOG_BUDGET_KIB1 pLog (y.total s.tbc / 1024)
  s.wr R.LOG_LOG_STATUS_STATE_QUEUED pLog (s.log.stateQ.length + s.log.ckpt.length)

/-- THROTTLED follows the 30-day totals (R516). -/
def State.logThrottle (s : State) : State :=
  let a := s.log.fl0.total s.tbc
  let b := s.log.fl1.total s.tbc
  if s.flag R.LOG_LOG_STATUS_THROTTLED pLog then
    if a < 48 * 2 ^ 20 ∧ b < 48 * 2 ^ 20 then s.wr R.LOG_LOG_STATUS_THROTTLED pLog 0 else s
  else if a > 60 * 2 ^ 20 ∨ b > 60 * 2 ^ 20 then
    ((s.wr R.LOG_LOG_STATUS_THROTTLED pLog 1).incidentMap (fun i => { i with flags := setBit i.flags 2 })).raise pLog
      Er.LOG_LOG_THROTTLE
  else s

/-- LOG_STATUS.STATE once replay has completed: READY, DEGRADED or LOST (R509). -/
def State.logStateNow (s : State) : State :=
  let n := b2n s.log.fl0.failed + b2n s.log.fl1.failed
  ((s.wr R.LOG_LOG_STATUS_STATE pLog (1 + n)).wrB R.LOG_LOG_STATUS_FL0_FAIL pLog s.log.fl0.failed).wrB
    R.LOG_LOG_STATUS_FL1_FAIL pLog s.log.fl1.failed

/-- A device is marked failed (R509): its DEV_FAIL record with the flash status, and the LOG page. -/
def State.deviceFail (s : State) (d flash : Nat) : State :=
  if (s.fl d).failed then s
  else
    let s := s.setFl d { s.fl d with failed := true }
    let s := { s with log := { s.log with image := { s.log.image with devFail := NMap.put d flash s.log.image.devFail } } }
    (s.logStateNow.logStateRec 0x0170 (leBytes 1 d ++ leBytes 4 flash)).raise pLog Er.LOG_DEV_FAIL

/-- A sector position is retired: a spare takes its place, or the ring shrinks (R517); whether a spare did. -/
def State.sectorRetire (s : State) (d pos flash : Nat) : State × Bool :=
  let x := s.fl d
  if x.spare > 0 then
    let s := s.setFl d { x with
      spare := x.spare - 1, replaced := NMap.put pos (481 - x.spare) x.replaced, erases := NMap.put pos 0 x.erases,
      fails := NMap.put pos 0 x.fails }
    let s := s.raise pLog Er.LOG_SECTOR_RETIRE
    (if x.spare = 33 then s.raise pLog Er.LOG_LOG_WEAR else s, true)
  else
    let s := s.setFl d { x with working := x.working - 1, replaced := NMap.put pos 0xFFFF x.replaced }
    (if x.working - 1 < 512 then s.deviceFail d flash else s, false)

/-- A program or erase of a sector position fails (R509, R517): the second failure of a sector retires it; failures that
this does not cure count, and the third within an hour fails the device. -/
def State.flashFailure (s : State) (d pos flash : Nat) : State :=
  let x := s.fl d
  let n := NMap.get 0 x.fails pos + 1
  let s := s.setFl d { x with fails := NMap.put pos n x.fails }
  let (s, cured) := if n ≥ 2 then s.sectorRetire d pos flash else (s, false)
  if cured then s
  else
    let x := s.fl d
    let times := (x.failTimes.filter (fun t => decide (s.tbc < t + 3600000000000))) ++ [s.tbc]
    let s := s.setFl d { x with failTimes := times }
    if times.length ≥ 3 then s.deviceFail d flash else s

/-! ### Writing a record (R507–R509) -/

/-- One copy of a record on a device; `outs` are its failed attempts (1 voided, 2 the void could not be programmed either, 3 the device's
bus fails). Whether
the copy has been committed. -/
def State.writeCopy (d flash : Nat) (r : LogRec) : List Nat → State → State × Bool
  | [], s =>
    if (s.fl d).failed then (s, false)
    else
      let s := s.headFor d r.size
      let s := s.setFl d (((s.fl d).append r .committed false).spend s.tbc r.size)
      ((s.cnt pLog Cn.LOG_REC_WRITTEN).cnt pLog Cn.LOG_BYTES_WRITTEN r.size, true)
  | o :: l, s =>
    if (s.fl d).failed then (s, false)
    else if o = 3 then (s.deviceFail d flash, false)
    else
      let s := s.headFor d r.size
      let pos := ((s.fl d).used.head?.map (fun k => k.index)).getD 0
      let s := s.setFl d (((s.fl d).append r (if o = 1 then .void else .torn) true).spend s.tbc (r.size + 4))
      let s := (s.cnt pLog Cn.LOG_BYTES_WRITTEN r.size).cnt pLog Cn.LOG_VOIDED (b2n (decide (o = 1)))
      State.writeCopy d flash r l (s.flashFailure d pos flash)

/-- Whether a device can take a record with `n` attempts: erased sectors enough. -/
def State.flRoom (s : State) (d size n : Nat) : Bool :=
  (s.fl d).failed || ((decide (1 ≤ (s.fl d).erasedN) || (s.fl d).fits size) && decide (n ≤ (s.fl d).erasedN))

/-- What a state record brings into force by its commit (R354, R524, R537): the others act where they are raised. -/
def State.logCommitted (s : State) (r : LogRec) : State :=
  match r.typ with
  | 0x0102 =>
    match newestCkpt (s.log.records.map (fun r => r.1)) with
    | some (_, seq) => s.wr R.LOG_CKPT_SEQ_SEQ pLog seq
    | none => s
  | 0x0161 =>
    let n := r.payload.length / 12
    let tab : NMap Nat := (List.range n).foldl (fun m i =>
      NMap.put (plField r.payload (12 * i) 4) (plField r.payload (12 * i + 4) 8) m) []
    let s := { s with log := { s.log with image := { s.log.image with expect := tab } } }
    s.wr R.TOP_DM_APPROVED_DIGEST pTop (ofBytes ((sha384 r.payload).take 8))
  | 0x0150 =>
    { s with log := { s.log with image := { s.log.image with
        keyCommit := (plField r.payload 0 1, plField r.payload 1 1, ofBytes (r.payload.drop 2)) :: s.log.image.keyCommit } } }
  | 0x0140 =>
    { s with log := { s.log with image := { s.log.image with
        slotState := NMap.put (plField r.payload 0 1) (ofBytes r.payload) s.log.image.slotState
        attempts := NMap.put (plField r.payload 0 1) 0 s.log.image.attempts } } }
  | 0x0141 =>
    { s with log := { s.log with image := { s.log.image with
        attempts := NMap.put (plField r.payload 0 1) (ofBytes r.payload) s.log.image.attempts } } }
  | _ => s

/-- Write a record: its SEQ is the next, a state record goes to FL0 then FL1, an event record to the devices in turn
(R508, R509). The bytes toward the next checkpoint are counted from a CKPT_BEGIN (R514). -/
def State.logWrite (s : State) (r : LogRec) (outs0 outs1 : List Nat) (flash : Nat) : State :=
  let r := { r with seq := s.log.nextSeq }
  let s := { s with log := { s.log with nextSeq := s.log.nextSeq + 1 } }
  let s :=
    if r.isState then
      let (s, a) := s.writeCopy 0 flash r outs0
      let (s, b) := s.writeCopy 1 flash r outs1
      if a || b then s.logCommitted r else s
    else
      let d := if (s.fl s.log.nextDev).failed then 1 - s.log.nextDev else s.log.nextDev
      let s := { s with log := { s.log with nextDev := 1 - d } }
      (s.writeCopy d flash r (if d = 0 then outs0 else outs1)).1
  let s := if r.typ = 0x0100 then { s with log := { s.log with
      fl0 := { s.log.fl0 with sinceCkpt := 0 }, fl1 := { s.log.fl1 with sinceCkpt := 0 } } } else s
  let s := if s.log.fl0.sinceCkpt ≥ 8 * 2 ^ 20 ∨ s.log.fl1.sinceCkpt ≥ 8 * 2 ^ 20 then
      { s with log := { s.log with ckptDue := true } }
    else s
  s.logThrottle.logRegs

/-- A LOST record of the event records not written, once the event queue has emptied (R508, R516). -/
def State.logLost (s : State) : State :=
  if s.log.eventQ ≠ [] ∨ s.log.lost = [] then s
  else
    let body := s.log.lost.flatMap (fun e => leBytes 1 e.1 ++ leBytes 4 e.2)
    { s with log := { s.log with lost := [] } }.logEvent 0x0221 3 body

/-- Whether both devices have failed. -/
def State.logDead (s : State) : Bool := s.log.fl0.failed && s.log.fl1.failed

/-- A summary's bytes with one more record under NOT_KEPT, where it is that of incident `n` (R516, R520). -/
def summaryMissed (n : Nat) (b : List Nat) : List Nat :=
  if plField b 0 4 = n then b.take 0x24 ++ leBytes 4 (plField b 0x24 4 + 1) ++ b.drop 0x28 else b

/-- An INC_OPEN or INC_REC record is not written: LOST counts it, and an INC_REC also the summary of its incident, which may wait in the
queue behind it (R516). -/
def State.logLeave (s : State) (r : LogRec) : State :=
  let n := plField r.payload 0 4
  let s := s.logDrop r.typ
  if r.typ ≠ 0x0211 then s
  else if s.log.incident.isOpen = true ∧ s.log.incident.number = n then s.incidentMap (fun i => { i with notKept := i.notKept + 1 })
  else { s with log := { s.log with
    eventQ := s.log.eventQ.map (fun q => if q.typ = 0x0212 then { q with payload := summaryMissed n q.payload } else q)
    summaries := s.log.summaries.map (summaryMissed n) } }

/-- While THROTTLED the INC_OPEN and INC_REC records that wait are left out (R516). -/
def State.logWithhold (s : State) : State :=
  let out (r : LogRec) : Bool := within 0x0210 0x0211 r.typ
  if s.flag R.LOG_LOG_STATUS_THROTTLED pLog = false ∨ s.log.eventQ.any out = false then s
  else
    (s.log.eventQ.filter out).foldl State.logLeave { s with log := { s.log with eventQ := s.log.eventQ.filter (fun r => !out r) } }

/-- The Keeper writes the next record: a checkpoint part, else the oldest state record, else the oldest event record
(R508); in Fog mode only SLOT_STATE and BOOT_ATTEMPT records (R529). -/
def State.logWriteNext (s : State) (outs0 outs1 : List Nat) (flash : Nat) : State :=
  let ks := s.rg R.KPR_KSTATE_STATE pKpr
  let fog (r : LogRec) : Bool := decide (ks ≠ 2) || within 0x0140 0x0141 r.typ
  let ckpt := s.log.ckpt.filter fog
  let states := s.log.stateQ.filter fog
  let s := s.logWithhold
  let events := s.log.eventQ.filter fog
  let room (r : LogRec) : Bool := s.flRoom 0 r.size outs0.length && s.flRoom 1 r.size outs1.length
  if ks = 3 ∨ s.logDead = true ∨ s.rg R.LOG_LOG_STATUS_STATE pLog = 0 then s
  else
    match ckpt, states, events with
    | r :: _, _, _ =>
      if room r then { s with log := { s.log with ckpt := s.log.ckpt.erase r } }.logWrite r outs0 outs1 flash else s
    | [], r :: _, _ =>
      if room r then { s with log := { s.log with stateQ := s.log.stateQ.erase r } }.logWrite r outs0 outs1 flash else s
    | [], [], r :: _ =>
      if room r then ({ s with log := { s.log with eventQ := s.log.eventQ.erase r } }.logWrite r outs0 outs1 flash).logLost else s
    | [], [], [] => if ks = 2 then s else s.logLost

/-- State records that wait for a full queue join it while it has space (R508). -/
def State.logRetry (s : State) : State :=
  let n := 256 - s.log.stateQ.length
  ({ s with log := { s.log with
      stateQ := s.log.stateQ ++ s.log.retryQ.take n, retryQ := s.log.retryQ.drop n } }).logRegs

/-- Write state records until none waits, `fuel` at most. -/
def State.logFlush : Nat → State → State
  | 0, s => s
  | k + 1, s =>
    let s := if s.log.stateQ = [] then s.logRetry else s
    if s.log.stateQ = [] ∧ s.log.ckpt = [] then s else State.logFlush k (s.logWriteNext [] [] 0)

/-- A state record is formed and committed, with every one that waits before it. -/
def State.commitNow (s : State) (typ : Nat) (payload : List Nat) : State :=
  let s := s.logStateRec typ payload
  State.logFlush (s.log.ckpt.length + s.log.stateQ.length + s.log.retryQ.length) s

/-- Write what waits in the log's queues, `fuel` records at most. -/
def State.logDrain : Nat → State → State
  | 0, s => s
  | k + 1, s =>
    if s.log.ckpt = [] ∧ s.log.stateQ = [] ∧ s.log.eventQ = [] then s else State.logDrain k (s.logWriteNext [] [] 0)

/-- The records that wait are committed, the incident's among them (R482). -/
def State.logCommitAll (s : State) : State :=
  State.logDrain (s.log.ckpt.length + s.log.stateQ.length + s.log.eventQ.length) s

end Sys2Proof.Machine
end

