-- ==== Sys2Proof/Machine/Reset.lean ====
section
/-!
DEFINITION. The reset ladder (R479–R483, R404, R575), its dumps (R484–R487), the Keeper's heartbeat and watchdog (R476, R477), and the
rescheduling of self-tests (R496).
-/

namespace Sys2Proof.Machine

/-! ### What each level does (R480) -/

/-- A core after RST_ENG: generators, descriptors and slots at reset, its other registers and its banks undefined, its feeders and weight
registers empty (R39, R101, R160, R167). Kept is what belongs to the arrays' service: fences and tests that are due (R123, R126), and
whether FOLD has been recorded since LIVE changed (R129). -/
def State.coreClear (s : State) (c : Nat) : State :=
  let e := s.free + 1
  let k := s.core c
  { s.setCore c { Core.init with
      fill := e, accFill := (List.range 8).map (fun b => (b, e)), foldSeen := k.foldSeen
      kat := { Kat.none with fencing := k.kat.fencing, due := k.kat.due, redo := k.kat.redo } } with free := e }

/-- The page of a core after RST_ENG: what shows its run. R167 resets registers, generators and slots, and R480 keeps the page's configuration:
that PC, RUN_STATUS, ARR_STATUS.BUSY and NW_STATUS take their reset values while EXC_STATUS, EXC_PC and CTX_RESULT keep what they report of
the past is a DESIGN CHOICE, log entry 121. -/
def State.corePageClear (s : State) (c : Nat) : State :=
  let p := pCore c
  let s := (((s.wr R.CORE_PC_PC p 0).wr R.CORE_RUN_STATUS_STATE p 0).wr R.CORE_RUN_STATUS_SIG_WAIT p 0).wr
    R.CORE_RUN_STATUS_DMA_WAIT p 0
  (((s.wr R.CORE_RUN_STATUS_MMA_ACTIVE p 0).wr R.CORE_ARR_STATUS_BUSY p 0).wr R.CORE_NW_STATUS_JUMP p 0).wr R.CORE_NW_STATUS_FIRST p 0

/-- Data that a CHC held dirty in its L2 is lost, and its L2 is empty (R39, R480). -/
def State.l2Drop (s : State) (n : Nat) : State :=
  { s with
    l2 := s.l2.filter (fun e => decide (e.1 / 2 ^ 42 ≠ n))
    mem := s.mem.filter (fun c => decide (c.1 < aL2 n 0) || decide (aL2 (n + 1) 0 ≤ c.1)) }

/-- RST_ENG of one array of a core (R101, R121): its test is given up, a running MMA of its core is aborted with every bank that the MMA was
writing, its home banks are undefined, and its feeder queues and weight registers are empty. The kernel whose MMA was aborted ends
with ABORTED (log entry 121). -/
def State.arrReset (s : State) (c a : Nat) : State :=
  let k := s.core c
  let s := if bit k.kat.todo a then
      (s.wr R.CORE_KAT_STATUS_ABANDONED (pCore c) (setBit (s.rg R.CORE_KAT_STATUS_ABANDONED (pCore c)) a)).katOver c a
    else s
  let s := if k.mma.isSome then (s.loseBanks c k.mmaBanks).kernelAbort c else s
  let s := s.loseBanks c (3 * 4 ^ a)
  let k := s.core c
  s.setCore c { k with
    br := k.br.filter (fun e => decide (e.1 / 2 ≠ a))
    fq := k.fq.filter (fun e => decide (e.1 / 8 ≠ a)) }

/-- RST_ENG of the unit of a page, or of an array. -/
def State.engReset (s : State) (p : Nat) : State :=
  let s := s.testsDrop p
  match blkOf p with
  | 0 => if p < 0x1000 then s else s.arrReset ((p - 0x1000) / 4) ((p - 0x1000) % 4)
  | 0x60 =>
    let c := p - 0x200
    let s := (((s.collAbortCore c).kernelAbort c).ctxAbort c).dmaAbort c (fun _ _ => true)
    (s.coreClear c).corePageClear c
  | 0x58 => s.dmaAbort (engCluster (p - 0x040)) (fun _ _ => true)
  | 0x59 => s.l2Drop (p - 0x080)
  | 0x40 => s.collAbortAll (p % 256)
  | 0x20 => s.wcbDrainAll (p - 0x010)
  | 0x21 =>
    let m := (p - 0x100) / 32
    let ch := (p - 0x100) % 32
    let x := s.chan m ch
    let s := s.setChan m ch { Chan.init with lastRetrain := x.lastRetrain }
    let s := x.held.foldl (fun s _ => s.memDone St.ABORTED) s
    if x.tgOn then (s.wr R.MCH_TG_CTRL_GO p 0).wr R.MCH_TG_RESULT_STATUS p St.ABORTED else s
  | 0x30 => ((s.linkDown (p - 0x020)).linkDrop (p - 0x020)).quarRelease (p - 0x020)
  | _ => s

/-- Queued trace entries are discarded (R560). -/
def State.traceDrop (s : State) (fn : Nat) : State :=
  (s.setDbg fn { s.dbgFn fn with queue := [], dropped := 0 }).wr R.DBG_TRACE_STATUS_ACTIVE (pDbg fn) 0

/-- RST_CTX of what a page names. -/
def State.ctxReset (s : State) (p : Nat) : State :=
  let fn := p % 256
  match blkOf p with
  | 0x51 => (s.cmdqsOf fn).foldl State.cqFlush s
  | 0x52 => (s.evtqsOf fn).foldl State.eqReset s
  | 0x32 => s.flowsReset fn
  | 0x53 => (s.traceDrop fn).digestsDrop fn (fun _ => true)
  | _ => s

/-- CHCs that a function owns (R408). -/
def State.chcsOf (s : State) (fn : Nat) : List Nat := (List.range 64).filter (fun n => s.quadFn (4 * n) == some fn)

/-- The pages of the units that RST_PART of a function resets. -/
def State.partPages (s : State) (fn : Nat) : List Nat :=
  (s.coresOf fn).map pCore ++ (s.chcsOf fn).map pChc ++ [pCol fn, pQue fn, pXpt fn, pHif fn]

/-- RST_PART of a function's partition. The step machine goes first: no command that is aborted seals its step (R230). -/
def State.partReset (s : State) (fn : Nat) : State :=
  let s := ((s.stepReset fn).ctxReset (pQue fn)).ctxReset (pXpt fn)
  let s := ((s.coresOf fn).map pCore ++ (s.chcsOf fn).map pChc ++ [pCol fn]).foldl State.engReset s
  let s := (s.quadsOf fn).foldl (fun s q => s.dmaAbort (engCluster (q / 4)) (fun i _ => decide (i = q % 4))) s
  let r := s.fnRes fn
  let s := (List.range r.commCount).foldl (fun s k => s.collReset (r.commBase + k)) s
  let s := { s with sig := s.sig.filter (fun e => !(s.ownsSig fn e.1)) }
  let s := (s.traceDrop fn).wr R.DBG_TRACE_CFG_EN (pDbg fn) 0
  if NMap.get false s.host.flr fn then s.ctxReset (pEvt fn) else s

/-- Blocks of AON whose registers survive RST_CHIP as a whole: KPR and LOG (R480). -/
def aonKept (blk : Nat) : Bool := blk == 0x11 || blk == 0x14

/-- Fields of the FWU and KSB pages that RST_CHIP leaves, because they show what the Keeper holds, which RST_CHIP keeps: the read-only
ones of the block and STATUS; the others take their reset values (R10, R480; log entry 117). -/
def keeperShown (id inst : Nat) : Bool :=
  (blkOf inst == 0x15 || blkOf inst == 0x16) &&
    (([R.HDR_STATUS_DEGRADED, R.HDR_STATUS_FENCED, R.HDR_STATUS_SELFTEST_ACTIVE, R.HDR_STATUS_QUIESCED, R.HDR_STATUS_READY].map
      Fld.id).contains id || (fieldsOf (blkOf inst)).any (fun f => f.acc == .ro && f.id == id))

/-- Fields of the PWR page that count since power-on, come from the log or belong to the domains (R470). -/
def pwrKept : List Nat :=
  ([R.PWR_ENERGY_UJ, R.PWR_TELEM_SEQ_SEQ, R.PWR_IC_DATA_R_BASE, R.PWR_DOM_CTRL_ON, R.PWR_DOM_STATUS_ON] ++ (List.range 16).flatMap (fun m =>
      [R.PWR_SEG_FAIL_FAILED m, R.PWR_SEG_STATE_STATE m, R.PWR_TRIM_TRIM m])).map Fld.id

/-- RST_CHIP (R480, R577): every domain except AON. The write-combining buffers are drained first; every flow context is FREE; INC moves
on, and a standby that has not adopted a coordinate goes on showing STANDBY (R324); the switched domains other than the cluster memories
go off, and boot goes on from step 5. A trim whose record has committed counts as applied: boot loads it from the log (R463). RETRAINS and
KAT_PASS_TBC take their reset values, and the far-tier access counts are kept: DESIGN CHOICE, log entry 139. -/
def State.chipReset (s : State) : State :=
  let logged := (s.pwr.trimLogged.filter (fun e => e.2)).map (fun e => e.1)
  let s := (List.range 8).foldl (fun s m => (s.wcb m).foldl (fun s e => s.wcbDrain m e) s) s.katFenceAll
  let inc := s.rg R.RTE_INC_INC pRte
  let standby := s.flag R.RTE_MADDR_STANDBY pRte
  let on := s.rg R.PWR_DOM_STATUS_ON pPwr
  let e := s.free + 1
  let s := s.dropRegs (fun id inst =>
    !(pwrKept.contains id) && !(keeperShown id inst) && (if id / 32768 = 0 then !(aonKept (blkOf inst)) else !(aonKept (id / 32768))))
  let s := { s with free := e }.lose (aSpad 0 0) (aSpad 1024 0)
  let s := { s with
    mem := s.mem.filter (fun c => decide (c.1 < aL2 0 0))
    l2 := []
    latch := []
    disabling := []
    cores := (List.range 1024).map (fun c =>
      (c, { Core.init with
        fill := e, accFill := (List.range 8).map (fun b => (b, e))
        kat := { Kat.none with due := (s.core c).kat.due, redo := (s.core c).kat.redo } }))
    sig := []
    dma := []
    hbm := { s.hbm with wcb := [], wcbWait := [], chans := [], frameCnt := [], selfRefresh := [], farWait := [], farLow := 0, tlb := [] }
    xlt := []
    host := { HostSt.init with flr := s.host.flr, perst := s.host.perst }
    recov := { s.recov with dumps := [], fenced := [] }
    dbg := []
    net := { NetSt.init with lasers := s.net.lasers }
    step := []
    coll := .init
    agree := .init
    pwr := { s.pwr with
      trimLogged := [], trimDue := logged.foldl (fun m d => Map.del d m) s.pwr.trimDue
      trimHeld := logged.foldl (fun m d => Map.del d m) s.pwr.trimHeld, trimLast := logged.foldl (fun m d => NMap.put d s.tbc m) s.pwr.trimLast
      tray := .init, lvl := [], hint := [], lvlUs := [], hold := none, fencing := [], switchOn := [], switchOff := []
      chg := 0, lower := false, resume := none, hstOld := none, thermLimit := 64 } }
  let s := ((s.wr R.RTE_INC_INC pRte (inc + 1)).wrB R.RTE_MADDR_STANDBY pRte standby).wr R.PWR_DOM_STATUS_ON pPwr (on &&& 0x1060000)
  let s := ((s.wrB R.PWR_THERM_STATUS_TRIP pPwr s.pwr.tripped).wrB R.PWR_THERM_STATUS_AIRFLOW pPwr s.pwr.airflow).wrB
    R.PWR_THERM_STATUS_QUENCH pPwr s.pwr.quench
  let s := (s.wr R.KPR_BOOT_STATUS_DEGRADED pKpr 0).wr R.KPR_BOOT_STATUS_STALLED pKpr 0
  s.emit (.pin 3 0)

/-! ### Requests and their order (R483, R485) -/

/-- The page that names a reset: its target's, or the HIF page of its function, or TOP. -/
def rstPage (level target : Nat) : Nat := if level = 4 then pTop else if level = 3 then pHif target else unitPage target

/-- CTRL.RESET_REQ shows a reset of its page; one of an array shows nowhere. -/
def State.reqShow (s : State) (level target v : Nat) : State :=
  if level ≤ 2 ∧ target ≥ 0x1000 then s else s.wr R.HDR_CTRL_RESET_REQ (rstPage level target) v

/-- The function whose buffer takes the dump before a reset, where one is due (R484). -/
def State.rstDump (s : State) (level target : Nat) : Option Nat :=
  if level = 4 then some 0
  else if level = 3 then some target
  else if level = 2 ∧ s.flag R.HIF_DUMP_CFG_ENG (pHif (s.owner (unitPage target))) = true then some (s.owner (unitPage target))
  else none

/-- RST_STATUS and RST_LAST_TBC after a reset (R497). -/
def State.rstNote (s : State) (level st : Nat) : State :=
  (((s.wr R.KPR_RST_STATUS_LAST_LEVEL pKpr level).wr R.KPR_RST_STATUS_LAST_STATUS pKpr st).wr R.KPR_RST_LAST_TBC_TBC pKpr s.tbc).emit
    (.status level st)

/-- ENABLE of the pages of a reset comes back (R13, R14), and with a core's the tests that are due on its arrays start (R123). -/
def State.rstEnables (s : State) (r : RstOp) : State :=
  r.enables.foldl (fun s e =>
    let p := e.1
    if s.fencedP p then s
    else
      let s := if s.quiescing p then s else s.wr R.HDR_STATUS_QUIESCED p 0
      if r.withBits = true ∧ p = rstPage r.level r.target then
        (((s.wr R.HDR_CTRL_QUIESCE p 0).wr R.HDR_STATUS_QUIESCED p 0).wr R.HDR_CTRL_SELFTEST_ALLOW p 0).unitOff p
      else if e.2 = 1 then
        let s := (s.wr R.HDR_CTRL_ENABLE p 1).unitOn p
        if blkOf p = 0x60 then s.katDue (p - 0x200) else s
      else s) s

/-- A reset leaves the list of those in progress, completing with a status. -/
def State.rstDrop (s : State) (r : RstOp) (st : Nat) : State :=
  let s := { s with recov := { s.recov with
    resets := s.recov.resets.filter (fun x => decide (x.level ≠ r.level) || decide (x.target ≠ r.target)) } }
  let s := s.reqShow r.level r.target 0
  (if r.level = 4 then s else s.rstEnables r).emit (.status r.level st)

/-- A QUIESCE pending on a page completes with ABORTED (R483). -/
def State.quiesceAbort (s : State) (p : Nat) : State :=
  let s := if s.disabling.any (fun e => decide (e.1 = p)) then
      { s.wr R.HDR_CTRL_QUIESCE p 0 with disabling := Map.del p s.disabling }
    else s
  let fn := s.owner p
  if s.quiescing p = true ∧ s.quiesced p = false then
    let l := NMap.get [] s.host.quiesce fn
    let s := s.wr R.HDR_CTRL_QUIESCE p 0
    if p ∈ s.quiescePages fn then
      l.foldl (fun s e => s.cmdResult e.1 e.2 St.ABORTED) { s with host := { s.host with quiesce := Map.del fn s.host.quiesce } }
    else s
  else s

/-- The effects of a reset take place: its units hold no work, and take none until it completes. -/
def State.rstBegin (s : State) (r : RstOp) : State :=
  let pages := if r.level = 4 then [] else if r.level = 3 then s.partPages r.target
    else [r.target].filter (fun p => decide (p < 0x1000))
  let s := pages.foldl State.quiesceAbort s
  let r := { r with begun := true, enables := pages.map (fun p => (p, s.rg R.HDR_CTRL_ENABLE p)) }
  let s :=
    if r.level = 4 then s.chipReset.wr R.HDR_CTRL_RESET_REQ pTop 1
    else if r.level = 3 then s.partReset r.target
    else if r.level = 2 then s.engReset r.target
    else s.ctxReset r.target
  let s := pages.foldl (fun s p => (s.wr R.HDR_CTRL_ENABLE p 0).wr R.HDR_STATUS_QUIESCED p 1) s
  { s with recov := { s.recov with
    resets := s.recov.resets.map (fun x => if x.level = r.level ∧ x.target = r.target then r else x) } }

/-- A reset begins unless it must wait: for its dump, or, as a dump does, for the Keeper (R477, R485). -/
def State.rstTry (s : State) (r : RstOp) : State :=
  let waits := match s.rstDump r.level r.target with
    | some fn => s.dumping fn || decide (s.rg R.KPR_KSTATE_STATE pKpr = 3)
    | none => false
  if r.begun = true ∨ r.covered = true ∨ waits = true then s else s.rstBegin r

/-- Resets that waited for a dump or for the Keeper begin. -/
def State.rstWake (s : State) : State := s.recov.resets.foldl State.rstTry s

/-- What a dump before a reset gives as its cause (R487): the kind, the status code and the source page. -/
structure RstCause where
  kind : Nat
  code : Nat
  page : Nat
  deriving DecidableEq, Repr

/-- A reset is requested with a cause (R479, R483, R484). -/
def State.resetReqBy (s : State) (level target : Nat) (withBits : Bool) (why : RstCause) : State :=
  if level ≤ 2 ∧ s.fencedP (unitPage target) = true then s.emit (.status level St.FENCED)
  else if s.recov.resets.any (fun r => decide (r.level = level) && decide (r.target = target)) then s
  else
    let s := (s.reqShow level target 1).incidentMap (fun i => { i with level := max i.level level })
    let r : RstOp := ⟨level, target, [], withBits, false, false⟩
    let put (s : State) (r : RstOp) : State := { s with recov := { s.recov with resets := s.recov.resets ++ [r] } }
    if s.recov.resets.any (fun h => s.covers h.level h.target level target) then put s { r with covered := true }
    else
      let lower := s.recov.resets.filter (fun l => s.covers level target l.level l.target)
      let s := put (lower.foldl (fun s l => s.rstDrop l St.RESET_ESCALATED) s) r
      let s := if level = 4 then s.wr R.KPR_RST_STATUS_CHIP_PEND pKpr 1 else s
      let s := match s.rstDump level target with
        | some fn => s.dumpCause fn why.kind level why.code why.page 0
        | none => s
      s.rstTry r

/-- A reset is requested by its register, its command or a function level reset. -/
def State.resetReq (s : State) (level target : Nat) (withBits : Bool) : State :=
  s.resetReqBy level target withBits ⟨2, St.OK, rstPage level target⟩

/-- The escalation of a reset that unit `unit` has missed (R481, R487). -/
def State.resetEscalate (s : State) (level target unit : Nat) : State :=
  s.resetReqBy level target false ⟨3, St.RESET_TIMEOUT, unitPage unit⟩

/-- A reset completes (R479, R483): lower ones requested during it complete with it. After an RST_CHIP boot goes on from step 5 (R577), or
the Keeper restarts into Fog mode (R544). -/
def State.resetDone (s : State) (level target : Nat) : State :=
  match s.recov.resets.find? (fun r => decide (r.level = level) && decide (r.target = target) && r.begun && !r.covered) with
  | none => s
  | some r =>
    let s := (s.rstDrop r St.OK).rstNote level St.OK
    let s := s.cnt pKpr (Cn.KPR_RST_CTX_N + (level - 1))
    let lower := s.recov.resets.filter (fun l => l.covered && s.covers level target l.level l.target)
    let s := lower.foldl (fun s l => s.rstDrop l St.RESET_ESCALATED) s
    let s := { s with host := { s.host with flr := if level ≥ 3 then Map.del (if level = 4 then 0 else target) s.host.flr else s.host.flr } }
    if level = 4 then
      let s := (s.wr R.KPR_RST_STATUS_CHIP_PEND pKpr 0).wr R.KPR_BOOT_STATUS_PHASE pKpr 4
      let s := s.wr R.KPR_BOOT_STATUS_ENTRY pKpr 1
      if s.fw.fogRequested then s.wr R.KPR_KSTATE_STATE pKpr 3 else s
    else s

/-- RST_CTX (R479, R480): of what page `page` names, QUE, EVT, XPT or DBG. -/
def execRstCtx (page : Nat) (s : State) : Host.Outcome State Fault Refusal :=
  .next (if resetLevelOf page = 1 then s.resetReq 1 page false else s)

/-- RST_ENG (R479, R480): of the unit of page `page`, or of one array of the core whose page it is. -/
def execRstEng (unit : EngUnit) (s : State) : Host.Outcome State Fault Refusal :=
  let page := unit.page
  .next (if resetLevelOf page ≠ 2 then s
    else
      match unit.array with
      | none => s.resetReq 2 page false
      | some a => if blkOf page = 0x60 ∧ a < 4 then s.resetReq 2 (pArr (page - 0x200) a) false else s)

/-- RST_PART (R479, R480). -/
def execRstPart (fn : Nat) (s : State) : Host.Outcome State Fault Refusal :=
  .next (if fn < 256 then s.resetReq 3 fn false else s)

/-- RST_CHIP (R479, R480). -/
def execRstChip (s : State) : Host.Outcome State Fault Refusal := .next (s.resetReq 4 0 false)

/-- RESET_DONE (R479): every unit in the scope of the reset has finished it. -/
def execResetDone (level target : Nat) (s : State) : Host.Outcome State Fault Refusal := .next (s.resetDone level target)

/-- The bits of a CTRL write other than RESET_REQ (R13). -/
def State.ctrlBits (s : State) (p v : Nat) : State :=
  if s.fencedP p then s
  else
    let s := (s.selftestWrite p (bit v 2)).quiesceWrite p (bit v 1)
    if bit v 0 then s.enableSet p else s.enableClear p

/-- CTRL is written with RESET_REQ = 1 and the bits `others`: a page that requests no reset ignores RESET_REQ and takes the other bits. -/
def State.ctrlReset (s : State) (page others : Nat) : State :=
  let level := resetLevelOf page
  if level = 0 then s.ctrlBits page others
  else s.resetReq level (if level = 4 then 0 else if level = 3 then page % 256 else page) (decide (others % 8 ≠ 0))

/-- CTRL_RESET_REQ (R13, R605): function `fn` writes CTRL with RESET_REQ = 1 and the bits `others` on a page. -/
def execCtrlResetReq (fn page others : Nat) (s : State) : Host.Outcome State Fault Refusal :=
  .next (if s.mayWrite fn page then s.ctrlReset page others else s)

/-! ### Function level resets and PERST# (R404, R575) -/

/-- FLR_VF (R404): RST_PART of the partition, and RST_CTX of each of the function's queues, event queues among them, also where it joins a
RST_PART that has begun. -/
def execFlrVf (fn : Nat) (s : State) : Host.Outcome State Fault Refusal :=
  .next (if fn = 0 ∨ fn ≥ 256 then s
    else
      let begun := s.recov.resets.any (fun r => decide (r.level = 3) && decide (r.target = fn) && r.begun)
      let s := { s with host := { s.host with flr := NMap.put fn true s.host.flr } }.resetReq 3 fn false
      if begun then s.ctxReset (pEvt fn) else s)

/-- FLR_PF0 (R404): RST_CHIP. -/
def execFlrPf0 (s : State) : Host.Outcome State Fault Refusal :=
  .next ({ s with host := { s.host with flr := NMap.put 0 true s.host.flr } }.resetReq 4 0 false)

/-! ### The end of a dump (R484–R487) -/

/-- A host write of a dump fails (R486): the dump stops, and the incident's summary is logged. -/
def State.dumpFail (s : State) (fn : Nat) : State :=
  let h := pHif fn
  let s := { s with recov := { s.recov with dumps := Map.del fn s.recov.dumps } }
  let s := (s.wr R.HIF_DUMP_STATUS_BUSY h 0).wr R.HIF_DUMP_STATUS_STATUS h St.DUMP_WRITE_FAIL
  (s.incidentSummary).raise pKpr Er.KPR_DUMP_FAIL

/-- DUMP_GO (R484, R498): function `req` writes DUMP_CTRL.GO = 1 on the HIF page of `fn`; ignored while a dump is being written. -/
def execDumpGo (req fn : Nat) (s : State) : Host.Outcome State Fault Refusal :=
  .next (if s.mayWrite req (pHif fn) = false ∨ s.flag R.HIF_DUMP_STATUS_BUSY (pHif fn) = true then s
    else s.dumpCause fn 0 0 0 (pHif fn) 0)

/-- DUMP_MAX_MS (R485): a function's dump reaches DUMP_CFG.MAX_MS with `written` bytes of its sections written. -/
def execDumpMaxMs (fn written : Nat) (s : State) : Host.Outcome State Fault Refusal :=
  .next (match s.recov.dumps.find? (fun e => decide (e.1 = fn)) with
    | some (_, d) => if s.keeperUp then (s.dumpWrite d (some written)).rstWake else s
    | none => s)

/-- DUMP_DONE (R487): a function's dump ends; `fail` when a host write of it failed. -/
def execDumpDone (fn : Nat) (fail : Bool) (s : State) : Host.Outcome State Fault Refusal :=
  .next (match s.recov.dumps.find? (fun e => decide (e.1 = fn)) with
    | some (_, d) =>
      if s.keeperUp = false then s
      else (if fail then s.dumpFail fn else s.dumpWrite d none).rstWake
    | none => s)

/-- PERST_ASSERT (R575): PERST# low for 1 ms after READY. The dump cannot reach the host. -/
def execPerstAssert (s : State) : Host.Outcome State Fault Refusal :=
  .next (if s.rg R.KPR_BOOT_STATUS_PHASE pKpr ≠ 10 then s
    else
      let s := { s with host := { s.host with perst := true } }.resetReq 4 0 false
      if s.dumping 0 then (s.dumpFail 0).rstWake else s)

/-! ### Resets that hang (R481, R482) -/

/-- An error source recorded with its event at class C1 even where ERR_SEVERITY reports it at C2 (R481); ERR_MASK suppresses the event
(R15). -/
def State.raiseC1 (s : State) (page n detail : Nat) : State :=
  if s.srcClass page n ≤ 1 then s.raise page n detail
  else
    let s := s.wr R.HDR_ERR_STATUS_ERR page (setBit (s.rg R.HDR_ERR_STATUS_ERR page) n)
    if bit (s.rg R.HDR_ERR_MASK_MASK page) n then s else s.event page 2 1 (n + detail * 32)

/-- Count an escalation. -/
def State.escalated (s : State) (page : Nat) : State :=
  let s := s.incidentOpen 2 page 1
  (((s.incSat R.KPR_RST_STATUS_ESCALATIONS pKpr 1).cnt pKpr Cn.KPR_ESCALATIONS).raise pKpr Er.KPR_RESET_ESCALATE page)

/-- How a unit is retired that has been fenced by escalation twice in 24 hours (R481). -/
def State.unitRetire (s : State) (p : Nat) : State :=
  if p ≥ 0x1000 then s.retireUnit 1 (p - 0x1000) St.RESET_TIMEOUT
  else match blkOf p with
  | 0x21 => s
  | 0x60 => s.retireQuad ((p - 0x200) / 4) St.RESET_TIMEOUT
  | 0x30 => (s.clearPort (p - 0x020)).retireUnit 9 p St.RESET_TIMEOUT
  | 0x20 => (s.clearMem (p - 0x010)).retireUnit 9 p St.RESET_TIMEOUT
  | _ => s.retireUnit 9 p St.RESET_TIMEOUT

/-- A unit leaves service: by its page, but an array, which has none, leaves LIVE by the Keeper's decision (R127), and a channel is fenced
under R261. -/
def State.unitOut (s : State) (p : Nat) : State :=
  if p ≥ 0x1000 then s.fenceArray ((p - 0x1000) / 4) ((p - 0x1000) % 4) 4
  else if blkOf p = 0x21 then (s.wr R.HDR_CTRL_RESET_REQ p 0).chFence ((p - 0x100) / 32) ((p - 0x100) % 32)
  else
    let s := (s.wr R.HDR_STATUS_FENCED p 1).wr R.HDR_CTRL_RESET_REQ p 0
    let s := { s with recov := { s.recov with fenced := NMap.put p true s.recov.fenced } }
    match blkOf p with
    | 0x60 => s.clearQuad ((p - 0x200) / 4)
    | 0x58 => s.clearCluster (p - 0x040)
    | 0x30 => (s.clearPort (p - 0x020)).portDisable (p - 0x020)
    | 0x20 => s.clearMem (p - 0x010)
    | _ => s

/-- A unit is fenced by escalation (R481): the second time in 24 hours it is retired. A channel's fence is its retirement (R261). -/
def State.unitFence (s : State) (p : Nat) : State :=
  let s := s.unitOut p
  let times := ((NMap.get [] s.recov.fencings p).filter (fun t => decide (s.tbc ≤ t + 86400000000000))) ++ [s.tbc]
  let s := { s with recov := { s.recov with fencings := NMap.put p times s.recov.fencings } }
  let s := s.raiseC1 pKpr Er.KPR_UNIT_FENCED p
  if times.length ≥ 2 then s.unitRetire p else s

/-- The function whose partition alone owns a unit (R479). -/
def State.soleOwner (s : State) (p : Nat) : Option Nat :=
  match blkOf p with
  | 0x60 => s.quadFn ((p - 0x200) / 4)
  | 0x59 => s.quadFn (4 * (p - 0x080))
  | 0x40 => some (p % 256)
  | _ => none

/-- PWRCYC_REQ_N is about to be asserted: an incident is open that says so (R518, R520), with error source PWRCYC among its copies. -/
def State.powerCycleNote (s : State) : State :=
  ((s.incidentOpen 2 pKpr 0).raise pKpr Er.KPR_PWRCYC).incidentMap (fun i => { i with flags := setBit i.flags 1 })

/-- PWRCYC_REQ_N is asserted, and held. -/
def State.powerCyclePin (s : State) : State := { s with recov := { s.recov with pwrcyc := true } }.emit (.pin 0 0)

/-- The Keeper asserts PWRCYC_REQ_N (R482, R518): first the incident closes and its records commit. -/
def State.powerCycle (s : State) : State := s.powerCycleNote.incidentEnd.logCommitAll.powerCyclePin

/-- A level 3 reset has missed its bound (R481): whatever of the partition has not completed is fenced, with an escalation record of each
unit in PF0's buffer (R490); where that holds an unread dump the request for RST_CHIP writes the first one (R486). -/
def State.partEscalate (s : State) (units : List Nat) (page : Nat) : State :=
  let s := (units.foldl State.unitFence s).escalated page
  let h := pHif 0
  let pends := decide (s.rg R.HIF_DUMP_LEN_LEN h ≥ 65536) && s.flag R.HIF_DUMP_STATUS_VALID h && !(s.flag R.HIF_DUMP_CFG_OVERWRITE h)
    && !(s.dumping 0)
  let s := (if pends then units.drop 1 else units).foldl (fun s u => s.escalationRecord 0 4 (unitPage u) St.RESET_TIMEOUT) s
  s.resetEscalate 4 0 page

/-- The units of a partition, arrays of its cores among them, that a list names. -/
def State.partUnits (s : State) (fn : Nat) (units : List Nat) : List Nat :=
  units.dedup.filter (fun u => (s.partPages fn).contains (unitPage u))

/-- RESET_BOUND_EXPIRE (R481, R482): the reset of `level` and `target` has missed its bound; `units` are the pages, or an array's number above
every page, of the units that have not completed it. -/
def execResetBoundExpire (level target : Nat) (units : List Nat) (s : State) : Host.Outcome State Fault Refusal :=
  .next (match s.recov.resets.find? (fun r => decide (r.level = level) && decide (r.target = target) && r.begun && !r.covered) with
    | none => s
    | some r =>
      if level = 4 then
        if s.recov.pwrcyc then s else (s.escalated pTop).powerCycle
      else if level = 3 then
        let late := s.partUnits target units
        (s.rstDrop r St.RESET_ESCALATED).partEscalate late ((late.head?).elim (pHif target) unitPage)
      else if level = 2 then
        if blkOf target = 0x30 ∨ blkOf target = 0x21 then
          (((s.rstDrop r St.RESET_TIMEOUT).unitFence target).escalated target).rstNote 2 St.RESET_TIMEOUT
        else
          let s := ((s.unitFence target).rstDrop r St.RESET_ESCALATED).escalated target
          match s.soleOwner (unitPage target) with
          | some fn => s.resetEscalate 3 fn target
          | none => s.resetEscalate 4 0 target
      else
        match units.dedup.filter (fun u => decide (resetLevelOf (unitPage u) = 2)) with
        | [] => s
        | u :: l =>
          let s := (s.rstDrop r St.RESET_ESCALATED).escalated (unitPage u)
          (u :: l).foldl (fun s v => s.resetEscalate 2 v v) s)

/-! ### The Keeper (R476, R477) -/

/-- KEEPER_WATCHDOG_EXPIRE (R477). At the third in an hour it is AON that asserts PWRCYC_REQ_N: an open incident closes at the next replay
(R518). -/
def execKeeperWatchdogExpire (s : State) : Host.Outcome State Fault Refusal :=
  .next (
    let times := (s.recov.expiries.filter (fun t => decide (s.tbc ≤ t + 3600000000000))) ++ [s.tbc]
    let s := { s with recov := { s.recov with expiries := times } }
    let s := { s with fw := { s.fw with prevEnd := 1 } }
    let s := (s.wr R.KPR_KSTATE_STATE pKpr 3).wr R.KPR_KSTATE_RESTARTS pKpr (min 3 times.length)
    let s := (s.cnt pKpr Cn.KPR_KEEPER_RESTARTS).raise pKpr Er.KPR_KEEPER_RESTART
    if times.length ≥ 3 ∧ s.recov.pwrcyc = false then s.powerCycleNote.powerCyclePin else s)

/-! ### Rescheduled self-tests (R496) -/

/-- TEST_RESCHEDULE (R496): the Keeper reschedules a test abandoned on a unit (`test`: 0 array KAT, 1 memory, 2 lane margin), once its
interval of 1 ms, doubled with each consecutive abandonment up to 1 s, is over and the test may start (R124, R495); after 64 it suspends the
test. -/
def execTestReschedule (test page : Nat) (s : State) : Host.Outcome State Fault Refusal :=
  .next (
    let r := s.testRec test page
    let next := min 1000 (if r.interval = 0 then 1 else 2 * r.interval)
    match r.since with
    | none => s
    | some t =>
      if r.suspended = true ∨ s.tbc < t + next * 1000000 ∨ s.testMay test page = false then s
      else
        let r := { r with consecutive := r.consecutive + 1, interval := next, since := none }
        if r.consecutive ≥ 64 then ((s.setTestRec test page { r with suspended := true }).suspendedReg).raise pKpr Er.KPR_TEST_STARVED page
        else ((s.setTestRec test page r).cnt pKpr Cn.KPR_TEST_RESCHED).testAgain test page)

/-- TEST_RESUME (R496, R497): function `fn` writes TEST_CTRL.RESUME = 1. -/
def execTestResume (fn : Nat) (s : State) : Host.Outcome State Fault Refusal :=
  .next (if s.mayWrite fn pKpr then s.testsResume (fun _ => true) else s)

end Sys2Proof.Machine
end

