-- ==== Sys2Proof/Machine/Log.lean ====
section
/-!
DEFINITION. The Keeper's log: the commands that write it (R507–R509), replay (R511–R513), checkpoints and reclaim (R514, R515, R517),
the OTP counters (R521, R522), the key ring (R523–R526), and reading the log (R528).
-/

namespace Sys2Proof.Machine

/-! ### Writing (R507–R509) -/

/-- LOG_RECORD_WRITE (R507–R509): the Keeper writes the next queued record; `outs0` and `outs1` are the failed attempts of its
copies on FL0 and FL1 (1 voided, 2 the void fails too, 3 the device's bus fails), `flash` the status of a device that then counts as failed. -/
def execLogRecordWrite (outs0 outs1 : List Nat) (flash : Nat) (s : State) : Host.Outcome State Fault Refusal :=
  .next (s.logWriteNext outs0 outs1 flash)

/-- STATE_RECORD_RETRY (R508). -/
def execStateRecordRetry (s : State) : Host.Outcome State Fault Refusal :=
  .next (if s.log.retryQ = [] ∨ s.keeperUp = false then s else
    let s := s.logRetry
    if s.log.retryQ = [] then s else s.raise pLog Er.LOG_STATE_WAIT)

/-! ### Replay (R511–R513) -/

/-- A state record applied to the state in force (R513). -/
def LogImage.apply (i : LogImage) (typ : Nat) (p : List Nat) : LogImage :=
  match typ with
  | 0x0110 => i.retire (plField p 0 1) (plField p 4 4) (plField p 8 2)
  | 0x0111 => i.unretire (plField p 0 1) (plField p 4 4)
  | 0x0120 => { i with trim := NMap.put (plField p 0 1) (plField p 1 1) i.trim }
  | 0x0121 => { i with derate := NMap.put (plField p 0 1) (if plField p 1 1 = 0 then 0 else plField p 2 2 + 1) i.derate }
  | 0x0130 => { i with laserBase := NMap.put (plField p 0 1) (plField p 1 2, plField p 3 8) i.laserBase }
  | 0x0140 => { i with
      slotState := NMap.put (plField p 0 1) (ofBytes p) i.slotState, attempts := NMap.put (plField p 0 1) 0 i.attempts }
  | 0x0141 => { i with attempts := NMap.put (plField p 0 1) (ofBytes p) i.attempts }
  | 0x0150 => { i with keyCommit := (plField p 0 1, plField p 1 1, ofBytes (p.drop 2)) :: i.keyCommit }
  | 0x0160 => { i with epoch := plField p 0 4 }
  | 0x0161 => { i with expect := (List.range (p.length / 12)).foldl (fun m k =>
      NMap.put (plField p (12 * k) 4) (plField p (12 * k + 4) 8) m) [] }
  | 0x0170 => { i with devFail := NMap.put (plField p 0 1) (plField p 1 4) i.devFail }
  | _ => i

/-- The retirements in force as records, those of arrays last and in the order of their records. -/
def LogImage.retirements (i : LogImage) : List (Nat × List Nat) :=
  let others : List ((Nat × Nat) × Nat) := List.filter (fun e => decide (e.1.1 ≠ 1)) i.retired
  let arrays : List ((Nat × Nat) × Nat) := i.arrays.reverse.map (fun a => ((1, a), PMap.get 1 i.retired (1, a)))
  (others ++ arrays).map (fun e => (0x0110, leBytes 4 e.1.1 ++ leBytes 4 e.1.2 ++ leBytes 2 (e.2 - 1)))

/-- The state in force as records: (TYPE, payload) of each item (R514). -/
def LogImage.items (i : LogImage) : List (Nat × List Nat) :=
  i.retirements
  ++ i.trim.map (fun e => (0x0120, leBytes 1 e.1 ++ leBytes 1 e.2))
  ++ i.derate.map (fun e => (0x0121, leBytes 1 e.1 ++ leBytes 1 (min 1 e.2) ++ leBytes 2 (e.2 - 1)))
  ++ i.laserBase.map (fun e => (0x0130, leBytes 1 e.1 ++ leBytes 2 e.2.1 ++ leBytes 8 e.2.2))
  ++ i.slotState.map (fun e => (0x0140, leBytes 20 e.2))
  ++ (i.attempts.filter (fun e => decide (e.2 ≠ 0))).map (fun e => (0x0141, leBytes 4 e.2))
  ++ i.keyCommit.reverse.map (fun e => (0x0150, leBytes 1 e.1 ++ leBytes 1 e.2.1 ++ leBytes 48 e.2.2))
  ++ [(0x0160, leBytes 4 i.epoch), (0x0161, i.expect.flatMap (fun e => leBytes 4 e.1 ++ leBytes 8 e.2))]
  ++ i.devFail.map (fun d => (0x0170, leBytes 1 d.1 ++ leBytes 4 d.2))

/-- Items as the bytes of CKPT_DATA parts: TYPE, length and payload of each. -/
def ckptPack (l : List (Nat × List Nat)) : List Nat :=
  l.flatMap (fun e => leBytes 2 e.1 ++ leBytes 2 e.2.length ++ e.2)

/-- The items that a checkpoint's bytes hold; `fuel` bounds their number. -/
def ckptUnpack : Nat → List Nat → List (Nat × List Nat)
  | 0, _ => []
  | k + 1, b =>
    if b.length < 4 then []
    else
      let n := plField b 2 2
      (plField b 0 2, (b.drop 4).take n) :: ckptUnpack k (b.drop (4 + n))

/-- Cut a byte string into parts of `n` bytes; `fuel` bounds their number. -/
def chunks (n : Nat) : Nat → List Nat → List (List Nat)
  | 0, _ => []
  | k + 1, b => if b = [] then [] else b.take n :: chunks n k (b.drop n)

/-- What replay rebuilds from the committed records (R511): the state in force, the incident summaries held, and the SEQ of the
checkpoint it started from. -/
def LogSt.rebuild (l : LogSt) : LogImage × List (List Nat) × Nat :=
  let rs := l.records.map (fun r => r.1)
  let (items, base) : List (Nat × List Nat) × Nat := match newestCkpt rs with
    | some (data, seq) => (ckptUnpack 65536 (data.flatMap (fun r => r.payload.drop 8)), seq)
    | none => ([], 0)
  let i := items.foldl (fun i e => i.apply e.1 e.2) LogImage.factory
  let later := rs.filter (fun r => decide (base < r.seq))
  let i := (later.filter (fun r => r.isState && !within 0x0100 0x0102 r.typ)).foldl (fun i r => i.apply r.typ r.payload) i
  let sums := (items.filter (fun e => decide (e.1 = 0x0212))).map (fun e => e.2)
    ++ (later.filter (fun r => decide (r.typ = 0x0212))).map (fun r => r.payload)
  (i, sums.drop (sums.length - 256), base)

/-- Whether a sector's scan ends torn. -/
def Sector.torn (k : Sector) : Bool := k.recs.any (fun r => decide (r.2 = Commit.torn) || decide (r.2 = Commit.uncommitted))

/-- Highest SEQ in a record of a device whose CRC is valid, committed or not (R511). -/
def FlashDev.topSeq (x : FlashDev) : Nat :=
  (x.used.flatMap (fun k => (k.recs.filter (fun r => decide (r.2 ≠ Commit.torn))).map (fun r => r.1.seq))).foldl max 0

/-- The journal is replayed (R511): the state in force and NEXT_SEQ, torn sectors closed, and every state record held by one
device only written to the other, which makes a checkpoint due (R514). A restart of the Keeper keeps the records that wait
(`keep`); a loss of power does not. It scans the whole ring: a hint only shortens it (R510; log entry 143). Programming the newest commit
markers again leaves the copies committed as they are. Answers the error sources that it records. -/
def State.logReplay (s : State) (keep : Bool) : State × List Nat :=
  let l := s.log
  let (image, sums, base) := l.rebuild
  let waiting : List LogRec := if keep then l.stateQ ++ l.retryQ else []
  let image := waiting.foldl (fun i r => i.apply r.typ r.payload) image
  let rs0 := (l.records.map (fun r => r.1)).filter (fun r => decide (r.typ = 0x0100))
  let torn := (l.fl0.used ++ l.fl1.used).any (fun k => k.torn && !k.closed)
  let close (x : FlashDev) : FlashDev := { x with used := x.used.map (fun k => { k with closed := k.closed || k.torn }) }
  let next := 1 + max l.fl0.topSeq l.fl1.topSeq
  let s := { s with log := { l with
    fl0 := close l.fl0, fl1 := close l.fl1, nextSeq := next, image := image, summaries := sums
    stateQ := if keep then l.stateQ else [], eventQ := if keep then l.eventQ else [], retryQ := if keep then l.retryQ else []
    ckpt := [], ckptDue := l.ckptDue || l.ckpt != [] || decide (max l.fl0.sinceCkpt l.fl1.sinceCkpt ≥ 8 * 2 ^ 20), ckptNumber := (rs0.map (fun r => plField r.payload 0 4)).foldl max 0 } }
  let dev (d : Nat) (s : State) : State := if image.devFail.any (fun e => decide (e.1 = d)) then s.setFl d { s.fl d with failed := true } else s
  let s := dev 1 (dev 0 s)
  let on (d : Nat) (r : LogRec) : Bool := (s.fl d).committed.any (fun c => decide (c.seq = r.seq))
  let lack := ((s.log.records.map (fun r => r.1)).filter (fun r => r.isState && decide (base < r.seq))).flatMap (fun r =>
    ([0, 1].filter (fun d => !(s.fl d).failed && !on d r)).map (fun d => (d, r)))
  let s := lack.foldl (fun s e => (s.writeCopy e.1 0 e.2 []).1) s
  let s := { s with log := { s.log with ckptDue := s.log.ckptDue || lack != [] } }.logStateNow
  ((s.wr R.LOG_CKPT_SEQ_SEQ pLog base).logRegs,
    (if torn then [Er.LOG_LOG_TORN] else []) ++ (if lack = [] then [] else [Er.LOG_LOG_REPAIR]))

/-- The journal is replayed at a restart of the Keeper, which keeps the records that wait. -/
def State.journalReplay (s : State) : State :=
  let (s, l) := s.logReplay true
  l.foldl (fun s n => s.raise pLog n) s

/-! ### Checkpoints and reclaim (R514, R515) -/

/-- CKPT_START (R514): every state item in force, and the newest 256 incident summaries, as the parts of a checkpoint. -/
def execCkptStart (s : State) : Host.Outcome State Fault Refusal :=
  .next (
    if s.log.ckptDue = false ∨ s.log.ckpt ≠ [] ∨ s.rg R.KPR_KSTATE_STATE pKpr ≠ 1 ∨ s.logDead = true then s
    else
      let n := (s.log.ckptNumber + 1) % 2 ^ 32
      let (image, _, _) := s.log.rebuild
      let bytes := ckptPack (image.items ++ s.log.summaries.map (fun b => (0x0212, b)))
      let parts := chunks 4056 260 bytes
      let mk (typ : Nat) (p : List Nat) : LogRec := ⟨typ, 0, 1, s.tbc, p⟩
      let b := leBytes 4 n ++ leBytes 4 parts.length
      let data := parts.zipIdx.map (fun e => leBytes 4 n ++ leBytes 4 e.2 ++ e.1)
      let mac := (hmac384 deviceSecret (b ++ data.flatMap (fun p => p))).take 16
      let e := leBytes 4 n ++ leBytes 4 (data.length + 2) ++ mac
      let recs := [mk 0x0100 b] ++ data.map (mk 0x0101) ++ [mk 0x0102 e]
      ({ s with log := { s.log with
          ckpt := recs, ckptNumber := n, ckptDue := false } }).logRegs)

/-- Whether the oldest sector of a device may be erased: every state record in it lies below the newest complete
checkpoint (R515). -/
def State.reclaimable (s : State) (k : Sector) : Bool :=
  k.recs.all (fun r => !r.1.isState || decide (r.1.seq < s.rg R.LOG_CKPT_SEQ_SEQ pLog))

/-- A position of a device is erased after `fails` failed erases, and its header is written at once (R505, R517). -/
def State.sectorErase (s : State) (d pos fails flash : Nat) : State :=
  let s := (List.range (min 2 fails)).foldl (fun s _ => s.flashFailure d pos flash) s
  let x := s.fl d
  let n := NMap.get 0 x.erases pos + 1
  let dead := decide (NMap.get 0 x.replaced pos = 0xFFFF)
  let s := s.cnt pLog Cn.LOG_ERASES
  let s := if dead || (s.fl d).failed then s
    else s.setFl d ({ x with erases := NMap.put pos n x.erases, erasedN := x.erasedN + 1 }.spend s.tbc 64)
  let s := if dead = false ∧ n ≥ 1000 then
      let (s, spared) := s.sectorRetire d pos flash
      if spared then s else s.setFl d { s.fl d with erasedN := (s.fl d).erasedN - 1 }
    else s
  s.logRegs

/-- SECTOR_ERASE (R505, R515, R517): with fewer than 16 erased sectors ahead of the head, the sector with the lowest SECTOR_SEQ
of device `d` is erased after `fails` failed erases, and before it a position whose header a power cut left unwritten; where it may not
be, a checkpoint is due at once. -/
def execSectorErase (d fails flash : Nat) (s : State) : Host.Outcome State Fault Refusal :=
  .next (
    let x := s.fl d
    if d ≤ 1 ∧ x.failed = false ∧ x.erasedN < 16 ∧ s.rg R.KPR_KSTATE_STATE pKpr = 1 ∧ x.unheaded ≠ [] then
      (s.setFl d { x with unheaded := x.unheaded.drop 1 }).sectorErase d (x.unheaded.headD 0) fails flash
    else match x.used.getLast? with
    | none => s
    | some k =>
      if d > 1 ∨ x.failed = true ∨ x.erasedN ≥ 16 ∨ x.used.length < 2 ∨ s.rg R.KPR_KSTATE_STATE pKpr ≠ 1 then s
      else if s.reclaimable k = false then { s with log := { s.log with ckptDue := true } }
      else
        (s.setFl d { x with used := x.used.dropLast }).sectorErase d k.index fails flash)

/-- INCIDENT_CLOSE (R518–R520): 10 s without a C0 or C1 record. -/
def execIncidentClose (s : State) : Host.Outcome State Fault Refusal := .next s.incidentEnd

/-! ### OTP counters (R521, R522) -/

/-- Value of an OTP counter: the steps in which either fuse is blown. -/
def State.otp (s : State) (n : Nat) : Nat :=
  let f := NMap.get (0, 0) s.log.otp n
  max f.1 f.2

/-- The LOG page's copies of the counters. -/
def State.otpRegs (s : State) : State :=
  ((s.wr R.LOG_OTP_COUNT_FW_SVN pLog (s.otp 0)).wr R.LOG_OTP_COUNT_KEY_GEN pLog (s.otp 1)).wr R.LOG_OTP_COUNT_TRUST_GEN pLog
    (s.otp 2)

/-- Steps of an OTP counter. -/
def otpSteps (n : Nat) : Nat := if n = 0 then 128 else if n = 1 then 64 else 32

/-- Advance a counter to `v`, both fuses of each step (R522); a counter never falls. -/
def State.otpAdvance (s : State) (n v : Nat) : State :=
  let v := min (otpSteps n) (max v (s.otp n))
  { s with log := { s.log with otp := NMap.put n (v, v) s.log.otp } }.otpRegs

/-- At every boot the second fuse of a half-blown step is blown (R522). -/
def State.otpRepair (s : State) : State :=
  { s with log := { s.log with otp := s.log.otp.map (fun (e : Nat × Nat × Nat) => (e.1, (max e.2.1 e.2.2, max e.2.1 e.2.2))) } }.otpRegs

/-! ### The key ring (R523–R526) -/

/-- The active slot: K0 as the factory left it before any KEY_COMMIT. -/
def State.activeSlot (s : State) : Nat :=
  match s.log.image.keyCommit with
  | [] => 0
  | l => ((l.find? (fun c => [0, 1].any (fun d =>
      match NMap.get none s.log.keys (2 * c.1 + d) with
      | some k => decide (k.gen = c.2.1) && decide (k.digest = c.2.2)
      | none => false))).map (fun c => c.1)).getD 0

/-- KEY_STATUS as the key ring stands. -/
def State.keyRegs (s : State) : State :=
  ((s.wr R.LOG_KEY_STATUS_ACTIVE pLog s.activeSlot).wr R.LOG_KEY_STATUS_GEN pLog
    ((s.activeKey.map (fun k => k.gen)).getD (if s.log.image.keyCommit = [] then s.otp 1 else 0))).wrB
    R.LOG_KEY_STATUS_STAGED pLog s.log.staged.isSome

/-- A key operation ends with a status. -/
def State.keyEnd (s : State) (st : Nat) : State :=
  (({ s with log := { s.log with keyOp := 0, keyNew := none } }.wr R.LOG_KEY_STATUS_BUSY pLog 0).wr
    R.LOG_KEY_STATUS_STATUS pLog st).keyRegs

/-- GENERATE (R524): PF0 writes KEY_CMD with OP 1; refused with BUSY while an update is in progress (R526). -/
def execGenerate (s : State) : Host.Outcome State Fault Refusal :=
  .next (
    if s.mayWrite 0 pLog = false then s
    else if s.flag R.LOG_KEY_STATUS_BUSY pLog then s.wr R.LOG_KEY_STATUS_STATUS pLog St.BUSY
    else { s with log := { s.log with keyOp := 1 } }.wr R.LOG_KEY_STATUS_BUSY pLog 1)

/-- A byte of the public keys that a GENERATE makes: the uncompressed P-384 point, then the ML-DSA-65 key. -/
def pubKeyByte (id i : Nat) : Nat := if i = 0 then 4 else Config.secret (2 ^ 32 + id * 4096 + i) % 256

/-- INSTALL (R522, R524): PF0 writes KEY_CMD with OP 2. The buffer's certificates as the Keeper reads them: the leaf's keys, the chain's
certificates with its anchor last, the anchors of the new trust list and its version; the chain's bytes are those of the buffer. The first
check that fails refuses it; else the inactive slot is erased on both devices. -/
def execInstall (leaf : Nat) (chain anchors : List Nat) (trust : Nat) (hostErr : Bool) (s : State) :
    Host.Outcome State Fault Refusal :=
  .next (
    let gen := s.rg R.LOG_KEY_STATUS_GEN pLog + 1
    let root := chain.getLast?.getD leaf
    if s.mayWrite 0 pLog = false then s
    else if s.flag R.LOG_KEY_STATUS_BUSY pLog then s.wr R.LOG_KEY_STATUS_STATUS pLog St.BUSY
    else if s.log.staged = none then s.keyEnd St.KEY_NONE
    else if hostErr then s.keyEnd St.HOST_ERROR
    else if s.log.staged ≠ some [leaf] then s.keyEnd St.KEY_MISMATCH
    else if anchors.contains root = false ∨ s.anchors.contains root = false then s.keyEnd St.KEY_CHAIN
    else if trust < s.otp 2 then (s.keyEnd St.ROLLBACK).raise pLog Er.LOG_ROLLBACK
    else if gen > 64 ∨ trust > otpSteps 2 then s.keyEnd St.KEY_EXHAUSTED
    else if s.logDead then s.keyEnd St.LOG_DEV_FAIL
    else
      let slot := 1 - s.activeSlot
      let buf := aHost (s.rg R.LOG_KEY_BUF_ADDR pLog * 64)
      let certs := s.rbs (buf + 4) (min (ofBytes (s.rbs buf 4)) (s.rg R.LOG_KEY_BUF_LEN_LEN pLog - 4))
      let body := leBytes 4 0x4B534C54 ++ [gen, trust] ++ leBytes 8 leaf ++ certs ++ (chain ++ anchors).flatMap (fun c => leBytes 8 c)
      let k : KeySlot := ⟨gen, trust, ofBytes (sha384 body), leaf, chain, anchors, certs⟩
      { s with log := { s.log with
          keyOp := 2, keyStep := 1, keyNew := some k
          keys := NMap.put (2 * slot) none (NMap.put (2 * slot + 1) none s.log.keys) } }.wr R.LOG_KEY_STATUS_BUSY pLog 1)

/-- The new slot image on the devices that take writes (R524 step 2). -/
def State.keyProgram (s : State) (slot : Nat) (k : KeySlot) : State :=
  let put (d : Nat) (m : NMap (Option KeySlot)) : NMap (Option KeySlot) :=
    if (s.fl d).failed then m else NMap.put (2 * slot + d) (some k) m
  { s with log := { s.log with keyStep := 2, keys := put 1 (put 0 s.log.keys) } }

/-- KEY_CMD_DONE (R524): a GENERATE has written its public keys to the buffer, or the INSTALL in progress programs its slot, verifies
it by test signatures (`verified`), commits KEY_COMMIT and advances KEY_GEN and TRUST_GEN. -/
def execKeyCmdDone (verified hostErr : Bool) (s : State) : Host.Outcome State Fault Refusal :=
  .next (
    if s.log.keyOp = 1 then
      if hostErr then s.keyEnd St.HOST_ERROR
      else
        let (id, s) := s.freeVal
        let n := min 2049 (s.rg R.LOG_KEY_BUF_LEN_LEN pLog)
        let s := s.wbs (aHost (s.rg R.LOG_KEY_BUF_ADDR pLog * 64)) ((List.range n).map (pubKeyByte id))
        { s with log := { s.log with staged := some [id] } }.keyEnd St.OK
    else if s.log.keyOp = 2 then
      match s.log.keyNew with
      | none => s.keyEnd St.ABORTED
      | some k =>
        let slot := 1 - s.activeSlot
        let s := s.keyProgram slot k
        if verified = false then s.keyEnd St.KEY_VERIFY
        else
          let s := s.commitNow 0x0150 (leBytes 1 slot ++ leBytes 1 k.gen ++ leBytes 48 k.digest)
          if s.log.image.keyCommit.head? ≠ some (slot, k.gen, k.digest) then s.keyEnd St.LOG_DEV_FAIL
          else
            let s := (s.otpAdvance 1 k.gen).otpAdvance 2 k.trust
            { s with log := { s.log with staged := none, keyStep := 0 } }.keyEnd St.OK
    else s)

/-- KEY_ABORT (R526): PF0 writes KEY_CMD with OP 3: a staged GENERATE is discarded, and an operation in progress ends. -/
def execKeyAbort (s : State) : Host.Outcome State Fault Refusal :=
  .next (
    let busy := s.flag R.LOG_KEY_STATUS_BUSY pLog
    if s.mayWrite 0 pLog = false then s
    else { s with log := { s.log with staged := none, keyStep := 0 } }.keyEnd (if busy then St.ABORTED else St.OK))

/-- At boot the key ring is checked (R525): a copy that the named slot's KEY_COMMIT does not match is rewritten from the one that
does, slots below the OTP counters are refused, and a module without a slot records KEYRING_LOST. -/
def State.keyBoot (s : State) : State :=
  let good (c : Nat × Nat × Nat) (d : Nat) : Option KeySlot :=
    match NMap.get none s.log.keys (2 * c.1 + d) with
    | some k => if k.gen = c.2.1 ∧ k.digest = c.2.2 then some k else none
    | none => none
  let pick (c : Nat × Nat × Nat) : Option KeySlot :=
    ([0, 1].filter (fun d => !(s.fl d).failed)).findSome? (good c)
  let fit (s : State) (k : KeySlot) : Bool := decide (s.otp 1 ≤ k.gen) && decide (s.otp 2 ≤ k.trust)
  let commits := s.log.image.keyCommit
  if commits = [] then s.keyRegs
  else
    let s := match commits.head? with
      | some c => if c.2.1 > s.otp 1 ∧ (pick c).isSome then s.otpAdvance 1 c.2.1 else s
      | none => s
    let low := commits.any (fun c => match pick c with
      | some k => !fit s k
      | none => false)
    let s := { s with log := { s.log with keys := s.log.keys.map (fun e =>
      (e.1, match e.2 with | some k => if fit s k then some k else none | none => none)) } }
    match commits.find? (fun c => match pick c with | some k => fit s k | none => false) with
    | none => (s.raise pLog Er.LOG_KEYRING_LOST).keyRegs
    | some c =>
      match pick c with
      | none => s
      | some k =>
        let bad := [0, 1].filter (fun d => !(s.fl d).failed && (good c d).isNone)
        let s := bad.foldl (fun s d => { s with log := { s.log with keys := NMap.put (2 * c.1 + d) (some k) s.log.keys } }) s
        let s := if bad = [] then s else s.raise pLog Er.LOG_LOG_REPAIR
        let s := if low = true ∧ commits.head? ≠ some c then s.raise pLog Er.LOG_ROLLBACK else s
        s.keyRegs

/-! ### The main loop (R476) -/

/-- HEARTBEAT_TICK (R476, R516): a TBC millisecond of the main loop. -/
def execHeartbeatTick (s : State) : Host.Outcome State Fault Refusal :=
  .next (if s.keeperUp then (s.wr R.KPR_HEARTBEAT_COUNT pKpr (s.rg R.KPR_HEARTBEAT_COUNT pKpr + 1)).logThrottle.logRegs else s)

/-! ### Reading the log (R528) -/

/-- The records from SEQ `start` on whose TYPE lies in a range, in SEQ order. -/
def LogSt.select (l : LogSt) (start lo hi : Nat) : List (LogRec × Nat) :=
  l.records.filter (fun r => decide (start ≤ r.1.seq) && decide (lo ≤ r.1.typ) && decide (r.1.typ ≤ hi))

/-- LOG_READ (R528): PF0 writes READ_CTRL.GO; ignored while a read is in progress. -/
def execLogRead (s : State) : Host.Outcome State Fault Refusal :=
  .next (
    if s.mayWrite 0 pLog = false ∨ s.flag R.LOG_READ_RESULT_DONE pLog = false then s
    else if s.rg R.LOG_LOG_STATUS_STATE pLog = 0 then
      (((s.wr R.LOG_READ_RESULT_STATUS pLog St.LOG_NOT_READY).wr R.LOG_READ_RESULT_COUNT pLog 0).wr R.LOG_READ_RESULT_GAP pLog 0)
    else
      { s with log := { s.log with reading := some (s.rg R.LOG_READ_BASE_ADDR pLog * 64, s.rg R.LOG_READ_LEN_LEN pLog,
          s.rg R.LOG_READ_START_SEQ pLog, s.rg R.LOG_READ_FILTER_TYPE_LO pLog, s.rg R.LOG_READ_FILTER_TYPE_HI pLog) } }.wr
        R.LOG_READ_RESULT_DONE pLog 0)

/-- How many bytes and records a read of `len` bytes copies of the records selected: 4,096 at most. -/
def readFit (len : Nat) : Nat → List (LogRec × Nat) → List (LogRec × Nat)
  | _, [] => []
  | used, r :: l => if used + r.1.size ≤ len then r :: readFit len (used + r.1.size) l else []

/-- LOG_READ_DONE (R528): the records are copied and READ_RESULT and READ_NEXT posted; `hostErr` where a write to the buffer
fails. -/
def execLogReadDone (hostErr : Bool) (s : State) : Host.Outcome State Fault Refusal :=
  .next (
    match s.log.reading with
    | none => s
    | some (base, len, start, lo, hi) =>
      let all := s.log.select start lo hi
      let got := (readFit len 0 all).take 4096
      let oldest := s.rg R.LOG_OLDEST_SEQ_SEQ pLog
      let next := match all.drop got.length, got.getLast? with
        | r :: _, _ => r.1.seq
        | [], _ => s.log.nextSeq
      let s := { s with log := { s.log with reading := none } }
      let s := s.wr R.LOG_READ_RESULT_DONE pLog 1
      if hostErr then (s.wr R.LOG_READ_RESULT_STATUS pLog St.HOST_ERROR).wr R.LOG_READ_RESULT_COUNT pLog 0
      else
        let s := s.wbs (aHost base) (got.flatMap (fun r => r.1.image r.2))
        let s := (s.wr R.LOG_READ_RESULT_COUNT pLog got.length).wr R.LOG_READ_RESULT_STATUS pLog St.OK
        let s := s.wrB R.LOG_READ_RESULT_GAP pLog (decide (start ≠ 0) && decide (start < oldest))
        (s.wr R.LOG_READ_NEXT_SEQ pLog next).cnt pLog Cn.LOG_READ_RECS got.length)

end Sys2Proof.Machine
end

