-- ==== Sys2Proof/Machine/Agree.lean ====
section
/-!
DEFINITION. The daymark and agreement across the machine (R351–R359).
-/

namespace Sys2Proof.Machine

/-! ### The daymark (R351–R355) -/

/-- A page's ID register (R12, R604). -/
def pageId (p : Nat) : Nat := blockType p * 2 ^ 16 + instanceOf p * 2 ^ 8 + 1

/-- The pages of module scope (R353): TOP and the ports. -/
def modulePages : List Nat := pTop :: (List.range 16).map pLnk

/-- The pages with configuration-class registers, by rising address (R605): the others contribute nothing. -/
def termPages : List Nat := [pTop, pKpr, pRte] ++ (List.range 16).map pLnk ++ (List.range 256).map pCol

/-- EXPECT of a page of module scope. -/
def State.expect (s : State) (p : Nat) : Nat := NMap.get 0 s.log.image.expect (pageId p)

/-- TERM of a page (R353). -/
def State.term (s : State) (p : Nat) : Nat :=
  let d := s.rg R.HDR_CFG_DIGEST_DIGEST p
  if modulePages.contains p then d ^^^ s.expect p else d

/-- The slot that the Keeper's firmware runs from. -/
def State.runningSlot (s : State) : Nat := s.rg R.FWU_FWU_STATUS_RUNNING pFwu

/-- VERSION and SVN of the running image; 0 in the ROM and in Fog mode. -/
def State.fwVersion (s : State) : Nat × Nat :=
  let k := s.rg R.KPR_KSTATE_STATE pKpr
  if k = 0 ∨ k = 2 then (0, 0)
  else if s.runningSlot = 0 then (s.rg R.FWU_SLOT_A_VERSION pFwu, s.rg R.FWU_SLOT_A_SVN pFwu)
  else (s.rg R.FWU_SLOT_B_VERSION pFwu, s.rg R.FWU_SLOT_B_SVN pFwu)

/-- The configuration manifest (R351, R352). -/
def State.manifest (s : State) : List Nat :=
  let fw := s.fwVersion
  leBytes 4 0x4D445354 ++ leBytes 4 1 ++ leBytes 4 fw.1 ++ leBytes 4 fw.2
  ++ (termPages.filter (fun p => decide (s.term p ≠ 0))).flatMap (fun p =>
    leBytes 4 (pageId p) ++ leBytes 1 (s.owner p) ++ leBytes 1 (b2n (modulePages.contains p)) ++ [0, 0] ++ leBytes 8 (s.term p))

/-- The daymark digest of the manifest (R355). -/
def State.daymarkOf (s : State) : Nat := ofBytes ((sha384 s.manifest).take 8)

/-- The Keeper recomputes the daymark (R353, R355). -/
def State.daymarkCompute (s : State) : State :=
  let d := s.daymarkOf
  let was := s.flag R.TOP_AGREE_STATUS_UNAPPROVED pTop
  let un := modulePages.any (fun p => decide (s.term p ≠ 0))
  let s := { s with agree := { s.agree with again := false } }.wr R.TOP_AGREE_STATUS_COMPUTING pTop 0
  let s :=
    if d = s.rg R.TOP_DAYMARK_DIGEST pTop then s
    else
      ({ s with agree := { s.agree with changed := true } }.wr R.TOP_DAYMARK_DIGEST pTop d).cnt pTop Cn.TOP_DM_RECOMPUTE
  let s := s.wrB R.TOP_AGREE_STATUS_UNAPPROVED pTop un
  if un = true ∧ was = false then s.raise pTop Er.TOP_UNAPPROVED else s

/-- DAYMARK_RECOMPUTE (R355): a recomputation that is pending is done. -/
def execDaymarkRecompute (s : State) : Host.Outcome State Fault Refusal :=
  .next (if s.agree.again = true ∧ s.keeperUp = true then s.daymarkCompute else s)

/-- A recomputation becomes pending. -/
def State.daymarkAgain (s : State) : State :=
  { s with agree := { s.agree with again := true } }.wr R.TOP_AGREE_STATUS_COMPUTING pTop 1

/-! ### Approval and the epoch (R354, R356) -/

/-- DM_APPROVE (R354): function `req` writes DM_APPROVE.GO; ignored while BUSY. -/
def execDmApprove (req : Nat) (s : State) : Host.Outcome State Fault Refusal :=
  .next (
    if s.mayWrite req pTop = false ∨ s.flag R.TOP_DM_APPROVE_BUSY pTop = true then s
    else
      let tab := modulePages.map (fun p => (pageId p, s.rg R.HDR_CFG_DIGEST_DIGEST p))
      { s with agree := { s.agree with approval := some tab } }.wr R.TOP_DM_APPROVE_BUSY pTop 1)

/-- DM_APPROVE_DONE (R354): the EXPECT table commits to the log, comes into force, and the daymark is recomputed. It waits while the
Keeper restarts (R477). -/
def execDmApproveDone (s : State) : Host.Outcome State Fault Refusal :=
  .next (
    match s.agree.approval with
    | none => s
    | some tab =>
      if s.keeperUp = false then s
      else
        let s := { s with agree := { s.agree with approval := none } }
        let s := s.commitNow 0x0161 (tab.flatMap (fun e => leBytes 4 e.1 ++ leBytes 8 e.2))
        (s.wr R.TOP_DM_APPROVE_BUSY pTop 0).daymarkCompute)

/-- Whether `e` is newer than `c` among numbers of `w` bits (R356). -/
def newer (w e c : Nat) : Bool :=
  let d := (e + 2 ^ w - c % 2 ^ w) % 2 ^ w
  decide (1 ≤ d) && decide (d < 2 ^ (w - 1))

/-- EPOCH_WRITE (R356): function `req` writes CFG_EPOCH. -/
def execEpochWrite (req val : Nat) (s : State) : Host.Outcome State Fault Refusal :=
  .next (
    if s.mayWrite req pTop = false then s
    else
      let e := val % 2 ^ 32
      if newer 32 e (s.rg R.TOP_CFG_EPOCH_EPOCH pTop) then
        let s := s.wr R.TOP_CFG_EPOCH_EPOCH pTop e
        let s := { s with
          agree := { s.agree with changed := true }
          log := { s.log with image := { s.log.image with epoch := e } } }
        s.logStateRec 0x0160 (leBytes 4 e)
      else s.raise pTop Er.TOP_EPOCH_STALE)

/-! ### Agreement (R357–R359) -/

/-- Whether a port takes part in agreement (R357). -/
def State.takesPart (s : State) (p : Nat) : Bool :=
  s.lnkUp p && !(s.flag R.LNK_PORT_FLAGS_LOOPBACK (pLnk p)) && !(bit (s.rg R.TOP_DM_PORTS_EXCLUDE pTop) p)
    && !(bit (s.peerChar p 2 2) 1)

/-- Whether a port that takes part is in mismatch: its last good frame is older than 2 ms or shows another daymark or
epoch (R357). -/
def State.mismatch (s : State) (p : Nat) : Bool :=
  (match (s.port p).lastChar with
   | none => true
   | some t => decide (t + 2000000 < s.tbc))
  || s.peerChar p 8 8 != s.rg R.TOP_DAYMARK_DIGEST pTop || s.peerChar p 16 4 != s.rg R.TOP_CFG_EPOCH_EPOCH pTop

/-- GEN and DEPTH of a port's last good character frame. -/
def State.peerAgree (s : State) (p : Nat) : Nat × Nat := (s.peerChar p 20 4 / 4096, s.peerChar p 20 4 % 4096)

/-- The newer of two GENs (R358). -/
def genMax (a b : Nat) : Nat := if newer 20 b a then b else a

/-- The agreement fields at a period boundary (R358, R359). -/
def State.agreeBoundary (s : State) : State :=
  let n := (List.range 16).filter s.takesPart
  let bad := n.filter s.mismatch
  let top := n.foldl (fun g p => genMax g (s.peerAgree p).1) (s.rg R.TOP_AGREE_STATE_GEN pTop)
  let gen := if s.agree.changed then (top + 1) % 2 ^ 20 else top
  let depth :=
    if s.agree.changed = true ∨ bad ≠ [] then 0
    else if n = [] then 4095
    else min 4095 (1 + (n.map (fun p => (s.peerAgree p).2)).foldl min 4095)
  let all := decide (depth ≥ s.rg R.KPR_DM_CFG_DIAM pKpr) && n.all (fun p => decide ((s.peerAgree p).1 = gen))
  let was := s.flag R.TOP_AGREE_STATUS_ALL_AGREE pTop
  let s := { s with agree := { s.agree with changed := false } }
  let s := (s.wr R.TOP_AGREE_STATE_GEN pTop gen).wr R.TOP_AGREE_STATE_DEPTH pTop depth
  let s := (s.wrB R.TOP_AGREE_STATUS_ALL_AGREE pTop all).wrB R.TOP_AGREE_STATUS_LOCAL_MATCH pTop (decide (bad = []))
  let s := s.wr R.TOP_AGREE_STATUS_MISMATCH pTop (maskOf 16 (fun p => bad.contains p))
  let s := if all = true ∧ was = false then s.wr R.TOP_ALL_AGREE_TBC_TBC pTop s.tbc else s
  if was = true ∧ all = false then (s.raise pTop Er.TOP_AGREE_LOST).cnt pTop Cn.TOP_AGREE_LOSS else s

/-- AGREE_BOUNDARY (R358): TBC mod 1,000,000 = 0. -/
def execAgreeBoundary (s : State) : Host.Outcome State Fault Refusal := .next s.agreeBoundary

end Sys2Proof.Machine
end

