-- ==== Sys2Proof/Machine/Spdm.lean ====
section
/-!
DEFINITION. The host link (R402) and the Keeper's SPDM responder over the DOE mailbox of PF0 (R433).
-/

namespace Sys2Proof.Machine

/-- The host link trains at `gts` GT/s and `width` lanes (R402). Without Flit Mode the port stays in Detect and counts the attempt;
PCIE_LINK is recorded on PF0 where a link that was up has trained again, or trains below x16 at 64 GT/s (R437). -/
def State.pcieTrain (s : State) (flitMode : Bool) (gts width : Nat) : State :=
  if s.domOn 23 = false then s
  else if flitMode = false then
    { s with host := { s.host with pcieUp := false, pcieWidth := 0, pcieGts := 0, noFlit := s.host.noFlit + 1 } }
  else if [16, 8, 4].contains width && [64, 32, 16].contains gts then
    let again := s.host.pcieUp
    let s := { s with host := { s.host with pcieUp := true, pcieWidth := width, pcieGts := gts } }
    if width = 16 ∧ gts = 64 ∧ again = false then s else s.raise (pHif 0) Er.HIF_PCIE_LINK
  else s

/-- PCIE_LINK_TRAIN (R402). -/
def execPcieLinkTrain (flitMode : Bool) (gts width : Nat) (s : State) : Host.Outcome State Fault Refusal :=
  .next (s.pcieTrain flitMode gts width)

/-! ### The responder (R433); response codes as SPDM 1.3 numbers them -/

/-- Whether the Keeper answers requests: its firmware runs and the host port is on. -/
def State.spdmOn (s : State) : Bool := decide (s.rg R.KPR_KSTATE_STATE pKpr = 1) && s.domOn 23

/-- A response leaves the mailbox. -/
def State.doe (s : State) (code : Nat) (fields : List Nat) : State :=
  { s with host := { s.host with spdm := { s.host.spdm with transcript := s.host.spdm.transcript ++ [code] } } }.emit
    (.doe code fields)

/-- ERROR with a code and its data. -/
def State.doeError (s : State) (code data : Nat) : State := s.emit (.doe 0x7F [code, data])

/-- The bytes of the slot 0 chain; none where no key slot qualifies (R525, R433). -/
def State.chainBytes (s : State) : Option (List Nat) := s.ownChain

/-- The running image's digest: SHA-384 of its slot. -/
def State.imageDigest (s : State) : List Nat := sha384 (NMap.get [] s.fw.slots s.runningSlot)

/-- The value of a measurement index (R433). -/
def State.measure (s : State) (i : Nat) : List Nat :=
  match i with
  | 1 => leBytes 48 (Config.rom 1000)
  | 2 => s.imageDigest
  | 3 => leBytes 4 s.fwVersion.1 ++ leBytes 4 s.fwVersion.2
  | 4 => leBytes 8 (s.rg R.TOP_DAYMARK_DIGEST pTop) ++ leBytes 4 (s.rg R.TOP_CFG_EPOCH_EPOCH pTop)
      ++ leBytes 8 (s.rg R.TOP_DM_APPROVED_DIGEST pTop)
  | 5 => leBytes 1 (s.otp 0) ++ leBytes 1 (s.otp 1) ++ leBytes 1 (s.otp 2)
  | _ => []

/-- A measurement block: index, length, value. -/
def State.measureBlock (s : State) (i : Nat) : List Nat := [i, (s.measure i).length] ++ s.measure i

/-- An ECDSA P-384 signature of 96 bytes: a free value of the Keeper's key. -/
def State.signature (s : State) : List Nat × State :=
  let (v, s) := s.freeVal
  (leBytes 96 v, s)

/-- The answer to a request whose work may be deferred: 0x83 CHALLENGE of a slot with a nonce, 0xE0 GET_MEASUREMENTS of an index with
or without a signature. -/
def State.spdmAnswer (s : State) (code p1 p2 nonce : Nat) : State :=
  if code = 0x83 then
    match s.chainBytes with
    | none => s.doeError 0x01 0
    | some c =>
      let (sig, s) := s.signature
      s.doe 0x03 ([0, 1] ++ sha384 c ++ leBytes 32 nonce ++ sig)
  else
    let all := [1, 2, 3, 4, 5]
    let body := if p2 = 0 then [all.length] else if p2 = 255 then all.flatMap s.measureBlock else s.measureBlock p2
    let (sig, s) := if bit p1 0 then s.signature else ([], s)
    s.doe 0x60 (body ++ leBytes 32 nonce ++ sig)

/-- A request that needs a connection, or the error of one without (the connection requests come first, in order). -/
def State.spdmNeed (s : State) (ok : Bool) (f : State → State) : State :=
  if s.spdmOn = false then s else if ok then f s else s.doeError 0x04 0

/-- GET_VERSION (R433): version 1.3; a new connection begins. -/
def execGetVersion (s : State) : Host.Outcome State Fault Refusal :=
  .next (
    if s.spdmOn = false then s
    else { s with host := { s.host with spdm := ⟨true, false, false, [], 0⟩ } }.doe 0x04 [1, 0x1300])

/-- GET_CAPABILITIES (R433): CTExponent 17; CERT_CAP, CHAL_CAP, MEAS_CAP with signature. -/
def execGetCapabilities (s : State) : Host.Outcome State Fault Refusal :=
  .next (s.spdmNeed s.host.spdm.versionDone (fun s =>
    { s with host := { s.host with spdm := { s.host.spdm with capsDone := true } } }.doe 0x61 [17, 0x16]))

/-- NEGOTIATE_ALGORITHMS (R433): of those offered, BaseAsymAlgo ECDSA P-384 and BaseHashAlgo and MeasurementHashAlgo SHA-384. -/
def execNegotiateAlgorithms (asym hash : Nat) (s : State) : Host.Outcome State Fault Refusal :=
  .next (s.spdmNeed s.host.spdm.capsDone (fun s =>
    if bit asym 7 && bit hash 1 then
      { s with host := { s.host with spdm := { s.host.spdm with algsDone := true } } }.doe 0x63 [0x80, 0x02, 0x04]
    else s.doeError 0x01 0))

/-- GET_DIGESTS (R433): the SHA-384 of the slot 0 chain. -/
def execGetDigests (s : State) : Host.Outcome State Fault Refusal :=
  .next (s.spdmNeed s.host.spdm.algsDone (fun s =>
    match s.chainBytes with
    | some c => s.doe 0x01 ([1] ++ sha384 c)
    | none => s.doe 0x01 [0]))

/-- GET_CERTIFICATE (R433): a portion of the slot 0 chain. -/
def execGetCertificate (slot off len : Nat) (s : State) : Host.Outcome State Fault Refusal :=
  .next (s.spdmNeed s.host.spdm.algsDone (fun s =>
    match s.chainBytes with
    | some c =>
      if slot = 0 ∧ off < c.length then
        let part := (c.drop off).take len
        s.doe 0x02 ([0, part.length, c.length - off - part.length] ++ part)
      else s.doeError 0x01 0
    | none => s.doeError 0x01 0))

/-- A request is deferred: ERROR ResponseNotReady with the request's code. -/
def State.spdmDefer (s : State) (code p1 p2 nonce : Nat) : State :=
  { s with host := { s.host with spdm := { s.host.spdm with
      deferred := code + p1 % 256 * 2 ^ 8 + p2 % 256 * 2 ^ 16 + nonce % 2 ^ 256 * 2 ^ 24 } } }.doeError 0x42 code

/-- CHALLENGE (R433): answered with a signature, now or, where the Keeper defers it (`later`), on RESPOND_IF_READY. -/
def execChallenge (slot nonce : Nat) (later : Bool) (s : State) : Host.Outcome State Fault Refusal :=
  .next (s.spdmNeed s.host.spdm.algsDone (fun s =>
    if slot ≠ 0 then s.doeError 0x01 0
    else if later then s.spdmDefer 0x83 slot 0 nonce
    else s.spdmAnswer 0x83 slot 0 nonce))

/-- GET_MEASUREMENTS (R433): index 0 asks for their number, 255 for all. -/
def execGetMeasurements (sign : Bool) (index nonce : Nat) (later : Bool) (s : State) : Host.Outcome State Fault Refusal :=
  .next (s.spdmNeed s.host.spdm.algsDone (fun s =>
    if 5 < index ∧ index ≠ 255 then s.doeError 0x01 0
    else if later then s.spdmDefer 0xE0 (b2n sign) index nonce
    else s.spdmAnswer 0xE0 (b2n sign) index nonce))

/-- RESPOND_IF_READY (R433): the deferred request is answered. -/
def execRespondIfReady (s : State) : Host.Outcome State Fault Refusal :=
  .next (s.spdmNeed s.host.spdm.algsDone (fun s =>
    let d := s.host.spdm.deferred
    if d = 0 then s.doeError 0x04 0
    else
      { s with host := { s.host with spdm := { s.host.spdm with deferred := 0 } } }.spdmAnswer (d % 256) (d / 2 ^ 8 % 256)
        (d / 2 ^ 16 % 256) (d / 2 ^ 24)))

/-- SPDM_UNSUPPORTED (R433): any other request is answered with ERROR UnsupportedRequest. -/
def execSpdmUnsupported (code : Nat) (s : State) : Host.Outcome State Fault Refusal :=
  .next (if s.spdmOn then s.doeError 0x07 code else s)

end Sys2Proof.Machine
end

