-- ==== Sys2Proof/Machine/Clock.lean ====
section
/-!
DEFINITION. The board's regulators over AVSBus (R440–R442, R585), the core clock (R459–R461), CLK_HST (R462), and the
ageing margin with its trims (R463, R464).
-/

namespace Sys2Proof.Machine

/-! ### Rails (R440–R442); voltages in units of 0.05 mV -/

/-- A rail that AVSBus sets: 0 VDD_CORE, 1 VDD_BASE, 2 VDD_HST. -/
def State.rail (s : State) (r : Nat) : Rail := NMap.get Rail.init s.pwr.rails r

/-- Replace a rail. -/
def State.setRail (s : State) (r : Nat) (x : Rail) : State := { s with pwr := { s.pwr with rails := NMap.put r x s.pwr.rails } }

/-- Range of a rail (R440). -/
def railRange (r : Nat) : Nat × Nat := if r = 0 then (7600, 13000) else if r = 1 then (13000, 16000) else (12000, 18000)

/-- The Keeper writes a rail's voltage over AVSBus and reads AVSBus Status after it, as after every write (R441). -/
def State.avsSend (s : State) (r v : Nat) : State := (s.emit (.avs 0 r v)).emit (.avs 0xE r 0)

/-- A voltage is written (R442), for a frequency change (0), a trim (1), CLK_HST (2), a lowering (3) or the boot (4): not while the Keeper
restarts (R477), after a failed write only by the retry, and never outside the rail's range (R441). -/
def State.railWrite (s : State) (r v why : Nat) : State :=
  let x := s.rail r
  if s.keeperUp = false ∨ x.failed = true ∨ v < (railRange r).1 ∨ v > (railRange r).2 then s
  else (s.setRail r { x with pend := some (v, s.tbc, 0), why := why }).avsSend r v

/-- Largest trim of the domains, in units of 0.05 mV (R445). -/
def State.maxTrim (s : State) : Nat := 25 * ((List.range 16).map (fun d => s.rg (R.PWR_TRIM_TRIM d) pPwr)).foldl max 0

/-- VDD_CORE at an operating point (R440). -/
def State.coreVolt (s : State) (k : Nat) : Nat := 20 * oppVop k + s.maxTrim

/-- The operating point in use. -/
def State.opp (s : State) : Nat := s.rg R.CLK_FREQ_STATUS_OPP pClk

/-- Whether a frequency change is pending. -/
def State.freqPend (s : State) : Bool := s.flag R.CLK_FREQ_STATUS_PEND pClk

/-- The last frequency request has completed with a status. -/
def State.freqResult (s : State) (st : Nat) : State :=
  (s.wr R.CLK_FREQ_RESULT_DONE pClk 1).wr R.CLK_FREQ_RESULT_STATUS pClk st

/-- The pending change is gone. -/
def State.freqClear (s : State) : State :=
  ({ s with pwr := { s.pwr with chg := 0, hold := none, spare := 0 } }.wr R.CLK_FREQ_STATUS_PEND pClk 0).wr
    R.CLK_FREQ_STATUS_PEND_OPP pClk 0

/-- The pending change is abandoned with FCHG_ABORT, and a voltage already raised is returned (R460, R461). -/
def State.freqAbort (s : State) : State :=
  if s.freqPend = false then s
  else
    let raised := decide (s.pwr.chg ≥ 2)
    let s := (s.freqClear.freqResult St.FCHG_ABORT).cnt pClk Cn.CLK_FCHG_REFUSED
    let s := if raised then s.railWrite 0 (s.coreVolt s.opp) 3 else s
    s.raise pClk Er.CLK_FCHG_ABORT

/-- A CLK_HST change ends without its voltage: the frequency stays. -/
def State.hstAbandon (s : State) : State :=
  match s.pwr.hstOld with
  | none => s
  | some f =>
    (({ s with pwr := { s.pwr with hstOld := none } }.wr R.CLK_HST_FREQ_MHZ pClk f).wr R.CLK_HST_FREQ_BUSY pClk 0)

/-- What a confirmed voltage lets go on (R460). -/
def State.railConfirmed (s : State) (why : Nat) : State :=
  if why = 0 ∧ s.pwr.chg = 2 then { s with pwr := { s.pwr with chg := 3 } } else s

/-- A rail has failed (R442): the change that needed the voltage is abandoned, and the setting in force is tried again each
second. -/
def State.railFail (s : State) (r : Nat) : State :=
  let x := s.rail r
  let s := (s.setRail r { x with pend := none, failed := true }).raise pPwr Er.PWR_AVS_FAIL
  if x.why = 0 then s.freqAbort else if x.why = 2 then s.hstAbandon else s

/-- When a pending voltage of a rail must have been confirmed (R442): the slew at 1 mV/µs, and 50 µs. -/
def Rail.deadline (x : Rail) (v t : Nat) : Nat := t + 50 * (max v x.set - min v x.set) + 50000

/-- AVS_READBACK (R441, R442): the rail, and AVSBus Status with it, is read back; `read` is none for a frame with a bad CRC or no response. Three
such frames in a row are retried; a confirmation that comes late is none. -/
def execAvsReadback (r : Nat) (read : Option AvsReply) (s : State) : Host.Outcome State Fault Refusal :=
  .next (
    let x := s.rail r
    match x.pend with
    | none => s
    | some (v, t, n) =>
      let late := decide (s.tbc > x.deadline v t)
      match read with
      | none =>
        if n ≥ 3 ∨ late = true then s.railFail r
        else ((s.setRail r { x with pend := some (v, t, n + 1) }).cnt pPwr Cn.PWR_AVS_RETRY).raise pPwr Er.PWR_AVS_RETRY
      | some u =>
        let s := { s with pwr := { s.pwr with avsStatus := u.status } }
        if late then s.railFail r
        else if u.volt ≤ v + 100 ∧ v ≤ u.volt + 100 then
          (s.setRail r { x with set := v, pend := none, failed := false }).railConfirmed x.why
        else s.setRail r { x with pend := some (v, t, 0) })

/-- AVS_FAIL_RETRY (R442): once a second after AVS_FAIL the Keeper writes the setting in force again. -/
def execAvsFailRetry (r : Nat) (s : State) : Host.Outcome State Fault Refusal :=
  .next (
    let x := s.rail r
    if x.failed = true ∧ x.pend.isNone = true ∧ s.keeperUp = true then
      (s.setRail r { x with pend := some (x.set, s.tbc, 0), why := 4 }).avsSend r x.set
    else s)

/-- Current of the CG domains in the last telemetry record, in units of 25 mA (R450). -/
def State.cgCurrent (s : State) : Nat :=
  ((List.range 16).map (fun d => ofBytes ((s.pwr.telem.drop (0x18 + 4 * d + 2)).take 2))).foldl (· + ·) 0

/-- AVS_CURRENT_READ (R441, R442): the current of rail 0, in units of 25 mA, against the sum of the CG domains; above 3 % in 10
milliseconds in a row records TELEM_MISMATCH. -/
def execAvsCurrentRead (amps : Nat) (s : State) : Host.Outcome State Fault Refusal :=
  .next (
    let sum := s.cgCurrent
    let bad := decide (100 * (max amps sum - min amps sum) > 3 * sum)
    let n := if bad then s.pwr.mismatch + 1 else 0
    let s := { s with pwr := { s.pwr with mismatch := if n ≥ 10 then 0 else n } }
    if n ≥ 10 then s.raise pPwr Er.PWR_TELEM_MISMATCH else s)

/-- AVS_TEMP_READ (R441): the temperatures of rails 0–2, reported only. -/
def execAvsTempRead (t0 t1 t2 : Nat) (s : State) : Host.Outcome State Fault Refusal :=
  .next { s with pwr := { s.pwr with regTemp := [t0, t1, t2] } }

/-- AVS_ALERT (R441, R585): the Keeper reads AVSBus Status. -/
def execAvsAlert (status : Nat) (s : State) : Host.Outcome State Fault Refusal :=
  .next (if s.keeperUp then { s with pwr := { s.pwr with avsStatus := status } } else s)

/-! ### The core clock (R459–R461) -/

/-- A change to a point is scheduled: the spare PLL prepares it. -/
def State.freqSchedule (s : State) (k at_ : Nat) : State :=
  let s := { s with pwr := { s.pwr with chg := 1, spare := k } }
  let s := (s.wr R.CLK_FREQ_STATUS_PEND pClk 1).wr R.CLK_FREQ_STATUS_PEND_OPP pClk k
  ((s.wr R.CLK_FREQ_REQ_OPP pClk k).wr R.CLK_FREQ_TBC_TBC pClk at_).wr R.CLK_FREQ_RESULT_DONE pClk 0

/-- A frequency request is refused. -/
def State.freqRefuse (s : State) (st : Nat) : State :=
  (if s.freqPend then s.wr R.CLK_FREQ_RESULT_STATUS pClk st else s.freqResult st).cnt pClk Cn.CLK_FCHG_REFUSED

/-- Why a request for `k` at a TBC is refused; OK where it is accepted (R459, R477). -/
def State.freqCheck (s : State) (k at_ : Nat) : Nat :=
  if s.keeperUp = false then St.KEEPER_RESTARTING
  else if s.freqPend then St.BUSY
  else if at_ < s.tbc + 1000000 then St.FCHG_LATE
  else if k > s.rg R.CLK_OPP_LIMIT_OPP pClk then St.FCHG_OPP
  else St.OK

/-- A pending change is cancelled by a write of 0 before its first voltage step (R459). -/
def State.freqCancel (s : State) : State :=
  if s.freqPend = true ∧ s.pwr.chg = 1 then
    ((s.freqClear.wr R.CLK_FREQ_TBC_TBC pClk 0).freqResult St.ABORTED).cnt pClk Cn.CLK_FCHG_REFUSED
  else s

/-- Software writes FREQ_TBC: a schedule, or with 0 a cancel (R459). -/
def State.freqWrite (s : State) (at_ : Nat) : State :=
  if s.flag R.CLK_CLK_CTRL_AUTO pClk then s.freqRefuse St.DENIED
  else if at_ = 0 then s.freqCancel
  else
    let k := s.rg R.CLK_FREQ_REQ_OPP pClk
    let st := s.freqCheck k at_
    if st = St.OK then s.freqSchedule k at_ else s.freqRefuse st

/-- Software writes FREQ_REQ (R459): refused while the governor schedules changes and while a change is pending. -/
def State.freqReqWrite (s : State) (k : Nat) : State :=
  if s.flag R.CLK_CLK_CTRL_AUTO pClk then s.freqRefuse St.DENIED
  else if s.freqPend then s.freqRefuse St.BUSY
  else s.wr R.CLK_FREQ_REQ_OPP pClk k

/-- FREQ_SCHEDULE (R459): function `req` writes a flip count to FREQ_TBC. -/
def execFreqSchedule (req tbc : Nat) (s : State) : Host.Outcome State Fault Refusal :=
  .next (if s.mayWrite req pClk then s.freqWrite (tbc % 2 ^ 64) else s)

/-- FREQ_CANCEL (R459): function `req` writes 0 to FREQ_TBC. -/
def execFreqCancel (req : Nat) (s : State) : Host.Outcome State Fault Refusal :=
  .next (if s.mayWrite req pClk then s.freqWrite 0 else s)

/-- Target of the pending change. -/
def State.freqTo (s : State) : Nat := s.rg R.CLK_FREQ_STATUS_PEND_OPP pClk

/-- FREQ_VOLTAGE_RAISE (R460 step 2): before an upward switch VDD_CORE is written for the new point. -/
def execFreqVoltageRaise (s : State) : Host.Outcome State Fault Refusal :=
  .next (
    if s.freqPend = true ∧ s.pwr.chg = 1 ∧ s.freqTo > s.opp ∧ s.keeperUp = true ∧ (s.rail 0).failed = false then
      { s.railWrite 0 (s.coreVolt s.freqTo) 0 with pwr := { (s.railWrite 0 (s.coreVolt s.freqTo) 0).pwr with chg := 2 } }
    else s)

/-- FREQ_LEVEL_HOLD (R460 steps 3 and 4): before an upward switch the cores' levels are held to the ratio of the frequencies; without a
confirmed voltage the change is abandoned. -/
def execFreqLevelHold (s : State) : Host.Outcome State Fault Refusal :=
  .next (
    if s.freqPend = false ∨ s.freqTo ≤ s.opp then s
    else if s.pwr.chg ≠ 3 then s.freqAbort
    else { s with pwr := { s.pwr with hold := some (s.pwr.lvl.map (fun e => (e.1, e.2 * oppFreq s.opp / oppFreq s.freqTo))) } })

/-- The clock runs at a point from an edge on (R460 step 5). -/
def State.clockAt (s : State) (k edge : Nat) : State :=
  let s := { s with pwr := { s.pwr with fchg := true } }
  ((s.wr R.CLK_FREQ_STATUS_OPP pClk k).wr R.CLK_FREQ_STATUS_FREQ pClk (oppFreq k)).wr R.CLK_LAST_CHANGE_TBC_TBC pClk edge

/-- The multiplexer switches to the prepared PLL; after a downward switch the voltage is still to be lowered. -/
def State.freqSwitch (s : State) (edge : Nat) : State :=
  let k := s.freqTo
  let down := decide (k < s.opp)
  let s := (s.freqClear.clockAt k edge).freqResult St.OK
  { s with pwr := { s.pwr with lower := s.pwr.lower || down } }.cnt pClk Cn.CLK_FCHG_DONE

/-- FREQ_SWITCH (R460 step 5): the edge at FREQ_TBC. -/
def execFreqSwitch (s : State) : Host.Outcome State Fault Refusal :=
  .next (
    if s.freqPend = false then s
    else if s.freqTo > s.opp ∧ s.pwr.chg ≠ 3 then s.freqAbort
    else s.freqSwitch (s.rg R.CLK_FREQ_TBC_TBC pClk))

/-- FREQ_VOLTAGE_LOWER (R460 step 6): after a downward switch the lower VDD_CORE is written. -/
def execFreqVoltageLower (s : State) : Host.Outcome State Fault Refusal :=
  .next (
    if s.pwr.lower = true ∧ s.keeperUp = true then
      { s.railWrite 0 (s.coreVolt s.opp) 3 with pwr := { (s.railWrite 0 (s.coreVolt s.opp) 3).pwr with lower := false } }
    else s)

/-- PLL_UNLOCK (R461): the PLL in use (`running`) or the preparing one loses lock. The clock then runs from the spare: at OPP0, or,
where it has been prepared, at the pending point, the change taken as done early. -/
def execPllUnlock (running : Bool) (s : State) : Host.Outcome State Fault Refusal :=
  .next (
    if running then
      let s := if s.freqPend then s.freqSwitch s.tbc else
        let s := s.clockAt 0 s.tbc
        { s with pwr := { s.pwr with lower := true } }
      s.raise pClk Er.CLK_PLL_UNLOCK
    else s.freqAbort)

/-! ### CLK_HST (R462) -/

/-- VDD_HST for a frequency. -/
def hstVolt (mhz : Nat) : Nat := 12000 + 3 * (mhz - 400)

/-- Highest CLK_HST: 1,400 MHz while HSTC is derated (R449). -/
def State.hstTop (s : State) : Nat := if NMap.get 0 s.log.image.derate 16 = 0 then 2200 else 1400

/-- Whether a voltage of a rail can be written now (R442, R477). -/
def State.railReady (s : State) (r : Nat) : Bool := s.keeperUp && !((s.rail r).failed)

/-- HST_FREQ is written: ignored while BUSY and outside its range. A raise whose voltage cannot be written is abandoned at once, and
the frequency stays. -/
def State.hstWrite (s : State) (mhz : Nat) : State :=
  if s.flag R.CLK_HST_FREQ_BUSY pClk = true ∨ mhz < 400 ∨ mhz > 2200 then s
  else
    let f := min mhz s.hstTop
    let old := s.rg R.CLK_HST_FREQ_MHZ pClk
    if f > old ∧ s.railReady 2 = false then s
    else
      let s := { s with pwr := { s.pwr with hstOld := some old } }
      let s := (s.wr R.CLK_HST_FREQ_MHZ pClk f).wr R.CLK_HST_FREQ_BUSY pClk 1
      if f > old then s.railWrite 2 (hstVolt f) 2 else s

/-- HST_FREQ_WRITE (R462): function `req` writes HST_FREQ. -/
def execHstFreqWrite (req mhz : Nat) (s : State) : Host.Outcome State Fault Refusal :=
  .next (if s.mayWrite req pClk then s.hstWrite (mhz % 4096) else s)

/-- HST_FREQ_DONE (R462): the switch; a raise waits for its voltage, a lowering is followed by the lower one. A domain derated
meanwhile is then lowered to its limit (R449). -/
def execHstFreqDone (s : State) : Host.Outcome State Fault Refusal :=
  .next (
    match s.pwr.hstOld with
    | none => s
    | some old =>
      let f := s.rg R.CLK_HST_FREQ_MHZ pClk
      if f > old ∧ ((s.rail 2).pend.isSome = true ∨ (s.rail 2).set < hstVolt f) then s
      else
        let s := { s with pwr := { s.pwr with hstOld := none } }.wr R.CLK_HST_FREQ_BUSY pClk 0
        let s := if f < old then s.railWrite 2 (hstVolt f) 3 else s
        if f > s.hstTop then s.hstWrite s.hstTop else s)

/-! ### Trims (R463, R464) -/

/-- OPP_LIMIT for the trims in force (R464): the highest point whose VOP and the largest trim stay within 0.65 V. -/
def State.oppLimit (s : State) : Nat :=
  ((List.range 8).reverse.find? (fun k => decide (s.coreVolt k ≤ 13000))).getD 0

/-- A trim that is due and cannot be applied yet is counted, once (R473). -/
def State.trimWait (s : State) (d : Nat) : State :=
  if NMap.get false s.pwr.trimHeld d then s
  else { s with pwr := { s.pwr with trimHeld := NMap.put d true s.pwr.trimHeld } }.cnt pPwr Cn.PWR_TRIM_DUE

/-- A domain that is due for a trim (R463): at the limit TRIM_EXHAUSTED once; within an hour of its last trim, with a change
pending or the Keeper restarting it is held; else its record commits. -/
def State.trimTry (s : State) (d : Nat) : State :=
  let trim := s.rg (R.PWR_TRIM_TRIM d) pPwr
  let soon := match s.pwr.trimLast.find? (fun e => decide (e.1 = d)) with
    | some e => decide (s.tbc < e.2 + 3600000000000)
    | none => false
  if NMap.get false s.pwr.trimDue d = false ∨ NMap.get false s.pwr.trimLogged d = true then s
  else if trim + 4 > 40 then
    let s := s.trimWait d
    let s := { s with pwr := { s.pwr with trimDue := Map.del d s.pwr.trimDue, trimHeld := Map.del d s.pwr.trimHeld } }
    if NMap.get false s.pwr.exhausted d then s
    else { s with pwr := { s.pwr with exhausted := NMap.put d true s.pwr.exhausted } }.raise pPwr Er.PWR_TRIM_EXHAUSTED
  else if soon = true ∨ s.freqPend = true ∨ s.keeperUp = false then s.trimWait d
  else
    let s := s.commitNow 0x0120 (leBytes 1 d ++ leBytes 1 (trim + 4))
    { s with
      pwr := { s.pwr with trimLogged := NMap.put d true s.pwr.trimLogged }
      log := { s.log with image := { s.log.image with trim := NMap.put d (trim + 4) s.log.image.trim } } }

/-- MARGIN_SAMPLE (R463): the monitor of a cluster measures its slack; 10 samples in a row below FLOOR make its domain due. -/
def execMarginSample (cluster slack : Nat) (s : State) : Host.Outcome State Fault Refusal :=
  .next (
    let d := cgOfCluster cluster
    let (_, low) := NMap.get (0, 255) s.pwr.slack cluster
    let below := decide (slack < s.rg R.PWR_MARGIN_CFG_FLOOR pPwr)
    let run := if below then NMap.get 0 s.pwr.slackRun cluster + 1 else 0
    let due := decide (run ≥ 10)
    let s := { s with pwr := { s.pwr with
      slack := NMap.put cluster (slack, min low slack) s.pwr.slack
      slackRun := NMap.put cluster (if due then 0 else run) s.pwr.slackRun
      trimDue := if due then NMap.put d true s.pwr.trimDue else s.pwr.trimDue } }
    s.trimTry d)

/-- TRIM_APPLY (R463): at a millisecond boundary after its record the domain's trim rises by 5 mV, and VDD_CORE where it is the
largest. -/
def execTrimApply (d : Nat) (s : State) : Host.Outcome State Fault Refusal :=
  .next (
    if NMap.get false s.pwr.trimLogged d = false ∨ s.keeperUp = false then s.trimTry d
    else
      let old := s.maxTrim
      let trim := s.rg (R.PWR_TRIM_TRIM d) pPwr + 4
      let s := { s with pwr := { s.pwr with
        trimLogged := Map.del d s.pwr.trimLogged, trimDue := Map.del d s.pwr.trimDue, trimHeld := Map.del d s.pwr.trimHeld
        trimLast := NMap.put d s.tbc s.pwr.trimLast } }
      let s := (s.wr (R.PWR_TRIM_TRIM d) pPwr trim).raise pPwr Er.PWR_TRIM
      let s := if s.maxTrim > old then s.railWrite 0 (s.coreVolt s.opp) 1 else s
      s.wr R.CLK_OPP_LIMIT_OPP pClk s.oppLimit)

end Sys2Proof.Machine
end

