-- ==== Sys2Proof/Machine/Domain.lean ====
section
/-!
DEFINITION. Switching the power domains (R39–R41, R443, R444, R603), regulator segments (R445–R448), and the interconnect watch
(R449). Domains are numbered as in R450: 0–15 CG00–CG15, 16 HSTC, 17 SRAM_N, 18 SRAM_S, 19 HBMPHY_W, 20 HBMPHY_E, 21 OPT_W,
22 OPT_E, 23 HIO, 24 AON.
-/

namespace Sys2Proof.Machine

/-! ### What a domain holds -/

/-- The clusters of a CG domain (R40). -/
def clustersIn (d : Nat) : List Nat := (List.range 64).filter (fun n => decide (cgOfCluster n = d))

/-- The domains that a domain needs (R41). -/
def domDeps (d : Nat) : List Nat := if d < 8 then [17] else if d < 16 then [18] else if d = 16 then [17, 18] else []

/-- The pages of a domain (R605). -/
def domPages (d : Nat) : List Nat :=
  (List.range 0xC00).filter (fun p => decide (blkOf p ≠ 0) && decide (domainOf p = d))

/-- The stacks of a PHY domain. -/
def domStacks (d : Nat) : List Nat := (List.range 4).map (fun i => 4 * (d - 19) + i)

/-- The ports of an optical domain. -/
def domPorts (d : Nat) : List Nat := (List.range 8).map (fun i => 2 * i + (d - 21))

/-- Registers of a domain's blocks, banked ones included, take their reset values (R603). -/
def State.domRegs (s : State) (d : Nat) : State :=
  let banked : List Nat := if d = 23 then [0x50, 0x51, 0x52, 0x40, 0x53, 0x22] else if d = 21 then [0x31, 0x32] else []
  s.dropRegs (fun id inst =>
    if id / 32768 = 0 then decide (domainOf inst = d) && decide (blkOf inst ≠ 0)
    else banked.contains (id / 32768) || (decide (domainOf inst = d) && decide (id / 32768 = blkOf inst)))

/-- Rows, frames and channels of a stack as the log has them (R261, R263, R264), the rates of its channels among them (R280; log entry 135):
loaded before the stack enters service. -/
def State.memLoad (s : State) (m : Nat) : State :=
  let mine (kind : Nat) (f : Nat → Bool) : List Nat :=
    (s.log.image.retired.filter (fun e => decide (e.1.1 = kind) && decide (e.2 ≠ 0) && f e.1.2)).map (fun e => e.1.2)
  let rows := mine 5 (fun i => decide (i / 2 ^ 29 = m))
  let frames := mine 6 (fun i => decide (i < 2 ^ 23) && decide (stackOf (i * 2 ^ 21) = m))
  let chans := mine 8 (fun i => decide (i / 32 = m))
  let s := (s.wr R.MEM_RETIRE_STATUS_ROWS (pMem m) rows.length).wr R.MEM_RETIRE_STATUS_FRAMES (pMem m) frames.length
  let s := { s with hbm := { s.hbm with
    rows := rows.zipIdx.foldl (fun t (e : Nat × Nat) => NMap.put (m * 2 ^ 26 + e.1 % 2 ^ 26) (e.2 + 1) t) s.hbm.rows
    retiredFrames := frames.foldl (fun t f => NMap.put f true t) s.hbm.retiredFrames } }
  let s := s.wrB R.HDR_STATUS_DEGRADED (pMem m) (decide (rows ≠ []) || decide (frames ≠ []) || decide (chans ≠ []))
  chans.foldl (fun s i =>
    let p := pMch m (i % 32)
    if PMap.get 0 s.log.image.retired (8, i) = 1 then (s.wr R.MCH_CH_STATUS_RATE p 1).wr R.HDR_STATUS_DEGRADED p 1
    else (s.wr R.MCH_CH_STATUS_RATE p 2).wr R.HDR_STATUS_FENCED p 1) s

/-- LIVE arrays of a core as the log has them, and the array whose retirement record is newest, with CAUSE 3 (R127). A core with none is
fenced, and its quad retired (R113). -/
def State.coreLoad (s : State) (c : Nat) : State :=
  let live := maskOf 4 (fun a => !(s.isRetired 1 (4 * c + a)))
  let s := (s.wr R.CORE_ARR_STATUS_LIVE (pCore c) live).wr R.CORE_ARR_FENCE_FENCED (pCore c) (15 - live)
  let s := match s.log.image.arrays.find? (fun i => decide (i / 4 = c)) with
    | some i => (s.wr R.CORE_ARR_FENCE_LAST (pCore c) (i % 4)).wr R.CORE_ARR_FENCE_CAUSE (pCore c) 3
    | none => s
  if live = 15 then s
  else
    let s := s.wr R.HDR_STATUS_DEGRADED (pCore c) 1
    if live ≠ 0 then s
    else if s.isRetired 2 (c / 4) then s.wr R.HDR_STATUS_FENCED (pCore c) 1
    else s.fenceCore c 3

/-! ### Off and on (R39, R443, R444) -/

/-- A domain goes off: what it holds is lost, or put away first. -/
def State.domLose (s : State) (d : Nat) : State :=
  let s :=
    if d < 16 then
      (clustersIn d).foldl (fun s n =>
        let s := (List.range 16).foldl (fun s i => (s.coreClear (16 * n + i)).corePageClear (16 * n + i)) s
        let s := { s.lose (aSpad (16 * n) 0) (aSpad (16 * n + 16) 0) with poison := s.poison.filter (fun e =>
            decide (e.1 < aSpad (16 * n) 0 / 64) || decide (aSpad (16 * n + 16) 0 / 64 ≤ e.1)) }
        { s with hbm := { s.hbm with tlb := Map.del n s.hbm.tlb } }) s
    else if d = 16 then (List.range 64).foldl State.l2Drop s
    else if d = 17 then s.lose (aClmem 0 0) (aClmem 32 0)
    else if d = 18 then s.lose (aClmem 32 0) (aClmem 64 0)
    else if d ≤ 20 then
      (domStacks d).foldl (fun s m =>
        let s := (s.wcb m).foldl (fun s e => s.wcbDrain m e) s
        let s := s.setWcb m []
        { s with hbm := { s.hbm with selfRefresh := NMap.put m true s.hbm.selfRefresh } }) s
    else if d ≤ 22 then
      let s := (domPorts d).foldl State.portDisable s
      let s := { s with net := { s.net with cached := s.net.cached.filter (fun e => decide (e.1 % 2 ≠ d - 21)) } }
      if d = 21 then { s with net := { s.net with exc := [], patch := [], flows := [] } } else s
    else if d = 23 then
      { s with
        host := { HostSt.init with perst := s.host.perst }, xlt := [], dbg := [], step := [], coll := .init, sig := []
        hbm := { s.hbm with farWait := [], farLow := 0, tlb := [] } }.emit (.pin 3 0)
    else s
  let inc := s.rg R.RTE_INC_INC pRte
  let s := s.domRegs d
  let s := if d = 21 then s.wr R.RTE_INC_INC pRte inc else s
  s.wr R.PWR_DOM_STATUS_ON pPwr (clrBit (s.rg R.PWR_DOM_STATUS_ON pPwr) d)

/-- A domain comes on (R603): its registers take their reset values, its units are ready, with what the Keeper loads; a unit
fenced by escalation stays so (R481), and one that the log has retired is fenced (R503). RTE.INC is kept (R444). -/
def State.domRise (s : State) (d : Nat) : State :=
  let inc := s.rg R.RTE_INC_INC pRte
  let s := s.domRegs d
  let s := if d = 21 then s.wr R.RTE_INC_INC pRte inc else s
  let s := (s.recov.fenced.filter (fun e => decide (domainOf e.1 = d))).foldl (fun s e => s.wr R.HDR_STATUS_FENCED e.1 1) s
  let s := (s.log.image.retired.filter (fun e => decide (e.1.1 = 9) && decide (e.2 ≠ 0) && decide (domainOf e.1.2 = d))).foldl
    (fun s e => s.wr R.HDR_STATUS_FENCED e.1.2 1) s
  let s := s.wr R.PWR_DOM_STATUS_ON pPwr (setBit (s.rg R.PWR_DOM_STATUS_ON pPwr) d)
  let s := (domPages d).foldl (fun s p => s.wr R.HDR_STATUS_READY p 1) s
  if d < 16 then
    let s := (clustersIn d).foldl (fun s n => (List.range 16).foldl (fun s i => s.coreLoad (16 * n + i)) s) s
    if s.rg (R.PWR_SEG_STATE_STATE d) pPwr = 0 then s else s.wr R.HDR_STATUS_DEGRADED pPwr 1
  else if d = 19 ∨ d = 20 then
    (domStacks d).foldl (fun s m =>
      { s.memLoad m with hbm := { (s.memLoad m).hbm with selfRefresh := Map.del m s.hbm.selfRefresh } }) s
  else if d = 21 ∨ d = 22 then (domPorts d).foldl State.portLoad s
  else if d = 23 then s.emit (.pin 3 1)
  else s

/-! ### Requests (R443) -/

/-- Whether any command of any function is in flight. -/
def State.anyCommand (s : State) : Bool := s.host.cmdq.any (fun e => !e.2.inflight.isEmpty)

/-- Why a domain may not go off (R41, R443, R444); OK where it may. -/
def State.domOffStatus (s : State) (d : Nat) : Nat :=
  let busy (b : Bool) : Nat := if b then St.DOMAIN_BUSY else St.OK
  if (List.range 17).any (fun e => s.domOn e && (domDeps e).contains d) then St.DOMAIN_DEPENDENT
  else if d < 16 then
    busy ((clustersIn d).any (fun n => !(s.quiesced (pClu n)) || (List.range 16).any (fun i => !(s.quiesced (pCore (16 * n + i))))))
  else if d = 16 then busy ((List.range 64).any (fun n => s.enabled (pChc n) && !(s.quiesced (pChc n))))
  else if d = 19 ∨ d = 20 then busy ((domStacks d).any (fun m => !(s.quiesced (pMem m))))
  else if d = 21 ∨ d = 22 then
    busy ((decide (d = 21) && !s.net.flows.isEmpty) || (List.range 8).any s.stackOff)
  else if d = 23 then busy s.anyCommand
  else St.OK

/-- Whether a CG domain has been fenced (R447). -/
def State.domFenced (s : State) (d : Nat) : Bool := decide (d < 16) && decide (s.rg (R.PWR_SEG_STATE_STATE d) pPwr = 3)

/-- The domain request completes at once with a status. -/
def State.domResult (s : State) (st : Nat) : State :=
  (s.wr R.PWR_DOM_RESULT_DONE pPwr 1).wr R.PWR_DOM_RESULT_STATUS pPwr st

/-- DOM_CTRL is written (R443): ignored while a request is in progress; a refused request changes no domain. -/
def State.domRequest (s : State) (mask : Nat) : State :=
  if s.flag R.PWR_DOM_RESULT_DONE pPwr = false then s
  else
    let on := (List.range 24).filter (fun d => bit mask d && !s.domOn d)
    let off := (List.range 24).filter (fun d => !(bit mask d) && s.domOn d)
    let deps := ((on.flatMap domDeps).eraseDups).filter (fun d => !s.domOn d && !on.contains d)
    let st :=
      if on.any s.domFenced then St.DOMAIN_FENCED
      else if off.any (fun d => (on.flatMap domDeps).contains d) then St.DOMAIN_DEPENDENT
      else ((off.map s.domOffStatus).find? (fun x => decide (x ≠ St.OK))).getD St.OK
    if st ≠ St.OK then s.domResult st
    else if on = [] ∧ off = [] then s.domResult St.OK
    else
      let order := (deps ++ on).filter (fun d => decide (d = 17 ∨ d = 18)) ++ on.filter (fun d => decide (d ≠ 17 ∧ d ≠ 18))
      let s := { s with pwr := { s.pwr with switchOn := order, switchOff := off } }
      (s.wr R.PWR_DOM_CTRL_ON pPwr (maskOf 25 (fun d => bit mask d || order.contains d || decide (d = 24)))).wr
        R.PWR_DOM_RESULT_DONE pPwr 0

/-- DOMAIN_ON (R443): function `req` writes DOM_CTRL with the bit of domain `d` set. -/
def execDomainOn (req d : Nat) (s : State) : Host.Outcome State Fault Refusal :=
  .next (if s.mayWrite req pPwr = true ∧ d < 24 then s.domRequest (setBit (s.rg R.PWR_DOM_STATUS_ON pPwr) d) else s)

/-- DOMAIN_OFF (R443): function `req` writes DOM_CTRL with the bit of domain `d` clear. -/
def execDomainOff (req d : Nat) (s : State) : Host.Outcome State Fault Refusal :=
  .next (if s.mayWrite req pPwr = true ∧ d < 24 then s.domRequest (clrBit (s.rg R.PWR_DOM_STATUS_ON pPwr) d) else s)

/-! ### Regulator segments (R445–R448) -/

/-- Failed segments of a CG domain, as bits. -/
def State.segFailed (s : State) (d : Nat) : Nat := s.rg (R.PWR_SEG_FAIL_FAILED d) pPwr

/-- Outcome of a set of failed segments (R447): 0 full, 1 absorbed, 2 capped, 3 fenced. -/
def segOutcome (failed : Nat) : Nat :=
  let n := popcount 32 failed
  let adjacent := (List.range 32).any (fun i => bit failed i && bit failed ((i + 1) % 32))
  if n = 0 then 0 else if n ≥ 5 then 3 else if n ≥ 3 ∨ (n = 2 ∧ adjacent = true) then 2 else 1

/-- SEG_LIMIT of a CG domain (R447). -/
def State.segLimit (s : State) (d : Nat) : Nat :=
  let f := s.segFailed d
  let o := segOutcome f
  if o = 3 then 0 else if o = 2 then (if popcount 32 f = 4 then 40 else 48) else 64

/-- The registers of a domain's segments follow the failed ones. -/
def State.segRegs (s : State) (d : Nat) : State :=
  let o := segOutcome (s.segFailed d)
  let s := s.wr (R.PWR_SEG_STATE_STATE d) pPwr o
  if o = 0 then s else s.wr R.HDR_STATUS_DEGRADED pPwr 1

/-- A segment fails (R446, R447): it is opened and recorded. -/
def State.segFail (s : State) (d seg : Nat) : State :=
  if bit (s.segFailed d) seg then s
  else
    let was := segOutcome (s.segFailed d)
    let s := (s.wr (R.PWR_SEG_FAIL_FAILED d) pPwr (setBit (s.segFailed d) seg)).retireUnit 4 (32 * d + seg) 0
    let s := s.segRegs d
    match segOutcome (s.segFailed d) with
    | 1 => s.raise pPwr Er.PWR_SEG_FAIL (32 * d + seg)
    | 2 => s.raise pPwr Er.PWR_SEG_CAP (32 * d + seg)
    | _ => if was = 3 then s else { s with pwr := { s.pwr with fencing := NMap.put d true s.pwr.fencing } }

/-- A CG domain is fenced once its cores are at level 0 (R448, steps 3 to 5). -/
def State.domFence (s : State) (d : Nat) : State :=
  let s := (clustersIn d).foldl (fun s n =>
    let s := (List.range 16).foldl (fun s i => s.engReset (pCore (16 * n + i))) s
    let s := s.engReset (pClu n)
    let s := s.wr R.HDR_STATUS_FENCED (pChc n) 1
    let s := (s.clearCluster n).retireUnit 3 n St.DOMAIN_FENCED
    (List.range 4).foldl (fun s i => s.clearQuad (4 * n + i)) s) s
  let s := s.raise pPwr Er.PWR_SEG_FENCE d
  let s := { s with pwr := { s.pwr with fencing := Map.del d s.pwr.fencing } }
  let s := s.domLose d
  s.wr R.PWR_DOM_CTRL_ON pPwr (clrBit (s.rg R.PWR_DOM_CTRL_ON pPwr) d)

/-- A domain is turned on for a request (R443): a CG domain whose segments are found to fail meanwhile is fenced before it reports READY
(R446, R448). -/
def State.domStart (s : State) (d : Nat) : State :=
  let s := s.domRise d
  if d < 16 ∧ (NMap.get false s.pwr.fencing d = true ∨ s.domFenced d = true) then s.domFence d else s

/-- DOMAIN_SWITCH_DONE (R443, R444, R446): the domains have switched, and DOM_RESULT is posted, with DOMAIN_FENCED where a domain was fenced as it
turned on; RTE.INC moves when OPT_W is on again. -/
def execDomainSwitchDone (s : State) : Host.Outcome State Fault Refusal :=
  .next (
    if s.flag R.PWR_DOM_RESULT_DONE pPwr then s
    else
      let s := s.pwr.switchOff.foldl State.domLose s
      let on := s.pwr.switchOn
      let s := on.foldl State.domStart s
      let s := if on.contains 21 then s.wr R.RTE_INC_INC pRte (s.rg R.RTE_INC_INC pRte + 1) else s
      let st := if on.all s.domOn then St.OK else St.DOMAIN_FENCED
      { s with pwr := { s.pwr with switchOn := [], switchOff := [] } }.domResult st)

/-- SEG_CHECK (R446–R448): each microsecond; the (domain, segment) pairs that fail their check are opened, and domains being fenced whose
cores have reached level 0 leave service. -/
def execSegCheck (failed : List (Nat × Nat)) (s : State) : Host.Outcome State Fault Refusal :=
  .next (
    let due := (s.pwr.fencing.map (fun e => e.1)).filter (fun d =>
      (clustersIn d).all (fun n => (List.range 16).all (fun i => decide (NMap.get 0 s.pwr.lvl (16 * n + i) = 0))))
    let s := due.foldl State.domFence s
    (failed.filter (fun e => decide (e.1 < 16) && decide (e.2 < 32))).foldl (fun s e => s.segFail e.1 e.2) s)

/-! ### Interconnect watch (R449) -/

/-- IC_LIMIT of a CG domain: 44 while it or the SRAM half under it is derated. -/
def State.icLimit (s : State) (d : Nat) : Nat :=
  let on (e : Nat) : Bool := NMap.get 0 s.log.image.derate e != 0
  if on d || on (if d < 8 then 17 else 18) then 44 else 64

/-- Whether a stack's request rate is limited by derating (R449). -/
def State.stackDerated (s : State) (m : Nat) : Bool := NMap.get 0 s.log.image.derate (19 + m / 4) != 0

/-- The derating of a domain is applied or lifted, and logged. -/
def State.derate (s : State) (d : Nat) (on : Bool) (q : Nat) : State :=
  let s := { s with log := { s.log with image := { s.log.image with
    derate := NMap.put d (if on then q % 65536 + 1 else 0) s.log.image.derate } } }
  let s := s.logStateRec 0x0121 (leBytes 1 d ++ leBytes 1 (b2n on) ++ leBytes 2 q)
  let s := if on then s.wr R.HDR_STATUS_DEGRADED pPwr 1 else s
  if on = true ∧ d = 16 ∧ s.rg R.CLK_HST_FREQ_MHZ pClk > 1400 then s.hstWrite 1400 else s

/-- IC_EVAL (R449): a loaded domain is evaluated; `nv` is V_land − V_die in nV, `ma` the current in mA, `temp` the substrate's
temperature in °C. -/
def execIcEval (d nv ma : Nat) (temp : Int) (s : State) : Host.Outcome State Fault Refusal :=
  .next (
    if d > 24 then s
    else
      let r : Rat := (nv : Rat) * 1000 / (ma : Rat) / (1 + 39 / 10000 * ((temp : Rat) - 25))
      let base := s.rg R.PWR_IC_DATA_R_BASE (0x10000 + d)
      let ratio : Rat := r / (base : Rat)
      let q := (ratio * 1024).floor.toNat
      let x := NMap.get IcRun.init s.pwr.ic d
      let above (n : Nat) : Bool := decide (100 * ratio > (n : Rat))
      let high := if above (115 + 5 * x.steps) then x.high + 1 else 0
      let worse := if above 140 then x.worse + 1 else 0
      let low := if above 140 then 0 else x.low + 1
      let report := decide (high ≥ 16)
      let x : IcRun := ⟨if report then 0 else high, worse, low, x.steps + b2n report⟩
      let s := { s with pwr := { s.pwr with ic := NMap.put d x s.pwr.ic } }
      let s := s.wr R.PWR_IC_DATA_RATIO (0x10000 + d) (min 65535 q)
      let s := if report then
          (s.raise pPwr Er.PWR_IC_DEGRADE d).logEvent 0x0202 2 (leBytes 1 d ++ leBytes 2 q ++ leBytes 4 r.floor.toNat)
        else s
      let derated := NMap.get 0 s.log.image.derate d != 0
      if worse ≥ 16 ∧ derated = false then (s.raise pPwr Er.PWR_IC_DERATE d).derate d true q
      else if low ≥ 16 ∧ derated = true then s.derate d false q
      else s)

end Sys2Proof.Machine
end

