-- ==== Sys2Proof/Machine/Power.lean ====
section
/-!
DEFINITION. Telemetry and energy (R450–R452), the envelope (R453), issue levels and the governor (R454–R458), heat (R465–R469).
-/

namespace Sys2Proof.Machine

/-! ### Telemetry and energy (R450–R452) -/

/-- Entry of a list, 0 past its end. -/
def nth (l : List Nat) (i : Nat) : Nat := l.getD i 0

/-- FLAGS of a telemetry record (R450). -/
def State.telemFlags (s : State) : Nat :=
  b2n ((List.range 16).any (fun d => decide (s.rg (R.PWR_LIMIT_CEIL d) pPwr < 64)))
  + 2 * b2n s.pwr.quench + 4 * b2n s.halted + 8 * b2n (decide (s.pwr.thermLimit < 64)) + 16 * b2n s.pwr.fchg

/-- The 128 bytes of a telemetry record (R450). -/
def State.telemBytes (s : State) (seq tj total : Nat) (volts amps : List Nat) : List Nat :=
  let env := if s.pwr.penvUs = 0 then s.pwr.penv else s.pwr.penvSum / s.pwr.penvUs
  let body := leBytes 8 s.tbc ++ leBytes 4 seq ++ leBytes 1 s.telemFlags ++ leBytes 1 tj
    ++ leBytes 2 (s.rg R.CLK_FREQ_STATUS_FREQ pClk) ++ leBytes 4 total ++ leBytes 4 env
    ++ (List.range 25).flatMap (fun d => leBytes 2 (nth volts d) ++ leBytes 2 (nth amps d))
  body ++ leBytes 4 (crc32c body)

/-- The level-microseconds of a CG domain's cores that `sel` picks (R452, R454). -/
def State.levelUs (s : State) (d : Nat) (sel : Nat → Bool) : Nat :=
  (((clustersIn d).flatMap (fun n => (List.range 16).map (fun i => 16 * n + i))).filter sel).foldl
    (fun a c => a + NMap.get 0 s.pwr.lvlUs c) 0

/-- Shares of a domain's energy: (function, µJ), the rest being unattributed (R452). -/
def State.energyShares (s : State) (d e : Nat) : List (Nat × Nat) :=
  let owners := ((s.host.quadOwner.map (fun x => x.2)).filter (fun v => decide (v ≠ 0))).eraseDups
  if d < 16 then
    let all := s.levelUs d (fun _ => true)
    owners.map (fun v => (v - 1, if all = 0 then 0 else e * s.levelUs d (fun c => s.quadFn (c / 4) == some (v - 1)) / all))
  else if d = 16 then
    owners.map (fun v => (v - 1, e * ((List.range 64).filter (fun n => s.quadFn (4 * n) == some (v - 1))).length / 64))
  else []

/-- A domain's energy of the millisecond is added and attributed (R452). -/
def State.energyAdd (s : State) (d e : Nat) : State :=
  let shares := s.energyShares d e
  let used := (shares.map (fun x => x.2)).foldl (· + ·) 0
  let add (m : NMap Nat) (k n : Nat) : NMap Nat := NMap.put k (NMap.get 0 m k + n) m
  { s with pwr := { s.pwr with
    energy := add (add s.pwr.energy d e) 25 (e - used)
    fnEnergy := shares.foldl (fun m x => add m x.1 x.2) s.pwr.fnEnergy
    hourUj := s.pwr.hourUj + e, lifeUj := s.pwr.lifeUj + e } }

/-- Whether a request is a telemetry record kept for sending. -/
def TxReq.isTelem (r : TxReq) : Bool := decide (r.op = 1) && decide (r.tag = 0) && decide (r.len = 128) && r.src.isNone

/-- A record goes to the flow (R451): one that still waits is dropped from it, and so is one that the flow cannot take. -/
def State.telemSend (s : State) (seq : Nat) (bytes : List Nat) : State :=
  let id := s.rg R.PWR_TELEM_CTRL_FLOW pPwr
  let x := s.flow id
  let late := s.pwr.telemWait && x.waitq.any TxReq.isTelem
  let s := if late then
      (s.setFlow id { x with waitq := x.waitq.filter (fun r => !r.isTelem) }).cnt pPwr Cn.PWR_TELEM_DROP
    else s
  if x.state ≠ 1 ∨ x.vc ≠ 3 then (s.cnt pPwr Cn.PWR_TELEM_DROP)
  else
    let off := 128 * (seq % 2 ^ s.rg R.PWR_TELEM_CTRL_LOG2SLOTS pPwr)
    let s := s.flowQueue id [⟨1, 0, off, 128, 0, 0, 0, none, 0, 0, 0, bytes, 0⟩]
    { s with pwr := { s.pwr with telemWait := (s.flow id).waitq.any TxReq.isTelem } }

/-- TELEM_RECORD (R450–R452): the measurement of a millisecond closes. By domain: the voltage of its logic rail in 0.1 mV, its current in
25 mA units, and the power of all its rails in mW; `tj` is the hottest die sensor. -/
def execTelemRecord (volts amps mw : List Nat) (tj : Nat) (s : State) : Host.Outcome State Fault Refusal :=
  .next (
    let total := ((List.range 25).map (nth mw)).foldl (· + ·) 0
    let cg := ((List.range 16).map (nth mw)).foldl (· + ·) 0
    let seq := (s.rg R.PWR_TELEM_SEQ_SEQ pPwr + 1) % 2 ^ 32
    let bytes := s.telemBytes seq tj total volts amps
    let s := (s.wr R.PWR_TELEM_SEQ_SEQ pPwr seq).wr R.PWR_P_MODULE_MW pPwr total
    let s := s.wr R.PWR_THERM_STATUS_TJ pPwr tj
    let s := { s with pwr := { s.pwr with telem := bytes, fchg := false, pCg := cg, pNon := total - cg } }
    let s := (List.range 25).foldl (fun s d => s.energyAdd d (nth mw d)) s
    let s := s.wr R.PWR_ENERGY_UJ pPwr (s.rg R.PWR_ENERGY_UJ pPwr + total)
    let s := if s.flag R.PWR_TELEM_CTRL_EN pPwr then
        s.wbs (aHost (s.rg R.PWR_TELEM_BASE_ADDR pPwr * 128 + 128 * (seq % 2 ^ s.rg R.PWR_TELEM_CTRL_LOG2SLOTS pPwr))) bytes
      else s
    if s.flag R.PWR_TELEM_CTRL_FLOW_EN pPwr then s.telemSend seq bytes else s)

/-- ENERGY_LOG (R452, R502): the hour's energy and the lifetime energy are logged. -/
def execEnergyLog (s : State) : Host.Outcome State Fault Refusal :=
  .next (
    let s' := s.logEvent 0x0200 3 (leBytes 8 s.pwr.hourUj ++ leBytes 8 (s.pwr.lifeUj / 1000000))
    { s' with pwr := { s'.pwr with hourUj := 0 } })

/-! ### The envelope (R453) -/

/-- A change of a source: applied, or held where one was applied within 10 ms; the newest held one wins. -/
def EnvSrc.change (e : EnvSrc) (tbc set slope : Nat) : EnvSrc :=
  match e.last with
  | some t => if tbc < t + 10000000 then { e with held := some (set, slope) } else { e with set := set, slope := slope, last := some tbc, held := none }
  | none => { e with set := set, slope := slope, last := some tbc, held := none }

/-- A setpoint below 150 W is taken as 150 W, and counted. -/
def State.envClamp (s : State) (set : Nat) : Nat × State :=
  if set < 150 then (150, s.cnt pPwr Cn.PWR_ENV_CLAMP) else (set, s)

/-- A change of the host source (false) or the tray source (true). -/
def State.envChange (s : State) (tray : Bool) (set slope : Nat) : State :=
  let (set, s) := s.envClamp set
  { s with pwr :=
      if tray then { s.pwr with tray := s.pwr.tray.change s.tbc set slope }
      else { s.pwr with host := s.pwr.host.change s.tbc set slope } }

/-- ENV_SET is written; a slope outside 1–1,000 W/ms makes the write ignored. -/
def State.envWrite (s : State) (val : Nat) : State :=
  let slope := bits val 31 16
  let set := bits val 15 0
  if slope < 1 ∨ slope > 1000 then s
  else ((s.wr R.PWR_ENV_SET_SLOPE pPwr slope).wr R.PWR_ENV_SET_SETPOINT pPwr set).envChange false set slope

/-- ENV_SET_WRITE (R453): function `req` writes ENV_SET. -/
def execEnvSetWrite (req val : Nat) (s : State) : Host.Outcome State Fault Refusal :=
  .next (if s.mayWrite req pPwr then s.envWrite val else s)

/-- A held change comes into force. -/
def EnvSrc.release (e : EnvSrc) (tbc : Nat) : EnvSrc :=
  match e.held with
  | some (set, slope) => { e with set := set, slope := slope, held := none, last := some tbc }
  | none => e

/-- ENV_HELD_APPLY (R453): 10 ms after the last change of a source its held change applies. -/
def execEnvHeldApply (tray : Bool) (s : State) : Host.Outcome State Fault Refusal :=
  .next { s with pwr :=
      if tray then { s.pwr with tray := s.pwr.tray.release s.tbc } else { s.pwr with host := s.pwr.host.release s.tbc } }

/-- CAP_WRITE (R453): function `req` writes CAP, 150–750 W. -/
def execCapWrite (req val : Nat) (s : State) : Host.Outcome State Fault Refusal :=
  .next (
    let w := val % 65536
    if s.mayWrite req pPwr = true ∧ 150 ≤ w ∧ w ≤ 750 then s.wr R.PWR_CAP_CAP pPwr w else s)

/-- The setpoint (W) and slope (W/ms) that SRC selects. -/
def State.envSelect (s : State) : Nat × Nat :=
  let a := s.pwr.host
  let b := s.pwr.tray
  match s.rg R.PWR_ENV_CTRL_SRC pPwr with
  | 0 => (a.set, a.slope)
  | 1 => (b.set, b.slope)
  | _ => (min a.set b.set, min a.slope b.slope)

/-- P_TARGET in W (R453). -/
def State.pTarget (s : State) : Nat := min (s.rg R.PWR_CAP_CAP pPwr) s.envSelect.1

/-! ### The governor (R454–R458) -/

/-- L_ENV (R457); with no model yet (P_DYNFULL = 0) the quotient has no value, and the level is a free one. -/
def State.lEnv (s : State) (penv : Nat) : Nat × State :=
  if s.pwr.pdyn = 0 then
    let (v, s) := s.freeVal
    (min 64 v, s)
  else
    let q := (64 * (((penv : Int) - s.pwr.pstat : Int) : Rat) / s.pwr.pdyn).floor
    ((max 0 (min 64 q)).toNat, s)

/-- CEIL of a CG domain (R457). -/
def State.ceil (s : State) (lenv d : Nat) : Nat :=
  let c := min (min lenv (s.segLimit d)) (min (s.icLimit d) s.pwr.thermLimit)
  let c := if s.pwr.quench then min c (s.rg R.PWR_RAMP_QUENCH_LVL pPwr) else c
  if s.halted then 0 else c

/-- Whether a core is in service: its quad present and its domain on. -/
def State.coreServes (s : State) (c : Nat) : Bool := s.quadPresent (c / 4) && s.domOn (cgOfCluster (c / 16))

/-- The hint target of a core (R456). -/
def State.hintOf (s : State) (c : Nat) : Nat :=
  match NMap.get (0, 0) s.pwr.hint c with
  | (l, till) => if s.tbc < till then min 64 l else 0

/-- A core's next level (R454, R457, R460). -/
def State.lvlNext (s : State) (c ceil : Nat) : Nat :=
  let d := cgOfCluster (c / 16)
  let want := if s.runState c = 1 then 64 else s.hintOf c
  let fencing := NMap.get false s.pwr.fencing d
  let t := if fencing then 0 else min want ceil
  let t := match s.pwr.hold with
    | some h => min t (NMap.get 0 h c)
    | none => t
  let l := NMap.get 0 s.pwr.lvl c
  let dn := if s.pwr.quench || s.halted || fencing then 8 else s.rg R.PWR_RAMP_RAMP_DOWN pPwr
  if t > l then min t (l + s.rg R.PWR_RAMP_RAMP_UP pPwr) else max t (l - dn)

/-- P_ENV moves toward P_TARGET by the slope, and with it L_ENV (R453, R457). -/
def State.envStep (s : State) : Nat × State :=
  let target := s.pTarget * 1000
  let step := s.envSelect.2
  let p := s.pwr.penv
  let penv := if target ≥ p then min target (p + step) else max target (p - step)
  let (lenv, s) := s.lEnv penv
  let s := (s.wr R.PWR_ENV_STATUS_TARGET pPwr s.pTarget).wr R.PWR_ENV_STATUS_P_ENV pPwr (penv / 1000)
  (lenv, { s with pwr := { s.pwr with
    penv := penv, penvSum := s.pwr.penvSum + penv, penvUs := s.pwr.penvUs + 1
    lenvFull := if lenv = 64 then s.pwr.lenvFull + 1 else 0
    lenvZero := if lenv = 0 then s.pwr.lenvZero + 1 else 0 } })

/-- The levels of the cores in service after a microsecond. -/
def State.levels (s : State) (ceils : List Nat) : List (Nat × Nat) :=
  ((List.range 1024).filter s.coreServes).map (fun c => (c, s.lvlNext c (nth ceils (cgOfCluster (c / 16)))))

/-- The levels take effect; idle cores above level 0 fill their slots with dummy steps (R455). -/
def State.levelsSet (s : State) (lvl : List (Nat × Nat)) : State :=
  let live := lvl.filter (fun e => decide (e.2 ≠ 0))
  let fill := (live.filter (fun e => decide (s.runState e.1 ≠ 1))).length
  { s with pwr := { s.pwr with
    lvl := live
    lvlUs := live.foldl (fun (m : NMap Nat) (e : Nat × Nat) => NMap.put e.1 (NMap.get 0 m e.1 + e.2) m) s.pwr.lvlUs } }.cnt pPwr Cn.PWR_PRERAMP_US fill

/-- GOVERNOR_US (R453–R457): P_ENV moves by the slope, the ceilings follow, and every core's level moves toward its target. -/
def execGovernorUs (s : State) : Host.Outcome State Fault Refusal :=
  .next (
    let (lenv, s) := s.envStep
    let ceils := (List.range 16).map (s.ceil lenv)
    let s := ceils.zipIdx.foldl (fun s e => s.wr (R.PWR_LIMIT_CEIL e.2) pPwr e.1) s
    let s := s.levelsSet (s.levels ceils)
    if s.pwr.quench then s.cnt pPwr Cn.PWR_QUENCH_US else s)

/-- Leakage of a CG domain in mW, at a voltage (0.05 mV units) and a temperature: the model of the manufacturing record (R457,
R504). -/
def leakage (d v tj : Nat) : Nat := Config.factory (2 ^ 40 + d * 2 ^ 32 + v * 2 ^ 12 + tj % 4096)

/-- Voltage of a CG domain at an operating point. -/
def State.domVolt (s : State) (k d : Nat) : Nat := 20 * oppVop k + 25 * s.rg (R.PWR_TRIM_TRIM d) pPwr

/-- Sum of the CG domains' leakage at a point: over every one of them, on or off (R457). -/
def State.leakSum (s : State) (k : Nat) (tjs : List Nat) : Nat :=
  ((List.range 16).map (fun d => leakage d (s.domVolt k d) (nth tjs d))).foldl (· + ·) 0

/-- V2 at a point: the mean over the CG domains of the squared voltage. -/
def State.volt2 (s : State) (k : Nat) : Rat :=
  ((((List.range 16).map (fun d => s.domVolt k d ^ 2)).foldl (· + ·) 0 : Nat) : Rat) / 16

/-- The governor's choice (R457, R464): the operating point to schedule next, if any; none while a rail has failed (R442). -/
def State.govPoint (s : State) (tjs : List Nat) : Option Nat :=
  let cur := s.opp
  let top := s.rg R.CLK_OPP_LIMIT_OPP pClk
  let fits (k : Nat) : Bool :=
    decide (((s.pwr.pNon + s.leakSum k tjs : Nat) : Rat) + s.pwr.edyn * (oppFreq k : Rat) * s.volt2 k ≤ ((1000 * s.pTarget : Nat) : Rat))
  let j := ((List.range (top + 1)).reverse.find? fits).getD 0
  if s.freqPend || s.halted || !s.keeperUp || [0, 1, 2].any (fun r => (s.rail r).failed) then none
  else if top < cur then some (cur - 1)
  else
    match s.pwr.resume with
    | some k => if cur < min k top then some (cur + 1) else none
    | none =>
      if s.flag R.CLK_CLK_CTRL_AUTO pClk = false then none
      else if j < cur then some (cur - 1)
      else if j > cur ∧ s.pwr.lenvFull ≥ 10000 ∧ s.rg R.CLK_LAST_CHANGE_TBC_TBC pClk + 10000000 ≤ s.tbc then some (cur + 1)
      else none

/-- EDYN after a millisecond (R457, R458): `over` milliseconds above the bound have run in a row. -/
def State.edynNext (s : State) (tjs : List Nat) (env run : Nat) : Rat :=
  let cur := s.opp
  let cores := ((List.range 1024).filter s.coreServes).length
  let lvl : Nat := (s.pwr.lvlUs.map (fun e => e.2)).foldl (· + ·) 0
  let n := s.pwr.penvUs
  let a : Rat := if n = 0 ∨ cores = 0 then 0 else (lvl : Rat) / ((64 * cores * n : Nat) : Rat)
  let dyn : Int := (s.pwr.pCg : Int) - (s.leakSum cur tjs : Int)
  let full : Rat := (oppFreq cur : Rat) * s.volt2 cur * a
  let e : Rat := if a ≥ 1 / 8 then s.pwr.edyn + ((dyn : Rat) / full - s.pwr.edyn) / 8 else s.pwr.edyn
  if run ≥ 10 then e * (((s.pwr.pCg + s.pwr.pNon : Nat) : Rat) / (env : Rat)) else e

/-- The governor has returned the clock to the point before a halt. -/
def State.resumed (s : State) : Bool :=
  match s.pwr.resume with
  | some k => decide (s.opp ≥ min k (s.rg R.CLK_OPP_LIMIT_OPP pClk))
  | none => false

/-- GOVERNOR_MS (R457, R458, R464, R469): the power model is updated with the measurements of the millisecond, and a change of the clock may
be scheduled; the Keeper runs this loop (R477). `tjs` are the hottest sensors of the CG domains. -/
def execGovernorMs (tjs : List Nat) (s : State) : Host.Outcome State Fault Refusal :=
  .next (if s.keeperUp = false then s else
    let cur := s.opp
    let env : Nat := if s.pwr.penvUs = 0 then s.pwr.penv else s.pwr.penvSum / s.pwr.penvUs
    let excess := decide (100 * (s.pwr.pCg + s.pwr.pNon) > 102 * env)
    let run := if excess then s.pwr.exceed + 1 else 0
    let edyn := s.edynNext tjs env run
    let floor := decide (s.pwr.lenvZero ≥ 1000)
    let done := s.resumed
    let s := { s with pwr := { s.pwr with
      edyn := edyn, pstat := ((s.pwr.pNon + s.leakSum cur tjs : Nat) : Int), pdyn := edyn * (oppFreq cur : Rat) * s.volt2 cur
      exceed := if run ≥ 10 then 0 else run, penvSum := 0, penvUs := 0, lvlUs := []
      lenvZero := if floor then 0 else s.pwr.lenvZero
      resume := if done then none else s.pwr.resume } }
    let s := if excess then s.cnt pPwr Cn.PWR_ENV_EXCEED else s
    let s := if run ≥ 10 then s.raise pPwr Er.PWR_ENV_EXCEED else s
    let s := if floor then s.raise pPwr Er.PWR_ENV_FLOOR else s
    match s.govPoint tjs with
    | some k => s.freqSchedule k (s.tbc + 1000000)
    | none => s)

/-! ### Heat (R465–R469) -/

/-- THERM_LIMIT and the bit that shows it. -/
def State.thermSet (s : State) (l tj : Nat) : State :=
  let s := { s with pwr := { s.pwr with thermLimit := l } }
  (s.wrB R.PWR_THERM_STATUS_THROTTLING pPwr (decide (l < 64))).wr R.PWR_THERM_STATUS_TJ pPwr tj

/-- THERM_THROTTLE_STEP (R465): 100 µs at or above T_THROTTLE. -/
def execThermThrottleStep (tj : Nat) (s : State) : Host.Outcome State Fault Refusal :=
  .next (
    if tj < s.rg R.PWR_THERM_CTRL_T_THROTTLE pPwr then s.wr R.PWR_THERM_STATUS_TJ pPwr tj
    else
      let first := decide (s.pwr.thermLimit = 64)
      let s := s.thermSet (max 4 (s.pwr.thermLimit - 1)) tj
      if first then s.raise pPwr Er.PWR_THERM_THROTTLE else s)

/-- THERM_RECOVER_STEP (R465): a millisecond at least 3 °C below T_THROTTLE. -/
def execThermRecoverStep (tj : Nat) (s : State) : Host.Outcome State Fault Refusal :=
  .next (
    if tj + 3 > s.rg R.PWR_THERM_CTRL_T_THROTTLE pPwr then s.wr R.PWR_THERM_STATUS_TJ pPwr tj
    else s.thermSet (min 64 (s.pwr.thermLimit + 1)) tj)

/-- STACK_TEMP (R465): a stack reports its temperature. -/
def execStackTemp (m temp : Nat) (s : State) : Host.Outcome State Fault Refusal :=
  .next (
    let put (b : Bool) : State := { s with pwr := { s.pwr with stackHeat := NMap.put m b s.pwr.stackHeat } }
    if temp ≥ 105 then put true else if temp ≤ 100 then put false else s)

/-- Request rate of a stack in percent (R449, R465). -/
def State.stackRate (s : State) (m : Nat) : Nat :=
  min (if NMap.get false s.pwr.stackHeat m then 50 else 100) (if s.stackDerated m then 70 else 100)

/-- The halt (R467): ceilings 0, the pending change cancelled, the clock from the spare PLL at OPP0 at once, and the voltage to
be lowered. -/
def State.halt (s : State) : State :=
  if s.halted then s
  else
    let s := s.freqAbort
    let cur := s.opp
    let s := s.wr R.PWR_THERM_STATUS_HALTED pPwr 1
    let s := (List.range 16).foldl (fun s d => s.wr (R.PWR_LIMIT_CEIL d) pPwr 0) s
    let s := { s with pwr := { s.pwr with resume := some (s.pwr.resume.getD cur), lower := false } }
    let s := if cur = 0 then s else s.clockAt 0 s.tbc
    s.railWrite 0 (s.coreVolt 0) 3

/-- AIRFLOW_HALT (R467): AIRFLOW_FAIL_N is taken as asserted. -/
def execAirflowHalt (s : State) : Host.Outcome State Fault Refusal :=
  .next (
    if s.pwr.airflow then s
    else
      let s := { s with pwr := { s.pwr with airflow := true } }.wr R.PWR_THERM_STATUS_AIRFLOW pPwr 1
      s.halt.raise pPwr Er.PWR_AIRFLOW_HALT)

/-- THERMAL_TRIP (R468): a die sensor at 115 °C for 10 µs. -/
def execThermalTrip (tj : Nat) (s : State) : Host.Outcome State Fault Refusal :=
  .next (
    let s := (s.wr R.PWR_THERM_STATUS_TJ pPwr tj).wr R.PWR_THERM_STATUS_TRIP pPwr 1
    let s := if s.pwr.tripped then s else { s with pwr := { s.pwr with tripped := true } }.emit (.pin 1 0)
    s.halt.raise pPwr Er.PWR_THERMTRIP)

/-- QUENCH_ASSERT (R466). -/
def execQuenchAssert (s : State) : Host.Outcome State Fault Refusal :=
  .next (
    if s.pwr.quench then s
    else ({ s with pwr := { s.pwr with quench := true } }.wr R.PWR_THERM_STATUS_QUENCH pPwr 1).raise pPwr Er.PWR_QUENCH)

/-- QUENCH_RELEASE (R466). -/
def execQuenchRelease (s : State) : Host.Outcome State Fault Refusal :=
  .next ({ s with pwr := { s.pwr with quench := false } }.wr R.PWR_THERM_STATUS_QUENCH pPwr 0)

/-- A restart is requested (R469): accepted with the airflow good for 1 s, TJ below T_WARN and no trip since power-on. Data traffic then
goes on. -/
def State.thermRestart (s : State) : State :=
  if s.pwr.airflow = true ∨ s.rg R.PWR_THERM_STATUS_TJ pPwr ≥ s.rg R.PWR_THERM_CTRL_T_WARN pPwr ∨ s.pwr.tripped = true then
    s.wr R.PWR_THERM_STATUS_RESTART_STATUS pPwr St.RESTART_DENIED
  else
    let s := (s.wr R.PWR_THERM_STATUS_RESTART_STATUS pPwr St.OK).wr R.PWR_THERM_STATUS_HALTED pPwr 0
    (List.range 16).foldl State.pump s

/-- THERM_RESTART (R469): function `req` writes THERM_CTRL.RESTART. -/
def execThermRestart (req : Nat) (s : State) : Host.Outcome State Fault Refusal :=
  .next (if s.mayWrite req pPwr then s.thermRestart else s)

end Sys2Proof.Machine
end

