-- ==== Sys2Proof/Machine/Firm.lean ====
section
/-!
DEFINITION. The firmware image and its checks (R534–R536), the slots (R537–R543), the choice of a slot at every Keeper start
(R541), and Fog mode (R544, R545).
-/

namespace Sys2Proof.Machine

/-! ### The image (R534–R536) -/

/-- Bytes of the header and the signature block. -/
def fwHead : Nat := 8448

/-- LENGTH of an image header. -/
def fwLength (h : List Nat) : Nat := plField h 0x18 4

/-- The header checks in their order (R536): the first that fails gives the status. -/
def State.fwHeader (s : State) (h : List Nat) : Nat :=
  let die := s.rg R.TOP_PART_DIE_STEP pTop
  let svn := plField h 0x14 4
  let len := fwLength h
  if plField h 0 4 ≠ 0x464C5354 ∨ plField h 4 2 ≠ 1 ∨ plField h 6 2 ≠ 256 ∨ plField h 0xA 1 > 3
      ∨ ((h.drop 0x50).take 176).any (fun b => decide (b ≠ 0)) = true then St.FW_HEADER
  else if plField h 8 2 ≠ s.rg R.TOP_PART_PART_CODE pTop then St.FW_PART
  else if die > 31 ∨ bit (plField h 0xC 4) die = false then St.FW_COMPAT
  else if plField h 0xB 1 ≠ 1 then St.FW_TYPE
  else if svn > 128 then St.SVN_EXHAUSTED
  else if svn < s.otp 0 then St.FW_SVN_OLD
  else if len = 0 ∨ len % 256 ≠ 0 ∨ len > 33545984 ∨ plField h 0x1C 4 ≥ len then St.FW_LENGTH
  else St.OK

/-- Whether the body of an image has the digest of its header (R535). -/
def fwBodyOk (img : List Nat) : Bool :=
  decide (sha384 ((img.drop fwHead).take (fwLength img)) = (img.drop 0x20).take 48)

/-! ### Slots (R537) -/

/-- The slot's last SLOT_STATE payload as a number; 0 for a slot that has none: EMPTY. -/
def State.slotRec (s : State) (k : Nat) : Nat := NMap.get 0 s.log.image.slotState k

/-- State of a slot: 0 EMPTY, 1 WRITING, 2 VALID, 3 TRIAL, 4 ACTIVE, 5 FAILED. -/
def State.slotState (s : State) (k : Nat) : Nat := bits (s.slotRec k) 15 8

/-- SVN of a slot's image. -/
def State.slotSvn (s : State) (k : Nat) : Nat := bits (s.slotRec k) 95 64

/-- Unconfirmed attempts of a slot: its BOOT_ATTEMPT records since its last SLOT_STATE record (R541). -/
def State.slotTries (s : State) (k : Nat) : Nat := bits (NMap.get 0 s.log.image.attempts k) 15 8

/-- SLOT_A and SLOT_B as the log has the slots. -/
def State.slotRegs (s : State) : State :=
  let v (k : Nat) : Nat := bits (s.slotRec k) 63 32
  let s := ((s.wr R.FWU_SLOT_A_VERSION pFwu (v 0)).wr R.FWU_SLOT_A_SVN pFwu (s.slotSvn 0)).wr R.FWU_SLOT_A_ATTEMPTS pFwu (s.slotTries 0)
  let s := ((s.wr R.FWU_SLOT_B_VERSION pFwu (v 1)).wr R.FWU_SLOT_B_SVN pFwu (s.slotSvn 1)).wr R.FWU_SLOT_B_ATTEMPTS pFwu (s.slotTries 1)
  (s.wr R.FWU_SLOT_A_STATE pFwu (s.slotState 0)).wr R.FWU_SLOT_B_STATE pFwu (s.slotState 1)

/-- SLOT_STATE (slot, state) commits for the image already in the slot. -/
def State.slotSet (s : State) (k st : Nat) : State :=
  (s.commitNow 0x0140 (leBytes 1 k ++ leBytes 1 st ++ [0, 0] ++ (leBytes 20 (s.slotRec k)).drop 4)).slotRegs

/-- SLOT_STATE (slot, state) commits for a new image with header `h`. -/
def State.slotSetNew (s : State) (k st : Nat) (h : List Nat) : State :=
  (s.commitNow 0x0140 (leBytes 1 k ++ leBytes 1 st ++ [0, 0] ++ (h.drop 0x10).take 8 ++ (h.drop 0x20).take 8)).slotRegs

/-- The slots in a state, A first. -/
def State.slotsIn (s : State) (st : Nat) : List Nat := [0, 1].filter (fun k => decide (s.slotState k = st))

/-- Whether the Keeper is in Fog mode. -/
def State.fog (s : State) : Bool := decide (s.rg R.KPR_KSTATE_STATE pKpr = 2)

/-- An FWU operation ends with a status. -/
def State.fwEnd (s : State) (st : Nat) : State :=
  (s.wr R.FWU_FWU_STATUS_BUSY pFwu 0).wr R.FWU_FWU_STATUS_STATUS pFwu st

/-- An image is refused (R536): error source FW_REFUSED. -/
def State.fwRefused (s : State) (st : Nat) : State := (s.fwEnd st).raise pFwu Er.FWU_FW_REFUSED

/-- FWU_CMD.GO is taken for an operation: PF0 writes it, and none is in progress. -/
def State.fwGo (s : State) (req : Nat) : Bool := s.mayWrite req pFwu && !(s.flag R.FWU_FWU_STATUS_BUSY pFwu)

/-- The slot that a load writes: neither running nor ACTIVE; in Fog mode the one that is not ACTIVE, `pick` when neither is
(R538, R545). -/
def State.fwTarget (s : State) (pick : Nat) : Option Nat :=
  if s.fog then
    match s.slotsIn 4 with
    | [] => some (pick % 2)
    | a :: _ => some (1 - a)
  else if s.slotState (1 - s.runningSlot) = 4 then none else some (1 - s.runningSlot)

/-- The target slot is marked WRITING and erased, and the load begins (R538 step 2). -/
def State.fwStart (s : State) (target : Nat) (ksb : Bool) (head : List Nat) (next : Nat) : State :=
  let s := s.slotSetNew target 1 head
  let s := s.wr R.FWU_FWU_STATUS_PIECES pFwu 0
  { s with fw := { s.fw with
    slots := Map.del target s.fw.slots, load := some ⟨target, ksb, head, next, false⟩ } }

/-- The body has been written (R538 step 4): its digest decides. In Fog mode the slot becomes VALID and then TRIAL (R545). -/
def State.fwFinish (s : State) (target : Nat) (img : List Nat) : Nat × State :=
  if fwBodyOk img = false then (St.FW_DIGEST, s)
  else
    let s := { s with fw := { s.fw with slots := NMap.put target img s.fw.slots } }
    let s := s.slotSet target 2
    let s := if s.fog then s.slotSet target 3 else s
    if s.slotState target = 2 ∨ s.slotState target = 3 then (St.OK, s) else (St.FW_FLASH, s)

/-! ### FWU_CMD (R538–R543) -/

/-- STAGE (R538): function `req` writes FWU_CMD with OP 1. `hostErr` where a host read fails in step 1; `sigOk` where both key digests and
both signatures are good (R535). -/
def execStage (req : Nat) (hostErr sigOk : Bool) (s : State) : Host.Outcome State Fault Refusal :=
  .next (
    if s.fwGo req = false then s
    else
      let base := aHost (s.rg R.FWU_FWU_BUF_ADDR pFwu * 64)
      let head := s.rbs base fwHead
      let s := s.wr R.FWU_FWU_CMD_OP pFwu 1
      if s.slotsIn 3 ≠ [] ∨ s.fw.load.isSome = true then s.fwEnd St.FW_SLOT_BUSY
      else
        match s.fwTarget 0 with
        | none => s.fwEnd St.FW_SLOT_BUSY
        | some k =>
          let st := s.fwHeader head
          if hostErr then s.fwEnd St.HOST_ERROR
          else if st ≠ St.OK then s.fwRefused st
          else if s.rg R.FWU_FWU_LEN_LEN pFwu ≠ fwHead + fwLength head then s.fwRefused St.FW_LENGTH
          else if sigOk = false then s.fwRefused St.FW_SIGNATURE
          else
            let s := s.fwStart k false head 0
            if s.slotState k = 1 then s.wr R.FWU_FWU_STATUS_BUSY pFwu 1
            else { s with fw := { s.fw with load := none } }.fwEnd St.FW_FLASH)

/-- STAGE_DONE (R538 steps 3 and 4, R543): the STAGE ends: with the body copied, or after `pieces` of it by ABORT, a host error or a
flash failure. -/
def execStageDone (pieces : Nat) (hostErr flashErr : Bool) (s : State) : Host.Outcome State Fault Refusal :=
  .next (
    match s.fw.load with
    | none => s
    | some l =>
      if l.ksb = true ∨ s.keeperUp = false then s
      else
        let base := aHost (s.rg R.FWU_FWU_BUF_ADDR pFwu * 64)
        let n := fwLength l.bytes
        let all := ceilDiv n 65536
        let s := { s with fw := { s.fw with load := none } }
        let short (s : State) : State := s.wr R.FWU_FWU_STATUS_PIECES pFwu (min 255 (min pieces all))
        if l.abort then (short s).fwEnd St.ABORTED
        else if hostErr then (short s).fwEnd St.HOST_ERROR
        else if flashErr then (short s).fwEnd St.FW_FLASH
        else
          let s := s.wr R.FWU_FWU_STATUS_PIECES pFwu (min 255 all)
          let (st, s) := s.fwFinish l.target (l.bytes ++ s.rbs (base + fwHead) n)
          if st = St.OK then (s.fwEnd st).cnt pFwu Cn.FWU_STAGES_OK
          else if st = St.FW_DIGEST then s.fwRefused st
          else s.fwEnd st)

/-- ACTIVATE (R539): function `req` writes FWU_CMD with OP 2: the VALID slot becomes TRIAL, and with RESTART the Keeper restarts
from ROM. -/
def execActivate (req : Nat) (restart : Bool) (s : State) : Host.Outcome State Fault Refusal :=
  .next (
    if s.fwGo req = false then s
    else
      let s := (s.wr R.FWU_FWU_CMD_OP pFwu 2).wrB R.FWU_FWU_CMD_RESTART pFwu restart
      let valid := s.slotsIn 2
      match valid.filter (fun k => decide (k ≠ s.runningSlot)) ++ valid with
      | [] => s.fwEnd St.FW_STATE
      | k :: _ =>
        if s.slotsIn 3 ≠ [] then s.fwEnd St.FW_STATE
        else
          let s := (s.slotSet k 3).fwEnd St.OK
          if restart = true ∧ s.fog = false then
            { s with fw := { s.fw with prevEnd := 0 } }.wr R.KPR_KSTATE_STATE pKpr 3
          else s)

/-- The booted slot is confirmed (R540). -/
def State.confirmBoot (s : State) : State :=
  let k := s.runningSlot
  let trial := decide (s.slotState k = 3)
  let s := s.slotSet k 4
  let s := if trial = true ∧ s.slotState (1 - k) = 4 then s.slotSet (1 - k) 2 else s
  { s with fw := { s.fw with confirmed := true } }

/-- CONFIRM (R540): function `req` writes FWU_CMD with OP 3. -/
def execConfirm (req : Nat) (s : State) : Host.Outcome State Fault Refusal :=
  .next (
    if s.fwGo req = false then s
    else
      let s := s.wr R.FWU_FWU_CMD_OP pFwu 3
      if s.rg R.KPR_KSTATE_STATE pKpr ≠ 1 then s.fwEnd St.FW_STATE
      else if s.fw.confirmed then s.fwEnd St.OK
      else s.confirmBoot.fwEnd St.OK)

/-- CONFIRM_TIMEOUT (R540): CONFIRM_S seconds after the boot without a confirmation. -/
def execConfirmTimeout (s : State) : Host.Outcome State Fault Refusal :=
  .next (
    if s.flag R.FWU_FWU_CTRL_AUTO_CONFIRM pFwu = true ∨ s.fw.confirmed = true ∨ s.rg R.KPR_KSTATE_STATE pKpr ≠ 1 then s
    else
      let s := s.raise pFwu Er.FWU_CONFIRM_TIMEOUT
      { s with fw := { s.fw with prevEnd := 2 } }.wr R.KPR_KSTATE_STATE pKpr 3)

/-- COMMIT_SVN (R542): function `req` writes FWU_CMD with OP 4. -/
def execCommitSvn (req : Nat) (s : State) : Host.Outcome State Fault Refusal :=
  .next (
    if s.fwGo req = false then s
    else
      let s := s.wr R.FWU_FWU_CMD_OP pFwu 4
      let k := s.runningSlot
      if s.fog = true ∨ s.slotState k ≠ 4 then s.fwEnd St.FW_STATE
      else if s.slotSvn k ≤ s.otp 0 then s.fwEnd St.OK
      else (s.otpAdvance 0 (s.slotSvn k)).fwEnd St.OK)

/-- FWU_ABORT (R543): function `req` writes FWU_CMD with OP 5: a running STAGE stops at its next piece. -/
def execFwuAbort (req : Nat) (s : State) : Host.Outcome State Fault Refusal :=
  .next (
    if s.mayWrite req pFwu = false then s
    else
      let s := s.wr R.FWU_FWU_CMD_OP pFwu 5
      match s.fw.load with
      | some l => if l.ksb then s else { s with fw := { s.fw with load := some { l with abort := true } } }
      | none => s)

/-! ### Fog mode (R544, R545) -/

/-- The ROM enters Fog mode: every domain but AON and HIO is off, PF0 is left with the FWU page, and boot stands in PHASE 14. -/
def State.enterFog (s : State) : State :=
  let s := ((List.range 24).filter s.domOn).foldl State.domLose s
  let s := (s.wr R.KPR_KSTATE_STATE pKpr 2).domRise 23
  let s := { s with
    fw := { s.fw with fogRequested := false, load := none }
    recov := { s.recov with resets := [], dumps := [] }
    pwr := { s.pwr with switchOn := [], switchOff := [] } }
  let s := (s.wr R.FWU_FWU_STATUS_BUSY pFwu 0).wr R.FWU_FWU_STATUS_FOG pFwu 1
  let s := (s.wr R.KPR_RST_STATUS_CHIP_PEND pKpr 0).wr R.HDR_CTRL_RESET_REQ pTop 0
  (s.wr R.KPR_BOOT_STATUS_PHASE pKpr 14).wr R.KPR_BOOT_STATUS_STALLED pKpr 0

/-- Why Fog mode may not end; OK where it may (R545). -/
def State.fogExit (s : State) (strapLow : Bool) : Nat :=
  if s.fog = false then St.FW_STATE
  else if strapLow then St.FOG_STRAP
  else if s.slotsIn 3 = [] ∧ s.slotsIn 4 = [] ∧ s.slotsIn 2 = [] then St.FW_STATE
  else St.OK

/-- Fog mode ends (R545, R577): the Keeper restarts from ROM, and boot follows from step 1. -/
def State.leaveFog (s : State) : State :=
  let s := (s.domLose 23).wr R.KPR_KSTATE_STATE pKpr 0
  let s := { s with fw := { s.fw with afterFog := true, load := none, strapLow := false, prevEnd := 3 } }
  let s := s.wr R.FWU_FWU_STATUS_FOG pFwu 0
  (s.wr R.KPR_BOOT_STATUS_PHASE pKpr 0).wr R.KPR_BOOT_STATUS_ENTRY pKpr 2

/-- EXIT_FOG (R545): function `req` writes FWU_CMD with OP 6; `strapLow` is the level of STRAP_FOG_N. -/
def execExitFog (req : Nat) (strapLow : Bool) (s : State) : Host.Outcome State Fault Refusal :=
  .next (
    if s.fwGo req = false then s
    else
      let s := s.wr R.FWU_FWU_CMD_OP pFwu 6
      let st := s.fogExit strapLow
      if st = St.OK then (s.fwEnd St.OK).leaveFog else s.fwEnd st)

/-! ### Every Keeper start (R541) -/

/-- Whether a slot's image may be booted: its device is not out of service (R32), and R535 and R536 hold in full. -/
def State.slotGood (s : State) (sigOk : List Bool) (k : Nat) : Bool :=
  let img := NMap.get [] s.fw.slots k
  !(s.fl k).failed && decide (s.fwHeader img = St.OK) && sigOk.getD k false && fwBodyOk img && decide (s.otp 0 ≤ s.slotSvn k)

/-- A slot is refused at boot. -/
def State.slotFail (s : State) (k : Nat) : State := (s.slotSet k 5).raise pFwu Er.FWU_SLOT_FAILED

/-- A slot's boot attempt is logged. -/
def State.slotAttempt (s : State) (k : Nat) : State :=
  let s := if s.slotState k = 2 then s.slotSet k 3 else s
  let n := s.slotTries k + 1
  ((s.commitNow 0x0141 (leBytes 1 k ++ leBytes 1 n ++ leBytes 1 (if n = 1 then 0 else s.fw.prevEnd) ++ [0])).slotRegs).cnt pFwu
    Cn.FWU_BOOT_ATTEMPTS

/-- The slots in turn: the first that may boot; `first` is the first choice. -/
def State.slotTry (sigOk : List Bool) (first : Nat) : List Nat → State → Option Nat × State
  | [], s => (none, s)
  | k :: l, s =>
    if s.slotTries k ≥ 3 ∨ s.slotGood sigOk k = false then State.slotTry sigOk first l (s.slotFail k)
    else
      let s := s.slotAttempt k
      (some k, if k = first then s else (s.raise pFwu Er.FWU_FALLBACK).cnt pFwu Cn.FWU_FALLBACKS)

/-- The slots that R541 tries: TRIAL, ACTIVE, VALID. -/
def State.slotOrder (s : State) : List Nat := s.slotsIn 3 ++ s.slotsIn 4 ++ s.slotsIn 2

/-- The firmware of a slot starts (R539–R541, R545): KSTATE reads 1, and with AUTO_CONFIRM and the log READY it confirms itself. -/
def State.fwRun (s : State) (k : Nat) : State :=
  let s := (s.wr R.KPR_KSTATE_STATE pKpr 1).wr R.FWU_FWU_STATUS_RUNNING pFwu k
  let fog := s.fw.afterFog
  let s := { s with fw := { s.fw with confirmed := false, prevEnd := 3, afterFog := false } }
  let s := if fog then s.raise pFwu Er.FWU_FOG_BOOT else s
  if s.flag R.FWU_FWU_CTRL_AUTO_CONFIRM pFwu = true ∧ s.rg R.LOG_LOG_STATUS_STATE pLog = 1 then s.confirmBoot else s

/-- The ROM chooses a slot, and starts it or enters Fog mode (R541). -/
def State.chooseSlot (s : State) (strapLow : Bool) (sigOk : List Bool) : State :=
  let s := s.slotRegs
  if strapLow = true ∨ s.fw.fogRequested = true then s.enterFog
  else
    match s.slotTry sigOk (s.slotOrder.head?.getD 0) s.slotOrder with
    | (some k, s) => s.fwRun k
    | (none, s) => s.enterFog

/-- KEEPER_START (R477, R539–R541): the Keeper that was RESTARTING comes up from ROM: OTP repair, replay, and the choice of a slot. `sigOk`
tells by slot whether its key digests and signatures are good. A STAGE that the restart cut is over. -/
def execKeeperStart (sigOk : List Bool) (strapLow : Bool) (s : State) : Host.Outcome State Fault Refusal :=
  .next (
    if s.rg R.KPR_KSTATE_STATE pKpr ≠ 3 then s
    else
      let s := s.wr R.KPR_KSTATE_STATE pKpr 0
      let cut := s.fw.load.isSome
      let s := { s with fw := { s.fw with load := none, strapLow := strapLow } }
      let s := if cut then s.fwEnd St.ABORTED else s
      let s := (s.otpRepair.journalReplay).chooseSlot strapLow sigOk
      if s.fog then s else s.daymarkAgain.rstWake)

end Sys2Proof.Machine
end

