-- ==== Sys2Proof/Machine/Boot.lean ====
section
/-!
DEFINITION. The boot sequence (R572–R578), admission tests (R576), and the loss of AON_RST_N and of power (R584, R590, R592).
-/

namespace Sys2Proof.Machine

/-! ### What replay brings into force (R513, R518) -/

/-- The TOP presence fields and ARRAY_FENCED follow the retirement set (R54). -/
def State.presenceLoad (s : State) : State :=
  let clu (n : Nat) : Bool := !(s.isRetired 3 n) && !(s.isRetired 9 (pClu n))
  let quad (q : Nat) : Bool :=
    clu (q / 4) && !(s.isRetired 2 q) && !((List.range 4).any (fun i => s.isRetired 9 (pCore (4 * q + i))))
  let s := s.wr R.TOP_CLU_PRESENT_PRESENT pTop (maskOf 64 clu)
  let s := (List.range 8).foldl (fun s m => s.wr (R.TOP_QUAD_PRESENT_PRESENT m) pTop (maskOf 32 (fun i => quad (32 * m + i)))) s
  let s := s.wr R.TOP_MEM_PORT_PRESENT_MEM pTop (maskOf 8 (fun m => !(s.isRetired 9 (pMem m))))
  let s := s.wr R.TOP_MEM_PORT_PRESENT_PORT pTop (maskOf 16 (fun p => !(s.isRetired 9 (pLnk p))))
  s.arraysCount

/-- The deratings that the log holds apply again (R449): PWR shows DEGRADED, and CLK_HST is within its limit. -/
def State.derateLoad (s : State) : State :=
  let s := if s.log.image.derate.any (fun e => decide (e.2 ≠ 0)) then s.wr R.HDR_STATUS_DEGRADED pPwr 1 else s
  s.wr R.CLK_HST_FREQ_MHZ pClk (min s.hstTop (s.rg R.CLK_HST_FREQ_MHZ pClk))

/-- Trims, segments, the epoch, the approved digest and the baselines as the log and the manufacturing record have them (R449, R513). -/
def State.logLoad (s : State) : State :=
  let i := s.log.image
  let s := (List.range 16).foldl (fun s d =>
    let segs := maskOf 32 (fun k => s.isRetired 4 (32 * d + k))
    ((s.wr (R.PWR_TRIM_TRIM d) pPwr (NMap.get 0 i.trim d)).wr (R.PWR_SEG_FAIL_FAILED d) pPwr segs).segRegs d) s
  let s := (List.range 25).foldl (fun s d => s.wr R.PWR_IC_DATA_R_BASE (0x10000 + d) (Config.factory (100 + d))) s
  let s := (s.wr R.CLK_OPP_LIMIT_OPP pClk s.oppLimit).wr R.TOP_CFG_EPOCH_EPOCH pTop i.epoch
  let s := if i.expect = [] then s
    else s.wr R.TOP_DM_APPROVED_DIGEST pTop
      (ofBytes ((sha384 (i.expect.flatMap (fun e => leBytes 4 e.1 ++ leBytes 8 e.2))).take 8))
  s.derateLoad.presenceLoad

/-- The retirement map lists every retirement in force except rows, in both banks (R527); a channel that runs at the lower rate is not retired
(log entry 135). -/
def State.rmapLoad (s : State) : State :=
  let l := (s.log.image.retired.filter (fun e => decide (e.1.1 ≠ 5) && decide (e.2 ≠ 0) && !(decide (e.1.1 = 8) && decide (e.2 = 1)))).map (fun e => e.1)
  let put (b : Nat) (m : NMap (Nat × Nat × Bool)) : NMap (Nat × Nat × Bool) :=
    (l.take 16384).zipIdx.foldl (fun (m : NMap (Nat × Nat × Bool)) (e : (Nat × Nat) × Nat) =>
      NMap.put (b * 16384 + e.2) (e.1.1, e.1.2, false) m) m
  let s := { s with log := { s.log with rmap := put 1 (put 0 []) } }
  let s := s.wr R.LOG_RMAP_COUNT_COUNT pLog (min 16384 l.length)
  if l.length > 16384 then (s.wr R.LOG_RMAP_COUNT_FULL pLog 1).raise pLog Er.LOG_RMAP_FULL else s

/-- Copies of a class that an incident's INC_REC records hold. -/
def incCopies (rs : List LogRec) (n cls : Nat) : Nat :=
  (rs.filter (fun r => decide (r.typ = 0x0211) && decide (plField r.payload 0 4 = n) && decide (r.flags / 2 = cls))).length

/-- An incident that was open at a power cut closes at the replay (R518, R520), with what its records tell; what they do not tell is
free. The number of the newest record of an incident is the last one given. -/
def State.incidentCut (s : State) : State :=
  let rs := s.log.records.map (fun r => r.1)
  let opens := rs.filter (fun r => decide (r.typ = 0x0210))
  let sums := s.log.summaries.map (fun b => plField b 0 4)
  let last := match (rs.filter (fun r => within 0x0210 0x0212 r.typ)).getLast? with
    | some r => plField r.payload 0 4
    | none => (sums.getLast?).getD 0
  match opens.getLast? with
  | none => { s with log := { s.log with incident := { Incident.none with number := last } } }
  | some o =>
    let n := plField o.payload 0 4
    if sums.contains n = true ∨ last ≠ n then { s with log := { s.log with incident := { Incident.none with number := last } } }
    else
      let (a, s) := s.freeVal
      let (b, s) := s.freeVal
      let (c, s) := s.freeVal
      let i : Incident := { Incident.none with
        number := n, openTbc := o.tbc, c0 := incCopies rs n 0, c1 := incCopies rs n 1, c2 := incCopies rs n 2
        notKept := a % 2 ^ 32, level := b % 5, step := c % 2 ^ 64, flags := 1
        firstTyp := plField o.payload 4 2, firstSrc := plField o.payload 6 2 }
      { s with log := { s.log with incident := i } }.incidentSummary

/-- Lifetime energy as the newest ENERGY record has it (R452, R502). -/
def State.energyLoad (s : State) : State :=
  match ((s.log.records.map (fun r => r.1)).filter (fun r => decide (r.typ = 0x0200))).getLast? with
  | some r => { s with pwr := { s.pwr with lifeUj := plField r.payload 8 8 * 1000000 } }
  | none => s

/-- A flash device whose manufacturing record fails its HMAC is refused (R504). -/
def State.badDevice (s : State) (d : Nat) : State := s.setFl d { s.fl d with failed := true, badRecord := true }

/-! ### Steps 1 to 4 (R573) -/

/-- A phase of the boot begins. -/
def State.bootPhase (s : State) (k : Nat) : State := (s.wr R.KPR_BOOT_STATUS_PHASE pKpr k).wr R.KPR_BOOT_STATUS_STALLED pKpr 0

/-- The current step stops, with the status of its cause (R578). -/
def State.bootStop (s : State) (st : Nat) : State := (s.wr R.KPR_BOOT_STATUS_STALLED pKpr 1).wr R.KPR_BOOT_STATUS_STATUS pKpr st

/-- A unit was left out or fenced. -/
def State.bootDegraded (s : State) : State := s.wr R.KPR_BOOT_STATUS_DEGRADED pKpr 1

/-- Steps 1 to 4: ROM, OTP, replay and the choice of a slot. -/
def State.boot1 (s : State) (e : BootEnv) : State :=
  let s := { s with boot := { s.boot with aon := true }, fw := { s.fw with strapLow := e.strapLow } }
  let s := (s.wr R.KPR_KSTATE_STATE pKpr 0).bootPhase 0
  let s := (domPages 24).foldl (fun s p => s.wr R.HDR_STATUS_READY p 1) s
  let s := (s.bootPhase 1).otpRepair
  let s := s.bootPhase 2
  let bad := e.badRecord.filter (fun d => decide (d < 2))
  let (s, found) := (bad.foldl State.badDevice s).logReplay false
  let s := (bad.map (fun _ => Er.LOG_ROLLBACK) ++ found).foldl (fun s n => s.raise pLog n) s.incidentCut
  let s := ((s.keyBoot).logLoad).rmapLoad.energyLoad
  (s.bootPhase 3).chooseSlot e.strapLow e.slotOk

/-! ### Steps 5 to 7: rails and memory (R573, R574) -/

/-- A rail stands confirmed at a voltage, after the boot's write of its transition rate, 1 mV/µs (R441). -/
def State.railAt (s : State) (r v : Nat) : State :=
  ((((s.setRail r ⟨v, none, 4, false⟩).emit (.avs 0xF r 0)).emit (.avs 1 r 1)).emit (.avs 0xE r 0)).avsSend r v

/-- Step 5: the rails are set and confirmed; after RST_CHIP they keep their settings. -/
def State.bootRails (s : State) : State :=
  let s := s.bootPhase 4
  if s.rg R.KPR_BOOT_STATUS_ENTRY pKpr = 1 then s
  else ((s.railAt 0 (s.coreVolt 4)).railAt 1 14000).railAt 2 (hstVolt (min 1600 s.hstTop))

/-- Stacks that leave service: not trained, or with a fenced channel (R574). -/
def State.stacksLeave (s : State) (failed : List Nat) : State :=
  (List.range 8).foldl (fun s m =>
    let bad := failed.contains m || (List.range 32).any (fun ch => s.chFenced m ch)
    let old := s.rg R.TOP_MEM_PORT_PRESENT_MEM pTop
    if bad then (s.wr R.TOP_MEM_PORT_PRESENT_MEM pTop (clrBit old m)).bootDegraded else s) s

/-- A channel steps down to 6.4 Gb/s at boot, after `n` retrainings, the last of them at that rate (R260, R574, R576). -/
def State.chanLow (s : State) (n i : Nat) : State :=
  let m := i / 32
  let ch := i % 32
  let s := (s.incSat R.MCH_CH_STATUS_RETRAINS (pMch m ch) n).chDegrade m ch
  s.setChan m ch { s.chan m ch with retraining := false }

/-- Channels that a training or an admission test steps down, and those that fail at the lower rate too and are fenced (R574, R576); the numbers
are 32 × stack + channel. A training retrains a channel once, at the lower rate; an admission test retrains it at its own rate first. One that
ran at the lower rate before is fenced without stepping down again. -/
def State.chansBoot (s : State) (n : Nat) (low fail : List Nat) : State :=
  let down (s : State) (i : Nat) : State := if s.rg R.MCH_CH_STATUS_RATE (pMch (i / 32) (i % 32)) = 0 then s.chanLow n i else s
  let s := (low.filter (fun i => decide (i < 256))).foldl down s
  (fail.filter (fun i => decide (i < 256))).foldl (fun s i => if s.chFenced (i / 32) (i % 32) then s else (down s i).chFence (i / 32) (i % 32)) s

/-- Steps 6 and 7: the cluster memories, the PHYs and their stacks, and every flow context FREE. -/
def State.bootMemory (s : State) (e : BootEnv) : State :=
  let s := [17, 18, 19, 20].foldl State.domRise (s.bootPhase 5)
  let s := s.chansBoot 1 e.chanLow e.chanFail
  let s := s.stacksLeave e.stackFail
  { s with net := { s.net with flows := [], cached := [] } }

/-! ### Step 8: compute (R446, R448) -/

/-- Whether the log keeps a CG domain fenced (R448). -/
def State.domGone (s : State) (d : Nat) : Bool := s.domFenced d || (clustersIn d).all (fun n => s.isRetired 3 n)

/-- A CG domain is turned on: segments that fail their check are opened, and may fence it at once. -/
def State.bootDomain (s : State) (segs : List Nat) (d : Nat) : State :=
  if s.domGone d then s.bootDegraded
  else
    let s := (segs.filter (fun k => decide (k < 32))).foldl (fun s k => s.segFail d k) (s.domRise d)
    if NMap.get false s.pwr.fencing d then (s.domFence d).bootDegraded else s

/-- CG00 to CG15 in increasing number, HSTC last. -/
def State.bootCompute (s : State) (e : BootEnv) : State :=
  let s := (List.range 16).foldl (fun s d => s.bootDomain ((e.segFail.filter (fun x => decide (x.1 = d))).map (fun x => x.2)) d) s
  s.domRise 16

/-! ### Step 9: admission (R576) -/

/-- ADMIT_FAIL once per unit that admission fences or degrades. -/
def State.admitFail (s : State) (n : Nat) : State :=
  if n = 0 then s else (List.range n).foldl (fun s _ => s.raise pKpr Er.KPR_ADMIT_FAIL) s.bootDegraded

/-- Whether array `i` (4 × core + array) is live in a domain that is on. -/
def State.arrayLive (s : State) (i : Nat) : Bool :=
  decide (i < 4096) && s.domOn (cgOfCluster (i / 64)) && bit (s.rg R.CORE_ARR_STATUS_LIVE (pCore (i / 4))) (i % 4)

/-- An array passes every pattern at admission: its last passing pattern is dated (R127), and no test of it is due. -/
def State.admitPass (s : State) (i : Nat) : State :=
  let k := (s.core (i / 4)).kat
  (s.wr (R.CORE_KAT_PASS_TBC_TBC (i % 4)) (pCore (i / 4)) (s.tbcAt (pCore (i / 4)))).setKat (i / 4)
    { k with due := clrBit k.due (i % 4), redo := clrBit k.redo (i % 4) }

/-- KAT: every pattern runs on every live array (R576). An array that fails a pattern twice is fenced and retired, and KAT_FAIL is recorded with
its event, as under R126; the others have passed. -/
def State.admitKat (s : State) (fails : List Nat) : Nat × State :=
  let l := fails.dedup.filter s.arrayLive
  let s := ((List.range 4096).filter (fun i => s.arrayLive i && !(l.contains i))).foldl State.admitPass s
  (l.length, l.foldl (fun s i =>
    (s.wr R.CORE_KAT_STATUS_FAIL (pCore (i / 4)) (setBit (s.rg R.CORE_KAT_STATUS_FAIL (pCore (i / 4))) (i % 4))).katFence (i / 4) (i % 4)) s)

/-- MEM: channels in service that miscompare twice step down, and three times are fenced. -/
def State.admitMem (s : State) (low fail : List Nat) : Nat × Nat × State :=
  let serves (i : Nat) : Bool :=
    decide (i < 256) && bit (s.rg R.TOP_MEM_PORT_PRESENT_MEM pTop) (i / 32) && !(s.chFenced (i / 32) (i % 32))
  let fail := fail.filter serves
  let low := (low.filter serves).filter (fun i => !fail.contains i)
  (low.length, fail.length, (s.chansBoot 2 low fail).stacksLeave [])

/-- The admission tests of ADMIT_CTRL run, and leave ADMIT_RESULT. -/
def State.admission (s : State) (e : BootEnv) : State :=
  let s := s.bootPhase 7
  if s.rg R.KPR_BOOT_STATUS_ENTRY pKpr = 1 ∧ s.flag R.KPR_ADMIT_CTRL_ON_RESET pKpr = false then s
  else
    let (a, s) := if s.flag R.KPR_ADMIT_CTRL_KAT pKpr then s.admitKat e.katFail else (0, s)
    let (l, f, s) := if s.flag R.KPR_ADMIT_CTRL_MEM pKpr then s.admitMem e.memLow e.memFail else (0, 0, s)
    let s := s.admitFail (a + l + f)
    let s := (s.wr R.KPR_ADMIT_RESULT_ARRAYS_FENCED pKpr (min 4095 a)).wr R.KPR_ADMIT_RESULT_CH_DEGRADED pKpr l
    (s.wr R.KPR_ADMIT_RESULT_CH_FENCED pKpr f).wr R.KPR_ADMIT_RESULT_DONE pKpr 1

/-! ### Steps 10 to 12: host, ports, READY (R266, R573, R575) -/

/-- The expanders are enumerated in link order (R266): whole frames in consecutive far-tier frames, and what is not mapped
reported. `low` are the links that trained at 32 GT/s or at half width (R265). -/
def State.farEnum (s : State) (caps low : List Nat) : State :=
  let step (a : State × Nat × Nat) (d : Nat) : State × Nat × Nat :=
    let cap := caps.getD d 0
    let n := min (cap / 2 ^ 21) (2 ^ 21 - a.2.1)
    ((a.1.wr (R.FAR_DEV_BASE_BASE d) pFar a.2.1).wr (R.FAR_DEV_BASE_FRAMES d) pFar n, a.2.1 + n, a.2.2 + (cap - n * 2 ^ 21))
  let (s, _, left) := (List.range 4).foldl step (s, 0, 0)
  let mask := maskOf 4 (fun d => decide (caps.getD d 0 ≠ 0))
  let s := { s with hbm := { s.hbm with farLow := maskOf 4 (fun d => low.contains d) } }
  (((s.wr R.FAR_FAR_STATUS_PRESENT pFar mask).wr R.FAR_FAR_STATUS_UP pFar mask).wr R.FAR_FAR_STATUS_EXCESS pFar (left / 2 ^ 20)).farDegraded

/-- Whether a unit is in service at the end of a boot (R14): its domain on, not fenced, present. -/
def State.unitServes (s : State) (p : Nat) : Bool :=
  blkOf p != 0 && blkOf p != 0x30 && s.pageOn p && !(s.fencedP p) && !(s.isRetired 9 p) &&
    match blkOf p with
    | 0x60 => s.quadPresent ((p - 0x200) / 4)
    | 0x58 => bit (s.rg R.TOP_CLU_PRESENT_PRESENT pTop) (p - 0x040)
    | 0x20 => bit (s.rg R.TOP_MEM_PORT_PRESENT_MEM pTop) (p - 0x010)
    | 0x21 => bit (s.rg R.TOP_MEM_PORT_PRESENT_MEM pTop) ((p - 0x100) / 32)
    | _ => true

/-- Step 12: ENABLE on every unit in service but the ports, the configuration digests and the daymark, and BOOT_READY. -/
def State.bootReady (s : State) : State :=
  let s := ((List.range 0xC00).filter s.unitServes).foldl (fun s p => s.wr R.HDR_CTRL_ENABLE p 1) s
  let s := ((s.cores.filter (fun e => decide (e.2.kat.due ≠ 0))).map (fun e => e.1)).foldl State.katDue s
  let s := termPages.foldl State.digestUpdate s
  let s := (s.bootPhase 10).daymarkCompute
  let s := s.wr R.KPR_BOOT_TBC_TBC pKpr s.tbc
  { s with boot := { s.boot with readyPend := true } }.bootReadyTry

/-- Steps 9 to 12. -/
def State.boot9 (s : State) (e : BootEnv) : State :=
  let s := (s.admission e).bootPhase 8
  let s := ((s.domRise 23).farEnum e.expanders e.farLow).pcieTrain e.flit e.gts e.width
  let s := ((s.bootPhase 9).domRise 21).domRise 22
  let s := s.wr R.PWR_DOM_CTRL_ON pPwr (s.rg R.PWR_DOM_STATUS_ON pPwr)
  s.bootReady

/-- Steps 8 to 12: with AIRFLOW_FAIL_N low the boot waits before any CG domain is turned on (R592). -/
def State.boot8 (s : State) (e : BootEnv) : State :=
  let s := s.bootPhase 6
  if e.airLow = true ∨ s.pwr.airflow = true then
    let s := { s with pwr := { s.pwr with airflow := true }, boot := { s.boot with holdAir := true } }
    (s.wr R.PWR_THERM_STATUS_AIRFLOW pPwr 1).bootStop St.RESTART_DENIED
  else (s.bootCompute e).boot9 e

/-- Steps 5 to 12; a module none of whose stacks trains stops in PHASE 5, the code of the cause being free (R574). -/
def State.boot5 (s : State) (e : BootEnv) : State :=
  let s := if s.rg R.KPR_BOOT_STATUS_ENTRY pKpr = 1 then s.logLoad else s
  let s := s.bootRails.bootMemory e
  if s.rg R.TOP_MEM_PORT_PRESENT_MEM pTop = 0 then
    let (v, s) := s.freeVal
    s.bootStop v
  else s.boot8 e

/-- POWER_ON_BOOT (R573, R577): AON_RST_N has risen, Fog mode has ended, or RST_CHIP has completed: the boot runs from step 1, or from
step 5 after RST_CHIP, to READY, to Fog mode, or to where it stalls. -/
def execPowerOnBoot (e : BootEnv) (s : State) : Host.Outcome State Fault Refusal :=
  .next (
    let phase := s.rg R.KPR_BOOT_STATUS_PHASE pKpr
    if phase = 0 then
      let s := s.boot1 e
      if s.fog then s else s.boot5 e
    else if phase = 4 ∧ s.boot.aon = true ∧ s.rg R.KPR_KSTATE_STATE pKpr = 1 then s.boot5 e
    else s)

/-- BOOT_STALL (R578): a boot step exceeds its limit because of a rail, AVSBus or flash fault with status `status`. -/
def execBootStall (status : Nat) (s : State) : Host.Outcome State Fault Refusal :=
  .next (
    if s.rg R.KPR_BOOT_STATUS_PHASE pKpr ≥ 10 ∨ s.boot.aon = false then s
    else (s.bootStop status).raise pKpr Er.KPR_BOOT_STALL)

/-- AIRFLOW_FAIL_N_HIGH (R592): the land has been high for 1 s: AIRFLOW clears, and a boot held before step 8 continues. -/
def execAirflowFailNHigh (e : BootEnv) (s : State) : Host.Outcome State Fault Refusal :=
  .next (
    let held := s.boot.holdAir
    let s := { s with pwr := { s.pwr with airflow := false }, boot := { s.boot with holdAir := false } }
    let s := s.wr R.PWR_THERM_STATUS_AIRFLOW pPwr 0
    if held then s.boot8 { e with airLow := false } else s)

/-! ### The loss of AON_RST_N and of power (R39, R584, R590) -/

/-- A power cut falls between the erase of a device's oldest sector and the writing of its header (R505). -/
def State.eraseCut (s : State) (d : Nat) : State :=
  let x := s.fl d
  match x.used.getLast? with
  | none => s
  | some k =>
    if x.failed = true ∨ x.erasedN ≥ 16 ∨ x.used.length < 2 ∨ s.reclaimable k = false then s
    else s.setFl d { x with
      used := x.used.dropLast, unheaded := x.unheaded ++ [k.index], erases := NMap.put k.index (NMap.get 0 x.erases k.index + 1) x.erases }

/-- What a cut leaves of the record copies being programmed (R507, R511): by device 0 nothing, 1 a torn copy, 2 a copy
that reads committed, 3 a copy whose bytes are whole and whose COMMIT is not programmed. -/
def State.logCut (s : State) (c0 c1 : Nat) : State :=
  match (s.log.ckpt ++ s.log.stateQ ++ s.log.eventQ).head? with
  | none => s
  | some r =>
    let r := { r with seq := s.log.nextSeq }
    let put (s : State) (d c : Nat) : State :=
      let x := s.fl d
      if x.failed = true ∨ c = 0 ∨ c > 3 ∨ (r.isState = false ∧ s.log.nextDev ≠ d) ∨ (x.fits r.size = false ∧ x.erasedN = 0) then s
      else
        let s := s.headFor d r.size
        s.setFl d ((s.fl d).append r (if c = 2 then .committed else if c = 3 then .uncommitted else .torn) false)
    put (put s 0 c0) 1 c1

/-- What a cut leaves of what the Keeper does on the flash devices: 4 for a device whose erase it cuts, else as `logCut` says. -/
def State.flashCut (s : State) (c0 c1 : Nat) : State :=
  let s := (s.logCut c0 c1)
  let s := if c0 = 4 then s.eraseCut 0 else s
  if c1 = 4 then s.eraseCut 1 else s

/-- What a cut leaves of an INSTALL in progress (R524): 0 the erased slot, 1 the slot programmed, 2 its KEY_COMMIT committed, 3 also the
first fuse of KEY_GEN's step blown. -/
def State.keyCut (s : State) (stage : Nat) : State :=
  match s.log.keyNew with
  | none => s
  | some k =>
    if s.log.keyOp ≠ 2 ∨ stage = 0 then s
    else
      let slot := 1 - s.activeSlot
      let s := s.keyProgram slot k
      if stage = 1 then s
      else
        let s := s.commitNow 0x0150 (leBytes 1 slot ++ leBytes 1 k.gen ++ leBytes 48 k.digest)
        if stage = 2 then s
        else { s with log := { s.log with otp := NMap.put 1 (max (s.otp 1) k.gen, s.otp 1) s.log.otp } }

/-- The log as flash, OTP and the key slots keep it: everything in the Keeper's SRAM is lost. -/
def LogSt.cut (l : LogSt) : LogSt :=
  { LogSt.fresh with
    fl0 := { l.fl0 with failed := false, window := [], failTimes := [] }
    fl1 := { l.fl1 with failed := false, window := [], failTimes := [] }
    otp := l.otp, keys := l.keys }

/-- AON loses its reset: every register, every memory but the host's, and all work in progress are gone; flash, OTP and the firmware
slots stay. -/
def State.aonCut (s : State) : State :=
  let s := s.lose (Spc 0) (Spc 4)
  let e := s.free + 1
  { State.reset with
    mem := s.mem.filter (fun c => decide (Spc 4 ≤ c.1) && decide (c.1 < Spc 5))
    lost := s.lost
    free := e
    cores := (List.range 1024).map (fun c => (c, { Core.init with fill := e, accFill := (List.range 8).map (fun b => (b, e)) }))
    rdata := s.rdata
    out := s.out
    log := s.log.cut
    fw := { FwSt.init with slots := s.fw.slots }
    boot := ⟨false, false, false⟩
    pending := s.pending }

/-- AON_RESET_ASSERT (R590): the fall of AON_RST_N; `c0` and `c1` tell what it leaves of the copies being programmed, `key` of an
INSTALL. THERMTRIP_N and PWRCYC_REQ_N stay as they are. -/
def execAonResetAssert (c0 c1 key : Nat) (s : State) : Host.Outcome State Fault Refusal :=
  .next (
    let x := ((s.keyCut key).flashCut c0 c1).aonCut
    { x with pwr := { x.pwr with tripped := s.pwr.tripped }, recov := { x.recov with pwrcyc := s.recov.pwrcyc } })

/-- POWER_LOSS (R584, R591): every rail falls; a power cut. -/
def execPowerLoss (c0 c1 key : Nat) (s : State) : Host.Outcome State Fault Refusal :=
  .next (((s.keyCut key).flashCut c0 c1).aonCut)

end Sys2Proof.Machine
end

