-- ==== Sys2Proof/Machine/Debug.lean ====
section
/-!
DEFINITION. The DBG page (17_observing.md): reads of other pages under the visibility policy (R556), marks and the end of a trace
(R558, R560), and the digests of the tensor watch (R561–R565).
-/

namespace Sys2Proof.Machine

/-! ### PEEK (R556) -/

/-- Blocks whose own registers every function may read under the OPEN policy. -/
def peekBlocks : List Nat := [0x10, 0x12, 0x13, 0x20, 0x21, 0x22, 0x30, 0x31]

/-- Whether the policy permits function `fn` to read offset `off` of a page: PF0 reads all, each function its own pages, and under OPEN
also common headers and the blocks of `peekBlocks`. -/
def State.peekOk (s : State) (fn page off : Nat) : Bool :=
  decide (fn = 0) || s.inBar fn page
  || (!(s.flag R.DBG_VIS_CLOSED (pDbg 0)) && (decide (off < 0x100) || peekBlocks.contains (blkOf page)))

/-- A read of PEEK_DATA on the DBG page of `fn`: the value read, its status, and OFFSET advanced. -/
def State.peek (s : State) (fn : Nat) : State :=
  let p := pDbg fn
  let page := s.rg R.DBG_PEEK_ADDR_PAGE p
  let k := s.rg R.DBG_PEEK_ADDR_OFFSET p
  let (st, v) :=
    if s.peekOk fn page (8 * k) = false then (St.PEEK_DENIED, 0)
    else if s.pageOn page = false then (St.PEEK_DOMAIN_OFF, 0)
    else (St.OK, s.pageVal page (8 * k) 8)
  let s := if st = St.PEEK_DENIED then s.cnt p Cn.DBG_PEEK_DENIED else s
  let s := ((s.wr R.DBG_PEEK_DATA_DATA p v).wr R.DBG_PEEK_STATUS_STATUS p st).wr R.DBG_PEEK_ADDR_OFFSET p (min 0x1FF (k + 1))
  { s with rdata := [v] }

/-- PEEK (R556): function `req` reads PEEK_DATA on the DBG page of `fn`. -/
def execPeek (req fn : Nat) (s : State) : Host.Outcome State Fault Refusal :=
  .next (if s.responds req (pDbg fn) then s.peek fn else { s with rdata := [0] })

/-! ### Traces (R558, R560) -/

/-- TRACE_MARK (R558): function `req` writes TRACE_MARK on the DBG page of `fn`. -/
def execTraceMark (req fn val : Nat) (s : State) : Host.Outcome State Fault Refusal :=
  .next (if s.mayWrite req (pDbg fn) then s.trace fn 5 0x0C16 (val % 2 ^ 64) (pDbg fn) true 0 else s)

/-- A host write of the trace fails (R560): the trace stops, and what was queued is gone. -/
def State.traceFail (s : State) (fn : Nat) : State :=
  let p := pDbg fn
  let s := s.setDbg fn { s.dbgFn fn with queue := [], dropped := 0 }
  (((s.wr R.DBG_TRACE_CFG_EN p 0).wr R.DBG_TRACE_STATUS_STOPPED p 1).wr R.DBG_TRACE_STATUS_ACTIVE p 0).raise p Er.DBG_TRACE_FAIL

/-- TRACE_CFG.EN is cleared: the queued entries are written first, and ACTIVE then reads 0; `hostErr` where the host answers a write with
an error. -/
def State.traceOff (s : State) (fn : Nat) (hostErr : Bool) : State :=
  let p := pDbg fn
  let s := s.wr R.DBG_TRACE_CFG_EN p 0
  let d := s.dbgFn fn
  if hostErr = true ∧ (d.queue ≠ [] ∨ d.dropped ≠ 0) then s.traceFail fn
  else (s.traceFlush fn).wr R.DBG_TRACE_STATUS_ACTIVE p 0

/-- TRACE_DISABLE (R560): function `req` clears TRACE_CFG.EN on the DBG page of `fn`. -/
def execTraceDisable (req fn : Nat) (hostErr : Bool) (s : State) : Host.Outcome State Fault Refusal :=
  .next (if s.mayWrite req (pDbg fn) = true ∧ s.flag R.DBG_TRACE_CFG_EN (pDbg fn) = true then s.traceOff fn hostErr else s)

/-! ### Tensor watch (R561–R565) -/

/-- What a digest has gathered: elements, non-finite ones, poisoned lines, extremes of the finite values, the sum of squares, the
histogram, element and scale bytes in order, bytes read, and whether an unmapped line ended the read. -/
structure TwAcc where
  count : Nat
  nonfin : Nat
  lines : List Nat
  lo : Option Rat
  hi : Option Rat
  ewa : Ewa
  hist : NMap Nat
  bytes : List Nat
  scales : List Nat
  trunc : Bool
  deriving DecidableEq, Repr

/-- Nothing read. -/
def TwAcc.empty : TwAcc := ⟨0, 0, [], none, none, Ewa.clear, [], [], [], false⟩

/-- Read `n` bytes at local address `a` for a function, line by line, to the first unmapped line: the bytes with their poison marks,
and whether the read was cut short; none where a line must wait. -/
def State.twRead (s : State) (v : Via) : Nat → Nat → Nat → Option (State × List (Nat × Bool) × Bool)
  | 0, _, _ => some (s, [], false)
  | k + 1, a, n =>
    if n = 0 then some (s, [], false)
    else if a < 2 ^ 32 then some (s, [], true)
    else
      let c := chunk a n
      match s.ldN v a c with
      | .error e => if e = waitCode then none else some (s, [], true)
      | .ok (s, bs) =>
        match s.twRead v k (a + c) (n - c) with
        | none => none
        | some (s, r, t) => some (s, bs ++ r, t)

/-- The lines (address div 64) of bytes at `a` that are poisoned, each once beside those of `old`. -/
def poisonLines (a : Nat) (bs : List (Nat × Bool)) (old : List Nat) : List Nat :=
  bs.zipIdx.foldl (fun (l : List Nat) (b : (Nat × Bool) × Nat) =>
    let k := (a + b.2) / 64
    if b.1.2 = true ∧ l.contains k = false then l ++ [k] else l) old

/-- A two's complement byte. -/
def s8 (b : Nat) : Int := if b % 256 ≥ 128 then (b % 256 : Int) - 256 else (b % 256 : Int)

/-- One element joins a digest (R563). -/
def TwAcc.add (t : TwAcc) (ebase : Nat) (v : Val) : TwAcc :=
  match v with
  | .fin _ x =>
    let bin : Nat := if x = 0 then 0 else (max 1 (min 30 (flog2 (absR x) - s8 ebase + 1))).toNat
    { t with
      count := t.count + 1
      lo := some (match t.lo with
        | some y => if x < y then x else y
        | none => x)
      hi := some (match t.hi with
        | some y => if y < x then x else y
        | none => x)
      ewa := (t.ewa.addVal (.fin false (x * x))).1
      hist := NMap.put bin (NMap.get 0 t.hist bin + 1) t.hist }
  | _ =>
    { t with count := t.count + 1, nonfin := t.nonfin + 1, hist := NMap.put 31 (NMap.get 0 t.hist 31 + 1) t.hist }

/-- The element at inner index `i` of a row, from the row's bytes and its scale bytes; none where one of its bytes was not read. -/
def Ten.twElem (t : Ten) (bs sc : List (Nat × Bool)) (i : Nat) : Option Val :=
  let (o, n) := elemSpan t.f i
  let k := if t.outer then i else i / t.blk
  if bs.length < o + n then none
  else
    let span := (bs.drop o).take n
    let code := ofBytes (span.map (fun b => b.1)) / 2 ^ (t.f.width * i % 8) % 2 ^ t.f.width
    if t.sf = 0 then some (elemVal t code (span.any (fun b => b.2)) 0).1
    else
      match sc[k]? with
      | none => none
      | some (b, p) => some (elemVal t code (span.any (fun b => b.2)) (if p then (if t.sf = 1 then 0xFF else 0x7F) else b)).1

/-- Row `r` of the tensor is read (R562): its element bytes, then its scale bytes. -/
def State.twRow (s : State) (v : Via) (t : Ten) (ebase : Nat) (acc : TwAcc) (r : Nat) : Option (State × TwAcc) :=
  if acc.trunc then some (s, acc)
  else
    let n := rowBytes t.f t.dim0
    let a := t.rowAddr r
    match s.twRead v (spanLines n) a n with
    | none => none
    | some (s, bs, cut) =>
      let m := if t.sf = 0 then 0 else t.scaleDims.2
      let sa := t.scaleAddr r 0
      match s.twRead v (spanLines m) sa m with
      | none => none
      | some (s, sc, scut) =>
        let first := decide (t.outer = false) || decide (r % t.dim1 % t.blk = 0)
        let acc := (List.range t.dim0).foldl (fun (acc : TwAcc) i =>
          match t.twElem bs sc i with
          | some x => acc.add ebase x
          | none => acc) acc
        some (s, { acc with
          lines := poisonLines sa sc (poisonLines a bs acc.lines)
          bytes := acc.bytes ++ bs.map (fun b => b.1)
          scales := if first then acc.scales ++ sc.map (fun b => b.1) else acc.scales
          trunc := cut || scut })

/-- Every row of the tensor. -/
def State.twRows (v : Via) (t : Ten) (ebase : Nat) : List Nat → State → TwAcc → Option (State × TwAcc)
  | [], s, acc => some (s, acc)
  | r :: l, s, acc =>
    match s.twRow v t ebase acc r with
    | none => none
    | some (s, acc) => State.twRows v t ebase l s acc

/-- The descriptor at TW_DESC, when its line is mapped, not poisoned, and passes R142 and R80: none where it must wait. -/
def State.twDesc (s : State) (fn : Nat) (g : Digest) : Option (State × Option Ten) :=
  match s.twRead (viaFn fn) 2 g.desc 64 with
  | none => none
  | some (s, bs, cut) =>
    let t := Ten.ofBits (BitVec.ofNat 512 (ofBytes (bs.map (fun b => b.1))))
    if cut = true ∨ bs.any (fun b => b.2) = true ∨ t.check.isSome = true ∨ t.rowsAligned = false then some (s, none) else some (s, some t)

/-- The FP32 code of an extreme; the canonical NaN where no element is finite. -/
def twFp32 (x : Option Rat) : Nat :=
  match x with
  | some x => (toFp32 (.fin (decide (x < 0)) x)).1
  | none => 0x7FC00000

/-- The 256 bytes of a record (R565). -/
def twRecord (fn seq tbc : Nat) (g : Digest) (flags st : Nat) (a : TwAcc) (sf : Nat) : List Nat :=
  leBytes 8 g.tbc ++ leBytes 8 tbc ++ leBytes 2 g.layer ++ leBytes 2 g.op ++ leBytes 1 g.point ++ leBytes 1 fn ++ leBytes 2 flags
    ++ leBytes 8 a.count ++ leBytes 4 a.nonfin ++ leBytes 4 a.lines.length
    ++ leBytes 4 (twFp32 a.lo) ++ leBytes 4 (twFp32 a.hi) ++ leBytes 4 (toFp32 a.ewa.val.sqrt).1
    ++ leBytes 4 (crc32c a.bytes) ++ leBytes 4 (if sf = 0 then 0 else crc32c a.scales) ++ leBytes 2 st ++ leBytes 2 (seq % 65536)
    ++ (List.range 32).flatMap (fun i => leBytes 4 (NMap.get 0 a.hist i)) ++ List.replicate 64 0

/-- The record of a digest goes to the ring, while TW_CFG.EN is 1; `hostErr` where the host answers the write with an error. -/
def State.twPut (s : State) (fn : Nat) (g : Digest) (flags st : Nat) (a : TwAcc) (sf : Nat) (hostErr : Bool) : State :=
  let p := pDbg fn
  let i := twInst fn g.point
  let d := s.dbgFn fn
  if s.flag R.DBG_TW_CFG_EN p = false then s
  else if hostErr then (s.wr R.DBG_TW_CFG_EN p 0).raise p Er.DBG_TW_FAIL
  else
    let slot := d.seq % 2 ^ s.rg R.DBG_TW_CFG_LOG2SLOTS p
    let s := s.wbs (aHost (s.rg R.DBG_TW_BASE_ADDR p * 256 + 256 * slot)) (twRecord fn d.seq s.tbc g flags st a sf)
    let s := (s.setDbg fn { d with seq := d.seq + 1 }).cnt p Cn.DBG_TW_DIGESTS
    let s := (s.wr R.DBG_TW_SEQ_COUNT i (s.rg R.DBG_TW_SEQ_COUNT i + 1)).wr R.DBG_TW_STATUS_LAST_STATUS p st
    if st = St.OK then s else s.raise p Er.DBG_TW_FAIL

/-- The digest of the tensor, once its command has its outcome: none where a line must wait. -/
def State.twDigest (s : State) (fn : Nat) (g : Digest) (hostErr : Bool) : Option State :=
  match s.twDesc fn g with
  | none => none
  | some (s, none) => some (s.twPut fn g 4 St.TW_INVALID TwAcc.empty 0 hostErr)
  | some (s, some t) =>
    match State.twRows (viaFn fn) t g.ebase (List.range t.rows) s TwAcc.empty with
    | none => none
    | some (s, a) =>
      let st := if a.trunc then St.TW_UNMAPPED else St.OK
      let s := s.cnt (pDbg fn) Cn.DBG_TW_BYTES (a.bytes.length + a.scales.length)
      some (s.twPut fn g (b2n a.ewa.loss + 2 * b2n a.trunc) st a t.sf hostErr)

/-- TW_DIGEST (R562, R564): the watch engine digests the tensor of the oldest digest of `fn` whose command has its outcome; `held` is the
time in ns that the command was held for it. -/
def execTwDigest (fn held : Nat) (hostErr : Bool) (s : State) : Host.Outcome State Fault Refusal :=
  .next (match (s.dbgFn fn).digests.find? (fun g => match s.cmdFind g.queue g.num with
      | some c => c.result.isSome
      | none => true) with
    | none => s
    | some g =>
      match s.twDigest fn g hostErr with
      | none => s
      | some s => ((s.setDbg fn { s.dbgFn fn with digests := (s.dbgFn fn).digests.erase g }).cnt (pDbg fn) Cn.DBG_TW_HOLD_NS held).twPending fn)

/-- COL_CQ_RESET_DONE (R398): the reset of communication queue `k` of function `fn` completes, and CQ_CMD.BUSY clears. -/
def execColCqResetDone (fn k : Nat) (s : State) : Host.Outcome State Fault Refusal :=
  .next (match s.commqOf fn k with
    | some g => s.wr R.COL_CQ_CMD_BUSY g 0
    | none => s)

end Sys2Proof.Machine
end

