-- ==== Sys2Proof/Machine/Access.lean ====
section
/-!
DEFINITION. Writes of registers (R9–R12, R22, R599–R603): access codes, widths and halves, values that a register ignores, and the
registers whose write is an action; the MSI-X table; and the accesses of a cluster host core (R37, R204, R606).
-/

namespace Sys2Proof.Machine

/-- The state that a command leaves. -/
def State.after (s : State) (o : Host.Outcome State Fault Refusal) : State :=
  match o with
  | .next t => t
  | _ => s

/-! ### Fields -/

/-- The bits of a write `v` at offset `off` that belong to a field. -/
def Fld.ofWrite (f : Fld) (off v : Nat) : Nat := bits v (f.pos + f.width - 1 - 8 * off) (f.pos - 8 * off)

/-- Fields whose description gives a range of values: a write outside it leaves the field as it is. -/
def fldRanges : List (Fld × Nat × Nat) :=
  [(R.MEM_SCRUB_CTRL_PERIOD, 1, 255), (R.FAR_FAR_CFG_TIMEOUT, 10, 50000), (R.LNK_TIMERS_TRAIN_TO, 25, 10000),
   (R.LNK_TIMERS_CREDIT_TO, 1, 65535), (R.LNK_TIMERS_REPLAY_TO, 50, 10000), (R.LNK_QUAR_CTRL_THRESH, 1, 255),
   (R.LNK_QUAR_CTRL_WINDOW, 1, 65535), (R.LNK_RETRAIN_MIN, 10, 65535), (R.LNK_KEY_CTRL_GRACE, 1, 255), (R.LNK_KEY_CTRL_LIFE, 1, 255),
   (R.KPR_DM_CFG_DIAM, 1, 4095)] ++
  [(R.PWR_ENV_CTRL_SRC, 0, 2), (R.PWR_CAP_CAP, 150, 750), (R.PWR_RAMP_QUENCH_LVL, 0, 64), (R.PWR_RAMP_RAMP_UP, 1, 16),
   (R.PWR_RAMP_RAMP_DOWN, 1, 16), (R.PWR_TELEM_CTRL_LOG2SLOTS, 4, 16), (R.PWR_THERM_CTRL_T_WARN, 80, 110),
   (R.PWR_THERM_CTRL_T_THROTTLE, 85, 110), (R.PWR_MARGIN_CFG_FLOOR, 1, 64), (R.PWR_IC_IDX_DOMAIN, 0, 24), (R.FWU_FWU_CTRL_CONFIRM_S, 10, 65535)] ++
  [(R.DBG_TRACE_CFG_LOG2SIZE, 6, 20), (R.DBG_TW_CFG_LOG2SLOTS, 4, 16), (R.DBG_TW_CTRL_PERIOD, 1, 65535), (R.HIF_DUMP_CFG_MAX_MS, 1, 200),
   (R.HIF_DUMP_CFG_STRIDE_LOG2, 12, 19), (R.HIF_DUMP_CFG_LEN_LOG2, 6, 12), (R.LOG_KEY_BUF_LEN_LEN, 0, 2 ^ 18),
   (R.HIF_XLT_LEN0_LEN, 0, 2097152), (R.HIF_XLT_LEN1_LEN, 0, 2097152)]

/-- Whether a field takes a value. -/
def Fld.takes (f : Fld) (v : Nat) : Bool :=
  match fldRanges.find? (fun e => decide (e.1.id = f.id)) with
  | some (_, lo, hi) => decide (lo ≤ v) && decide (v ≤ hi)
  | none => true

/-- Write `v` to a field as its access code says (R9); RWL is read only from the end of boot to the next RST_CHIP. -/
def State.putFld (s : State) (p : Nat) (f : Fld) (v : Nat) : State :=
  match s.regInst p f with
  | none => s
  | some i =>
    match f.acc with
    | .rw => if f.takes v then s.wr f i v else s
    | .rws => if f.takes v then s.wr f i v else s
    | .rwl => if s.rg R.KPR_BOOT_STATUS_PHASE pKpr = 10 then s else s.wr f i v
    | .rw1c => s.wr f i (s.rg f i - (s.rg f i &&& v))
    | .ro => s
    | .wo => s

/-- The fields that lie wholly in the `n` bytes at an offset of a page. -/
def fieldsIn (p off n : Nat) : List Fld :=
  (fieldsOfPage p).filter (fun f => decide (8 * off ≤ f.pos) && decide (f.pos + f.width ≤ 8 * (off + n)))

/-- Write `v` to the fields of the `n` bytes at an offset; reserved bits are ignored (R11). -/
def State.putReg (s : State) (p off n v : Nat) : State := (fieldsIn p off n).foldl (fun s f => s.putFld p f (f.ofWrite off v)) s

/-- Error registers whose VALID, cleared, clears other fields (R171, R205, R208, R279, R398). -/
def validTab : List (Fld × List Fld) :=
  [(R.CORE_EXC_STATUS_VALID, [R.CORE_EXC_STATUS_CODE]), (R.CORE_SPAD_ERR_VALID, [R.CORE_SPAD_ERR_UE, R.CORE_SPAD_ERR_LINE]),
   (R.CORE_DMA_ERR_VALID, [R.CORE_DMA_ERR_COUNT, R.CORE_DMA_ERR_CODE]),
   (R.CLU_CDMA_ERR_VALID, [R.CLU_CDMA_ERR_QUAD, R.CLU_CDMA_ERR_COUNT, R.CLU_CDMA_ERR_CODE]),
   (R.CLU_CLMEM_ERR_VALID, [R.CLU_CLMEM_ERR_UE, R.CLU_CLMEM_ERR_LINE]),
   (R.MEM_ECC_ERR_VALID, [R.MEM_ECC_ERR_UE, R.MEM_ECC_ERR_PAGE, R.MEM_ECC_ERR_OFFSET]),
   (R.COL_COLL_ERR_VALID, [R.COL_COLL_ERR_GID, R.COL_COLL_ERR_SEQ, R.COL_COLL_ERR_CODE])]

/-- Whether every field of a write to the PWR or CLK page lies in its stated range: else the whole register write is ignored (R470, R471). With
FUNC 0 EN_IDX selects a domain, 0–24, or 25. -/
def rangesOk (p off n v : Nat) : Bool :=
  (fieldsIn p off n).all (fun f => f.takes (f.ofWrite off v))
    && !(decide (p = pPwr) && decide (off = 0x1C0) && decide (R.PWR_EN_IDX_FUNC.ofWrite off v = 0) && decide (R.PWR_EN_IDX_INDEX.ofWrite off v > 25))

/-- A write to the `n` bytes at an offset, with what a cleared VALID brings. -/
def State.putPlain (s : State) (p off n v : Nat) : State :=
  let s := s.putReg p off n v
  match validTab.find? (fun e => (fieldsIn p off n).contains e.1) with
  | some (f, l) => if f.ofWrite off v = 1 then l.foldl (fun s g => s.wr g p 0) s else s
  | none => s

/-! ### Writes that are ignored as a whole -/

/-- Whether an offset lies in `lo` to `hi` (exclusive). -/
def offIn (off lo hi : Nat) : Bool := decide (lo ≤ off) && decide (off < hi)

/-- A register of the translation banks: its bank, when the offset is a length or a directory slot (R282). -/
def xltBank (off : Nat) : Option Nat :=
  if off = 0xA10 then some 0 else if off = 0xA14 then some 1
  else if offIn off 0xA40 0xA60 then some 0 else if offIn off 0xA60 0xA80 then some 1 else none

/-- Whether function `fn`'s write of `v` to a register of page `p` is ignored as a whole, by the rule of that register. -/
def State.writeIgnored (s : State) (fn p off v : Nat) : Bool :=
  let k := p % 256
  match blkOf p with
  | 0x30 =>
    if off = 0x150 then decide (R.LNK_VC_CREDIT_VC0_RSV.ofWrite off v < 48)
    else off == 0x154 && (decide (R.LNK_VC_WEIGHT_W1.ofWrite off v = 0) || decide (R.LNK_VC_WEIGHT_W2.ofWrite off v = 0)
      || decide (R.LNK_VC_WEIGHT_W3.ofWrite off v = 0))
  | 0x40 => (off == 0x164 || off == 0x808 || off == 0x870) && decide (s.stepState k ≠ 0)
  | 0x50 =>
    if offIn off 0x100 0x150 then decide (fn ≠ 0)
    else if offIn off 0xB00 0xB10 then
      s.flag R.HIF_DUMP_STATUS_BUSY p || (off == 0xB0C && decide (R.HIF_DUMP_CFG_LEN_LOG2.ofWrite off v > R.HIF_DUMP_CFG_STRIDE_LOG2.ofWrite off v))
    else
      match xltBank off with
      | some b => decide (b = s.rg R.HIF_XLT_CTRL_ACTIVE p)
      | none => false
  | 0x51 =>
    if off = 0x100 then decide (R.QUE_CQ_SEL_QUEUE.ofWrite off v ≥ (s.fnRes k).cmdqCount)
    else offIn off 0x108 0x120 && (match s.cqSel k with
      | some q => s.flag R.QUE_CQ_CTRL_EN q
      | none => true)
  | 0x52 =>
    if off = 0x100 then decide (R.EVT_EQ_SEL_QUEUE.ofWrite off v ≥ (s.fnRes k).evtqCount)
    else if off = 0x118 then decide (R.EVT_EQ_LIMIT_MERGE_WIN.ofWrite off v = 0) || decide (R.EVT_EQ_LIMIT_RATE.ofWrite off v = 0)
    else off == 0x108 && (match s.eqSel k with
      | some q => s.flag R.EVT_EQ_CTRL_EN q
      | none => true)
  | 0x53 =>
    if off = 0x100 then decide (k ≠ 0)
    else (off == 0x120 || off == 0x12C || off == 0x130) && s.flag R.DBG_TRACE_CFG_EN p
  | _ => false

/-- Whether a register of a page belongs to its shadow bank (R361). -/
def shadowReg (p off : Nat) : Bool :=
  match blkOf p with
  | 0x50 => (xltBank off).isSome
  | 0x31 => offIn off 0x128 0x138
  | 0x40 => offIn off 0x120 0x140
  | 0x14 => offIn off 0x198 0x1A0
  | _ => false

/-! ### Registers whose write is an action -/

/-- CTRL is written (R13). -/
def State.ctrlWrite (s : State) (p v : Nat) : State :=
  if R.HDR_CTRL_RESET_REQ.ofWrite 0x010 v = 1 then s.ctrlReset p (v % 8) else s.ctrlBits p v

/-- The control register of a banked table is written (R360, R361): DEFERRED clears where written 1, SHADOW_READY takes its bit, and FLIP_ARM is
set, which arms the table where it was not, or cleared unless the flip is due. -/
def State.flipCtrl (s : State) (p off v : Nat) : State :=
  match flipTab (blkOf p) with
  | none => s
  | some t =>
    let s := (s.putFld p t.deferred (t.deferred.ofWrite off v)).putFld p t.ready (t.ready.ofWrite off v)
    if t.arm.ofWrite off v = 0 then s.flipCancel p else if s.flag t.arm p then s else s.flipArm p

/-- The generator of a DMA engine is written (R205): while an SR descriptor runs, after it completes. -/
def State.rngWrite (s : State) (e v : Nat) (tap : Bool) : State :=
  let x := s.eng e
  if x.running.any DmaDesc.draws then
    let f (l : List DmaDesc) : List DmaDesc := l.map (fun d =>
      if (d.started && d.draws) = false then d else if tap then { d with tapW := some v } else { d with rngW := some v })
    s.setEng e { x with q0 := f x.q0, q1 := f x.q1, q2 := f x.q2, q3 := f x.q3 }
  else
    s.wr (if e < 1024 then (if tap then R.CORE_DMA_RNG_TAP_VALUE else R.CORE_DMA_RNG_STATE_VALUE)
      else (if tap then R.CLU_CDMA_RNG_TAP_VALUE else R.CLU_CDMA_RNG_STATE_VALUE)) (pEng e) v

/-- A 64-bit slice of a register wider than 64 bits. -/
def State.putSlice (s : State) (f : Fld) (p off v : Nat) : State :=
  let lo := 8 * off - f.pos
  s.wr f p (putBits (s.rg f p) (lo + 63) lo v)

/-- A CORE page (04_tile_isa.md, 03_cube_arrays.md, 05_core_memory.md). -/
def State.writeCore (s : State) (fn p off n v : Nat) : State :=
  let c := p - 0x200
  if off = 0x128 then
    match R.CORE_CTX_CMD_OP.ofWrite off v with
    | 1 => s.after (execCtxSave fn ⟨c, []⟩ s)
    | 2 => s.after (execCtxRestore fn ⟨c, []⟩ s)
    | _ => s
  else if off = 0x408 then
    if R.CORE_KAT_CTRL_PATTERN.ofWrite off v > 63 then s
    else if R.CORE_KAT_CTRL_REQ.ofWrite off v = 1 then
      s.after (execKatReq fn c (R.CORE_KAT_CTRL_PATTERN.ofWrite off v) (R.CORE_KAT_CTRL_MASK.ofWrite off v) s)
    else (s.putFld p R.CORE_KAT_CTRL_PATTERN (R.CORE_KAT_CTRL_PATTERN.ofWrite off v)).putFld p R.CORE_KAT_CTRL_MASK (R.CORE_KAT_CTRL_MASK.ofWrite off v)
  else if off = 0x618 then s.rngWrite c v false
  else if off = 0x620 then s.rngWrite c v true
  else s.putPlain p off n v

/-- A CLU page (05_core_memory.md). -/
def State.writeClu (s : State) (p off n v : Nat) : State :=
  if off = 0x110 then s.rngWrite (engCluster (p - 0x040)) v false
  else if off = 0x118 then s.rngWrite (engCluster (p - 0x040)) v true
  else s.putPlain p off n v

/-- The shadow entry at GRP_IDX takes GRP_DATA (R368, R369); an index at or above COUNT is ignored. -/
def State.grpWrite (s : State) (fn : Nat) : State :=
  match s.commqOf fn (s.rg R.COL_GRP_IDX_IDX (pCol fn)) with
  | none => s
  | some g => { s with coll := { s.coll with
      grp := PMap.put (1 - s.rg R.COL_GRP_CTRL_ACTIVE (pCol fn), g) (s.rg R.COL_GRP_DATA_ENTRY (pCol fn)) s.coll.grp } }

/-- A COL page (11_collectives.md, 06_training_numerics.md). -/
def State.writeCol (s : State) (req p off n v : Nat) : State :=
  let fn := p % 256
  if off = 0x100 then s.flipCtrl p off v
  else if off = 0x108 then s.flipWrite p v
  else if offIn off 0x120 0x140 then
    let s := s.putSlice R.COL_GRP_DATA_ENTRY p off v
    if off = 0x138 then s.grpWrite fn else s
  else if offIn off 0x180 0x1A0 then
    let s := s.putPlain p off n v
    let s := { s with coll := { s.coll with quadsPend := NMap.put fn true s.coll.quadsPend } }
    s.after (execCollQuadsApply fn s)
  else if off = 0x1AC then (if R.COL_CQ_CMD_RESET.ofWrite off v = 1 then s.after (execColCqReset req fn s) else s)
  else if off = 0x860 then
    let v := R.COL_POLICY_ACTIONS.ofWrite off v
    if (List.range 8).any (fun i => decide (bits v (2 * i + 1) (2 * i) = 3)) then s.raise p Er.COL_STEP_CFG else s.putFld p R.COL_POLICY_ACTIONS v
  else if off = 0x800 then
    let s := if s.stepState fn = 0 then
        (s.putFld p R.COL_STEP_CTRL_HEAD_AUTO (bits v 2 2)).putFld p R.COL_STEP_CTRL_DMA_RNG_SNAP (bits v 1 1)
      else s
    if bit v 0 then s.after (execStepArm req fn s)
    else if s.flag R.COL_STEP_CTRL_ARM p then s.after (execStepDisarm req fn s) else s
  else s.putPlain p off n v

/-- RES_CTRL, FUNC_CTRL and what follows EQ_DEFAULT (R407, R424, R434, R573). -/
def State.writeHifFn (s : State) (req p off n v : Nat) : State :=
  let fn := p % 256
  if off = 0x148 then
    let s := s.putPlain p off n v
    if R.HIF_RES_CTRL_GO.ofWrite off v = 1 then s.after (execResGo req fn s) else s
  else if off = 0x150 then
    let en := bit v 0
    let s := if en = s.flag R.HIF_FUNC_CTRL_EN p then s else s.after (execFuncCtrlEn req fn en s)
    if bit v 1 then s.stopFn fn else s
  else if off = 0x158 then (s.putPlain p off n v).bootReadyTry
  else s.putPlain p off n v

/-- A HIF page (12_host_interface.md, 07_stacked_memory.md, 14_recovery.md). -/
def State.writeHif (s : State) (req p off n v : Nat) : State :=
  let fn := p % 256
  if off < 0xA00 then s.writeHifFn req p off n v
  else if off = 0xA00 then s.flipCtrl p off v
  else if off = 0xA08 then s.flipWrite p v
  else if off = 0xA18 then
    s.after (execXltInval req fn (R.HIF_XLT_INVAL_VPN.ofWrite off v) (R.HIF_XLT_INVAL_COUNT.ofWrite off v) s)
  else if off = 0xA80 then
    if s.flag R.HIF_FRAME_RESULT_DONE p = false then s.cnt p Cn.HIF_FRAME_REQ_BUSY
    else
    let op := R.HIF_FRAME_REQ_OP.ofWrite off v
    if R.HIF_FRAME_REQ_GO.ofWrite off v = 1 ∧ op ≠ 0 then
      s.frameReq req fn op (R.HIF_FRAME_REQ_TIER.ofWrite off v) (R.HIF_FRAME_REQ_FLAGS.ofWrite off v)
    else s.putPlain p off n v
  else if off = 0xB10 then (if R.HIF_DUMP_CTRL_GO.ofWrite off v = 1 then s.after (execDumpGo req fn s) else s)
  else s.putPlain p off n v

/-- A QUE page (R435). -/
def State.writeQue (s : State) (req p off n v : Nat) : State :=
  let fn := p % 256
  if off = 0x120 then
    if bit v 2 then s.after (execQueCqReset req fn s)
    else
      let s := if bit v 1 then s.after (execCqResume req fn s) else s
      match s.cqSel fn with
      | some q => if bit v 0 = s.flag R.QUE_CQ_CTRL_EN q then s else s.after (execCqEnable req fn (bit v 0) s)
      | none => s
  else s.putPlain p off n v

/-- An EVT page (R436): LOG2SIZE of EQ_CFG stays while EN is 1. -/
def State.writeEvt (s : State) (req p off n v : Nat) : State :=
  let fn := p % 256
  if off = 0x110 then
    match s.eqSel fn with
    | none => s
    | some q =>
      let old := s.rg R.EVT_EQ_CFG_LOG2SIZE q
      let t := s.putPlain p off n v
      if s.flag R.EVT_EQ_CTRL_EN q then t.wr R.EVT_EQ_CFG_LOG2SIZE q old else t
  else if off = 0x120 then s.after (if bit v 0 then execEqEnable req fn s else execEqDisable req fn s)
  else s.putPlain p off n v

/-- A DBG page (R568). -/
def State.writeDbg (s : State) (p off n v : Nat) (hostErr : Bool) : State :=
  let fn := p % 256
  if off = 0x128 then
    let en := decide (R.DBG_TRACE_CFG_EN.ofWrite off v = 1)
    if s.flag R.DBG_TRACE_CFG_EN p then (if en then s else s.traceOff fn hostErr)
    else
      let s := s.putPlain p off n v
      if en then s.wr R.DBG_TRACE_PROD_COUNT p 0 else s
  else if off = 0x150 then s.trace fn 5 0x0C16 (v % 2 ^ 64) p true 0
  else if off = 0x188 then
    let k := s.rg R.DBG_TW_IDX_POINT p
    let d := s.dbgFn fn
    let s := if s.flag R.DBG_TW_CTRL_EN (twInst fn k) = false ∧ R.DBG_TW_CTRL_EN.ofWrite off v = 1 then
        s.setDbg fn { d with matched := Map.del k d.matched }
      else s
    s.putPlain p off n v
  else s.putPlain p off n v

/-- A LNK page (R319). -/
def State.writeLnk (s : State) (p off n v : Nat) : State :=
  let x := p - 0x020
  if off = 0x100 then
    let train := s.flag R.LNK_PORT_CTRL_TRAIN p
    let s := (s.putPlain p off n v).wrB R.LNK_PORT_CTRL_TRAIN p train
    if bit v 0 = true ∧ s.lnkState x ≠ 0 then s.trainBegin x false else s
  else if off = 0x140 then s.after (execPeerExpectWrite x v s)
  else if off = 0x158 then
    let s := s.putPlain p off n v
    if R.LNK_QUAR_CTRL_RELEASE.ofWrite off v = 1 then s.after (execQuarRelease x s) else s
  else if off = 0x160 then
    let s := s.putPlain p off n v
    if R.LNK_KEY_CTRL_REKEY.ofWrite off v = 1 then s.keyRoll x else s
  else if off = 0x1A8 then
    let s := s.putFld p R.LNK_MARGIN_CTRL_LANE (R.LNK_MARGIN_CTRL_LANE.ofWrite off v)
    if R.LNK_MARGIN_CTRL_GO.ofWrite off v = 1 then s.after (execLaneMarginGo x (R.LNK_MARGIN_CTRL_LANE.ofWrite off v) s) else s
  else s.putPlain p off n v

/-- The RTE page (R346): EXC_DATA and PATCH_DATA are written with their upper half, and TIME_CTRL chooses the time source (R341, R343). -/
def State.writeRte (s : State) (req p off n v : Nat) : State :=
  if off = 0x100 then s.after (execMaddrWrite req (R.RTE_MADDR_MADDR.ofWrite off v) s)
  else if off = 0x110 then s.flipCtrl p off v
  else if off = 0x118 then s.flipWrite p v
  else if offIn off 0x128 0x138 then
    let s := s.putSlice R.RTE_EXC_DATA_ENTRY p off v
    if off = 0x130 then
      { s with net := { s.net with
        exc := PMap.put (1 - s.rg R.RTE_EXC_CTRL_ACTIVE p, s.rg R.RTE_EXC_IDX_IDX p) (s.rg R.RTE_EXC_DATA_ENTRY p) s.net.exc } }
    else s
  else if off = 0x148 then s.putSlice R.RTE_PATCH_DATA_ENTRY p off v
  else if off = 0x150 then s.after (execPatchWrite req v s)
  else if off = 0x160 then (s.putPlain p off n v).timeCheck
  else s.putPlain p off n v

/-- An XPT page (R347). -/
def State.writeXpt (s : State) (req p off n v : Nat) : State :=
  let fn := p % 256
  if off = 0x100 then
    if R.XPT_FLOW_CMD_GO.ofWrite off v = 0 then s.putPlain p off n v
    else
      match R.XPT_FLOW_CMD_OP.ofWrite off v with
      | 1 => s.after (execFlowOpen req fn s)
      | 2 => s.after (execFlowClose req fn s)
      | 3 => s.after (execFlowReset req fn s)
      | 4 => s.after (execFlowRead req fn s)
      | _ => s
  else if offIn off 0x140 0x180 then s.putSlice R.XPT_FLOW_CTX_CTX p off v
  else s.putPlain p off n v

/-- A MEM page (R279) or an MCH page (R280). -/
def State.writeMem (s : State) (req p off n v : Nat) : State :=
  if blkOf p = 0x20 then
    if off = 0x130 then
      if R.MEM_MARGIN_CTRL_GO.ofWrite off v = 1 then
        s.after (execMemMarginGo req (p - 0x010) (R.MEM_MARGIN_CTRL_CH_MASK.ofWrite off v) (R.MEM_MARGIN_CTRL_PARAM.ofWrite off v) s)
      else if s.flag R.MEM_MARGIN_CTRL_GO p then s
      else (s.putPlain p off n v).wr R.MEM_MARGIN_CTRL_GO p 0
    else s.putPlain p off n v
  else
    let m := (p - 0x100) / 32
    let ch := (p - 0x100) % 32
    if off = 0x108 then
      let pat := R.MCH_TG_CTRL_PATTERN.ofWrite off v
      let mode := R.MCH_TG_CTRL_MODE.ofWrite off v
      if R.MCH_TG_CTRL_GO.ofWrite off v = 1 then s.after (execTgGo req m ch pat mode s)
      else if (s.chan m ch).tgOn then s.after (execTgStop req m ch s)
      else (s.putFld p R.MCH_TG_CTRL_PATTERN pat).putFld p R.MCH_TG_CTRL_MODE mode
    else s.putPlain p off n v

/-- The TOP page (R363). -/
def State.writeTop (s : State) (req off n v : Nat) : State :=
  if off = 0x208 then s.after (execEpochWrite req v s)
  else if off = 0x220 then (if R.TOP_DM_APPROVE_GO.ofWrite off v = 1 then s.after (execDmApprove req s) else s)
  else s.putPlain pTop off n v

/-- The KPR page (R363, R497, R580). -/
def State.writeKpr (s : State) (off n v : Nat) : State :=
  let s := s.putPlain pKpr off n v
  if off = 0x420 ∧ R.KPR_TEST_CTRL_RESUME.ofWrite off v = 1 then s.testsResume (fun _ => true) else s

/-- The PWR page (R470). -/
def State.writePwr (s : State) (off n v : Nat) : State :=
  if off = 0x100 then s.envWrite v
  else if off = 0x150 then s.domRequest v
  else if rangesOk pPwr off n v = false then s
  else
    let s := s.putPlain pPwr off n v
    if off = 0x1D0 ∧ R.PWR_THERM_CTRL_RESTART.ofWrite off v = 1 then s.thermRestart else s

/-- The CLK page (R471). -/
def State.writeClk (s : State) (off n v : Nat) : State :=
  if off = 0x128 then s.freqReqWrite (R.CLK_FREQ_REQ_OPP.ofWrite off v)
  else if off = 0x130 then s.freqWrite v
  else if off = 0x148 then s.hstWrite (R.CLK_HST_FREQ_MHZ.ofWrite off v)
  else s.putPlain pClk off n v

/-- The shadow entry of the retirement map at RMAP_IDX is written (R527): all that takes effect is CLEARED, set in an entry of kind 1, 2,
3, 7, 8 or 9 that is otherwise written as it is. -/
def State.rmapWrite (s : State) (v : Nat) : State :=
  let bank := 1 - s.rg R.LOG_RMAP_CTRL_ACTIVE pLog
  let i := s.rg R.LOG_RMAP_IDX_IDX pLog
  let e := s.rmapAt bank i
  if [1, 2, 3, 7, 8, 9].contains e.1 = true ∧ v = rmapWord (e.1, e.2.1, true) then s.rmapPut bank i (e.1, e.2.1, true) else s

/-- The LOG page (R530): `env` holds what INSTALL finds in its buffer. -/
def State.writeLog (s : State) (off n v : Nat) (env : WrEnv) : State :=
  if off = 0x160 then (if R.LOG_READ_CTRL_GO.ofWrite off v = 1 then s.after (execLogRead s) else s)
  else if off = 0x180 then s.flipCtrl pLog off v
  else if off = 0x188 then s.flipWrite pLog v
  else if off = 0x198 then s.rmapWrite v
  else if off = 0x1C0 then
    let s := s.putPlain pLog off n v
    if R.LOG_KEY_CMD_GO.ofWrite off v = 0 then s
    else
      match R.LOG_KEY_CMD_OP.ofWrite off v with
      | 1 => s.after (execGenerate s)
      | 2 => s.after (execInstall env.leaf env.chain env.anchors env.trust env.hostErr s)
      | 3 => s.after (execKeyAbort s)
      | _ => s
  else s.putPlain pLog off n v

/-- The FWU page (R550). -/
def State.writeFwu (s : State) (req off n v : Nat) (env : WrEnv) : State :=
  if off = 0x114 ∧ R.FWU_FWU_CMD_GO.ofWrite off v = 1 then
    match R.FWU_FWU_CMD_OP.ofWrite off v with
    | 1 => s.after (execStage req env.hostErr env.sigOk s)
    | 2 => s.after (execActivate req (decide (R.FWU_FWU_CMD_RESTART.ofWrite off v = 1)) s)
    | 3 => s.after (execConfirm req s)
    | 4 => s.after (execCommitSvn req s)
    | 5 => s.after (execFwuAbort req s)
    | 6 => s.after (execExitFog req env.strapLow s)
    | _ => s
  else s.putPlain pFwu off n v

/-- A write to the common header (R12–R20). -/
def State.writeHdr (s : State) (p off n v : Nat) (env : WrEnv) : State :=
  if off = 0x010 then s.ctrlWrite p v
  else if off = 0x020 then s.errClear p v env.coincident
  else if off = 0x02C then s.errInject p v
  else if offIn off 0x040 0x050 then
    let s := s.putPlain p off n v
    let k := (off - 0x040) / 4
    if bit v 31 then s.wrB (cntCount k) p (bit env.coincident k) else s
  else s.putPlain p off n v

/-- A function's write of `v` to the register at an offset of a page, its halves together. -/
def State.writeReg (s : State) (fn p off n v : Nat) (env : WrEnv) : State :=
  if off < 0x100 then s.writeHdr p off n v env
  else if s.writeIgnored fn p off v then s
  else if shadowReg p off = true ∧ s.frozen p = true then s.cnt pTop Cn.TOP_SHADOW_FROZEN
  else
    match blkOf p with
    | 0x60 => s.writeCore fn p off n v
    | 0x58 => s.writeClu p off n v
    | 0x40 => s.writeCol fn p off n v
    | 0x50 => s.writeHif fn p off n v
    | 0x51 => s.writeQue fn p off n v
    | 0x52 => s.writeEvt fn p off n v
    | 0x53 => s.writeDbg p off n v env.hostErr
    | 0x30 => s.writeLnk p off n v
    | 0x31 => s.writeRte fn p off n v
    | 0x32 => s.writeXpt fn p off n v
    | 0x20 => s.writeMem fn p off n v
    | 0x21 => s.writeMem fn p off n v
    | 0x10 => s.writeTop fn off n v
    | 0x11 => s.writeKpr off n v
    | 0x12 => s.writePwr off n v
    | 0x13 => s.writeClk off n v
    | 0x14 => s.writeLog off n v env
    | 0x15 => s.writeFwu fn off n v env
    | _ => s.putPlain p off n v

/-! ### Widths (R22, R602) -/

/-- The offset of the 64-bit register, or 64-bit slice of a wider one, that holds an offset. -/
def wideBase (blk off : Nat) : Option Nat :=
  let b := off - off % 8
  let more : List Nat := match blk with
    | 0x31 => [0x130, 0x150]
    | 0x40 => [0x128, 0x130, 0x138]
    | 0x32 => (List.range 8).map (fun k => 0x140 + 8 * k)
    | _ => []
  if (wideRegs blk ++ more).contains b then some b else none

/-- A 32-bit write: the low half of a 64-bit register is held for the write of its high half. -/
def State.write32 (s : State) (fn p off v : Nat) (env : WrEnv) : State :=
  match wideBase (blkOf p) off with
  | none => s.writeReg fn p off 4 v env
  | some b =>
    if off = b then { s with latch := PMap.put (p, 2 * b) v s.latch }
    else
      let low := PMap.get (s.pageVal p b 4) s.latch (p, 2 * b)
      let s := { s with latch := Map.del (p, 2 * b) s.latch }
      s.writeReg fn p b 8 (low + v * 2 ^ 32) env

/-- A write of 32 or 64 bits to a page: two adjacent 32-bit registers take it lower offset first. -/
def State.writePage (s : State) (fn p off width v : Nat) (env : WrEnv) : State :=
  if width = 64 then (s.write32 fn p off (v % 2 ^ 32) env).write32 fn p (off + 4) (v / 2 ^ 32 % 2 ^ 32) env
  else s.write32 fn p off (v % 2 ^ 32) env

/-- Whether an access is naturally aligned and of a width that registers take. -/
def accessOk (off width : Nat) : Bool :=
  ((width == 32 && decide (off % 4 = 0)) || (width == 64 && decide (off % 8 = 0))) && decide (off + width / 8 ≤ 4096)

/-! ### The MSI-X table (R431, R599) -/

/-- A function writes a dword of its MSI-X table; a vector that is unmasked with its pending bit set is sent. -/
def State.msixWrite (s : State) (fn i v : Nat) : State :=
  let w := if i % 4 = 3 then v % 2 else v % 2 ^ 32
  let s := { s with host := { s.host with msix := PMap.put (fn, i) w s.host.msix } }
  let k := i / 4
  if i % 4 = 3 ∧ w = 0 ∧ PMap.get false s.host.pba (fn, k) = true then
    let dw (j : Nat) : Nat := PMap.get 0 s.host.msix (fn, 4 * k + j)
    let s := { s with host := { s.host with pba := Map.del (fn, k) s.host.pba } }
    (s.emit (.msix fn k (dw 0 + dw 1 * 2 ^ 32) (dw 2))).cnt (pHif fn) Cn.HIF_MSIX_SENT
  else s

/-- Whether a function's BAR0 answers beyond the register pages (R404, R544, R599). -/
def State.tableOn (s : State) (fn : Nat) : Bool := s.hostUp fn && !s.fog

/-- REGISTER_WRITE (R11, R599–R603): function `fn` writes `width` bits at an offset of a page of its BAR0. A register with a row of its
own acts as that row says. -/
def execRegisterWrite (fn page off width val : Nat) (env : WrEnv) (s : State) : Host.Outcome State Fault Refusal :=
  .next (if accessOk off width = false then s
    else if 0xC00 ≤ page ∧ page ≤ 0xC03 then
      if s.tableOn fn = false then s
      else
        let i := 1024 * (page - 0xC00) + off / 4
        let s := s.msixWrite fn i (val % 2 ^ 32)
        if width = 64 then s.msixWrite fn (i + 1) (val / 2 ^ 32 % 2 ^ 32) else s
    else if s.mayWrite fn page then s.writePage fn page off width val env
    else s)

/-! ### Cluster host cores (R37, R204, R606) -/

/-- How a CHC reaches memory: the map of its cluster, as its owner's (R37, R174, R408). -/
def State.viaChc (s : State) (n : Nat) : Via := ⟨16 * n, s.chcFn n, false⟩

/-- Cause of a RISC-V access fault: 1 fetch, 5 load, 7 store; 0 for an access that completes. -/
def State.chcEnd (s : State) (cause : Nat) (data : List Nat) : State := { s with rdata := data }.emit (.status 0x59 cause)

/-- Whether a local address is cacheable for a CHC: in a translated page mapped CACHEABLE. -/
def State.chcCacheable (s : State) (n a : Nat) : Bool :=
  decide (2 ^ 40 ≤ a) && decide (a < 2 ^ 48) && bit (s.xltEntry n (s.chcFn n) (a / 2 ^ 21 - 0x80000)) 2

/-- Key of a line of a CHC's L2. -/
def l2Key (n a : Nat) : Nat := n * 2 ^ 42 + a / 64

/-- A line of the L2 leaves it, written back when `wb` and dirty. -/
def State.l2Leave (s : State) (n a : Nat) (wb : Bool) : Nat × State :=
  match s.l2.find? (fun e => decide (e.1 = l2Key n a)) with
  | none => (St.OK, s)
  | some (_, dirty) =>
    let b := a - a % 64
    let bs := s.rbs (aL2 n b) 64
    let (st, s) := if wb = true ∧ dirty = true then s.writeSpan (s.viaChc n) 2 b (bs.map (fun x => (some x, false))) else (St.OK, s)
    if st = waitCode then (st, s)
    else (st, { s with l2 := Map.del (l2Key n a) s.l2 }.wbs (aL2 n b) (List.replicate 64 0))

/-- Room for one more line in an L2 of 16,384: which line leaves is no rule of the spec, and a free choice. -/
def State.l2Room (s : State) (n : Nat) : State :=
  let l := s.l2.filter (fun e => decide (e.1 / 2 ^ 42 = n))
  if l.length < 16384 then s
  else
    let (k, s) := s.freeVal
    match l[k % l.length]? with
    | some e => (s.l2Leave n (e.1 % 2 ^ 42 * 64) true).2
    | none => s

/-- The line of a cacheable address is brought into the L2: the code that refuses it, if one does. A line that memory holds poisoned has free
contents. -/
def State.l2Fill (s : State) (n a : Nat) : Except Nat State :=
  if s.l2.any (fun e => decide (e.1 = l2Key n a)) then .ok s
  else do
    let b := a - a % 64
    let s := s.l2Room n
    let (s, bs) ← s.ldN (s.viaChc n) b 64
    let (k, s) := if bs.any (fun x => x.2) then s.freeVal else (0, s)
    let data := if bs.any (fun x => x.2) then leBytes 64 k else bs.map (fun x => x.1)
    .ok ({ s with l2 := NMap.put (l2Key n a) false s.l2 }.wbs (aL2 n b) data)

/-- An access of the L2 meets an error of its check bits (R606): 1 corrected; 2 uncorrectable, which invalidates the line. True where the access
faults. -/
def State.l2Error (s : State) (n a err : Nat) : Bool × State :=
  if err = 1 then (false, s.raise (pChc n) 0)
  else if err = 2 then (true, (s.l2Leave n a false).2.raise (pChc n) 1)
  else (false, s)

/-- A load or fetch of `len` bytes within a line. -/
def State.chcLoad (s : State) (n a len err : Nat) (fetch : Bool) : State :=
  let cause := if fetch then 1 else 5
  if a < 0x80000 then s.chcEnd cause []
  else if s.chcCacheable n a then
    match s.mapAddr (s.viaChc n) a false fetch with
    | .error _ => s.chcEnd cause []
    | .ok _ =>
      match s.l2Fill n a with
      | .error e => if e = waitCode then s else s.chcEnd cause []
      | .ok s =>
        let (bad, s) := s.l2Error n a err
        if bad then s.chcEnd cause [] else s.chcEnd 0 (s.rbs (aL2 n a) len)
  else
    match s.mapAddr (s.viaChc n) a false fetch with
    | .error _ => s.chcEnd cause []
    | .ok _ =>
      match s.ldN (s.viaChc n) a len with
      | .error e => if e = waitCode then s else s.chcEnd cause []
      | .ok (s, bs) =>
        let (k, s) := if bs.any (fun b => b.2) then s.freeVal else (0, s)
        s.chcEnd 0 (if bs.any (fun b => b.2) then leBytes len k else bs.map (fun b => b.1))

/-- A store of bytes within a line. -/
def State.chcStore (s : State) (n a err : Nat) (bytes : List Nat) : State :=
  if a < 0x80000 then s.chcEnd 7 []
  else if s.chcCacheable n a then
    match s.mapAddr (s.viaChc n) a true false with
    | .error _ => s.chcEnd 7 []
    | .ok _ =>
      match s.l2Fill n a with
      | .error e => if e = waitCode then s else s.chcEnd 7 []
      | .ok s =>
        let (bad, s) := s.l2Error n a err
        if bad then s.chcEnd 7 []
        else ({ s with l2 := NMap.put (l2Key n a) true s.l2 }.wbs (aL2 n a) bytes).chcEnd 0 []
  else
    match s.stN (s.viaChc n) a (bytes.map some) with
    | .ok s => s.chcEnd 0 []
    | .error e => if e = waitCode then s else s.chcEnd 7 []

/-- CHC_ACCESS (R37, R204, R606): the hart of cluster host core `n` accesses memory within a line, acts on a cache line, or reads or writes a
register page of its cluster's cores; `err` is the error of the L2 that it meets. In a halt CLK_HST is gated (R467). -/
def execChcAccess (n : Nat) (op : ChcOp) (err : Nat) (s : State) : Host.Outcome State Fault Refusal :=
  let env : WrEnv := ⟨false, false, false, 0, 0, 0, [], []⟩
  .next (if n ≥ 64 ∨ s.pageOn (pChc n) = false ∨ s.enabled (pChc n) = false ∨ s.fencedP (pChc n) = true ∨ s.halted = true then s
    else
      match op with
      | .load a len => if a % 64 + len ≤ 64 then s.chcLoad n a len err false else s
      | .fetch a len => if a % 64 + len ≤ 64 then s.chcLoad n a len err true else s
      | .store a bytes => if a % 64 + bytes.length ≤ 64 then s.chcStore n a err bytes else s
      | .clean a =>
        match s.l2.find? (fun e => decide (e.1 = l2Key n a)) with
        | some (_, true) =>
          let b := a - a % 64
          let (st, t) := s.writeSpan (s.viaChc n) 2 b ((s.rbs (aL2 n b) 64).map (fun x => (some x, false)))
          if st = waitCode then s
          else { t with l2 := NMap.put (l2Key n a) false t.l2 }.chcEnd (if st = St.OK then 0 else 7) []
        | _ => s.chcEnd 0 []
      | .flush a =>
        let (st, t) := s.l2Leave n a true
        if st = waitCode then s else t.chcEnd (if st = St.OK then 0 else 7) []
      | .inval a => (s.l2Leave n a false).2.chcEnd 0 []
      | .regRead c off width =>
        let p := pCore (16 * n + c)
        if c ≥ 16 ∨ accessOk off width = false ∨ s.pageOn p = false then s.chcEnd 0 [0]
        else if width = 32 then (s.read32 p off).2.chcEnd 0 [(s.read32 p off).1]
        else s.chcEnd 0 [s.pageVal p off 8]
      | .regWrite c off width v =>
        let p := pCore (16 * n + c)
        if c ≥ 16 ∨ accessOk off width = false ∨ s.pageOn p = false ∨ s.coreFn (16 * n + c) ≠ s.chcFn n then s.chcEnd 0 []
        else (s.writePage (s.chcFn n) p off width v env).chcEnd 0 [])

/-! ### Counters (R22) -/

/-- CNT_READ_LOW (R22): a 32-bit read of the low half latches the high half. -/
def execCntReadLow (fn page n : Nat) (s : State) : Host.Outcome State Fault Refusal :=
  .next <|
  if s.responds fn page = true ∧ n < 4 then
    let (v, s) := s.read32 page (0x060 + 8 * n)
    { s with rdata := [v] }
  else { s with rdata := [0] }

end Sys2Proof.Machine
end

