-- ==== Sys2Proof/Machine/Ksb.lean ====
section
/-!
DEFINITION. The side-band port (R546–R551): how a frame is judged, the commands of the tray controller, and the status response.
-/

namespace Sys2Proof.Machine

/-! ### Frames (R546, R549) -/

/-- CRC-8 of R546: polynomial 0x07, initial value 0, no reflection. -/
def crc8 (bs : List Nat) : Nat :=
  bs.foldl (fun c b => (List.range 8).foldl (fun c _ => if c ≥ 128 then (c * 2 % 256) ^^^ 7 else c * 2) (c ^^^ b % 256)) 0

/-- Data words of each command (R547); none for an unknown opcode, and for STATUS, whose frame is a different one. -/
def ksbWords (op : Nat) : Option Nat :=
  match op with
  | 0x10 => some 0 | 0x11 => some 1 | 0x20 => some 1 | 0x21 => some 0 | 0x22 => some 8 | 0x23 => some 0
  | 0x24 => some 0 | 0x25 => some 0 | 0x30 => some 4 | 0x31 => some 1 | 0x40 => some 3 | 0x41 => some 0
  | 0x42 => some 0 | 0x50 => some 1 | 0x51 => some 64 | 0x52 => some 0
  | _ => none

/-- Edges of a status frame. -/
def statusEdges : Nat := 656

/-- Whether `e` edges end at a field boundary of a command frame, or of a status frame. -/
def atBoundary (status : Bool) (e : Nat) : Bool :=
  decide (e = 8) || decide (e = 32)
  || (if status then decide (e ≥ 40) && decide (e % 32 = 8) else decide (e ≥ 32) && (decide (e % 32 = 0) || decide (e % 32 = 8)))

/-- KSB_LAST and KSB_ERRCNT follow words 0 and 1 (R551). -/
def State.ksbRegs (s : State) : State :=
  let k := s.ksb
  (s.wr R.KSB_KSB_LAST_WORD0 pKsb (k.op * 2 ^ 24 + k.accepted % 256 * 2 ^ 16 + k.result)).wr R.KSB_KSB_ERRCNT_WORD1 pKsb
    (k.crcBad * 2 ^ 24 + k.torn * 2 ^ 16 + k.short * 2 ^ 8 + k.long)

/-- A frame cut at `e` edges is counted as TORN, or as SHORT at a field boundary. -/
def State.ksbCut (s : State) (status : Bool) (e : Nat) : State :=
  let k := s.ksb
  let s := if atBoundary status e then
      { s with ksb := { k with short := min 255 (k.short + 1) } }.cnt pKsb Cn.KSB_SHORT
    else { s with ksb := { k with torn := min 255 (k.torn + 1) } }.cnt pKsb Cn.KSB_TORN
  s.raise pKsb Er.KSB_KSB_MALFORMED

/-- A frame whose CRC does not match. -/
def State.ksbCrcBad (s : State) : State :=
  ({ s with ksb := { s.ksb with crcBad := min 255 (s.ksb.crcBad + 1) } }.cnt pKsb Cn.KSB_CRC_BAD).raise pKsb Er.KSB_KSB_MALFORMED

/-- The last command frame judged: its opcode (0xFF when it ended before 8 edges), its result, and whether it had extra edges. -/
def State.ksbJudged (s : State) (op e result : Nat) (extra : Bool) : State :=
  { s with ksb := { s.ksb with op := if e < 8 then 0xFF else op % 256, result := result, extra := extra } }.ksbRegs

/-- KSB_MALFORMED_FRAME (R549): at the rise of CS_N a frame of opcode `op` has had `e` edges, with its CRC good or bad. A complete frame is no
malformed one: its command has a row of its own. -/
def execKsbMalformedFrame (op e : Nat) (crcOk : Bool) (s : State) : Host.Outcome State Fault Refusal :=
  .next (if s.boot.aon = false ∨ e = 0 then s
    else if op = 0 ∧ e ≥ 8 then
      (if e < statusEdges then s.ksbCut true e else if crcOk then s else s.ksbCrcBad).ksbRegs
    else if e < 8 then (s.ksbCut false e).ksbJudged op e St.KSB_TORN false
    else
      match ksbWords op with
      | none => s.ksbJudged op e St.KSB_OPCODE false
      | some n =>
        let full := 40 + 32 * n
        if e < full then
          (s.ksbCut false e).ksbJudged op e (if atBoundary false e then St.KSB_SHORT else St.KSB_TORN) false
        else if crcOk then s
        else s.ksbCrcBad.ksbJudged op e St.KSB_CRC (decide (e > full)))

/-- KSB_STALL (R549): CS_N has been low for 1 ms without an edge, after `e` edges of a frame of opcode `op`. -/
def execKsbStall (op e : Nat) (s : State) : Host.Outcome State Fault Refusal :=
  .next (if s.boot.aon = false ∨ e = 0 then s
    else if op = 0 ∧ e ≥ 8 then (s.ksbCut true e).ksbRegs
    else (s.ksbCut false e).ksbJudged op e St.KSB_STALL false)

/-! ### Judging a complete command frame (R547) -/

/-- Where a command is accepted (R547): in Fog mode and while PWRCYC_REQ_N is held or not, or in Fog mode alone; and whether the
Keeper must be up for it. -/
inductive KsbWhere where
  | always | normal | fogOnly | decoder
  deriving DecidableEq, Repr

/-- Why the Keeper's state refuses a command, if it does: in Fog mode, in the ROM and while PWRCYC_REQ_N is held all but the commands marked so;
while it restarts those that need it. -/
def State.ksbAdmits (s : State) (w : KsbWhere) : Bool :=
  let k := s.rg R.KPR_KSTATE_STATE pKpr
  match w with
  | .always => true
  | .normal => decide (k = 1) && !(s.recov.pwrcyc)
  | .fogOnly => decide (k = 2)
  | .decoder => (decide (k = 1) || decide (k = 3)) && !(s.recov.pwrcyc)

/-- A complete command frame (R547, R549): refused while the Keeper executes the one before (`busy`; STOP is not), or by its state; else
executed by `body`, which answers its status. `extra` tells that the frame had more edges than its length. -/
def State.ksbFrame (s : State) (op : Nat) (w : KsbWhere) (busy extra : Bool) (body : State → Nat × State) : State :=
  if s.boot.aon = false then s
  else
    let s := if extra then
        ({ s with ksb := { s.ksb with long := min 255 (s.ksb.long + 1) } }.cnt pKsb Cn.KSB_LONG).raise pKsb Er.KSB_KSB_MALFORMED
      else s
    let done (s : State) (st : Nat) : State := s.ksbJudged op 40 st extra
    if busy = true ∧ op ≠ 0x22 then done (s.cnt pKsb Cn.KSB_BUSY_REFUSED) St.KSB_BUSY
    else if s.ksbAdmits w = false then done s St.KSB_REFUSED
    else
      let s := { s with ksb := { s.ksb with accepted := (s.ksb.accepted + 1) % 256 } }.cnt pKsb Cn.KSB_FRAMES_OK
      let (st, s) := body s
      done s st

/-- The guard address of ENTER_FOG, RESET_CHIP and STOP. -/
def ksbGuard : Nat := 0xA55A0F

/-- A guarded command is executed: error source KSB_CONTROL. -/
def State.ksbGuarded (s : State) (addr : Nat) (f : State → State) : Nat × State :=
  if addr ≠ ksbGuard then (St.KSB_GUARD, s) else (St.OK, f (s.raise pKsb Er.KSB_KSB_CONTROL))

/-- The data of the next status read; none where there is none. -/
def State.ksbData (s : State) (d : Option (List Nat)) (last : Bool) : State :=
  { s with ksb := { s.ksb with dataValid := d.isSome, data := d.getD [], last := last } }

/-- The 16 words of 64 bytes. -/
def wordsOf (bs : List Nat) : List Nat := (List.range 16).map (fun i => ofBytes ((bs.drop (4 * i)).take 4))

/-! ### Registers -/

/-- REG_READ (R547): 16 words from an offset of a page; words past the page's end read 0. -/
def execRegRead (page off : Nat) (busy extra : Bool) (s : State) : Host.Outcome State Fault Refusal :=
  .next (s.ksbFrame 0x10 .always busy extra (fun s =>
    let p := page % 4096
    let o := off % 4096
    if o % 4 ≠ 0 ∨ (s.fog = true ∧ p ≠ pKpr ∧ p ≠ pLog ∧ p ≠ pKsb) then (St.KSB_DENIED, s.ksbData none false)
    else if s.pageOn p = false then (St.KSB_DOMAIN_OFF, s.ksbData none false)
    else
      let (ws, s) := s.readWords p o 16
      (St.OK, s.ksbData (some ws) false)))

/-- REG_WRITE (R547): one word of the PWR, KPR or KSB page. -/
def execRegWrite (page off val : Nat) (busy extra : Bool) (s : State) : Host.Outcome State Fault Refusal :=
  .next (s.ksbFrame 0x11 .normal busy extra (fun s =>
    if off % 4 ≠ 0 ∨ off ≥ 4096 ∨ (page ≠ pPwr ∧ page ≠ pKpr ∧ page ≠ pKsb) then (St.KSB_DENIED, s)
    else (St.OK, s.writePage 0 page off 32 val ⟨false, false, false, 0, 0, 0, [], []⟩)))

/-! ### Power, stop, reset, Fog mode -/

/-- SET_ENVELOPE (R453, R547): the tray source takes slope and setpoint; a slope outside 1–1,000 W/ms changes nothing. -/
def execSetEnvelope (val : Nat) (busy extra : Bool) (s : State) : Host.Outcome State Fault Refusal :=
  .next (s.ksbFrame 0x20 .normal busy extra (fun s =>
    let slope := bits val 31 16
    let set := bits val 15 0
    if slope < 1 ∨ slope > 1000 then (St.KSB_DENIED, s)
    else (St.OK, ((s.wr R.PWR_TRAY_SET_SLOPE pPwr slope).wr R.PWR_TRAY_SET_SETPOINT pPwr set).envChange true set slope)))

/-- RESTART (R469, R547). -/
def execRestart (busy extra : Bool) (s : State) : Host.Outcome State Fault Refusal :=
  .next (s.ksbFrame 0x21 .normal busy extra (fun s =>
    let s := s.thermRestart
    (s.rg R.PWR_THERM_STATUS_RESTART_STATUS pPwr, s)))

/-- STOP (R491, R547): FUNC_CTRL.STOP on the functions named in eight words. -/
def execStop (addr : Nat) (words : List Nat) (busy extra : Bool) (s : State) : Host.Outcome State Fault Refusal :=
  .next (s.ksbFrame 0x22 .decoder busy extra (fun s =>
    s.ksbGuarded addr (fun s =>
      if s.domOn 23 = false then s
      else ((List.range 256).filter (fun fn => bit (words.getD (fn / 32) 0) (fn % 32))).foldl State.stopFn s)))

/-- RESET_CHIP (R479, R547). -/
def execResetChip (addr : Nat) (busy extra : Bool) (s : State) : Host.Outcome State Fault Refusal :=
  .next (s.ksbFrame 0x23 .normal busy extra (fun s => s.ksbGuarded addr (fun s => s.resetReq 4 0 false)))

/-- ENTER_FOG (R544, R547): RST_CHIP with its dump, after which the Keeper restarts into Fog mode. -/
def execEnterFog (addr : Nat) (busy extra : Bool) (s : State) : Host.Outcome State Fault Refusal :=
  .next (s.ksbFrame 0x24 .normal busy extra (fun s => s.ksbGuarded addr (fun s =>
    { s with fw := { s.fw with fogRequested := true } }.resetReq 4 0 false)))

/-- FOG_EXIT (R545, R547); `strapLow` is the level of STRAP_FOG_N. -/
def execFogExit (strapLow : Bool) (busy extra : Bool) (s : State) : Host.Outcome State Fault Refusal :=
  .next (s.ksbFrame 0x25 .always busy extra (fun s =>
    let st := s.fogExit strapLow
    (st, if st = St.OK then s.leaveFog else s)))

/-! ### Lasers and addresses -/

/-- LASER_REPORT (R290, R547): the source identifier and bias of an input; NEW starts a new baseline hour. -/
def execLaserReport (w0 w1 w2 w3 : Nat) (busy extra : Bool) (s : State) : Host.Outcome State Fault Refusal :=
  .next (s.ksbFrame 0x30 .normal busy extra (fun s =>
    let i := w0 % 4
    let x := { s.laser i with bias := w3 % 2 ^ 32, source := w1 % 2 ^ 32 + w2 % 2 ^ 32 * 2 ^ 32 }
    (St.OK, s.setLaser i (if bit w0 8 then { x with newFrom := some s.tbc, firstN := 0, firstSum := 0 } else x))))

/-- STANDBY_ADDR (R324, R345, R547): MADDR with STANDBY = 1. -/
def execStandbyAddr (val : Nat) (busy extra : Bool) (s : State) : Host.Outcome State Fault Refusal :=
  .next (s.ksbFrame 0x31 .normal busy extra (fun s =>
    let ringOff := (List.range 12).all (fun p => decide (s.lnkState p = 0))
    if s.pageOn pRte = false then (St.KSB_DOMAIN_OFF, s)
    else if s.flag R.RTE_MADDR_STANDBY pRte = false ∧ ringOff = false then (St.KSB_DENIED, s)
    else
      let s := (s.wr R.RTE_MADDR_MADDR pRte (val % 2 ^ 30)).wr R.RTE_MADDR_STANDBY pRte 1
      (St.OK, (List.range 16).foldl (fun s p => if (s.port p).training then s.trainBegin p false else s) s)))

/-! ### Log and telemetry -/

/-- LOG_SEEK (R528, R529, R547): start SEQ and range of TYPE. -/
def execLogSeek (w0 w1 w2 : Nat) (busy extra : Bool) (s : State) : Host.Outcome State Fault Refusal :=
  .next (s.ksbFrame 0x40 .always busy extra (fun s =>
    if s.rg R.LOG_LOG_STATUS_STATE pLog = 0 then (St.LOG_NOT_READY, s)
    else
      (St.OK, { s with ksb := { s.ksb with
        seekSeq := w0 % 2 ^ 32 + w1 % 2 ^ 32 * 2 ^ 32, seekLo := bits w2 15 0, seekHi := bits w2 31 16, seekRec := [] } })))

/-- LOG_NEXT (R529, R547): the next 64 bytes of the selected records, LAST with the final ones of a record; past the newest record there
are none. -/
def execLogNext (busy extra : Bool) (s : State) : Host.Outcome State Fault Refusal :=
  .next (s.ksbFrame 0x41 .always busy extra (fun s =>
    let k := s.ksb
    if s.rg R.LOG_LOG_STATUS_STATE pLog = 0 then (St.LOG_NOT_READY, s.ksbData none false)
    else
      let (bytes, seq) : List Nat × Nat :=
        if k.seekRec ≠ [] then (k.seekRec, k.seekSeq)
        else
          match s.log.select k.seekSeq k.seekLo k.seekHi with
          | [] => ([], k.seekSeq)
          | (r, d) :: _ => (r.image d, r.seq + 1)
      if bytes = [] then (St.OK, s.ksbData none false)
      else
        let s := s.ksbData (some (wordsOf (bytes.take 64))) (decide (bytes.length ≤ 64))
        (St.OK, { s with ksb := { s.ksb with seekRec := bytes.drop 64, seekSeq := seq } })))

/-- TELEM (R450, R547): half `half` of the latest telemetry record, LAST with the second. -/
def execTelem (half : Nat) (busy extra : Bool) (s : State) : Host.Outcome State Fault Refusal :=
  .next (s.ksbFrame 0x42 .normal busy extra (fun s =>
    if half > 1 then (St.KSB_DENIED, s.ksbData none false)
    else if s.pwr.telem = [] then (St.OK, s.ksbData none false)
    else (St.OK, s.ksbData (some (wordsOf ((s.pwr.telem.drop (64 * half)).take 64))) (decide (half = 1)))))

/-! ### Side-band loads (R545) -/

/-- A side-band load is over. -/
def State.ksbLoadEnd (s : State) : State := { s with fw := { s.fw with load := none } }

/-- A side-band load is refused under R536. -/
def State.ksbFwRefused (s : State) (st : Nat) : Nat × State := (st, s.ksbLoadEnd.raise pFwu Er.FWU_FW_REFUSED)

/-- FW_BEGIN (R545, R547): a load starts, into the slot that is not ACTIVE, or the one named when neither is; refused while the mailbox stages an
image, or while the other slot is TRIAL. -/
def execFwBegin (slot : Nat) (busy extra : Bool) (s : State) : Host.Outcome State Fault Refusal :=
  .next (s.ksbFrame 0x50 .fogOnly busy extra (fun s =>
    match s.fwTarget slot with
    | none => (St.FW_SLOT_BUSY, s)
    | some k =>
      if (match s.fw.load with
          | some l => !l.ksb
          | none => false) = true ∨ s.slotState (1 - k) = 3 then (St.FW_SLOT_BUSY, s)
      else (St.OK, { s with fw := { s.fw with load := some ⟨k, true, [], 0, false⟩ } })))

/-- FW_DATA (R536, R545, R547): chunk `chunk` of 256 image bytes. The header is checked with chunk 0; with chunk 32 the signatures (`sigOk`), and
the slot is then marked WRITING and erased; `flashErr` where programming fails. -/
def execFwData (chunk : Nat) (bytes : List Nat) (sigOk flashErr busy extra : Bool) (s : State) : Host.Outcome State Fault Refusal :=
  .next (s.ksbFrame 0x51 .fogOnly busy extra (fun s =>
    match s.fw.load with
    | none => (St.FW_SEQUENCE, s)
    | some l =>
      let n := l.bytes.length
      if l.ksb = false then (St.FW_SEQUENCE, s)
      else if chunk ≠ l.next ∨ (n ≥ fwHead ∧ n ≥ fwHead + fwLength l.bytes) then (St.FW_SEQUENCE, s.ksbLoadEnd)
      else
        let all := l.bytes ++ (bytes.take 256 ++ List.replicate (256 - bytes.length) 0)
        let l' := { l with bytes := all, next := chunk + 1 }
        let keep : State := { s with fw := { s.fw with load := some l' } }
        if chunk = 0 then
          let st := s.fwHeader all
          if st = St.OK then (St.OK, keep) else s.ksbFwRefused st
        else if chunk = 32 then
          if sigOk = false then s.ksbFwRefused St.FW_SIGNATURE
          else
            let t := s.fwStart l.target true all 33
            if flashErr = true ∨ t.slotState l.target ≠ 1 then (St.FW_FLASH, t.ksbLoadEnd) else (St.OK, t)
        else if flashErr then (St.FW_FLASH, s.ksbLoadEnd)
        else (St.OK, keep)))

/-- FW_END (R536, R545, R547): the load completes when every body byte has arrived and the digest matches. -/
def execFwEnd (flashErr busy extra : Bool) (s : State) : Host.Outcome State Fault Refusal :=
  .next (s.ksbFrame 0x52 .fogOnly busy extra (fun s =>
    match s.fw.load with
    | none => (St.FW_SEQUENCE, s)
    | some l =>
      if l.ksb = false then (St.FW_SEQUENCE, s)
      else
        let s := s.ksbLoadEnd
        if l.next < 33 ∨ l.bytes.length ≠ fwHead + fwLength l.bytes then (St.FW_SEQUENCE, s)
        else if flashErr then (St.FW_FLASH, s)
        else
          let (st, s) := s.fwFinish l.target l.bytes
          (st, if st = St.FW_DIGEST then s.raise pFwu Er.FWU_FW_REFUSED else s)))

/-! ### The status frame (R548) -/

/-- The 19 words of a status response. -/
def State.ksbWords (s : State) (busy : Bool) : List Nat :=
  let k := s.ksb
  let w0 := k.op * 2 ^ 24 + k.accepted % 256 * 2 ^ 16 + k.result
  let w1 := k.crcBad * 2 ^ 24 + k.torn * 2 ^ 16 + k.short * 2 ^ 8 + k.long
  let w2 := b2n busy * 2 ^ 31 + b2n k.extra * 2 ^ 30 + b2n k.dataValid * 2 ^ 29 + b2n k.last * 2 ^ 28
    + s.rg R.KPR_KSTATE_STATE pKpr * 2 ^ 24 + s.rg R.KPR_HEARTBEAT_COUNT pKpr % 65536
  [w0, w1, w2] ++ (List.range 16).map (fun i => if k.dataValid then k.data.getD i 0 else 0)

/-- STATUS (R548): a status frame of `edges` edges, its header's CRC good or bad; `busy` tells whether the last command is still
executing. It returns the words that its edges reach; complete and good it clears the counts and DATA_VALID. -/
def execStatus (edges : Nat) (crcOk busy : Bool) (s : State) : Host.Outcome State Fault Refusal :=
  .next (if s.boot.aon = false ∨ edges = 0 then s
    else
      let ws := s.ksbWords busy
      let bytes := ws.flatMap (beBytes 4)
      let s := { s with rdata := ws.take ((edges - 40) / 32) }.emit (.ksb 0 (if crcOk then crc8 bytes else 255 - crc8 bytes) ws)
      if edges < statusEdges then (s.ksbCut true edges).ksbRegs
      else if crcOk = false then s.ksbCrcBad.ksbRegs
      else
        let k := s.ksb
        ({ s with ksb := { k with crcBad := 0, torn := 0, short := 0, long := 0, dataValid := false } }.cnt pKsb Cn.KSB_STATUS_READS).ksbRegs)

end Sys2Proof.Machine
end

