-- ==== Sys2Proof/Machine/Mma.lean ====
section
/-!
DEFINITION. The MMA instruction (R94–R98, R112–R116, R118, R120, R143–R146): its checks, its issue, folded over the live arrays, and its end.
-/

namespace Sys2Proof.Machine

/-- Known-answer tests yield to an MMA that needs their arrays (R125). One MMA makes one yield, whatever the number of arrays it takes: DESIGN
CHOICE, log entry 119. -/
def State.katYield (s : State) (c : Nat) (arrays : List Nat) : State :=
  if arrays.any (bit (s.rg R.CORE_ARR_STATUS_KAT_ACTIVE (pCore c))) then
    (s.wr R.CORE_KAT_STATUS_YIELDS (pCore c) (min 16 (s.rg R.CORE_KAT_STATUS_YIELDS (pCore c) + 1))).cnt (pCore c)
      Cn.CORE_KAT_PREEMPT
  else s

/-- Whether the real and imaginary descriptors of an operand name the same scale format, block size, direction and scale
base (R115); without a scale the last three are not read. -/
def sameScales (r i : Ten) : Bool :=
  r.sf == i.sf && (r.sf == 0 || (r.blk == i.blk && r.outer == i.outer && r.sbase == i.sbase))

/-- The refusals of an MMA in the order of R610. -/
def mmaChecks (x : MForm) (ar ai br bi : Ten) : Except Nat Unit := do
  let complex := x.kind != 0
  let all := if complex then [ar, ai, br, bi] else [ar, br]
  let g := ceilDiv (x.n1 + 1) 64
  must (x.rsv == 0 && decide (x.kind < 3) && (complex || (x.tai == 0 && x.tbi == 0))) St.RESERVED_BITS
  needValid all
  needFmt all true
  must (complex || decide (x.bank + 2 * (g - 1) ≤ 7)) St.INVALID_ARG
  must (decide (x.m1 < 64) && decide (x.n1 < 256)) St.INVALID_ARG
  must (!complex || (x.bank % 2 == 0 && decide (g + x.bank / 2 ≤ 4))) St.INVALID_ARG
  must (x.kind != 2 || (all.all (fun t => decide (t.f.cls ≤ 8)) && sameScales ar ai && sameScales br bi)) St.INVALID_ARG
  must (br.dim1 == ar.dim0 && decide (ar.dim1 ≥ x.m1 + 1) && decide (br.dim0 ≥ x.n1 + 1)
    && (!complex || (ai.dim0 == ar.dim0 && ai.dim1 == ar.dim1 && bi.dim0 == br.dim0 && bi.dim1 == br.dim1))
    && all.all (fun t => t.dim2 == 1)) St.SHAPE_MISMATCH
  must (all.all Ten.placed) St.INVALID_ARG
  must (all.all Ten.rowsAligned) St.ALIGN

/-- The first time that an MMA folds after a change of LIVE is recorded (R129), and folds beyond the first are counted in
every product pass (R130). -/
def State.countFolds (s : State) (c folds passes : Nat) : State :=
  if folds ≤ 1 then s
  else
    let s := s.cnt (pCore c) Cn.CORE_FOLD_PASS ((folds - 1) * passes)
    if (s.core c).foldSeen then s
    else (s.setCore c { s.core c with foldSeen := true }).raiseCore c Er.CORE_FOLD

/-- MMA (R143–R146): MMAs of one core do not overlap (R118), so a running one has finished. The slices up to the boundary that it reaches in
this step enter (R120); with more to come, the weight registers and feeder queues hold what the next slices use. At issue level 0 its
first step waits (R454, R458). -/
def execMma (i : Upto MForm) (s : State) : Host.Outcome State Fault Refusal :=
  let x := i.op
  .next (s.issueLong x.core x.pred x.pneg x.ups (fun s => do
    let c := x.core
    let s := s.catchUp c
    let k := s.core c
    mmaChecks x (k.rdT x.ta) (k.rdT x.tai) (k.rdT x.tb) (k.rdT x.tbi)
    must (!(s.throttled c)) waitCode
    let s := s.mmaFinish c
    let word (i : Nat) : BitVec 512 := NMap.get 0 k.t i
    let live := s.live c
    let r : MmaRun := ⟨x, word x.ta, word x.tai, word x.tb, word x.tbi, max 1 live.length, 0⟩
    let s := (s.mmaBankUpsets c r).katYield c (live.take r.groups)
    let s := (s.mmaWork c r (s.spadPasses c r) (min i.upto r.total)).countFolds c r.folds r.passCount
    let s := s.feedersFill c
    .ok ((s.wr R.CORE_RUN_STATUS_MMA_ACTIVE (pCore c) 1).katShow c)))

/-- MMA_DONE (R118): the last pass ends and the banks are released. During a halt, and at issue level 0 with steps left to do, the arrays stand at
their slice boundary (R454, R458, R467). -/
def execMmaDone (core : Nat) (s : State) : Host.Outcome State Fault Refusal := .next (if s.halted || (s.throttled core && (s.core core).behind) then s else s.mmaFinish core)

end Sys2Proof.Machine
end

