-- ==== Sys2Proof/Machine/Norm.lean ====
section
/-!
DEFINITION. The norm watch unit (R161, R162).
-/

namespace Sys2Proof.Machine

/-- Add one FP32 lane to a slot (R161). -/
def NwSlot.addLane (w : NwSlot) (code : Nat) : NwSlot × Tally :=
  let (v, t) := rdFp32 code
  let (e, u) := w.ewa.addVal (v.mul v)
  let mag := match v with
    | .fin _ x => fp32.encode false (absR x)
    | .inf _ => 0x7F800000
    | .nan => 0
  let bad := match v with
    | .fin _ _ => false
    | _ => true
  ({ ewa := e, max := Max.max w.max mag, nonfin := w.nonfin || bad, count := min (2 ^ 64 - 1) (w.count + 1) }, t.add u)

/-- NWADD (R161): a MOD above 31 is refused with INVALID_ARG. -/
def execNwadd (x : RForm) (s : State) : Host.Outcome State Fault Refusal :=
  .next (s.issueR x true (fun mask s => do
    must (decide (x.mod < 32)) St.INVALID_ARG
    let (k, t) := (s.core x.core).eachLane mask (fun k i =>
      let (w, t) := (k.nwSlot x.mod).addLane (k.rdV x.a i)
      (k.setNw x.mod w, t))
    .ok ((s.setCore x.core k).tally x.core t)))

/-- Whether a positive baseline is exceeded: v > factor × base (R162), on exact values. -/
def overBase (v factor base : Nat) : Bool :=
  let d (c : Nat) : Val := (fp32.decode false c).1
  (Val.fin false 0).lt (d base) && ((d factor).mul (d base)).lt (d v)

/-- NWCLOSE (R162, R177). -/
def execNwclose (x : RForm) (s : State) : Host.Outcome State Fault Refusal :=
  .next (s.issueUnit x false (fun _ s => do
    must (decide (x.mod < 32)) St.RESERVED_BITS
    let c := x.core
    let p := pCore c
    let a := s.rg R.CORE_NW_BASE_BASE p * 2048 + 64 * x.mod
    must (decide (a + 64 ≤ 0x80000)) St.ADDR_RANGE
    let k := s.core c
    let w := k.nwSlot x.mod
    let (l2, t) := toFp32 w.ewa.val.sqrt
    let (s, bs) ← s.ldN (s.via c) (a + 16) 12
    let f (i : Nat) : Nat := wordAt 4 poisonLane bs i
    let jump := w.nonfin || overBase l2 (f 2) (f 0) || overBase w.max (f 2) (f 1)
    let flags := b2n w.nonfin + b2n jump * 2 + b2n w.ewa.loss * 4
    let s ← s.stN (s.via c) a ((leBytes 4 l2 ++ leBytes 4 w.max ++ leBytes 4 flags ++ leBytes 2 k.layer ++ leBytes 2 k.op).map some
      ++ List.replicate 12 none ++ (leBytes 4 0 ++ leBytes 8 s.tbc).map some)
    let s := (s.setCore c ((s.core c).setNw x.mod NwSlot.clear)).tally c t
    if jump then
      let first := s.flag R.CORE_NW_STATUS_JUMP p
      let s := if first then s else s.wr R.CORE_NW_STATUS_FIRST p x.mod
      .ok ((s.wr R.CORE_NW_STATUS_JUMP p 1).cnt p Cn.CORE_NW_JUMP)
    else .ok s))

/-- NWCLR (R139). -/
def execNwclr (x : RForm) (s : State) : Host.Outcome State Fault Refusal :=
  .next (s.issueR x false (fun _ s => do
    must (decide (x.mod < 32)) St.RESERVED_BITS
    .ok (s.setCore x.core ((s.core x.core).setNw x.mod NwSlot.clear))))

end Sys2Proof.Machine
end

