-- ==== Sys2Proof/Machine/Scalar.lean ====
section
/-!
DEFINITION. The SYS, SALU and BR classes (R139): no operation, the end of a kernel, breakpoints, the readable core values, scalar
arithmetic and branches.
-/

namespace Sys2Proof.Machine

/-! ### Shared operations -/

/-- Class SALU, form R: S[D] ← f(S[A], S[B]). -/
def State.aluR (s : State) (x : RForm) (f : Nat → Nat → Nat) : State :=
  s.issueR x false (fun _ s => do
    must (x.mod == 0) St.RESERVED_BITS
    let k := s.core x.core
    .ok (s.setCore x.core (k.wrS x.d (f (k.rdS x.a) (k.rdS x.b)))))

/-- Class SALU, form I: S[D] ← f(S[A], sext(IMM)). -/
def State.aluI (s : State) (x : IForm) (f : Nat → Nat → Nat) : State :=
  s.issueI x false (fun _ s => do
    must (x.mod == 0) St.RESERVED_BITS
    let k := s.core x.core
    .ok (s.setCore x.core (k.wrS x.d (f (k.rdS x.a) (simm x.imm)))))

/-- Class BR: PC ← PC + 8 × sext(IMM) when S[D] compares to S[A] as `taken` says. -/
def State.branch (s : State) (x : IForm) (taken : Nat → Nat → Bool) : State :=
  s.issue x.core x.pred x.pneg x.ups false (fun _ s => do
    must (x.mod == 0) St.RESERVED_BITS
    let k := s.core x.core
    let pc := s.pc x.core
    .ok (s, some (if taken (k.rdS x.d) (k.rdS x.a) then wrap 64 ((pc : Int) + 8 * sext 32 x.imm) else pc + 8)))

/-- Difference modulo 2^64. -/
def sub64 (a b : Nat) : Nat := wrap 64 ((a : Int) - b)
/-- Arithmetic shift right by the low six bits of `b`. -/
def sra64 (a b : Nat) : Nat := wrap 64 (sext 64 a / 2 ^ (b % 64))
/-- Signed less-than of 64-bit numbers. -/
def slt64 (a b : Nat) : Bool := decide (sext 64 a < sext 64 b)
/-- Signed minimum. -/
def min64 (a b : Nat) : Nat := if slt64 b a then b else a
/-- Signed maximum. -/
def max64 (a b : Nat) : Nat := if slt64 a b then b else a

/-! ### SYS -/

/-- NOP (R139). -/
def execNop (x : RForm) (s : State) : Host.Outcome State Fault Refusal :=
  .next (s.issueR x false (fun _ s => do
    must (x.mod == 0) St.RESERVED_BITS
    .ok s))

/-- HALT (R139): the kernel has ended on this core with OK once its units have finished (KERNEL_END). -/
def execHalt (x : RForm) (s : State) : Host.Outcome State Fault Refusal :=
  .next (s.issueR x false (fun _ s => do
    must (x.mod == 0) St.RESERVED_BITS
    .ok (s.setCore x.core { s.core x.core with ended := some St.OK })))

/-- BRK (R139): raises BREAK. -/
def execBrk (x : RForm) (s : State) : Host.Outcome State Fault Refusal :=
  .next (s.issueR x false (fun _ _ => do
    must (x.mod == 0) St.RESERVED_BITS
    .error St.BREAK))

/-- The value that CSRR selects (R139): the TBC is the copy of CLK_CORE (R52), and the step counter that of the function's COL page (R215). -/
def State.csr (s : State) (c sel : Nat) : Nat :=
  let k := s.core c
  match sel with
  | 0 => s.coreTbc
  | 1 => c
  | 2 => k.layer
  | 3 => k.op
  | 4 => k.fn
  | 5 => s.rg R.CORE_SCALE_CTRL_HEAD (pCore c)
  | _ => s.rg R.COL_STEP_COUNT_COUNT (pCol k.fn)

/-- CSRR (R139): selectors 7 to 15 raise ILLEGAL_OP; IMM[31:4] is reserved. -/
def execCsrr (x : IForm) (s : State) : Host.Outcome State Fault Refusal :=
  .next (s.issueI x false (fun _ s => do
    must (decide (x.imm % 16 < 7)) St.ILLEGAL_OP
    must (x.imm / 16 == 0 && x.mod == 0) St.RESERVED_BITS
    .ok (s.setCore x.core ((s.core x.core).wrS x.d (s.csr x.core (x.imm % 16))))))

/-! ### SALU -/

/-- ADD (R139): addition. -/
def execAdd (x : RForm) (s : State) : Host.Outcome State Fault Refusal := .next (s.aluR x (fun a b => a + b))

/-- SUB (R139): subtraction. -/
def execSub (x : RForm) (s : State) : Host.Outcome State Fault Refusal := .next (s.aluR x (sub64))

/-- MUL (R139): the low 64 bits of the product. -/
def execMul (x : RForm) (s : State) : Host.Outcome State Fault Refusal := .next (s.aluR x (fun a b => a * b))

/-- AND (R139): bitwise AND. -/
def execAnd (x : RForm) (s : State) : Host.Outcome State Fault Refusal := .next (s.aluR x (fun a b => a &&& b))

/-- OR (R139): bitwise OR. -/
def execOr (x : RForm) (s : State) : Host.Outcome State Fault Refusal := .next (s.aluR x (fun a b => a ||| b))

/-- XOR (R139): bitwise XOR. -/
def execXor (x : RForm) (s : State) : Host.Outcome State Fault Refusal := .next (s.aluR x (fun a b => a ^^^ b))

/-- SHL (R139): shift left by the low six bits. -/
def execShl (x : RForm) (s : State) : Host.Outcome State Fault Refusal := .next (s.aluR x (fun a b => a * 2 ^ (b % 64)))

/-- SHR (R139): logical shift right by the low six bits. -/
def execShr (x : RForm) (s : State) : Host.Outcome State Fault Refusal := .next (s.aluR x (fun a b => a / 2 ^ (b % 64)))

/-- SRA (R139): arithmetic shift right by the low six bits. -/
def execSra (x : RForm) (s : State) : Host.Outcome State Fault Refusal := .next (s.aluR x (sra64))

/-- MIN (R139): signed minimum. -/
def execMin (x : RForm) (s : State) : Host.Outcome State Fault Refusal := .next (s.aluR x (min64))

/-- MAX (R139): signed maximum. -/
def execMax (x : RForm) (s : State) : Host.Outcome State Fault Refusal := .next (s.aluR x (max64))

/-- MINU (R139): unsigned minimum. -/
def execMinu (x : RForm) (s : State) : Host.Outcome State Fault Refusal := .next (s.aluR x (fun a b => min a b))

/-- MAXU (R139): unsigned maximum. -/
def execMaxu (x : RForm) (s : State) : Host.Outcome State Fault Refusal := .next (s.aluR x (fun a b => max a b))

/-- ADDI (R139): addition, with an immediate. -/
def execAddi (x : IForm) (s : State) : Host.Outcome State Fault Refusal := .next (s.aluI x (fun a b => a + b))

/-- SUBI (R139): subtraction, with an immediate. -/
def execSubi (x : IForm) (s : State) : Host.Outcome State Fault Refusal := .next (s.aluI x (sub64))

/-- MULI (R139): the low 64 bits of the product, with an immediate. -/
def execMuli (x : IForm) (s : State) : Host.Outcome State Fault Refusal := .next (s.aluI x (fun a b => a * b))

/-- ANDI (R139): bitwise AND, with an immediate. -/
def execAndi (x : IForm) (s : State) : Host.Outcome State Fault Refusal := .next (s.aluI x (fun a b => a &&& b))

/-- ORI (R139): bitwise OR, with an immediate. -/
def execOri (x : IForm) (s : State) : Host.Outcome State Fault Refusal := .next (s.aluI x (fun a b => a ||| b))

/-- XORI (R139): bitwise XOR, with an immediate. -/
def execXori (x : IForm) (s : State) : Host.Outcome State Fault Refusal := .next (s.aluI x (fun a b => a ^^^ b))

/-- SHLI (R139): shift left by the low six bits, with an immediate. -/
def execShli (x : IForm) (s : State) : Host.Outcome State Fault Refusal := .next (s.aluI x (fun a b => a * 2 ^ (b % 64)))

/-- SHRI (R139): logical shift right by the low six bits, with an immediate. -/
def execShri (x : IForm) (s : State) : Host.Outcome State Fault Refusal := .next (s.aluI x (fun a b => a / 2 ^ (b % 64)))

/-- SRAI (R139): arithmetic shift right by the low six bits, with an immediate. -/
def execSrai (x : IForm) (s : State) : Host.Outcome State Fault Refusal := .next (s.aluI x (sra64))

/-- MINI (R139): signed minimum, with an immediate. -/
def execMini (x : IForm) (s : State) : Host.Outcome State Fault Refusal := .next (s.aluI x (min64))

/-- MAXI (R139): signed maximum, with an immediate. -/
def execMaxi (x : IForm) (s : State) : Host.Outcome State Fault Refusal := .next (s.aluI x (max64))

/-- MINUI (R139): unsigned minimum, with an immediate. -/
def execMinui (x : IForm) (s : State) : Host.Outcome State Fault Refusal := .next (s.aluI x (fun a b => min a b))

/-- MAXUI (R139): unsigned maximum, with an immediate. -/
def execMaxui (x : IForm) (s : State) : Host.Outcome State Fault Refusal := .next (s.aluI x (fun a b => max a b))

/-- LI (R139): S[D] ← sext(IMM). -/
def execLi (x : IForm) (s : State) : Host.Outcome State Fault Refusal := .next (s.aluI x (fun _ b => b))

/-- LUI (R139): S[D][63:32] ← IMM, the low half unchanged. -/
def execLui (x : IForm) (s : State) : Host.Outcome State Fault Refusal :=
  .next (s.issueI x false (fun _ s => do
    must (x.mod == 0) St.RESERVED_BITS
    let k := s.core x.core
    .ok (s.setCore x.core (k.wrS x.d (k.rdS x.d % 2 ^ 32 + x.imm % 2 ^ 32 * 2 ^ 32)))))

/-! ### BR -/

/-- BEQ (R139): branch when equal. -/
def execBeq (x : IForm) (s : State) : Host.Outcome State Fault Refusal := .next (s.branch x (fun a b => a == b))

/-- BNE (R139): branch when not equal. -/
def execBne (x : IForm) (s : State) : Host.Outcome State Fault Refusal := .next (s.branch x (fun a b => a != b))

/-- BLT (R139): branch when signed less. -/
def execBlt (x : IForm) (s : State) : Host.Outcome State Fault Refusal := .next (s.branch x (slt64))

/-- BGE (R139): branch when signed greater or equal. -/
def execBge (x : IForm) (s : State) : Host.Outcome State Fault Refusal := .next (s.branch x (fun a b => !(slt64 a b)))

/-- BLTU (R139): branch when unsigned less. -/
def execBltu (x : IForm) (s : State) : Host.Outcome State Fault Refusal := .next (s.branch x (fun a b => decide (a < b)))

/-- BGEU (R139): branch when unsigned greater or equal. -/
def execBgeu (x : IForm) (s : State) : Host.Outcome State Fault Refusal := .next (s.branch x (fun a b => decide (a ≥ b)))

/-- JMP (R139): branch when always. -/
def execJmp (x : IForm) (s : State) : Host.Outcome State Fault Refusal := .next (s.branch x (fun _ _ => true))

end Sys2Proof.Machine
end

