-- ==== Sys2Proof/Machine/Scale.lean ====
section
/-!
DEFINITION. SQUANT (R149–R152): its refusals, its issue and its end.
-/

namespace Sys2Proof.Machine

/-- Whether a history descriptor meets R150 and R177. -/
def Ten.historyOk (t : Ten) : Bool := t.f.code == 0x10 && t.sf == 0

/-- The refusals of SQUANT in the order of R610. -/
def squantChecks (x : RForm) (src hist dst fwd : Ten) : Except Nat Unit := do
  let usesB := x.mod % 16 / 8 == 1 || x.mod % 2 == 1 || bit x.mod 2
  let usesC := bit x.mod 3
  let hs := (if usesB then [hist] else []) ++ (if usesC then [fwd] else [])
  let size (t : Ten) : Bool := decide (t.base + 32 * (dst.scaleDims.1 * dst.scaleDims.2 * dst.dim2) ≤ 0x80000)
  must (decide (x.mod < 16) && decide (x.a < 16) && decide (x.b < 16) && decide (x.c < 16) && decide (x.d < 16)) St.RESERVED_BITS
  needValid ([src, dst] ++ hs)
  needFmt ([src, dst] ++ hs) false
  must (src.sf == 0 && (src.f.long || src.f.code == 0x13) && dst.sf != 0) St.INVALID_ARG
  must (hs.all Ten.historyOk && (!usesC || x.b != x.c)) St.INVALID_ARG
  must (src.dim0 == dst.dim0 && src.dim1 == dst.dim1 && src.dim2 == dst.dim2) St.SHAPE_MISMATCH
  must (src.placed && dst.placed && hs.all Ten.placed && hs.all size) St.INVALID_ARG
  must (src.rowsAligned && dst.rowsAligned) St.ALIGN

/-- The refusals of a SQUANT, the generators' among them (R610). -/
def State.squantRefused (s : State) (x : RForm) : Except Nat Unit := do
  let k := s.core x.core
  let dst := k.rdT x.d
  squantChecks x (k.rdT x.a) (k.rdT x.b) dst (k.rdT x.c)
  if bit x.mod 1 then needRng k (List.range (min 64 dst.dim0))

/-- SQUANT (R149–R152): its generators advance by their full count, and its blocks are done up to the block boundary that it reaches in this
step. -/
def execSquant (i : Upto RForm) (s : State) : Host.Outcome State Fault Refusal :=
  let x := i.op
  .next (s.issueLong x.core x.pred x.pneg x.ups (fun s => do
    let c := x.core
    let s := s.catchUp c
    s.squantRefused x
    let s := s.squantFinish c
    let k := s.core c
    let word (i : Nat) : BitVec 512 := NMap.get 0 k.t i
    let dst := k.rdT x.d
    let r : SquantRun := ⟨x, word x.a, word x.b, word x.d, word x.c, s.pc c, 0, k.rng, 0⟩
    let k := if bit x.mod 1 then (k.squantDraws dst.rows dst.dim0).2 else k
    (s.setCore c { k with openBlk := 0 }).squantWork c r (min i.upto r.total)))

/-- SQUANT_DONE (R149): the last block is done and the scale unit is free; during a halt the unit stands still (R467). -/
def execSquantDone (core : Nat) (s : State) : Host.Outcome State Fault Refusal :=
  .next (if s.halted then s else s.squantFinish core)

end Sys2Proof.Machine
end

