-- ==== Sys2Proof/Machine/Dispatch.lean ====
section
/-!
DEFINITION. The meaning of every command, arm by arm.
-/

namespace Sys2Proof.Machine

/-- The effect of a command on everything but the queue of waiting commands. -/
def exec (i : Instr) (s : State) : Host.Outcome State Fault Refusal :=
  match i with
  | .registerWrite fn page off width val env => Sys2Proof.Machine.execRegisterWrite fn page off width val env s
  | .ctrlResetReq fn page others => Sys2Proof.Machine.execCtrlResetReq fn page others s
  | .ctrlEnableSet fn page => Sys2Proof.Machine.execCtrlEnableSet fn page s
  | .ctrlEnableClear fn page => Sys2Proof.Machine.execCtrlEnableClear fn page s
  | .ctrlQuiesce fn page set => Sys2Proof.Machine.execCtrlQuiesce fn page set s
  | .ctrlSelftestAllow fn page set => Sys2Proof.Machine.execCtrlSelftestAllow fn page set s
  | .quiesceDone page => Sys2Proof.Machine.execQuiesceDone page s
  | .errStatusClear fn page mask coincident => Sys2Proof.Machine.execErrStatusClear fn page mask coincident s
  | .errInject fn page mask => Sys2Proof.Machine.execErrInject fn page mask s
  | .cntClear fn page n coincident => Sys2Proof.Machine.execCntClear fn page n coincident s
  | .cntReadLow fn page n => Sys2Proof.Machine.execCntReadLow fn page n s
  | .cfgDigestUpdate page => Sys2Proof.Machine.execCfgDigestUpdate page s
  | .tbcCorrect => Sys2Proof.Machine.execTbcCorrect s
  | .rxClockStop port partialFrame => Sys2Proof.Machine.execRxClockStop port partialFrame s
  | .nop x => Sys2Proof.Machine.execNop x s
  | .halt x => Sys2Proof.Machine.execHalt x s
  | .brk x => Sys2Proof.Machine.execBrk x s
  | .fence x => Sys2Proof.Machine.execFence x s
  | .csrr x => Sys2Proof.Machine.execCsrr x s
  | .add x => Sys2Proof.Machine.execAdd x s
  | .sub x => Sys2Proof.Machine.execSub x s
  | .mul x => Sys2Proof.Machine.execMul x s
  | .and x => Sys2Proof.Machine.execAnd x s
  | .or x => Sys2Proof.Machine.execOr x s
  | .xor x => Sys2Proof.Machine.execXor x s
  | .shl x => Sys2Proof.Machine.execShl x s
  | .shr x => Sys2Proof.Machine.execShr x s
  | .sra x => Sys2Proof.Machine.execSra x s
  | .min x => Sys2Proof.Machine.execMin x s
  | .max x => Sys2Proof.Machine.execMax x s
  | .minu x => Sys2Proof.Machine.execMinu x s
  | .maxu x => Sys2Proof.Machine.execMaxu x s
  | .addi x => Sys2Proof.Machine.execAddi x s
  | .subi x => Sys2Proof.Machine.execSubi x s
  | .muli x => Sys2Proof.Machine.execMuli x s
  | .andi x => Sys2Proof.Machine.execAndi x s
  | .ori x => Sys2Proof.Machine.execOri x s
  | .xori x => Sys2Proof.Machine.execXori x s
  | .shli x => Sys2Proof.Machine.execShli x s
  | .shri x => Sys2Proof.Machine.execShri x s
  | .srai x => Sys2Proof.Machine.execSrai x s
  | .mini x => Sys2Proof.Machine.execMini x s
  | .maxi x => Sys2Proof.Machine.execMaxi x s
  | .minui x => Sys2Proof.Machine.execMinui x s
  | .maxui x => Sys2Proof.Machine.execMaxui x s
  | .li x => Sys2Proof.Machine.execLi x s
  | .lui x => Sys2Proof.Machine.execLui x s
  | .beq x => Sys2Proof.Machine.execBeq x s
  | .bne x => Sys2Proof.Machine.execBne x s
  | .blt x => Sys2Proof.Machine.execBlt x s
  | .bge x => Sys2Proof.Machine.execBge x s
  | .bltu x => Sys2Proof.Machine.execBltu x s
  | .bgeu x => Sys2Proof.Machine.execBgeu x s
  | .jmp x => Sys2Proof.Machine.execJmp x s
  | .tld x => Sys2Proof.Machine.execTld x s
  | .tst x => Sys2Proof.Machine.execTst x s
  | .tofs x => Sys2Proof.Machine.execTofs x s
  | .tdim x => Sys2Proof.Machine.execTdim x s
  | .mma x => Sys2Proof.Machine.execMma x s
  | .mmaDone core => Sys2Proof.Machine.execMmaDone core s
  | .aclr x => Sys2Proof.Machine.execAclr x s
  | .amerge x => Sys2Proof.Machine.execAmerge x s
  | .arow x => Sys2Proof.Machine.execArow x s
  | .ast x => Sys2Proof.Machine.execAst x s
  | .astDone core => Sys2Proof.Machine.execAstDone core s
  | .aloss x => Sys2Proof.Machine.execAloss x s
  | .vaddF x => Sys2Proof.Machine.execVaddF x s
  | .vsubF x => Sys2Proof.Machine.execVsubF x s
  | .vmulF x => Sys2Proof.Machine.execVmulF x s
  | .vfmaF x => Sys2Proof.Machine.execVfmaF x s
  | .vmaxF x => Sys2Proof.Machine.execVmaxF x s
  | .vminF x => Sys2Proof.Machine.execVminF x s
  | .vabsF x => Sys2Proof.Machine.execVabsF x s
  | .vnegF x => Sys2Proof.Machine.execVnegF x s
  | .vdivF x => Sys2Proof.Machine.execVdivF x s
  | .vsqrtF x => Sys2Proof.Machine.execVsqrtF x s
  | .vrsqF x => Sys2Proof.Machine.execVrsqF x s
  | .vaddI x => Sys2Proof.Machine.execVaddI x s
  | .vsubI x => Sys2Proof.Machine.execVsubI x s
  | .vmulI x => Sys2Proof.Machine.execVmulI x s
  | .vand x => Sys2Proof.Machine.execVand x s
  | .vor x => Sys2Proof.Machine.execVor x s
  | .vxor x => Sys2Proof.Machine.execVxor x s
  | .vshl x => Sys2Proof.Machine.execVshl x s
  | .vshr x => Sys2Proof.Machine.execVshr x s
  | .vsra x => Sys2Proof.Machine.execVsra x s
  | .vcmpeqF x => Sys2Proof.Machine.execVcmpeqF x s
  | .vcmpltF x => Sys2Proof.Machine.execVcmpltF x s
  | .vcmpleF x => Sys2Proof.Machine.execVcmpleF x s
  | .vcmpeqI x => Sys2Proof.Machine.execVcmpeqI x s
  | .vcmpltI x => Sys2Proof.Machine.execVcmpltI x s
  | .vsel x => Sys2Proof.Machine.execVsel x s
  | .vredsumF x => Sys2Proof.Machine.execVredsumF x s
  | .vredmaxF x => Sys2Proof.Machine.execVredmaxF x s
  | .vredsumI x => Sys2Proof.Machine.execVredsumI x s
  | .vbcast x => Sys2Proof.Machine.execVbcast x s
  | .vcvt x => Sys2Proof.Machine.execVcvt x s
  | .vupd x => Sys2Proof.Machine.execVupd x s
  | .squant x => Sys2Proof.Machine.execSquant x s
  | .squantDone core => Sys2Proof.Machine.execSquantDone core s
  | .rngld x => Sys2Proof.Machine.execRngld x s
  | .rngst x => Sys2Proof.Machine.execRngst x s
  | .rngdraw x => Sys2Proof.Machine.execRngdraw x s
  | .nwadd x => Sys2Proof.Machine.execNwadd x s
  | .nwclose x => Sys2Proof.Machine.execNwclose x s
  | .nwclr x => Sys2Proof.Machine.execNwclr x s
  | .sigwait x => Sys2Proof.Machine.execSigwait x s
  | .sigwaitMet core => Sys2Proof.Machine.execSigwaitMet core s
  | .sigset x => Sys2Proof.Machine.execSigset x s
  | .sigadd x => Sys2Proof.Machine.execSigadd x s
  | .dmaq x => Sys2Proof.Machine.execDmaq x s
  | .dmaqSpace core => Sys2Proof.Machine.execDmaqSpace core s
  | .fenceDone core => Sys2Proof.Machine.execFenceDone core s
  | .sld x => Sys2Proof.Machine.execSld x s
  | .sst x => Sys2Proof.Machine.execSst x s
  | .vld x => Sys2Proof.Machine.execVld x s
  | .vst x => Sys2Proof.Machine.execVst x s
  | .vldr x => Sys2Proof.Machine.execVldr x s
  | .vstr x => Sys2Proof.Machine.execVstr x s
  | .kernelEnd core => Sys2Proof.Machine.execKernelEnd core s
  | .ctxSave fn core => Sys2Proof.Machine.execCtxSave fn core s
  | .ctxRestore fn core => Sys2Proof.Machine.execCtxRestore fn core s
  | .ctxDone core => Sys2Proof.Machine.execCtxDone core s
  | .katReq fn core pattern mask => Sys2Proof.Machine.execKatReq fn core pattern mask s
  | .katPatternDone core array pass => Sys2Proof.Machine.execKatPatternDone core array pass s
  | .katAbandon core array => Sys2Proof.Machine.execKatAbandon core array s
  | .arrayFence core array => Sys2Proof.Machine.execArrayFence core array s
  | .bankRequestAged core bank => Sys2Proof.Machine.execBankRequestAged core bank s
  | .copy eng ups => Sys2Proof.Machine.execCopy eng ups s
  | .convert eng ups => Sys2Proof.Machine.execConvert eng ups s
  | .fill eng ups => Sys2Proof.Machine.execFill eng ups s
  | .transpose eng ups => Sys2Proof.Machine.execTranspose eng ups s
  | .dmaPut eng ups => Sys2Proof.Machine.execDmaPut eng ups s
  | .dmaGet eng ups => Sys2Proof.Machine.execDmaGet eng ups s
  | .dmaComplete eng q n => Sys2Proof.Machine.execDmaComplete eng q n s
  | .stepArm req fn => Sys2Proof.Machine.execStepArm req fn s
  | .stepDisarm req fn => Sys2Proof.Machine.execStepDisarm req fn s
  | .stepVerdict q => Sys2Proof.Machine.execStepVerdict q s
  | .stepCommit q => Sys2Proof.Machine.execStepCommit q s
  | .snapshot q => Sys2Proof.Machine.execSnapshot q s
  | .snapshotDeferredStart fn => Sys2Proof.Machine.execSnapshotDeferredStart fn s
  | .snapshotDone fn hostErr => Sys2Proof.Machine.execSnapshotDone fn hostErr s
  | .hbmRead addr n ups => Sys2Proof.Machine.execHbmRead addr n ups s
  | .hbmWrite addr bytes => Sys2Proof.Machine.execHbmWrite addr bytes s
  | .wcbAgeDrain m line => Sys2Proof.Machine.execWcbAgeDrain m line s
  | .wcbSpace m => Sys2Proof.Machine.execWcbSpace m s
  | .parityError addr n write => Sys2Proof.Machine.execParityError addr n write s
  | .parityRepeat m ch ok => Sys2Proof.Machine.execParityRepeat m ch ok s
  | .chRetrainDone m ch ok => Sys2Proof.Machine.execChRetrainDone m ch ok s
  | .scrubRead m test preempted => Sys2Proof.Machine.execScrubRead m test preempted s
  | .farRead addr n ups => Sys2Proof.Machine.execFarRead addr n ups s
  | .farWrite addr bytes ups => Sys2Proof.Machine.execFarWrite addr bytes ups s
  | .farTimeout addr write => Sys2Proof.Machine.execFarTimeout addr write s
  | .farLinkRetrain d how => Sys2Proof.Machine.execFarLinkRetrain d how s
  | .farDevEvent frame => Sys2Proof.Machine.execFarDevEvent frame s
  | .xltInval req fn vpn count => Sys2Proof.Machine.execXltInval req fn vpn count s
  | .flipTbcWrite req page val => Sys2Proof.Machine.execFlipTbcWrite req page val s
  | .flipCancel req page => Sys2Proof.Machine.execFlipCancel req page s
  | .scheduledFlip page => Sys2Proof.Machine.execScheduledFlip page s
  | .alloc req fn tier flags => Sys2Proof.Machine.execAlloc req fn tier flags s
  | .free req fn tier flags => Sys2Proof.Machine.execFree req fn tier flags s
  | .quarantine req fn tier flags => Sys2Proof.Machine.execQuarantine req fn tier flags s
  | .frameReqDone fn picks => Sys2Proof.Machine.execFrameReqDone fn picks s
  | .frameCntRead req page rd wrt => Sys2Proof.Machine.execFrameCntRead req page rd wrt s
  | .memTestAbandon m ch => Sys2Proof.Machine.execMemTestAbandon m ch s
  | .tgGo req m ch pattern mode => Sys2Proof.Machine.execTgGo req m ch pattern mode s
  | .tgStop req m ch => Sys2Proof.Machine.execTgStop req m ch s
  | .tgDone m ch errors addr bitsX lines => Sys2Proof.Machine.execTgDone m ch errors addr bitsX lines s
  | .memMarginGo req m mask param => Sys2Proof.Machine.execMemMarginGo req m mask param s
  | .memMarginDone m low high => Sys2Proof.Machine.execMemMarginDone m low high s
  | .portTrain p self locked peer => Sys2Proof.Machine.execPortTrain p self locked peer s
  | .laneLockTimeout p => Sys2Proof.Machine.execLaneLockTimeout p s
  | .trainTimeout p => Sys2Proof.Machine.execTrainTimeout p s
  | .backoffExpire p => Sys2Proof.Machine.execBackoffExpire p s
  | .char f => Sys2Proof.Machine.execChar f s
  | .charSend p => Sys2Proof.Machine.execCharSend p s
  | .charStale p => Sys2Proof.Machine.execCharStale p s
  | .miscabledReject p => Sys2Proof.Machine.execMiscabledReject p s
  | .peerExpectWrite p val => Sys2Proof.Machine.execPeerExpectWrite p val s
  | .hello f ecdh kem => Sys2Proof.Machine.execHello f ecdh kem s
  | .response f ecdh kem => Sys2Proof.Machine.execResponse f ecdh kem s
  | .cert f form links anchor => Sys2Proof.Machine.execCert f form links anchor s
  | .proof f ecdsa mldsa => Sys2Proof.Machine.execProof f ecdsa mldsa s
  | .finished port raw rx => Sys2Proof.Machine.execFinished port raw rx s
  | .dataFlit f => Sys2Proof.Machine.execDataFlit f s
  | .idleFlit f => Sys2Proof.Machine.execIdleFlit f s
  | .reject f => Sys2Proof.Machine.execReject f s
  | .rekey f => Sys2Proof.Machine.execRekey f s
  | .rekeyAck f => Sys2Proof.Machine.execRekeyAck f s
  | .retrainReq f => Sys2Proof.Machine.execRetrainReq f s
  | .replayTimeout p => Sys2Proof.Machine.execReplayTimeout p s
  | .laneLockLoss p lane => Sys2Proof.Machine.execLaneLockLoss p lane s
  | .laneCorrCheck p lane => Sys2Proof.Machine.execLaneCorrCheck p lane s
  | .keyCtrlRekey p => Sys2Proof.Machine.execKeyCtrlRekey p s
  | .keyLifeExpire p => Sys2Proof.Machine.execKeyLifeExpire p s
  | .keyFlitLimit p => Sys2Proof.Machine.execKeyFlitLimit p s
  | .rekeyAckTimeout p => Sys2Proof.Machine.execRekeyAckTimeout p s
  | .graceExpire p => Sys2Proof.Machine.execGraceExpire p s
  | .creditStarve p vc => Sys2Proof.Machine.execCreditStarve p vc s
  | .vc0StarveDown p => Sys2Proof.Machine.execVc0StarveDown p s
  | .hostileWindowEnd p => Sys2Proof.Machine.execHostileWindowEnd p s
  | .quarRelease p => Sys2Proof.Machine.execQuarRelease p s
  | .laneMarginGo p lane => Sys2Proof.Machine.execLaneMarginGo p lane s
  | .scanAbandon p => Sys2Proof.Machine.execScanAbandon p s
  | .laneMarginDone p low high => Sys2Proof.Machine.execLaneMarginDone p low high s
  | .laserSample inp p0 p1 p2 p3 => Sys2Proof.Machine.execLaserSample inp p0 p1 p2 p3 s
  | .laserDaily inp => Sys2Proof.Machine.execLaserDaily inp s
  | .laserBaselineSet inp => Sys2Proof.Machine.execLaserBaselineSet inp s
  | .put vc ups => Sys2Proof.Machine.execPut vc ups s
  | .getReq vc ups => Sys2Proof.Machine.execGetReq vc ups s
  | .getResp vc ups => Sys2Proof.Machine.execGetResp vc ups s
  | .atomicAdd vc ups => Sys2Proof.Machine.execAtomicAdd vc ups s
  | .signal vc => Sys2Proof.Machine.execSignal vc s
  | .ack vc => Sys2Proof.Machine.execAck vc s
  | .nak vc => Sys2Proof.Machine.execNak vc s
  | .time => Sys2Proof.Machine.execTime s
  | .ackTimer flow => Sys2Proof.Machine.execAckTimer flow s
  | .flowRto flow => Sys2Proof.Machine.execFlowRto flow s
  | .flowOpen req fn => Sys2Proof.Machine.execFlowOpen req fn s
  | .flowClose req fn => Sys2Proof.Machine.execFlowClose req fn s
  | .flowReset req fn => Sys2Proof.Machine.execFlowReset req fn s
  | .flowRead req fn => Sys2Proof.Machine.execFlowRead req fn s
  | .patchWrite fn hi => Sys2Proof.Machine.execPatchWrite fn hi s
  | .maddrWrite fn val => Sys2Proof.Machine.execMaddrWrite fn val s
  | .daymarkRecompute => Sys2Proof.Machine.execDaymarkRecompute s
  | .agreeBoundary => Sys2Proof.Machine.execAgreeBoundary s
  | .dmApprove req => Sys2Proof.Machine.execDmApprove req s
  | .dmApproveDone => Sys2Proof.Machine.execDmApproveDone s
  | .epochWrite req val => Sys2Proof.Machine.execEpochWrite req val s
  | .collLaunch q => Sys2Proof.Machine.execCollLaunch q s
  | .collQueueSpace q => Sys2Proof.Machine.execCollQueueSpace q s
  | .collOpStart fn => Sys2Proof.Machine.execCollOpStart fn s
  | .collHeaderRx flow => Sys2Proof.Machine.execCollHeaderRx flow s
  | .collDataRx flow => Sys2Proof.Machine.execCollDataRx flow s
  | .collOpDone fn gid => Sys2Proof.Machine.execCollOpDone fn gid s
  | .collAbortRx flow => Sys2Proof.Machine.execCollAbortRx flow s
  | .verdictFrameRx flow => Sys2Proof.Machine.execVerdictFrameRx flow s
  | .colCqReset req fn => Sys2Proof.Machine.execColCqReset req fn s
  | .collQuadsApply fn => Sys2Proof.Machine.execCollQuadsApply fn s
  | .cqDoorbell fn k p => Sys2Proof.Machine.execCqDoorbell fn k p s
  | .cmdFetch cls n fail => Sys2Proof.Machine.execCmdFetch cls n fail s
  | .kernelLaunch q => Sys2Proof.Machine.execKernelLaunch q s
  | .dma q ups hostErr => Sys2Proof.Machine.execDma q ups hostErr s
  | .signalWait q => Sys2Proof.Machine.execSignalWait q s
  | .signalWaitMet q => Sys2Proof.Machine.execSignalWaitMet q s
  | .signalSet q => Sys2Proof.Machine.execSignalSet q s
  | .powerHint q => Sys2Proof.Machine.execPowerHint q s
  | .fenceCmd q => Sys2Proof.Machine.execFenceCmd q s
  | .fenceCmdDone q num => Sys2Proof.Machine.execFenceCmdDone q num s
  | .quiesce q => Sys2Proof.Machine.execQuiesce q s
  | .quiesceResume q => Sys2Proof.Machine.execQuiesceResume q s
  | .cmdComplete q num => Sys2Proof.Machine.execCmdComplete q num s
  | .funcStop req fn => Sys2Proof.Machine.execFuncStop req fn s
  | .funcCtrlEn req fn en => Sys2Proof.Machine.execFuncCtrlEn req fn en s
  | .resGo req fn => Sys2Proof.Machine.execResGo req fn s
  | .bar4Access fn off width val => Sys2Proof.Machine.execBar4Access fn off width val s
  | .queCqReset req fn => Sys2Proof.Machine.execQueCqReset req fn s
  | .cqResume req fn => Sys2Proof.Machine.execCqResume req fn s
  | .cqEnable req fn en => Sys2Proof.Machine.execCqEnable req fn en s
  | .eqDoorbell fn k c => Sys2Proof.Machine.execEqDoorbell fn k c s
  | .eqEnable req fn => Sys2Proof.Machine.execEqEnable req fn s
  | .eqDisable req fn => Sys2Proof.Machine.execEqDisable req fn s
  | .mergeWindowEnd q slot => Sys2Proof.Machine.execMergeWindowEnd q slot s
  | .msixCoalTimer q => Sys2Proof.Machine.execMsixCoalTimer q s
  | .eqWriteFail rec => Sys2Proof.Machine.execEqWriteFail rec s
  | .flrVf fn => Sys2Proof.Machine.execFlrVf fn s
  | .flrPf0 => Sys2Proof.Machine.execFlrPf0 s
  | .pcieLinkTrain flitMode gts width => Sys2Proof.Machine.execPcieLinkTrain flitMode gts width s
  | .perstAssert => Sys2Proof.Machine.execPerstAssert s
  | .getVersion => Sys2Proof.Machine.execGetVersion s
  | .getCapabilities => Sys2Proof.Machine.execGetCapabilities s
  | .negotiateAlgorithms asym hash => Sys2Proof.Machine.execNegotiateAlgorithms asym hash s
  | .getDigests => Sys2Proof.Machine.execGetDigests s
  | .getCertificate slot off len => Sys2Proof.Machine.execGetCertificate slot off len s
  | .challenge slot nonce later => Sys2Proof.Machine.execChallenge slot nonce later s
  | .getMeasurements sign index nonce later => Sys2Proof.Machine.execGetMeasurements sign index nonce later s
  | .respondIfReady => Sys2Proof.Machine.execRespondIfReady s
  | .spdmUnsupported code => Sys2Proof.Machine.execSpdmUnsupported code s
  | .avsReadback r read => Sys2Proof.Machine.execAvsReadback r read s
  | .avsFailRetry r => Sys2Proof.Machine.execAvsFailRetry r s
  | .avsCurrentRead amps => Sys2Proof.Machine.execAvsCurrentRead amps s
  | .avsTempRead t0 t1 t2 => Sys2Proof.Machine.execAvsTempRead t0 t1 t2 s
  | .avsAlert status => Sys2Proof.Machine.execAvsAlert status s
  | .domainOn req d => Sys2Proof.Machine.execDomainOn req d s
  | .domainOff req d => Sys2Proof.Machine.execDomainOff req d s
  | .domainSwitchDone => Sys2Proof.Machine.execDomainSwitchDone s
  | .segCheck failed => Sys2Proof.Machine.execSegCheck failed s
  | .icEval d nv ma temp => Sys2Proof.Machine.execIcEval d nv ma temp s
  | .telemRecord volts amps mw tj => Sys2Proof.Machine.execTelemRecord volts amps mw tj s
  | .energyLog => Sys2Proof.Machine.execEnergyLog s
  | .envSetWrite req val => Sys2Proof.Machine.execEnvSetWrite req val s
  | .envHeldApply tray => Sys2Proof.Machine.execEnvHeldApply tray s
  | .capWrite req val => Sys2Proof.Machine.execCapWrite req val s
  | .governorUs => Sys2Proof.Machine.execGovernorUs s
  | .governorMs tjs => Sys2Proof.Machine.execGovernorMs tjs s
  | .freqSchedule req tbc => Sys2Proof.Machine.execFreqSchedule req tbc s
  | .freqCancel req => Sys2Proof.Machine.execFreqCancel req s
  | .freqVoltageRaise => Sys2Proof.Machine.execFreqVoltageRaise s
  | .freqLevelHold => Sys2Proof.Machine.execFreqLevelHold s
  | .freqSwitch => Sys2Proof.Machine.execFreqSwitch s
  | .freqVoltageLower => Sys2Proof.Machine.execFreqVoltageLower s
  | .pllUnlock running => Sys2Proof.Machine.execPllUnlock running s
  | .hstFreqWrite req mhz => Sys2Proof.Machine.execHstFreqWrite req mhz s
  | .hstFreqDone => Sys2Proof.Machine.execHstFreqDone s
  | .marginSample cluster slack => Sys2Proof.Machine.execMarginSample cluster slack s
  | .trimApply d => Sys2Proof.Machine.execTrimApply d s
  | .thermThrottleStep tj => Sys2Proof.Machine.execThermThrottleStep tj s
  | .thermRecoverStep tj => Sys2Proof.Machine.execThermRecoverStep tj s
  | .stackTemp m temp => Sys2Proof.Machine.execStackTemp m temp s
  | .thermalTrip tj => Sys2Proof.Machine.execThermalTrip tj s
  | .quenchAssert => Sys2Proof.Machine.execQuenchAssert s
  | .quenchRelease => Sys2Proof.Machine.execQuenchRelease s
  | .airflowHalt => Sys2Proof.Machine.execAirflowHalt s
  | .thermRestart req => Sys2Proof.Machine.execThermRestart req s
  | .heartbeatTick => Sys2Proof.Machine.execHeartbeatTick s
  | .keeperWatchdogExpire => Sys2Proof.Machine.execKeeperWatchdogExpire s
  | .rstCtx page => Sys2Proof.Machine.execRstCtx page s
  | .rstEng unit => Sys2Proof.Machine.execRstEng unit s
  | .rstPart fn => Sys2Proof.Machine.execRstPart fn s
  | .rstChip => Sys2Proof.Machine.execRstChip s
  | .resetDone level target => Sys2Proof.Machine.execResetDone level target s
  | .resetBoundExpire level target units => Sys2Proof.Machine.execResetBoundExpire level target units s
  | .dumpGo req fn => Sys2Proof.Machine.execDumpGo req fn s
  | .dumpMaxMs fn written => Sys2Proof.Machine.execDumpMaxMs fn written s
  | .dumpDone fn fail => Sys2Proof.Machine.execDumpDone fn fail s
  | .testReschedule test page => Sys2Proof.Machine.execTestReschedule test page s
  | .testResume fn => Sys2Proof.Machine.execTestResume fn s
  | .logRecordWrite outs0 outs1 flash => Sys2Proof.Machine.execLogRecordWrite outs0 outs1 flash s
  | .stateRecordRetry => Sys2Proof.Machine.execStateRecordRetry s
  | .ckptStart => Sys2Proof.Machine.execCkptStart s
  | .sectorErase d fails flash => Sys2Proof.Machine.execSectorErase d fails flash s
  | .incidentClose => Sys2Proof.Machine.execIncidentClose s
  | .generate => Sys2Proof.Machine.execGenerate s
  | .install leaf chain anchors trust hostErr => Sys2Proof.Machine.execInstall leaf chain anchors trust hostErr s
  | .keyAbort => Sys2Proof.Machine.execKeyAbort s
  | .logRead => Sys2Proof.Machine.execLogRead s
  | .stage req hostErr sigOk => Sys2Proof.Machine.execStage req hostErr sigOk s
  | .stageDone pieces hostErr flashErr => Sys2Proof.Machine.execStageDone pieces hostErr flashErr s
  | .activate req restart => Sys2Proof.Machine.execActivate req restart s
  | .confirm req => Sys2Proof.Machine.execConfirm req s
  | .confirmTimeout => Sys2Proof.Machine.execConfirmTimeout s
  | .commitSvn req => Sys2Proof.Machine.execCommitSvn req s
  | .fwuAbort req => Sys2Proof.Machine.execFwuAbort req s
  | .exitFog req strapLow => Sys2Proof.Machine.execExitFog req strapLow s
  | .keeperStart sigOk strapLow => Sys2Proof.Machine.execKeeperStart sigOk strapLow s
  | .status edges crcOk busy => Sys2Proof.Machine.execStatus edges crcOk busy s
  | .regRead page off busy extra => Sys2Proof.Machine.execRegRead page off busy extra s
  | .regWrite page off val busy extra => Sys2Proof.Machine.execRegWrite page off val busy extra s
  | .setEnvelope val busy extra => Sys2Proof.Machine.execSetEnvelope val busy extra s
  | .restart busy extra => Sys2Proof.Machine.execRestart busy extra s
  | .stop addr words busy extra => Sys2Proof.Machine.execStop addr words busy extra s
  | .resetChip addr busy extra => Sys2Proof.Machine.execResetChip addr busy extra s
  | .enterFog addr busy extra => Sys2Proof.Machine.execEnterFog addr busy extra s
  | .fogExit strapLow busy extra => Sys2Proof.Machine.execFogExit strapLow busy extra s
  | .laserReport w0 w1 w2 w3 busy extra => Sys2Proof.Machine.execLaserReport w0 w1 w2 w3 busy extra s
  | .standbyAddr val busy extra => Sys2Proof.Machine.execStandbyAddr val busy extra s
  | .logSeek w0 w1 w2 busy extra => Sys2Proof.Machine.execLogSeek w0 w1 w2 busy extra s
  | .logNext busy extra => Sys2Proof.Machine.execLogNext busy extra s
  | .telem half busy extra => Sys2Proof.Machine.execTelem half busy extra s
  | .fwBegin slot busy extra => Sys2Proof.Machine.execFwBegin slot busy extra s
  | .fwData chunk bytes sigOk flashErr busy extra => Sys2Proof.Machine.execFwData chunk bytes sigOk flashErr busy extra s
  | .fwEnd flashErr busy extra => Sys2Proof.Machine.execFwEnd flashErr busy extra s
  | .ksbMalformedFrame op e crcOk => Sys2Proof.Machine.execKsbMalformedFrame op e crcOk s
  | .ksbStall op e => Sys2Proof.Machine.execKsbStall op e s
  | .peek req fn => Sys2Proof.Machine.execPeek req fn s
  | .traceMark req fn val => Sys2Proof.Machine.execTraceMark req fn val s
  | .traceDisable req fn hostErr => Sys2Proof.Machine.execTraceDisable req fn hostErr s
  | .twDigest fn held hostErr => Sys2Proof.Machine.execTwDigest fn held hostErr s
  | .powerOnBoot e => Sys2Proof.Machine.execPowerOnBoot e s
  | .bootStall status => Sys2Proof.Machine.execBootStall status s
  | .aonResetAssert c0 c1 key => Sys2Proof.Machine.execAonResetAssert c0 c1 key s
  | .powerLoss c0 c1 key => Sys2Proof.Machine.execPowerLoss c0 c1 key s
  | .airflowFailNHigh e => Sys2Proof.Machine.execAirflowFailNHigh e s
  | .farLinkDown d => Sys2Proof.Machine.execFarLinkDown d s
  | .chcAccess n op err => Sys2Proof.Machine.execChcAccess n op err s
  | .xltInvalDone fn => Sys2Proof.Machine.execXltInvalDone fn s
  | .colCqResetDone fn k => Sys2Proof.Machine.execColCqResetDone fn k s
  | .logReadDone hostErr => Sys2Proof.Machine.execLogReadDone hostErr s
  | .keyCmdDone verified hostErr => Sys2Proof.Machine.execKeyCmdDone verified hostErr s

end Sys2Proof.Machine
end

