-- ==== Sys2Proof/Machine/Idle.lean ====
section
/-!
DEFINITION. What the block does when no command waits: its clock goes on, the cores that run a kernel issue from their code, and the trace
queues drain (R52, R131, R139, R559).
-/

namespace Sys2Proof.Machine

/-- Whether every operation of a class is masked lane by lane (R133): VEC, VCVT and VUPD. -/
def laneClass (w : Nat) : Bool := within 6 8 (bits w 63 60)

/-- Whether a word that a core would issue is a vector operation, or an MMA whose mask lets it issue: what the issue level limits (R454). -/
def State.levelled (s : State) (c w : Nat) : Bool :=
  laneClass w || (decide (bits w 63 60 = 4) && bit ((s.core c).mask (bits w 51 49) (bit w 48)) 0)

/-- Cycles of CLK_CORE before a nanosecond of the TBC. -/
def State.coreCycles (s : State) (t : Nat) : Nat := t * s.rg R.CLK_FREQ_STATUS_FREQ pClk / 1000

/-- Whether the level of a core lets no array step or vector operation issue in this cycle (R454): of each window of 64 cycles the first LVL
are used, the windows counted from TBC 0 (DESIGN CHOICE, log entry 142). -/
def State.levelWaits (s : State) (c : Nat) : Bool := decide (NMap.get 0 s.pwr.lvl c ≤ s.coreCycles s.tbc % 64)

/-- A core that can issue fetches the word at PC and issues what it spells (R131, R136–R139); one that spells no listed operation raises
ILLEGAL_OP, the first check at issue (R138, R610), and is a no-op where it would not issue (R133): DEDUCED, log entry 134. When a core
issues, beside the commands of the queue, is a DESIGN CHOICE: log entry 122. -/
def State.coreTick (s : State) (c : Nat) : State :=
  if s.canIssue c = false then s
  else
    match s.fetchCode c [] with
    | some e =>
      let t := s.fetched c
      if e = waitCode then s else (if e = St.IFETCH_UE then t.raiseCore c Er.CORE_IFETCH_UE else t).takeExc c e
    | none =>
      let w := s.codeWord c
      if s.levelled c w && s.levelWaits c then s.cnt pPwr Cn.PWR_THROTTLE_CYCLES (s.coreCycles (s.tbc + 1) - s.coreCycles s.tbc)
      else
      match decodeInstr c w with
      | none =>
        if laneClass w = false ∧ bit ((s.core c).mask (bits w 51 49) (bit w 48)) 0 = false then (s.fetched c).retire c (s.pc c + 8)
        else (s.fetched c).takeExc c St.ILLEGAL_OP
      | some i => match exec i s with
        | .next t => t
        | .fault _ => s
        | .refused _ => s

/-- The cores that run a kernel. -/
def State.runningCores (s : State) : List Nat := (List.range 1024).filter (fun c => decide (s.runState c = 1))

/-- The data flits at the head of a port's queues that would be sent next on VC1–VC3. -/
def State.heads (s : State) (p : Nat) : List Flit :=
  let x := s.port p
  [1, 2, 3].filterMap (fun vc => (x.vcQueue vc).bind (fun k => (x.queue k).head?))

/-- A port whose link is up sends what it may, and the cycles of CLK_LNK in which a flit waits for a credit or a telemetry flit for a token
are counted (R312, R313, R321): 25 in 16 ns (log entry 131). -/
def State.portTick (s : State) (p : Nat) : State :=
  if s.lnkUp p = false ∨ (s.port p).waiting = 0 then s
  else
    let s := s.pump p
    let x := s.port p
    let cycles := (s.tbc + 1) * 25 / 16 - s.tbc * 25 / 16
    let starved := (s.heads p).any (fun f => decide (creditOf x.sent f.vc = creditOf x.grant f.vc))
    let held := (s.heads p).any (fun f => f.telem && decide (x.tokens < 102400))
    let s := if starved then s.cnt (pLnk p) Cn.LNK_CREDIT_STALL cycles else s
    if held then s.cnt (pLnk p) Cn.LNK_TELEM_HOLD cycles else s

/-- A nanosecond passes: the TBC counts (R52, R342), the ports send what waits for a credit or a token (R312), each core that runs a kernel
issues one instruction where it can (R131), and the queued entries of every trace that runs are written (R559). -/
def State.idle (s : State) : State :=
  let s := s.tbcTick
  let s := (List.range 16).foldl State.portTick s
  let s := s.runningCores.foldl State.coreTick s
  if s.domOn 23 then s.dbg.foldl (fun s e => s.traceFlush e.1) s else s

end Sys2Proof.Machine
end

