-- ==== Sys2Proof/WellFormed.lean ====
section
/-!
DEFINITION. Well-formed commands: every operand within the range that the spec gives it (functions R403, pages R605, cores and clusters
R35, ports R285, queues R406, flows R332, instruction fields R137,
scratchpad banks R178, command classes R415, host links R402).
-/

namespace Sys2Proof

/-- Below a bound. -/
def lt (n x : Nat) : Bool := decide (x < n)

/-- The fields of form R (R137). -/
def RForm.wf (x : RForm) : Bool :=
  lt 1024 x.core && lt 8 x.pred && lt 32 x.d && lt 32 x.a && lt 32 x.b && lt 32 x.c && lt (2 ^ 28) x.mod

/-- The fields of form I (R137). -/
def IForm.wf (x : IForm) : Bool := lt 1024 x.core && lt 8 x.pred && lt 32 x.d && lt 32 x.a && lt 64 x.mod && lt (2 ^ 32) x.imm

/-- The fields of form M (R137). -/
def MForm.wf (x : MForm) : Bool :=
  lt 1024 x.core && lt 8 x.pred && lt 16 x.ta && lt 16 x.tb && lt 8 x.bank && lt 4 x.kind && lt 16 x.tai && lt 16 x.tbi && lt 64 x.m1 && lt 256 x.n1
  && lt 4096 x.rsv

/-- A flit of a port (R306). -/
def RxFlit.wf (f : RxFlit) : Bool := lt 16 f.port && (f.raw.length == 256) && f.raw.all (lt 256) && lt (2 ^ 64) f.rx.count

/-- An access of a cluster host core: within a line, or naturally aligned on a page. -/
def ChcOp.wf : ChcOp → Bool
  | .load a len => lt (2 ^ 48) a && lt 65 (a % 64 + len)
  | .fetch a len => lt (2 ^ 48) a && lt 65 (a % 64 + len)
  | .store a bytes => lt (2 ^ 48) a && lt 65 (a % 64 + bytes.length) && bytes.all (lt 256)
  | .clean a => lt (2 ^ 48) a
  | .flush a => lt (2 ^ 48) a
  | .inval a => lt (2 ^ 48) a
  | .regRead c off width => lt 16 c && lt 4096 off && [32, 64].contains width
  | .regWrite c off width _ => lt 16 c && lt 4096 off && [32, 64].contains width

/-- Whether every operand of a command lies in its range. -/
def Instr.wf : Instr → Bool
  | .registerWrite fn page off width val _ => lt 256 fn && lt 4096 page && lt 4096 off && [8, 16, 32, 64].contains width && lt (2 ^ 64) val
  | .ctrlResetReq fn page _ => lt 256 fn && lt 4096 page
  | .ctrlEnableSet fn page => lt 256 fn && lt 4096 page
  | .ctrlEnableClear fn page => lt 256 fn && lt 4096 page
  | .ctrlQuiesce fn page _ => lt 256 fn && lt 4096 page
  | .ctrlSelftestAllow fn page _ => lt 256 fn && lt 4096 page
  | .quiesceDone page => lt 4096 page
  | .errStatusClear fn page mask _ => lt 256 fn && lt 4096 page && lt (2 ^ 32) mask
  | .errInject fn page mask => lt 256 fn && lt 4096 page && lt (2 ^ 32) mask
  | .cntClear fn page n _ => lt 256 fn && lt 4096 page && lt 4 n
  | .cntReadLow fn page n => lt 256 fn && lt 4096 page && lt 4 n
  | .cfgDigestUpdate page => lt 4096 page
  | .tbcCorrect => true
  | .rxClockStop port _ => lt 16 port
  | .nop x => x.wf
  | .halt x => x.wf
  | .brk x => x.wf
  | .fence x => x.wf
  | .csrr x => x.wf
  | .add x => x.wf
  | .sub x => x.wf
  | .mul x => x.wf
  | .and x => x.wf
  | .or x => x.wf
  | .xor x => x.wf
  | .shl x => x.wf
  | .shr x => x.wf
  | .sra x => x.wf
  | .min x => x.wf
  | .max x => x.wf
  | .minu x => x.wf
  | .maxu x => x.wf
  | .addi x => x.wf
  | .subi x => x.wf
  | .muli x => x.wf
  | .andi x => x.wf
  | .ori x => x.wf
  | .xori x => x.wf
  | .shli x => x.wf
  | .shri x => x.wf
  | .srai x => x.wf
  | .mini x => x.wf
  | .maxi x => x.wf
  | .minui x => x.wf
  | .maxui x => x.wf
  | .li x => x.wf
  | .lui x => x.wf
  | .beq x => x.wf
  | .bne x => x.wf
  | .blt x => x.wf
  | .bge x => x.wf
  | .bltu x => x.wf
  | .bgeu x => x.wf
  | .jmp x => x.wf
  | .tld x => x.wf
  | .tst x => x.wf
  | .tofs x => x.wf
  | .tdim x => x.wf
  | .mma x => x.op.wf
  | .mmaDone core => lt 1024 core
  | .aclr x => x.wf
  | .amerge x => x.wf
  | .arow x => x.wf
  | .ast x => x.wf
  | .astDone core => lt 1024 core
  | .aloss x => x.wf
  | .vaddF x => x.wf
  | .vsubF x => x.wf
  | .vmulF x => x.wf
  | .vfmaF x => x.wf
  | .vmaxF x => x.wf
  | .vminF x => x.wf
  | .vabsF x => x.wf
  | .vnegF x => x.wf
  | .vdivF x => x.wf
  | .vsqrtF x => x.wf
  | .vrsqF x => x.wf
  | .vaddI x => x.wf
  | .vsubI x => x.wf
  | .vmulI x => x.wf
  | .vand x => x.wf
  | .vor x => x.wf
  | .vxor x => x.wf
  | .vshl x => x.wf
  | .vshr x => x.wf
  | .vsra x => x.wf
  | .vcmpeqF x => x.wf
  | .vcmpltF x => x.wf
  | .vcmpleF x => x.wf
  | .vcmpeqI x => x.wf
  | .vcmpltI x => x.wf
  | .vsel x => x.wf
  | .vredsumF x => x.wf
  | .vredmaxF x => x.wf
  | .vredsumI x => x.wf
  | .vbcast x => x.wf
  | .vcvt x => x.wf
  | .vupd x => x.wf
  | .squant x => x.op.wf
  | .squantDone core => lt 1024 core
  | .rngld x => x.wf
  | .rngst x => x.wf
  | .rngdraw x => x.wf
  | .nwadd x => x.wf
  | .nwclose x => x.wf
  | .nwclr x => x.wf
  | .sigwait x => x.wf
  | .sigwaitMet core => lt 1024 core
  | .sigset x => x.wf
  | .sigadd x => x.wf
  | .dmaq x => x.wf
  | .dmaqSpace core => lt 1024 core
  | .fenceDone core => lt 1024 core
  | .sld x => x.wf
  | .sst x => x.wf
  | .vld x => x.wf
  | .vst x => x.wf
  | .vldr x => x.wf
  | .vstr x => x.wf
  | .kernelEnd core => lt 1024 core
  | .ctxSave fn core => lt 256 fn && lt 1024 core.val
  | .ctxRestore fn core => lt 256 fn && lt 1024 core.val
  | .ctxDone core => lt 1024 core.val
  | .katReq fn core pattern mask => lt 256 fn && lt 1024 core && lt 64 pattern && lt 16 mask
  | .katPatternDone core array _ => lt 1024 core && lt 4 array
  | .katAbandon core array => lt 1024 core && lt 4 array
  | .arrayFence core array => lt 1024 core && lt 4 array
  | .bankRequestAged core bank => lt 1024 core && lt 32 bank
  | .copy eng _ => lt 1088 eng
  | .convert eng _ => lt 1088 eng
  | .fill eng _ => lt 1088 eng
  | .transpose eng _ => lt 1088 eng
  | .dmaPut eng _ => lt 1088 eng
  | .dmaGet eng _ => lt 1088 eng
  | .dmaComplete eng q _ => lt 1088 eng && lt 4 q
  | .stepArm req fn => lt 256 req && lt 256 fn
  | .stepDisarm req fn => lt 256 req && lt 256 fn
  | .stepVerdict q => lt 4096 q
  | .stepCommit q => lt 4096 q
  | .snapshot q => lt 4096 q
  | .snapshotDeferredStart fn => lt 256 fn
  | .snapshotDone fn _ => lt 256 fn
  | .hbmRead _ _ _ => true
  | .hbmWrite _ bytes => bytes.val.all (lt 256)
  | .wcbAgeDrain m _ => lt 8 m
  | .wcbSpace m => lt 8 m
  | .parityError _ _ _ => true
  | .parityRepeat m ch _ => lt 8 m && lt 32 ch
  | .chRetrainDone m ch _ => lt 8 m && lt 32 ch
  | .scrubRead m _ _ => lt 8 m
  | .farRead _ _ _ => true
  | .farWrite _ bytes _ => bytes.all (lt 256)
  | .farTimeout _ _ => true
  | .farLinkRetrain d _ => lt 4 d
  | .farDevEvent frame => lt (2 ^ 21) frame
  | .xltInval req fn vpn count => lt 256 req && lt 256 fn && lt (2 ^ 21) vpn && lt (2 ^ 21) count
  | .flipTbcWrite req page _ => lt 256 req && lt 4096 page
  | .flipCancel req page => lt 256 req && lt 4096 page
  | .scheduledFlip page => lt 4096 page
  | .alloc req fn tier flags => lt 256 req && lt 256 fn && lt 4 tier && lt 16 flags
  | .free req fn tier flags => lt 256 req && lt 256 fn && lt 4 tier && lt 16 flags
  | .quarantine req fn tier flags => lt 256 req && lt 256 fn && lt 4 tier && lt 16 flags
  | .frameReqDone fn _ => lt 256 fn
  | .frameCntRead req page _ _ => lt 256 req && lt 4096 page
  | .memTestAbandon m ch => lt 8 m && lt 32 ch
  | .tgGo req m ch pattern mode => lt 256 req && lt 8 m && lt 32 ch && lt 64 pattern && lt 4 mode
  | .tgStop req m ch => lt 256 req && lt 8 m && lt 32 ch
  | .tgDone m ch _ _ _ _ => lt 8 m && lt 32 ch
  | .memMarginGo req m mask param => lt 256 req && lt 8 m && lt (2 ^ 32) mask && lt 4 param
  | .memMarginDone m _ _ => lt 8 m
  | .portTrain p _ _ _ => lt 16 p
  | .laneLockTimeout p => lt 16 p
  | .trainTimeout p => lt 16 p
  | .backoffExpire p => lt 16 p
  | .char f => f.wf
  | .charSend p => lt 16 p
  | .charStale p => lt 16 p
  | .miscabledReject p => lt 16 p
  | .peerExpectWrite p _ => lt 16 p
  | .hello f _ _ => f.wf
  | .response f _ _ => f.wf
  | .cert f _ _ _ => f.wf
  | .proof f _ _ => f.wf
  | .finished port raw rx => RxFlit.wf ⟨port, raw, rx⟩
  | .dataFlit f => f.wf
  | .idleFlit f => f.wf
  | .reject f => f.wf
  | .rekey f => f.wf
  | .rekeyAck f => f.wf
  | .retrainReq f => f.wf
  | .replayTimeout p => lt 16 p
  | .laneLockLoss p lane => lt 16 p && lt 8 lane
  | .laneCorrCheck p lane => lt 16 p && lt 8 lane
  | .keyCtrlRekey p => lt 16 p
  | .keyLifeExpire p => lt 16 p
  | .keyFlitLimit p => lt 16 p
  | .rekeyAckTimeout p => lt 16 p
  | .graceExpire p => lt 16 p
  | .creditStarve p vc => lt 16 p && lt 4 vc
  | .vc0StarveDown p => lt 16 p
  | .hostileWindowEnd p => lt 16 p
  | .quarRelease p => lt 16 p
  | .laneMarginGo p lane => lt 16 p && lt 8 lane
  | .scanAbandon p => lt 16 p
  | .laneMarginDone p _ _ => lt 16 p
  | .laserSample inp _ _ _ _ => lt 4 inp
  | .laserDaily inp => lt 4 inp
  | .laserBaselineSet inp => lt 4 inp
  | .put vc _ => lt 4 vc
  | .getReq vc _ => lt 4 vc
  | .getResp vc _ => lt 4 vc
  | .atomicAdd vc _ => lt 4 vc
  | .signal vc => lt 4 vc
  | .ack vc => lt 4 vc
  | .nak vc => lt 4 vc
  | .time => true
  | .ackTimer flow => lt (2 ^ 20) flow
  | .flowRto flow => lt (2 ^ 20) flow
  | .flowOpen req fn => lt 256 req && lt 256 fn
  | .flowClose req fn => lt 256 req && lt 256 fn
  | .flowReset req fn => lt 256 req && lt 256 fn
  | .flowRead req fn => lt 256 req && lt 256 fn
  | .patchWrite fn _ => lt 256 fn
  | .maddrWrite fn _ => lt 256 fn
  | .daymarkRecompute => true
  | .agreeBoundary => true
  | .dmApprove req => lt 256 req
  | .dmApproveDone => true
  | .epochWrite req _ => lt 256 req
  | .collLaunch q => lt 4096 q
  | .collQueueSpace q => lt 4096 q
  | .collOpStart fn => lt 256 fn
  | .collHeaderRx flow => lt (2 ^ 20) flow
  | .collDataRx flow => lt (2 ^ 20) flow
  | .collOpDone fn gid => lt 256 fn && lt 4096 gid
  | .collAbortRx flow => lt (2 ^ 20) flow
  | .verdictFrameRx flow => lt (2 ^ 20) flow
  | .colCqReset req fn => lt 256 req && lt 256 fn
  | .collQuadsApply fn => lt 256 fn
  | .cqDoorbell fn k p => lt 256 fn && lt 4096 k && lt (2 ^ 32) p
  | .cmdFetch cls _ _ => lt 4 cls
  | .kernelLaunch q => lt 4096 q
  | .dma q _ _ => lt 4096 q
  | .signalWait q => lt 4096 q
  | .signalWaitMet q => lt 4096 q
  | .signalSet q => lt 4096 q
  | .powerHint q => lt 4096 q
  | .fenceCmd q => lt 4096 q
  | .fenceCmdDone q num => lt 4096 q && lt (2 ^ 32) num
  | .quiesce q => lt 4096 q
  | .quiesceResume q => lt 4096 q
  | .cmdComplete q num => lt 4096 q && lt (2 ^ 32) num
  | .funcStop req fn => lt 256 req && lt 256 fn
  | .funcCtrlEn req fn _ => lt 256 req && lt 256 fn
  | .resGo req fn => lt 256 req && lt 256 fn
  | .bar4Access fn _ width _ => lt 256 fn && [8, 16, 32, 64].contains width
  | .queCqReset req fn => lt 256 req && lt 256 fn
  | .cqResume req fn => lt 256 req && lt 256 fn
  | .cqEnable req fn _ => lt 256 req && lt 256 fn
  | .eqDoorbell fn k c => lt 256 fn && lt 1024 k && lt (2 ^ 32) c
  | .eqEnable req fn => lt 256 req && lt 256 fn
  | .eqDisable req fn => lt 256 req && lt 256 fn
  | .mergeWindowEnd q slot => lt 1024 q && lt 32 slot
  | .msixCoalTimer q => lt 1024 q
  | .eqWriteFail rec => lt 1024 rec.queue
  | .flrVf fn => lt 256 fn
  | .flrPf0 => true
  | .pcieLinkTrain flitMode gts width => !flitMode || ([16, 32, 64].contains gts && [4, 8, 16].contains width)
  | .perstAssert => true
  | .getVersion => true
  | .getCapabilities => true
  | .negotiateAlgorithms _ _ => true
  | .getDigests => true
  | .getCertificate slot _ _ => lt 256 slot
  | .challenge slot _ _ => lt 256 slot
  | .getMeasurements _ index _ _ => lt 256 index
  | .respondIfReady => true
  | .spdmUnsupported _ => true
  | .avsReadback r _ => lt 3 r
  | .avsFailRetry r => lt 3 r
  | .avsCurrentRead _ => true
  | .avsTempRead _ _ _ => true
  | .avsAlert st => lt 65536 st
  | .domainOn req d => lt 256 req && lt 25 d
  | .domainOff req d => lt 256 req && lt 25 d
  | .domainSwitchDone => true
  | .segCheck _ => true
  | .icEval d _ _ _ => lt 25 d
  | .telemRecord _ _ _ _ => true
  | .energyLog => true
  | .envSetWrite req _ => lt 256 req
  | .envHeldApply _ => true
  | .capWrite req _ => lt 256 req
  | .governorUs => true
  | .governorMs _ => true
  | .freqSchedule req _ => lt 256 req
  | .freqCancel req => lt 256 req
  | .freqVoltageRaise => true
  | .freqLevelHold => true
  | .freqSwitch => true
  | .freqVoltageLower => true
  | .pllUnlock _ => true
  | .hstFreqWrite req mhz => lt 256 req && lt 4096 mhz
  | .hstFreqDone => true
  | .marginSample cluster _ => lt 64 cluster
  | .trimApply d => lt 25 d
  | .thermThrottleStep _ => true
  | .thermRecoverStep _ => true
  | .stackTemp m _ => lt 8 m
  | .thermalTrip _ => true
  | .quenchAssert => true
  | .quenchRelease => true
  | .airflowHalt => true
  | .thermRestart req => lt 256 req
  | .heartbeatTick => true
  | .keeperWatchdogExpire => true
  | .rstCtx page => lt 4096 page
  | .rstEng unit => lt 4096 unit.page && unit.array.all (fun a => lt 4 a)
  | .rstPart fn => lt 256 fn
  | .rstChip => true
  | .resetDone level _ => lt 5 level
  | .resetBoundExpire level _ units => lt 5 level && units.all (lt 0x2000)
  | .dumpGo req fn => lt 256 req && lt 256 fn
  | .dumpMaxMs fn _ => lt 256 fn
  | .dumpDone fn _ => lt 256 fn
  | .testReschedule test page => lt 3 test && lt 4096 page
  | .testResume fn => lt 256 fn
  | .logRecordWrite _ _ _ => true
  | .stateRecordRetry => true
  | .ckptStart => true
  | .sectorErase d _ _ => lt 2 d
  | .incidentClose => true
  | .generate => true
  | .install _ _ _ _ _ => true
  | .keyAbort => true
  | .logRead => true
  | .stage req _ _ => lt 256 req
  | .stageDone pieces _ _ => lt 512 pieces
  | .activate req _ => lt 256 req
  | .confirm req => lt 256 req
  | .confirmTimeout => true
  | .commitSvn req => lt 256 req
  | .fwuAbort req => lt 256 req
  | .exitFog req _ => lt 256 req
  | .keeperStart _ _ => true
  | .status _ _ _ => true
  | .regRead page off _ _ => lt 4096 page && lt 4096 off
  | .regWrite page off val _ _ => lt 4096 page && lt 4096 off && lt (2 ^ 32) val
  | .setEnvelope val _ _ => lt (2 ^ 32) val
  | .restart _ _ => true
  | .stop addr words _ _ => lt (2 ^ 24) addr && words.all (lt (2 ^ 32))
  | .resetChip addr _ _ => lt (2 ^ 24) addr
  | .enterFog addr _ _ => lt (2 ^ 24) addr
  | .fogExit _ _ _ => true
  | .laserReport w0 w1 w2 w3 _ _ => lt (2 ^ 32) w0 && lt (2 ^ 32) w1 && lt (2 ^ 32) w2 && lt (2 ^ 32) w3
  | .standbyAddr val _ _ => lt (2 ^ 32) val
  | .logSeek w0 w1 w2 _ _ => lt (2 ^ 32) w0 && lt (2 ^ 32) w1 && lt (2 ^ 32) w2
  | .logNext _ _ => true
  | .telem half _ _ => lt 2 half
  | .fwBegin slot _ _ => lt (2 ^ 32) slot
  | .fwData chunk bytes _ _ _ _ => lt (2 ^ 24) chunk && bytes.all (lt 256)
  | .fwEnd _ _ _ => true
  | .ksbMalformedFrame op _ _ => lt 256 op
  | .ksbStall op _ => lt 256 op
  | .peek req fn => lt 256 req && lt 256 fn
  | .traceMark req fn _ => lt 256 req && lt 256 fn
  | .traceDisable req fn _ => lt 256 req && lt 256 fn
  | .twDigest fn _ _ => lt 256 fn
  | .powerOnBoot _ => true
  | .bootStall st => lt 65536 st
  | .aonResetAssert _ _ _ => true
  | .powerLoss _ _ _ => true
  | .airflowFailNHigh _ => true
  | .farLinkDown d => lt 4 d
  | .chcAccess n op err => lt 64 n && op.wf && lt 3 err
  | .xltInvalDone fn => lt 256 fn
  | .colCqResetDone fn k => lt 256 fn && lt 4096 k
  | .logReadDone _ => true
  | .keyCmdDone _ _ => true

end Sys2Proof
end

