-- ==== Sys2Proof/Safety.lean ====
section
/-!
DEFINITION. The terms of the statements: when an instruction acts, what it leaves alone, and what a read of memory sees.
-/

namespace Sys2Proof.Machine

/-- A step of the state ends in a next state: no fault, no refusal. -/
def stepsOn (s : State) : Prop := ∃ t, step s = .next t

/-- A command executed in a state leaves a next state. -/
def completes (c : Instr) (s : State) : Prop := ∃ t, exec c s = .next t

/-- Every command waiting is well-formed. -/
def pendingWf (s : State) : Bool := s.pending.all Instr.wf

/-! ### When an instruction acts -/

/-- A core can issue the instruction at its PC: it runs and waits for nothing, and the fetch fails with no code (R131, R132). -/
def State.ready (s : State) (c : Nat) : Bool := s.canIssue c && (s.fetchCode c []).isNone

/-- The state in which an instruction that reaches memory, a bank or a generator runs: its word is fetched (R131), and the units have done
what was issued to them before (R132). -/
def State.ran (s : State) (c : Nat) : State := (s.fetched c).catchUp c

/-- The state in which an instruction that reaches a bank runs: an MMA that writes one of these banks has ended (R94). -/
def State.found (s : State) (c banks : Nat) : State := (s.ran c).waitBanks c banks

/-- Lane `i` of the lane mask of an instruction (R133). -/
def State.laneOn (s : State) (c pred : Nat) (pneg : Bool) (i : Nat) : Bool := bit ((s.core c).mask pred pneg) i

/-- An instruction of form R that is not masked lane by lane acts (R133), and meets no soft error. -/
def State.acts (s : State) (x : RForm) : Bool := s.ready x.core && s.laneOn x.core x.pred x.pneg 0 && x.ups.isEmpty

/-- An instruction of form I acts, and meets no soft error. -/
def State.actsI (s : State) (x : IForm) : Bool := s.ready x.core && s.laneOn x.core x.pred x.pneg 0 && x.ups.isEmpty

/-- An instruction of form M acts, and meets no soft error. -/
def State.actsM (s : State) (x : MForm) : Bool := s.ready x.core && s.laneOn x.core x.pred x.pneg 0 && x.ups.isEmpty

/-- An instruction masked lane by lane issues whatever its mask (R133), and meets no soft error. -/
def State.issues (s : State) (x : RForm) : Bool := s.ready x.core && x.ups.isEmpty

/-! ### What is left alone -/

/-- One of the counters CNTn of a page (R12). -/
def Fld.isCounter (f : Fld) : Bool := (List.range 4).any (fun n => decide (f.id = (cntCount n).id))

/-- Every register field but the counters of pages and the fields of `l` (field and instance) reads as before. -/
def State.sameRegs (s t : State) (l : List (Fld × Nat)) : Prop :=
  ∀ f i, f.isCounter = false → (∀ e ∈ l, ¬(e.1.id = f.id ∧ e.2 = i)) → t.rg f i = s.rg f i

/-- Every byte of memory reads as before. -/
def State.sameMem (s t : State) : Prop := ∀ a, t.rb a = s.rb a

/-- A state with the frames' access counts (R271) and the clusters' translation caches (R269) of another, which a fetch moves. -/
def State.uncounted (t s : State) : State :=
  { t with hbm := { t.hbm with frameCnt := s.hbm.frameCnt, farCnt := s.hbm.farCnt, tlb := s.hbm.tlb } }

/-- Everything but the registers, the cores and what a fetch counts and caches is as before. -/
def State.sameElse (s t : State) : Prop := { t.uncounted s with regs := s.regs, cores := s.cores } = s

/-- Every core but one is as before. -/
def State.sameCores (s t : State) (c : Nat) : Prop := ∀ e, e ≠ c → t.core e = s.core e

/-- A core is as before but for register S[d], one more instruction having completed. -/
def Core.sameButS (k k' : Core) (d : Nat) : Prop := { k' with s := k.s } = k.aged ∧ ∀ j, j ≠ d → k'.rdS j = k.rdS j

/-- A core is as before but for register V[d], one more instruction having completed. -/
def Core.sameButV (k k' : Core) (d : Nat) : Prop := { k' with v := k.v } = k.aged ∧ ∀ j i, j ≠ d → k'.rdV j i = k.rdV j i

/-- A core is as before but for register P[d], one more instruction having completed. -/
def Core.sameButP (k k' : Core) (d : Nat) : Prop := { k' with p := k.p } = k.aged ∧ ∀ j, j ≠ d → k'.rdP j = k.rdP j

/-- A core is as before but for register T[d], one more instruction having completed. -/
def Core.sameButT (k k' : Core) (d : Nat) : Prop := { k' with t := k.t } = k.aged ∧ ∀ j, j ≠ d → k'.rdT j = k.rdT j

/-- The frame of an instruction that changes its own core, PC and counters only: PC becomes `pc`. -/
def State.moved (s t : State) (c pc : Nat) : Prop :=
  t.pc c = pc % 2 ^ 64 ∧ s.sameCores t c ∧ s.sameRegs t [(R.CORE_PC_PC, pCore c)] ∧ s.sameElse t ∧ s.sameMem t

/-- The frame of an instruction that also adds to the event counts of its core and of its function's step (R127, R231). -/
def State.movedTally (s t : State) (c pc : Nat) : Prop :=
  t.pc c = pc % 2 ^ 64 ∧ s.sameCores t c ∧ s.sameMem t
  ∧ s.sameRegs t [(R.CORE_PC_PC, pCore c), (R.CORE_ACC_STEP_BW_COUNT, pCore c), (R.CORE_ACC_STEP_RA_COUNT, pCore c),
      (R.CORE_ACC_STEP_OVF_COUNT, pCore c), (R.CORE_ACC_STEP_NF_COUNT, pCore c)]
  ∧ { t.uncounted s with regs := s.regs, cores := s.cores, step := s.step } = s

/-! ### Exceptions -/

/-- A core has taken an exception with `code` at the PC of `s` (R166): EXC_STATUS and EXC_PC say so, source EXC is recorded, and
the kernel has ended with the code on an idle core. -/
def State.excTaken (s t : State) (c code : Nat) : Prop :=
  t.rg R.CORE_EXC_STATUS_VALID (pCore c) = 1 ∧ t.rg R.CORE_EXC_STATUS_CODE (pCore c) = code
  ∧ t.rg R.CORE_EXC_PC_PC (pCore c) = s.pc c % 2 ^ 64 ∧ t.pc c = s.pc c
  ∧ bit (t.rg R.HDR_ERR_STATUS_ERR (pCore c)) Er.CORE_EXC = true
  ∧ (t.core c).ended = some code ∧ (t.core c).wait = none ∧ t.runState c = 0

/-! ### Memory as a read sees it -/

/-- The byte at a memory address as a read returns it: where a write-combining entry holds it, the entry's (R256). -/
def State.memSeen (s : State) (pa : Nat) : Nat :=
  if spaceOf pa = 2 then wcbByte (s.wcb (stackOf (offOf pa))) (offOf pa) (s.rb pa).toNat else (s.rb pa).toNat

/-- The write-combining buffers hold at most one entry a line, each in the buffer of its stack, and none of a fenced channel (R255, R261). -/
def State.wcbOk (s : State) : Prop :=
  ∀ m, ((s.wcb m).map WcbEntry.line).Nodup
    ∧ ∀ e ∈ s.wcb m, stackOf (64 * e.line) = m ∧ e.line < 2 ^ 58 ∧ s.chFenced m (channelOf (64 * e.line)) = false

/-- `n` bytes from `pa` hold the bytes `bs`, and every other byte reads as before. -/
def State.stored (s t : State) (pa : Nat) (bs : List Nat) : Prop :=
  (∀ i (h : i < bs.length), t.memSeen (pa + i) = bs[i] % 256) ∧ ∀ b, b < pa ∨ pa + bs.length ≤ b → t.memSeen b = s.memSeen b

/-- A local address of an instruction of core `c` names the line at memory address `pa` for writing, and the line can be written now:
its channel holds no request and is not fenced, it holds no entry of a frozen bank of translation (R361), its expander answers. -/
def State.writable (s : State) (c a n pa : Nat) : Prop :=
  s.mapAddr (s.via c) a true false = .ok pa ∧ s.mustWait pa n true = false
  ∧ (spaceOf pa = 2 → s.chFenced (stackOf (offOf pa)) (channelOf (offOf pa)) = false ∧ s.bankFrozen (offOf pa) = false)
  ∧ (spaceOf pa = 3 → s.farUp (offOf pa) = true)

/-! ### Commands of the module's own services -/

/-- Cores, signals and every byte of scratchpads, cluster memory, stacked memory and the far tier are as before. -/
def State.apart (s t : State) : Prop := t.cores = s.cores ∧ t.sig = s.sig ∧ ∀ a, a < Spc 4 → t.rb a = s.rb a

/-- Error source `n` of a page reads 1 in ERR_STATUS (R15). -/
def State.recorded (t : State) (page n : Nat) : Prop := bit (t.rg R.HDR_ERR_STATUS_ERR page) n = true

/-- Frame `f`, of OP `op`, is the oldest sequenced one delivered on a VC outside collective groups; its flow is open and cached, the frame
is next in sequence, from the flow's peer in its incarnation, and passes the checks (R335, R338, R339). -/
def State.arrives (s : State) (vc op : Nat) (f : Frame) : Prop :=
  let x := s.flow f.dflow
  (∃ i, s.rxFind vc (fun f => f.sequenced && ((s.flow f.dflow).grp.isNone || f.op != 1)) = some (i, f)) ∧ f.op = op
  ∧ NMap.get false s.net.cached f.dflow = true ∧ x.state = 1 ∧ f.inc = x.peerInc ∧ f.seq % seqMod = x.rxNext % seqMod ∧ s.frameCheck x f = St.OK

/-- Frame `f`, of unsequenced OP `op`, is the oldest of its OP delivered on a VC, and from the peer of the open flow it names, in its
incarnation (R334, R338). -/
def State.answers (s : State) (vc op : Nat) (f : Frame) : Prop :=
  let x := s.flow f.dflow
  (∃ i, s.rxFind vc (fun f => decide (f.op = op)) = some (i, f)) ∧ x.state = 1 ∧ f.inc = x.peerInc ∧ f.src = x.peerMaddr ∧ f.sflow = x.peerFlow

/-- Command `c` of queue `q`, of OPCODE `op`, is the next to start and nothing holds it (R415, R416, R233). -/
def State.starts (s : State) (q op : Nat) (c : Cmd) : Prop :=
  ∃ i, s.cqFirst q = some (i, c) ∧ s.cmdFind q c.num = some c ∧ c.opcode = op ∧ c.result = none ∧ (c.waitPrev = false ∨ i = 0) ∧ s.stepHolds (s.cmdqFn q) q c = false
    ∧ (s.cqClass q ≠ 0 ∨ (s.cq q).executing < 4)

/-- The command numbered `num` of queue `q` is in flight, started, with the outcome `r`. -/
def State.goes (t : State) (q num : Nat) (r : Option Nat) : Prop := ∃ c, t.cmdFind q num = some c ∧ c.started = true ∧ c.result = r

/-- Frame `f` is the oldest sequenced one on a flow of the group of queue `g`, a PUT in sequence from the flow's peer in its incarnation,
without a signal; `k` says which of the group's flows it is (R335, R372, R380). -/
def State.groupFrame (s : State) (vc flow : Nat) (f : Frame) (g k : Nat) : Prop :=
  let x := s.flow flow
  (∃ i, s.rxFind vc (fun f => f.sequenced && decide (f.dflow = flow)) = some (i, f)) ∧ x.grp = some (g, k) ∧ f.op = 1 ∧ x.state = 1
  ∧ NMap.get false s.net.cached flow = true ∧ f.inc = x.peerInc ∧ f.seq % seqMod = x.rxNext % seqMod ∧ grpCheck s x f = St.OK

/-- The log takes a record at once: replay is done, nothing waits, and both devices work and have erased sectors (R508). -/
def State.logOpen (s : State) : Prop :=
  s.rg R.LOG_LOG_STATUS_STATE pLog ≠ 0 ∧ s.log.ckpt = [] ∧ s.log.stateQ = [] ∧ s.log.retryQ = []
  ∧ ∀ d < 2, (s.fl d).failed = false ∧ 4 ≤ (s.fl d).erasedN

/-- A side-band command of opcode `op` has been accepted and judged, with the result `st` (R547, R548, R551). -/
def State.judged (s t : State) (op st : Nat) : Prop :=
  t.ksb.op = op ∧ t.ksb.result = st ∧ t.ksb.extra = false ∧ t.ksb.accepted = (s.ksb.accepted + 1) % 256
  ∧ t.rg R.KSB_KSB_LAST_WORD0 pKsb = op * 2 ^ 24 + (s.ksb.accepted + 1) % 256 * 2 ^ 16 + st

end Sys2Proof.Machine
end

