-- ==== Sys2Proof/Certificates/Slice0/Obligations.lean ====
section
/-!
DEFINITION. The statements for the provers, chapter by chapter. Each docstring names the rules of spec/ that its statement follows.
-/

open Sys2Proof Sys2Proof.Machine

/-! ### The core's instruction set (04_tile_isa.md) -/

/-- R139: the SALU operations of form R write S[A] op S[B] modulo 2^64 to S[D] and go on to the next instruction; S0 ignores the write.
Nothing else changes but event counts.
R139: the SALU operations of form I write S[A] op sext(IMM) to S[D]; LI writes sext(IMM), and LUI writes IMM to the upper half and
keeps the lower.
It states the completion of: add, sub, mul, and, or, xor, shl, shr, sra, min, max, minu, maxu, addi, subi, muli, andi, ori, xori, shli, shri, srai, mini, maxi,
minui, maxui, li, lui. -/
def Obligations.SaluForms : Prop :=
  (
    ∀ op ∈ ([(Instr.add, fun a b => a + b), (Instr.sub, fun a b => a + (2 ^ 64 - b)), (Instr.mul, fun a b => a * b),
        (Instr.and, fun a b => a &&& b), (Instr.or, fun a b => a ||| b), (Instr.xor, fun a b => a ^^^ b),
        (Instr.shl, fun a b => a * 2 ^ (b % 64)), (Instr.shr, fun a b => a / 2 ^ (b % 64)),
        (Instr.sra, fun a b => (((BitVec.ofNat 64 a).sshiftRight (b % 64)).toNat)),
        (Instr.min, fun a b => if (BitVec.ofNat 64 a).slt (BitVec.ofNat 64 b) then a else b),
        (Instr.max, fun a b => if (BitVec.ofNat 64 a).slt (BitVec.ofNat 64 b) then b else a),
        (Instr.minu, fun a b => if a < b then a else b), (Instr.maxu, fun a b => if a < b then b else a)]
        : List ((RForm → Instr) × (Nat → Nat → Nat))),
    ∀ (s : State) (x : RForm), s.acts x = true → x.mod = 0 →
      ∃ t, exec (op.1 x) s = .next t
        ∧ (t.core x.core).rdS x.d = (if x.d = 0 then 0
            else op.2 ((s.core x.core).rdS x.a) ((s.core x.core).rdS x.b) % 2 ^ 64)
        ∧ (s.core x.core).sameButS (t.core x.core) x.d ∧ s.moved t x.core (s.pc x.core + 8))
  ∧ (
    ∀ op ∈ ([(Instr.addi, fun _ a b => a + b), (Instr.subi, fun _ a b => a + (2 ^ 64 - b)), (Instr.muli, fun _ a b => a * b),
        (Instr.andi, fun _ a b => a &&& b), (Instr.ori, fun _ a b => a ||| b), (Instr.xori, fun _ a b => a ^^^ b),
        (Instr.shli, fun _ a b => a * 2 ^ (b % 64)), (Instr.shri, fun _ a b => a / 2 ^ (b % 64)),
        (Instr.srai, fun _ a b => (((BitVec.ofNat 64 a).sshiftRight (b % 64)).toNat)),
        (Instr.mini, fun _ a b => if (BitVec.ofNat 64 a).slt (BitVec.ofNat 64 b) then a else b),
        (Instr.maxi, fun _ a b => if (BitVec.ofNat 64 a).slt (BitVec.ofNat 64 b) then b else a),
        (Instr.minui, fun _ a b => if a < b then a else b), (Instr.maxui, fun _ a b => if a < b then b else a),
        (Instr.li, fun _ _ b => b), (Instr.lui, fun d _ b => d % 2 ^ 32 + b % 2 ^ 32 * 2 ^ 32)]
        : List ((IForm → Instr) × (Nat → Nat → Nat → Nat))),
    ∀ (s : State) (x : IForm), s.actsI x = true → x.mod = 0 →
      ∃ t, exec (op.1 x) s = .next t
        ∧ (t.core x.core).rdS x.d = (if x.d = 0 then 0
            else op.2 ((s.core x.core).rdS x.d) ((s.core x.core).rdS x.a)
              ((BitVec.ofNat 32 x.imm).signExtend 64).toNat % 2 ^ 64)
        ∧ (s.core x.core).sameButS (t.core x.core) x.d ∧ s.moved t x.core (s.pc x.core + 8))

/-- R139: a branch whose comparison of S[D] with S[A] holds moves PC by 8 × sext(IMM), any other goes on to the next instruction; JMP always
moves it. No register of the core changes.
It states the completion of: beq, bne, blt, bge, bltu, bgeu, jmp. -/
def Obligations.Branches : Prop :=
  ∀ op ∈ ([(Instr.beq, fun d a => d = a), (Instr.bne, fun d a => d ≠ a),
      (Instr.blt, fun d a => (BitVec.ofNat 64 d).toInt < (BitVec.ofNat 64 a).toInt),
      (Instr.bge, fun d a => (BitVec.ofNat 64 d).toInt ≥ (BitVec.ofNat 64 a).toInt),
      (Instr.bltu, fun d a => d < a), (Instr.bgeu, fun d a => d ≥ a), (Instr.jmp, fun _ _ => True)]
      : List ((IForm → Instr) × (Nat → Nat → Prop))),
  ∀ (s : State) (x : IForm), s.actsI x = true → x.mod = 0 →
    let k := s.core x.core
    ∃ t, exec (op.1 x) s = .next t ∧ t.core x.core = k.aged
      ∧ (op.2 (k.rdS x.d) (k.rdS x.a) → s.moved t x.core (s.pc x.core + 8 * ((BitVec.ofNat 32 x.imm).signExtend 64).toNat))
      ∧ (¬op.2 (k.rdS x.d) (k.rdS x.a) → s.moved t x.core (s.pc x.core + 8))

/-- R139: NOP changes nothing but PC; HALT ends the kernel with OK; CSRR reads the value its selector names; BRK takes the exception
BREAK at its PC (R166).
It states the completion of: nop, halt, brk, csrr.
The model's own readings in it: log entry 30. -/
def Obligations.SysClass : Prop :=
  (∀ (s : State) (x : RForm), s.acts x = true → x.mod = 0 →
    (∃ t, exec (.nop x) s = .next t ∧ t.core x.core = (s.core x.core).aged ∧ s.moved t x.core (s.pc x.core + 8))
    ∧ (∃ t, exec (.halt x) s = .next t ∧ t.core x.core = { (s.core x.core).aged with ended := some St.OK }
        ∧ s.moved t x.core (s.pc x.core + 8))
    ∧ (∃ t, exec (.brk x) s = .next t ∧ s.excTaken t x.core St.BREAK))
  ∧ (∀ (s : State) (x : IForm), s.actsI x = true → x.mod = 0 → x.imm < 7 →
    let k := s.core x.core
    ∃ t, exec (.csrr x) s = .next t
      ∧ (t.core x.core).rdS x.d = (if x.d = 0 then 0 else
          [s.coreTbc, x.core, k.layer, k.op, k.fn, s.rg R.CORE_SCALE_CTRL_HEAD (pCore x.core), s.rg R.COL_STEP_COUNT_COUNT (pCol k.fn)].getD x.imm 0
            % 2 ^ 64)
      ∧ k.sameButS (t.core x.core) x.d ∧ s.moved t x.core (s.pc x.core + 8))

/-- R133: an instruction that is not masked lane by lane is a no-op where bit 0 of its mask is 0, whatever its operands.
R131, R138, R166, R610: an instruction at a PC that is no multiple of 8 takes ALIGN, and one with a reserved MOD bit set takes
RESERVED_BITS, before it changes anything; a core that cannot issue changes nothing.
R136–R139: the word that spells an instruction of the core, with every operand at every value its field admits, decodes to that instruction; a word whose class
and operation are not listed decodes to none. -/
def Obligations.IssueAndMask : Prop :=
  (
    (∀ n, ∀ op ∈ ([.nop, .halt, .brk, .add, .sub, .mul, .and, .or, .xor, .shl, .shr, .sra, .min, .max, .minu, .maxu, .sigwait, .sigset,
        .sigadd, .dmaq, .tld, .tst, .tofs, .tdim, .aclr, .amerge, .ast, fun x => .squant ⟨x, n⟩, .rngld, .rngst, .nwclose, .nwclr]
        : List (RForm → Instr)),
      ∀ (s : State) (x : RForm), s.ready x.core = true → x.ups = [] → s.laneOn x.core x.pred x.pneg 0 = false →
        ∃ t, exec (op x) s = .next t ∧ t.core x.core = (s.core x.core).aged ∧ s.moved t x.core (s.pc x.core + 8))
    ∧ (∀ op ∈ ([.csrr, .addi, .subi, .muli, .andi, .ori, .xori, .shli, .shri, .srai, .mini, .maxi, .minui, .maxui, .li, .lui, .beq, .bne,
        .blt, .bge, .bltu, .bgeu, .jmp, .fence, .sld, .sst] : List (IForm → Instr)),
      ∀ (s : State) (x : IForm), s.ready x.core = true → x.ups = [] → s.laneOn x.core x.pred x.pneg 0 = false →
        ∃ t, exec (op x) s = .next t ∧ t.core x.core = (s.core x.core).aged ∧ s.moved t x.core (s.pc x.core + 8))
    ∧ (∀ (s : State) (x : MForm) (n : Nat), s.ready x.core = true → x.ups = [] → s.laneOn x.core x.pred x.pneg 0 = false →
        ∃ t, exec (.mma ⟨x, n⟩) s = .next t ∧ t.core x.core = (s.core x.core).aged ∧ s.moved t x.core (s.pc x.core + 8)))
  ∧ (
    ∀ op ∈ ([.nop, .halt, .add, .sub, .mul, .and, .or, .xor, .shl, .shr, .sra, .min, .max, .minu, .maxu, .sigset, .sigadd, .sigwait,
        .vaddF, .vmulF, .vaddI, .vand, .vsel, .vldr, .vstr, .rngld, .rngst] : List (RForm → Instr)),
    ∀ (s : State) (x : RForm), x.ups = [] →
      (s.canIssue x.core = true → s.pc x.core % 8 ≠ 0 → ∃ t, exec (op x) s = .next t ∧ s.excTaken t x.core St.ALIGN)
      ∧ (s.ready x.core = true → s.laneOn x.core x.pred x.pneg 0 = true → x.mod ≠ 0 →
          ∃ t, exec (op x) s = .next t ∧ s.excTaken t x.core St.RESERVED_BITS)
      ∧ (s.canIssue x.core = false → exec (op x) s = .next s))
  ∧ (
    (∀ e ∈ opsR, ∀ x : RForm, x.pred < 8 → x.d < 32 → x.a < 32 → x.b < 32 → x.c < 32 → x.mod < 2 ^ 28 → x.ups = [] →
      decodeInstr x.core (RForm.word x e.1.1 e.1.2) = some (e.2 x))
    ∧ (∀ e ∈ opsI, ∀ x : IForm, x.pred < 8 → x.d < 32 → x.a < 32 → x.mod < 64 → x.imm < 2 ^ 32 → x.ups = [] →
      decodeInstr x.core (IForm.word x e.1.1 e.1.2) = some (e.2 x))
    ∧ (∀ x : MForm, x.pred < 8 → x.ta < 16 → x.tb < 16 → x.bank < 8 → x.kind < 4 → x.tai < 16 → x.tbi < 16 → x.m1 < 64 → x.n1 < 256 → x.rsv < 2 ^ 12 → x.ups = [] →
      decodeInstr x.core (MForm.word x) = some (.mma ⟨x, 2 ^ 64⟩))
    ∧ (∀ c w, (bits w 63 60, bits w 59 52) ∉ (4, 0) :: (opsR.map (fun e => e.1) ++ opsI.map (fun e => e.1)) → decodeInstr c w = none))

/-- R163: SIGSET raises a signal of its function to the larger of its value and S[B] and never lowers it; SIGADD adds, and takes
SIG_OVERFLOW with the signal unchanged where the sum does not fit 64 bits; a signal that the function does not own gives DENIED.
It states the completion of: sigwait, sigset, sigadd. -/
def Obligations.Signals : Prop :=
  ∀ (s : State) (x : RForm), s.acts x = true → x.mod = 0 →
    let k := s.core x.core
    let n := k.rdS x.a % 65536
    let v := k.rdS x.b
    (s.ownsSig k.fn n = true →
      (∃ t, exec (.sigset x) s = .next t ∧ t.sigVal n = max (s.sigVal n) v ∧ (∀ m, m ≠ n → t.sigVal m = s.sigVal m)
        ∧ t.core x.core = k.aged ∧ s.sameMem t ∧ t.pc x.core = (s.pc x.core + 8) % 2 ^ 64)
      ∧ (s.sigVal n + v < 2 ^ 64 →
        ∃ t, exec (.sigadd x) s = .next t ∧ t.sigVal n = s.sigVal n + v ∧ (∀ m, m ≠ n → t.sigVal m = s.sigVal m)
          ∧ t.core x.core = k.aged ∧ s.sameMem t ∧ t.pc x.core = (s.pc x.core + 8) % 2 ^ 64)
      ∧ (s.sigVal n + v ≥ 2 ^ 64 →
        ∃ t, exec (.sigadd x) s = .next t ∧ s.excTaken t x.core St.SIG_OVERFLOW ∧ t.sigVal n = s.sigVal n)
      ∧ (s.sigVal n ≥ v → ∃ t, exec (.sigwait x) s = .next t ∧ t.core x.core = k.aged ∧ s.moved t x.core (s.pc x.core + 8))
      ∧ (s.sigVal n < v → ∃ t, exec (.sigwait x) s = .next t ∧ (t.core x.core).wait = some (.sig n v) ∧ t.pc x.core = s.pc x.core
          ∧ t.rg R.CORE_RUN_STATUS_SIG_WAIT (pCore x.core) = 1))
    ∧ (s.ownsSig k.fn n = false → ∀ op ∈ ([.sigset, .sigadd, .sigwait] : List (RForm → Instr)),
        ∃ t, exec (op x) s = .next t ∧ s.excTaken t x.core St.DENIED ∧ ∀ m, t.sigVal m = s.sigVal m)

/-- R163–R165, R202: a waiting SIGWAIT, DMAQ or FENCE completes once its signal is at or above the value, its queue has room, or its scopes are
complete; until then nothing changes.
It states the completion of: sigwaitMet, dmaqSpace, fenceDone. -/
def Obligations.WaitsEnd : Prop :=
  ∀ (s : State) (c : Nat),
    (∀ n v, (s.core c).wait = some (.sig n v) →
      (s.sigVal n ≥ v → ∃ t, exec (.sigwaitMet c) s = .next t ∧ (t.core c).wait = none ∧ t.pc c = (s.pc c + 8) % 2 ^ 64
        ∧ t.rg R.CORE_RUN_STATUS_SIG_WAIT (pCore c) = 0)
      ∧ (s.sigVal n < v → exec (.sigwaitMet c) s = .next s))
    ∧ (∀ scopes, (s.core c).wait = some (.fence scopes) →
      (s.fenceDone c scopes = true → ∃ t, exec (.fenceDone c) s = .next t ∧ (t.core c).wait = none ∧ t.pc c = (s.pc c + 8) % 2 ^ 64)
      ∧ (s.fenceDone c scopes = false → exec (.fenceDone c) s = .next s))
    ∧ (∀ sel a u d, (s.core c).wait = some (.dma sel a) → s.engRoom (engineOf c sel).1 (engineOf c sel).2 = true →
      s.readDesc c a = .ok (u, d) →
      ∃ t, exec (.dmaqSpace c) s = .next t ∧ (t.core c).wait = none ∧ t.pc c = (s.pc c + 8) % 2 ^ 64
        ∧ ((t.eng (engineOf c sel).1).q (engineOf c sel).2).map DmaDesc.desc
            = ((s.eng (engineOf c sel).1).q (engineOf c sel).2).map DmaDesc.desc ++ [d])

/-- R164, R165, R175, R189: DMAQ queues the 64-byte descriptor at S[A], in the core's own scratchpad, last in its engine's queue; with the queue full it
waits, counted in RUN_STATUS.DMA_WAIT; a descriptor elsewhere takes ADDR_RANGE. A FENCE whose scopes are complete goes on, any other waits.
It states the completion of: fence, dmaq.
The model's own readings in it: log entry 134. -/
def Obligations.DmaqAndFence : Prop :=
  (∀ (s u : State) (x : RForm) (d : Nat), s.acts x = true → x.mod < 2 →
    let w := s.ran x.core
    let a := (w.core x.core).rdS x.a
    let q := engineOf x.core x.mod
    a % 64 = 0 → (0x80000 < a + 64 → ∃ t, exec (.dmaq x) s = .next t ∧ s.excTaken t x.core St.ADDR_RANGE)
    ∧ (a + 64 ≤ 0x80000 → w.checkSpan (w.via x.core) false false (spanLines 64) a 64 = .ok () →
    (w.engRoom q.1 q.2 = true → w.readDesc x.core a = .ok (u, d) →
      ∃ t, exec (.dmaq x) s = .next t ∧ ((t.eng q.1).q q.2).map DmaDesc.desc = ((w.eng q.1).q q.2).map DmaDesc.desc ++ [d]
        ∧ t.core x.core = (w.core x.core).aged ∧ u.sameMem t ∧ t.pc x.core = (w.pc x.core + 8) % 2 ^ 64)
    ∧ (w.engRoom q.1 q.2 = false →
      ∃ t, exec (.dmaq x) s = .next t ∧ t.core x.core = { w.core x.core with wait := some (.dma x.mod a) }
        ∧ t.rg R.CORE_RUN_STATUS_DMA_WAIT (pCore x.core) = 1 ∧ t.eng q.1 = w.eng q.1 ∧ t.pc x.core = w.pc x.core ∧ w.sameMem t)))
  ∧ (∀ (s : State) (x : IForm), s.actsI x = true → x.mod = 0 → 0 < x.imm → x.imm < 16 →
    (s.fenceDone x.core x.imm = true →
      ∃ t, exec (.fence x) s = .next t ∧ t.core x.core = (s.core x.core).aged ∧ s.moved t x.core (s.pc x.core + 8))
    ∧ (s.fenceDone x.core x.imm = false →
      ∃ t, exec (.fence x) s = .next t ∧ t.core x.core = { s.core x.core with wait := some (.fence x.imm) } ∧ t.pc x.core = s.pc x.core
        ∧ s.sameMem t))

/-- R139, R140, R142, R144, R175: TLD loads the descriptor in the 64 bytes at S[A] when it passes the checks; TST stores T[D] there, both in the core's own
scratchpad, any other address taking ADDR_RANGE; TDIM replaces one dimension; TOFS moves the origin. T[D] alone changes, and a descriptor that fails keeps it.
It states the completion of: tld, tst, tofs, tdim.
The model's own readings in it: log entries 23, 134. -/
def Obligations.Descriptors : Prop :=
  ∀ (s : State) (x : RForm), s.acts x = true → x.d < 16 → x.core < 1024 →
    let w := s.ran x.core
    let kw := w.core x.core
    let aw := kw.rdS x.a
    let k := s.core x.core
    let a := k.rdS x.a
    (x.mod = 0 → aw % 64 = 0 → 0x80000 < aw + 64 → (∃ t, exec (.tld x) s = .next t ∧ s.excTaken t x.core St.ADDR_RANGE)
      ∧ ((kw.rdT x.d).valid = true → ∃ t, exec (.tst x) s = .next t ∧ s.excTaken t x.core St.ADDR_RANGE))
    ∧ (∀ u bs, x.mod = 0 → aw % 64 = 0 → aw + 64 ≤ 0x80000 → w.ldN (w.via x.core) aw 64 = .ok (u, bs) → bs.any (fun b => b.2) = false →
      let d := Ten.ofBits (BitVec.ofNat 512 (ofBytes (bs.map (fun b => b.1))))
      (d.check = none → ∃ t, exec (.tld x) s = .next t ∧ (t.core x.core).rdT x.d = d
        ∧ kw.sameButT (t.core x.core) x.d ∧ u.sameMem t ∧ t.pc x.core = (s.pc x.core + 8) % 2 ^ 64)
      ∧ (∀ e, d.check = some e → ∃ t, exec (.tld x) s = .next t ∧ s.excTaken t x.core e ∧ (t.core x.core).rdT x.d = k.rdT x.d))
    ∧ (x.mod = 0 → (kw.rdT x.d).valid = true → aw % 64 = 0 → aw + 64 ≤ 0x80000 → w.inPart kw.fn (x.core / 4) = true →
      Map.sorted natLt w.mem = true →
      ∃ t, exec (.tst x) s = .next t ∧ w.stored t (aSpad x.core aw) (leBytes 64 (kw.rdT x.d).toBits.toNat) ∧ t.core x.core = kw.aged
        ∧ t.pc x.core = (s.pc x.core + 8) % 2 ^ 64)
    ∧ (x.mod < 3 → let d := (k.rdT x.d).setDim x.mod (a % 2 ^ 32)
      d.check = none → ∃ t, exec (.tdim x) s = .next t ∧ (t.core x.core).rdT x.d = d
        ∧ k.sameButT (t.core x.core) x.d ∧ s.moved t x.core (s.pc x.core + 8))
    ∧ (x.mod = 0 → (k.rdT x.d).valid = true → fmtWordOk (k.rdT x.d).fmt false = true →
      ∀ d, (k.rdT x.d).move a (k.rdS x.b) = .ok d →
      ∃ t, exec (.tofs x) s = .next t ∧ (t.core x.core).rdT x.d = { d with base := d.base % 2 ^ 64, sbase := d.sbase % 2 ^ 64 }
        ∧ k.sameButT (t.core x.core) x.d ∧ s.moved t x.core (s.pc x.core + 8))

/-- R133, R153, R154: a lane operation of the VEC class writes its result to every enabled lane of V[D] and keeps every other lane; FP32 operands
are flushed as they are read and the exact result is rounded once, bit and INT32 operations wrap at 32 bits.
R133, R154: a comparison writes bit i of P[D] for every enabled lane and 0 for a disabled one, P0 ignoring the write; a comparison with NaN is
false. VSEL takes A where bit i of P[C] is 1 and B elsewhere, in enabled lanes.
R154, R155: the reductions write one number to S[D]: VREDSUM.F the sum in the fixed tree of R155 with +0 for a disabled lane, VREDMAX.F the
largest enabled lane and −∞ without one, VREDSUM.I the exact sum of the enabled INT32 lanes, sign-extended.
R454: at issue level 0 none of them issues.
It states the completion of: vaddF, vsubF, vmulF, vfmaF, vmaxF, vminF, vabsF, vnegF, vdivF, vsqrtF, vrsqF, vaddI, vsubI, vmulI, vand, vor, vxor, vshl, vshr, vsra,
vcmpeqF, vcmpltF, vcmpleF, vcmpeqI, vcmpltI, vsel, vredsumF, vredmaxF, vredsumI, vbcast.
The model's own readings in it: log entries 24, 142. -/
def Obligations.VectorUnit : Prop :=
  (
    let v (k : Core) (r i : Nat) : Val := (rdFp32 (k.rdV r i)).1
    let f2 (f : Val → Val → Val) (x : RForm) (k : Core) (i : Nat) : Nat := (toFp32 (f (v k x.a i) (v k x.b i))).1
    let f1 (f : Val → Val) (x : RForm) (k : Core) (i : Nat) : Nat := (toFp32 (f (v k x.a i))).1
    let sg (f : Nat → Nat) (x : RForm) (k : Core) (i : Nat) : Nat :=
      f (if bits (k.rdV x.a i) 30 23 = 0 then k.rdV x.a i / 2 ^ 31 * 2 ^ 31 else k.rdV x.a i)
    let i2 (f : Nat → Nat → Nat) (x : RForm) (k : Core) (i : Nat) : Nat := f (k.rdV x.a i) (k.rdV x.b i)
    ∀ op ∈ ([(Instr.vaddF, f2 Val.add), (.vsubF, f2 (fun a b => a.add b.negate)), (.vmulF, f2 Val.mul),
        (.vfmaF, fun x k i => (toFp32 (((v k x.a i).mul (v k x.b i)).add (v k x.c i))).1),
        (.vmaxF, f2 Val.maxv), (.vminF, f2 Val.minv), (.vabsF, sg (fun c => c % 2 ^ 31)),
        (.vnegF, sg (fun c => if c < 2 ^ 31 then c + 2 ^ 31 else c - 2 ^ 31)), (.vdivF, f2 Val.div), (.vsqrtF, f1 Val.sqrt), (.vrsqF, f1 Val.rsqrt),
        (.vaddI, i2 (fun a b => a + b)), (.vsubI, i2 (fun a b => a + (2 ^ 32 - b))), (.vmulI, i2 (fun a b => a * b)),
        (.vand, i2 (fun a b => a &&& b)), (.vor, i2 (fun a b => a ||| b)), (.vxor, i2 (fun a b => a ^^^ b)),
        (.vshl, i2 (fun a b => a * 2 ^ (b % 32))), (.vshr, i2 (fun a b => a / 2 ^ (b % 32))),
        (.vsra, i2 (fun a b => ((BitVec.ofNat 32 a).sshiftRight (b % 32)).toNat)), (.vbcast, fun x k _ => k.rdS x.a)]
        : List ((RForm → Instr) × (RForm → Core → Nat → Nat))),
    ∀ (s : State) (x : RForm), s.issues x = true → s.throttled x.core = false → x.mod = 0 →
      ∃ t, exec (op.1 x) s = .next t
        ∧ (∀ i < 64, (t.core x.core).rdV x.d i = if s.laneOn x.core x.pred x.pneg i = true then op.2 x (s.core x.core) i % 2 ^ 32
            else (s.core x.core).rdV x.d i)
        ∧ (s.core x.core).sameButV (t.core x.core) x.d ∧ s.movedTally t x.core (s.pc x.core + 8))
  ∧ (
    let v (k : Core) (r i : Nat) : Val := (rdFp32 (k.rdV r i)).1
    (∀ op ∈ ([(Instr.vcmpeqF, fun x k i => (v k x.a i).eqv (v k x.b i)), (.vcmpltF, fun x k i => (v k x.a i).lt (v k x.b i)),
        (.vcmpleF, fun x k i => (v k x.a i).lt (v k x.b i) || (v k x.a i).eqv (v k x.b i)),
        (.vcmpeqI, fun x k i => decide (k.rdV x.a i = k.rdV x.b i)),
        (.vcmpltI, fun x k i => (BitVec.ofNat 32 (k.rdV x.a i)).slt (BitVec.ofNat 32 (k.rdV x.b i)))]
        : List ((RForm → Instr) × (RForm → Core → Nat → Bool))),
      ∀ (s : State) (x : RForm), s.issues x = true → s.throttled x.core = false → x.mod = 0 → x.d < 8 →
        ∃ t, exec (op.1 x) s = .next t
          ∧ (∀ i < 64, bit ((t.core x.core).rdP x.d) i =
              (decide (x.d = 0) || (s.laneOn x.core x.pred x.pneg i && op.2 x (s.core x.core) i)))
          ∧ (s.core x.core).sameButP (t.core x.core) x.d ∧ s.movedTally t x.core (s.pc x.core + 8))
    ∧ (∀ (s : State) (x : RForm), s.issues x = true → s.throttled x.core = false → x.mod = 0 → x.c < 8 →
        ∃ t, exec (.vsel x) s = .next t
          ∧ (∀ i < 64, (t.core x.core).rdV x.d i = if s.laneOn x.core x.pred x.pneg i = true then
              (s.core x.core).rdV (if bit ((s.core x.core).rdP x.c) i = true then x.a else x.b) i else (s.core x.core).rdV x.d i)
          ∧ (s.core x.core).sameButV (t.core x.core) x.d ∧ s.moved t x.core (s.pc x.core + 8)))
  ∧ (
    ∀ (s : State) (x : RForm), s.issues x = true → s.throttled x.core = false → x.mod = 0 →
      let k := s.core x.core
      let on (i : Nat) : Bool := s.laneOn x.core x.pred x.pneg i
      let l (dflt : Val) : List Val := (List.range 64).map (fun i => if on i = true then (rdFp32 (k.rdV x.a i)).1 else dflt)
      ∀ r ∈ ([(Instr.vredsumF, (toFp32 (sumTree 6 (l (.fin false 0)) {}).1).1), (.vredmaxF, (toFp32 ((l (.inf true)).foldl Val.maxv (.inf true))).1),
        (.vredsumI, wrap 64 (((List.range 64).map (fun i => if on i = true then (BitVec.ofNat 32 (k.rdV x.a i)).toInt else 0)).sum))]
        : List ((RForm → Instr) × Nat)),
        ∃ t, exec (r.1 x) s = .next t ∧ (t.core x.core).rdS x.d = (if x.d = 0 then 0 else r.2 % 2 ^ 64)
          ∧ k.sameButS (t.core x.core) x.d ∧ s.movedTally t x.core (s.pc x.core + 8))
  ∧ (∀ op ∈ ([.vaddF, .vabsF, .vdivF, .vand, .vbcast, .vredsumF, .vredsumI] : List (RForm → Instr)),
    ∀ (s : State) (x : RForm), s.issues x = true → s.throttled x.core = true → x.mod = 0 → exec (op x) s = .next s)

/-- R81, R83, R612: VCVT converts every enabled lane from the source format of IMM to its destination format, the bits above a narrow format
written 0; in RNE mode it draws nothing.
It states the completion of: vcvt. -/
def Obligations.VcvtLanes : Prop :=
  ∀ (s : State) (x : IForm), s.ready x.core = true → x.ups = [] → s.throttled x.core = false → x.mod = 0 → x.imm < 2 ^ 14 →
    let src := x.imm % 32 + x.imm / 2 ^ 11 % 2 * 32
    let dst := x.imm / 2 ^ 5 % 32 + x.imm / 2 ^ 12 % 2 * 32 + x.imm / 2 ^ 13 % 2 * 2 ^ 13
    fmtWordOk src false = true → fmtWordOk dst false = true → x.imm / 2 ^ 10 % 2 = 0 →
    ∃ t, exec (.vcvt x) s = .next t
      ∧ (∀ i < 64, (t.core x.core).rdV x.d i = if s.laneOn x.core x.pred x.pneg i = true then
          ((fmtOfWord dst).convert ((fmtOfWord src).decode true ((s.core x.core).rdV x.a i % 2 ^ (fmtOfWord src).width)).1 none).1
            % 2 ^ (fmtOfWord dst).width % 2 ^ 32
          else (s.core x.core).rdV x.d i)
      ∧ (s.core x.core).sameButV (t.core x.core) x.d ∧ s.movedTally t x.core (s.pc x.core + 8)

/-- R157, R158: VUPD writes the new master value, exact in the master format, to V[D] and the new first moment to V[D + 1] of every enabled lane,
drawing once from its generator; the sources stand in V[A] to V[A + 3] and S[B] to S[B + 3].
It states the completion of: vupd. -/
def Obligations.OptimiserUpdate : Prop :=
  ∀ (s : State) (x : RForm), s.issues x = true → s.throttled x.core = false → x.mod < 2 → x.a + 3 ≤ 31 → x.b + 3 ≤ 31 → x.d + 1 ≤ 31 →
    let k := s.core x.core
    (∀ i < 64, s.laneOn x.core x.pred x.pneg i = true → k.rngState i ≠ 0) →
    let f := if x.mod = 0 then bf16 else fp16
    let la (j i : Nat) : Val := (rdFp32 (k.rdV (x.a + j) i)).1
    let sc (j : Nat) : Val := (rdFp32 (k.rdS (x.b + j) % 2 ^ 32)).1
    let y (i : Nat) : Nat := (rngDraw (k.rngState i) (k.rngTap i)).2
    let r (i : Nat) : Nat × Nat × Tally := vupdLane f (la 0 i) (la 1 i) (la 2 i) (la 3 i) (sc 0) (sc 1) (sc 2) (sc 3) (y i)
    ∃ t, exec (.vupd x) s = .next t
      ∧ (∀ i < 64, s.laneOn x.core x.pred x.pneg i = true →
          (t.core x.core).rdV x.d i = (fp32.convert (f.decode false (r i).1).1 none).1 % 2 ^ 32
          ∧ (t.core x.core).rdV (x.d + 1) i = (r i).2.1 % 2 ^ 32
          ∧ (t.core x.core).rngState i = (rngDraw (k.rngState i) (k.rngTap i)).1)
      ∧ (∀ i < 64, s.laneOn x.core x.pred x.pneg i = false →
          (t.core x.core).rdV x.d i = k.rdV x.d i ∧ (t.core x.core).rdV (x.d + 1) i = k.rdV (x.d + 1) i
          ∧ (t.core x.core).rngState i = k.rngState i)
      ∧ (∀ j i, j ≠ x.d → j ≠ x.d + 1 → (t.core x.core).rdV j i = k.rdV j i) ∧ s.movedTally t x.core (s.pc x.core + 8)

/-- R95–R97, R101, R104, R114, R120, R145: an MMA adds to every entry its contributions in canonical order, slice by slice and pass by pass, the entry
cleared first with START = 1; no other entry changes. It may stand at any slice boundary: the contributions of the slices before it have entered, the others
follow at MMA_DONE on what the feeders and weight registers hold, and together they are the contributions of the whole product. MMA_DONE releases the banks.
R127, R454, R467: ARR_STATUS.BUSY shows the arrays that compute the next slice. In a halt, and at issue level 0 with steps left, the arrays stand.
It states the completion of: mma, mmaDone.
The model's own readings in it: log entries 28, 119, 142. -/
def Obligations.MatrixProduct : Prop :=
  (∀ (s : State) (x : MForm) (upto : Nat), s.actsM x = true → s.throttled x.core = false →
    let c := x.core
    let u := s.ran c
    let ku := u.core c
    mmaChecks x (ku.rdT x.ta) (ku.rdT x.tai) (ku.rdT x.tb) (ku.rdT x.tbi) = .ok () →
    let w := u.mmaFinish c
    let k := w.core c
    let word (i : Nat) : BitVec 512 := NMap.get 0 ku.t i
    let r : MmaRun := ⟨x, word x.ta, word x.tai, word x.tb, word x.tbi, max 1 (w.live c).length, 0⟩
    let hi := min upto r.total
    let vs (im : Bool) (m n : Nat) : List Val :=
      contributionsIn (w.spadPasses c r) im (ku.rdT x.ta).dim0 r.stride (r.groupAt (n / 64)) 0 hi m n
    let out (im : Bool) (m n : Nat) : Ewa :=
      ((if x.start && !(vs im m n).isEmpty then Ewa.clear else k.rdA (x.bank + b2n im + 2 * (n / 64)) m (n % 64)).addAll (vs im m n)).1
    ∃ t, exec (.mma ⟨x, upto⟩) s = .next t
      ∧ (∀ m ≤ x.m1, ∀ n ≤ x.n1, (t.core c).rdA (x.bank + 2 * (n / 64)) m (n % 64) = out false m n
          ∧ (x.kind ≠ 0 → (t.core c).rdA (x.bank + 1 + 2 * (n / 64)) m (n % 64) = out true m n))
      ∧ (∀ b m n, m < 64 → n < 64 →
          (∀ g, b = x.bank + 2 * g ∨ (x.kind ≠ 0 ∧ b = x.bank + 1 + 2 * g) → ¬(m ≤ x.m1 ∧ 64 * g + n ≤ x.n1)) →
          (t.core c).rdA b m n = k.rdA b m n)
      ∧ (t.core c).mma = some { r with done := hi }
      ∧ t.rg R.CORE_RUN_STATUS_MMA_ACTIVE (pCore c) = 1 ∧ t.pc c = (s.pc c + 8) % 2 ^ 64 ∧ w.sameCores t c
      ∧ t.rg R.CORE_ARR_STATUS_BUSY (pCore c) = r.computing (w.live c) (min hi (r.total - 1)) % 16
      ∧ (t.core c).s = k.s ∧ (t.core c).v = k.v ∧ (t.core c).t = k.t ∧ (t.core c).p = k.p ∧ (t.core c).rng = k.rng)
  ∧ (∀ (ps : List Pass) (im : Bool) (kdim stride first m n : Nat), first + ceilDiv kdim 8 ≤ stride →
      let part (lo hi : Nat) : List Val := contributionsIn ps im kdim stride first lo hi m n
      part 0 (ps.length * stride) = contributions ps im kdim m n
      ∧ ∀ lo mid hi, lo ≤ mid → mid ≤ hi → part lo hi = part lo mid ++ part mid hi)
  ∧ (∀ (s : State) (c : Nat) (r : MmaRun), s.halted = false → (s.throttled c = false ∨ (s.core c).behind = false) → (s.core c).mma = some r → r.x.ups = [] →
      let k := s.core c
      let mid := (r.done / r.slices + 1) * r.slices
      let vs (im : Bool) (m n : Nat) : List Val := if r.total ≤ r.done then [] else
        contributionsIn (s.fedPasses c r) im r.ar.dim0 r.stride (r.groupAt (n / 64)) r.done mid m n
          ++ (if mid < r.total then contributionsIn (s.spadPasses c r) im r.ar.dim0 r.stride (r.groupAt (n / 64)) mid r.total m n else [])
      let out (im : Bool) (m n : Nat) : Ewa :=
        ((if r.x.start && opensIn (s.spadPasses c r) im r.stride (r.groupAt (n / 64)) r.done r.total then Ewa.clear
          else k.rdA (groupBank r.x.bank (n / 64) im) m (n % 64)).addAll (vs im m n)).1
      ∃ t, exec (.mmaDone c) s = .next t ∧ (t.core c).mma = none
        ∧ t.rg R.CORE_RUN_STATUS_MMA_ACTIVE (pCore c) = 0 ∧ t.rg R.CORE_ARR_STATUS_BUSY (pCore c) = 0 ∧ s.sameCores t c
        ∧ (∀ m ≤ r.x.m1, ∀ n ≤ r.x.n1, (t.core c).rdA (groupBank r.x.bank (n / 64) false) m (n % 64) = out false m n
            ∧ (r.x.kind ≠ 0 → (t.core c).rdA (groupBank r.x.bank (n / 64) true) m (n % 64) = out true m n))
        ∧ (r.total ≤ r.done → k.kat.due = 0 → t.core c = { k with mma := none, br := [], fq := [] } ∧ s.sameMem t))
  ∧ (∀ (s : State) (c : Nat), s.halted = true ∨ (s.throttled c = true ∧ (s.core c).behind = true) ∨ (s.core c).mma = none → exec (.mmaDone c) s = .next s)

/-- R94, R101, R109, R132, R139, R148: ACLR clears every entry of the banks it names and no other; AMERGE merges bank A into bank D entry by entry. They see
what an MMA that writes their banks left.
R108, R139, R147, R148: AROW writes the entries of row S[A] of bank A[C], rounded to FP32 or INT32, to the enabled lanes of V[D]; ALOSS sets bit j of
P[D] where entry j lost precision or is not finite; AST, in RNE mode, packs row by row into the destination tensor, and AST_DONE frees its unit.
It states the completion of: aclr, amerge, arow, ast, astDone, aloss.
The model's own readings in it: log entries 25, 28. -/
def Obligations.BankUnit : Prop :=
  (
    ∀ (s : State) (x : RForm), s.acts x = true →
      let c := x.core
      (x.mod < 256 →
        let w := s.found c x.mod
        let k := w.core c
        ∃ t, exec (.aclr x) s = .next t
        ∧ (∀ b m n, m < 64 → n < 64 → (t.core c).rdA b m n = if bit x.mod b = true then Ewa.clear else k.rdA b m n)
        ∧ (t.core c).s = k.s ∧ (t.core c).v = k.v ∧ (t.core c).t = k.t ∧ (t.core c).p = k.p
        ∧ w.sameCores t c ∧ w.sameMem t ∧ t.pc c = (s.pc c + 8) % 2 ^ 64)
      ∧ (x.mod = 0 → x.d < 8 → x.a < 8 → x.d ≠ x.a →
        let w := s.found c (2 ^ x.d + 2 ^ x.a)
        let k := w.core c
        ∃ t, exec (.amerge x) s = .next t
        ∧ (∀ b m n, m < 64 → n < 64 → (t.core c).rdA b m n = if b = x.d then ((k.rdA x.d m n).merge (k.rdA x.a m n)).1 else k.rdA b m n)
        ∧ (t.core c).s = k.s ∧ (t.core c).v = k.v ∧ (t.core c).t = k.t ∧ (t.core c).p = k.p
        ∧ w.sameCores t c ∧ w.sameMem t ∧ t.pc c = (s.pc c + 8) % 2 ^ 64))
  ∧ (
    (∀ (s : State) (x : RForm), s.issues x = true → x.c < 8 →
      let c := x.core
      let row := ((s.ran c).core c).rdS x.a
      let w := s.found c (2 ^ x.c)
      let k := w.core c
      row < 64 →
      (x.mod < 2 → ∃ t, exec (.arow x) s = .next t
        ∧ (∀ j < 64, (t.core c).rdV x.d j = if s.laneOn c x.pred x.pneg j = true then
            ((if x.mod = 1 then int32 else fp32).convert (k.rdA x.c row j).val none).1 % 2 ^ 32 else k.rdV x.d j)
        ∧ (∀ j i, j ≠ x.d → (t.core c).rdV j i = k.rdV j i) ∧ (t.core c).acc = k.acc ∧ (t.core c).s = k.s ∧ (t.core c).p = k.p
        ∧ t.pc c = (s.pc c + 8) % 2 ^ 64 ∧ w.sameMem t)
      ∧ (x.mod = 0 → x.d < 8 → ∃ t, exec (.aloss x) s = .next t
        ∧ (∀ j < 64, bit ((t.core c).rdP x.d) j =
            (decide (x.d = 0) || (s.laneOn c x.pred x.pneg j && ((k.rdA x.c row j).loss || (k.rdA x.c row j).nf != .fin))))
        ∧ (t.core c).acc = k.acc ∧ (t.core c).v = k.v ∧ (t.core c).s = k.s ∧ t.pc c = (s.pc c + 8) % 2 ^ 64 ∧ w.sameMem t))
    ∧ (∀ (s : State) (x : RForm), s.acts x = true → x.core < 1024 → x.mod = 0 → x.d < 16 → x.c < 8 →
      let c := x.core
      let d := ((s.ran c).core c).rdT x.d
      let w := s.found c (2 ^ x.c)
      let k := w.core c
      Map.sorted natLt w.mem = true → w.inPart k.fn (c / 4) = true → d.valid = true → fmtWordOk d.fmt false = true → d.sf = 0 →
      d.dim0 ≤ 64 → 0 < d.dim1 → d.dim1 ≤ 64 → d.dim2 = 1 → d.placed = true → d.rowsAligned = true →
      (d.dim1 = 1 ∨ rowBytes d.f d.dim0 ≤ d.st1) →
      ∃ t, exec (.ast x) s = .next t ∧ (t.core c).ast = some ⟨w.pc c, 1, k.rng⟩ ∧ t.pc c = (s.pc c + 8) % 2 ^ 64
        ∧ (∀ m < d.dim1, ∀ i < rowBytes d.f d.dim0, (t.rb (aSpad c (d.rowAddr m + i))).toNat =
            (packRow d.f ((List.range d.dim0).map (fun j => (d.f.convert (k.rdA x.c m j).val none).1))).getD i 0)
        ∧ (∀ a, (∀ m < d.dim1, a < aSpad c (d.rowAddr m) ∨ aSpad c (d.rowAddr m) + rowBytes d.f d.dim0 ≤ a) → t.rb a = w.rb a)
        ∧ (t.core c).acc = k.acc ∧ (t.core c).s = k.s ∧ (t.core c).v = k.v)
    ∧ (∀ (s : State) (c : Nat), (s.halted = true ∨ (s.core c).ast = none → exec (.astDone c) s = .next s)
      ∧ (s.halted = false → (s.core c).ast ≠ none → ∃ t, exec (.astDone c) s = .next t ∧ t.core c = { s.core c with ast := none }
        ∧ s.sameRegs t [] ∧ { t with regs := s.regs, cores := s.cores } = s ∧ s.sameCores t c)))

/-- R149–R152, R171: a SQUANT that passes its checks does its blocks up to the boundary it reaches: it writes the rows it works out for them (scale codes,
quantised elements, history) to the own scratchpad and changes no register. SQUANT_DONE does the blocks that are left, under SCALE_CTRL as it stands then.
R73, R77, R79, R150: the scale code that SQUANT writes for a block is derived from the largest finite source element of the block, or under delayed
scaling from its history, and an element's code is that of the source value divided by the scale.
It states the completion of: squant, squantDone.
The model's own readings in it: log entries 25, 120. -/
def Obligations.ScaleUnit : Prop :=
  (
    ∀ (s : State) (x : RForm) (upto : Nat), s.acts x = true → x.core < 1024 →
      let c := x.core
      let u := s.ran c
      let v := u.squantFinish c
      let kv := v.core c
      u.squantRefused x = .ok () → v.inPart kv.fn (c / 4) = true → Map.sorted natLt v.mem = true →
      let word (i : Nat) : BitVec 512 := NMap.get 0 kv.t i
      let r : SquantRun := ⟨x, word x.a, word x.b, word x.d, word x.c, v.pc c, 0, kv.rng, 0⟩
      let hi := min upto r.total
      let kr := if bit x.mod 1 = true then (kv.squantDraws r.dstT.rows r.dstT.dim0).2 else kv
      let w := v.setCore c { kr with openBlk := 0 }
      let rows := (w.squantOut c r hi).rows
      (∀ p ∈ rows, p.1 + p.2.length ≤ 0x80000) →
      rows.Pairwise (fun p q => p.1 + p.2.length ≤ q.1 ∨ q.1 + q.2.length ≤ p.1) →
      ∃ t, exec (.squant ⟨x, upto⟩) s = .next t ∧ (t.core c).squant = some { r with done := hi, age := 1 } ∧ t.pc c = (s.pc c + 8) % 2 ^ 64
        ∧ (∀ p ∈ rows, ∀ i (h : i < p.2.length), (t.rb (aSpad c (p.1 + i))).toNat = p.2[i] % 256)
        ∧ (∀ a, (∀ p ∈ rows, a < aSpad c p.1 ∨ aSpad c p.1 + p.2.length ≤ a) → t.rb a = v.rb a)
        ∧ (t.core c).s = kv.s ∧ (t.core c).v = kv.v ∧ (t.core c).t = kv.t ∧ (t.core c).p = kv.p
        ∧ (t.core c).acc = kv.acc ∧ v.sameCores t c)
  ∧ (
    ∀ (s : State) (c : Nat), c < 1024 →
      (s.halted = true ∨ (s.core c).squant = none → exec (.squantDone c) s = .next s)
      ∧ (∀ r, s.halted = false → (s.core c).squant = some r →
        (r.total ≤ r.done → ∃ t, exec (.squantDone c) s = .next t ∧ t.core c = { s.core c with squant := none }
          ∧ s.sameRegs t [] ∧ { t with regs := s.regs, cores := s.cores } = s ∧ s.sameCores t c)
        ∧ (r.done < r.total → s.inPart (s.core c).fn (c / 4) = true → Map.sorted natLt s.mem = true →
          let rows := (s.squantOut c r r.total).rows
          (∀ p ∈ rows, p.1 + p.2.length ≤ 0x80000) →
          rows.Pairwise (fun p q => p.1 + p.2.length ≤ q.1 ∨ q.1 + q.2.length ≤ p.1) →
          ∃ t, exec (.squantDone c) s = .next t ∧ (t.core c).squant = none
            ∧ (∀ p ∈ rows, ∀ i (h : i < p.2.length), (t.rb (aSpad c (p.1 + i))).toNat = p.2[i] % 256)
            ∧ (∀ a, (∀ p ∈ rows, a < aSpad c p.1 ∨ aSpad c p.1 + p.2.length ≤ a) → t.rb a = s.rb a)
            ∧ (t.core c).s = (s.core c).s ∧ (t.core c).v = (s.core c).v ∧ (t.core c).acc = (s.core c).acc ∧ s.sameCores t c)))
  ∧ (
    ∀ (s : State) (c b r i code : Nat) (src dst hist : Ten) (first : Nat × Nat),
      ((s.blockScale c src dst hist false b first).code
          = (deriveScale (some (s.amax c src (dst.members first.1 first.2))) dst.f dst.sf (bit dst.fmt 12)).1)
      ∧ (∀ h, historyAmax (s.history c hist b) = some h →
          (s.blockScale c src dst hist true b first).code = (deriveScale h dst.f dst.sf (bit dst.fmt 12)).1)
      ∧ (historyAmax (s.history c hist b) = none → (s.blockScale c src dst hist true b first).fallback = true
          ∧ (s.blockScale c src dst hist true b first).code = (s.blockScale c src dst hist false b first).code)
      ∧ (∀ n v q, (s.srcVal c src false r i).1 = .fin n v → scaleVal dst.sf code = some q →
          (s.quantElem c src dst code r i none).1 = (dst.f.convert (.fin n (v / q)) none).1))

/-- R139: SLD reads 8 aligned bytes; SST writes them; both compute S[A] + sext(IMM) modulo 2^64. An address that is no multiple of 8 takes
ALIGN.
R133, R139: VLDR reads 256 aligned bytes into the enabled lanes of V[D], and VSTR writes the enabled lanes' bytes; a disabled lane keeps its value and
its bytes of memory.
It states the completion of: sld, sst, vldr, vstr. -/
def Obligations.RawLoadStore : Prop :=
  (
    ∀ (s : State) (x : IForm), s.actsI x = true → x.core < 1024 → x.mod = 0 →
      let c := x.core
      let w := s.ran c
      let k := w.core c
      let a := (k.rdS x.a + ((BitVec.ofNat 32 x.imm).signExtend 64).toNat) % 2 ^ 64
      (a % 8 ≠ 0 → ∀ op ∈ ([.sld, .sst] : List (IForm → Instr)), ∃ t, exec (op x) s = .next t ∧ s.excTaken t c St.ALIGN)
      ∧ (a % 8 = 0 → ∀ u bs, w.ldN (w.via c) a 8 = .ok (u, bs) → (∀ b ∈ bs, b.2 = false) →
        ∃ t, exec (.sld x) s = .next t ∧ (t.core c).rdS x.d = (if x.d = 0 then 0 else ofBytes (bs.map (fun b => b.1)))
          ∧ k.sameButS (t.core c) x.d ∧ u.sameMem t ∧ t.pc c = (s.pc c + 8) % 2 ^ 64)
      ∧ (a % 8 = 0 → w.memWf = true → w.wcbOk → ∀ pa, w.writable c a 8 pa →
        ∃ t, exec (.sst x) s = .next t ∧ w.stored t pa (leBytes 8 (k.rdS x.d)) ∧ t.core c = k.aged ∧ t.pc c = (s.pc c + 8) % 2 ^ 64))
  ∧ (
    ∀ (s : State) (x : RForm), s.issues x = true → x.core < 1024 → x.mod = 0 →
      let c := x.core
      let w := s.ran c
      let k := w.core c
      let a := k.rdS x.a
      let on (i : Nat) : Bool := s.laneOn c x.pred x.pneg i
      a % 256 = 0 →
      (∀ u bs, w.ldN (w.via c) a 256 = .ok (u, bs) → (∀ b ∈ bs, b.2 = false) → w.checkSpan (w.via c) false false (spanLines 256) a 256 = .ok () →
        ∃ t, exec (.vldr x) s = .next t
          ∧ (∀ i < 64, (t.core c).rdV x.d i = if on i = true then ofBytes (((bs.drop (4 * i)).take 4).map (fun b => b.1)) % 2 ^ 32 else k.rdV x.d i)
          ∧ k.sameButV (t.core c) x.d ∧ t.pc c = (s.pc c + 8) % 2 ^ 64)
      ∧ (a + 256 ≤ 0x80000 → w.inPart k.fn (c / 4) = true → Map.sorted natLt w.mem = true →
        ∃ t, exec (.vstr x) s = .next t
          ∧ (∀ i < 64, ∀ j < 4, t.rb (aSpad c (a + 4 * i + j)) =
              if on i = true then BitVec.ofNat 8 (k.rdV x.d i / 2 ^ (8 * j)) else w.rb (aSpad c (a + 4 * i + j)))
          ∧ (∀ b, b < aSpad c a ∨ aSpad c a + 256 ≤ b → t.rb b = w.rb b) ∧ t.core c = k.aged ∧ t.pc c = (s.pc c + 8) % 2 ^ 64))

/-- R156: VLD moves up to 64 elements of a row of an unscaled tensor from inner index S[B] on to the enabled lanes, +0 at or beyond DIM0; a row beyond
the last loads as +0 whole. VST writes nothing for such a row.
It states the completion of: vld, vst.
The model's own readings in it: log entry 31. -/
def Obligations.TensorRows : Prop :=
  ∀ (s : State) (x : RForm), s.issues x = true → x.mod = 0 → x.c < 16 →
    let c := x.core
    let w := s.ran c
    let k := w.core c
    let d := k.rdT x.c
    let r := k.rdS x.a
    let i0 := k.rdS x.b
    let on (i : Nat) : Bool := s.laneOn c x.pred x.pneg i
    let n := min 64 (d.dim0 - i0)
    d.valid = true → fmtWordOk d.fmt false = true → d.innerAligned i0 = true →
    (r ≥ d.rows →
      (∃ t, exec (.vld x) s = .next t ∧ (∀ i < 64, (t.core c).rdV x.d i = if on i = true then 0 else k.rdV x.d i)
        ∧ k.sameButV (t.core c) x.d ∧ w.moved t c (w.pc c + 8))
      ∧ (d.sf = 0 → ∃ t, exec (.vst x) s = .next t ∧ t.core c = k.aged ∧ w.moved t c (w.pc c + 8)))
    ∧ (r < d.rows → d.sf = 0 → 0 < n → d.rowsAligned = true →
      ∀ u bs, w.checkSpan (w.via c) false false (spanLines (rowBytes d.f n)) (d.elemAddr r i0) (rowBytes d.f n) = .ok () →
      w.ldN (w.via c) (d.elemAddr r i0) (rowBytes d.f n) = .ok (u, bs) → (∀ b ∈ bs, b.2 = false) →
      ∃ t, exec (.vld x) s = .next t
        ∧ (∀ i < 64, (t.core c).rdV x.d i = if on i = true then
            (if i < n then (vldLane d (elemCode d.f (bs.map (fun b => b.1)) i) false 0).1 % 2 ^ 32 else 0) else k.rdV x.d i)
        ∧ k.sameButV (t.core c) x.d ∧ t.pc c = (s.pc c + 8) % 2 ^ 64)
    ∧ (r < d.rows → d.sf = 0 → 0 < n → d.rowsAligned = true → x.core < 1024 → w.inPart k.fn (c / 4) = true →
      d.elemAddr r i0 + rowBytes d.f n ≤ 0x80000 → Map.sorted natLt w.mem = true →
      ∃ t, exec (.vst x) s = .next t
        ∧ (∀ i < n, (t.spadElem c d r (i0 + i)).1 = if on i = true then (d.f.convert (vstVal d (k.rdV x.d i)).1 none).1 % 2 ^ d.f.width
            else (w.spadElem c d r (i0 + i)).1)
        ∧ (∀ b, b < aSpad c (d.elemAddr r i0) ∨ aSpad c (d.elemAddr r i0) + rowBytes d.f n ≤ b → t.rb b = w.rb b)
        ∧ t.core c = k.aged ∧ t.pc c = (s.pc c + 8) % 2 ^ 64)

/-- R158–R160: RNGDRAW writes half of one draw to every enabled lane and advances its generator; RNGLD loads every lane's state and tap mask from 1 KiB
at S[A], refusing a zero state before a tap mask without bit 63; RNGST stores the same layout.
R161, R162: NWADD adds the squares of the enabled lanes to a slot; NWCLOSE writes the slot's record and clears it, setting JUMP where the slot has
jumped; NWCLR clears it without a record.
It states the completion of: rngld, rngst, rngdraw, nwadd, nwclose, nwclr. -/
def Obligations.GeneratorsAndNorms : Prop :=
  (
    (∀ (s : State) (x : RForm), s.issues x = true → x.mod < 2 →
      let c := x.core
      let k := s.core c
      let on (i : Nat) : Bool := s.laneOn c x.pred x.pneg i
      let d (i : Nat) : Nat × Nat := rngDraw (k.rngState i) (k.rngTap i)
      ((∀ i < 64, on i = true → k.rngState i ≠ 0) → ∃ t, exec (.rngdraw x) s = .next t
        ∧ (∀ i < 64, (t.core c).rdV x.d i = if on i = true then (d i).2 / 2 ^ (32 * x.mod) % 2 ^ 32 else k.rdV x.d i)
        ∧ (∀ i < 64, (t.core c).rngState i = if on i = true then (d i).1 else k.rngState i)
        ∧ (∀ j i, j ≠ x.d → (t.core c).rdV j i = k.rdV j i) ∧ (t.core c).s = k.s ∧ s.moved t c (s.pc c + 8))
      ∧ ((∃ i, i < 64 ∧ on i = true ∧ k.rngState i = 0) → ∃ t, exec (.rngdraw x) s = .next t ∧ s.excTaken t c St.RNG_ZERO))
    ∧ (∀ (s : State) (x : RForm), s.acts x = true → x.core < 1024 → x.mod = 0 →
      let c := x.core
      let w := s.ran c
      let k := w.core c
      let a := k.rdS x.a
      a % 1024 = 0 →
      (∀ u bs, w.ldN (w.via c) a 1024 = .ok (u, bs) → (∀ b ∈ bs, b.2 = false) →
        let y (i : Nat) : Nat := ofBytes (((bs.drop (8 * i)).take 8).map (fun b => b.1))
        ((∀ i < 64, y i ≠ 0 ∧ bit (y (64 + i)) 63 = true) → ∃ t, exec (.rngld x) s = .next t
          ∧ (∀ i < 64, (t.core c).rngState i = y i ∧ (t.core c).rngTap i = y (64 + i)) ∧ (t.core c).v = k.v ∧ t.pc c = (s.pc c + 8) % 2 ^ 64)
        ∧ ((∃ i, i < 64 ∧ y i = 0) → ∃ t, exec (.rngld x) s = .next t ∧ s.excTaken t c St.RNG_ZERO ∧ (t.core c).rng = (s.core c).rng)
        ∧ ((∀ i < 64, y i ≠ 0) → (∃ i, i < 64 ∧ bit (y (64 + i)) 63 = false) →
            ∃ t, exec (.rngld x) s = .next t ∧ s.excTaken t c St.RNG_TAP ∧ (t.core c).tap = (s.core c).tap))
      ∧ (a + 1024 ≤ 0x80000 → w.inPart k.fn (c / 4) = true → Map.sorted natLt w.mem = true →
        ∃ t, exec (.rngst x) s = .next t ∧ w.stored t (aSpad c a) k.rngImage ∧ t.core c = k.aged ∧ t.pc c = (s.pc c + 8) % 2 ^ 64)))
  ∧ (
    (∀ (s : State) (x : RForm), s.issues x = true → x.mod < 32 →
      let c := x.core
      let k := s.core c
      ∃ t, exec (.nwadd x) s = .next t
        ∧ (t.core c).nwSlot x.mod = ((List.range 64).filter (fun i => s.laneOn c x.pred x.pneg i)).foldl
            (fun w i => (w.addLane (k.rdV x.a i)).1) (k.nwSlot x.mod)
        ∧ (∀ j, j ≠ x.mod → (t.core c).nwSlot j = k.nwSlot j) ∧ (t.core c).v = k.v ∧ s.movedTally t c (s.pc c + 8))
    ∧ (∀ (s : State) (x : RForm), s.acts x = true → x.mod < 32 → x.core < 1024 →
      let c := x.core
      let k := s.core c
      (∃ t, exec (.nwclr x) s = .next t ∧ (t.core c).nwSlot x.mod = NwSlot.clear ∧ (∀ j, j ≠ x.mod → (t.core c).nwSlot j = k.nwSlot j)
        ∧ (t.core c).v = k.v ∧ s.moved t c (s.pc c + 8))
      ∧ (let u := s.ran c
        let k := u.core c
        let a := u.rg R.CORE_NW_BASE_BASE (pCore c) * 2048 + 64 * x.mod
        a + 64 ≤ 0x80000 → u.inPart k.fn (c / 4) = true → Map.sorted natLt u.mem = true → u.poisoned (aSpad c a) = false →
        let w := k.nwSlot x.mod
        let l2 := (toFp32 w.ewa.val.sqrt).1
        let f (o : Nat) : Nat := u.rle (aSpad c (a + o)) 4
        let jump := w.nonfin || overBase l2 (f 24) (f 16) || overBase w.max (f 24) (f 20)
        ∃ t, exec (.nwclose x) s = .next t ∧ (t.core c).nwSlot x.mod = NwSlot.clear
          ∧ t.rbs (aSpad c a) 16 = (leBytes 4 l2 ++ leBytes 4 w.max ++ leBytes 4 (b2n w.nonfin + b2n jump * 2 + b2n w.ewa.loss * 4)
              ++ leBytes 2 k.layer ++ leBytes 2 k.op)
          ∧ t.rbs (aSpad c (a + 16)) 12 = u.rbs (aSpad c (a + 16)) 12 ∧ t.rbs (aSpad c (a + 32)) 8 = leBytes 8 u.tbc
          ∧ (∀ b, b < aSpad c a ∨ aSpad c a + 64 ≤ b → t.rb b = u.rb b)
          ∧ t.rg R.CORE_NW_STATUS_JUMP (pCore c) = (if jump = true then 1 else u.rg R.CORE_NW_STATUS_JUMP (pCore c))
          ∧ t.pc c = (s.pc c + 8) % 2 ^ 64)))

/-- R158: a draw shifts the lane's state right, XORs TAP in where the bit shifted out is 1, and returns the new state whitened by three XORs with shifts of
itself, each of them a bijection of 64-bit values. With bit 63 of TAP set, a state other than 0 never becomes 0 (R160). -/
def Obligations.DrawFunction : Prop :=
  (∀ s tap : BitVec 64,
    let b := s &&& 1
    let s1 := if b = 1 then (s >>> 1) ^^^ tap else s >>> 1
    let y1 := s1 ^^^ (s1 >>> 23)
    let y2 := y1 ^^^ (y1 <<< 17)
    rngDraw s.toNat tap.toNat = (s1.toNat, (y2 ^^^ (y2 >>> 31)).toNat)
    ∧ (tap.msb = true → s ≠ 0 → (rngDraw s.toNat tap.toNat).1 ≠ 0))
  ∧ (∀ f ∈ ([fun y => y ^^^ (y >>> 23), fun y => y ^^^ (y <<< 17), fun y => y ^^^ (y >>> 31)] : List (BitVec 64 → BitVec 64)),
    ∀ y, ∃ x, f x = y ∧ ∀ z, f z = y → z = x)

/-! ### Contexts, self-tests and the end of a kernel (03_cube_arrays.md, 04_tile_isa.md, 05_core_memory.md) -/

/-- R166, R169, R170, R260, R421: CTX_SAVE of a quiesced core writes its image and shows state 3 with BUSY, CTX_RESTORE of a valid image state 4, and a transfer
whose accesses a channel holds has begun and waits, a save with VALID cleared first where the header can be written; on a core that is not quiesced both post BUSY as their result, and a transfer that fails posts its status.
CTX_DONE posts OK, a save ending where the core was and a restore with the core quiesced, whose kernel goes on where QUIESCE has been cleared meanwhile.
KERNEL_END makes a core idle whose kernel has ended and whose units are done.
It states the completion of: kernelEnd, ctxSave, ctxRestore, ctxDone.
The model's own readings in it: log entries 26, 29, 123. -/
def Obligations.ContextTransfers : Prop :=
  ∀ (s : State) (fn c : Nat),
    let p := pCore c
    let r (save : Bool) : CtxRun := ⟨save, s.rg R.CORE_CTX_BASE_BASE p * 4096, s.runState c, false⟩
    let image := (0, s.ctxHeader c false) :: (0x40, s.ctxBody c)
      :: (onesBelow 8 (s.core c).dirtyBanks).map (fun b => (0x3000 + 0x10000 * b, (s.core c).bankImage b))
    (s.ctxTakes fn c = true → s.quiesced p = false → ∀ op ∈ ([.ctxSave, .ctxRestore] : List (Nat → Met Nat → Instr)),
      ∃ t, exec (op fn ⟨c, []⟩) s = .next t ∧ t.rg R.CORE_CTX_RESULT_STATUS p = St.BUSY ∧ t.rg R.CORE_CTX_CMD_BUSY p = 0)
    ∧ (s.ctxTakes fn c = true → s.quiesced p = true →
      (∀ u, s.ctxWrite c image = .ok u →
        ∃ t, exec (.ctxSave fn ⟨c, []⟩) s = .next t ∧ t.runState c = 3 ∧ t.rg R.CORE_CTX_CMD_BUSY p = 1
          ∧ t.core c = { u.core c with ctx := some (r true) } ∧ u.sameMem t)
      ∧ (∀ u bs, s.ldN (s.ctxVia c) (s.ctxBase c) 64 = .ok (u, bs) → (∀ b ∈ bs, b.2 = false) →
        ofBytes ((bs.take 2).map (fun b => b.1)) % 512 = 0x101 →
        ∃ t, exec (.ctxRestore fn ⟨c, []⟩) s = .next t ∧ t.runState c = 4 ∧ t.rg R.CORE_CTX_CMD_BUSY p = 1
          ∧ t.core c = { u.core c with ctx := some (r false) } ∧ u.sameMem t)
      ∧ (∀ op ∈ ([(Instr.ctxSave, 3, s.ctxWrite c image), (.ctxRestore, 4, s.ctxCheck c)]
          : List ((Nat → Met Nat → Instr) × Nat × Except Nat State)),
        (op.2.2 = .error waitCode → ∃ t, exec (op.1 fn ⟨c, []⟩) s = .next t ∧ t.runState c = op.2.1 ∧ t.rg R.CORE_CTX_CMD_BUSY p = 1
          ∧ t.core c = { s.core c with ctx := some { r (decide (op.2.1 = 3)) with waits := true } }
          ∧ (∀ u, op.2.1 = 3 → s.ctxWrite c [(0, s.ctxHeader c false)] = .ok u → u.sameMem t)
          ∧ (∀ e, op.2.1 = 4 ∨ s.ctxWrite c [(0, s.ctxHeader c false)] = .error e → s.sameMem t))
        ∧ (∀ e, op.2.2 = .error e → e < 65536 → ∃ t, exec (op.1 fn ⟨c, []⟩) s = .next t ∧ t.rg R.CORE_CTX_RESULT_STATUS p = e
          ∧ t.rg R.CORE_CTX_CMD_BUSY p = 0 ∧ t.core c = s.core c)))
    ∧ (∀ r, (s.core c).ctx = some r → r.waits = false → r.rest ≤ 2 →
      (∀ u, r.save = true → s.stN (s.ctxVia c) (s.ctxBase c) ((leBytes 8 (ofBytes ((s.ctxHeader c true).take 8))).map some) = .ok u →
        let goes := r.rest = 2 ∧ u.quiescing p = false ∧ u.enabled p = true
        ∃ t, exec (.ctxDone ⟨c, []⟩) s = .next t ∧ t.rg R.CORE_CTX_RESULT_STATUS p = St.OK ∧ t.rg R.CORE_CTX_CMD_BUSY p = 0
          ∧ (goes → t.runState c = 1) ∧ (¬goes → t.runState c = r.rest ∧ t.core c = { u.core c with ctx := none }) ∧ u.sameMem t)
      ∧ (∀ u, r.save = false → s.ctxLoad c [] = .ok u →
        let goes := u.quiescing p = false ∧ u.enabled p = true
        ∃ t, exec (.ctxDone ⟨c, []⟩) s = .next t ∧ t.rg R.CORE_CTX_RESULT_STATUS p = St.OK ∧ t.rg R.CORE_CTX_CMD_BUSY p = 0
          ∧ (goes → t.runState c = 1)
          ∧ (¬goes → t.runState c = 2 ∧ t.core c = { u.core c with fn := u.coreFn c, ended := none, wait := none, ctx := none })))
    ∧ ((s.core c).ctx = none → exec (.ctxDone ⟨c, []⟩) s = .next s)
    ∧ (∀ st, (s.core c).ended = some st → (s.core c).atWork = false →
      ∃ t, exec (.kernelEnd c) s = .next t ∧ t.core c = { s.core c with launch := none, ended := none, wait := none } ∧ t.runState c = 0)
    ∧ ((s.core c).ended = none ∨ (s.core c).atWork = true → exec (.kernelEnd c) s = .next s)

/-- R124–R127, R179: KAT_REQ starts the pattern on every live array named; a pass dates itself and goes on to the next pattern, the last one recorded in PASS;
a first failure repeats the pattern and a second marks the array for its fence; ABANDONED after 16 yields; ARRAY_FENCE takes the array out of LIVE; an aged
bank request is counted.
It states the completion of: katReq, katPatternDone, katAbandon, arrayFence, bankRequestAged. -/
def Obligations.ArrayTests : Prop :=
  ∀ (s : State) (fn c a : Nat), c < 1024 → a < 4 →
    let p := pCore c
    let k := (s.core c).kat
    (∀ pat mask, s.mayWrite fn p = true → pat ≤ 63 → mask < 16 → s.flag R.HDR_CTRL_SELFTEST_ALLOW p = true → s.quiescing p = false →
      s.fencedP p = false → s.testBarred p = false → (s.testRec 0 p).suspended = false →
      ∃ t, exec (.katReq fn c pat mask) s = .next t ∧ t.rg R.CORE_KAT_CTRL_PATTERN p = pat ∧ t.rg R.CORE_KAT_CTRL_MASK p = mask
        ∧ t.rg R.CORE_KAT_STATUS_YIELDS p = 0
        ∧ (bit mask a = true → bit (s.rg R.CORE_ARR_STATUS_LIVE p) a = true → bit (t.core c).kat.todo a = true ∧ (t.core c).kat.at a = pat))
    ∧ (bit k.todo a = true → a ∉ s.mmaArrays c → s.flag R.HDR_CTRL_SELFTEST_ALLOW p = true →
      (k.at a < 63 → ∃ t, exec (.katPatternDone c a true) s = .next t ∧ (t.core c).kat.at a = k.at a + 1 ∧ bit (t.core c).kat.todo a = true
        ∧ t.rg (R.CORE_KAT_PASS_TBC_TBC a) p = s.coreTbc % 2 ^ 64)
      ∧ (k.at a ≥ 63 → ∃ t, exec (.katPatternDone c a true) s = .next t ∧ bit (t.core c).kat.todo a = false
        ∧ bit (t.rg R.CORE_KAT_STATUS_PASS p) a = true ∧ t.rg (R.CORE_KAT_PASS_TBC_TBC a) p = s.coreTbc % 2 ^ 64)
      ∧ (bit k.failedOnce a = false → ∃ t, exec (.katPatternDone c a false) s = .next t ∧ bit (t.core c).kat.failedOnce a = true
        ∧ bit (t.core c).kat.todo a = true ∧ (t.core c).kat.at a = k.at a)
      ∧ (bit k.failedOnce a = true → ∃ t, exec (.katPatternDone c a false) s = .next t ∧ bit (t.core c).kat.fencing a = true
        ∧ bit (t.core c).kat.todo a = false ∧ bit (t.rg R.CORE_KAT_STATUS_FAIL p) a = true)
      ∧ (s.rg R.CORE_KAT_STATUS_YIELDS p ≥ 16 → ∃ t, exec (.katAbandon c a) s = .next t ∧ bit (t.rg R.CORE_KAT_STATUS_ABANDONED p) a = true
        ∧ bit (t.core c).kat.todo a = false))
    ∧ (bit k.fencing a = true → (s.core c).mma = none → ∃ t, exec (.arrayFence c a) s = .next t
        ∧ bit (t.rg R.CORE_ARR_STATUS_LIVE p) a = false ∧ t.rg R.HDR_STATUS_DEGRADED p = 1 ∧ bit (t.core c).kat.fencing a = false
        ∧ bit (t.rg R.HDR_ERR_STATUS_ERR p) Er.CORE_KAT_FAIL = true)
    ∧ (∀ b < 32, s.rg (cntEvent 0) p = Cn.CORE_AGED_GRANT → s.flag (cntFreeze 0) p = false →
        ∃ t, exec (.bankRequestAged c b) s = .next t ∧ t.rg (cntCount 0) p = (s.rg (cntCount 0) p + 1) % 2 ^ 64
          ∧ s.sameRegs t [] ∧ { t with regs := s.regs } = s ∧ s.sameMem t)

/-! ### The DMA engines (05_core_memory.md) -/

/-- R189, R192, R194: a FILL that its engine serves writes its 8-byte pattern along every row, and a COPY the bytes of its source, in the own scratchpad and
nowhere else; the descriptor's outcome is OK.
R81, R192, R198: a CONVERT between formats without scales writes every element rounded to nearest even to its place, and a TRANSPOSE moves element (r, c) to
(c, r), for tensors in the own scratchpad that do not overlap.
R195, R196, R611: a descriptor whose outcome is known leaves its queue; with OK it adds SIG_INC to its signal, a failed one does not unless ERR_SIGNAL is set, and
a PUT that its flow gave up stays unacknowledged for the FENCEs of its core. One that runs stays.
It states the completion of: copy, convert, fill, transpose, dmaComplete.
The model's own readings in it: log entries 25, 31, 34, 124. -/
def Obligations.DmaDescriptors : Prop :=
  (
    ∀ (s : State) (e i n : Nat) (d : DmaDesc), s.engTakes e = true → s.dmaPick e = some (i, n, d) → s.dmaCheck e d true = St.OK →
      d.core < 1024 → s.inPart d.fn (d.core / 4) = true → Map.sorted natLt s.mem = true →
      d.dst + (d.rows - 1) * d.dstStride + d.cols ≤ 0x80000 → (d.rows ≤ 1 ∨ d.cols ≤ d.dstStride) →
      let a (r j : Nat) : Nat := aSpad d.core (d.dst + r * d.dstStride + j)
      let ok (t : State) : Prop := (∃ x, ((t.eng e).q i)[n]? = some x ∧ x.result = some St.OK ∧ x.desc = d.desc)
        ∧ (∀ b, (∀ r < d.rows, ∀ j < d.cols, b ≠ a r j) → t.rb b = s.rb b) ∧ (∀ c, t.core c = s.core c)
      (d.opc = 3 → ∃ t, exec (.fill e []) s = .next t ∧ ok t
        ∧ (∀ r < d.rows, ∀ j < d.cols, (t.rb (a r j)).toNat = d.src / 2 ^ (8 * (j % 8)) % 256))
      ∧ (d.opc = 1 → d.src + (d.rows - 1) * d.srcStride + d.cols ≤ 0x80000 →
        (∀ r < d.rows, ∀ q < d.rows, d.src + r * d.srcStride + d.cols ≤ d.dst + q * d.dstStride ∨ d.dst + q * d.dstStride + d.cols ≤ d.src + r * d.srcStride) →
        ∃ t, exec (.copy e []) s = .next t ∧ ok t
          ∧ (∀ r < d.rows, ∀ j < d.cols, t.rb (a r j) = s.rb (aSpad d.core (d.src + r * d.srcStride + j)))))
  ∧ (
    ∀ (s : State) (e i n : Nat) (d : DmaDesc), s.engTakes e = true → s.dmaPick e = some (i, n, d) → s.dmaCheck e d true = St.OK →
      d.core < 1024 → s.inPart d.fn (d.core / 4) = true → Map.sorted natLt s.mem = true →
      let x := d.srcTen
      let y := d.dstTen
      x.sf = 0 → y.sf = 0 → x.placed = true → y.placed = true → 0 < d.rows → 0 < d.cols →
      (y.dim1 = 1 ∨ rowBytes y.f y.dim0 ≤ y.st1) →
      (∀ r < x.dim1, ∀ q < y.dim1, x.rowAddr r + rowBytes x.f x.dim0 ≤ y.rowAddr q ∨ y.rowAddr q + rowBytes y.f y.dim0 ≤ x.rowAddr r) →
      (∀ r < x.dim1, ∀ j < rowBytes x.f x.dim0, s.poisoned (aSpad d.core (x.rowAddr r + j)) = false) →
      (d.opc = 2 → d.draws = false → ∃ t, exec (.convert e []) s = .next t
        ∧ (∀ r < d.rows, ∀ j < d.cols, (t.spadElem d.core y r j).1 =
            (y.f.convert (x.f.decode false (s.spadElem d.core x r j).1).1 none).1 % 2 ^ y.f.width)
        ∧ (∀ b, (∀ r < y.dim1, ∀ j < rowBytes y.f y.dim0, b ≠ aSpad d.core (y.rowAddr r + j)) → t.rb b = s.rb b))
      ∧ (d.opc = 4 → ∃ t, exec (.transpose e []) s = .next t
        ∧ (∀ r < d.rows, ∀ j < d.cols, (t.spadElem d.core y j r).1 = (s.spadElem d.core x r j).1)
        ∧ (∀ b, (∀ r < y.dim1, ∀ j < rowBytes y.f y.dim0, b ≠ aSpad d.core (y.rowAddr r + j)) → t.rb b = s.rb b)))
  ∧ (
    ∀ (s : State) (e q n : Nat) (d : DmaDesc), ((s.eng e).q q)[n]? = some d →
      (∀ st, d.started = true → d.result = some st → ∃ t, exec (.dmaComplete e q n) s = .next t
        ∧ (t.eng e).q q = ((s.eng e).q q).eraseIdx n
        ∧ (st = St.OK → s.sigVal d.sig + d.inc < 2 ^ 64 → t.sigVal d.sig = s.sigVal d.sig + d.inc)
        ∧ (st ≠ St.OK → d.errSignal = false → t.sigVal d.sig = s.sigVal d.sig)
        ∧ (∀ m, m ≠ d.sig → t.sigVal m = s.sigVal m)
        ∧ (∀ c, t.core c = if d.opc = 5 ∧ (st = St.FLOW_TIMEOUT ∨ st = St.FLOW_FAILED ∨ st = St.FLOW_RESET ∨ st = St.ABORTED) ∧ c = d.core then { s.core c with putLost := true }
            else s.core c))
      ∧ (d.result = none → exec (.dmaComplete e q n) s = .next s))

/-! ### The page header, registers and cluster host cores (00_scope.md, 01_organisation.md, 20_register_map.md) -/

/-- R11, R22, R599–R602: a write of a page that does not take it, or of a wrong width or alignment, changes nothing; a 32-bit write of ERR_MASK,
ERR_SEVERITY or EVT_QUEUE sets the field whole and ignores reserved bits, and one of ID changes nothing; MSI-X table words take their value.
R13, R14: ENABLE, QUIESCE and SELFTEST_ALLOW as a write of CTRL leaves them on a page that takes it: ENABLE is cleared at once on a quiesced unit and otherwise
once it has drained, QUIESCED then reading 1.
R15, R16, R20–R23, R47, R52, R609: writing ERR_STATUS clears the bits written 1, ERR_INJECT records the sources named, CNT_SEL.CLEAR zeroes a counter, a 32-bit
read of its low half latches the high half, CFG_DIGEST follows the configuration registers, every clock domain's TBC copy is corrected, and a port whose
recovered clock stops is no longer up.
It states the completion of: registerWrite, ctrlEnableSet, ctrlEnableClear, ctrlQuiesce, ctrlSelftestAllow, quiesceDone, errStatusClear, errInject, cntClear,
cntReadLow, cfgDigestUpdate, tbcCorrect, rxClockStop.
The model's own readings in it: log entries 84, 110. -/
def Obligations.PageWrites : Prop :=
  (
    ∀ (s : State) (fn p off width v : Nat) (env : WrEnv),
      (p < 0xC00 → s.mayWrite fn p = false → exec (.registerWrite fn p off width v env) s = .next s)
      ∧ (accessOk off width = false → exec (.registerWrite fn p off width v env) s = .next s)
      ∧ (s.mayWrite fn p = true → p < 0xC00 →
        (∀ r ∈ ([(0x024, R.HDR_ERR_MASK_MASK), (0x028, R.HDR_ERR_SEVERITY_SEV), (0x034, R.HDR_EVT_QUEUE_QUEUE)] : List (Nat × Fld)),
          exec (.registerWrite fn p r.1 32 v env) s = .next (s.wr r.2 p v))
        ∧ exec (.registerWrite fn p 0x000 32 v env) s = .next s)
      ∧ (s.tableOn fn = true → ∀ i < 4096, ∃ t, exec (.registerWrite fn (0xC00 + i / 1024) (4 * (i % 1024)) 32 v env) s = .next t
          ∧ PMap.get 0 t.host.msix (fn, i) = (if i % 4 = 3 then v % 2 else v % 2 ^ 32)))
  ∧ (
    ∀ (s : State) (fn p : Nat),
      (s.ctrlTakes fn p = true →
        (s.disabling = [] → ∃ t, exec (.ctrlEnableSet fn p) s = .next t ∧ t.enabled p = true)
        ∧ (s.disabling = [] → s.enabled p = true → s.quiesced p = true → ∃ t, exec (.ctrlEnableClear fn p) s = .next t ∧ t.enabled p = false)
        ∧ (s.disabling = [] → s.enabled p = true → s.quiesced p = false → ∃ t, exec (.ctrlEnableClear fn p) s = .next t ∧ t.quiescing p = true
            ∧ t.enabled p = true ∧ t.disabling = [(p, s.quiescing p)])
        ∧ (s.disabling = [] → (∃ t, exec (.ctrlQuiesce fn p true) s = .next t ∧ t.quiescing p = true)
            ∧ ∃ t, exec (.ctrlQuiesce fn p false) s = .next t ∧ t.quiescing p = false ∧ t.quiesced p = false)
        ∧ (∀ b, ∃ t, exec (.ctrlSelftestAllow fn p b) s = .next t ∧ t.flag R.HDR_CTRL_SELFTEST_ALLOW p = b))
      ∧ (s.ctrlTakes fn p = false → ∀ b, ∀ c ∈ ([.ctrlEnableSet fn p, .ctrlEnableClear fn p, .ctrlQuiesce fn p b, .ctrlSelftestAllow fn p b]
          : List Instr), exec c s = .next s)
      ∧ (s.quiescing p = true → s.quiesced p = false → s.drained p = true →
        (s.disabling = [] → ∃ t, exec (.quiesceDone p) s = .next t ∧ t.quiesced p = true ∧ t.quiescing p = true
          ∧ (blkOf p = 0x60 → s.runState (p - 0x200) = 1 → t.runState (p - 0x200) = 2))
        ∧ (∀ soft, s.disabling = [(p, soft)] → ∃ t, exec (.quiesceDone p) s = .next t ∧ t.quiesced p = true ∧ t.enabled p = false
            ∧ t.quiescing p = soft ∧ t.disabling = [])))
  ∧ (
    ∀ (s : State) (fn p : Nat),
      (s.mayWrite fn p = true → ∀ mask,
        exec (.errStatusClear fn p mask 0) s = .next (s.wr R.HDR_ERR_STATUS_ERR p (s.rg R.HDR_ERR_STATUS_ERR p - (s.rg R.HDR_ERR_STATUS_ERR p &&& mask)))
        ∧ (∀ n < 32, bit (mask &&& srcMask (blkOf p)) n = true →
            ∃ t, exec (.errInject fn p mask) s = .next t ∧ bit (t.rg R.HDR_ERR_STATUS_ERR p) n = true)
        ∧ (∀ n < 4, ∀ b, exec (.cntClear fn p n b) s = .next (s.wr (cntCount n) p (b2n b))))
      ∧ (s.responds fn p = true → ∀ n < 4, ∃ t, exec (.cntReadLow fn p n) s = .next t ∧ t.rdata = [s.rg (cntCount n) p % 2 ^ 32]
          ∧ PMap.get 0 t.latch (p, 2 * (0x60 + 8 * n) + 1) = s.rg (cntCount n) p / 2 ^ 32 ∧ s.sameMem t ∧ t.regs = s.regs)
      ∧ (∃ t, exec (.cfgDigestUpdate p) s = .next t ∧ t.rg R.HDR_CFG_DIGEST_DIGEST p = s.cfgDigest p ∧ s.sameMem t ∧ ∀ c, t.core c = s.core c)
      ∧ (∃ t, exec .tbcCorrect s = .next t ∧ (∀ d < 28, NMap.get 0 t.tbcCopies d = s.tbc) ∧ { t with tbcCopies := s.tbcCopies } = s)
      ∧ (∀ x b, s.lnkState x = 6 ∨ s.lnkState x = 7 → ∃ t, exec (.rxClockStop x b) s = .next t ∧ t.lnkState x ≠ s.lnkState x))

/-- R37, R204, R467, R606: a load of a cluster host core outside its L2 returns the bytes at the address and a store writes them, each with cause 0; an access
below 0x80000 faults, with cause 5 for a load and 7 for a store; in a halt its clock is gated and nothing is accessed.
It states the completion of: chcAccess.
The model's own readings in it: log entries 37, 39. -/
def Obligations.HostCoreAccess : Prop :=
  ∀ (s u : State) (n a len err : Nat) (bs : List (Nat × Bool)) (w : List Nat), n < 64 → s.pageOn (pChc n) = true → s.enabled (pChc n) = true →
    s.fencedP (pChc n) = false → a % 64 + len ≤ 64 → a % 64 + w.length ≤ 64 →
    (s.halted = true → ∀ op, exec (.chcAccess n op err) s = .next s)
    ∧ (s.halted = false → a < 0x80000 → exec (.chcAccess n (.load a len) err) s = .next (s.chcEnd 5 []) ∧ exec (.chcAccess n (.store a w) err) s = .next (s.chcEnd 7 []))
    ∧ (s.halted = false → 0x80000 ≤ a → s.chcCacheable n a = false →
      (∀ pa, s.mapAddr (s.viaChc n) a false false = .ok pa → s.ldN (s.viaChc n) a len = .ok (u, bs) → (∀ b ∈ bs, b.2 = false) →
        exec (.chcAccess n (.load a len) err) s = .next (u.chcEnd 0 (bs.map (fun b => b.1))))
      ∧ (s.stN (s.viaChc n) a (w.map some) = .ok u → exec (.chcAccess n (.store a w) err) s = .next (u.chcEnd 0 [])))

/-! ### Resets and recovery (14_recovery.md) -/

/-- R13, R39, R101, R160, R404, R479, R480, R575, R605: a reset requested with none in progress and no dump to precede it begins at once: its unit takes no work; RST_ENG of a core
zeroes its generators, descriptors and slots and leaves it idle, and one of an array empties its registers and queues, aborts an MMA that runs, and without
one leaves the banks of the other arrays their entries; RST_PART zeroes its function's signals; RST_CHIP moves INC on and clears every core, signal
and flow. FLR and PERST# request the same levels.
R477, R479, R481, R497: a reset that completes is no longer in progress, RESET_REQ of its page reads 0 and RST_STATUS tells its level with OK; a core whose reset misses
its bound is fenced; an expired watchdog restarts the Keeper and is counted within the hour.
It states the completion of: ctrlResetReq, flrVf, flrPf0, perstAssert, keeperWatchdogExpire, rstCtx, rstEng, rstPart, rstChip, resetDone, resetBoundExpire.
The model's own readings in it: log entries 83, 87, 88, 89, 90. -/
def Obligations.Resets : Prop :=
  (
    ∀ (s : State), s.recov.resets = [] → s.recov.dumps = [] → s.rg R.KPR_KSTATE_STATE pKpr ≠ 3 → (∀ fn, s.rg R.HIF_DUMP_LEN_LEN (pHif fn) < 65536) →
      let begun (t : State) (level target : Nat) : Prop :=
        ∃ r ∈ t.recov.resets, r.level = level ∧ r.target = target ∧ r.begun = true ∧ r.covered = false
      (∀ p, resetLevelOf p = 1 → s.fencedP p = false → ∃ t, exec (.rstCtx p) s = .next t ∧ begun t 1 p
          ∧ t.rg R.HDR_CTRL_RESET_REQ p = 1 ∧ t.enabled p = false ∧ t.quiesced p = true)
      ∧ (∀ c < 1024, s.fencedP (pCore c) = false → s.flag R.HIF_DUMP_CFG_ENG (pHif (s.owner (pCore c))) = false →
          (∀ i ∈ ([.rstEng ⟨pCore c, none⟩, .ctrlResetReq 0 (pCore c) 0] : List Instr), (i = .rstEng ⟨pCore c, none⟩ ∨ s.mayWrite 0 (pCore c) = true) →
          ∃ t, exec i s = .next t ∧ begun t 2 (pCore c) ∧ t.rg R.HDR_CTRL_RESET_REQ (pCore c) = 1
            ∧ t.enabled (pCore c) = false ∧ t.quiesced (pCore c) = true ∧ t.runState c = 0 ∧ t.pc c = 0
            ∧ (∀ j, (t.core c).rngState j = 0 ∧ (t.core c).rngTap j = 0 ∧ NMap.get 0 (t.core c).t j = 0 ∧ (t.core c).nwSlot j = NwSlot.clear))
          ∧ (∀ a < 4, (s.core c).mma ≠ none → s.runState c ≠ 0 → ∃ t, exec (.rstEng ⟨pCore c, some a⟩) s = .next t ∧ begun t 2 (pArr c a)
              ∧ (t.core c).mma = none ∧ bit (t.core c).kat.todo a = false ∧ t.rg R.CORE_RUN_STATUS_MMA_ACTIVE (pCore c) = 0)
          ∧ (∀ a < 4, (s.core c).mma = none →
            ∃ t, exec (.rstEng ⟨pCore c, some a⟩) s = .next t ∧ begun t 2 (pArr c a) ∧ bit (t.core c).kat.todo a = false
              ∧ (∀ b m n, b / 2 ≠ a → m < 64 → n < 64 → (t.core c).rdA b m n = (s.core c).rdA b m n)
              ∧ (∀ w ∈ (t.core c).br, w.1 / 2 ≠ a) ∧ (∀ q ∈ (t.core c).fq, q.1 / 8 ≠ a)
              ∧ (t.core c).s = (s.core c).s ∧ (t.core c).v = (s.core c).v ∧ (t.core c).t = (s.core c).t ∧ s.sameCores t c))
      ∧ (∀ fn < 256, ∃ t, exec (.rstPart fn) s = .next t ∧ begun t 3 fn ∧ (∀ n, s.ownsSig fn n = true → t.sigVal n = 0)
          ∧ t.enabled (pCol fn) = false ∧ t.enabled (pQue fn) = false ∧ t.enabled (pHif fn) = false)
      ∧ (∀ fn, 0 < fn → fn < 256 → ∃ t, exec (.flrVf fn) s = .next t ∧ begun t 3 fn ∧ NMap.get false t.host.flr fn = true
          ∧ ∀ n, s.ownsSig fn n = true → t.sigVal n = 0)
      ∧ (∀ i ∈ ([.rstChip, .flrPf0, .perstAssert] : List Instr), (i = .perstAssert → s.rg R.KPR_BOOT_STATUS_PHASE pKpr = 10) →
          ∃ t, exec i s = .next t ∧ begun t 4 0 ∧ t.rg R.KPR_RST_STATUS_CHIP_PEND pKpr = 1
            ∧ t.rg R.RTE_INC_INC pRte = (s.rg R.RTE_INC_INC pRte + 1) % 2 ^ R.RTE_INC_INC.width ∧ (∀ n, t.sigVal n = 0) ∧ (∀ f, t.flow f = Flow.free)
            ∧ (∀ c, (t.core c).launch = none ∧ (t.core c).rngState 0 = 0) ∧ (i = .perstAssert → t.host.perst = true)
            ∧ (i = .flrPf0 → NMap.get false t.host.flr 0 = true)))
  ∧ (
    (∀ (s : State) (level target : Nat) (r : RstOp), 1 ≤ level → level ≤ 4 → s.recov.resets = [r] → r.level = level → r.target = target →
      r.begun = true → r.covered = false → (level ≤ 2 → target < 0x1000) →
      ∃ t, exec (.resetDone level target) s = .next t ∧ t.recov.resets = [] ∧ t.rg R.HDR_CTRL_RESET_REQ (rstPage level target) = 0
        ∧ t.rg R.KPR_RST_STATUS_LAST_LEVEL pKpr = level ∧ t.rg R.KPR_RST_STATUS_LAST_STATUS pKpr = St.OK ∧ t.rg R.KPR_RST_LAST_TBC_TBC pKpr = s.tbc % 2 ^ 64)
    ∧ (∀ (s : State) (c fn : Nat) (r : RstOp), c < 1024 → s.recov.resets = [r] → r.level = 2 → r.target = pCore c → r.begun = true →
        r.covered = false → s.quadFn (c / 4) = some fn → ∀ l, ∃ t, exec (.resetBoundExpire 2 (pCore c) l) s = .next t ∧ t.fencedP (pCore c) = true
          ∧ NMap.get false t.recov.fenced (pCore c) = true)
    ∧ (∀ (s : State), ∃ t, exec .keeperWatchdogExpire s = .next t ∧ t.rg R.KPR_KSTATE_STATE pKpr = 3
        ∧ t.rg R.KPR_KSTATE_RESTARTS pKpr = min 3 ((s.recov.expiries.filter (fun x => decide (s.tbc ≤ x + 3600000000000))).length + 1)))

/-- R484–R487, R496, R497: DUMP_GO begins a dump where the function has a buffer and no unread dump, and is refused for want of a buffer; a dump that ends is VALID and no longer BUSY,
and says whether MAX_MS cut it; a self-test given up is rescheduled once its interval is over and it may start, doubled up to 1,000 ms, and suspended at the 64th time; TEST_RESUME resumes every suspended
test.
It states the completion of: dumpGo, dumpMaxMs, dumpDone, testReschedule, testResume.
The model's own readings in it: log entries 85, 86. -/
def Obligations.DumpsAndTests : Prop :=
  (∀ (s : State) (req fn : Nat), s.mayWrite req (pHif fn) = true → s.flag R.HIF_DUMP_STATUS_BUSY (pHif fn) = false → s.recov.dumps = [] →
    (s.rg R.HIF_DUMP_LEN_LEN (pHif fn) < 65536 →
      exec (.dumpGo req fn) s = .next (s.wr R.HIF_DUMP_STATUS_STATUS (pHif fn) St.DUMP_NO_BUFFER))
    ∧ (65536 ≤ s.rg R.HIF_DUMP_LEN_LEN (pHif fn) → s.flag R.HIF_DUMP_STATUS_VALID (pHif fn) = false →
      ∃ t, exec (.dumpGo req fn) s = .next t ∧ t.flag R.HIF_DUMP_STATUS_BUSY (pHif fn) = true ∧ t.dumping fn = true))
  ∧ (∀ (s : State) (fn n : Nat) (d : Dump), s.recov.dumps = [(fn, d)] → d.fn = fn → s.keeperUp = true → s.recov.resets = [] →
    (∃ t, exec (.dumpDone fn false) s = .next t ∧ t.flag R.HIF_DUMP_STATUS_VALID (pHif fn) = true ∧ t.flag R.HIF_DUMP_STATUS_TIMED_OUT (pHif fn) = false)
    ∧ ∃ t, exec (.dumpMaxMs fn n) s = .next t ∧ t.flag R.HIF_DUMP_STATUS_VALID (pHif fn) = true ∧ t.flag R.HIF_DUMP_STATUS_TIMED_OUT (pHif fn) = true
        ∧ t.flag R.HIF_DUMP_STATUS_TRUNCATED (pHif fn) = true)
  ∧ (∀ (s : State) (test p : Nat) (r : TestRec), s.testRec test p = r → r.suspended = false →
    let next := min 1000 (if r.interval = 0 then 1 else 2 * r.interval)
    (∀ t0, r.since = some t0 → t0 + next * 1000000 ≤ s.tbc → s.testMay test p = true → ∃ t, exec (.testReschedule test p) s = .next t
      ∧ t.testRec test p = ⟨r.consecutive + 1, next, decide (64 ≤ r.consecutive + 1), none⟩)
    ∧ ((r.since = none ∨ (∃ t0, r.since = some t0 ∧ s.tbc < t0 + next * 1000000) ∨ s.testMay test p = false) → exec (.testReschedule test p) s = .next s))
  ∧ (∀ (s : State) (fn : Nat), s.mayWrite fn pKpr = true → ∃ t, exec (.testResume fn) s = .next t
      ∧ (∀ e ∈ t.recov.tests, e.2.suspended = false) ∧ t.rg R.KPR_TEST_CTRL_SUSPENDED pKpr = 0)

/-! ### Flows (09_transport.md, 05_core_memory.md) -/

/-- R333–R335, R339, R340, R386, R611: a sequenced frame that is next on its flow and passes its checks is consumed and its operation takes effect: PUT writes its payload in the
window, ATOMIC_ADD adds it there element by element, GET_REQ queues the window's bytes for return, GET_RESP writes at the destination of the oldest request, and nowhere once that request's descriptor is over, and SIGNAL adds
to the signal, which keeps its value where the sum does not fit.
It states the completion of: put, getReq, getResp, atomicAdd, signal.
The model's own readings in it: log entries 51, 52, 53. -/
def Obligations.FrameOperations : Prop :=
  ∀ (s : State) (vc : Nat) (f : Frame),
    let id := f.dflow
    let x := s.flow id
    let took (t : State) : Prop := (t.flow id).rxNext = (x.rxNext + 1) % seqMod ∧ t.cores = s.cores
    let others (t : State) (pa : Nat) : Prop := ∀ b, b < Spc 4 → (b < pa ∨ pa + 64 ≤ b) → t.rb b = s.rb b
    (s.arrives vc 5 f → f.sigInc ≠ 0 → f.sigInc < 2 ^ 64 → x.waitq = [] →
      (s.sigVal f.sig + f.sigInc < 2 ^ 64 → ∃ t, exec (.signal vc) s = .next t ∧ took t ∧ t.sigVal f.sig = s.sigVal f.sig + f.sigInc
        ∧ (∀ n, n ≠ f.sig → t.sigVal n = s.sigVal n) ∧ ∀ b, b < Spc 4 → t.rb b = s.rb b)
      ∧ (s.sigVal f.sig + f.sigInc ≥ 2 ^ 64 → ∃ t, exec (.signal vc) s = .next t ∧ took t ∧ t.sig = s.sig))
    ∧ (f.data.length = 64 → f.len = 64 → f.poison = 0 → f.sigInc = 0 → x.waitq = [] → Map.sorted natLt s.mem = true →
      (∀ pa, (x.winBase + f.off) % 64 = 0 → pa % 64 = 0 → s.mapAddr (viaFn x.fn) (x.winBase + f.off) true false = .ok pa → spaceOf pa = 1 →
        s.mapAddr (viaFn x.fn) (x.winBase + f.off) false false = .ok pa →
        (s.arrives vc 1 f → Map.sorted natLt s.poison = true → ∃ t, exec (.put vc []) s = .next t ∧ took t ∧ t.sig = s.sig
          ∧ (∀ j (h : j < f.data.length), (t.rb (pa + j)).toNat = f.data[j] % 256) ∧ t.poisoned pa = false ∧ others t pa)
        ∧ (s.arrives vc 4 f → s.poisoned pa = false →
          let w := if bit f.flags 1 then 8 else 4
          ∃ t, exec (.atomicAdd vc []) s = .next t ∧ took t ∧ t.sig = s.sig ∧ others t pa
            ∧ ∀ j, w * j < 64 →
              t.rle (pa + w * j) w = (satSum (8 * w) (s.rle (pa + w * j) w) (ofBytes ((f.data.drop (w * j)).take w))).1))
      ∧ (∀ r l pa sc, s.arrives vc 3 f → x.gets = r :: l → r.src = some sc → (r.dst + r.got) % 64 = 0 → pa % 64 = 0 →
        s.mapAddr ⟨sc.1, x.fn, true⟩ (r.dst + r.got) true false = .ok pa → spaceOf pa = 1 →
        ∃ t, exec (.getResp vc []) s = .next t ∧ took t ∧ t.sig = s.sig
          ∧ (∀ j (h : j < f.data.length), (t.rb (pa + j)).toNat = f.data[j] % 256) ∧ others t pa
          ∧ (t.flow id).gets = if r.got + 64 ≥ r.len then l else { r with got := r.got + 64 } :: l)
      ∧ (∀ r l, s.arrives vc 3 f → x.gets = r :: l → r.src = none → ∃ t, exec (.getResp vc []) s = .next t ∧ took t ∧ t.sig = s.sig
          ∧ (∀ b, b < Spc 4 → t.rb b = s.rb b) ∧ (t.flow id).gets = if r.got + 64 ≥ r.len then l else { r with got := r.got + 64 } :: l))
    ∧ (∀ u bs, s.arrives vc 2 f → f.sigInc = 0 → x.waitq = [] → s.ldN (viaFn x.fn) (x.winBase + f.off) f.len = .ok (u, bs) →
      ∃ t, exec (.getReq vc []) s = .next t ∧ took t ∧ t.sig = s.sig
        ∧ ∃ r ∈ (t.flow id).waitq ++ (t.flow id).sent, r.op = 3 ∧ r.off = f.off ∧ r.len = f.len ∧ r.data = bs.map (fun b => b.1))

/-- R334–R336, R338, R347, R395: an ACK advances TX_ACKED and TX_LIMIT and never moves them back, and one of another incarnation moves neither; a NAK other than OUT_OF_ORDER is recorded; an ACK is sent 1 µs after a frame; an RTO that
passes resends, or fails the flow at RETRY_LIMIT, which records FLOW_FAIL and leaves nothing to be sent.
R333, R336, R347: FLOW_CMD OPEN gives the lowest FREE context, or FLOW_FULL at the quota; CLOSE frees one, RESET rewinds one to OPEN with SYN_PEND, READ shows one in FLOW_CTX;
on a flow of another function each is DENIED and changes no flow; with the page fenced or disabled (R14) each completes with FENCED or QUIESCED.
R14, R193, R194, R334, R336: a PUT or GET descriptor that its engine serves on an open flow without credit starts, its requests of up to 4,096 bytes waiting on the flow behind those there; on
a FAILED flow it ends with FLOW_FAILED, and no flow changes.
It states the completion of: dmaPut, dmaGet, ack, nak, ackTimer, flowRto, flowOpen, flowClose, flowReset, flowRead.
The model's own readings in it: log entries 50, 52, 54, 57. -/
def Obligations.Flows : Prop :=
  (
    ∀ (s : State) (vc id : Nat) (f : Frame),
      let x := s.flow f.dflow
      let y := s.flow id
      let p := pXpt y.fn
      (s.answers vc 6 f →
        let d := seqDist x.txAcked f.ack
        ∃ t, exec (.ack vc) s = .next t ∧ t.cores = s.cores ∧ t.sig = s.sig
          ∧ (t.flow f.dflow).txAcked = (if d ≠ 0 ∧ d ≤ seqDist x.txAcked x.txNext then f.ack % seqMod else x.txAcked)
          ∧ (t.flow f.dflow).txLimit = (if seqBefore x.txLimit (f.off % seqMod) then f.off % seqMod else x.txLimit))
      ∧ (∀ i, s.rxFind vc (fun f => decide (f.op = 6)) = some (i, f) → x.state = 1 → f.inc ≠ x.peerInc → ∃ t, exec (.ack vc) s = .next t ∧ t.cores = s.cores
          ∧ t.sig = s.sig ∧ (t.flow f.dflow).txAcked = x.txAcked ∧ (t.flow f.dflow).txLimit = x.txLimit)
      ∧ (s.answers vc 7 f → ∃ t, exec (.nak vc) s = .next t ∧ (t.flow f.dflow).state = 1 ∧ t.cores = s.cores ∧ t.sig = s.sig
          ∧ (f.status ≠ St.OUT_OF_ORDER → t.recorded (pXpt x.fn) Er.XPT_FLOW_NAK))
      ∧ (y.state ≠ 0 → y.unacked > 0 → ∃ t, exec (.ackTimer id) s = .next t ∧ t.flow id = { y with unacked := 0 } ∧ s.apart t)
      ∧ (y.unacked = 0 → exec (.ackTimer id) s = .next s)
      ∧ (y.state = 1 → y.sent ≠ [] →
        (y.retries + 1 < y.retryLimit → ∃ t, exec (.flowRto id) s = .next t ∧ t.flow id = { y with retries := y.retries + 1 } ∧ s.apart t)
        ∧ (y.retries + 1 ≥ y.retryLimit → ∃ t, exec (.flowRto id) s = .next t ∧ (t.flow id).state = 2 ∧ (t.flow id).waitq = []
            ∧ (t.flow id).sent = [] ∧ t.recorded p Er.XPT_FLOW_FAIL ∧ t.rg R.XPT_FLOW_FAILED_FLOW_ID p = id % 2 ^ 20 ∧ s.apart t)))
  ∧ (
    ∀ (s : State) (req fn : Nat), s.mayWrite req (pXpt fn) = true → s.flag R.XPT_FLOW_RESULT_DONE (pXpt fn) = true →
      let p := pXpt fn
      (s.workStatus p ≠ St.OK → ∀ c ∈ ([.flowOpen req fn, .flowClose req fn, .flowReset req fn, .flowRead req fn] : List Instr),
        ∃ t, exec c s = .next t ∧ t.net = s.net ∧ s.apart t ∧ t.rg R.XPT_FLOW_RESULT_STATUS p = s.workStatus p)
      ∧ (s.workStatus p = St.OK →
      let id := s.rg R.XPT_FLOW_ID_FLOW_ID p
      let free := lowestFree 0 (s.net.flows.map (fun e => e.1))
      (s.flag R.XPT_FLOW_ID_ANY p = true → s.flowsUsed fn < (s.fnRes fn).flows → s.net.flows.length < 2 ^ 20 → (s.flow free).state = 0 →
        ∃ t, exec (.flowOpen req fn) s = .next t ∧ t.flow free = Flow.opened (s.rg R.XPT_FLOW_CTX_CTX p) fn ∧ s.apart t
          ∧ (∀ e, e ≠ free → t.flow e = s.flow e) ∧ t.rg R.XPT_FLOW_ID_FLOW_ID p = free % 2 ^ 20 ∧ t.rg R.XPT_FLOW_RESULT_STATUS p = St.OK)
      ∧ (s.flowsUsed fn ≥ (s.fnRes fn).flows →
        ∃ t, exec (.flowOpen req fn) s = .next t ∧ t.net = s.net ∧ t.rg R.XPT_FLOW_RESULT_STATUS p = St.FLOW_FULL)
      ∧ ((s.flow id).state ≠ 0 → (s.flow id).fn = fn → Map.sorted natLt s.net.flows = true →
        (∃ t, exec (.flowClose req fn) s = .next t ∧ t.flow id = Flow.free ∧ (∀ e, e ≠ id → t.flow e = s.flow e) ∧ s.apart t
          ∧ t.rg R.XPT_FLOW_RESULT_STATUS p = St.OK)
        ∧ (∃ t, exec (.flowReset req fn) s = .next t ∧ (∀ e, e ≠ id → t.flow e = s.flow e) ∧ s.apart t ∧ t.rg R.XPT_FLOW_RESULT_STATUS p = St.OK
          ∧ let y := t.flow id
            y.state = 1 ∧ y.synPend = true ∧ y.txNext = 0 ∧ y.rxNext = 0 ∧ y.sent = [] ∧ y.waitq = [] ∧ y.peerMaddr = (s.flow id).peerMaddr)
        ∧ (∃ t, exec (.flowRead req fn) s = .next t ∧ t.net = s.net ∧ s.apart t ∧ t.rg R.XPT_FLOW_RESULT_STATUS p = St.OK
          ∧ t.rg R.XPT_FLOW_CTX_CTX p = (s.flow id).image % 2 ^ 512))
      ∧ ((s.flow id).fn ≠ fn → ∀ c ∈ ([.flowClose req fn, .flowReset req fn, .flowRead req fn] : List Instr),
        ∃ t, exec c s = .next t ∧ t.net = s.net ∧ s.apart t ∧ t.rg R.XPT_FLOW_RESULT_STATUS p = St.DENIED)))
  ∧ (
    ∀ op ∈ ([(5, fun e => .dmaPut e []), (6, fun e => .dmaGet e [])] : List (Nat × (Nat → Instr))),
    ∀ (s : State) (e i n : Nat) (d : DmaDesc), s.engTakes e = true → s.dmaPick e = some (i, n, d) → d.opc = op.1 →
      let id := d.flowId
      let x := s.flow id
      s.dmaCheck e d (decide (x.state ≠ 0) && decide (x.fn = d.fn)) = St.OK →
      (s.workStatus (pXpt d.fn) ≠ St.OK → ∃ t, exec (op.2 e) s = .next t ∧ s.apart t ∧ t.net = s.net
          ∧ ∃ y, ((t.eng e).q i)[n]? = some y ∧ y.started = true ∧ y.result = some (s.workStatus (pXpt d.fn)))
      ∧ (s.workStatus (pXpt d.fn) = St.OK →
      (x.state = 1 → s.reachable x.peerMaddr x.vc = true → x.maySend = false → d.requests (s.net.nextTag * 2048 + e) ≠ [] →
        ∃ t, exec (op.2 e) s = .next t ∧ s.apart t
          ∧ (t.flow id).waitq = x.waitq ++ d.requests (s.net.nextTag * 2048 + e)
          ∧ (∀ r ∈ d.requests (s.net.nextTag * 2048 + e), r.len ≤ 4096)
          ∧ ∃ y, ((t.eng e).q i)[n]? = some y ∧ y.started = true ∧ y.result = d.result ∧ y.desc = d.desc)
      ∧ (x.state = 2 → ∃ t, exec (op.2 e) s = .next t ∧ s.apart t ∧ t.net = s.net
          ∧ ∃ y, ((t.eng e).q i)[n]? = some y ∧ y.started = true ∧ y.result = some St.FLOW_FAILED)))

/-! ### Stacked memory and the far tier (07_stacked_memory.md) -/

/-- R14, R41, R255–R259: a read within a line returns its bytes, those of a write-combining entry included; a write makes every later read see its bytes and no others changed; a
stack in self-refresh answers STACK_OFF and a channel that is held keeps the request; draining an entry changes no byte that a read sees; a waiting partial write goes on
once the buffer has space.
It states the completion of: hbmRead, hbmWrite, wcbAgeDrain, wcbSpace.
The model's own readings in it: log entry 35. -/
def Obligations.StackAccess : Prop :=
  ∀ (s : State) (a n : Nat) (bytes : List Nat), a < 2 ^ 64 → 0 < n → a % 64 + n ≤ 64 → bytes.length = n → (∀ b ∈ bytes, b < 256) →
    let m := stackOf a
    let ch := channelOf a
    (s.stackOff m = true → ∀ c ∈ ([.hbmRead a n [], .hbmWrite a ⟨bytes, []⟩] : List Instr), exec c s = .next (s.memDone St.STACK_OFF))
    ∧ (s.stackOff m = false → s.chHeld m ch = true →
      (∃ t, exec (.hbmRead a n []) s = .next t ∧ (t.chan m ch).held = (s.chan m ch).held ++ [⟨a, n, none⟩] ∧ s.apart t ∧ t.regs = s.regs)
      ∧ (∃ t, exec (.hbmWrite a ⟨bytes, []⟩) s = .next t ∧ (t.chan m ch).held = (s.chan m ch).held ++ [⟨a, n, some (ofBytes bytes)⟩] ∧ s.apart t
        ∧ t.regs = s.regs))
    ∧ (s.stackOff m = false → s.chHeld m ch = false → s.chFenced m ch = false → s.poisoned (aHbm a) = false →
      ∃ t, exec (.hbmRead a n []) s = .next t ∧ t.rdata = (List.range n).map (fun j => s.memSeen (aHbm (a + j))) ∧ s.apart t
        ∧ t.out = s.out ++ [.status 5 St.OK] ∧ s.sameRegs t [])
    ∧ (s.stackOff m = false → s.chHeld m ch = false → s.chFenced m ch = false → s.bankFrozen a = false → s.wcbOk → Map.sorted natLt s.mem = true →
      (n = 64 ∨ s.wcbFull a = false) → ∃ t, exec (.hbmWrite a ⟨bytes, []⟩) s = .next t ∧ s.stored t (aHbm a) bytes ∧ t.cores = s.cores ∧ t.sig = s.sig
        ∧ t.out = s.out ++ [.status 5 St.OK] ∧ s.sameRegs t [])
    ∧ (∀ e ∈ s.wcb m, s.wcbOk → Map.sorted natLt s.mem = true → s.chHeld m (channelOf (e.line * 64)) = false →
      ∃ t, exec (.wcbAgeDrain m ⟨e.line, []⟩) s = .next t ∧ t.wcb m = (s.wcb m).filter (fun x => decide (x.line ≠ e.line))
        ∧ (∀ b, t.memSeen b = s.memSeen b) ∧ s.sameRegs t [] ∧ t.cores = s.cores)
    ∧ (∀ r l, NMap.get [] s.hbm.wcbWait m = r :: l → stackOf r.addr = m → s.wcbFull r.addr = false → s.stackOff m = false →
      s.chHeld m (channelOf r.addr) = false → s.chFenced m (channelOf r.addr) = false →
      ∃ t, exec (.wcbSpace m) s = .next t ∧ NMap.get [] t.hbm.wcbWait m = l ∧ t.out = s.out ++ [.status 5 St.OK] ∧ t.cores = s.cores)

/-- R260–R262, R275, R276: a parity error holds the transfer for its repetition; the fourth failure in a row retrains the channel, a success is recorded and lets the held requests go on; retraining
restores the channel, steps it down to the lower rate, or fences it; the scrubber goes line by line, recording what it corrects and what it cannot, and gives up after 16 preemptions until it is rescheduled; a comparison with
spare rows changes nothing, and a pattern test overwrites only lines of quarantined frames.
It states the completion of: parityError, parityRepeat, chRetrainDone, scrubRead, memTestAbandon.
The model's own readings in it: log entries 35, 41. -/
def Obligations.ChannelErrors : Prop :=
  ∀ (s : State) (m ch : Nat),
    let p := pMch m ch
    let x := s.chan m ch
    (∀ a n w, stackOf a = m → channelOf a = ch → s.stackOff m = false → s.chHeld m ch = false → s.chFenced m ch = false →
      ∃ t, exec (.parityError a n w) s = .next t ∧ (t.chan m ch).held = ⟨a, chunk a n, w⟩ :: x.held ∧ (t.chan m ch).repeats = 1 ∧ s.apart t
        ∧ s.sameRegs t [])
    ∧ (0 < x.repeats → x.repeats < 4 → exec (.parityRepeat m ch false) s = .next (s.setChan m ch { x with repeats := x.repeats + 1 }))
    ∧ (4 ≤ x.repeats → s.rg R.MCH_CH_STATUS_RATE p = 0 → x.lastRetrain = none →
      exec (.parityRepeat m ch false) s = .next (s.setChan m ch { x with repeats := 0, retraining := true }))
    ∧ (0 < x.repeats → x.retraining = false → s.enabled p = true → s.enabled (pMem m) = true →
      ∃ t, exec (.parityRepeat m ch true) s = .next t ∧ (t.chan m ch).repeats = 0 ∧ (t.chan m ch).held = []
        ∧ t.recorded (pMem m) Er.MEM_PAR_RETRY ∧ t.cores = s.cores)
    ∧ (x.retraining = true →
      (∃ t, exec (.chRetrainDone m ch true) s = .next t ∧ (t.chan m ch).retraining = false ∧ (t.chan m ch).lastRetrain = some s.tbc
        ∧ t.cores = s.cores ∧ (x.low = false → t.recorded (pMem m) Er.MEM_CH_RETRAIN))
      ∧ (s.rg R.MCH_CH_STATUS_RATE p = 0 → ∃ t, exec (.chRetrainDone m ch false) s = .next t ∧ t.rg R.MCH_CH_STATUS_RATE p = 1
          ∧ t.rg R.HDR_STATUS_DEGRADED (pMem m) = 1 ∧ (t.chan m ch).retraining = true ∧ t.recorded (pMem m) Er.MEM_CH_DEGRADED ∧ s.apart t)
      ∧ (s.rg R.MCH_CH_STATUS_RATE p ≠ 0 → ∃ t, exec (.chRetrainDone m ch false) s = .next t ∧ t.rg R.MCH_CH_STATUS_RATE p = 2
          ∧ t.chFenced m ch = true ∧ t.recorded (pMem m) Er.MEM_CH_FENCED ∧ t.cores = s.cores))
    ∧ (let pos := NMap.get 0 s.hbm.scrubPass m
      let o := m * 2 ^ 36 + pos % stackLines * 64
      m < 8 → s.stackOff m = false → s.flag R.HDR_CTRL_SELFTEST_ALLOW (pMem m) = true → s.flag R.MEM_SCRUB_CTRL_ENABLE (pMem m) = true →
      s.quiescing (pMem m) = false → s.chHeld m (channelOf o) = false → s.testBarred (pMem m) = false →
      (s.chan m (channelOf o)).abandoned = false → (s.testRec 1 (pMem m)).suspended = false → (s.chan m (channelOf o)).preempts < 16 →
      (∀ r < 3, ∃ t, exec (.scrubRead m (.scrub r) false) s = .next t ∧ NMap.get 0 t.hbm.scrubPass m = pos + 1 ∧ t.cores = s.cores
        ∧ (r = 0 → s.apart t) ∧ (r = 1 → t.recorded (pMem m) Er.MEM_ECC_CE) ∧ (r = 2 → t.recorded (pMem m) Er.MEM_ECC_UE ∧ t.poisoned (aHbm o) = true))
      ∧ (∃ t, exec (.scrubRead m (.scrub 0) true) s = .next t ∧ s.apart t
        ∧ NMap.get 0 t.hbm.scrubPass m = pos ∧ (t.chan m (channelOf o)).preempts = (s.chan m (channelOf o)).preempts + 1))
    ∧ (m < 8 → s.stackOff m = false → s.flag R.HDR_CTRL_SELFTEST_ALLOW (pMem m) = true → s.quiescing (pMem m) = false → s.chHeld m ch = false →
      s.testBarred (pMem m) = false → x.abandoned = false → (s.testRec 1 (pMem m)).suspended = false → x.preempts < 16 →
      (∀ a, stackOf a = m → channelOf a = ch →
        (∃ t, exec (.scrubRead m (.compare a) false) s = .next t ∧ s.apart t ∧ s.sameRegs t [])
        ∧ ∃ t, exec (.scrubRead m (.pattern a) false) s = .next t ∧ t.cores = s.cores ∧ s.sameRegs t []
          ∧ (∀ b, (b < aHbm (a / 64 * 64) ∨ aHbm (a / 64 * 64 + 64) ≤ b) → t.rb b = s.rb b) ∧ (s.frameHeld (a / 2 ^ 21) = false → s.apart t))
      ∧ (ch < 32 → ∃ t, exec (.scrubRead m (.spare ch) false) s = .next t ∧ s.apart t ∧ s.sameRegs t []))
    ∧ (x.abandoned = true ∨ 16 ≤ x.preempts ∨ (s.testRec 1 (pMem m)).suspended = true → ∀ a b, stackOf a = m → channelOf a = ch → exec (.scrubRead m (.compare a) b) s = .next s)
    ∧ (16 ≤ x.preempts → ∃ t, exec (.memTestAbandon m ch) s = .next t ∧ t.chan m ch = { x with preempts := 0, abandoned := true }
      ∧ (t.testRec 1 (pMem m)).since = some ((s.testRec 1 (pMem m)).since.getD s.tbc) ∧ s.apart t ∧ s.sameRegs t [])

/-- R277, R278, R280: a traffic generator starts on a channel out of service whose stack is quiesced or unassembled, and answers TEST_BUSY on another; a running one
stops where told, a run that only reads counting the words that differ from the seed in each of its passes and changing no memory, and one that writes leaving the
seed in its lines and nothing else; a margin test of a quiesced stack with its channels disabled runs and reports the passing range.
It states the completion of: tgGo, tgStop, tgDone, memMarginGo, memMarginDone.
The model's own readings in it: log entries 42, 129. -/
def Obligations.MemoryTests : Prop :=
  (∀ (s : State) (req m ch v w : Nat), m < 8 → ch < 32 → v ≤ 3 → w ≤ 2 → s.mayWrite req (pMch m ch) = true → s.flag R.MCH_TG_CTRL_GO (pMch m ch) = false →
    let p := pMch m ch
    (s.enabled p = false → s.quiesced (pMem m) = true ∨ bit (s.rg R.TOP_MEM_PORT_PRESENT_MEM pTop) m = false →
      ∃ t, exec (.tgGo req m ch v w) s = .next t ∧ t.rg R.MCH_TG_CTRL_GO p = 1 ∧ t.rg R.MCH_TG_CTRL_PATTERN p = v ∧ t.rg R.MCH_TG_CTRL_MODE p = w
        ∧ t.rg R.MCH_TG_RESULT_ERRORS p = 0 ∧ t.chan m ch = { s.chan m ch with tgOn := true, tgStop := false } ∧ s.apart t)
    ∧ (s.enabled p = true ∨ s.quiesced (pMem m) = false ∧ bit (s.rg R.TOP_MEM_PORT_PRESENT_MEM pTop) m = true →
      ∃ t, exec (.tgGo req m ch v w) s = .next t ∧ t.rg R.MCH_TG_CTRL_GO p = 0 ∧ t.rg R.MCH_TG_RESULT_STATUS p = St.TEST_BUSY ∧ { t with regs := s.regs } = s))
  ∧ (∀ (s : State) (req m ch : Nat), s.mayWrite req (pMch m ch) = true → (s.chan m ch).tgOn = true →
      ∃ t, exec (.tgStop req m ch) s = .next t ∧ (t.chan m ch).tgStop = true ∧ (t.chan m ch).tgOn = true ∧ t.regs = s.regs ∧ s.apart t)
  ∧ (∀ (s : State) (m ch errs a bs : Nat) (run : TgRun), (s.chan m ch).tgOn = true →
    let p := pMch m ch
    let mode := s.rg R.MCH_TG_CTRL_MODE p
    let seeded := decide (s.rg R.MCH_TG_CTRL_PATTERN p = 3)
    let mine := run.lines.filter (fun o => decide (stackOf o = m) && decide (channelOf o = ch))
    let passes := if (s.chan m ch).tgStop = true ∨ s.rg R.MCH_TG_COUNT_PASSES p = 0 then run.passes else s.rg R.MCH_TG_COUNT_PASSES p
    let wrong (o : Nat) : Nat := ((List.range 8).filter (fun i => decide (s.rle (aHbm (o / 64 * 64) + 8 * i) 8 ≠ s.rg R.MCH_TG_SEED_SEED p))).length
    ∃ t, exec (.tgDone m ch errs a bs run) s = .next t ∧ t.chan m ch = { s.chan m ch with tgOn := false, tgStop := false } ∧ t.rg R.MCH_TG_CTRL_GO p = 0
      ∧ t.rg R.MCH_TG_RESULT_STATUS p = (if (s.chan m ch).tgStop = true ∧ s.rg R.MCH_TG_COUNT_PASSES p ≠ 0 then St.ABORTED else St.OK)
      ∧ (mode ≠ 0 → t.rg R.MCH_TG_RESULT_ERRORS p =
          min (2 ^ 48 - 1) (errs + (if mode = 1 ∧ seeded = true then passes * (mine.map wrong).sum else 0)))
      ∧ (mode ≠ 1 → seeded = true → Map.sorted natLt s.mem = true →
          ∀ o ∈ mine, ∀ i < 8, t.rle (aHbm (o / 64 * 64) + 8 * i) 8 = s.rg R.MCH_TG_SEED_SEED p % 2 ^ 64)
      ∧ (mode = 1 → s.sameMem t)
      ∧ (∀ b, (∀ o ∈ mine, b < aHbm (o / 64 * 64) ∨ aHbm (o / 64 * 64 + 64) ≤ b) → t.rb b = s.rb b) ∧ t.cores = s.cores ∧ t.sig = s.sig)
  ∧ (∀ (s : State) (req m v w : Nat), s.mayWrite req (pMem m) = true → s.flag R.MEM_MARGIN_CTRL_GO (pMem m) = false →
    let g := pMem m
    (s.quiesced g = true → (∀ c < 32, bit v c = true → s.enabled (pMch m c) = false) →
      ∃ t, exec (.memMarginGo req m v w) s = .next t ∧ t.rg R.MEM_MARGIN_CTRL_GO g = 1 ∧ t.rg R.MEM_MARGIN_RESULT_DONE g = 0 ∧ { t with regs := s.regs } = s)
    ∧ (s.quiesced g = false ∨ (∃ c, c < 32 ∧ bit v c = true ∧ s.enabled (pMch m c) = true) →
      ∃ t, exec (.memMarginGo req m v w) s = .next t ∧ t.rg R.MEM_MARGIN_RESULT_DONE g = 1 ∧ t.rg R.MEM_MARGIN_RESULT_STATUS g = St.TEST_BUSY
        ∧ t.rg R.MEM_MARGIN_CTRL_GO g = 0 ∧ { t with regs := s.regs } = s))
  ∧ (∀ (s : State) (m v w : Nat), s.flag R.MEM_MARGIN_CTRL_GO (pMem m) = true →
    let g := pMem m
    ∃ t, exec (.memMarginDone m v w) s = .next t ∧ t.rg R.MEM_MARGIN_CTRL_GO g = 0 ∧ t.rg R.MEM_MARGIN_RESULT_DONE g = 1 ∧ t.rg R.MEM_MARGIN_RESULT_STATUS g = St.OK
      ∧ t.rg R.MEM_MARGIN_RESULT_LOW g = v % 2 ^ R.MEM_MARGIN_RESULT_LOW.width ∧ t.rg R.MEM_MARGIN_RESULT_HIGH g = w % 2 ^ R.MEM_MARGIN_RESULT_HIGH.width
      ∧ { t with regs := s.regs } = s)
  ∧ (∀ (s : State) (req m ch v w : Nat) (run : TgRun),
      (s.mayWrite req (pMch m ch) = false → exec (.tgGo req m ch v w) s = .next s)
      ∧ ((s.chan m ch).tgOn = false → exec (.tgStop req m ch) s = .next s ∧ ∀ errs a bs, exec (.tgDone m ch errs a bs run) s = .next s)
      ∧ (s.mayWrite req (pMem m) = false → exec (.memMarginGo req m v w) s = .next s)
      ∧ (s.flag R.MEM_MARGIN_CTRL_GO (pMem m) = false → exec (.memMarginDone m v w) s = .next s))

/-- R265–R267: behind a link that is up a far-tier access reads and writes its bytes; behind one that is down a read is poisoned, a write changes nothing, and both end with FAR_DOWN; one
without completion ends with FAR_TIMEOUT and leaves other lines alone; a link goes down for 1 ms, a retraining that fails doubles the wait up to 1 s, and one at a
lower speed or width shows in DEGRADED.
It states the completion of: farRead, farWrite, farTimeout, farLinkRetrain, farDevEvent, farLinkDown. -/
def Obligations.FarTier : Prop :=
  (∀ (s : State) (a n : Nat) (bytes : List Nat), a < 2 ^ 64 → 0 < n → a % 64 + n ≤ 64 → bytes.length = n → Map.sorted natLt s.mem = true →
    let said (t : State) (st : Nat) : Prop := t.out.getLast? = some (.status 5 st)
    (s.farUp a = true →
      (s.poisoned (aFar a) = false → ∃ t, exec (.farRead a n []) s = .next t ∧ t.rdata = (List.range n).map (fun j => (s.rb (aFar a + j)).toNat)
        ∧ said t St.OK ∧ s.apart t ∧ s.sameRegs t [])
      ∧ (∃ t, exec (.farWrite a bytes []) s = .next t ∧ said t St.OK ∧ (∀ j (h : j < bytes.length), (t.rb (aFar a + j)).toNat = bytes[j] % 256)
        ∧ (∀ b, b < aFar a ∨ aFar a + n ≤ b → t.rb b = s.rb b) ∧ t.cores = s.cores ∧ s.sameRegs t []))
    ∧ (s.farUp a = false →
      (∃ t, exec (.farRead a n []) s = .next t ∧ (∀ b ∈ t.rdata, 256 ≤ b) ∧ t.rdata.length = n ∧ said t St.FAR_DOWN
        ∧ t.recorded pFar Er.FAR_FAR_LINK_DOWN ∧ s.apart t)
      ∧ (∃ t, exec (.farWrite a bytes []) s = .next t ∧ said t St.FAR_DOWN ∧ t.recorded pFar Er.FAR_FAR_LINK_DOWN ∧ s.apart t))
    ∧ (∃ t, exec (.farTimeout a false) s = .next t ∧ (∀ b ∈ t.rdata, 256 ≤ b) ∧ said t St.FAR_TIMEOUT ∧ t.recorded pFar Er.FAR_FAR_TIMEOUT ∧ s.apart t)
    ∧ (∃ t, exec (.farTimeout a true) s = .next t ∧ said t St.FAR_TIMEOUT ∧ t.recorded pFar Er.FAR_FAR_TIMEOUT ∧ t.cores = s.cores
        ∧ ∀ b, b < Spc 4 → (b < aFar (a / 64 * 64) ∨ aFar (a / 64 * 64) + 64 ≤ b) → t.rb b = s.rb b))
  ∧ (∀ (s : State) (d frame : Nat), d < 4 →
    let up (t : State) : Nat := t.rg R.FAR_FAR_STATUS_UP pFar
    (bit (up s) d = true → ∃ t, exec (.farLinkDown d) s = .next t ∧ bit (up t) d = false ∧ NMap.get 0 t.hbm.farWait d = 1 ∧ s.apart t
      ∧ s.sameRegs t [(R.FAR_FAR_STATUS_UP, pFar), (R.HDR_STATUS_DEGRADED, pFar)])
    ∧ (bit (up s) d = false → bit (s.rg R.FAR_FAR_STATUS_PRESENT pFar) d = true →
      (∀ low, ∃ t, exec (.farLinkRetrain d (.up low)) s = .next t ∧ bit (up t) d = true ∧ s.apart t
        ∧ (low = true → t.rg R.HDR_STATUS_DEGRADED pFar = 1) ∧ s.sameRegs t [(R.FAR_FAR_STATUS_UP, pFar), (R.HDR_STATUS_DEGRADED, pFar)])
      ∧ (∃ t, exec (.farLinkRetrain d .failed) s = .next t ∧ up t = up s ∧ s.apart t ∧ t.regs = s.regs
        ∧ NMap.get 1 t.hbm.farWait d = min 1000 (2 * NMap.get 1 s.hbm.farWait d)))
    ∧ (∃ t, exec (.farDevEvent frame) s = .next t ∧ t.recorded pFar Er.FAR_FAR_DEV_EVENT ∧ s.apart t))

/-! ### Translation, frames and scheduled flips (07_stacked_memory.md, 10_agreement_limits.md) -/

/-- R269, R270, R360, R361, R368, R527: XLT_INVAL removes the entries of its range from every cluster's cache once it is done; a flip count arms its table, one already reached being reported; at the count the banks
swap, or, the shadow not being ready, the flip is deferred and recorded; FLIP_ARM written 0 before that disarms it.
It states the completion of: xltInval, flipTbcWrite, flipCancel, scheduledFlip, xltInvalDone.
The model's own readings in it: log entry 111. -/
def Obligations.ScheduledFlips : Prop :=
  (∀ (s : State) (req fn vpn count : Nat), s.mayWrite req (pHif fn) = true → s.flag R.HIF_XLT_INVAL_BUSY (pHif fn) = false →
    ∃ t, exec (.xltInval req fn vpn count) s = .next t ∧ t.rg R.HIF_XLT_INVAL_BUSY (pHif fn) = 1 ∧ s.apart t
      ∧ (t.xltFn fn).inval = some (vpn % 2 ^ 21, count % 2 ^ 21) ∧ t.hbm.tlb = s.hbm.tlb)
  ∧ (∀ (s : State) (fn v n : Nat), (s.xltFn fn).inval = some (v, n) →
    ∃ t, exec (.xltInvalDone fn) s = .next t ∧ t.rg R.HIF_XLT_INVAL_BUSY (pHif fn) = 0 ∧ s.apart t ∧ (t.xltFn fn).inval = none
      ∧ ∀ cl e, e ∈ t.tlb cl ↔ e ∈ s.tlb cl ∧ ¬(e.1 = fn ∧ v ≤ e.2.1 ∧ e.2.1 < v + n))
  ∧ (∀ (s : State) (req p v : Nat) (T : FlipTab), flipTab (blkOf p) = some T →
    (s.mayWrite req p = true →
      (∃ t, exec (.flipTbcWrite req p v) s = .next t ∧ t.rg T.tbc p = v % 2 ^ 64 ∧ t.rg T.arm p = 1 ∧ s.apart t
        ∧ (v % 2 ^ 64 ≤ s.coreTbc → t.recorded pTop Er.TOP_FLIP_LATE) ∧ (s.coreTbc < v % 2 ^ 64 → s.sameRegs t [(T.tbc, p), (T.arm, p)]))
      ∧ (s.coreTbc < s.rg T.tbc p → exec (.flipCancel req p) s = .next (s.wr T.arm p 0)))
    ∧ (s.coreTbc < s.rg T.tbc p → exec (.scheduledFlip p) s = .next s)
    ∧ (s.flag T.arm p = true → s.rg T.tbc p ≤ s.coreTbc →
      (s.flag T.ready p = true → ∃ t, exec (.scheduledFlip p) s = .next t ∧ t.rg T.active p = (1 - s.rg T.active p) % 2 ∧ t.rg T.ready p = 0
        ∧ t.rg T.arm p = 0 ∧ t.cores = s.cores)
      ∧ (s.flag T.ready p = false → ∃ t, exec (.scheduledFlip p) s = .next t ∧ t.rg T.active p = s.rg T.active p ∧ t.rg T.deferred p = 1
        ∧ t.rg T.arm p = 0 ∧ t.recorded p T.src ∧ p ∈ t.agree.spent ∧ s.apart t)))

/-- R271–R274, R282, R409: a frame request starts where none is in progress and clears SHADOW_READY, any other being counted only; ALLOC enters its frames in the shadow bank whole or gives
INVALID_ARG, VPN_IN_USE or MEM_SHORT with the number missing; FREE leaves no valid entry; QUARANTINE takes frames out of the pool; while an entry's line cannot be accessed a request waits (R41, R260); an access counter is read and cleared.
It states the completion of: alloc, free, quarantine, frameReqDone, frameCntRead.
The model's own readings in it: log entries 40, 128. -/
def Obligations.FrameRequests : Prop :=
  (∀ op ∈ ([(1, .alloc), (2, .free), (3, .quarantine)] : List (Nat × (Nat → Nat → Nat → Nat → Instr))),
    ∀ (s : State) (req fn tier flags : Nat), s.mayWrite req (pHif fn) = true → s.rg R.HIF_FRAME_RESULT_DONE (pHif fn) ≠ 0 → tier < 4 → flags < 16 →
    ∃ t, exec (op.2 req fn tier flags) s = .next t ∧ t.rg R.HIF_FRAME_RESULT_DONE (pHif fn) = 0 ∧ t.rg R.HIF_XLT_CTRL_SHADOW_READY (pHif fn) = 0
      ∧ (t.xltFn fn).req = some ⟨op.1, tier, flags, s.rg R.HIF_FRAME_VPN_VPN (pHif fn), s.rg R.HIF_FRAME_COUNT_COUNT (pHif fn)⟩ ∧ s.apart t)
  ∧ (∀ (s : State) (fn : Nat) (r : FrameReq), (s.xltFn fn).req = some r →
    let h := pHif fn
    let ends (t : State) (st : Nat) : Prop := t.rg R.HIF_FRAME_RESULT_DONE h = 1 ∧ t.rg R.HIF_FRAME_RESULT_STATUS h = st ∧ (t.xltFn fn).req = none
      ∧ t.cores = s.cores ∧ t.sig = s.sig
    let entry (u : State) (v : Nat) : Nat := u.bankEntry fn (s.shadow fn) v
    let x := (s.frameSplit fn r).1
    let y := (s.frameSplit fn r).2
    let at_ (P : Nat → Prop) : Prop := ∀ v ∈ r.vpns, ∀ o, s.xltEntryAddr fn (s.shadow fn) v = some o → P o
    let reads : Prop := at_ (fun o => s.lineRefusal o = none)
    let writes : Prop := reads ∧ Map.sorted natLt s.mem = true ∧ s.wcbOk ∧ (∀ m, (s.wcb m).length < 256) ∧ at_ (fun o =>
      s.chFenced (stackOf o) (channelOf o) = false ∧ s.bankFrozen o = false ∧ s.poisoned (aHbm o) = false ∧ ∀ e ∈ s.wcb (stackOf o), e.bad = false)
    (s.reqRange fn r = false → ∃ t, exec (.frameReqDone fn []) s = .next t ∧ ends t St.INVALID_ARG ∧ s.apart t)
    ∧ (s.reqRange fn r = true → r.tier < 3 → r.op = 1 ∨ r.op = 2 → (∃ v ∈ r.vpns, ∃ o, s.xltEntryAddr fn (s.shadow fn) v = some o ∧ s.lineRefusal o ≠ none) →
      exec (.frameReqDone fn []) s = .next s)
    ∧ (s.reqRange fn r = true → r.tier < 3 → r.op = 1 → reads →
      ((∃ v ∈ r.vpns, xltValid (entry s v) = true) → ∃ t, exec (.frameReqDone fn []) s = .next t ∧ ends t St.VPN_IN_USE ∧ s.apart t)
      ∧ ((∀ v ∈ r.vpns, xltValid (entry s v) = false) →
        (x + y < r.count → ∃ t, exec (.frameReqDone fn []) s = .next t ∧ ends t St.MEM_SHORT ∧ s.apart t
          ∧ t.rg R.HIF_FRAME_SHORT_SHORT h = (r.count - (x + y)) % 2 ^ 22 ∧ t.recorded h 25)
        ∧ (x + y = r.count → writes →
          ∃ t, exec (.frameReqDone fn []) s = .next t ∧ ends t St.OK ∧ t.rg R.HIF_FRAME_GRANT_HBM h = x % 2 ^ 22
            ∧ t.rg R.HIF_FRAME_GRANT_FAR h = y % 2 ^ 22 ∧ (y = 0 → ∀ v ∈ r.vpns, xltValid (entry t v) = true))))
    ∧ (s.reqRange fn r = true → r.op = 2 → writes →
      ∃ t, exec (.frameReqDone fn []) s = .next t ∧ ends t St.OK ∧ ∀ v ∈ r.vpns, xltValid (entry t v) = false)
    ∧ (s.reqRange fn r = true → r.tier < 3 → r.op = 3 → x + y = r.count → (∀ v ∈ r.vpns, NMap.get 0 (s.xltFn fn).quarantined v = 0) →
      (∀ e ∈ (s.xltFn fn).quarantined, e.1 < r.vpn ∨ r.vpn + r.count ≤ e.1) →
      ∃ t, exec (.frameReqDone fn []) s = .next t ∧ ends t St.OK ∧ s.apart t ∧ ∀ v ∈ r.vpns, NMap.get 0 (t.xltFn fn).quarantined v ≠ 0))
  ∧ (∀ (s : State) (req m : Nat) (rd wrt : Bool), m < 8 → s.responds req (pMem m) = true →
    let f := s.cntFrame (pMem m)
    let c := NMap.get (0, 0) s.hbm.frameCnt f
    ∃ t, exec (.frameCntRead req (pMem m) rd wrt) s = .next t ∧ t.rdata = [c.1 + c.2 * 2 ^ 32] ∧ s.apart t ∧ t.regs = s.regs
      ∧ NMap.get (0, 0) t.hbm.frameCnt f = (if s.flag R.MEM_FRAME_CNT_IDX_CLEAR_ON_READ (pMem m) then (b2n rd, b2n wrt) else c))

/-! ### Links (08_optical_ports.md, 09_transport.md) -/

/-- R291–R294: a training of a port that may train starts from DETECT on the lanes that LANE_MASK permits and the log does not retire; when lanes lock it goes on to ALIGN, and there, with
four lanes or more common to both sides, to EXCHANGE and sends its character; with fewer it fails and the backoff doubles; a port without lock is DARK; a training that times out fails;
after its backoff a port trains again.
R296–R298, R303, R310, R311, R319: a port that is UP or MISCABLED sends its character; a partner's character that stays away is marked stale; a MISCABLED port repeats its REJECT and
trains again when what it expects changes; a lane that loses lock takes the link down, and one with too many corrections in ten seconds is retired.
It states the completion of: portTrain, laneLockTimeout, trainTimeout, backoffExpire, charSend, charStale, miscabledReject, peerExpectWrite, laneLockLoss,
laneCorrCheck.
The model's own readings in it: log entries 43, 44, 45. -/
def Obligations.LinkStates : Prop :=
  (
    ∀ (s : State) (p locked peer : Nat), p < 16 →
      let g := pLnk p
      let x := s.port p
      let fresh := s.rg R.LNK_PORT_CTRL_LANE_MASK g &&& (255 ^^^ maskOf 8 (fun j => s.isRetired 7 (8 * p + j)))
      let live := x.locks &&& peer % 256
      let failed (t : State) : Prop := t.lnkState p = 8 ∧ (t.port p).training = false ∧ t.rg R.LNK_PORT_CTRL_TRAIN g = 0 ∧ t.recorded g Er.LNK_TRAIN_FAIL
        ∧ (t.port p).backoff = (if x.backoff = 0 then 1 else min 1024 (2 * x.backoff)) ∧ s.apart t
      (s.portOn p = true →
        (∃ t, exec (.portTrain p false locked peer) s = .next t ∧ (t.port p).training = true ∧ (t.port p).lanes = fresh
          ∧ t.lnkState p = (if fresh &&& locked % 256 = 0 then 2 else 3) ∧ t.rg R.LNK_PORT_CTRL_TRAIN g = 1 ∧ s.apart t)
        ∧ (s.lnkState p = 8 → x.selfPend = false → ∃ t, exec (.backoffExpire p) s = .next t ∧ t.lnkState p = 2 ∧ (t.port p).training = true ∧ s.apart t))
      ∧ (x.training = true →
        (s.lnkState p = 1 ∨ s.lnkState p = 2 → x.lanes &&& locked % 256 ≠ 0 → ∃ t, exec (.portTrain p true locked peer) s = .next t ∧ t.lnkState p = 3
          ∧ (t.port p).locks = x.lanes &&& locked % 256 ∧ (t.port p).training = true ∧ s.apart t)
        ∧ (s.lnkState p = 3 → 4 ≤ popcount 8 live → ∃ t, exec (.portTrain p true locked peer) s = .next t ∧ t.lnkState p = 4
          ∧ t.rg R.LNK_PORT_STATUS_LIVE g = live ∧ t.rg R.LNK_PORT_STATUS_WIDTH g = popcount 8 live
          ∧ (t.port p).sentChars.head? = some (s.maddr, s.role p, s.tbcAt g % 2 ^ 64) ∧ s.apart t
          ∧ (popcount 8 live < 8 → t.recorded g Er.LNK_WIDTH_DEGRADE))
        ∧ (s.lnkState p = 3 → popcount 8 live < 4 → ∃ t, exec (.portTrain p true locked peer) s = .next t ∧ failed t))
      ∧ (s.portOn p = false → x.training = false → exec (.portTrain p false locked peer) s = .next s)
      ∧ (s.lnkState p = 2 → x.training = true → exec (.laneLockTimeout p) s = .next (s.wr R.LNK_PORT_STATUS_STATE g 1))
      ∧ (x.training = true → ∃ t, exec (.trainTimeout p) s = .next t ∧ failed t)
      ∧ (x.training = false → exec (.trainTimeout p) s = .next s))
  ∧ (
    ∀ (s : State) (p lane v : Nat), p < 16 → lane < 8 →
      let g := pLnk p
      let x := s.port p
      (s.lnkState p = 6 ∨ s.lnkState p = 7 → ∃ t, exec (.charSend p) s = .next t ∧ t.lnkState p = s.lnkState p ∧ s.apart t
        ∧ (t.port p).sentChars = (s.maddr, s.role p, s.tbcAt g % 2 ^ 64) :: x.sentChars.filter (fun e => decide (s.tbcAt g ≤ e.2.2 + 1000000)))
      ∧ (s.lnkState p = 6 → ∃ t, exec (.charStale p) s = .next t ∧ bit (t.rg R.LNK_PEER_CHAR_CHAR g) 352 = true ∧ t.lnkState p = 6 ∧ s.apart t)
      ∧ (s.lnkState p = 7 → NMap.get 0 x.rejTbc 9 = 0 → ∃ t, exec (.miscabledReject p) s = .next t ∧ t.rg R.LNK_REJECT_LAST_TX_STATUS g = 0x309
        ∧ t.lnkState p = 7 ∧ s.apart t)
      ∧ (s.mayWrite 0 g = true → ∃ t, exec (.peerExpectWrite p v) s = .next t ∧ t.rg R.LNK_PEER_EXPECT_MODE g = bits v 63 62
          ∧ t.rg R.LNK_PEER_EXPECT_ROLE g = bits v 35 32 ∧ t.rg R.LNK_PEER_EXPECT_MADDR g = bits v 29 0 ∧ s.apart t
          ∧ (s.lnkState p ≠ 7 → t.lnkState p = s.lnkState p)
          ∧ (s.lnkState p = 7 → s.portOn p = true → s.rg R.LNK_PEER_EXPECT_MADDR g ≠ bits v 29 0 → t.lnkState p = 2))
      ∧ (bit (s.rg R.LNK_PORT_STATUS_LIVE g) lane = true → ∃ t, exec (.laneLockLoss p lane) s = .next t ∧ t.rg (R.LNK_LANE_STATUS_LOCK lane) g = 0
          ∧ t.cores = s.cores ∧ (s.lnkState p = 6 ∨ s.lnkState p = 7 → t.lnkState p ≠ 6 ∧ t.lnkState p ≠ 7 ∧ t.recorded g Er.LNK_LINK_DOWN)
          ∧ (NMap.get [] x.lockLoss lane = [] → t.rg (R.LNK_LANE_STATUS_LOCK_LOSS lane) g = 1))
      ∧ (let n := NMap.get 0 x.corr lane
        let run := if n > 10000 then NMap.get 0 x.corrRun lane + 1 else 0
        ∃ t, exec (.laneCorrCheck p lane) s = .next t ∧ t.rg (R.LNK_LANE_STATUS_CORR lane) g = min (2 ^ 24 - 1) n ∧ NMap.get 0 (t.port p).corr lane = 0
          ∧ NMap.get 0 (t.port p).corrRun lane = run ∧ t.lnkState p = s.lnkState p ∧ t.cores = s.cores
          ∧ (run ≥ 10 → s.flag (R.LNK_LANE_STATUS_MARKED lane) g = false →
            bit (t.rg R.LNK_PORT_STATUS_RETIRED g) lane = true ∧ (t.port p).selfPend = true ∧ t.recorded g Er.LNK_LANE_RETIRE)))

/-- R300–R302, R309, R313, R317: in AUTH a piece of the handshake message that is due is kept; the whole message, verified, goes into the transcript and the handshake to the next one; FINISHED
with the right HMAC from an accepted partner brings the link UP with keys from the session secret, and from any other fails the training with AUTH_FAIL, as a message that fails its
verification does; one out of place fails it with MALFORMED; a replay resends every unacknowledged flit with the bytes of its first sending, and after eight resends the link goes down, as it
does when VC0 starves; a release ends a quarantine.
It states the completion of: hello, response, cert, proof, finished, replayTimeout, creditStarve, vc0StarveDown, hostileWindowEnd, quarRelease.
The model's own readings in it: log entries 46, 47, 58. -/
def Obligations.LinkSecurity : Prop :=
  (∀ (s : State) (f : RxFlit) (a b : Bool) (c : Nat), f.port < 16 →
    let p := f.port
    let g := pLnk p
    let v := s.seen f
    let x := s.port p
    let side := s.sideOf p
    let whole := x.shake.part ++ v.bytes.drop 1
    let got (c : Nat) : Prop := v.kind = 1 ∧ v.byte 0 = c ∧ (s.rxAccept v).2 = true
    let due (c : Nat) : Prop := s.lnkState p = 5 ∧ x.stage = c ∧ v.sof = x.shake.part.isEmpty ∧ x.shake.part.length < 16384
    let last : Instr := .finished f.port f.raw f.rx
    let msgs : List (Nat × Instr) := [(2, .hello f a b), (3, .response f a b), (4, .cert f a b c), (5, .proof f a b), (6, last)]
    let known : Prop := x.partner = 0 ∨ x.ident = x.partner ∨ (s.flag R.LNK_PORT_CTRL_ACCEPT_NEW g = true ∧ s.peerId p = x.partnerChar)
    let refused (c : Instr) : Prop := ∃ t, exec c s = .next t ∧ t.lnkState p = 8 ∧ t.recorded g Er.LNK_AUTH_FAIL ∧ t.recorded g Er.LNK_TRAIN_FAIL ∧ s.apart t
    (∀ e ∈ msgs, got e.1 → due e.1 → v.eof = false → ∃ t, exec e.2 s = .next t ∧ (t.port p).shake.part = whole ∧ (t.port p).stage = e.1
      ∧ t.lnkState p = 5 ∧ s.apart t)
    ∧ (∀ e ∈ ([(2, .hello f true true, 4), (3, .response f true true, 4), (4, .cert f true true c, 5), (5, .proof f true true, 6)] : List (Nat × Instr × Nat)),
      got e.1 → due e.1 → v.eof = true → s.hasKey = true → (e.1 = 4 → s.anchors.contains c = true) → ∃ t, exec e.2.1 s = .next t ∧ (t.port p).stage = e.2.2 ∧ t.lnkState p = 5
        ∧ (t.port p).shake.part = [] ∧ (t.port p).shake.msg e.1 (1 - side) = whole ∧ s.apart t ∧ (e.1 = 4 → (t.port p).ident = identOf whole))
    ∧ (got 6 → due 6 → v.eof = true → s.hasKey = true →
      (whole.take 48 = x.shake.finished side (1 - side) → known → ∃ t, exec last s = .next t ∧ t.lnkState p = 6
          ∧ t.rg R.LNK_PORT_STATUS_AUTH g = 1 ∧ (t.port p).stage = 7 ∧ (t.port p).training = false ∧ (t.port p).partner = x.ident
          ∧ (t.port p).txKey = deriveKey (x.shake.session side) side 0
          ∧ (t.port p).rxKeys = [(0, deriveKey (x.shake.session side) (1 - side) 0)] ∧ s.apart t)
      ∧ (whole.take 48 ≠ x.shake.finished side (1 - side) ∨ ¬ known → refused last))
    ∧ (∀ e ∈ msgs, got e.1 → due e.1 → v.eof = true → ((a && b) = false ∨ (e.1 = 4 ∧ s.anchors.contains c = false)) → (e.1 ≠ 6 ∨ s.hasKey = false) → refused e.2)
    ∧ (∀ e ∈ msgs, got e.1 → ¬ due e.1 → x.training = true → ∃ t, exec e.2 s = .next t ∧ t.lnkState p = 8 ∧ t.recorded g Er.LNK_TRAIN_FAIL ∧ s.apart t)
    ∧ (s.lnkState p < 4 → ∀ e ∈ msgs, exec e.2 s = .next s))
  ∧ (∀ (s : State) (p : Nat), p < 16 →
    let g := pLnk p
    let x := s.port p
    (4 ≤ s.lnkState p → s.lnkState p ≤ 6 → x.replay ≠ [] →
      ((∀ f ∈ x.replay, f.resends < 8) → ∃ t, exec (.replayTimeout p) s = .next t ∧ t.recorded g Er.LNK_REPLAY ∧ t.lnkState p = s.lnkState p
        ∧ (t.port p).replay = x.replay.map (fun f => { f with resends := f.resends + 1 }) ∧ s.apart t ∧ ∀ f ∈ x.replay, s.onLine p f.raw ∈ t.out)
      ∧ ((∃ f ∈ x.replay, 8 ≤ f.resends) → s.lnkState p = 6 ∨ x.training = true → ∃ t, exec (.replayTimeout p) s = .next t
        ∧ t.recorded g Er.LNK_REPLAY_EXHAUSTED ∧ (t.lnkState p = 8 ∨ t.lnkState p = 0) ∧ s.apart t))
    ∧ (∀ vc < 4, s.lnkState p = 6 → creditOf x.sent vc = creditOf x.grant vc → NMap.get false x.starved vc = false →
      ∃ t, exec (.creditStarve p vc) s = .next t ∧ NMap.get false (t.port p).starved vc = true ∧ t.recorded g Er.LNK_CREDIT_STARVE ∧ s.apart t)
    ∧ (s.lnkState p = 6 → NMap.get false x.starved 0 = true → ∃ t, exec (.vc0StarveDown p) s = .next t ∧ t.lnkState p ≠ 6
        ∧ t.recorded g Er.LNK_LINK_DOWN ∧ s.apart t)
    ∧ exec (.hostileWindowEnd p) s = .next (s.wr R.LNK_RETRAIN_HOSTILE g 0)
    ∧ (s.pageOn g = true → ∃ t, exec (.quarRelease p) s = .next t ∧ t.quarantined p = false ∧ t.rg R.LNK_RETRAIN_QCOUNT g = 0
        ∧ t.rg R.LNK_RETRAIN_HOSTILE g = 0 ∧ s.apart t))

/-- R297–R299, R303, R305–R309, R313, R314, R316, R325: a flit whose CRC fails is answered with NAK and takes no effect; a frame whole in one flit and addressed to this module is delivered;
an acknowledgement empties the replay buffer up to it; a character frame that fails the cabling check makes the port MISCABLED, one that passes it takes a training to AUTH or UP, a bad one is
counted only; REKEY and REKEY_ACK install and use the next key, which a roll asks for up to four times, and the old key ends with its grace window; RETRAIN_REQ starts a training where the
interval permits.
It states the completion of: char, dataFlit, idleFlit, reject, rekey, rekeyAck, retrainReq, keyCtrlRekey, keyLifeExpire, keyFlitLimit, rekeyAckTimeout, graceExpire.
The model's own readings in it: log entries 45, 46, 47, 58. -/
def Obligations.ReceivedFlits : Prop :=
  ∀ (s u : State) (f : RxFlit), f.port < 16 →
    let p := f.port
    let g := pLnk p
    let x := s.port p
    let y := u.port p
    let v := s.seen f
    let ctl (b : Nat) : Prop := v.kind = 1 ∧ v.byte 0 = b ∧ s.rxAccept v = (u, true)
    (s.portOn p = true → 4 ≤ s.lnkState p → s.lnkState p ≤ 7 → v.crcOk = false →
      ∀ c ∈ ([.char f, .reject f, .rekey f, .rekeyAck f, .retrainReq f, .dataFlit f, .idleFlit f, .hello f true true, .response f true true,
          .cert f true true 0, .proof f true true, .finished f.port f.raw f.rx] : List Instr),
      ∃ t, exec c s = .next t ∧ (t.port p).nak = true ∧ (t.port p).rxSeq = x.rxSeq ∧ (t.port p).part = x.part ∧ (t.port p).shake = x.shake
        ∧ t.lnkState p = s.lnkState p ∧ s.apart t)
    ∧ (s.rxAccept v = (u, true) → v.kind = 0 → u.lnkState p = 6 → (u.quarantined p = false ∨ v.vc = 0) → creditOf y.freed v.vc ≠ creditOf y.got v.vc →
      (v.dmCheck = false ∨ v.dmTag = u.dmTag) → v.sof = true → v.eof = true → (∀ e ∈ y.part, e.1 ≠ v.vc) → frameHeaderOk v.bytes = true →
      frameFlitCount v.bytes = 1 → byteFld v.bytes 0 4 = u.maddr →
      ∃ t, exec (.dataFlit f) s = .next t ∧ u.apart t
        ∧ NMap.get [] t.net.rx v.vc = NMap.get [] u.net.rx v.vc
            ++ [Frame.ofBytes (v.bytes.take (64 + (if byteFld v.bytes 8 1 = 2 then 0 else byteFld v.bytes 0x1C 2)))])
    ∧ (s.portOn p = true → s.lnkState p = 6 → v.crcOk = true → v.kind = 2 → x.rxKey = false → bits v.hdr 31 30 = 1 →
      let d := (bits v.hdr 43 32 + 1 + 4096 + x.replay.length - x.txSeq) % 4096
      d ≤ x.replay.length → ∃ t, exec (.idleFlit f) s = .next t ∧ s.apart t ∧ ∃ l, (t.port p).replay = x.replay.drop d ++ l)
    ∧ (ctl 1 →
      let b := byteFld v.bytes
      let c : Nat × Nat × Nat := (b 4 4, b 1 1, b 0x18 8)
      let passes := u.cablingOk p (b 4 4) (b 1 1) (u.ownChar p c)
      (crc32c (v.bytes.take 0x28) ≠ b 0x28 4 → exec (.char f) s = .next (u.cnt g Cn.LNK_CHAR_BAD))
      ∧ (crc32c (v.bytes.take 0x28) = b 0x28 4 → b 1 1 < 16 → b 2 2 < 4 → b 4 4 < 2 ^ 30 → (∀ z ∈ v.bytes.drop 0x2C, z = 0) → u.lnkState p = 4 →
        ∃ t, exec (.char f) s = .next t ∧ u.apart t ∧ t.rg R.LNK_PEER_CHAR_CHAR g = ofBytes (v.bytes.take 0x2C) % 2 ^ 384
          ∧ (passes = false → t.lnkState p = 7 ∧ t.recorded g Er.LNK_MISCABLED)
          ∧ (passes = true → t.lnkState p = (if u.flag R.LNK_PORT_CTRL_REQUIRE_AUTH g = true ∧ u.ownChar p c = false then 5 else 6))))
    ∧ (ctl 0x10 → ∃ t, exec (.reject f) s = .next t ∧ t.rg R.LNK_REJECT_LAST_RX_STATUS g = (0x0300 + v.byte 1) % 2 ^ 16 ∧ u.apart t)
    ∧ (ctl 0x20 → u.lnkState p = 6 → y.rxKey = true → byteFld v.bytes 1 4 = (y.rxGen + 1) % 2 ^ 32 →
      let n := byteFld v.bytes 1 4
      ∃ t, exec (.rekey f) s = .next t ∧ (t.port p).rxNew = some n ∧ t.rg R.LNK_PORT_STATUS_GRACE g = 1 ∧ u.apart t
        ∧ (n % 2, deriveKey y.secret (u.peerSide p) n) ∈ (t.port p).rxKeys)
    ∧ (ctl 0x21 → u.lnkState p = 6 → y.rekey ≠ 0 → byteFld v.bytes 1 4 = (y.txGen + 1) % 2 ^ 32 →
      ∃ t, exec (.rekeyAck f) s = .next t ∧ (t.port p).txGen = y.txGen + 1 ∧ (t.port p).rekey = 0
        ∧ (t.port p).txKey = deriveKey y.secret y.side (y.txGen + 1) ∧ t.rg R.LNK_PORT_STATUS_TX_KEY g = (y.txGen + 1) % 2 ∧ u.apart t)
    ∧ (ctl 0x30 →
      (u.retrainOk p = true → u.portOn p = true → ∃ t, exec (.retrainReq f) s = .next t ∧ t.lnkState p = 2 ∧ (t.port p).training = true ∧ u.apart t)
      ∧ (u.retrainOk p = false → NMap.get 0 y.rejTbc 11 = 0 →
        ∃ t, exec (.retrainReq f) s = .next t ∧ t.rg R.LNK_REJECT_LAST_TX_STATUS g = 0x30B ∧ u.apart t))
    ∧ (s.lnkState p = 6 →
      (x.rxKey = true → x.rekey = 0 → ∀ c ∈ ([.keyCtrlRekey p, .keyLifeExpire p, .keyFlitLimit p] : List Instr),
        ∃ t, exec c s = .next t ∧ (t.port p).rekey = 1 ∧ (t.port p).txGen = x.txGen ∧ s.apart t)
      ∧ (0 < x.rekey → x.rekey ≤ 3 → ∃ t, exec (.rekeyAckTimeout p) s = .next t ∧ (t.port p).rekey = x.rekey + 1 ∧ s.apart t)
      ∧ (3 < x.rekey → ∃ t, exec (.rekeyAckTimeout p) s = .next t ∧ t.lnkState p ≠ 6 ∧ t.recorded g Er.LNK_REKEY_FAIL ∧ s.apart t))
    ∧ (x.graceFrom.isSome = true → ∃ t, exec (.graceExpire p) s = .next t ∧ (t.port p).graceFrom = none ∧ t.rg R.LNK_PORT_STATUS_GRACE g = 0
        ∧ (t.port p).rxKeys = Map.del ((x.rxGen + 1) % 2) x.rxKeys ∧ s.apart t ∧ s.sameRegs t [(R.LNK_PORT_STATUS_GRACE, g)])

/-- R33, R290, R318, R324, R327, R341–R343, R345: a margin scan of a lane starts on a port that is UP, yields, and ends with its result; an input's light is sampled, too little of it taking a
port to DARK; its days are recorded and a new source sets a baseline; the first answer of the upstream partner steps the TBC and a later one slews it, where both character frames lie within a millisecond and after any step; a patch entry and an address are written.
It states the completion of: laneMarginGo, scanAbandon, laneMarginDone, laserSample, laserDaily, laserBaselineSet, time, patchWrite, maddrWrite.
The model's own readings in it: log entries 48, 49, 55, 141. -/
def Obligations.LightTimeRoutes : Prop :=
  (∀ (s : State) (p lane lo hi : Nat),
    let g := pLnk p
    let x := s.port p
    (s.flag R.HDR_CTRL_SELFTEST_ALLOW g = true → s.quiescing g = false → s.lnkState p = 6 → x.scan = none → s.testBarred g = false →
      (s.testRec 2 g).suspended = false → ∃ t, exec (.laneMarginGo p lane) s = .next t ∧ (t.port p).scan = some (lane % 8) ∧ t.rg R.LNK_MARGIN_CTRL_GO g = 1
        ∧ t.rg R.LNK_MARGIN_RESULT_DONE g = 0 ∧ s.apart t)
    ∧ (x.scan.isSome = true →
      (16 ≤ x.yields → ∃ t, exec (.scanAbandon p) s = .next t ∧ (t.port p).scan = none ∧ t.rg R.LNK_MARGIN_RESULT_ABANDONED g = 1
        ∧ t.rg R.LNK_MARGIN_RESULT_DONE g = 1 ∧ s.apart t)
      ∧ (∃ t, exec (.laneMarginDone p lo hi) s = .next t ∧ (t.port p).scan = none ∧ t.rg R.LNK_MARGIN_RESULT_ABANDONED g = 0
        ∧ t.rg R.LNK_MARGIN_RESULT_DONE g = 1 ∧ t.rg R.LNK_MARGIN_RESULT_LOW g = lo % 2 ^ 16 ∧ t.rg R.LNK_MARGIN_RESULT_HIGH g = hi % 2 ^ 16 ∧ s.apart t)))
  ∧ (∀ (s : State) (inp a b c d : Nat), inp < 4 →
    let pw (k : Nat) : Nat := [a, b, c, d].getD k 0
    let port (k : Nat) : Nat := (laserPorts inp).getD k 0
    let x := s.laser inp
    (∃ t, exec (.laserSample inp a b c d) s = .next t ∧ s.apart t ∧ ∀ k < 4, t.rg R.LNK_OE_PWR_PWR (pLnk (port k)) = pw k % 2 ^ 16
      ∧ (pwrBias (pw k) < 1000 + 2 ^ 15 → t.recorded (pLnk (port k)) Er.LNK_LASER_LOSS ∧ (s.portOn (port k) = true → t.lnkState (port k) = 1)))
    ∧ (x.dayN ≠ 0 → ∃ t, exec (.laserDaily inp) s = .next t ∧ t.laser inp = { x with dayMin := 65535, daySum := 0, dayN := 0 } ∧ s.apart t)
    ∧ (x.newFrom.isSome = true → x.firstN ≠ 0 → ∃ t, exec (.laserBaselineSet inp) s = .next t ∧ (t.laser inp).newFrom = none
        ∧ NMap.get (0, 0) t.log.image.laserBase inp = (pwrBias (x.firstSum / x.firstN), x.source) ∧ s.apart t))
  ∧ (∀ (s : State) (f : Frame) (i p : Nat), s.rxFind 0 (fun f => decide (f.op = 8)) = some (i, f) → s.upstream = some p → s.flag R.RTE_TIME_CTRL_ROOT pRte = false →
    f.src = s.peerChar p 4 4 → 16 ≤ f.data.length →
    let t3 := byteFld f.data 0 8
    let counts : Prop := (∃ e ∈ (s.port p).sentChars, e.2.2 = t3) ∧ t3 ∉ s.net.before ∧ s.net.tPort = some p ∧ s.net.t2 < t3 + 1000000 ∧ t3 < s.net.t2 + 1000000
    (counts → let z := thetaOf s.net.t1 s.net.t2 (byteFld f.data 0 8) (byteFld f.data 8 8)
    ∃ t, exec .time s = .next t ∧ t.rg R.RTE_TIME_OFS_THETA pRte = satTheta z ∧ t.rg R.RTE_TIME_STATUS_LOCKED pRte = 1
      ∧ t.rg R.RTE_TIME_STATUS_HOLDOVER pRte = 0 ∧ s.apart t
      ∧ (s.net.stepped = false → t.tbc = wrap 64 ((s.tbc : Int) - z / 16) ∧ t.net.stepped = true ∧ t.net.tPort = none)
      ∧ (s.net.stepped = true → t.tbc = s.tbc ∧ t.net.slew = z.natAbs ∧ t.net.slewNeg = decide (z > 0)))
    ∧ (¬counts → exec .time s = .next (s.rxDrop 0 i)))
  ∧ (∀ (s : State) (fn v : Nat), s.mayWrite fn pRte = true →
    (∃ t, exec (.patchWrite fn v) s = .next t ∧ s.apart t ∧ t.net.rx = s.net.rx
      ∧ NMap.get 0 t.net.patch (s.rg R.RTE_PATCH_IDX_IDX pRte) = s.rg R.RTE_PATCH_DATA_ENTRY pRte % 2 ^ 64 + v % 2 ^ 64 * 2 ^ 64)
    ∧ (s.flag R.RTE_MADDR_STANDBY pRte = true → ∃ t, exec (.maddrWrite fn v) s = .next t ∧ t.maddr = v % 2 ^ 30
        ∧ t.rg R.RTE_MADDR_STANDBY pRte = 0 ∧ t.rg R.RTE_INC_INC pRte = (s.rg R.RTE_INC_INC pRte + 1) % 2 ^ 8 ∧ t.net.stepped = false ∧ s.apart t)
    ∧ (s.flag R.RTE_MADDR_STANDBY pRte = false → (∀ p < 12, s.lnkState p = 0) → ∃ t, exec (.maddrWrite fn v) s = .next t ∧ t.maddr = v % 2 ^ 30 ∧ s.apart t)
    ∧ (s.flag R.RTE_MADDR_STANDBY pRte = false → s.lnkState 3 ≠ 0 → exec (.maddrWrite fn v) s = .next s))

/-! ### The daymark and agreement (10_agreement_limits.md) -/

/-- R353–R359: a recomputation leaves the digest of the manifest in DAYMARK and UNAPPROVED where a page of module scope deviates; an approval notes the digests of those pages and recomputes once it is
committed; a newer epoch is taken and an older one recorded as stale; at a boundary the depth counts the hops of agreement and a mismatch on any port puts it to 0.
It states the completion of: daymarkRecompute, agreeBoundary, dmApprove, dmApproveDone, epochWrite.
The model's own readings in it: log entry 94. -/
def Obligations.AgreementKept : Prop :=
  ∀ (s : State) (req v : Nat),
    let marked (t : State) : Prop := t.rg R.TOP_DAYMARK_DIGEST pTop = t.daymarkOf ∧ t.agree.again = false ∧ t.rg R.TOP_AGREE_STATUS_COMPUTING pTop = 0
      ∧ (t.flag R.TOP_AGREE_STATUS_UNAPPROVED pTop = true ↔ ∃ p ∈ modulePages, t.term p ≠ 0)
    (s.agree.again = true → s.keeperUp = true → ∃ t, exec .daymarkRecompute s = .next t ∧ marked t ∧ s.apart t)
    ∧ (s.agree.again = false → exec .daymarkRecompute s = .next s)
    ∧ (s.agree.approval ≠ none → s.keeperUp = true → ∃ t, exec .dmApproveDone s = .next t ∧ marked t ∧ t.agree.approval = none
        ∧ t.rg R.TOP_DM_APPROVE_BUSY pTop = 0 ∧ s.apart t)
    ∧ (s.mayWrite req pTop = true →
      (s.flag R.TOP_DM_APPROVE_BUSY pTop = false → ∃ t, exec (.dmApprove req) s = .next t ∧ t.rg R.TOP_DM_APPROVE_BUSY pTop = 1
        ∧ t.agree.approval = some (modulePages.map (fun p => (pageId p, s.rg R.HDR_CFG_DIGEST_DIGEST p))) ∧ s.apart t)
      ∧ (newer 32 (v % 2 ^ 32) (s.rg R.TOP_CFG_EPOCH_EPOCH pTop) = true → ∃ t, exec (.epochWrite req v) s = .next t
        ∧ t.rg R.TOP_CFG_EPOCH_EPOCH pTop = v % 2 ^ 32 ∧ t.log.image.epoch = v % 2 ^ 32 ∧ t.agree.changed = true ∧ s.apart t)
      ∧ (newer 32 (v % 2 ^ 32) (s.rg R.TOP_CFG_EPOCH_EPOCH pTop) = false → ∃ t, exec (.epochWrite req v) s = .next t
        ∧ t.rg R.TOP_CFG_EPOCH_EPOCH pTop = s.rg R.TOP_CFG_EPOCH_EPOCH pTop ∧ t.recorded pTop Er.TOP_EPOCH_STALE ∧ s.apart t))
    ∧ (let n := (List.range 16).filter s.takesPart
      ∃ t, exec .agreeBoundary s = .next t ∧ s.apart t ∧ t.agree.changed = false
        ∧ ((∃ p ∈ n, s.mismatch p = true) → t.rg R.TOP_AGREE_STATE_DEPTH pTop = 0 ∧ t.rg R.TOP_AGREE_STATUS_LOCAL_MATCH pTop = 0)
        ∧ (s.agree.changed = false → n = [] → t.rg R.TOP_AGREE_STATE_DEPTH pTop = 4095 ∧ t.rg R.TOP_AGREE_STATUS_LOCAL_MATCH pTop = 1)
        ∧ (s.agree.changed = false → (∀ p ∈ n, s.mismatch p = false) → n ≠ [] →
          t.rg R.TOP_AGREE_STATE_DEPTH pTop = min 4095 (1 + (n.map (fun p => (s.peerAgree p).2)).foldl min 4095)))

/-! ### The step machine (06_training_numerics.md, 11_collectives.md) -/

/-- R230–R237: arming opens a step with its counts at 0; STEP_VERDICT seals it once the commands before it have completed, and, in a group of one module, decides it: COMMIT applies, SKIP and REPLAY
reopen; a command in the wrong state or for another step is refused; STEP_COMMIT of a clean apply phase goes on to the next step, any other is a fault.
R243–R245, R391, R392: a SNAPSHOT starts in a step that is open, waits in one that applies, and is refused where no step or another snapshot runs; it ends with its image written or with
the status that stopped it, and lets a held step apply; a verdict frame is passed on while LEFT is above 0 and held for its opening.
It states the completion of: stepArm, stepDisarm, stepVerdict, stepCommit, snapshot, snapshotDeferredStart, snapshotDone, verdictFrameRx.
The model's own readings in it: log entries 59, 60, 61, 62. -/
def Obligations.Steps : Prop :=
  (
    (∀ (s : State) (req fn : Nat), s.mayWrite req (pCol fn) = true →
      (s.stepState fn = 0 → s.quadsOf fn ≠ [] → ∃ t, exec (.stepArm req fn) s = .next t ∧ t.stepState fn = 1 ∧ t.rg R.COL_STEP_CTRL_ARM (pCol fn) = 1
        ∧ t.rg R.COL_STEP_STATUS_ATTEMPT (pCol fn) = 0 ∧ t.rg R.COL_OPEN_TBC_VALUE (pCol fn) = s.tbc % 2 ^ 64 ∧ t.rg R.COL_COLL_OVF_COUNT (pCol fn) = 0
        ∧ (∀ c ∈ s.coresOf fn, t.rg R.CORE_ACC_STEP_OVF_COUNT (pCore c) = 0) ∧ t.cores = s.cores ∧ t.sig = s.sig
        ∧ (s.flag R.COL_STEP_CTRL_DMA_RNG_SNAP (pCol fn) = false → s.apart t))
      ∧ (s.stepState fn = 1 ∨ s.stepState fn = 5 → ∃ t, exec (.stepDisarm req fn) s = .next t ∧ t.stepState fn = 0
        ∧ t.rg R.COL_STEP_CTRL_ARM (pCol fn) = 0 ∧ (t.stepSt fn).held = (s.stepSt fn).held ∧ s.apart t))
    ∧ (∀ (s : State) (q : Nat) (c : Cmd), s.stepFirst q 6 = some c → s.cmdFind q c.num = some c →
      let fn := s.cmdqFn q
      let p := pCol fn
      let x := s.stepSt fn
      let first : Prop := x.cmd = none ∧ ∀ e ∈ s.cmdsOf fn, e.2.isStep = true → e.2.result = none → c.order ≤ e.2.order
      let sealed := s.setStep fn { x with
        cmd := some (q, c.num, 6), askRetry := bit (c.fld 0x18 8) 0, askVeto := bit (c.fld 0x18 8) 1, sealTbc := s.tbc }
      let r := sealed.localRecord fn
      let v := decideStep x.cfg r (s.rg R.COL_STEP_STATUS_ATTEMPT p)
      (s.stepState fn ≠ 1 ∨ ¬first → ∃ t, exec (.stepVerdict q) s = .next t ∧ t.goes q c.num (some St.STEP_STATE) ∧ t.stepState fn = s.stepState fn ∧ s.apart t)
      ∧ (s.stepState fn = 1 → first → c.opnd 0x10 47 0 ≠ s.stepCount fn →
        ∃ t, exec (.stepVerdict q) s = .next t ∧ t.goes q c.num (some St.STEP_MISMATCH) ∧ t.stepState fn = 1 ∧ s.apart t)
      ∧ (s.stepState fn = 1 → first → c.opnd 0x10 47 0 = s.stepCount fn →
        (s.earlierDone fn c.order = false → ∃ t, exec (.stepVerdict q) s = .next t ∧ t.stepState fn = 2 ∧ t.goes q c.num none ∧ s.apart t)
        ∧ (s.earlierDone fn c.order = true →
          (s.verdictGroup fn = none → ∃ t, exec (.stepVerdict q) s = .next t ∧ t.stepState fn = 3 ∧ t.rg R.COL_LOCAL_REC_RECORD p = r % 2 ^ 256
            ∧ t.goes q c.num none ∧ s.apart t)
          ∧ (∀ g e, s.verdictGroup fn = some (g, e) → gAxes e = [] → s.flag R.COL_STEP_STATUS_HOLD p = false → s.snapRunning fn = false →
            ∃ t, exec (.stepVerdict q) s = .next t ∧ t.rg R.COL_VERDICT_VERDICT p = v ∧ t.rg R.COL_VERDICT_CAUSES p = causes x.cfg r
              ∧ t.stepState fn = (if v = 1 then 4 else 1) ∧ (v = 3 → t.rg R.COL_STEP_STATUS_ATTEMPT p = 1) ∧ t.stepCount fn = s.stepCount fn
              ∧ t.goes q c.num (some St.OK) ∧ t.cores = s.cores))))
    ∧ (∀ (s : State) (q : Nat) (c : Cmd), s.stepFirst q 7 = some c → s.cmdFind q c.num = some c →
      let fn := s.cmdqFn q
      let first : Prop := (s.stepSt fn).cmd = none ∧ ∀ e ∈ s.cmdsOf fn, e.2.isStep = true → e.2.result = none → c.order ≤ e.2.order
      (s.stepState fn ≠ 4 ∨ ¬first → ∃ t, exec (.stepCommit q) s = .next t ∧ t.goes q c.num (some St.STEP_STATE) ∧ t.stepState fn = s.stepState fn ∧ s.apart t)
      ∧ (s.stepState fn = 4 → first → c.opnd 0x10 47 0 = s.stepCount fn → s.stepCount fn < 2 ^ 48 - 1 →
      (s.earlierDone fn c.order = false → exec (.stepCommit q) s = .next (s.cqWait q 7 0))
      ∧ (s.earlierDone fn c.order = true →
        (s.applyClean fn = true → ∃ t, exec (.stepCommit q) s = .next t ∧ t.stepCount fn = s.stepCount fn + 1 ∧ t.stepState fn = 1
          ∧ t.goes q c.num (some St.OK) ∧ t.cores = s.cores)
        ∧ (s.applyClean fn = false → ∃ t, exec (.stepCommit q) s = .next t ∧ t.stepCount fn = s.stepCount fn ∧ t.stepState fn = 5
          ∧ t.goes q c.num (some St.APPLY_FAULT) ∧ t.recorded (pCol fn) Er.COL_STEP_FAULT ∧ s.apart t)))))
  ∧ (
    (∀ (s : State) (q : Nat) (c : Cmd), s.starts q 8 c →
      let fn := s.cmdqFn q
      let p := pCol fn
      let st := s.stepState fn
      (st = 0 ∨ st = 5 → ∃ t, exec (.snapshot q) s = .next t ∧ t.goes q c.num (some St.STEP_STATE) ∧ t.recorded p Er.COL_SNAP_FAIL ∧ s.apart t)
      ∧ (st ≠ 0 → st ≠ 5 → (s.stepSt fn).snap.isSome = true → ∃ t, exec (.snapshot q) s = .next t ∧ t.goes q c.num (some St.SNAP_BUSY)
        ∧ (t.stepSt fn).snap = (s.stepSt fn).snap ∧ s.apart t)
      ∧ (st = 4 → (s.stepSt fn).snap = none → ∃ t, exec (.snapshot q) s = .next t ∧ t.goes q c.num none ∧ t.snapRunning fn = false
        ∧ (t.stepSt fn).snap.isSome = true ∧ s.apart t)
      ∧ (1 ≤ st → st ≤ 3 → (s.stepSt fn).snap = none → s.stepCount fn ≠ 0 → (∃ v, s.snapList fn c = .ok v) → ∃ t, exec (.snapshot q) s = .next t
        ∧ t.goes q c.num none ∧ t.snapRunning fn = true ∧ t.rg R.COL_STEP_STATUS_SNAP_ACTIVE p = 1 ∧ s.apart t))
    ∧ (∀ (s : State) (fn : Nat) (n : Snap) (c : Cmd), (s.stepSt fn).snap = some n → s.cmdFind n.queue n.num = some c →
      let p := pCol fn
      (n.started = false → s.stepState fn = 1 → s.stepCount fn ≠ 0 → (∃ v, s.snapList fn c = .ok v) →
        ∃ t, exec (.snapshotDeferredStart fn) s = .next t ∧ t.snapRunning fn = true ∧ t.rg R.COL_STEP_STATUS_SNAP_ACTIVE p = 1 ∧ s.apart t)
      ∧ (n.started = false → s.stepState fn ≠ 1 → exec (.snapshotDeferredStart fn) s = .next s)
      ∧ (n.started = true → c.result = none → s.flag R.COL_STEP_STATUS_HOLD p = false →
        (∃ t, exec (.snapshotDone fn true) s = .next t ∧ (t.stepSt fn).snap = none ∧ t.goes n.queue n.num (some St.HOST_ERROR)
          ∧ t.recorded p Er.COL_SNAP_FAIL ∧ t.rg R.COL_STEP_STATUS_SNAP_ACTIVE p = 0 ∧ s.apart t)
        ∧ (∀ u k, s.snapImage fn n c = .ok (u, k) → ∃ t, exec (.snapshotDone fn false) s = .next t ∧ (t.stepSt fn).snap = none
          ∧ t.goes n.queue n.num (some St.OK) ∧ t.rg R.COL_STEP_STATUS_SNAP_ACTIVE p = 0 ∧ u.sameMem t ∧ t.cores = s.cores)))
    ∧ (∀ (s : State) (flow g k : Nat) (f : Frame), s.groupFrame 0 flow f g k → isMagic 48 magicVerdict f = true →
      let fn := s.commqFn g
      let left := byteFld f.data 6 2
      let a := byteFld f.data 8 1
      let out := gFlow (s.grpEntry g) a 1 0 (k % 2)
      (left = 0 → (∃ e, s.verdictGroup fn = some (g, e)) → s.stepState fn = 0 → ∃ t, exec (.verdictFrameRx flow) s = .next t
        ∧ (t.stepSt fn).held = (s.stepSt fn).held ++ [⟨a, byteFld f.data 10 2, ofBytes ((f.data.drop 16).take 32)⟩] ∧ t.cores = s.cores ∧ t.sig = s.sig
        ∧ (t.flow flow).rxNext = ((s.flow flow).rxNext + 1) % seqMod)
      ∧ (0 < left → a ≤ 2 → s.verdictGroup fn = none → (s.flow out).state = 1 → (s.flow out).waitq = [] → ∃ t, exec (.verdictFrameRx flow) s = .next t ∧ t.step = s.step
        ∧ ∃ r ∈ (t.flow out).waitq ++ (t.flow out).sent, r.op = 1 ∧ r.data = f.data.take 6 ++ leBytes 2 (left - 1) ++ f.data.drop 8)))

/-! ### Collectives (11_collectives.md) -/

/-- R373, R375, R376, R396: a launch enqueues its operation with the next sequence number, is refused for a group it may not use, and waits while its queue is full; an operation starts with its
checks, ends at once on one that fails, and waits for free cores; a reset leaves the queue empty at sequence number 0; a pending COLL_QUADS takes effect.
R373, R380, R381, R386, R395, R397: a header that differs from the local operation ends it with COLL_MISMATCH; data of the piece under way is kept until all of it has come; an ABORT ends the
running operation with PEER_ABORT, and one for an operation not launched yet is kept; an operation that is known to have ended leaves its queue, with its signal or with the failure recorded and the
queue FAILED, where frames have no further effect.
It states the completion of: collLaunch, collQueueSpace, collOpStart, collHeaderRx, collDataRx, collOpDone, collAbortRx, colCqReset, collQuadsApply.
The model's own readings in it: log entries 63, 65, 66, 67. -/
def Obligations.Collectives : Prop :=
  (
    (∀ (s u : State) (q : Nat) (c : Cmd) (bs : List (Nat × Bool)), s.starts q 5 c → s.rg R.QUE_CQ_WAIT_OPCODE q = 5 → c.fld 0x10 64 % 64 = 0 →
      s.workStatus (pCol (s.cmdqFn q)) = St.OK → s.ldN (viaFn (s.cmdqFn q)) (c.fld 0x10 64) 128 = .ok (u, bs) → (∀ b ∈ bs, b.2 = false) →
      ∀ i ∈ ([.collLaunch q, .collQueueSpace q] : List Instr),
      let cob := ofBytes (bs.map (fun b => b.1))
      let sig := bits cob 559 544
      let sum := s.sigVal sig + bits cob 607 576
      let ends (st : Nat) : Prop := ∃ t, exec i s = .next t ∧ t.goes q c.num (some st) ∧ t.coll = s.coll ∧ t.cores = s.cores ∧ (c.errSignal = false → s.apart t)
        ∧ (c.errSignal = true → s.ownsSig (s.cmdqFn q) sig = true → bits cob 607 576 ≠ 0 → sum < 2 ^ 64 → t.sigVal sig = sum)
      (s.commqOf (s.cmdqFn q) (bits cob 43 32) = none → ends St.GROUP_INVALID)
      ∧ (∀ g, s.commqOf (s.cmdqFn q) (bits cob 43 32) = some g →
        (s.grpUsable (s.grpEntry g) = false → ends St.GROUP_INVALID)
        ∧ (s.grpUsable (s.grpEntry g) = true → s.grpMember (s.grpEntry g) = false → ends St.NOT_MEMBER)
        ∧ (s.grpUsable (s.grpEntry g) = true → s.grpMember (s.grpEntry g) = true →
          (s.rg R.COL_CQ_STATUS_STATE g = 2 → ends St.CQ_FAILED)
          ∧ (s.rg R.COL_CQ_STATUS_STATE g ≠ 2 → 16 ≤ (s.commq g).ops.length → ∃ t, exec i s = .next t ∧ t.coll = s.coll ∧ (t.goes q c.num none ↔ s.goes q c.num none)
            ∧ t.rg R.QUE_CQ_WAIT_OPCODE q = 5 ∧ s.apart t ∧ ∃ x, t.cmdFind q c.num = some x ∧ x.aux = if c.aux = 0 then s.tbc + 1 else c.aux)
          ∧ (s.rg R.COL_CQ_STATUS_STATE g ≠ 2 → (s.commq g).ops.length < 16 → (s.commq g).pendAbort = none → ∃ t, exec i s = .next t ∧ s.apart t
            ∧ (∃ o, (t.commq g).ops = (s.commq g).ops ++ [o] ∧ o.cob = cob ∧ o.seq = s.rg R.COL_CQ_SEQ_SEQ g ∧ o.running = false ∧ o.result = none ∧ o.num = c.num
              ∧ o.order = s.coll.launches) ∧ t.coll.launches = s.coll.launches + 1
            ∧ t.rg R.COL_CQ_SEQ_SEQ g = (s.rg R.COL_CQ_SEQ_SEQ g + 1) % 2 ^ 32 ∧ t.goes q c.num none))))
    ∧ (∀ (s : State) (fn g : Nat) (o : CollOp), s.unitStatus (pCol fn) = St.OK → s.collWaiting fn = some (g, o) →
      let o' := { o with entry := s.grpEntry g }
      (s.collCheck fn g o' ≠ St.OK → ∃ t, exec (.collOpStart fn) s = .next t ∧ s.apart t
        ∧ t.collHead g = some { o' with running := true, result := some (s.collCheck fn g o') })
      ∧ (s.collCheck fn g o' = St.OK →
        ((s.freeCores fn).length < (gRings o'.entry).length → exec (.collOpStart fn) s = .next s)
        ∧ ((gRings o'.entry).length ≤ (s.freeCores fn).length → o.kind = 2 → gAxes o'.entry = [] → ∃ t, exec (.collOpStart fn) s = .next t ∧ t.cores = s.cores
          ∧ ∃ x, t.collHead g = some x ∧ x.running = true ∧ x.result = some St.OK ∧ x.seq = o.seq)))
    ∧ (∀ (s : State) (req fn g : Nat), s.mayWrite req (pCol fn) = true → s.commqOf fn (s.rg R.COL_CQ_SEL_GID (pCol fn)) = some g →
      s.flag R.COL_CQ_CMD_BUSY g = false → ∃ t, exec (.colCqReset req fn) s = .next t ∧ (t.commq g).ops = [] ∧ (t.commq g).pendAbort = none
        ∧ t.rg R.COL_CQ_SEQ_SEQ g = 0 ∧ t.rg R.COL_CQ_STATUS_STATE g = 0 ∧ t.rg R.COL_CQ_STATUS_DEPTH g = 0 ∧ t.rg R.COL_CQ_CMD_BUSY g = 1 ∧ t.cores = s.cores)
    ∧ (∀ (s : State) (fn : Nat), NMap.get false s.coll.quadsPend fn = true →
      (s.collRunning fn = false → ∃ t, exec (.collQuadsApply fn) s = .next t ∧ s.apart t ∧ t.regs = s.regs
        ∧ ∀ q ∈ s.quadsOf fn, NMap.get false t.coll.quads q = bit (s.rg (R.COL_COLL_QUADS_MASK (q / 32)) (pCol fn)) (q % 32))
      ∧ (s.collRunning fn = true → exec (.collQuadsApply fn) s = .next s)))
  ∧ (
    (∀ (s : State) (flow g k : Nat) (f : Frame), s.groupFrame 1 flow f g k →
      let seq := byteFld f.data 8 4
      let took (t : State) : Prop := (t.flow flow).rxNext = ((s.flow flow).rxNext + 1) % seqMod ∧ t.cores = s.cores ∧ t.sig = s.sig
      (isMagic 64 magicHeader f = true → ∀ o ph w, s.ringPhase g k = some (o, ph, w) → s.rg R.COL_CQ_STATUS_STATE g ≠ 2 → seq = o.seq → o.hdr w = false →
        seq32Before seq (s.collOldest g) = false → ((s.collHeader o ph).drop 4).take 28 ≠ (f.data.drop 4).take 28 →
        ∃ t, exec (.collHeaderRx flow) s = .next t ∧ took t ∧ t.collHead g = some { o with result := some St.COLL_MISMATCH })
      ∧ (isMagic 16 magicAbort f = false → isMagic 64 magicHeader f = false →
        (s.rg R.COL_CQ_STATUS_STATE g = 2 → ∃ t, exec (.collDataRx flow) s = .next t ∧ took t ∧ t.coll = s.coll)
        ∧ (∀ o ph, s.rg R.COL_CQ_STATUS_STATE g ≠ 2 → s.ringPhase g k = some (o, ph, 0) → gLanes2 o.entry = false → o.hdr0 = true → f.poison = 0 →
          let e := gExt o.entry ph.axis
          let piece := s.pieceBlocks o ph (recvPiece ph.gather (s.grpIdx o.entry ph.axis) e 0 (o.recv0 + 1)) 0
          o.recv0 + 1 ≤ e - 1 → o.part0.length + f.data.length < (piece.map (o.blockBytes ph)).foldl (· + ·) 0 →
          ∃ t, exec (.collDataRx flow) s = .next t ∧ took t ∧ t.collHead g = some { o with part0 := o.part0 ++ f.data }))
      ∧ (isMagic 16 magicAbort f = true → s.rg R.COL_CQ_STATUS_STATE g ≠ 2 → seq32Before seq (s.collOldest g) = false →
        (∀ o, s.collHead g = some o → o.running = true → o.seq = seq → o.result = none →
          ∃ t, exec (.collAbortRx flow) s = .next t ∧ took t ∧ t.collHead g = some { o with result := some St.PEER_ABORT, abortSt := some (byteFld f.data 12 4) })
        ∧ ((∀ o ∈ (s.commq g).ops, o.seq ≠ seq) → ∃ t, exec (.collAbortRx flow) s = .next t ∧ took t
          ∧ (t.commq g).ops = (s.commq g).ops ∧ (t.commq g).pendAbort = some (seq, byteFld f.data 12 4))))
    ∧ (∀ (s : State) (fn gid g st : Nat) (o : CollOp) (c : Cmd), s.commqOf fn gid = some g → s.collHead g = some o → o.result = some st →
      s.cmdFind o.queue o.num = some c → c.result = none →
      let sum := s.sigVal o.sig + o.inc
      let rest := match (s.commq g).ops.drop 1 with
        | [] => []
        | n :: l => { n with since := s.tbc } :: l
      (s.rg R.COL_CQ_STATUS_STATE g = 2 → exec (.collOpDone fn gid) s = .next s)
      ∧ (s.rg R.COL_CQ_STATUS_STATE g ≠ 2 → st = St.OK → o.inc ≠ 0 → sum < 2 ^ 64 → ∃ t, exec (.collOpDone fn gid) s = .next t ∧ (t.commq g).ops = rest
        ∧ t.sigVal o.sig = sum ∧ (∀ n, n ≠ o.sig → t.sigVal n = s.sigVal n) ∧ t.goes o.queue o.num (some St.OK)
        ∧ t.rg R.COL_CQ_STATUS_LAST_STATUS g = St.OK ∧ t.cores = s.cores)
      ∧ (s.rg R.COL_CQ_STATUS_STATE g ≠ 2 → st ≠ St.OK → st < 2 ^ 16 → ∃ t, exec (.collOpDone fn gid) s = .next t ∧ (t.commq g).ops = rest
        ∧ (c.errSignal = false → t.sig = s.sig) ∧ (c.errSignal = true → s.ownsSig (s.commqFn g) o.sig = true → o.inc ≠ 0 → sum < 2 ^ 64 → t.sigVal o.sig = sum)
        ∧ t.goes o.queue o.num (some st) ∧ t.rg R.COL_CQ_STATUS_LAST_STATUS g = st ∧ t.rg R.COL_CQ_STATUS_STATE g = 2
        ∧ t.recorded (pCol (s.commqFn g)) Er.COL_COLL_FAIL ∧ t.cores = s.cores)))

/-! ### Command and event queues (12_host_interface.md) -/

/-- R413–R415, R417, R420, R423, R435, R611: a doorbell within the ring moves the tail and one outside is recorded and ignored; a fetch takes the next descriptor in ring order with its checks, or puts the
queue in ERROR; a command that has ended leaves with its signal and the progress count; EN, RESUME and RESET of a queue.
R427, R429, R431, R432, R436: a consumption count within what was produced is taken and one beyond it recorded; enabling a queue starts its ring at 0 and disabling it hands on what waits; the end of a
merge window writes its record; the coalescing timer sends the message; a failed write puts the queue in ERROR.
It states the completion of: cqDoorbell, cmdFetch, cmdComplete, queCqReset, cqResume, cqEnable, eqDoorbell, eqEnable, eqDisable, mergeWindowEnd, msixCoalTimer,
eqWriteFail.
The model's own readings in it: log entries 68, 70, 71, 73. -/
def Obligations.HostQueues : Prop :=
  (
    (∀ (s : State) (fn k q p : Nat), s.hostUp fn = true → s.cmdqOf fn k = some q → s.cqState q = 1 → s.cqResetting q = false → p < 2 ^ 32 →
      let ahead := (p + 2 ^ 32 - s.rg R.QUE_CQ_FETCHED_FETCHED q) % 2 ^ 32
      let move := (p + 2 ^ 32 - s.rg R.QUE_CQ_TAIL_TAIL q) % 2 ^ 32
      (move ≠ 0 → ahead ≤ 2 ^ s.rg R.QUE_CQ_CFG_LOG2SIZE q → move < 2 ^ 31 → exec (.cqDoorbell fn k p) s = .next (s.wr R.QUE_CQ_TAIL_TAIL q p))
      ∧ (2 ^ s.rg R.QUE_CQ_CFG_LOG2SIZE q < ahead → move ≠ 0 → ∃ t, exec (.cqDoorbell fn k p) s = .next t
        ∧ t.rg R.QUE_CQ_TAIL_TAIL q = s.rg R.QUE_CQ_TAIL_TAIL q ∧ t.recorded (pHif fn) Er.HIF_DOORBELL_RANGE ∧ s.apart t))
    ∧ (∀ (s : State) (fn k p : Nat),
      (s.hostUp fn = true → (s.cmdqOf fn k = none ∨ ∃ q, s.cmdqOf fn k = some q ∧ (s.cqState q ≠ 1 ∨ s.cqResetting q = true)) →
        ∃ t, exec (.cqDoorbell fn k p) s = .next t ∧ s.sameRegs t [] ∧ { t with regs := s.regs } = s)
      ∧ (s.hostUp fn = false → exec (.cqDoorbell fn k p) s = .next s ∧ exec (.eqDoorbell fn k p) s = .next s))
    ∧ (∀ (s : State) (cls q : Nat), (s.classTurn s.cqsReady cls).isSome = true → s.cqTurn s.cqsReady cls = some q →
      let fn := s.cmdqFn q
      let num := s.rg R.QUE_CQ_FETCHED_FETCHED q
      let c : Cmd := ⟨num, s.host.order, s.rle (aHost (s.rg R.QUE_CQ_BASE_BASE q * 64 + 64 * (num % 2 ^ s.rg R.QUE_CQ_CFG_LOG2SIZE q))) 64, false, none, s.tbc, 0⟩
      let st := if s.cmdCheck fn q c = St.OK ∧ c.isStep = true then s.stepRefusal fn (if c.opcode = 6 then 1 else 4) c else s.cmdCheck fn q c
      (0 < (s.rg R.QUE_CQ_TAIL_TAIL q + 2 ^ 32 - num) % 2 ^ 32 → ∃ t, exec (.cmdFetch cls 1 false) s = .next t ∧ s.apart t
        ∧ t.rg R.QUE_CQ_FETCHED_FETCHED q = (num + 1) % 2 ^ 32
        ∧ (t.cq q).inflight = (s.cq q).inflight ++ [if st = St.OK then c else { c with started := true, result := some st }])
      ∧ (∃ t, exec (.cmdFetch cls 1 true) s = .next t ∧ t.cqState q = 3 ∧ t.rg R.QUE_CQ_STATUS_LAST_ERR q = St.FETCH_FAIL
        ∧ t.recorded (pHif fn) Er.HIF_FETCH_FAIL ∧ (t.cq q).inflight = (s.cq q).inflight ∧ s.apart t))
    ∧ (∀ (s : State) (q num st : Nat) (c : Cmd), s.cmdFind q num = some c → c.result = some st → s.digestHolds (s.cmdqFn q) q num = false → st < 2 ^ 16 →
      ∃ t, exec (.cmdComplete q num) s = .next t ∧ (∀ x ∈ (t.cq q).inflight, x.num ≠ num)
        ∧ t.rg R.QUE_CQ_DONE_DONE q = (s.rg R.QUE_CQ_DONE_DONE q + 1) % 2 ^ 64
        ∧ (st = St.OK → s.sigVal c.sig + c.inc < 2 ^ 64 → t.sigVal c.sig = s.sigVal c.sig + c.inc)
        ∧ (st = St.OK → c.inc ≠ 0 → 2 ^ 64 ≤ s.sigVal c.sig + c.inc → t.sig = s.sig ∧ t.rg R.QUE_CQ_STATUS_LAST_ERR q = St.SIG_OVERFLOW)
        ∧ (st ≠ St.OK → c.errSignal = false → t.sig = s.sig ∧ t.rg R.QUE_CQ_STATUS_LAST_ERR q = st)
        ∧ (∀ n, n ≠ c.sig → t.sigVal n = s.sigVal n))
    ∧ (∀ (s : State) (req fn q : Nat), s.mayWrite req (pQue fn) = true → s.cqSel fn = some q →
      (∃ t, exec (.queCqReset req fn) s = .next t ∧ t.cq q = CmdQ.empty ∧ t.cqState q = 0 ∧ t.rg R.QUE_CQ_TAIL_TAIL q = 0
        ∧ t.rg R.QUE_CQ_FETCHED_FETCHED q = 0 ∧ t.rg R.QUE_CQ_DONE_DONE q = 0 ∧ ∃ r ∈ t.recov.resets, r.level = 1 ∧ r.target = pQueue q)
      ∧ (let frame (t : State) : Prop := { t with regs := s.regs } = s
            ∧ s.sameRegs t [(R.QUE_CQ_CTRL_EN, q), (R.QUE_CQ_STATUS_FSTOP, q), (R.QUE_CQ_STATUS_STATE, q)]
        (∃ t, exec (.cqResume req fn) s = .next t ∧ t.rg R.QUE_CQ_STATUS_FSTOP q = 0 ∧ frame t
          ∧ (s.cqState q = 2 → s.flag R.QUE_CQ_CTRL_EN q = true → s.flag R.QUE_CQ_STATUS_QSTOP q = false → t.cqState q = 1))
        ∧ (sizeOk (s.rg R.QUE_CQ_CFG_LOG2SIZE q) = true → s.cqState q ≠ 3 →
          (∃ t, exec (.cqEnable req fn false) s = .next t ∧ t.cqState q = 0 ∧ t.rg R.QUE_CQ_CTRL_EN q = 0 ∧ frame t)
          ∧ (s.flag R.QUE_CQ_STATUS_FSTOP q = false → s.flag R.QUE_CQ_STATUS_QSTOP q = false →
            ∃ t, exec (.cqEnable req fn true) s = .next t ∧ t.cqState q = 1 ∧ t.rg R.QUE_CQ_CTRL_EN q = 1 ∧ frame t)))))
  ∧ (
    (∀ (s : State) (fn k q c : Nat), s.hostUp fn = true → s.evtqOf fn k = some q → s.eqActive q = true →
      let n := s.rg R.EVT_EQ_CONS_COUNT q
      let full := (s.rg R.EVT_EQ_PROD_COUNT q + 2 ^ 32 - n) % 2 ^ 32
      ((c % 2 ^ 32 + 2 ^ 32 - n) % 2 ^ 32 ≤ full → ∃ t, exec (.eqDoorbell fn k c) s = .next t ∧ t.rg R.EVT_EQ_CONS_COUNT q = c % 2 ^ 32 ∧ s.apart t)
      ∧ (full < (c % 2 ^ 32 + 2 ^ 32 - n) % 2 ^ 32 → ∃ t, exec (.eqDoorbell fn k c) s = .next t ∧ t.rg R.EVT_EQ_CONS_COUNT q = n
        ∧ t.recorded (pHif fn) Er.HIF_DOORBELL_RANGE ∧ s.apart t))
    ∧ (∀ (s : State) (req fn q : Nat), s.mayWrite req (pEvt fn) = true → s.eqSel fn = some q →
      (sizeOk (s.rg R.EVT_EQ_CFG_LOG2SIZE q) = true → s.flag R.EVT_EQ_CTRL_EN q = false → s.boot.readyPend = false →
        ∃ t, exec (.eqEnable req fn) s = .next t ∧ t.eqActive q = true ∧ t.rg R.EVT_EQ_CTRL_EN q = 1 ∧ t.rg R.EVT_EQ_PROD_COUNT q = 0
          ∧ t.rg R.EVT_EQ_CONS_COUNT q = 0 ∧ t.rg R.EVT_EQ_STATUS_PHASE q = 1 ∧ (t.eq q).pend = [] ∧ (t.eq q).slots = [] ∧ s.apart t)
      ∧ (s.flag R.EVT_EQ_CTRL_EN q = true → ∃ t, exec (.eqDisable req fn) s = .next t ∧ t.eqActive q = false ∧ t.rg R.EVT_EQ_CTRL_EN q = 0
          ∧ (t.eq q).pend = [] ∧ (t.eq q).slots = [] ∧ s.apart t))
    ∧ (∀ (s : State) (q i : Nat) (m : MergeSlot), (s.eq q).slots[i]? = some m →
      (m.count = 0 → exec (.mergeWindowEnd q i) s = .next (s.setEq q { s.eq q with slots := (s.eq q).slots.eraseIdx i }))
      ∧ (0 < m.count → (s.eq q).pend = [] → s.eqSpace q = true → s.rg R.EVT_EQ_DROP_COUNTS q = 0 → ∃ t, exec (.mergeWindowEnd q i) s = .next t
        ∧ (t.eq q).slots = (s.eq q).slots.eraseIdx i ∧ t.rg R.EVT_EQ_PROD_COUNT q = (s.rg R.EVT_EQ_PROD_COUNT q + 1) % 2 ^ 32
        ∧ (t.eq q).hist.getLast? = some m.close ∧ s.apart t)
      ∧ (0 < m.count → (s.eq q).pend = [] → s.eqSpace q = true → s.rg R.EVT_EQ_DROP_COUNTS q ≠ 0 → ∃ t, exec (.mergeWindowEnd q i) s = .next t
        ∧ t.recorded (pHif (s.evtqFn q)) Er.HIF_EVT_DROP ∧ s.apart t))
    ∧ (∀ (s : State) (q : Nat), (s.eq q).unsig ≠ 0 → s.flag R.EVT_EQ_CFG_MSIX_EN q = true →
      let v := s.rg R.EVT_EQ_CFG_VECTOR q
      let dw (i : Nat) : Nat := PMap.get (if i = 3 then 1 else 0) s.host.msix (s.evtqFn q, 4 * v + i)
      ∃ t, exec (.msixCoalTimer q) s = .next t ∧ (t.eq q).unsig = 0 ∧ s.apart t ∧ s.sameRegs t []
        ∧ (dw 3 % 2 = 0 → t.out = s.out ++ [.msix (s.evtqFn q) v (dw 0 + dw 1 * 2 ^ 32) (dw 2)])
        ∧ (dw 3 % 2 = 1 → t.out = s.out ∧ PMap.get false t.host.pba (s.evtqFn q, v) = true))
    ∧ (∀ (s : State) (q l : Nat), let prod := s.rg R.EVT_EQ_PROD_COUNT q
      s.eqActive q = true → l < (s.eq q).hist.length → l < (prod + 2 ^ 32 - s.rg R.EVT_EQ_CONS_COUNT q) % 2 ^ 32 →
      ∃ t, exec (.eqWriteFail ⟨q, l⟩) s = .next t ∧ t.rg R.EVT_EQ_STATUS_STATE q = 3 ∧ t.rg R.EVT_EQ_PROD_COUNT q = (prod + 2 ^ 32 - (l + 1)) % 2 ^ 32
        ∧ (t.eq q).pend = [] ∧ (t.eq q).slots = [] ∧ t.recorded (pHif (s.evtqFn q)) Er.HIF_EVT_WRITE_FAIL ∧ s.apart t))

/-- R163, R416, R419, R421, R422, R456: KERNEL_LAUNCH loads every core named with PC and arguments and starts it, waits for idle cores, and refuses a quad not of the partition; DMA moves a line
between host and module; SIGNAL_WAIT holds its queue until its signal has the value; SIGNAL_SET raises or adds; POWER_HINT notes its level for the cores of the partition.
It states the completion of: kernelLaunch, dma, signalWait, signalWaitMet, signalSet, powerHint.
The model's own readings in it: log entry 69. -/
def Obligations.HostCommands : Prop :=
  (∀ (s : State) (q : Nat) (k : Cmd), s.starts q 1 k →
    let fn := s.cmdqFn q
    let quad := k.opnd 0x28 7 0
    (s.quadFn quad ≠ some fn → ∃ t, exec (.kernelLaunch q) s = .next t ∧ t.goes q k.num (some St.TARGET_RANGE) ∧ s.apart t)
    ∧ (s.quadFn quad = some fn → s.quadPresent quad = true → k.cores ≠ [] → s.dedicatedQuad fn quad = false → s.unitsStatus (k.cores.map pCore) = St.OK →
      ((∀ c ∈ k.cores, s.coreIdle c = true) → ∃ t, exec (.kernelLaunch q) s = .next t ∧ t.goes q k.num none ∧ t.sig = s.sig
        ∧ (∀ c ∈ k.cores, t.runState c = 1 ∧ t.pc c = k.fld 0x10 64 ∧ (t.core c).launch = some (q, k.num) ∧ (t.core c).rdS 1 = k.fld 0x18 64
          ∧ (t.core c).rdS 2 = k.fld 0x20 64 ∧ (t.core c).rdS 3 = c % 4 ∧ ∀ i, 3 < i → (t.core c).rdS i = (s.core c).rdS i)
        ∧ ∀ c, c ∉ k.cores → t.core c = s.core c)
      ∧ ((∃ c ∈ k.cores, s.coreIdle c = false) → exec (.kernelLaunch q) s = .next (s.cqWait q 1 0))))
  ∧ (∀ (s : State) (q : Nat) (k : Cmd), s.starts q 2 k →
    let fn := s.cmdqFn q
    let a := k.fld 0x18 64
    let h := k.fld 0x10 64
    let ends (st : Nat) : Prop := ∃ t, exec (.dma q [] none) s = .next t ∧ t.goes q k.num (some st) ∧ s.apart t
    (s.halted = true → exec (.dma q [] none) s = .next (s.cqWait q 2 0))
    ∧ (s.halted = false → windowOk a (k.fld 0x20 32) = false → ends St.ADDR_RANGE)
    ∧ (s.halted = false → windowOk a (k.fld 0x20 32) = true → k.fld 0x20 32 = 0 → ends St.OK)
    ∧ (s.halted = false → windowOk a (k.fld 0x20 32) = true → 0 < k.fld 0x20 32 → s.host.pcieUp = false → ends St.HOST_ERROR)
    ∧ (∀ pa, s.halted = false → s.host.pcieUp = true → k.fld 0x20 32 = 64 → windowOk a 64 = true → a % 64 = 0 → h + 64 ≤ 2 ^ 64 → pa % 64 = 0 → spaceOf pa = 1 → Map.sorted natLt s.mem = true →
      s.flag R.DBG_TRACE_CFG_EN (pDbg fn) = false →
      (bit (k.fld 0x24 8) 0 = false → s.mapAddr (viaFn fn) a true false = .ok pa → s.poisoned (aHost h) = false → s.poisoned (aHost (h + 63)) = false →
        ∃ t, exec (.dma q [] none) s = .next t ∧ t.goes q k.num (some St.OK) ∧ (∀ j < 64, t.rb (pa + j) = s.rb (aHost (h + j)))
          ∧ (∀ b, b < pa ∨ pa + 64 ≤ b → t.rb b = s.rb b) ∧ t.cores = s.cores ∧ t.sig = s.sig)
      ∧ (bit (k.fld 0x24 8) 0 = true → s.mapAddr (viaFn fn) a false false = .ok pa →
        ∃ t, exec (.dma q [] none) s = .next t ∧ t.goes q k.num (some St.OK) ∧ (∀ j < 64, t.rb (aHost (h + j)) = s.rb (pa + j)) ∧ s.apart t)))
  ∧ (∀ (s : State) (q : Nat) (k : Cmd), s.starts q 3 k →
    (s.waitMet k = true → ∃ t, exec (.signalWait q) s = .next t ∧ t.goes q k.num (some St.OK) ∧ s.apart t)
    ∧ (s.waitMet k = false → ∃ t, exec (.signalWait q) s = .next t ∧ t.goes q k.num none ∧ t.rg R.QUE_CQ_WAIT_OPCODE q = 3
      ∧ t.rg R.QUE_CQ_WAIT_SIG q = k.fld 0x10 16 ∧ s.apart t))
  ∧ (∀ (s : State) (q : Nat) (k : Cmd), (s.cq q).inflight.find? (fun c => c.opcode == 3 && c.started && c.result.isNone) = some k → s.cmdFind q k.num = some k →
    (s.waitMet k = true → ∃ t, exec (.signalWaitMet q) s = .next t ∧ t.goes q k.num (some St.OK) ∧ t.rg R.QUE_CQ_WAIT_OPCODE q = 0 ∧ s.apart t
      ∧ s.sameRegs t [(R.QUE_CQ_WAIT_OPCODE, q), (R.QUE_CQ_WAIT_SIG, q)])
    ∧ (s.waitMet k = false → exec (.signalWaitMet q) s = .next s))
  ∧ (∀ (s : State) (q : Nat) (k : Cmd), s.starts q 4 k →
    let n := k.fld 0x10 16
    let v := k.fld 0x18 64
    let only (t : State) : Prop := (∀ m, m ≠ n → t.sigVal m = s.sigVal m) ∧ t.cores = s.cores ∧ ∀ a, a < Spc 4 → t.rb a = s.rb a
    (bit (k.fld 0x12 8) 0 = false → ∃ t, exec (.signalSet q) s = .next t ∧ t.sigVal n = max (s.sigVal n) v ∧ t.goes q k.num (some St.OK) ∧ only t)
    ∧ (bit (k.fld 0x12 8) 0 = true →
      (s.sigVal n + v < 2 ^ 64 → ∃ t, exec (.signalSet q) s = .next t ∧ t.sigVal n = s.sigVal n + v ∧ t.goes q k.num (some St.OK) ∧ only t)
      ∧ (2 ^ 64 ≤ s.sigVal n + v → ∃ t, exec (.signalSet q) s = .next t ∧ t.sig = s.sig ∧ t.goes q k.num (some St.SIG_OVERFLOW) ∧ only t)))
  ∧ (∀ (s : State) (q : Nat) (k : Cmd), s.starts q 9 k →
    (k.opnd 0x10 17 8 ≤ 1000 → ∃ t, exec (.powerHint q) s = .next t ∧ t.goes q k.num (some St.OK) ∧ s.apart t
      ∧ ∀ c ∈ s.coresOf (s.cmdqFn q), (NMap.get (0, 0) t.pwr.hint c).1 = min 64 (k.opnd 0x10 7 0))
    ∧ (1000 < k.opnd 0x10 17 8 → ∃ t, exec (.powerHint q) s = .next t ∧ t.goes q k.num (some St.INVALID_ARG) ∧ t.pwr = s.pwr ∧ s.apart t))

/-- R406, R407, R410, R423, R424, R434: FENCE stops fetching on its target and completes once what was fetched has; QUIESCE stops the partition and its data queues, and RESUME lets them go
on; STOP fences every data queue; clearing EN disables the queues; a resource assignment takes effect as a whole or not at all.
R230, R234–R236, R244, R246, R391: what opens a step and what ends one; a SNAPSHOT fetched in APPLYING is deferred, and starts or is refused at the next OPEN; one that ends lets a held entry to
APPLYING go on with the record that was voted; in FAULTED a verdict frame is discarded.
It states the completion of: stepArm, stepDisarm, stepVerdict, stepCommit, snapshot, snapshotDeferredStart, snapshotDone, verdictFrameRx, fenceCmd, fenceCmdDone,
quiesce, quiesceResume, funcStop, funcCtrlEn, resGo. -/
def Obligations.HostControl : Prop :=
  (∀ (s : State) (q : Nat) (k : Cmd), s.starts q 10 k → bit (k.fld 0x12 8) 0 = false → bit (k.fld 0x12 8) 1 = false →
    let fn := s.cmdqFn q
    (∀ tq, s.cmdqOf fn (k.opnd 0x10 11 0) = some tq → s.cqClass tq ≠ 0 → ∃ t, exec (.fenceCmd q) s = .next t ∧ t.goes q k.num none
      ∧ t.rg R.QUE_CQ_STATUS_FSTOP tq = 1 ∧ t.host.fences = s.host.fences ++ [⟨fn, some (q, k.num), [(tq, s.host.order)]⟩] ∧ s.apart t)
    ∧ (s.cmdqOf fn (k.opnd 0x10 11 0) = none → ∃ t, exec (.fenceCmd q) s = .next t ∧ t.goes q k.num (some St.INVALID_ARG)
      ∧ t.host.fences = s.host.fences ∧ s.apart t))
  ∧ (∀ (s : State) (q num : Nat) (f : Fence) (c : Cmd), s.host.fences.find? (fun f => decide (f.cmd = some (q, num))) = some f → s.cmdFind q num = some c →
    c.result = none →
    (s.fenceMet f = true → ∃ t, exec (.fenceCmdDone q num) s = .next t ∧ t.goes q num (some St.OK) ∧ (∀ x ∈ t.host.fences, x.cmd ≠ some (q, num))
      ∧ s.apart t ∧ t.regs = s.regs)
    ∧ (s.fenceMet f = false → exec (.fenceCmdDone q num) s = .next s))
  ∧ (∀ (s : State) (q : Nat) (k : Cmd), s.starts q 11 k →
    let fn := s.cmdqFn q
    (bit (k.fld 0x10 8) 0 = false → ∃ t, exec (.quiesce q) s = .next t ∧ (∀ p ∈ s.quiescePages fn, t.quiescing p = true)
      ∧ (∀ d ∈ s.dataQueues fn, t.rg R.QUE_CQ_STATUS_QSTOP d = 1) ∧ t.sig = s.sig ∧ ∀ a, a < Spc 4 → t.rb a = s.rb a)
    ∧ (bit (k.fld 0x10 8) 0 = true → ∃ t, exec (.quiesceResume q) s = .next t ∧ (∀ p ∈ s.quiescePages fn, t.quiescing p = false ∧ t.quiesced p = false)
      ∧ (∀ d ∈ s.dataQueues fn, t.rg R.QUE_CQ_STATUS_QSTOP d = 0) ∧ t.goes q k.num (some St.OK) ∧ s.apart t))
  ∧ (∀ (s : State) (req fn : Nat),
    (s.mayWrite req (pHif fn) = true →
      (∃ t, exec (.funcStop req fn) s = .next t ∧ (∀ d ∈ s.dataQueues fn, t.rg R.QUE_CQ_STATUS_FSTOP d = 1) ∧ ∃ r ∈ t.recov.resets, r.level = 1)
      ∧ (∃ t, exec (.funcCtrlEn req fn true) s = .next t ∧ t.rg R.HIF_FUNC_CTRL_EN (pHif fn) = 1 ∧ t.rg R.HIF_FUNC_STATUS_EN (pHif fn) = 1
        ∧ { t with regs := s.regs } = s)
      ∧ (∃ t, exec (.funcCtrlEn req fn false) s = .next t ∧ t.rg R.HIF_FUNC_CTRL_EN (pHif fn) = 0 ∧ (∀ d ∈ s.cmdqsOf fn, t.rg R.QUE_CQ_CTRL_EN d = 0)
        ∧ (∀ e ∈ s.evtqsOf fn, t.rg R.EVT_EQ_CTRL_EN e = 0) ∧ s.apart t))
    ∧ (s.mayWrite 0 (pHif fn) = true → s.flag R.HIF_RES_RESULT_DONE (pHif fn) = true →
      (s.resCheck fn ≠ St.OK → exec (.resGo 0 fn) s = .next (s.wr R.HIF_RES_RESULT_STATUS (pHif fn) (s.resCheck fn)))
      ∧ (s.resCheck fn = St.OK → ∃ t, exec (.resGo 0 fn) s = .next t ∧ t.fnRes fn = s.resStaged fn ∧ t.rg R.HIF_RES_RESULT_STATUS (pHif fn) = St.OK
        ∧ (∀ d ∈ s.quadsStaged fn, t.quadFn d = some fn) ∧ (∀ e, e ≠ fn → t.fnRes e = s.fnRes e) ∧ t.cores = s.cores ∧ s.sameMem t))
    ∧ (0 < req → exec (.resGo req fn) s = .next s))
  ∧ (∀ (s : State) (req fn : Nat), s.mayWrite req (pCol fn) = true →
    (s.stepState fn = 0 → s.quadsOf fn ≠ [] → ∃ t, exec (.stepArm req fn) s = .next t ∧ t.openKey fn = (s.stepCount fn, 0, s.rg R.COL_SKIP_CTL_CONSEC (pCol fn)))
    ∧ (s.stepState fn = 5 → ∃ t, exec (.stepDisarm req fn) s = .next t ∧ t.stepState fn = 0 ∧ t.stepCount fn = s.stepCount fn))
  ∧ (∀ (s : State) (q : Nat) (c : Cmd), s.cmdFind q c.num = some c →
    let fn := s.cmdqFn q
    let x := s.stepSt fn
    (x.cmd = none → (∀ e ∈ s.cmdsOf fn, e.2.isStep = true → e.2.result = none → c.order ≤ e.2.order) → c.opnd 0x10 47 0 = s.stepCount fn →
      (s.stepFirst q 6 = some c → s.stepState fn = 1 → ∃ t, exec (.stepVerdict q) s = .next t ∧ t.rg R.COL_STEP_STATUS_STATE (pCol fn) ≠ 0 ∧ t.stepCount fn = s.stepCount fn
        ∧ ∃ r, t.goes q c.num r)
      ∧ (s.stepFirst q 7 = some c → s.stepState fn = 4 → s.earlierDone fn c.order = true → s.stepCount fn = 2 ^ 48 - 1 → ∃ t, exec (.stepCommit q) s = .next t
        ∧ t.stepCount fn = s.stepCount fn ∧ t.goes q c.num (some St.STEP_EXHAUSTED))
      ∧ (s.stepFirst q 7 = some c → s.stepState fn = 4 → s.earlierDone fn c.order = true → s.applyClean fn = true → s.stepCount fn < 2 ^ 48 - 1 →
        ∃ t, exec (.stepCommit q) s = .next t ∧ t.openKey fn = (s.stepCount fn + 1, 0, 0)))
    ∧ (s.starts q 8 c → s.stepState fn = 4 → x.snap = none → ∃ t, exec (.snapshot q) s = .next t ∧ (t.stepSt fn).snap = some ⟨q, c.num, false, 0, 0, 0, 0⟩)
    ∧ (∀ n : Snap, x.snap = some n → n.queue = q → n.num = c.num →
      (n.started = false → s.stepState fn = 1 → s.stepCount fn = 0 → c.result = none → ∃ t, exec (.snapshotDeferredStart fn) s = .next t ∧ (t.stepSt fn).snap = none
        ∧ t.goes q c.num (some St.SNAP_NONE))
      ∧ (n.started = false → s.stepState fn = 1 → s.stepCount fn ≠ 0 → (∃ v, s.snapList fn c = .ok v) → ∃ t, exec (.snapshotDeferredStart fn) s = .next t
        ∧ (t.stepSt fn).snap.map Snap.step = some (s.stepCount fn - 1))
      ∧ (n.started = true → c.result = none → s.flag R.COL_STEP_STATUS_HOLD (pCol fn) = true → s.stepState fn = 3 → ∀ u k, s.snapImage fn n c = .ok (u, k) →
        ∃ t, exec (.snapshotDone fn false) s = .next t ∧ t.stepState fn = 4 ∧ (t.stepSt fn).snap = none
          ∧ t.rg R.COL_COMB_REC_RECORD (pCol fn) = x.record % 2 ^ 256)))
  ∧ (∀ (s : State) (flow g k : Nat) (f : Frame), s.groupFrame 0 flow f g k → isMagic 48 magicVerdict f = true → byteFld f.data 6 2 = 0 →
    (∃ e, s.verdictGroup (s.commqFn g) = some (g, e)) → s.stepState (s.commqFn g) = 5 → ∃ t, exec (.verdictFrameRx flow) s = .next t ∧ t.step = s.step
      ∧ (t.flow flow).rxNext = ((s.flow flow).rxNext + 1) % seqMod)

/-- R411: in BAR4 the 8 bytes at 8 × n are signal n: a 64-bit read of an owned signal returns its value, and a 64-bit write performs SIGSET; of an unowned one a
read returns 0 and a write is ignored, both counted under SIG_DENIED and recorded as the error source; a narrower access reads 0 and is ignored.
It states the completion of: bar4Access. -/
def Obligations.SignalWindow : Prop :=
  ∀ (s : State) (fn n v : Nat), n < 65536 → v < 2 ^ 64 →
    (s.hostUp fn = false → ∀ off width x, exec (.bar4Access fn off width x) s = .next s) ∧ (s.hostUp fn = true →
    let denied (t : State) : Prop := t.recorded (pHif fn) Er.HIF_SIG_DENIED ∧ s.apart t
      ∧ ∀ i < 4, s.rg (cntEvent i) (pHif fn) = Cn.HIF_SIG_DENIED → s.flag (cntFreeze i) (pHif fn) = false →
          t.rg (cntCount i) (pHif fn) = (s.rg (cntCount i) (pHif fn) + 1) % 2 ^ 64
    (s.ownsSig fn n = true → (∃ t, exec (.bar4Access fn (8 * n) 64 none) s = .next t ∧ t.rdata = [s.sigVal n] ∧ { t with rdata := s.rdata } = s)
      ∧ (∃ t, exec (.bar4Access fn (8 * n) 64 (some v)) s = .next t ∧ t.sigVal n = max (s.sigVal n) v ∧ (∀ m, m ≠ n → t.sigVal m = s.sigVal m)
        ∧ { t with sig := s.sig } = s))
    ∧ (s.ownsSig fn n = false → (∃ t, exec (.bar4Access fn (8 * n) 64 none) s = .next t ∧ t.rdata = [0] ∧ denied t)
      ∧ (∃ t, exec (.bar4Access fn (8 * n) 64 (some v)) s = .next t ∧ denied t))
    ∧ (∀ off width, width < 64 → exec (.bar4Access fn off width none) s = .next { s with rdata := [0] }
      ∧ exec (.bar4Access fn off width (some v)) s = .next s))

/-! ### The host link and attestation (12_host_interface.md) -/

/-- R402, R433: the host link trains and, below x16 at 64 GT/s or where it was up before, records it; the Keeper's SPDM responder answers the connection requests in order and every other request with its response, an
ERROR outside a connection, and defers a signature where it may.
It states the completion of: pcieLinkTrain, getVersion, getCapabilities, negotiateAlgorithms, getDigests, getCertificate, challenge, getMeasurements, respondIfReady,
spdmUnsupported.
The model's own readings in it: log entry 75. -/
def Obligations.HostLink : Prop :=
  (∀ (s : State) (w g : Nat), s.domOn 23 = true →
    (∃ t, exec (.pcieLinkTrain false g w) s = .next t ∧ t.host.pcieUp = false ∧ { t with host := s.host } = s)
    ∧ (s.host.pcieUp = false → ∃ t, exec (.pcieLinkTrain true 64 16) s = .next t ∧ t.host.pcieUp = true ∧ t.host.pcieWidth = 16 ∧ t.host.pcieGts = 64
      ∧ { t with host := s.host } = s)
    ∧ (w ∈ [16, 8, 4] → g ∈ [64, 32, 16] → ¬(w = 16 ∧ g = 64) ∨ s.host.pcieUp = true → ∃ t, exec (.pcieLinkTrain true g w) s = .next t ∧ t.host.pcieUp = true
      ∧ t.host.pcieWidth = w ∧ t.host.pcieGts = g ∧ t.recorded (pHif 0) Er.HIF_PCIE_LINK ∧ s.apart t))
  ∧ (∀ s : State, s.spdmOn = true →
    let gives (c : Instr) (code : Nat) (l : List Nat) : Prop :=
      ∃ t, exec c s = .next t ∧ t.out = s.out ++ [.doe code l] ∧ { t with host := s.host, out := s.out, free := s.free } = s
    (∃ t, exec .getVersion s = .next t ∧ t.out = s.out ++ [.doe 0x04 [1, 0x1300]] ∧ t.host.spdm.versionDone = true ∧ t.host.spdm.capsDone = false
      ∧ t.host.spdm.algsDone = false ∧ { t with host := s.host, out := s.out } = s)
    ∧ (s.host.spdm.versionDone = true → gives .getCapabilities 0x61 [17, 0x16])
    ∧ (s.host.spdm.versionDone = false → gives .getCapabilities 0x7F [4, 0])
    ∧ (∀ a h, (s.host.spdm.capsDone = true → bit a 7 = true → bit h 1 = true → gives (.negotiateAlgorithms a h) 0x63 [0x80, 0x02, 0x04])
      ∧ (s.host.spdm.capsDone = true → (bit a 7 && bit h 1) = false → gives (.negotiateAlgorithms a h) 0x7F [1, 0])
      ∧ (s.host.spdm.capsDone = false → gives (.negotiateAlgorithms a h) 0x7F [4, 0]))
    ∧ (∀ slot off len nonce index sign later, s.host.spdm.algsDone = false →
      ∀ c ∈ [Instr.getDigests, .getCertificate slot off len, .challenge slot nonce later, .getMeasurements sign index nonce later, .respondIfReady],
        gives c 0x7F [4, 0])
    ∧ (∀ code, gives (.spdmUnsupported code) 0x7F [7, code])
    ∧ (s.host.spdm.algsDone = true →
      (∀ c, s.chainBytes = some c → gives .getDigests 0x01 ([1] ++ sha384 c)
        ∧ (∀ off len, off < c.length → gives (.getCertificate 0 off len) 0x02
          ([0, ((c.drop off).take len).length, c.length - off - ((c.drop off).take len).length] ++ (c.drop off).take len))
        ∧ (∀ nonce, nonce < 2 ^ 256 →
          let answer : List Nat := [0, 1] ++ sha384 c ++ leBytes 32 nonce ++ leBytes 96 (Config.free s.free)
          gives (.challenge 0 nonce false) 0x03 answer
          ∧ ∃ u t, exec (.challenge 0 nonce true) s = .next u ∧ u.out = s.out ++ [.doe 0x7F [0x42, 0x83]]
            ∧ exec .respondIfReady u = .next t ∧ t.out = u.out ++ [.doe 0x03 answer]))
      ∧ (∀ nonce, gives (.getMeasurements false 0 nonce false) 0x60 ([5] ++ leBytes 32 nonce)
        ∧ (∀ i, 1 ≤ i → i ≤ 5 → gives (.getMeasurements false i nonce false) 0x60 (s.measureBlock i ++ leBytes 32 nonce))
        ∧ (∀ i, 5 < i → i ≠ 255 → gives (.getMeasurements false i nonce false) 0x7F [1, 0]))
      ∧ (s.host.spdm.deferred = 0 → gives .respondIfReady 0x7F [4, 0])))

/-! ### Rails, clocks and trims (13_power_clock_thermal.md) -/

/-- R441, R442, R463, R464: a readback within 5 mV confirms a written voltage, a lost one is tried again, and the fourth fails the rail, whose setting in force is then written again; the current of
rail 0 against the domains'; a cluster's slack; a trim takes effect with the operating points that it leaves.
R459–R462: a frequency change is scheduled, cancelled before its first voltage step, refused for its first reason; its voltage is raised, its levels are held, its edge switches the clock, its voltage
lowered; a PLL that loses lock; CLK_HST.
It states the completion of: avsReadback, avsFailRetry, avsCurrentRead, avsTempRead, avsAlert, freqSchedule, freqCancel, freqVoltageRaise, freqLevelHold, freqSwitch,
freqVoltageLower, pllUnlock, hstFreqWrite, hstFreqDone, marginSample, trimApply.
The model's own readings in it: log entry 76. -/
def Obligations.PowerAndClocks : Prop :=
  (
    (∀ (s : State) (r v τ n : Nat), (s.rail r).pend = some (v, τ, n) →
      (∀ u : AvsReply, u.volt ≤ v + 100 → v ≤ u.volt + 100 → s.tbc ≤ (s.rail r).deadline v τ → ∃ t, exec (.avsReadback r (some u)) s = .next t
        ∧ t.rail r = { s.rail r with set := v, pend := none, failed := false } ∧ t.pwr.avsStatus = u.status
        ∧ ((s.rail r).why = 0 → s.pwr.chg = 2 → t.pwr.chg = 3) ∧ { t with pwr := s.pwr } = s)
      ∧ (∀ u : AvsReply, u.volt + 100 < v ∨ v + 100 < u.volt → s.tbc ≤ (s.rail r).deadline v τ → ∃ t, exec (.avsReadback r (some u)) s = .next t
        ∧ t.rail r = { s.rail r with pend := some (v, τ, 0) } ∧ t.pwr.avsStatus = u.status ∧ { t with pwr := s.pwr } = s)
      ∧ ((s.rail r).deadline v τ < s.tbc → ∀ w, ∃ t, exec (.avsReadback r w) s = .next t ∧ (t.rail r).failed = true ∧ (t.rail r).pend = none
        ∧ t.recorded pPwr Er.PWR_AVS_FAIL ∧ s.apart t)
      ∧ (n < 3 → s.tbc ≤ (s.rail r).deadline v τ → ∃ t, exec (.avsReadback r none) s = .next t ∧ t.rail r = { s.rail r with pend := some (v, τ, n + 1) }
        ∧ t.recorded pPwr Er.PWR_AVS_RETRY ∧ s.apart t)
      ∧ (3 ≤ n → ∃ t, exec (.avsReadback r none) s = .next t ∧ (t.rail r).failed = true ∧ (t.rail r).pend = none
        ∧ t.recorded pPwr Er.PWR_AVS_FAIL ∧ s.apart t))
    ∧ (∀ (s : State) (r : Nat), (s.rail r).failed = true → (s.rail r).pend = none → s.keeperUp = true →
      ∃ t, exec (.avsFailRetry r) s = .next t ∧ t.rail r = { s.rail r with pend := some ((s.rail r).set, s.tbc, 0), why := 4 }
        ∧ t.out = s.out ++ [.avs 0 r (s.rail r).set, .avs 0xE r 0] ∧ { t with pwr := s.pwr, out := s.out } = s)
    ∧ (∀ (s : State) (x a b c : Nat), s.keeperUp = true →
      let bad : Prop := 3 * s.cgCurrent < 100 * (max x s.cgCurrent - min x s.cgCurrent)
      (¬bad → exec (.avsCurrentRead x) s = .next { s with pwr := { s.pwr with mismatch := 0 } })
      ∧ (bad → s.pwr.mismatch < 9 → exec (.avsCurrentRead x) s = .next { s with pwr := { s.pwr with mismatch := s.pwr.mismatch + 1 } })
      ∧ (bad → 9 ≤ s.pwr.mismatch → ∃ t, exec (.avsCurrentRead x) s = .next t ∧ t.recorded pPwr Er.PWR_TELEM_MISMATCH ∧ t.pwr.mismatch = 0 ∧ s.apart t)
      ∧ exec (.avsTempRead a b c) s = .next { s with pwr := { s.pwr with regTemp := [a, b, c] } }
      ∧ exec (.avsAlert x) s = .next { s with pwr := { s.pwr with avsStatus := x } })
    ∧ (∀ (s : State) (n v : Nat), n < 64 →
      let below : Prop := v < s.rg R.PWR_MARGIN_CFG_FLOOR pPwr
      let run := NMap.get 0 s.pwr.slackRun n + 1
      ∃ t, exec (.marginSample n v) s = .next t ∧ s.apart t ∧ NMap.get (0, 255) t.pwr.slack n = (v, min (NMap.get (0, 255) s.pwr.slack n).2 v)
        ∧ (¬below → NMap.get 0 t.pwr.slackRun n = 0) ∧ (below → run < 10 → NMap.get 0 t.pwr.slackRun n = run)
        ∧ (below → 10 ≤ run → s.keeperUp = true → s.freqPend = false → s.rg (R.PWR_TRIM_TRIM (cgOfCluster n)) pPwr + 4 ≤ 40 →
          (∀ e ∈ s.pwr.trimLast, e.1 = cgOfCluster n → e.2 + 3600000000000 ≤ s.tbc) → NMap.get false t.pwr.trimLogged (cgOfCluster n) = true))
    ∧ (∀ (s : State) (d : Nat), d < 16 → NMap.get false s.pwr.trimLogged d = true → s.keeperUp = true →
      ∃ t, exec (.trimApply d) s = .next t ∧ t.rg (R.PWR_TRIM_TRIM d) pPwr = (s.rg (R.PWR_TRIM_TRIM d) pPwr + 4) % 2 ^ 8
        ∧ t.rg R.CLK_OPP_LIMIT_OPP pClk = t.oppLimit ∧ t.recorded pPwr Er.PWR_TRIM ∧ s.apart t))
  ∧ (
    (∀ (s : State) (req x : Nat), s.mayWrite req pClk = true → x < 2 ^ 64 → 0 < x → s.rg R.CLK_FREQ_REQ_OPP pClk < 8 →
      let k := s.rg R.CLK_FREQ_REQ_OPP pClk
      (s.flag R.CLK_CLK_CTRL_AUTO pClk = false → s.freqCheck k x = St.OK → ∃ t, exec (.freqSchedule req x) s = .next t ∧ t.freqPend = true ∧ t.freqTo = k
        ∧ t.rg R.CLK_FREQ_TBC_TBC pClk = x ∧ t.rg R.CLK_FREQ_RESULT_DONE pClk = 0 ∧ t.pwr.chg = 1 ∧ { t with regs := s.regs, pwr := s.pwr } = s)
      ∧ (s.freqPend = false → s.flag R.CLK_CLK_CTRL_AUTO pClk = true ∨ s.freqCheck k x ≠ St.OK → ∃ t, exec (.freqSchedule req x) s = .next t ∧ t.freqPend = false
        ∧ t.rg R.CLK_FREQ_RESULT_DONE pClk = 1
        ∧ t.rg R.CLK_FREQ_RESULT_STATUS pClk = (if s.flag R.CLK_CLK_CTRL_AUTO pClk then St.DENIED else s.freqCheck k x) ∧ { t with regs := s.regs } = s)
      ∧ (s.flag R.CLK_CLK_CTRL_AUTO pClk = false → s.freqPend = true →
        (s.pwr.chg = 1 → ∃ t, exec (.freqCancel req) s = .next t ∧ t.freqPend = false ∧ t.rg R.CLK_FREQ_TBC_TBC pClk = 0 ∧ t.rg R.CLK_FREQ_RESULT_DONE pClk = 1
          ∧ t.rg R.CLK_FREQ_RESULT_STATUS pClk = St.ABORTED ∧ t.pwr.chg = 0 ∧ { t with regs := s.regs, pwr := s.pwr } = s)
        ∧ (s.pwr.chg ≠ 1 → exec (.freqCancel req) s = .next s)))
    ∧ (∀ s : State, s.freqPend = true → s.freqTo < 8 →
      (s.pwr.chg = 1 → s.opp < s.freqTo → s.keeperUp = true → (s.rail 0).failed = false → 7600 ≤ s.coreVolt s.freqTo → s.coreVolt s.freqTo ≤ 13000 →
        ∃ t, exec .freqVoltageRaise s = .next t ∧ t.pwr.chg = 2 ∧ t.rail 0 = { s.rail 0 with pend := some (s.coreVolt s.freqTo, s.tbc, 0), why := 0 }
          ∧ t.out = s.out ++ [.avs 0 0 (s.coreVolt s.freqTo), .avs 0xE 0 0] ∧ { t with pwr := s.pwr, out := s.out } = s)
      ∧ (s.opp < s.freqTo →
        (s.pwr.chg = 3 → exec .freqLevelHold s = .next { s with pwr := { s.pwr with
            hold := some (s.pwr.lvl.map (fun e => (e.1, e.2 * oppFreq s.opp / oppFreq s.freqTo))) } })
        ∧ (s.pwr.chg ≠ 3 → ∀ c ∈ [Instr.freqLevelHold, .freqSwitch, .pllUnlock false], ∃ t, exec c s = .next t ∧ t.freqPend = false ∧ t.opp = s.opp
          ∧ t.rg R.CLK_FREQ_RESULT_DONE pClk = 1 ∧ t.rg R.CLK_FREQ_RESULT_STATUS pClk = St.FCHG_ABORT ∧ t.recorded pClk Er.CLK_FCHG_ABORT ∧ s.apart t))
      ∧ (s.freqTo ≤ s.opp ∨ s.pwr.chg = 3 → ∃ t, exec .freqSwitch s = .next t ∧ t.opp = s.freqTo ∧ t.rg R.CLK_FREQ_STATUS_FREQ pClk = oppFreq s.freqTo
        ∧ t.freqPend = false ∧ t.rg R.CLK_LAST_CHANGE_TBC_TBC pClk = s.rg R.CLK_FREQ_TBC_TBC pClk % 2 ^ 64 ∧ t.rg R.CLK_FREQ_RESULT_DONE pClk = 1
        ∧ t.rg R.CLK_FREQ_RESULT_STATUS pClk = St.OK ∧ (s.freqTo < s.opp → t.pwr.lower = true) ∧ { t with regs := s.regs, pwr := s.pwr } = s)
      ∧ (∃ t, exec (.pllUnlock true) s = .next t ∧ t.opp = s.freqTo ∧ t.freqPend = false ∧ t.recorded pClk Er.CLK_PLL_UNLOCK ∧ s.apart t))
    ∧ (∀ s : State, s.freqPend = false → (∃ t, exec (.pllUnlock true) s = .next t ∧ t.opp = 0 ∧ t.rg R.CLK_FREQ_STATUS_FREQ pClk = 200 ∧ t.pwr.lower = true
        ∧ t.recorded pClk Er.CLK_PLL_UNLOCK ∧ s.apart t)
      ∧ ∀ c ∈ [Instr.freqVoltageRaise, .freqLevelHold, .freqSwitch, .pllUnlock false], exec c s = .next s)
    ∧ (∀ s : State, s.pwr.lower = true → s.keeperUp = true → ∃ t, exec .freqVoltageLower s = .next t ∧ t.pwr.lower = false ∧ { t with pwr := s.pwr, out := s.out } = s
      ∧ ((s.rail 0).failed = false → 7600 ≤ s.coreVolt s.opp → s.coreVolt s.opp ≤ 13000 → (t.rail 0).pend = some (s.coreVolt s.opp, s.tbc, 0)))
    ∧ (∀ (s : State) (req f : Nat), s.mayWrite req pClk = true → f < 4096 →
      (s.flag R.CLK_HST_FREQ_BUSY pClk = false → 400 ≤ f → f ≤ 2200 → min f s.hstTop ≤ s.rg R.CLK_HST_FREQ_MHZ pClk ∨ s.railReady 2 = true → ∃ t, exec (.hstFreqWrite req f) s = .next t ∧ t.rg R.CLK_HST_FREQ_MHZ pClk = min f s.hstTop
        ∧ t.rg R.CLK_HST_FREQ_BUSY pClk = 1 ∧ t.pwr.hstOld = some (s.rg R.CLK_HST_FREQ_MHZ pClk) ∧ { t with regs := s.regs, pwr := s.pwr, out := s.out } = s)
      ∧ (s.flag R.CLK_HST_FREQ_BUSY pClk = true ∨ f < 400 ∨ 2200 < f ∨ (s.rg R.CLK_HST_FREQ_MHZ pClk < min f s.hstTop ∧ s.railReady 2 = false) → exec (.hstFreqWrite req f) s = .next s))
    ∧ (∀ (s : State) (old : Nat), s.pwr.hstOld = some old →
      let f := s.rg R.CLK_HST_FREQ_MHZ pClk
      let may : Prop := f ≤ old ∨ ((s.rail 2).pend = none ∧ hstVolt f ≤ (s.rail 2).set)
      (may → s.hstTop < f → ∃ t, exec .hstFreqDone s = .next t ∧ t.pwr.hstOld = some f ∧ t.rg R.CLK_HST_FREQ_BUSY pClk = 1
        ∧ t.rg R.CLK_HST_FREQ_MHZ pClk = s.hstTop ∧ { t with regs := s.regs, pwr := s.pwr, out := s.out } = s)
      ∧ (may → f ≤ s.hstTop → ∃ t, exec .hstFreqDone s = .next t ∧ t.pwr.hstOld = none
        ∧ t.rg R.CLK_HST_FREQ_BUSY pClk = 0 ∧ t.rg R.CLK_HST_FREQ_MHZ pClk = f ∧ { t with regs := s.regs, pwr := s.pwr, out := s.out } = s)
      ∧ (old < f → (s.rail 2).pend ≠ none ∨ (s.rail 2).set < hstVolt f → exec .hstFreqDone s = .next s)))

/-! ### Domains, segments, the interconnect (13_power_clock_thermal.md) -/

/-- R39, R443–R449: a request to switch a domain is accepted, with what it needs, or refused with its status; the switch leaves the domains on or off, one whose segments fail meanwhile being fenced; a segment that fails is opened, and its domain absorbs
it, is capped, or leaves service once its cores are at level 0; an interconnect is evaluated, and derated.
It states the completion of: domainOn, domainOff, domainSwitchDone, segCheck, icEval.
The model's own readings in it: log entries 80, 82. -/
def Obligations.Domains : Prop :=
  (∀ (s : State) (req d : Nat), s.mayWrite req pPwr = true → d < 24 →
    (s.flag R.PWR_DOM_RESULT_DONE pPwr = false → ∀ c ∈ [Instr.domainOn req d, .domainOff req d], exec c s = .next s)
    ∧ (s.flag R.PWR_DOM_RESULT_DONE pPwr = true → s.domOn d = false →
      (s.domFenced d = false → ∃ t, exec (.domainOn req d) s = .next t ∧ t.rg R.PWR_DOM_RESULT_DONE pPwr = 0 ∧ d ∈ t.pwr.switchOn ∧ t.pwr.switchOff = []
        ∧ (∀ e ∈ domDeps d, s.domOn e = false → e ∈ t.pwr.switchOn) ∧ { t with regs := s.regs, pwr := s.pwr } = s)
      ∧ (s.domFenced d = true → ∃ t, exec (.domainOn req d) s = .next t ∧ t.rg R.PWR_DOM_RESULT_STATUS pPwr = St.DOMAIN_FENCED
        ∧ t.rg R.PWR_DOM_RESULT_DONE pPwr = 1 ∧ { t with regs := s.regs } = s))
    ∧ (s.flag R.PWR_DOM_RESULT_DONE pPwr = true → s.domOn d = true →
      (s.domOffStatus d = St.OK → ∃ t, exec (.domainOff req d) s = .next t ∧ t.rg R.PWR_DOM_RESULT_DONE pPwr = 0 ∧ t.pwr.switchOff = [d]
        ∧ t.pwr.switchOn = [] ∧ { t with regs := s.regs, pwr := s.pwr } = s)
      ∧ (s.domOffStatus d ≠ St.OK → ∃ t, exec (.domainOff req d) s = .next t ∧ t.rg R.PWR_DOM_RESULT_STATUS pPwr = s.domOffStatus d
        ∧ t.rg R.PWR_DOM_RESULT_DONE pPwr = 1 ∧ { t with regs := s.regs } = s)))
  ∧ (∀ s : State, s.flag R.PWR_DOM_RESULT_DONE pPwr = false → (∀ d ∈ s.pwr.switchOn ++ s.pwr.switchOff, d < 24) →
    let fails (d : Nat) : Prop := d < 16 ∧ (NMap.get false s.pwr.fencing d = true ∨ s.domFenced d = true)
    (∀ d, s.pwr.switchOn = [d] → fails d → ∃ t, exec .domainSwitchDone s = .next t ∧ t.rg R.PWR_DOM_RESULT_DONE pPwr = 1
      ∧ t.rg R.PWR_DOM_RESULT_STATUS pPwr = St.DOMAIN_FENCED ∧ t.domOn d = false ∧ t.recorded pPwr Er.PWR_SEG_FENCE)
    ∧ ((∀ d ∈ s.pwr.switchOn, ¬fails d) → ∃ t, exec .domainSwitchDone s = .next t ∧ t.rg R.PWR_DOM_RESULT_DONE pPwr = 1 ∧ t.rg R.PWR_DOM_RESULT_STATUS pPwr = St.OK
      ∧ t.pwr.switchOn = [] ∧ t.pwr.switchOff = [] ∧ (∀ d ∈ s.pwr.switchOn, t.domOn d = true)
      ∧ (∀ d ∈ s.pwr.switchOff, d ∉ s.pwr.switchOn → t.domOn d = false) ∧ (∀ d < 24, d ∉ s.pwr.switchOn ++ s.pwr.switchOff → t.domOn d = s.domOn d)
      ∧ (21 ∈ s.pwr.switchOn → t.rg R.RTE_INC_INC pRte = (s.rg R.RTE_INC_INC pRte + 1) % 2 ^ 8)))
  ∧ (∀ (s : State) (d k : Nat), d < 16 → k < 32 → s.pwr.fencing = [] → s.segFailed d < 2 ^ 32 → bit (s.segFailed d) k = false →
    let o := segOutcome (setBit (s.segFailed d) k)
    ∃ t, exec (.segCheck [(d, k)]) s = .next t ∧ s.apart t ∧ t.segFailed d = setBit (s.segFailed d) k ∧ t.rg (R.PWR_SEG_STATE_STATE d) pPwr = o
      ∧ (o = 1 → t.recorded pPwr Er.PWR_SEG_FAIL) ∧ (o = 2 → t.recorded pPwr Er.PWR_SEG_CAP)
      ∧ (o = 3 → segOutcome (s.segFailed d) ≠ 3 → NMap.get false t.pwr.fencing d = true))
  ∧ (∀ (s : State) (d : Nat), d < 16 → s.pwr.fencing = [(d, true)] → (∀ n ∈ clustersIn d, ∀ i < 16, NMap.get 0 s.pwr.lvl (16 * n + i) = 0) →
    ∃ t, exec (.segCheck []) s = .next t ∧ t.domOn d = false ∧ t.recorded pPwr Er.PWR_SEG_FENCE
      ∧ ∀ n ∈ clustersIn d, bit (t.rg R.TOP_CLU_PRESENT_PRESENT pTop) n = false ∧ t.fencedP (pChc n) = true ∧ ∀ i < 4, t.quadPresent (4 * n + i) = false)
  ∧ (∀ (s : State) (d nv ma : Nat) (temp : Int), d ≤ 24 →
    let r : Rat := (nv : Rat) * 1000 / (ma : Rat) / (1 + 39 / 10000 * ((temp : Rat) - 25))
    let ratio : Rat := r / (s.rg R.PWR_IC_DATA_R_BASE (0x10000 + d) : Rat)
    ∃ t, exec (.icEval d nv ma temp) s = .next t ∧ t.rg R.PWR_IC_DATA_RATIO (0x10000 + d) = min 65535 (ratio * 1024).floor.toNat ∧ s.apart t
      ∧ (140 < 100 * ratio → (NMap.get IcRun.init s.pwr.ic d).worse = 15 → NMap.get 0 s.log.image.derate d = 0 →
        t.recorded pPwr Er.PWR_IC_DERATE ∧ NMap.get 0 t.log.image.derate d ≠ 0 ∧ (d < 16 → t.icLimit d = 44))
      ∧ (100 * ratio ≤ 140 → (NMap.get IcRun.init s.pwr.ic d).low = 15 → NMap.get 0 s.log.image.derate d ≠ 0 → NMap.get 0 t.log.image.derate d = 0))

/-! ### Power and heat (13_power_clock_thermal.md) -/

/-- R450–R458: the telemetry record of a millisecond and its sums; the envelope's sources and cap; the governor's microsecond and millisecond.
It states the completion of: telemRecord, energyLog, envSetWrite, envHeldApply, capWrite, governorUs, governorMs.
The model's own readings in it: log entries 77, 84. -/
def Obligations.EnergyAndEnvelope : Prop :=
  (∀ (s : State) (volts amps mw : List Nat) (tj : Nat),
    let total := ((List.range 25).map (nth mw)).foldl (· + ·) 0
    let seq := (s.rg R.PWR_TELEM_SEQ_SEQ pPwr + 1) % 2 ^ 32
    ∃ t, exec (.telemRecord volts amps mw tj) s = .next t ∧ t.rg R.PWR_TELEM_SEQ_SEQ pPwr = seq ∧ t.rg R.PWR_P_MODULE_MW pPwr = total % 2 ^ 32
      ∧ t.rg R.PWR_THERM_STATUS_TJ pPwr = tj % 2 ^ 8 ∧ t.rg R.PWR_ENERGY_UJ pPwr = (s.rg R.PWR_ENERGY_UJ pPwr + total) % 2 ^ 64
      ∧ t.pwr.telem = s.telemBytes seq tj total volts amps ∧ t.pwr.lifeUj = s.pwr.lifeUj + total
      ∧ (s.flag R.PWR_TELEM_CTRL_FLOW_EN pPwr = false → s.apart t ∧ (s.flag R.PWR_TELEM_CTRL_EN pPwr = true → Map.sorted natLt s.mem = true →
        ∀ i < 128, t.rb (aHost (s.rg R.PWR_TELEM_BASE_ADDR pPwr * 128 + 128 * (seq % 2 ^ s.rg R.PWR_TELEM_CTRL_LOG2SLOTS pPwr)) + i)
          = BitVec.ofNat 8 ((s.telemBytes seq tj total volts amps).getD i 0))))
  ∧ (∀ s : State, ∃ t, exec .energyLog s = .next t ∧ t.pwr = { s.pwr with hourUj := 0 } ∧ { t with pwr := s.pwr, log := s.log, regs := s.regs } = s
    ∧ ((s.log.eventQ.map LogRec.size).foldl (· + ·) 0 + 64 ≤ 65536 → t.log.eventQ = s.log.eventQ
      ++ [⟨0x0200, 0, 6, s.tbc, leBytes 8 s.pwr.hourUj ++ leBytes 8 (s.pwr.lifeUj / 1000000)⟩]))
  ∧ (∀ (s : State) (req v : Nat), s.mayWrite req pPwr = true →
    (1 ≤ bits v 31 16 → bits v 31 16 ≤ 1000 → ∃ t, exec (.envSetWrite req v) s = .next t ∧ { t with regs := s.regs, pwr := s.pwr } = s
      ∧ t.rg R.PWR_ENV_SET_SLOPE pPwr = bits v 31 16 ∧ t.rg R.PWR_ENV_SET_SETPOINT pPwr = bits v 15 0
      ∧ ((∀ τ, s.pwr.host.last = some τ → τ + 10000000 ≤ s.tbc) → t.pwr.host = ⟨max 150 (bits v 15 0), bits v 31 16, none, some s.tbc⟩)
      ∧ (∀ τ, s.pwr.host.last = some τ → s.tbc < τ + 10000000 → t.pwr.host = { s.pwr.host with held := some (max 150 (bits v 15 0), bits v 31 16) }))
    ∧ (bits v 31 16 < 1 ∨ 1000 < bits v 31 16 → exec (.envSetWrite req v) s = .next s)
    ∧ (150 ≤ v % 65536 → v % 65536 ≤ 750 → exec (.capWrite req v) s = .next (s.wr R.PWR_CAP_CAP pPwr (v % 65536)))
    ∧ (v % 65536 < 150 ∨ 750 < v % 65536 → exec (.capWrite req v) s = .next s))
  ∧ (∀ (s : State) (a b : Nat),
    (s.pwr.host.held = some (a, b) → exec (.envHeldApply false) s = .next { s with pwr := { s.pwr with host := ⟨a, b, none, some s.tbc⟩ } })
    ∧ (s.pwr.tray.held = some (a, b) → exec (.envHeldApply true) s = .next { s with pwr := { s.pwr with tray := ⟨a, b, none, some s.tbc⟩ } }))
  ∧ (∀ s : State,
    let goal := 1000 * min (s.rg R.PWR_CAP_CAP pPwr) s.envSelect.1
    let lenv := s.envStep.1
    ∃ t, exec .governorUs s = .next t ∧ { t with regs := s.regs, pwr := s.pwr, free := s.free } = s
      ∧ t.pwr.penv = (if s.pwr.penv ≤ goal then min goal (s.pwr.penv + s.envSelect.2) else max goal (s.pwr.penv - s.envSelect.2))
      ∧ (∀ d < 16, t.rg (R.PWR_LIMIT_CEIL d) pPwr = s.ceil lenv d % 2 ^ 8)
      ∧ ∀ c < 1024, s.coreServes c = true → NMap.get 0 t.pwr.lvl c = s.lvlNext c (s.ceil lenv (cgOfCluster (c / 16))))
  ∧ (∀ (s : State) (tjs : List Nat), s.keeperUp = true →
    let env : Nat := if s.pwr.penvUs = 0 then s.pwr.penv else s.pwr.penvSum / s.pwr.penvUs
    let run := if 102 * env < 100 * (s.pwr.pCg + s.pwr.pNon) then s.pwr.exceed + 1 else 0
    ∃ t, exec (.governorMs tjs) s = .next t ∧ s.apart t ∧ t.pwr.edyn = s.edynNext tjs env run ∧ t.pwr.penvUs = 0 ∧ t.pwr.lvlUs = []
      ∧ (10 ≤ run → t.recorded pPwr Er.PWR_ENV_EXCEED) ∧ (1000 ≤ s.pwr.lenvZero → t.recorded pPwr Er.PWR_ENV_FLOOR))
  ∧ (∀ (s : State) (tjs : List Nat), s.keeperUp = false → exec (.governorMs tjs) s = .next s)

/-- R465–R469: the thermal limit falls and recovers by steps; a stack's heat; a trip and an airflow failure halt the module; QUENCH; the restart after a halt.
It states the completion of: thermThrottleStep, thermRecoverStep, stackTemp, thermalTrip, quenchAssert, quenchRelease, airflowHalt, thermRestart. -/
def Obligations.Heat : Prop :=
  (∀ (s : State) (tj : Nat),
    let l := s.rg R.PWR_THERM_CTRL_T_THROTTLE pPwr
    (l ≤ tj → ∃ t, exec (.thermThrottleStep tj) s = .next t ∧ s.apart t ∧ t.pwr.thermLimit = max 4 (s.pwr.thermLimit - 1)
      ∧ t.rg R.PWR_THERM_STATUS_THROTTLING pPwr = (if max 4 (s.pwr.thermLimit - 1) < 64 then 1 else 0) ∧ t.rg R.PWR_THERM_STATUS_TJ pPwr = tj % 2 ^ 8
      ∧ (s.pwr.thermLimit = 64 → t.recorded pPwr Er.PWR_THERM_THROTTLE))
    ∧ (tj < l → exec (.thermThrottleStep tj) s = .next (s.wr R.PWR_THERM_STATUS_TJ pPwr tj))
    ∧ (tj + 3 ≤ l → ∃ t, exec (.thermRecoverStep tj) s = .next t ∧ t.pwr = { s.pwr with thermLimit := min 64 (s.pwr.thermLimit + 1) }
      ∧ t.rg R.PWR_THERM_STATUS_TJ pPwr = tj % 2 ^ 8 ∧ { t with regs := s.regs, pwr := s.pwr } = s)
    ∧ (l < tj + 3 → exec (.thermRecoverStep tj) s = .next (s.wr R.PWR_THERM_STATUS_TJ pPwr tj)))
  ∧ (∀ (s : State) (m x : Nat),
    (105 ≤ x → exec (.stackTemp m x) s = .next { s with pwr := { s.pwr with stackHeat := NMap.put m true s.pwr.stackHeat } })
    ∧ (x ≤ 100 → exec (.stackTemp m x) s = .next { s with pwr := { s.pwr with stackHeat := NMap.put m false s.pwr.stackHeat } })
    ∧ (100 < x → x < 105 → exec (.stackTemp m x) s = .next s))
  ∧ (∀ (s : State) (tj : Nat), s.halted = false →
    let stopped (t : State) : Prop := t.halted = true ∧ t.opp = 0 ∧ t.freqPend = false ∧ (∀ d < 16, t.rg (R.PWR_LIMIT_CEIL d) pPwr = 0) ∧ s.apart t
    (∃ t, exec (.thermalTrip tj) s = .next t ∧ stopped t ∧ t.rg R.PWR_THERM_STATUS_TRIP pPwr = 1 ∧ t.recorded pPwr Er.PWR_THERMTRIP
      ∧ t.pwr.tripped = true ∧ (s.pwr.tripped = false → OutMsg.pin 1 0 ∈ t.out))
    ∧ (s.pwr.airflow = false → ∃ t, exec .airflowHalt s = .next t ∧ stopped t ∧ t.rg R.PWR_THERM_STATUS_AIRFLOW pPwr = 1 ∧ t.pwr.airflow = true
      ∧ t.recorded pPwr Er.PWR_AIRFLOW_HALT))
  ∧ (∀ s : State,
    (s.pwr.airflow = true → exec .airflowHalt s = .next s) ∧ (s.pwr.quench = true → exec .quenchAssert s = .next s)
    ∧ (s.pwr.quench = false → ∃ t, exec .quenchAssert s = .next t ∧ t.pwr.quench = true ∧ t.rg R.PWR_THERM_STATUS_QUENCH pPwr = 1
      ∧ t.recorded pPwr Er.PWR_QUENCH ∧ s.apart t)
    ∧ exec .quenchRelease s = .next ({ s with pwr := { s.pwr with quench := false } }.wr R.PWR_THERM_STATUS_QUENCH pPwr 0))
  ∧ (∀ (s : State) (req : Nat), s.mayWrite req pPwr = true →
    let denied : Prop := s.pwr.airflow = true ∨ s.rg R.PWR_THERM_CTRL_T_WARN pPwr ≤ s.rg R.PWR_THERM_STATUS_TJ pPwr ∨ s.pwr.tripped = true
    (denied → exec (.thermRestart req) s = .next (s.wr R.PWR_THERM_STATUS_RESTART_STATUS pPwr St.RESTART_DENIED))
    ∧ (¬denied → ∃ t, exec (.thermRestart req) s = .next t ∧ t.halted = false ∧ t.rg R.PWR_THERM_STATUS_RESTART_STATUS pPwr = St.OK ∧ s.apart t))

/-! ### The Keeper's log, keys and firmware (15_keepers_log.md, 16_firmware_sideband.md) -/

/-- R476, R507–R510, R514, R515, R518–R520, R528: the heartbeat; a record takes the next SEQ and is committed, a state record on both devices and an event record on the devices in turn; waiting state
records join their queue; a checkpoint starts; a sector is erased or makes a checkpoint due; an incident closes; a host read of the log.
It states the completion of: heartbeatTick, logRecordWrite, stateRecordRetry, ckptStart, sectorErase, incidentClose, logRead, logReadDone.
The model's own readings in it: log entries 92, 93, 94. -/
def Obligations.KeeperLog : Prop :=
  (∀ s : State, (s.keeperUp = true → ∃ t, exec .heartbeatTick s = .next t ∧ t.rg R.KPR_HEARTBEAT_COUNT pKpr = (s.rg R.KPR_HEARTBEAT_COUNT pKpr + 1) % 2 ^ 64
      ∧ s.apart t)
    ∧ (s.keeperUp = false → exec .heartbeatTick s = .next s))
  ∧ (∀ (s : State) (f : Nat), s.rg R.KPR_KSTATE_STATE pKpr = 1 → s.rg R.LOG_LOG_STATUS_STATE pLog ≠ 0 → s.log.ckpt = [] →
    (∀ d < 2, (s.fl d).failed = false ∧ 1 ≤ (s.fl d).erasedN) →
    (∀ r l, s.log.stateQ = r :: l → r.isState = true → ∃ t, exec (.logRecordWrite [] [] f) s = .next t ∧ t.log.stateQ = l
      ∧ t.log.nextSeq = s.log.nextSeq + 1 ∧ s.apart t ∧ ∀ d < 2, (t.fl d).committed.getLast? = some { r with seq := s.log.nextSeq })
    ∧ (∀ r l d, s.log.stateQ = [] → s.log.eventQ = r :: l → r.isState = false → s.log.nextDev = d → d < 2 →
      s.flag R.LOG_LOG_STATUS_THROTTLED pLog = false ∨ r.typ < 0x0210 ∨ 0x0211 < r.typ →
      ∃ t, exec (.logRecordWrite [] [] f) s = .next t ∧ t.log.nextSeq = s.log.nextSeq + 1 ∧ t.log.nextDev = 1 - d ∧ s.apart t
        ∧ (t.fl d).committed.getLast? = some { r with seq := s.log.nextSeq } ∧ (t.fl (1 - d)).used = (s.fl (1 - d)).used)
    ∧ (s.flag R.LOG_LOG_STATUS_THROTTLED pLog = true → s.log.stateQ = [] → s.log.eventQ ≠ [] → (∀ r ∈ s.log.eventQ, 0x0210 ≤ r.typ ∧ r.typ ≤ 0x0211) →
      ∃ t, exec (.logRecordWrite [] [] f) s = .next t ∧ t.log.fl0 = s.log.fl0 ∧ t.log.fl1 = s.log.fl1 ∧ t.log.nextSeq = s.log.nextSeq ∧ t.log.lost = []
        ∧ t.log.eventQ.map LogRec.typ = [0x0221] ∧ s.apart t))
  ∧ (∀ s : State, s.log.retryQ ≠ [] → s.keeperUp = true →
    let n := 256 - s.log.stateQ.length
    ∃ t, exec .stateRecordRetry s = .next t ∧ t.log.stateQ = s.log.stateQ ++ s.log.retryQ.take n ∧ t.log.retryQ = s.log.retryQ.drop n ∧ s.apart t
      ∧ (n < s.log.retryQ.length → t.recorded pLog Er.LOG_STATE_WAIT))
  ∧ (∀ s : State, s.log.ckptDue = true → s.log.ckpt = [] → s.rg R.KPR_KSTATE_STATE pKpr = 1 → s.logDead = false →
    ∃ t, exec .ckptStart s = .next t ∧ t.log.ckptDue = false ∧ t.log.ckptNumber = (s.log.ckptNumber + 1) % 2 ^ 32
      ∧ t.log.ckpt.head?.map LogRec.typ = some 0x0100 ∧ t.log.ckpt.getLast?.map LogRec.typ = some 0x0102 ∧ (∀ r ∈ t.log.ckpt, r.isState = true)
      ∧ { t with log := s.log, regs := s.regs } = s)
  ∧ (∀ (s : State) (d f : Nat) (k : Sector), d < 2 → (s.fl d).used.getLast? = some k → (s.fl d).failed = false → (s.fl d).erasedN < 16 →
    2 ≤ (s.fl d).used.length → s.rg R.KPR_KSTATE_STATE pKpr = 1 →
    (∀ p l, (s.fl d).unheaded = p :: l → NMap.get 0 (s.fl d).erases p + 1 < 1000 → NMap.get 0 (s.fl d).replaced p ≠ 0xFFFF →
      ∃ t, exec (.sectorErase d 0 f) s = .next t ∧ (t.fl d).unheaded = l ∧ (t.fl d).used = (s.fl d).used ∧ (t.fl d).erasedN = (s.fl d).erasedN + 1
        ∧ { t with log := s.log, regs := s.regs } = s)
    ∧ ((s.fl d).unheaded = [] → s.reclaimable k = false → exec (.sectorErase d 0 f) s = .next { s with log := { s.log with ckptDue := true } })
    ∧ ((s.fl d).unheaded = [] → s.reclaimable k = true → NMap.get 0 (s.fl d).erases k.index + 1 < 1000 → NMap.get 0 (s.fl d).replaced k.index ≠ 0xFFFF →
      ∃ t, exec (.sectorErase d 0 f) s = .next t ∧ (t.fl d).used = (s.fl d).used.dropLast ∧ (t.fl d).erasedN = (s.fl d).erasedN + 1
        ∧ NMap.get 0 (t.fl d).erases k.index = NMap.get 0 (s.fl d).erases k.index + 1 ∧ { t with log := s.log, regs := s.regs } = s))
  ∧ (∀ s : State, (s.log.incident.isOpen = true → ∃ t, exec .incidentClose s = .next t ∧ t.log.incident.isOpen = false
      ∧ t.rg R.LOG_LOG_STATUS_INC_OPEN pLog = 0 ∧ (t.log.summaries.getLast?.map (fun b => plField b 0 4)) = some (s.log.incident.number % 2 ^ 32)
      ∧ { t with log := s.log, regs := s.regs } = s)
    ∧ (s.log.incident.isOpen = false → exec .incidentClose s = .next s))
  ∧ (∀ s : State, s.mayWrite 0 pLog = true →
    (s.flag R.LOG_READ_RESULT_DONE pLog = false → exec .logRead s = .next s)
    ∧ (s.flag R.LOG_READ_RESULT_DONE pLog = true →
      (s.rg R.LOG_LOG_STATUS_STATE pLog = 0 → ∃ t, exec .logRead s = .next t ∧ t.rg R.LOG_READ_RESULT_STATUS pLog = St.LOG_NOT_READY ∧ { t with regs := s.regs } = s)
      ∧ (s.rg R.LOG_LOG_STATUS_STATE pLog ≠ 0 → ∃ t, exec .logRead s = .next t ∧ t.rg R.LOG_READ_RESULT_DONE pLog = 0
        ∧ t.log.reading = some (s.rg R.LOG_READ_BASE_ADDR pLog * 64, s.rg R.LOG_READ_LEN_LEN pLog, s.rg R.LOG_READ_START_SEQ pLog,
          s.rg R.LOG_READ_FILTER_TYPE_LO pLog, s.rg R.LOG_READ_FILTER_TYPE_HI pLog) ∧ { t with regs := s.regs, log := s.log } = s)))
  ∧ (∀ (s : State) (base len start lo hi : Nat), s.log.reading = some (base, len, start, lo, hi) →
    let got := (readFit len 0 (s.log.select start lo hi)).take 4096
    let bytes := got.flatMap (fun r => r.1.image r.2)
    (∃ t, exec (.logReadDone true) s = .next t ∧ t.rg R.LOG_READ_RESULT_DONE pLog = 1 ∧ t.rg R.LOG_READ_RESULT_STATUS pLog = St.HOST_ERROR
      ∧ t.rg R.LOG_READ_RESULT_COUNT pLog = 0 ∧ s.sameMem t)
    ∧ (∃ t, exec (.logReadDone false) s = .next t ∧ t.rg R.LOG_READ_RESULT_DONE pLog = 1 ∧ t.rg R.LOG_READ_RESULT_STATUS pLog = St.OK
      ∧ t.rg R.LOG_READ_RESULT_COUNT pLog = got.length ∧ t.log.reading = none ∧ s.apart t
      ∧ (Map.sorted natLt s.mem = true → ∀ i (h : i < bytes.length), t.rb (aHost base + i) = BitVec.ofNat 8 bytes[i])))

/-- R522, R524, R526: GENERATE stages new keys and returns their public parts; INSTALL is refused by its first failing check, or erases the inactive slot and goes on to commit it; a verified INSTALL
advances the OTP counters; an abort.
It states the completion of: generate, install, keyAbort, keyCmdDone.
The model's own readings in it: log entries 94, 95. -/
def Obligations.KeyRing : Prop :=
  (∀ s : State, s.mayWrite 0 pLog = true →
    let busy := s.flag R.LOG_KEY_STATUS_BUSY pLog
    (busy = true → exec .generate s = .next (s.wr R.LOG_KEY_STATUS_STATUS pLog St.BUSY))
    ∧ (busy = false → ∃ t, exec .generate s = .next t ∧ t.log = { s.log with keyOp := 1 } ∧ t.rg R.LOG_KEY_STATUS_BUSY pLog = 1
      ∧ { t with log := s.log, regs := s.regs } = s)
    ∧ (∃ t, exec .keyAbort s = .next t ∧ t.log.staged = none ∧ t.log.keyOp = 0 ∧ t.rg R.LOG_KEY_STATUS_BUSY pLog = 0
      ∧ t.rg R.LOG_KEY_STATUS_STATUS pLog = (if busy then St.ABORTED else St.OK) ∧ { t with log := s.log, regs := s.regs } = s)
    ∧ (∀ (leaf : Nat) (chain anchors : List Nat) (trust : Nat), busy = false →
      let root := chain.getLast?.getD leaf
      let buf := aHost (s.rg R.LOG_KEY_BUF_ADDR pLog * 64)
      let ends (hostErr : Bool) (st : Nat) : Prop := ∃ t, exec (.install leaf chain anchors trust hostErr) s = .next t ∧ t.rg R.LOG_KEY_STATUS_STATUS pLog = st
        ∧ t.rg R.LOG_KEY_STATUS_BUSY pLog = 0 ∧ t.log.keys = s.log.keys ∧ t.log.staged = s.log.staged ∧ s.apart t
      (s.log.staged = none → ends false St.KEY_NONE)
      ∧ (s.log.staged ≠ none → ends true St.HOST_ERROR ∧ (s.log.staged ≠ some [leaf] → ends false St.KEY_MISMATCH))
      ∧ (s.log.staged = some [leaf] →
        (anchors.contains root = false ∨ s.anchors.contains root = false → ends false St.KEY_CHAIN)
        ∧ (anchors.contains root = true → s.anchors.contains root = true →
          (trust < s.otp 2 → ends false St.ROLLBACK)
          ∧ (s.otp 2 ≤ trust → 64 < s.rg R.LOG_KEY_STATUS_GEN pLog + 1 ∨ 32 < trust → ends false St.KEY_EXHAUSTED)
          ∧ (s.otp 2 ≤ trust → trust ≤ 32 → s.rg R.LOG_KEY_STATUS_GEN pLog + 1 ≤ 64 → s.logDead = false →
            ∃ t, exec (.install leaf chain anchors trust false) s = .next t ∧ t.rg R.LOG_KEY_STATUS_BUSY pLog = 1 ∧ t.log.keyOp = 2
              ∧ (∀ d < 2, NMap.get none t.log.keys (2 * (1 - s.activeSlot) + d) = none)
              ∧ (∃ k, t.log.keyNew = some k ∧ k.gen = s.rg R.LOG_KEY_STATUS_GEN pLog + 1 ∧ k.trust = trust ∧ k.leaf = leaf ∧ k.chain = chain ∧ k.anchors = anchors
                ∧ k.certs = s.rbs (buf + 4) (min (ofBytes (s.rbs buf 4)) (s.rg R.LOG_KEY_BUF_LEN_LEN pLog - 4)))
              ∧ { t with log := s.log, regs := s.regs } = s)))))
  ∧ (∀ (s : State) (v : Bool), s.log.keyOp = 1 →
    (∃ t, exec (.keyCmdDone v true) s = .next t ∧ t.rg R.LOG_KEY_STATUS_STATUS pLog = St.HOST_ERROR ∧ t.rg R.LOG_KEY_STATUS_BUSY pLog = 0
      ∧ t.log.staged = s.log.staged ∧ s.sameMem t)
    ∧ (∃ t, exec (.keyCmdDone v false) s = .next t ∧ t.rg R.LOG_KEY_STATUS_STATUS pLog = St.OK ∧ t.rg R.LOG_KEY_STATUS_BUSY pLog = 0
      ∧ t.rg R.LOG_KEY_STATUS_STAGED pLog = 1 ∧ t.log.staged = some [Config.free s.free] ∧ s.apart t
      ∧ (Map.sorted natLt s.mem = true → ∀ i < min 2049 (s.rg R.LOG_KEY_BUF_LEN_LEN pLog),
        t.rb (aHost (s.rg R.LOG_KEY_BUF_ADDR pLog * 64) + i) = BitVec.ofNat 8 (pubKeyByte (Config.free s.free) i))))
  ∧ (∀ (s : State) (k : KeySlot) (h : Bool), s.log.keyOp = 2 → s.log.keyNew = some k →
    (∃ t, exec (.keyCmdDone false h) s = .next t ∧ t.rg R.LOG_KEY_STATUS_STATUS pLog = St.KEY_VERIFY ∧ t.rg R.LOG_KEY_STATUS_BUSY pLog = 0
      ∧ t.log.image.keyCommit = s.log.image.keyCommit ∧ t.log.otp = s.log.otp)
    ∧ (∃ t, exec (.keyCmdDone true h) s = .next t ∧ t.rg R.LOG_KEY_STATUS_BUSY pLog = 0 ∧ t.log.keyOp = 0
      ∧ ((t.rg R.LOG_KEY_STATUS_STATUS pLog = St.OK ∧ t.log.image.keyCommit.head? = some (1 - s.activeSlot, k.gen, k.digest)
          ∧ t.otp 1 = min 64 (max k.gen (s.otp 1)) ∧ t.otp 2 = min 32 (max k.trust (s.otp 2)))
        ∨ (t.rg R.LOG_KEY_STATUS_STATUS pLog = St.LOG_DEV_FAIL ∧ t.log.otp = s.log.otp))))

/-- R536, R538–R543, R545, R477: the checks of STAGE in their order; a load that ends; the slots' states as ACTIVATE, CONFIRM and a load that succeeds leave them; COMMIT_SVN; ABORT; the timer of a
confirmation; the end of Fog mode; and a Keeper start.
It states the completion of: stage, stageDone, activate, confirm, confirmTimeout, commitSvn, fwuAbort, exitFog, keeperStart.
The model's own readings in it: log entries 94, 98, 99. -/
def Obligations.Firmware : Prop :=
  (∀ (s : State) (req : Nat), s.fwGo req = true →
    let ends (t : State) (st : Nat) : Prop := t.rg R.FWU_FWU_STATUS_STATUS pFwu = st ∧ t.rg R.FWU_FWU_STATUS_BUSY pFwu = 0
    let head := s.rbs (aHost (s.rg R.FWU_FWU_BUF_ADDR pFwu * 64)) fwHead
    (∀ sigOk, s.slotsIn 3 ≠ [] ∨ s.fw.load.isSome = true ∨ s.fwTarget 0 = none →
      ∃ t, exec (.stage req false sigOk) s = .next t ∧ ends t St.FW_SLOT_BUSY ∧ { t with regs := s.regs } = s)
    ∧ (∀ k, s.slotsIn 3 = [] → s.fw.load = none → s.fwTarget 0 = some k →
      (∃ t, exec (.stage req true true) s = .next t ∧ ends t St.HOST_ERROR ∧ { t with regs := s.regs } = s)
      ∧ (s.fwHeader head ≠ St.OK → ∃ t, exec (.stage req false true) s = .next t ∧ ends t (s.fwHeader head) ∧ t.recorded pFwu Er.FWU_FW_REFUSED ∧ s.apart t)
      ∧ (s.fwHeader head = St.OK →
        (s.rg R.FWU_FWU_LEN_LEN pFwu ≠ fwHead + fwLength head →
          ∃ t, exec (.stage req false true) s = .next t ∧ ends t St.FW_LENGTH ∧ t.recorded pFwu Er.FWU_FW_REFUSED ∧ s.apart t)
        ∧ (s.rg R.FWU_FWU_LEN_LEN pFwu = fwHead + fwLength head →
          (∃ t, exec (.stage req false false) s = .next t ∧ ends t St.FW_SIGNATURE ∧ t.recorded pFwu Er.FWU_FW_REFUSED ∧ s.apart t)
          ∧ (s.logOpen → s.rg R.KPR_KSTATE_STATE pKpr = 1 → k < 2 → ∃ t, exec (.stage req false true) s = .next t ∧ t.rg R.FWU_FWU_STATUS_BUSY pFwu = 1
            ∧ t.fw.load = some ⟨k, false, head, 0, false⟩ ∧ t.slotState k = 1 ∧ s.apart t))))
    ∧ (∀ k restart, k < 2 → s.slotState k = 2 → s.slotState (1 - k) ≠ 2 → s.slotState (1 - k) ≠ 3 → s.logOpen → s.rg R.KPR_KSTATE_STATE pKpr = 1 →
      ∃ t, exec (.activate req restart) s = .next t ∧ t.slotState k = 3 ∧ ends t St.OK ∧ s.apart t
        ∧ t.rg R.KPR_KSTATE_STATE pKpr = (if restart then 3 else 1))
    ∧ (∀ restart, s.slotsIn 2 = [] ∨ s.slotsIn 3 ≠ [] → ∃ t, exec (.activate req restart) s = .next t ∧ ends t St.FW_STATE ∧ { t with regs := s.regs } = s)
    ∧ (s.rg R.KPR_KSTATE_STATE pKpr = 1 → s.fw.confirmed = true → ∃ t, exec (.confirm req) s = .next t ∧ ends t St.OK ∧ { t with regs := s.regs } = s)
    ∧ (s.rg R.KPR_KSTATE_STATE pKpr = 1 → s.fw.confirmed = false → s.logOpen → s.runningSlot < 2 → ∃ t, exec (.confirm req) s = .next t ∧ ends t St.OK
      ∧ t.fw.confirmed = true ∧ t.slotState s.runningSlot = 4 ∧ s.apart t
      ∧ (s.slotState s.runningSlot = 3 → s.slotState (1 - s.runningSlot) = 4 → t.slotState (1 - s.runningSlot) = 2))
    ∧ (s.fog = false →
      (s.slotState s.runningSlot ≠ 4 → ∃ t, exec (.commitSvn req) s = .next t ∧ ends t St.FW_STATE ∧ { t with regs := s.regs } = s)
      ∧ (s.slotState s.runningSlot = 4 → ∃ t, exec (.commitSvn req) s = .next t ∧ ends t St.OK ∧ { t with regs := s.regs, log := s.log } = s
        ∧ t.otp 0 = (if s.slotSvn s.runningSlot ≤ s.otp 0 then s.otp 0 else min 128 (s.slotSvn s.runningSlot))))
    ∧ (∀ low, (s.fogExit low ≠ St.OK → ∃ t, exec (.exitFog req low) s = .next t ∧ ends t (s.fogExit low) ∧ { t with regs := s.regs } = s)
      ∧ (s.fogExit low = St.OK → ∃ t, exec (.exitFog req low) s = .next t ∧ t.rg R.KPR_KSTATE_STATE pKpr = 0 ∧ t.rg R.KPR_BOOT_STATUS_PHASE pKpr = 0
        ∧ t.rg R.KPR_BOOT_STATUS_ENTRY pKpr = 2 ∧ t.fw.afterFog = true ∧ t.rg R.FWU_FWU_STATUS_FOG pFwu = 0)))
  ∧ (∀ (s : State) (l : FwLoad) (pieces : Nat), s.fw.load = some l → l.ksb = false → s.keeperUp = true →
    let img := l.bytes ++ s.rbs (aHost (s.rg R.FWU_FWU_BUF_ADDR pFwu * 64) + fwHead) (fwLength l.bytes)
    let ends (t : State) (st : Nat) : Prop := t.rg R.FWU_FWU_STATUS_STATUS pFwu = st ∧ t.rg R.FWU_FWU_STATUS_BUSY pFwu = 0 ∧ t.fw.load = none ∧ s.apart t
    (∀ h f, l.abort = true → ∃ t, exec (.stageDone pieces h f) s = .next t ∧ ends t St.ABORTED)
    ∧ (l.abort = false → (∃ t, exec (.stageDone pieces true false) s = .next t ∧ ends t St.HOST_ERROR)
      ∧ (∃ t, exec (.stageDone pieces false true) s = .next t ∧ ends t St.FW_FLASH)
      ∧ (fwBodyOk img = false → ∃ t, exec (.stageDone pieces false false) s = .next t ∧ ends t St.FW_DIGEST ∧ t.recorded pFwu Er.FWU_FW_REFUSED)
      ∧ (fwBodyOk img = true → s.logOpen → s.rg R.KPR_KSTATE_STATE pKpr = 1 → l.target < 2 →
        ∃ t, exec (.stageDone pieces false false) s = .next t ∧ ends t St.OK ∧ t.slotState l.target = 2 ∧ NMap.get [] t.fw.slots l.target = img))
    ∧ (∀ req, s.mayWrite req pFwu = true → ∃ t, exec (.fwuAbort req) s = .next t ∧ t.fw.load = some { l with abort := true }
      ∧ { t with regs := s.regs, fw := s.fw } = s))
  ∧ (∀ s : State, s.flag R.FWU_FWU_CTRL_AUTO_CONFIRM pFwu = false → s.rg R.KPR_KSTATE_STATE pKpr = 1 →
    (s.fw.confirmed = false → ∃ t, exec .confirmTimeout s = .next t ∧ t.rg R.KPR_KSTATE_STATE pKpr = 3 ∧ t.recorded pFwu Er.FWU_CONFIRM_TIMEOUT ∧ s.apart t)
    ∧ (s.fw.confirmed = true → exec .confirmTimeout s = .next s))
  ∧ (∀ (s : State) (sigOk : List Bool), s.rg R.KPR_KSTATE_STATE pKpr = 3 → s.recov.resets = [] →
    (∃ t, exec (.keeperStart sigOk true) s = .next t ∧ t.fog = true ∧ t.rg R.FWU_FWU_STATUS_FOG pFwu = 1 ∧ t.rg R.KPR_BOOT_STATUS_PHASE pKpr = 14
      ∧ t.fw.load = none ∧ ∀ d < 24, t.domOn d = decide (d = 23))
    ∧ (∃ t, exec (.keeperStart sigOk false) s = .next t ∧ t.fw.load = none ∧ (t.rg R.KPR_KSTATE_STATE pKpr = 1 ∨ t.fog = true)))

/-! ### The side-band port (16_firmware_sideband.md) -/

/-- R546, R548, R549, R551: a frame cut at a field boundary is counted as short and one cut elsewhere as torn, a bad CRC is counted, each with its result, an unknown opcode is not executed; a stalled frame is
judged; a complete status frame returns the words and clears the counts.
It states the completion of: ksbMalformedFrame, ksbStall.
The model's own readings in it: log entry 104. -/
def Obligations.SideBandFrames : Prop :=
  ∀ s : State, s.boot.aon = true →
    let counted (t : State) (status : Bool) (e : Nat) : Prop := t.recorded pKsb Er.KSB_KSB_MALFORMED ∧ s.apart t
      ∧ t.ksb.short = (if atBoundary status e then min 255 (s.ksb.short + 1) else s.ksb.short)
      ∧ t.ksb.torn = (if atBoundary status e then s.ksb.torn else min 255 (s.ksb.torn + 1))
    let shown (t : State) (op st : Nat) : Prop := t.ksb.op = op ∧ t.ksb.result = st
    (∀ e crc, 8 ≤ e → e < statusEdges → ∀ c ∈ [Instr.ksbMalformedFrame 0 e crc, .ksbStall 0 e], ∃ t, exec c s = .next t ∧ counted t true e ∧ shown t s.ksb.op s.ksb.result)
    ∧ (∀ e, statusEdges ≤ e → ∃ t, exec (.ksbMalformedFrame 0 e false) s = .next t ∧ t.ksb.crcBad = min 255 (s.ksb.crcBad + 1)
      ∧ t.recorded pKsb Er.KSB_KSB_MALFORMED ∧ s.apart t ∧ shown t s.ksb.op s.ksb.result)
    ∧ (∀ op e crc, 1 ≤ e → e < 8 → (∃ t, exec (.ksbMalformedFrame op e crc) s = .next t ∧ counted t false e ∧ shown t 0xFF St.KSB_TORN)
      ∧ (∃ t, exec (.ksbStall op e) s = .next t ∧ counted t false e ∧ shown t 0xFF St.KSB_STALL))
    ∧ (∀ op e crc, 0 < op → op < 256 → 8 ≤ e →
      (ksbWords op = none → ∃ t, exec (.ksbMalformedFrame op e crc) s = .next t ∧ shown t op St.KSB_OPCODE ∧ { t with ksb := s.ksb, regs := s.regs } = s)
      ∧ (∀ n, ksbWords op = some n →
        (e < 40 + 32 * n → ∃ t, exec (.ksbMalformedFrame op e crc) s = .next t ∧ counted t false e
          ∧ shown t op (if atBoundary false e then St.KSB_SHORT else St.KSB_TORN))
        ∧ (40 + 32 * n ≤ e → ∃ t, exec (.ksbMalformedFrame op e false) s = .next t ∧ t.ksb.crcBad = min 255 (s.ksb.crcBad + 1)
          ∧ shown t op St.KSB_CRC ∧ t.ksb.extra = decide (40 + 32 * n < e) ∧ t.recorded pKsb Er.KSB_KSB_MALFORMED ∧ s.apart t))
      ∧ (∃ t, exec (.ksbStall op e) s = .next t ∧ counted t false e ∧ shown t op St.KSB_STALL))
    ∧ (∀ e busy, statusEdges ≤ e → ∃ t, exec (.status e true busy) s = .next t ∧ t.rdata = s.ksbWords busy
      ∧ t.out = s.out ++ [.ksb 0 (crc8 ((s.ksbWords busy).flatMap (beBytes 4))) (s.ksbWords busy)]
      ∧ t.ksb = { s.ksb with crcBad := 0, torn := 0, short := 0, long := 0, dataValid := false }
      ∧ t.rg R.KSB_KSB_ERRCNT_WORD1 pKsb = 0 ∧ { t with ksb := s.ksb, regs := s.regs, out := s.out, rdata := s.rdata } = s)

/-- R453, R469, R491, R529, R545, R547: what each command of the side-band port does where it is admitted, its result in the status words, and BUSY for one that comes while the last is executed.
It states the completion of: status, regRead, regWrite, setEnvelope, restart, stop, resetChip, enterFog, fogExit, laserReport, standbyAddr, logSeek, logNext, telem,
fwBegin, fwData, fwEnd.
The model's own readings in it: log entries 102, 103, 104, 105. -/
def Obligations.SideBandCommands : Prop :=
  (∀ s : State, s.boot.aon = true →
    (∀ page off val x a w0 w1 w2 w3 half n low, ∀ c ∈ [Instr.regRead page off true false, .regWrite page off val true false, .setEnvelope val true false, .restart true false,
        .resetChip a true false, .enterFog a true false, .fogExit low true false, .laserReport w0 w1 w2 w3 true false, .standbyAddr x true false,
        .logSeek w0 w1 w2 true false, .logNext true false, .telem half true false, .fwBegin n true false, .fwEnd low true false],
      ∃ t, exec c s = .next t ∧ t.ksb.result = St.KSB_BUSY ∧ { t with ksb := s.ksb, regs := s.regs } = s)
    ∧ (∀ page off, off < 4096 →
      let read (st : Nat) (l : Option (List Nat)) : Prop := ∃ t, exec (.regRead page off false false) s = .next t ∧ s.judged t 0x10 st ∧ t.ksb.dataValid = l.isSome
        ∧ t.ksb.data = l.getD [] ∧ { t with ksb := s.ksb, regs := s.regs, latch := s.latch } = s ∧ (l = none → t.latch = s.latch)
      let p := page % 4096
      (off % 4 ≠ 0 → read St.KSB_DENIED none)
      ∧ (off % 4 = 0 → s.fog = false → s.pageOn p = false → read St.KSB_DOMAIN_OFF none)
      ∧ (off % 4 = 0 → s.fog = false → s.pageOn p = true →
        ∃ u : State, u.ksb = { s.ksb with accepted := (s.ksb.accepted + 1) % 256 } ∧ { u with ksb := s.ksb, regs := s.regs } = s ∧ s.sameRegs u []
          ∧ read St.OK (some (u.readWords p off 16).1)))
    ∧ (∀ w0 w1 w2, s.rg R.LOG_LOG_STATUS_STATE pLog ≠ 0 → ∃ t, exec (.logSeek w0 w1 w2 false false) s = .next t ∧ s.judged t 0x40 St.OK
      ∧ t.ksb.seekSeq = w0 % 2 ^ 32 + w1 % 2 ^ 32 * 2 ^ 32 ∧ t.ksb.seekLo = bits w2 15 0 ∧ t.ksb.seekHi = bits w2 31 16 ∧ t.ksb.seekRec = []
      ∧ { t with ksb := s.ksb, regs := s.regs } = s)
    ∧ (s.rg R.LOG_LOG_STATUS_STATE pLog ≠ 0 → s.ksb.seekRec = [] →
      (s.log.select s.ksb.seekSeq s.ksb.seekLo s.ksb.seekHi = [] → ∃ t, exec (.logNext false false) s = .next t ∧ s.judged t 0x41 St.OK ∧ t.ksb.dataValid = false
        ∧ { t with ksb := s.ksb, regs := s.regs } = s)
      ∧ (∀ r d l, s.log.select s.ksb.seekSeq s.ksb.seekLo s.ksb.seekHi = (r, d) :: l → ∃ t, exec (.logNext false false) s = .next t ∧ s.judged t 0x41 St.OK
        ∧ t.ksb.dataValid = true ∧ t.ksb.data = wordsOf ((r.image d).take 64) ∧ t.ksb.last = decide ((r.image d).length ≤ 64)
        ∧ t.ksb.seekRec = (r.image d).drop 64 ∧ t.ksb.seekSeq = r.seq + 1 ∧ { t with ksb := s.ksb, regs := s.regs } = s))
    ∧ (∀ low, (s.fogExit low ≠ St.OK → ∃ t, exec (.fogExit low false false) s = .next t ∧ s.judged t 0x25 (s.fogExit low) ∧ { t with ksb := s.ksb, regs := s.regs } = s)
      ∧ (s.fogExit low = St.OK → ∃ t, exec (.fogExit low false false) s = .next t ∧ s.judged t 0x25 St.OK ∧ t.rg R.KPR_KSTATE_STATE pKpr = 0)))
  ∧ (∀ s : State, s.boot.aon = true → s.rg R.KPR_KSTATE_STATE pKpr = 1 → s.recov.pwrcyc = false →
    let quiet (t : State) : Prop := { t with ksb := s.ksb, regs := s.regs } = s
    (∀ page off val, (off % 4 ≠ 0 ∨ 4096 ≤ off ∨ page ∉ [pPwr, pKpr, pKsb] → ∃ t, exec (.regWrite page off val false false) s = .next t ∧ s.judged t 0x11 St.KSB_DENIED ∧ quiet t)
      ∧ (off % 4 = 0 → off < 4096 → page ∈ [pPwr, pKpr, pKsb] → ∃ t, exec (.regWrite page off val false false) s = .next t ∧ t.ksb.op = 0x11 ∧ t.ksb.result = St.OK))
    ∧ (∀ v, (bits v 31 16 < 1 ∨ 1000 < bits v 31 16 → ∃ t, exec (.setEnvelope v false false) s = .next t ∧ s.judged t 0x20 St.KSB_DENIED ∧ quiet t)
      ∧ (1 ≤ bits v 31 16 → bits v 31 16 ≤ 1000 → s.pwr.tray.last = none → ∃ t, exec (.setEnvelope v false false) s = .next t ∧ s.judged t 0x20 St.OK
        ∧ t.rg R.PWR_TRAY_SET_SLOPE pPwr = bits v 31 16 ∧ t.rg R.PWR_TRAY_SET_SETPOINT pPwr = bits v 15 0
        ∧ t.pwr.tray = ⟨max 150 (bits v 15 0), bits v 31 16, none, some s.tbc⟩ ∧ { t with ksb := s.ksb, regs := s.regs, pwr := s.pwr } = s))
    ∧ (s.pwr.tripped = true → ∃ t, exec (.restart false false) s = .next t ∧ s.judged t 0x21 St.RESTART_DENIED ∧ quiet t)
    ∧ (s.pwr.tripped = false → s.pwr.airflow = false → s.rg R.PWR_THERM_STATUS_TJ pPwr < s.rg R.PWR_THERM_CTRL_T_WARN pPwr →
      ∃ t, exec (.restart false false) s = .next t ∧ s.judged t 0x21 St.OK ∧ t.halted = false ∧ s.apart t)
    ∧ (∀ a words, a ≠ ksbGuard → (∃ t, exec (.stop a words false false) s = .next t ∧ s.judged t 0x22 St.KSB_GUARD ∧ quiet t)
      ∧ (∃ t, exec (.resetChip a false false) s = .next t ∧ s.judged t 0x23 St.KSB_GUARD ∧ quiet t)
      ∧ (∃ t, exec (.enterFog a false false) s = .next t ∧ s.judged t 0x24 St.KSB_GUARD ∧ quiet t))
    ∧ (∀ words, s.domOn 23 = true → ∃ t, exec (.stop ksbGuard words false false) s = .next t ∧ t.ksb.result = St.OK ∧ t.recorded pKsb Er.KSB_KSB_CONTROL
      ∧ ∀ fn < 256, bit (words.getD (fn / 32) 0) (fn % 32) = true → ∀ d ∈ s.dataQueues fn, t.rg R.QUE_CQ_STATUS_FSTOP d = 1)
    ∧ (∃ t, exec (.resetChip ksbGuard false false) s = .next t ∧ t.ksb.result = St.OK ∧ ∃ r ∈ t.recov.resets, r.level = 4)
    ∧ (∃ t, exec (.enterFog ksbGuard false false) s = .next t ∧ t.ksb.result = St.OK ∧ t.fw.fogRequested = true ∧ ∃ r ∈ t.recov.resets, r.level = 4)
    ∧ (∀ w0 w1 w2 w3, ∃ t, exec (.laserReport w0 w1 w2 w3 false false) s = .next t ∧ s.judged t 0x30 St.OK ∧ (t.laser (w0 % 4)).bias = w3 % 2 ^ 32
      ∧ (t.laser (w0 % 4)).source = w1 % 2 ^ 32 + w2 % 2 ^ 32 * 2 ^ 32 ∧ { t with ksb := s.ksb, regs := s.regs, net := s.net } = s)
    ∧ (∀ v, s.pageOn pRte = true → s.flag R.RTE_MADDR_STANDBY pRte = true → (∀ p, (s.port p).training = false) →
      ∃ t, exec (.standbyAddr v false false) s = .next t ∧ s.judged t 0x31 St.OK ∧ t.rg R.RTE_MADDR_MADDR pRte = v % 2 ^ 30 ∧ t.rg R.RTE_MADDR_STANDBY pRte = 1
        ∧ quiet t)
    ∧ (∀ h, (1 < h → ∃ t, exec (.telem h false false) s = .next t ∧ s.judged t 0x42 St.KSB_DENIED ∧ t.ksb.dataValid = false ∧ quiet t)
      ∧ (h ≤ 1 → s.pwr.telem ≠ [] → ∃ t, exec (.telem h false false) s = .next t ∧ s.judged t 0x42 St.OK ∧ t.ksb.dataValid = true
        ∧ t.ksb.data = wordsOf ((s.pwr.telem.drop (64 * h)).take 64) ∧ t.ksb.last = decide (h = 1) ∧ quiet t)))
  ∧ (∀ s : State, s.boot.aon = true → s.rg R.KPR_KSTATE_STATE pKpr = 2 →
    (∀ n k, s.fwTarget n = some k → s.fw.load = none →
      (s.slotState (1 - k) ≠ 3 → ∃ t, exec (.fwBegin n false false) s = .next t ∧ s.judged t 0x50 St.OK ∧ t.fw.load = some ⟨k, true, [], 0, false⟩
        ∧ { t with ksb := s.ksb, regs := s.regs, fw := s.fw } = s)
      ∧ (s.slotState (1 - k) = 3 → ∃ t, exec (.fwBegin n false false) s = .next t ∧ s.judged t 0x50 St.FW_SLOT_BUSY ∧ { t with ksb := s.ksb, regs := s.regs } = s))
    ∧ (∀ l, s.fw.load = some l → l.ksb = true →
      (∀ k bytes g f, k ≠ l.next → ∃ t, exec (.fwData k bytes g f false false) s = .next t ∧ s.judged t 0x51 St.FW_SEQUENCE ∧ t.fw.load = none)
      ∧ (∀ bytes g, l.next ≠ 0 → l.next ≠ 32 → l.bytes.length < fwHead + fwLength l.bytes → ∃ t, exec (.fwData l.next bytes g false false false) s = .next t
        ∧ s.judged t 0x51 St.OK ∧ t.fw.load = some { l with bytes := l.bytes ++ (bytes.take 256 ++ List.replicate (256 - bytes.length) 0), next := l.next + 1 }
        ∧ { t with ksb := s.ksb, regs := s.regs, fw := s.fw } = s)
      ∧ (l.next < 33 ∨ l.bytes.length ≠ fwHead + fwLength l.bytes → ∃ t, exec (.fwEnd false false false) s = .next t ∧ s.judged t 0x52 St.FW_SEQUENCE ∧ t.fw.load = none)
      ∧ (33 ≤ l.next → l.bytes.length = fwHead + fwLength l.bytes →
        (fwBodyOk l.bytes = false → ∃ t, exec (.fwEnd false false false) s = .next t ∧ s.judged t 0x52 St.FW_DIGEST ∧ t.fw.load = none
          ∧ t.recorded pFwu Er.FWU_FW_REFUSED)
        ∧ (fwBodyOk l.bytes = true → s.logOpen → l.target < 2 → ∃ t, exec (.fwEnd false false false) s = .next t ∧ s.judged t 0x52 St.OK
          ∧ t.slotState l.target = 3 ∧ NMap.get [] t.fw.slots l.target = l.bytes))))

/-! ### The DBG page, boot and loss of power (17_observing.md, 18_bringup.md, 19_electrical_mechanical.md) -/

/-- R398, R556, R558–R560, R562, R564, R565: a peek gives the value or its denial and moves on; a mark joins the trace, or is dropped when the queue is full; clearing EN stops a trace; a digest leaves its
record in the ring, and its command goes on.
It states the completion of: peek, traceMark, traceDisable, twDigest, colCqResetDone.
The model's own readings in it: log entries 106, 107, 108, 109. -/
def Obligations.DebugPage : Prop :=
  (∀ (s : State) (req fn : Nat),
    let p := pDbg fn
    let page := s.rg R.DBG_PEEK_ADDR_PAGE p
    let k := s.rg R.DBG_PEEK_ADDR_OFFSET p
    (s.responds req p = false → exec (.peek req fn) s = .next { s with rdata := [0] })
    ∧ (s.responds req p = true → ∀ st v,
      ((s.peekOk fn page (8 * k) = false ∧ st = St.PEEK_DENIED ∧ v = 0) ∨ (s.peekOk fn page (8 * k) = true ∧ s.pageOn page = false ∧ st = St.PEEK_DOMAIN_OFF ∧ v = 0)
        ∨ (s.peekOk fn page (8 * k) = true ∧ s.pageOn page = true ∧ st = St.OK ∧ v = s.pageVal page (8 * k) 8)) →
      ∃ t, exec (.peek req fn) s = .next t ∧ t.rdata = [v] ∧ t.rg R.DBG_PEEK_DATA_DATA p = v % 2 ^ 64 ∧ t.rg R.DBG_PEEK_STATUS_STATUS p = st
        ∧ t.rg R.DBG_PEEK_ADDR_OFFSET p = min 0x1FF (k + 1) ∧ { t with rdata := s.rdata, regs := s.regs } = s))
  ∧ (∀ (s : State) (req fn v : Nat), s.mayWrite req (pDbg fn) = true → s.flag R.DBG_TRACE_CFG_EN (pDbg fn) = true →
    s.rg R.DBG_TRACE_START_TBC_TBC (pDbg fn) ≤ s.tbcAt (pDbg fn) → bit (s.rg R.DBG_TRACE_SRC_SRC (pDbg fn)) 5 = true →
    ((s.dbgFn fn).queue.length < 64 → ∃ t, exec (.traceMark req fn v) s = .next t ∧ t.rg R.DBG_TRACE_STATUS_ACTIVE (pDbg fn) = 1
      ∧ (t.dbgFn fn).queue = (s.dbgFn fn).queue ++ [⟨0x0C16, 4, false, true, fn, pDbg fn, 1, s.tbcAt (pDbg fn), 0, v % 2 ^ 64⟩] ∧ { t with regs := s.regs, dbg := s.dbg } = s)
    ∧ (64 ≤ (s.dbgFn fn).queue.length → ∃ t, exec (.traceMark req fn v) s = .next t ∧ (t.dbgFn fn).queue = (s.dbgFn fn).queue
      ∧ (t.dbgFn fn).dropped = (s.dbgFn fn).dropped + 1 ∧ t.recorded (pDbg fn) Er.DBG_TRACE_DROP ∧ s.apart t))
  ∧ (∀ (s : State) (req fn : Nat), s.mayWrite req (pDbg fn) = true → s.flag R.DBG_TRACE_CFG_EN (pDbg fn) = true →
    ((s.dbgFn fn).queue ≠ [] → ∃ t, exec (.traceDisable req fn true) s = .next t ∧ t.rg R.DBG_TRACE_CFG_EN (pDbg fn) = 0
      ∧ t.rg R.DBG_TRACE_STATUS_STOPPED (pDbg fn) = 1 ∧ (t.dbgFn fn).queue = [] ∧ t.recorded (pDbg fn) Er.DBG_TRACE_FAIL ∧ s.apart t)
    ∧ ((s.dbgFn fn).dropped = 0 →
      ((s.dbgFn fn).queue = [] → ∃ t, exec (.traceDisable req fn false) s = .next t ∧ t.rg R.DBG_TRACE_CFG_EN (pDbg fn) = 0
        ∧ t.rg R.DBG_TRACE_STATUS_ACTIVE (pDbg fn) = 0 ∧ { t with regs := s.regs } = s)
      ∧ (∀ r, (s.dbgFn fn).queue = [r] → s.flag R.DBG_TRACE_CFG_TO_EQ (pDbg fn) = false → s.flag R.DBG_TRACE_CFG_STOP_FULL (pDbg fn) = false →
        let n := s.rg R.DBG_TRACE_PROD_COUNT (pDbg fn)
        ∃ t, exec (.traceDisable req fn false) s = .next t ∧ t.rg R.DBG_TRACE_PROD_COUNT (pDbg fn) = (n + 1) % 2 ^ 64
          ∧ t.rg R.DBG_TRACE_STATUS_ACTIVE (pDbg fn) = 0 ∧ (t.dbgFn fn).queue = [] ∧ s.apart t
          ∧ (Map.sorted natLt s.mem = true →
            t.rle (aHost (s.rg R.DBG_TRACE_BASE_ADDR (pDbg fn) * 32 + 32 * (n % 2 ^ s.rg R.DBG_TRACE_CFG_LOG2SIZE (pDbg fn)))) 32 = r.bytes 0 % 2 ^ 256))))
  ∧ (∀ (s : State) (fn held : Nat) (g : Digest),
    (s.dbgFn fn).digests.find? (fun g => match s.cmdFind g.queue g.num with
      | some c => c.result.isSome
      | none => true) = some g → s.flag R.DBG_TW_CFG_EN (pDbg fn) = true →
    (∀ u, s.twDesc fn g = some (u, none) →
      (∃ t, exec (.twDigest fn held false) s = .next t ∧ (t.dbgFn fn).digests = (s.dbgFn fn).digests.erase g ∧ (t.dbgFn fn).seq = (s.dbgFn fn).seq + 1
        ∧ t.rg R.DBG_TW_STATUS_LAST_STATUS (pDbg fn) = St.TW_INVALID ∧ t.recorded (pDbg fn) Er.DBG_TW_FAIL)
      ∧ (∃ t, exec (.twDigest fn held true) s = .next t ∧ (t.dbgFn fn).digests = (s.dbgFn fn).digests.erase g ∧ t.rg R.DBG_TW_CFG_EN (pDbg fn) = 0
        ∧ t.recorded (pDbg fn) Er.DBG_TW_FAIL))
    ∧ (∀ u d v a, s.twDesc fn g = some (u, some d) → State.twRows (viaFn fn) d g.ebase (List.range d.rows) u TwAcc.empty = some (v, a) → a.trunc = false →
      ∃ t, exec (.twDigest fn held false) s = .next t ∧ (t.dbgFn fn).digests = (s.dbgFn fn).digests.erase g ∧ (t.dbgFn fn).seq = (s.dbgFn fn).seq + 1
        ∧ t.rg R.DBG_TW_STATUS_LAST_STATUS (pDbg fn) = St.OK
        ∧ t.rg R.DBG_TW_STATUS_PENDING (pDbg fn) = min 16 ((s.dbgFn fn).digests.erase g).length))
  ∧ (∀ (s : State) (fn k g : Nat), s.commqOf fn k = some g → exec (.colCqResetDone fn k) s = .next (s.wr R.COL_CQ_CMD_BUSY g 0))

/-- R39, R573–R578, R584, R590–R592: a boot with STRAP_FOG_N low ends in Fog mode; one from step 5 on whose memory comes up ends READY with every domain it turns on, one with no stack stops in PHASE 5, one
without airflow before step 8, which goes on when the airflow returns; a stall; and what the loss of AON_RST_N or of power leaves.
It states the completion of: powerOnBoot, bootStall, aonResetAssert, powerLoss, airflowFailNHigh.
The model's own readings in it: log entry 101. -/
def Obligations.BootAndLoss : Prop :=
  (∀ (s : State) (e : BootEnv),
    (s.rg R.KPR_BOOT_STATUS_PHASE pKpr = 0 → e.strapLow = true → ∃ t, exec (.powerOnBoot e) s = .next t ∧ t.fog = true
      ∧ t.rg R.KPR_BOOT_STATUS_PHASE pKpr = 14 ∧ t.boot.aon = true)
    ∧ (s.rg R.KPR_BOOT_STATUS_PHASE pKpr = 4 → s.boot.aon = true → s.rg R.KPR_KSTATE_STATE pKpr = 1 →
      let u := (if s.rg R.KPR_BOOT_STATUS_ENTRY pKpr = 1 then s.logLoad else s).bootRails.bootMemory e
      (u.rg R.TOP_MEM_PORT_PRESENT_MEM pTop = 0 → ∃ t, exec (.powerOnBoot e) s = .next t ∧ t.rg R.KPR_BOOT_STATUS_PHASE pKpr = 5
        ∧ t.rg R.KPR_BOOT_STATUS_STALLED pKpr = 1)
      ∧ (u.rg R.TOP_MEM_PORT_PRESENT_MEM pTop ≠ 0 → e.airLow = true ∨ u.pwr.airflow = true → ∃ t, exec (.powerOnBoot e) s = .next t
        ∧ t.rg R.KPR_BOOT_STATUS_PHASE pKpr = 6 ∧ t.rg R.KPR_BOOT_STATUS_STALLED pKpr = 1 ∧ t.rg R.KPR_BOOT_STATUS_STATUS pKpr = St.RESTART_DENIED
        ∧ t.boot.holdAir = true)
      ∧ (u.rg R.TOP_MEM_PORT_PRESENT_MEM pTop ≠ 0 → e.airLow = false → u.pwr.airflow = false → ∃ t, exec (.powerOnBoot e) s = .next t
        ∧ t.rg R.KPR_BOOT_STATUS_PHASE pKpr = 10 ∧ t.rg R.KPR_BOOT_STATUS_STALLED pKpr = 0 ∧ t.rg R.KPR_BOOT_TBC_TBC pKpr = s.tbc % 2 ^ 64
        ∧ ∀ d, 16 ≤ d → d < 24 → t.domOn d = true))
    ∧ (s.boot.holdAir = false → ∃ t, exec (.airflowFailNHigh e) s = .next t ∧ t.pwr.airflow = false ∧ t.rg R.PWR_THERM_STATUS_AIRFLOW pPwr = 0
      ∧ { t with pwr := s.pwr, regs := s.regs } = s)
    ∧ (s.boot.holdAir = true → ∃ t, exec (.airflowFailNHigh e) s = .next t ∧ t.rg R.KPR_BOOT_STATUS_PHASE pKpr = 10 ∧ t.pwr.airflow = false
      ∧ t.boot.holdAir = false))
  ∧ (∀ (s : State) (st : Nat),
    (s.rg R.KPR_BOOT_STATUS_PHASE pKpr < 10 → s.boot.aon = true → ∃ t, exec (.bootStall st) s = .next t ∧ t.rg R.KPR_BOOT_STATUS_STALLED pKpr = 1
      ∧ t.rg R.KPR_BOOT_STATUS_STATUS pKpr = st % 2 ^ 16 ∧ t.recorded pKpr Er.KPR_BOOT_STALL ∧ s.apart t)
    ∧ (10 ≤ s.rg R.KPR_BOOT_STATUS_PHASE pKpr → exec (.bootStall st) s = .next s))
  ∧ (∀ s : State, ∀ c ∈ [Instr.aonResetAssert 0 0 0, .powerLoss 0 0 0], ∃ t, exec c s = .next t ∧ t.regs = [] ∧ t.boot.aon = false ∧ t.sig = [] ∧ t.host = HostSt.init
    ∧ t.log.otp = s.log.otp ∧ t.log.keys = s.log.keys ∧ t.log.fl0.used = s.log.fl0.used ∧ t.log.fl1.used = s.log.fl1.used ∧ t.fw.slots = s.fw.slots
    ∧ t.pending = s.pending ∧ (∀ a, Spc 4 ≤ a → a < Spc 5 → t.rb a = s.rb a)
    ∧ (c = .powerLoss 0 0 0 → t.pwr.tripped = false) ∧ (c = .aonResetAssert 0 0 0 → t.pwr.tripped = s.pwr.tripped ∧ t.recov.pwrcyc = s.recov.pwrcyc))

/-! ### The block as a whole -/

/-- A step takes the command at the front of the queue, and is that command executed with the queue's rest; it never stops, and so every command that can be given completes in every state. With no
command waiting a nanosecond passes (the model's choice, log entry 1): the TBC and its copies count, and nothing else changes where no core runs a kernel and no port has a flit waiting.
R131, R136, R138, R610: a core that runs a kernel and may issue executes the instruction that the word at its PC spells, in the same state (when, beside the commands, is the model's choice, log entry
122); a word whose class and operation are not listed raises ILLEGAL_OP, and only advances the PC where its mask keeps it from issuing (R133; log entry 134).
R454: a vector operation or an MMA waits, and THROTTLE_CYCLES counts, while the core's level lets none issue (the cycles of a window are the model's choice, log entry 142). -/
def Obligations.StepRunsFront : Prop :=
  (∀ (s : State) (c : Instr), step { s with pending := c :: s.pending } = exec c s)
  ∧ (∀ s : State, stepsOn s)
  ∧ (∀ (c : Instr) (s : State), ∃ t, exec c s = .next t)
  ∧ (∀ s : State, s.pending = [] → (∀ p < 16, s.lnkUp p = false ∨ (s.port p).waiting = 0) →
    let u := s.tbcTick
    let settled (t : State) : State := if t.domOn 23 then t.dbg.foldl (fun s e => s.traceFlush e.1) t else t
    (s.runningCores = [] → s.domOn 23 = false → ∃ t, step s = .next t ∧ { t with tbc := s.tbc, net := s.net, tbcCopies := s.tbcCopies } = s
      ∧ (s.tbc % 1000 ≠ 999 ∨ s.net.slew < 16 → t.tbc = s.tbc + 1))
    ∧ (∀ c, s.runningCores = [c] → u.canIssue c = true → u.fetchCode c [] = none →
      let w := u.codeWord c
      let on := bit ((u.core c).mask (bits w 51 49) (bit w 48)) 0
      let waits := u.levelled c w && u.levelWaits c
      (waits = true → step s = .next (settled (u.cnt pPwr Cn.PWR_THROTTLE_CYCLES (u.coreCycles (u.tbc + 1) - u.coreCycles u.tbc))))
      ∧ (waits = false →
        (∀ i t, decodeInstr c w = some i → exec i u = .next t → step s = .next (settled t))
        ∧ (decodeInstr c w = none → laneClass w = true ∨ on = true → step s = .next (settled ((u.fetched c).takeExc c St.ILLEGAL_OP)))
        ∧ (decodeInstr c w = none → laneClass w = false → on = false → step s = .next (settled ((u.fetched c).retire c (u.pc c + 8)))))))

/-- The values that the spec's register tables give after reset: R15, R17, R33, R246, R281, R282, R319, R442–R444, R459, R470, R471, R604. With them
the model's own choices (log entries 9 to 11): nothing in progress, signals 0, memory that reads 0.
The module after reset has its memory in canonical form and only well-formed commands waiting: it has none. -/
def Obligations.Reset : Prop :=
  (
    let s := State.reset
    (s.rg R.TOP_PART_PART_CODE pTop = 0x5434 ∧ s.rg R.PWR_CAP_CAP pPwr = 600 ∧ s.rg R.PWR_ENV_SET_SETPOINT pPwr = 600
      ∧ s.rg R.PWR_ENV_SET_SLOPE pPwr = 40 ∧ s.rg R.PWR_ENV_CTRL_SRC pPwr = 2 ∧ s.rg R.PWR_THERM_CTRL_T_WARN pPwr = 95
      ∧ s.rg R.PWR_THERM_CTRL_T_THROTTLE pPwr = 100 ∧ s.rg R.CLK_FREQ_STATUS_OPP pClk = 4 ∧ s.rg R.CLK_FREQ_STATUS_FREQ pClk = 1000
      ∧ s.rg R.CLK_OPP_LIMIT_OPP pClk = 7 ∧ s.rg R.CLK_CLK_CTRL_AUTO pClk = 1 ∧ s.rg R.CLK_HST_FREQ_MHZ pClk = 1600
      ∧ s.rg R.KPR_KSTATE_STATE pKpr = 0 ∧ s.rg R.KPR_BOOT_STATUS_PHASE pKpr = 0 ∧ s.rg R.FAR_FAR_CFG_TIMEOUT pFar = 1000)
    ∧ (∀ k < 8, s.rg (R.CLK_OPP_FREQ k) pClk = [200, 400, 600, 800, 1000, 1100, 1200, 1300].getD k 0
        ∧ s.rg (R.CLK_OPP_VOP k) pClk = [380, 400, 430, 460, 500, 530, 570, 620].getD k 0)
    ∧ (∀ p, s.rg R.HDR_CTRL_ENABLE p = 0 ∧ s.rg R.HDR_ERR_STATUS_ERR p = 0 ∧ s.rg R.HDR_ERR_MASK_MASK p = 0
        ∧ s.rg R.HDR_EVT_ENABLE_CLASS_EN p = 7 ∧ s.rg R.HDR_ID_VERSION p = 1)
    ∧ (∀ p, s.rg R.LNK_PORT_CTRL_REQUIRE_AUTH p = 1 ∧ s.rg R.LNK_QUAR_CTRL_THRESH p = 16 ∧ s.rg R.COL_STEP_CTRL_HEAD_AUTO p = 1
        ∧ s.rg R.COL_STEP_STATUS_STATE p = 0 ∧ s.rg R.HIF_FRAME_RESULT_DONE p = 1)
    ∧ (∀ d, s.domOn d = decide (d = 24))
    ∧ (∀ n, s.sigVal n = 0) ∧ (∀ a, s.rb a = 0) ∧ (∀ c, s.runState c = 0) ∧ s.tbc = 0 ∧ s.out = [] ∧ s.pending = [])
  ∧ (
    State.reset.memWf = true ∧ pendingWf State.reset = true)

/-- Every step keeps memory in its canonical form: addresses strictly rising, no listed byte that an unlisted address would read as. The
form is the model's own (log entry 12). -/
def Obligations.MemoryFormKept : Prop :=
  ∀ s t : State, s.memWf = true → step s = .next t → t.memWf = true

/-- A step takes exactly the front command from the queue and puts none in, so that a queue of well-formed commands stays one. -/
def Obligations.QueueFormKept : Prop :=
  ∀ s t : State, step s = .next t → t.pending = s.pending.tail ∧ (pendingWf s = true → pendingWf t = true)
end

