-- ==== Sys2Proof/Laws/Map.lean ====
section
/-!
SUPPORT. Laws of the sparse stores: what a read sees after a write or a deletion, and that the keys stay in rising order.
-/

namespace Sys2Proof.Machine

theorem Map.get_put_self {κ α : Type} [DecidableEq κ] (lt : κ → κ → Bool) (d v : α) (k : κ) (m : Map κ α) :
    Map.get d (Map.put lt k v m) k = v := by
  induction m with
  | nil => simp [Map.put, Map.get]
  | cons e m ih =>
    obtain ⟨k', v'⟩ := e
    by_cases h : k' = k
    · simp [Map.put, Map.get, h]
    · by_cases h2 : lt k k' = true <;> simp [Map.put, Map.get, h, h2, ih]

theorem Map.get_put_ne {κ α : Type} [DecidableEq κ] (lt : κ → κ → Bool) (d v : α) {k j : κ} (m : Map κ α) (hj : j ≠ k) :
    Map.get d (Map.put lt k v m) j = Map.get d m j := by
  induction m with
  | nil => simp [Map.put, Map.get, hj.symm]
  | cons e m ih =>
    obtain ⟨k', v'⟩ := e
    by_cases h : k' = k
    · subst h
      simp [Map.put, Map.get, hj.symm]
    · by_cases h2 : lt k k' = true
      · simp [Map.put, Map.get, h, h2, hj.symm]
      · simp [Map.put, Map.get, h, h2, ih]

theorem Map.get_put {κ α : Type} [DecidableEq κ] (lt : κ → κ → Bool) (d v : α) (k j : κ) (m : Map κ α) :
    Map.get d (Map.put lt k v m) j = if j = k then v else Map.get d m j := by
  by_cases h : j = k
  · subst h
    simp [Map.get_put_self]
  · simp [h, Map.get_put_ne]

theorem Map.get_del_ne {κ α : Type} [DecidableEq κ] (d : α) {k j : κ} (m : Map κ α) (hj : j ≠ k) :
    Map.get d (Map.del k m) j = Map.get d m j := by
  induction m with
  | nil => simp [Map.del]
  | cons e m ih =>
    obtain ⟨k', v'⟩ := e
    by_cases h : k' = k
    · subst h
      simp [Map.del, Map.get, hj.symm]
    · simp [Map.del, Map.get, h, ih]

@[simp] theorem NMap.get_put_self {α : Type} (d v : α) (k : Nat) (m : NMap α) : NMap.get d (NMap.put k v m) k = v :=
  Map.get_put_self ..

theorem NMap.get_put {α : Type} (d v : α) (k j : Nat) (m : NMap α) :
    NMap.get d (NMap.put k v m) j = if j = k then v else NMap.get d m j := Map.get_put ..

theorem NMap.get_put_ne {α : Type} (d v : α) {k j : Nat} (m : NMap α) (h : j ≠ k) :
    NMap.get d (NMap.put k v m) j = NMap.get d m j := Map.get_put_ne _ _ _ _ h

@[simp] theorem PMap.get_put_self {α : Type} (d v : α) (k : Nat × Nat) (m : PMap α) : PMap.get d (PMap.put k v m) k = v :=
  Map.get_put_self ..

theorem PMap.get_put {α : Type} (d v : α) (k j : Nat × Nat) (m : PMap α) :
    PMap.get d (PMap.put k v m) j = if j = k then v else PMap.get d m j := Map.get_put ..

/-! ### Rising keys -/

/-- In a store with rising keys, every key is above a bound that the first key is above. -/
def Map.above {κ α : Type} (lt : κ → κ → Bool) (b : κ) : Map κ α → Bool
  | [] => true
  | (k, _) :: _ => lt b k

theorem Map.above_cons {κ α : Type} (lt : κ → κ → Bool) (b k : κ) (v : α) (m : Map κ α) :
    Map.above lt b ((k, v) :: m) = lt b k := rfl

theorem Map.sorted_cons {κ α : Type} (lt : κ → κ → Bool) (k : κ) (v : α) (m : Map κ α) :
    Map.sorted lt ((k, v) :: m) = (Map.above lt k m && Map.sorted lt m) := by
  cases m with
  | nil => simp [Map.sorted, Map.above]
  | cons e m => simp [Map.sorted, Map.above]

theorem Map.above_put {κ α : Type} [DecidableEq κ] (lt : κ → κ → Bool) {b k : κ} (v : α) (m : Map κ α)
    (hb : Map.above lt b m = true) (hk : lt b k = true) : Map.above lt b (Map.put lt k v m) = true := by
  cases m with
  | nil => simpa [Map.put, Map.above] using hk
  | cons e m =>
    obtain ⟨k', v'⟩ := e
    simp only [Map.above] at hb
    by_cases h : k' = k
    · simpa [Map.put, h, Map.above] using hk
    · by_cases h2 : lt k k' = true <;> simp [Map.put, h, h2, Map.above, hk, hb]

/-- An order in which two distinct keys stand one way or the other, and which is transitive. -/
structure Ordered {κ : Type} (lt : κ → κ → Bool) : Prop where
  total : ∀ a b, a ≠ b → lt a b = false → lt b a = true
  trans : ∀ a b c, lt a b = true → lt b c = true → lt a c = true

theorem natLt_ordered : Ordered natLt where
  total a b h h2 := by simp [natLt] at *; omega
  trans a b c h h2 := by simp [natLt] at *; omega

theorem pairLt_ordered : Ordered pairLt where
  total a b h h2 := by
    obtain ⟨a1, a2⟩ := a
    obtain ⟨b1, b2⟩ := b
    simp [pairLt] at *
    omega
  trans a b c h h2 := by
    obtain ⟨a1, a2⟩ := a
    obtain ⟨b1, b2⟩ := b
    obtain ⟨c1, c2⟩ := c
    simp [pairLt] at *
    omega

theorem Map.sorted_put {κ α : Type} [DecidableEq κ] {lt : κ → κ → Bool} (o : Ordered lt) (k : κ) (v : α) (m : Map κ α)
    (h : Map.sorted lt m = true) : Map.sorted lt (Map.put lt k v m) = true := by
  induction m with
  | nil => simp [Map.put, Map.sorted]
  | cons e m ih =>
    obtain ⟨k', v'⟩ := e
    rw [Map.sorted_cons, Bool.and_eq_true] at h
    by_cases h1 : k' = k
    · subst h1
      simp [Map.put, Map.sorted_cons, h]
    · by_cases h2 : lt k k' = true
      · simp [Map.put, h1, h2, Map.sorted_cons, Map.above_cons, h]
      · have h3 : lt k' k = true := o.total k k' (Ne.symm h1) (by simpa using h2)
        simp [Map.put, h1, h2, Map.sorted_cons, Map.above_put, ih h.2, h.1, h3]

theorem Map.above_del {κ α : Type} [DecidableEq κ] {lt : κ → κ → Bool} (o : Ordered lt) {b : κ} (k : κ) (m : Map κ α)
    (h : Map.sorted lt m = true) (hb : Map.above lt b m = true) : Map.above lt b (Map.del k m) = true := by
  cases m with
  | nil => simp [Map.del, Map.above]
  | cons e m =>
    obtain ⟨k', v'⟩ := e
    by_cases h1 : k' = k
    · cases m with
      | nil => simp [Map.del, h1, Map.above]
      | cons e2 m2 =>
        simp only [Map.sorted, Map.above, Bool.and_eq_true] at h hb
        simp [Map.del, h1, Map.above, o.trans _ _ _ hb h.1]
    · simpa [Map.del, h1, Map.above] using hb

theorem Map.sorted_del {κ α : Type} [DecidableEq κ] {lt : κ → κ → Bool} (o : Ordered lt) (k : κ) (m : Map κ α)
    (h : Map.sorted lt m = true) : Map.sorted lt (Map.del k m) = true := by
  induction m with
  | nil => simp [Map.del, Map.sorted]
  | cons e m ih =>
    obtain ⟨k', v'⟩ := e
    have h' := h
    rw [Map.sorted_cons, Bool.and_eq_true] at h'
    by_cases h1 : k' = k
    · simp [Map.del, h1, h'.2]
    · simp [Map.del, h1, Map.sorted_cons, ih h'.2, Map.above_del o k m h'.2 h'.1]

theorem Map.get_above {κ α : Type} [DecidableEq κ] {lt : κ → κ → Bool} (o : Ordered lt) (irr : ∀ a, lt a a = false) (d : α)
    (k : κ) (m : Map κ α) (h : Map.sorted lt m = true) (hb : Map.above lt k m = true) : Map.get d m k = d := by
  induction m with
  | nil => simp [Map.get]
  | cons e m ih =>
    obtain ⟨k', v'⟩ := e
    rw [Map.sorted_cons, Bool.and_eq_true] at h
    simp only [Map.above] at hb
    have hne : k' ≠ k := fun he => by
      subst he
      simp [irr] at hb
    have hb2 : Map.above lt k m = true := by
      cases m with
      | nil => simp [Map.above]
      | cons e2 m2 =>
        have := h.1
        simp only [Map.above] at this ⊢
        exact o.trans _ _ _ hb this
    simp [Map.get, hne, ih h.2 hb2]

/-- A deleted key reads as the default. -/
theorem Map.get_del_self {κ α : Type} [DecidableEq κ] {lt : κ → κ → Bool} (o : Ordered lt) (irr : ∀ a, lt a a = false) (d : α)
    (k : κ) (m : Map κ α) (h : Map.sorted lt m = true) : Map.get d (Map.del k m) k = d := by
  induction m with
  | nil => simp [Map.del, Map.get]
  | cons e m ih =>
    obtain ⟨k', v'⟩ := e
    have h' := h
    rw [Map.sorted_cons, Bool.and_eq_true] at h'
    by_cases h1 : k' = k
    · subst h1
      simp [Map.del, Map.get_above o irr d k' m h'.2 h'.1]
    · simp [Map.del, h1, Map.get, ih h'.2]

theorem natLt_irrefl (a : Nat) : natLt a a = false := by simp [natLt]

theorem Map.sorted_filter {κ α : Type} {lt : κ → κ → Bool} (o : Ordered lt) (p : κ × α → Bool) (m : Map κ α)
    (h : Map.sorted lt m = true) : Map.sorted lt (m.filter p) = true ∧ ∀ b, Map.above lt b m = true → Map.above lt b (m.filter p) = true := by
  induction m with
  | nil => simp [Map.sorted, Map.above]
  | cons e m ih =>
    obtain ⟨k', v'⟩ := e
    rw [Map.sorted_cons, Bool.and_eq_true] at h
    obtain ⟨i1, i2⟩ := ih h.2
    by_cases hp : p (k', v') = true
    · rw [List.filter_cons_of_pos hp]
      simp [Map.sorted_cons, i1, i2 k' h.1, Map.above_cons]
    · rw [List.filter_cons_of_neg hp]
      refine ⟨i1, fun b hb => i2 b ?_⟩
      simp only [Map.above] at hb
      cases m with
      | nil => simp [Map.above]
      | cons e2 m2 =>
        have := h.1
        simp only [Map.above] at this ⊢
        exact o.trans _ _ _ hb this

end Sys2Proof.Machine
end

