-- ==== Sys2Proof/Laws/State.lean ====
section
/-!
SUPPORT. What each named update of the state leaves alone, field by field, and what a read sees after it.
-/

namespace Sys2Proof.Machine

/-! ### `State.wr` -/

@[simp] theorem State.wr_latch (s : State) (f : Fld) (i v : Nat) : (s.wr f i v).latch = s.latch := rfl
@[simp] theorem State.wr_mem (s : State) (f : Fld) (i v : Nat) : (s.wr f i v).mem = s.mem := rfl
@[simp] theorem State.wr_poison (s : State) (f : Fld) (i v : Nat) : (s.wr f i v).poison = s.poison := rfl
@[simp] theorem State.wr_lost (s : State) (f : Fld) (i v : Nat) : (s.wr f i v).lost = s.lost := rfl
@[simp] theorem State.wr_tbc (s : State) (f : Fld) (i v : Nat) : (s.wr f i v).tbc = s.tbc := rfl
@[simp] theorem State.wr_tbcCopies (s : State) (f : Fld) (i v : Nat) : (s.wr f i v).tbcCopies = s.tbcCopies := rfl
@[simp] theorem State.wr_disabling (s : State) (f : Fld) (i v : Nat) : (s.wr f i v).disabling = s.disabling := rfl
@[simp] theorem State.wr_free (s : State) (f : Fld) (i v : Nat) : (s.wr f i v).free = s.free := rfl
@[simp] theorem State.wr_rdata (s : State) (f : Fld) (i v : Nat) : (s.wr f i v).rdata = s.rdata := rfl
@[simp] theorem State.wr_out (s : State) (f : Fld) (i v : Nat) : (s.wr f i v).out = s.out := rfl
@[simp] theorem State.wr_cores (s : State) (f : Fld) (i v : Nat) : (s.wr f i v).cores = s.cores := rfl
@[simp] theorem State.wr_sig (s : State) (f : Fld) (i v : Nat) : (s.wr f i v).sig = s.sig := rfl
@[simp] theorem State.wr_dma (s : State) (f : Fld) (i v : Nat) : (s.wr f i v).dma = s.dma := rfl
@[simp] theorem State.wr_hbm (s : State) (f : Fld) (i v : Nat) : (s.wr f i v).hbm = s.hbm := rfl
@[simp] theorem State.wr_xlt (s : State) (f : Fld) (i v : Nat) : (s.wr f i v).xlt = s.xlt := rfl
@[simp] theorem State.wr_host (s : State) (f : Fld) (i v : Nat) : (s.wr f i v).host = s.host := rfl
@[simp] theorem State.wr_recov (s : State) (f : Fld) (i v : Nat) : (s.wr f i v).recov = s.recov := rfl
@[simp] theorem State.wr_log (s : State) (f : Fld) (i v : Nat) : (s.wr f i v).log = s.log := rfl
@[simp] theorem State.wr_dbg (s : State) (f : Fld) (i v : Nat) : (s.wr f i v).dbg = s.dbg := rfl
@[simp] theorem State.wr_net (s : State) (f : Fld) (i v : Nat) : (s.wr f i v).net = s.net := rfl
@[simp] theorem State.wr_step (s : State) (f : Fld) (i v : Nat) : (s.wr f i v).step = s.step := rfl
@[simp] theorem State.wr_coll (s : State) (f : Fld) (i v : Nat) : (s.wr f i v).coll = s.coll := rfl
@[simp] theorem State.wr_agree (s : State) (f : Fld) (i v : Nat) : (s.wr f i v).agree = s.agree := rfl
@[simp] theorem State.wr_pwr (s : State) (f : Fld) (i v : Nat) : (s.wr f i v).pwr = s.pwr := rfl
@[simp] theorem State.wr_fw (s : State) (f : Fld) (i v : Nat) : (s.wr f i v).fw = s.fw := rfl
@[simp] theorem State.wr_ksb (s : State) (f : Fld) (i v : Nat) : (s.wr f i v).ksb = s.ksb := rfl
@[simp] theorem State.wr_boot (s : State) (f : Fld) (i v : Nat) : (s.wr f i v).boot = s.boot := rfl
@[simp] theorem State.wr_l2 (s : State) (f : Fld) (i v : Nat) : (s.wr f i v).l2 = s.l2 := rfl
@[simp] theorem State.wr_pending (s : State) (f : Fld) (i v : Nat) : (s.wr f i v).pending = s.pending := rfl

/-! ### `State.setCore` -/

@[simp] theorem State.setCore_regs (s : State) (c : Nat) (x : Core) : (s.setCore c x).regs = s.regs := rfl
@[simp] theorem State.setCore_latch (s : State) (c : Nat) (x : Core) : (s.setCore c x).latch = s.latch := rfl
@[simp] theorem State.setCore_mem (s : State) (c : Nat) (x : Core) : (s.setCore c x).mem = s.mem := rfl
@[simp] theorem State.setCore_poison (s : State) (c : Nat) (x : Core) : (s.setCore c x).poison = s.poison := rfl
@[simp] theorem State.setCore_lost (s : State) (c : Nat) (x : Core) : (s.setCore c x).lost = s.lost := rfl
@[simp] theorem State.setCore_tbc (s : State) (c : Nat) (x : Core) : (s.setCore c x).tbc = s.tbc := rfl
@[simp] theorem State.setCore_tbcCopies (s : State) (c : Nat) (x : Core) : (s.setCore c x).tbcCopies = s.tbcCopies := rfl
@[simp] theorem State.setCore_disabling (s : State) (c : Nat) (x : Core) : (s.setCore c x).disabling = s.disabling := rfl
@[simp] theorem State.setCore_free (s : State) (c : Nat) (x : Core) : (s.setCore c x).free = s.free := rfl
@[simp] theorem State.setCore_rdata (s : State) (c : Nat) (x : Core) : (s.setCore c x).rdata = s.rdata := rfl
@[simp] theorem State.setCore_out (s : State) (c : Nat) (x : Core) : (s.setCore c x).out = s.out := rfl
@[simp] theorem State.setCore_sig (s : State) (c : Nat) (x : Core) : (s.setCore c x).sig = s.sig := rfl
@[simp] theorem State.setCore_dma (s : State) (c : Nat) (x : Core) : (s.setCore c x).dma = s.dma := rfl
@[simp] theorem State.setCore_hbm (s : State) (c : Nat) (x : Core) : (s.setCore c x).hbm = s.hbm := rfl
@[simp] theorem State.setCore_xlt (s : State) (c : Nat) (x : Core) : (s.setCore c x).xlt = s.xlt := rfl
@[simp] theorem State.setCore_host (s : State) (c : Nat) (x : Core) : (s.setCore c x).host = s.host := rfl
@[simp] theorem State.setCore_recov (s : State) (c : Nat) (x : Core) : (s.setCore c x).recov = s.recov := rfl
@[simp] theorem State.setCore_log (s : State) (c : Nat) (x : Core) : (s.setCore c x).log = s.log := rfl
@[simp] theorem State.setCore_dbg (s : State) (c : Nat) (x : Core) : (s.setCore c x).dbg = s.dbg := rfl
@[simp] theorem State.setCore_net (s : State) (c : Nat) (x : Core) : (s.setCore c x).net = s.net := rfl
@[simp] theorem State.setCore_step (s : State) (c : Nat) (x : Core) : (s.setCore c x).step = s.step := rfl
@[simp] theorem State.setCore_coll (s : State) (c : Nat) (x : Core) : (s.setCore c x).coll = s.coll := rfl
@[simp] theorem State.setCore_agree (s : State) (c : Nat) (x : Core) : (s.setCore c x).agree = s.agree := rfl
@[simp] theorem State.setCore_pwr (s : State) (c : Nat) (x : Core) : (s.setCore c x).pwr = s.pwr := rfl
@[simp] theorem State.setCore_fw (s : State) (c : Nat) (x : Core) : (s.setCore c x).fw = s.fw := rfl
@[simp] theorem State.setCore_ksb (s : State) (c : Nat) (x : Core) : (s.setCore c x).ksb = s.ksb := rfl
@[simp] theorem State.setCore_boot (s : State) (c : Nat) (x : Core) : (s.setCore c x).boot = s.boot := rfl
@[simp] theorem State.setCore_l2 (s : State) (c : Nat) (x : Core) : (s.setCore c x).l2 = s.l2 := rfl
@[simp] theorem State.setCore_pending (s : State) (c : Nat) (x : Core) : (s.setCore c x).pending = s.pending := rfl

/-! ### `State.setEng` -/

@[simp] theorem State.setEng_regs (s : State) (e : Nat) (x : DmaEng) : (s.setEng e x).regs = s.regs := rfl
@[simp] theorem State.setEng_latch (s : State) (e : Nat) (x : DmaEng) : (s.setEng e x).latch = s.latch := rfl
@[simp] theorem State.setEng_mem (s : State) (e : Nat) (x : DmaEng) : (s.setEng e x).mem = s.mem := rfl
@[simp] theorem State.setEng_poison (s : State) (e : Nat) (x : DmaEng) : (s.setEng e x).poison = s.poison := rfl
@[simp] theorem State.setEng_lost (s : State) (e : Nat) (x : DmaEng) : (s.setEng e x).lost = s.lost := rfl
@[simp] theorem State.setEng_tbc (s : State) (e : Nat) (x : DmaEng) : (s.setEng e x).tbc = s.tbc := rfl
@[simp] theorem State.setEng_tbcCopies (s : State) (e : Nat) (x : DmaEng) : (s.setEng e x).tbcCopies = s.tbcCopies := rfl
@[simp] theorem State.setEng_disabling (s : State) (e : Nat) (x : DmaEng) : (s.setEng e x).disabling = s.disabling := rfl
@[simp] theorem State.setEng_free (s : State) (e : Nat) (x : DmaEng) : (s.setEng e x).free = s.free := rfl
@[simp] theorem State.setEng_rdata (s : State) (e : Nat) (x : DmaEng) : (s.setEng e x).rdata = s.rdata := rfl
@[simp] theorem State.setEng_out (s : State) (e : Nat) (x : DmaEng) : (s.setEng e x).out = s.out := rfl
@[simp] theorem State.setEng_cores (s : State) (e : Nat) (x : DmaEng) : (s.setEng e x).cores = s.cores := rfl
@[simp] theorem State.setEng_sig (s : State) (e : Nat) (x : DmaEng) : (s.setEng e x).sig = s.sig := rfl
@[simp] theorem State.setEng_hbm (s : State) (e : Nat) (x : DmaEng) : (s.setEng e x).hbm = s.hbm := rfl
@[simp] theorem State.setEng_xlt (s : State) (e : Nat) (x : DmaEng) : (s.setEng e x).xlt = s.xlt := rfl
@[simp] theorem State.setEng_host (s : State) (e : Nat) (x : DmaEng) : (s.setEng e x).host = s.host := rfl
@[simp] theorem State.setEng_recov (s : State) (e : Nat) (x : DmaEng) : (s.setEng e x).recov = s.recov := rfl
@[simp] theorem State.setEng_log (s : State) (e : Nat) (x : DmaEng) : (s.setEng e x).log = s.log := rfl
@[simp] theorem State.setEng_dbg (s : State) (e : Nat) (x : DmaEng) : (s.setEng e x).dbg = s.dbg := rfl
@[simp] theorem State.setEng_net (s : State) (e : Nat) (x : DmaEng) : (s.setEng e x).net = s.net := rfl
@[simp] theorem State.setEng_step (s : State) (e : Nat) (x : DmaEng) : (s.setEng e x).step = s.step := rfl
@[simp] theorem State.setEng_coll (s : State) (e : Nat) (x : DmaEng) : (s.setEng e x).coll = s.coll := rfl
@[simp] theorem State.setEng_agree (s : State) (e : Nat) (x : DmaEng) : (s.setEng e x).agree = s.agree := rfl
@[simp] theorem State.setEng_pwr (s : State) (e : Nat) (x : DmaEng) : (s.setEng e x).pwr = s.pwr := rfl
@[simp] theorem State.setEng_fw (s : State) (e : Nat) (x : DmaEng) : (s.setEng e x).fw = s.fw := rfl
@[simp] theorem State.setEng_ksb (s : State) (e : Nat) (x : DmaEng) : (s.setEng e x).ksb = s.ksb := rfl
@[simp] theorem State.setEng_boot (s : State) (e : Nat) (x : DmaEng) : (s.setEng e x).boot = s.boot := rfl
@[simp] theorem State.setEng_l2 (s : State) (e : Nat) (x : DmaEng) : (s.setEng e x).l2 = s.l2 := rfl
@[simp] theorem State.setEng_pending (s : State) (e : Nat) (x : DmaEng) : (s.setEng e x).pending = s.pending := rfl

/-! ### `State.setCq` -/

@[simp] theorem State.setCq_regs (s : State) (q : Nat) (x : CmdQ) : (s.setCq q x).regs = s.regs := rfl
@[simp] theorem State.setCq_latch (s : State) (q : Nat) (x : CmdQ) : (s.setCq q x).latch = s.latch := rfl
@[simp] theorem State.setCq_mem (s : State) (q : Nat) (x : CmdQ) : (s.setCq q x).mem = s.mem := rfl
@[simp] theorem State.setCq_poison (s : State) (q : Nat) (x : CmdQ) : (s.setCq q x).poison = s.poison := rfl
@[simp] theorem State.setCq_lost (s : State) (q : Nat) (x : CmdQ) : (s.setCq q x).lost = s.lost := rfl
@[simp] theorem State.setCq_tbc (s : State) (q : Nat) (x : CmdQ) : (s.setCq q x).tbc = s.tbc := rfl
@[simp] theorem State.setCq_tbcCopies (s : State) (q : Nat) (x : CmdQ) : (s.setCq q x).tbcCopies = s.tbcCopies := rfl
@[simp] theorem State.setCq_disabling (s : State) (q : Nat) (x : CmdQ) : (s.setCq q x).disabling = s.disabling := rfl
@[simp] theorem State.setCq_free (s : State) (q : Nat) (x : CmdQ) : (s.setCq q x).free = s.free := rfl
@[simp] theorem State.setCq_rdata (s : State) (q : Nat) (x : CmdQ) : (s.setCq q x).rdata = s.rdata := rfl
@[simp] theorem State.setCq_out (s : State) (q : Nat) (x : CmdQ) : (s.setCq q x).out = s.out := rfl
@[simp] theorem State.setCq_cores (s : State) (q : Nat) (x : CmdQ) : (s.setCq q x).cores = s.cores := rfl
@[simp] theorem State.setCq_sig (s : State) (q : Nat) (x : CmdQ) : (s.setCq q x).sig = s.sig := rfl
@[simp] theorem State.setCq_dma (s : State) (q : Nat) (x : CmdQ) : (s.setCq q x).dma = s.dma := rfl
@[simp] theorem State.setCq_hbm (s : State) (q : Nat) (x : CmdQ) : (s.setCq q x).hbm = s.hbm := rfl
@[simp] theorem State.setCq_xlt (s : State) (q : Nat) (x : CmdQ) : (s.setCq q x).xlt = s.xlt := rfl
@[simp] theorem State.setCq_recov (s : State) (q : Nat) (x : CmdQ) : (s.setCq q x).recov = s.recov := rfl
@[simp] theorem State.setCq_log (s : State) (q : Nat) (x : CmdQ) : (s.setCq q x).log = s.log := rfl
@[simp] theorem State.setCq_dbg (s : State) (q : Nat) (x : CmdQ) : (s.setCq q x).dbg = s.dbg := rfl
@[simp] theorem State.setCq_net (s : State) (q : Nat) (x : CmdQ) : (s.setCq q x).net = s.net := rfl
@[simp] theorem State.setCq_step (s : State) (q : Nat) (x : CmdQ) : (s.setCq q x).step = s.step := rfl
@[simp] theorem State.setCq_coll (s : State) (q : Nat) (x : CmdQ) : (s.setCq q x).coll = s.coll := rfl
@[simp] theorem State.setCq_agree (s : State) (q : Nat) (x : CmdQ) : (s.setCq q x).agree = s.agree := rfl
@[simp] theorem State.setCq_pwr (s : State) (q : Nat) (x : CmdQ) : (s.setCq q x).pwr = s.pwr := rfl
@[simp] theorem State.setCq_fw (s : State) (q : Nat) (x : CmdQ) : (s.setCq q x).fw = s.fw := rfl
@[simp] theorem State.setCq_ksb (s : State) (q : Nat) (x : CmdQ) : (s.setCq q x).ksb = s.ksb := rfl
@[simp] theorem State.setCq_boot (s : State) (q : Nat) (x : CmdQ) : (s.setCq q x).boot = s.boot := rfl
@[simp] theorem State.setCq_l2 (s : State) (q : Nat) (x : CmdQ) : (s.setCq q x).l2 = s.l2 := rfl
@[simp] theorem State.setCq_pending (s : State) (q : Nat) (x : CmdQ) : (s.setCq q x).pending = s.pending := rfl

/-! ### `State.setEq` -/

@[simp] theorem State.setEq_regs (s : State) (q : Nat) (x : EvQ) : (s.setEq q x).regs = s.regs := rfl
@[simp] theorem State.setEq_latch (s : State) (q : Nat) (x : EvQ) : (s.setEq q x).latch = s.latch := rfl
@[simp] theorem State.setEq_mem (s : State) (q : Nat) (x : EvQ) : (s.setEq q x).mem = s.mem := rfl
@[simp] theorem State.setEq_poison (s : State) (q : Nat) (x : EvQ) : (s.setEq q x).poison = s.poison := rfl
@[simp] theorem State.setEq_lost (s : State) (q : Nat) (x : EvQ) : (s.setEq q x).lost = s.lost := rfl
@[simp] theorem State.setEq_tbc (s : State) (q : Nat) (x : EvQ) : (s.setEq q x).tbc = s.tbc := rfl
@[simp] theorem State.setEq_tbcCopies (s : State) (q : Nat) (x : EvQ) : (s.setEq q x).tbcCopies = s.tbcCopies := rfl
@[simp] theorem State.setEq_disabling (s : State) (q : Nat) (x : EvQ) : (s.setEq q x).disabling = s.disabling := rfl
@[simp] theorem State.setEq_free (s : State) (q : Nat) (x : EvQ) : (s.setEq q x).free = s.free := rfl
@[simp] theorem State.setEq_rdata (s : State) (q : Nat) (x : EvQ) : (s.setEq q x).rdata = s.rdata := rfl
@[simp] theorem State.setEq_out (s : State) (q : Nat) (x : EvQ) : (s.setEq q x).out = s.out := rfl
@[simp] theorem State.setEq_cores (s : State) (q : Nat) (x : EvQ) : (s.setEq q x).cores = s.cores := rfl
@[simp] theorem State.setEq_sig (s : State) (q : Nat) (x : EvQ) : (s.setEq q x).sig = s.sig := rfl
@[simp] theorem State.setEq_dma (s : State) (q : Nat) (x : EvQ) : (s.setEq q x).dma = s.dma := rfl
@[simp] theorem State.setEq_hbm (s : State) (q : Nat) (x : EvQ) : (s.setEq q x).hbm = s.hbm := rfl
@[simp] theorem State.setEq_xlt (s : State) (q : Nat) (x : EvQ) : (s.setEq q x).xlt = s.xlt := rfl
@[simp] theorem State.setEq_recov (s : State) (q : Nat) (x : EvQ) : (s.setEq q x).recov = s.recov := rfl
@[simp] theorem State.setEq_log (s : State) (q : Nat) (x : EvQ) : (s.setEq q x).log = s.log := rfl
@[simp] theorem State.setEq_dbg (s : State) (q : Nat) (x : EvQ) : (s.setEq q x).dbg = s.dbg := rfl
@[simp] theorem State.setEq_net (s : State) (q : Nat) (x : EvQ) : (s.setEq q x).net = s.net := rfl
@[simp] theorem State.setEq_step (s : State) (q : Nat) (x : EvQ) : (s.setEq q x).step = s.step := rfl
@[simp] theorem State.setEq_coll (s : State) (q : Nat) (x : EvQ) : (s.setEq q x).coll = s.coll := rfl
@[simp] theorem State.setEq_agree (s : State) (q : Nat) (x : EvQ) : (s.setEq q x).agree = s.agree := rfl
@[simp] theorem State.setEq_pwr (s : State) (q : Nat) (x : EvQ) : (s.setEq q x).pwr = s.pwr := rfl
@[simp] theorem State.setEq_fw (s : State) (q : Nat) (x : EvQ) : (s.setEq q x).fw = s.fw := rfl
@[simp] theorem State.setEq_ksb (s : State) (q : Nat) (x : EvQ) : (s.setEq q x).ksb = s.ksb := rfl
@[simp] theorem State.setEq_boot (s : State) (q : Nat) (x : EvQ) : (s.setEq q x).boot = s.boot := rfl
@[simp] theorem State.setEq_l2 (s : State) (q : Nat) (x : EvQ) : (s.setEq q x).l2 = s.l2 := rfl
@[simp] theorem State.setEq_pending (s : State) (q : Nat) (x : EvQ) : (s.setEq q x).pending = s.pending := rfl

/-! ### `State.setStep` -/

@[simp] theorem State.setStep_regs (s : State) (fn : Nat) (x : StepSt) : (s.setStep fn x).regs = s.regs := rfl
@[simp] theorem State.setStep_latch (s : State) (fn : Nat) (x : StepSt) : (s.setStep fn x).latch = s.latch := rfl
@[simp] theorem State.setStep_mem (s : State) (fn : Nat) (x : StepSt) : (s.setStep fn x).mem = s.mem := rfl
@[simp] theorem State.setStep_poison (s : State) (fn : Nat) (x : StepSt) : (s.setStep fn x).poison = s.poison := rfl
@[simp] theorem State.setStep_lost (s : State) (fn : Nat) (x : StepSt) : (s.setStep fn x).lost = s.lost := rfl
@[simp] theorem State.setStep_tbc (s : State) (fn : Nat) (x : StepSt) : (s.setStep fn x).tbc = s.tbc := rfl
@[simp] theorem State.setStep_tbcCopies (s : State) (fn : Nat) (x : StepSt) : (s.setStep fn x).tbcCopies = s.tbcCopies := rfl
@[simp] theorem State.setStep_disabling (s : State) (fn : Nat) (x : StepSt) : (s.setStep fn x).disabling = s.disabling := rfl
@[simp] theorem State.setStep_free (s : State) (fn : Nat) (x : StepSt) : (s.setStep fn x).free = s.free := rfl
@[simp] theorem State.setStep_rdata (s : State) (fn : Nat) (x : StepSt) : (s.setStep fn x).rdata = s.rdata := rfl
@[simp] theorem State.setStep_out (s : State) (fn : Nat) (x : StepSt) : (s.setStep fn x).out = s.out := rfl
@[simp] theorem State.setStep_cores (s : State) (fn : Nat) (x : StepSt) : (s.setStep fn x).cores = s.cores := rfl
@[simp] theorem State.setStep_sig (s : State) (fn : Nat) (x : StepSt) : (s.setStep fn x).sig = s.sig := rfl
@[simp] theorem State.setStep_dma (s : State) (fn : Nat) (x : StepSt) : (s.setStep fn x).dma = s.dma := rfl
@[simp] theorem State.setStep_hbm (s : State) (fn : Nat) (x : StepSt) : (s.setStep fn x).hbm = s.hbm := rfl
@[simp] theorem State.setStep_xlt (s : State) (fn : Nat) (x : StepSt) : (s.setStep fn x).xlt = s.xlt := rfl
@[simp] theorem State.setStep_host (s : State) (fn : Nat) (x : StepSt) : (s.setStep fn x).host = s.host := rfl
@[simp] theorem State.setStep_recov (s : State) (fn : Nat) (x : StepSt) : (s.setStep fn x).recov = s.recov := rfl
@[simp] theorem State.setStep_log (s : State) (fn : Nat) (x : StepSt) : (s.setStep fn x).log = s.log := rfl
@[simp] theorem State.setStep_dbg (s : State) (fn : Nat) (x : StepSt) : (s.setStep fn x).dbg = s.dbg := rfl
@[simp] theorem State.setStep_net (s : State) (fn : Nat) (x : StepSt) : (s.setStep fn x).net = s.net := rfl
@[simp] theorem State.setStep_coll (s : State) (fn : Nat) (x : StepSt) : (s.setStep fn x).coll = s.coll := rfl
@[simp] theorem State.setStep_agree (s : State) (fn : Nat) (x : StepSt) : (s.setStep fn x).agree = s.agree := rfl
@[simp] theorem State.setStep_pwr (s : State) (fn : Nat) (x : StepSt) : (s.setStep fn x).pwr = s.pwr := rfl
@[simp] theorem State.setStep_fw (s : State) (fn : Nat) (x : StepSt) : (s.setStep fn x).fw = s.fw := rfl
@[simp] theorem State.setStep_ksb (s : State) (fn : Nat) (x : StepSt) : (s.setStep fn x).ksb = s.ksb := rfl
@[simp] theorem State.setStep_boot (s : State) (fn : Nat) (x : StepSt) : (s.setStep fn x).boot = s.boot := rfl
@[simp] theorem State.setStep_l2 (s : State) (fn : Nat) (x : StepSt) : (s.setStep fn x).l2 = s.l2 := rfl
@[simp] theorem State.setStep_pending (s : State) (fn : Nat) (x : StepSt) : (s.setStep fn x).pending = s.pending := rfl

/-! ### `State.setPort` -/

@[simp] theorem State.setPort_regs (s : State) (p : Nat) (x : Port) : (s.setPort p x).regs = s.regs := rfl
@[simp] theorem State.setPort_latch (s : State) (p : Nat) (x : Port) : (s.setPort p x).latch = s.latch := rfl
@[simp] theorem State.setPort_mem (s : State) (p : Nat) (x : Port) : (s.setPort p x).mem = s.mem := rfl
@[simp] theorem State.setPort_poison (s : State) (p : Nat) (x : Port) : (s.setPort p x).poison = s.poison := rfl
@[simp] theorem State.setPort_lost (s : State) (p : Nat) (x : Port) : (s.setPort p x).lost = s.lost := rfl
@[simp] theorem State.setPort_tbc (s : State) (p : Nat) (x : Port) : (s.setPort p x).tbc = s.tbc := rfl
@[simp] theorem State.setPort_tbcCopies (s : State) (p : Nat) (x : Port) : (s.setPort p x).tbcCopies = s.tbcCopies := rfl
@[simp] theorem State.setPort_disabling (s : State) (p : Nat) (x : Port) : (s.setPort p x).disabling = s.disabling := rfl
@[simp] theorem State.setPort_free (s : State) (p : Nat) (x : Port) : (s.setPort p x).free = s.free := rfl
@[simp] theorem State.setPort_rdata (s : State) (p : Nat) (x : Port) : (s.setPort p x).rdata = s.rdata := rfl
@[simp] theorem State.setPort_out (s : State) (p : Nat) (x : Port) : (s.setPort p x).out = s.out := rfl
@[simp] theorem State.setPort_cores (s : State) (p : Nat) (x : Port) : (s.setPort p x).cores = s.cores := rfl
@[simp] theorem State.setPort_sig (s : State) (p : Nat) (x : Port) : (s.setPort p x).sig = s.sig := rfl
@[simp] theorem State.setPort_dma (s : State) (p : Nat) (x : Port) : (s.setPort p x).dma = s.dma := rfl
@[simp] theorem State.setPort_hbm (s : State) (p : Nat) (x : Port) : (s.setPort p x).hbm = s.hbm := rfl
@[simp] theorem State.setPort_xlt (s : State) (p : Nat) (x : Port) : (s.setPort p x).xlt = s.xlt := rfl
@[simp] theorem State.setPort_host (s : State) (p : Nat) (x : Port) : (s.setPort p x).host = s.host := rfl
@[simp] theorem State.setPort_recov (s : State) (p : Nat) (x : Port) : (s.setPort p x).recov = s.recov := rfl
@[simp] theorem State.setPort_log (s : State) (p : Nat) (x : Port) : (s.setPort p x).log = s.log := rfl
@[simp] theorem State.setPort_dbg (s : State) (p : Nat) (x : Port) : (s.setPort p x).dbg = s.dbg := rfl
@[simp] theorem State.setPort_step (s : State) (p : Nat) (x : Port) : (s.setPort p x).step = s.step := rfl
@[simp] theorem State.setPort_coll (s : State) (p : Nat) (x : Port) : (s.setPort p x).coll = s.coll := rfl
@[simp] theorem State.setPort_agree (s : State) (p : Nat) (x : Port) : (s.setPort p x).agree = s.agree := rfl
@[simp] theorem State.setPort_pwr (s : State) (p : Nat) (x : Port) : (s.setPort p x).pwr = s.pwr := rfl
@[simp] theorem State.setPort_fw (s : State) (p : Nat) (x : Port) : (s.setPort p x).fw = s.fw := rfl
@[simp] theorem State.setPort_ksb (s : State) (p : Nat) (x : Port) : (s.setPort p x).ksb = s.ksb := rfl
@[simp] theorem State.setPort_boot (s : State) (p : Nat) (x : Port) : (s.setPort p x).boot = s.boot := rfl
@[simp] theorem State.setPort_l2 (s : State) (p : Nat) (x : Port) : (s.setPort p x).l2 = s.l2 := rfl
@[simp] theorem State.setPort_pending (s : State) (p : Nat) (x : Port) : (s.setPort p x).pending = s.pending := rfl

/-! ### `State.setFlow` -/

@[simp] theorem State.setFlow_regs (s : State) (f : Nat) (x : Flow) : (s.setFlow f x).regs = s.regs := rfl
@[simp] theorem State.setFlow_latch (s : State) (f : Nat) (x : Flow) : (s.setFlow f x).latch = s.latch := rfl
@[simp] theorem State.setFlow_mem (s : State) (f : Nat) (x : Flow) : (s.setFlow f x).mem = s.mem := rfl
@[simp] theorem State.setFlow_poison (s : State) (f : Nat) (x : Flow) : (s.setFlow f x).poison = s.poison := rfl
@[simp] theorem State.setFlow_lost (s : State) (f : Nat) (x : Flow) : (s.setFlow f x).lost = s.lost := rfl
@[simp] theorem State.setFlow_tbc (s : State) (f : Nat) (x : Flow) : (s.setFlow f x).tbc = s.tbc := rfl
@[simp] theorem State.setFlow_tbcCopies (s : State) (f : Nat) (x : Flow) : (s.setFlow f x).tbcCopies = s.tbcCopies := rfl
@[simp] theorem State.setFlow_disabling (s : State) (f : Nat) (x : Flow) : (s.setFlow f x).disabling = s.disabling := rfl
@[simp] theorem State.setFlow_free (s : State) (f : Nat) (x : Flow) : (s.setFlow f x).free = s.free := rfl
@[simp] theorem State.setFlow_rdata (s : State) (f : Nat) (x : Flow) : (s.setFlow f x).rdata = s.rdata := rfl
@[simp] theorem State.setFlow_out (s : State) (f : Nat) (x : Flow) : (s.setFlow f x).out = s.out := rfl
@[simp] theorem State.setFlow_cores (s : State) (f : Nat) (x : Flow) : (s.setFlow f x).cores = s.cores := rfl
@[simp] theorem State.setFlow_sig (s : State) (f : Nat) (x : Flow) : (s.setFlow f x).sig = s.sig := rfl
@[simp] theorem State.setFlow_dma (s : State) (f : Nat) (x : Flow) : (s.setFlow f x).dma = s.dma := rfl
@[simp] theorem State.setFlow_hbm (s : State) (f : Nat) (x : Flow) : (s.setFlow f x).hbm = s.hbm := rfl
@[simp] theorem State.setFlow_xlt (s : State) (f : Nat) (x : Flow) : (s.setFlow f x).xlt = s.xlt := rfl
@[simp] theorem State.setFlow_host (s : State) (f : Nat) (x : Flow) : (s.setFlow f x).host = s.host := rfl
@[simp] theorem State.setFlow_recov (s : State) (f : Nat) (x : Flow) : (s.setFlow f x).recov = s.recov := rfl
@[simp] theorem State.setFlow_log (s : State) (f : Nat) (x : Flow) : (s.setFlow f x).log = s.log := rfl
@[simp] theorem State.setFlow_dbg (s : State) (f : Nat) (x : Flow) : (s.setFlow f x).dbg = s.dbg := rfl
@[simp] theorem State.setFlow_step (s : State) (f : Nat) (x : Flow) : (s.setFlow f x).step = s.step := rfl
@[simp] theorem State.setFlow_coll (s : State) (f : Nat) (x : Flow) : (s.setFlow f x).coll = s.coll := rfl
@[simp] theorem State.setFlow_agree (s : State) (f : Nat) (x : Flow) : (s.setFlow f x).agree = s.agree := rfl
@[simp] theorem State.setFlow_pwr (s : State) (f : Nat) (x : Flow) : (s.setFlow f x).pwr = s.pwr := rfl
@[simp] theorem State.setFlow_fw (s : State) (f : Nat) (x : Flow) : (s.setFlow f x).fw = s.fw := rfl
@[simp] theorem State.setFlow_ksb (s : State) (f : Nat) (x : Flow) : (s.setFlow f x).ksb = s.ksb := rfl
@[simp] theorem State.setFlow_boot (s : State) (f : Nat) (x : Flow) : (s.setFlow f x).boot = s.boot := rfl
@[simp] theorem State.setFlow_l2 (s : State) (f : Nat) (x : Flow) : (s.setFlow f x).l2 = s.l2 := rfl
@[simp] theorem State.setFlow_pending (s : State) (f : Nat) (x : Flow) : (s.setFlow f x).pending = s.pending := rfl

/-! ### `State.setCommq` -/

@[simp] theorem State.setCommq_regs (s : State) (g : Nat) (x : CollQ) : (s.setCommq g x).regs = s.regs := rfl
@[simp] theorem State.setCommq_latch (s : State) (g : Nat) (x : CollQ) : (s.setCommq g x).latch = s.latch := rfl
@[simp] theorem State.setCommq_mem (s : State) (g : Nat) (x : CollQ) : (s.setCommq g x).mem = s.mem := rfl
@[simp] theorem State.setCommq_poison (s : State) (g : Nat) (x : CollQ) : (s.setCommq g x).poison = s.poison := rfl
@[simp] theorem State.setCommq_lost (s : State) (g : Nat) (x : CollQ) : (s.setCommq g x).lost = s.lost := rfl
@[simp] theorem State.setCommq_tbc (s : State) (g : Nat) (x : CollQ) : (s.setCommq g x).tbc = s.tbc := rfl
@[simp] theorem State.setCommq_tbcCopies (s : State) (g : Nat) (x : CollQ) : (s.setCommq g x).tbcCopies = s.tbcCopies := rfl
@[simp] theorem State.setCommq_disabling (s : State) (g : Nat) (x : CollQ) : (s.setCommq g x).disabling = s.disabling := rfl
@[simp] theorem State.setCommq_free (s : State) (g : Nat) (x : CollQ) : (s.setCommq g x).free = s.free := rfl
@[simp] theorem State.setCommq_rdata (s : State) (g : Nat) (x : CollQ) : (s.setCommq g x).rdata = s.rdata := rfl
@[simp] theorem State.setCommq_out (s : State) (g : Nat) (x : CollQ) : (s.setCommq g x).out = s.out := rfl
@[simp] theorem State.setCommq_cores (s : State) (g : Nat) (x : CollQ) : (s.setCommq g x).cores = s.cores := rfl
@[simp] theorem State.setCommq_sig (s : State) (g : Nat) (x : CollQ) : (s.setCommq g x).sig = s.sig := rfl
@[simp] theorem State.setCommq_dma (s : State) (g : Nat) (x : CollQ) : (s.setCommq g x).dma = s.dma := rfl
@[simp] theorem State.setCommq_hbm (s : State) (g : Nat) (x : CollQ) : (s.setCommq g x).hbm = s.hbm := rfl
@[simp] theorem State.setCommq_xlt (s : State) (g : Nat) (x : CollQ) : (s.setCommq g x).xlt = s.xlt := rfl
@[simp] theorem State.setCommq_host (s : State) (g : Nat) (x : CollQ) : (s.setCommq g x).host = s.host := rfl
@[simp] theorem State.setCommq_recov (s : State) (g : Nat) (x : CollQ) : (s.setCommq g x).recov = s.recov := rfl
@[simp] theorem State.setCommq_log (s : State) (g : Nat) (x : CollQ) : (s.setCommq g x).log = s.log := rfl
@[simp] theorem State.setCommq_dbg (s : State) (g : Nat) (x : CollQ) : (s.setCommq g x).dbg = s.dbg := rfl
@[simp] theorem State.setCommq_net (s : State) (g : Nat) (x : CollQ) : (s.setCommq g x).net = s.net := rfl
@[simp] theorem State.setCommq_step (s : State) (g : Nat) (x : CollQ) : (s.setCommq g x).step = s.step := rfl
@[simp] theorem State.setCommq_agree (s : State) (g : Nat) (x : CollQ) : (s.setCommq g x).agree = s.agree := rfl
@[simp] theorem State.setCommq_pwr (s : State) (g : Nat) (x : CollQ) : (s.setCommq g x).pwr = s.pwr := rfl
@[simp] theorem State.setCommq_fw (s : State) (g : Nat) (x : CollQ) : (s.setCommq g x).fw = s.fw := rfl
@[simp] theorem State.setCommq_ksb (s : State) (g : Nat) (x : CollQ) : (s.setCommq g x).ksb = s.ksb := rfl
@[simp] theorem State.setCommq_boot (s : State) (g : Nat) (x : CollQ) : (s.setCommq g x).boot = s.boot := rfl
@[simp] theorem State.setCommq_l2 (s : State) (g : Nat) (x : CollQ) : (s.setCommq g x).l2 = s.l2 := rfl
@[simp] theorem State.setCommq_pending (s : State) (g : Nat) (x : CollQ) : (s.setCommq g x).pending = s.pending := rfl

/-! ### `State.emit` -/

@[simp] theorem State.emit_regs (s : State) (m : OutMsg) : (s.emit m).regs = s.regs := rfl
@[simp] theorem State.emit_latch (s : State) (m : OutMsg) : (s.emit m).latch = s.latch := rfl
@[simp] theorem State.emit_mem (s : State) (m : OutMsg) : (s.emit m).mem = s.mem := rfl
@[simp] theorem State.emit_poison (s : State) (m : OutMsg) : (s.emit m).poison = s.poison := rfl
@[simp] theorem State.emit_lost (s : State) (m : OutMsg) : (s.emit m).lost = s.lost := rfl
@[simp] theorem State.emit_tbc (s : State) (m : OutMsg) : (s.emit m).tbc = s.tbc := rfl
@[simp] theorem State.emit_tbcCopies (s : State) (m : OutMsg) : (s.emit m).tbcCopies = s.tbcCopies := rfl
@[simp] theorem State.emit_disabling (s : State) (m : OutMsg) : (s.emit m).disabling = s.disabling := rfl
@[simp] theorem State.emit_free (s : State) (m : OutMsg) : (s.emit m).free = s.free := rfl
@[simp] theorem State.emit_rdata (s : State) (m : OutMsg) : (s.emit m).rdata = s.rdata := rfl
@[simp] theorem State.emit_cores (s : State) (m : OutMsg) : (s.emit m).cores = s.cores := rfl
@[simp] theorem State.emit_sig (s : State) (m : OutMsg) : (s.emit m).sig = s.sig := rfl
@[simp] theorem State.emit_dma (s : State) (m : OutMsg) : (s.emit m).dma = s.dma := rfl
@[simp] theorem State.emit_hbm (s : State) (m : OutMsg) : (s.emit m).hbm = s.hbm := rfl
@[simp] theorem State.emit_xlt (s : State) (m : OutMsg) : (s.emit m).xlt = s.xlt := rfl
@[simp] theorem State.emit_host (s : State) (m : OutMsg) : (s.emit m).host = s.host := rfl
@[simp] theorem State.emit_recov (s : State) (m : OutMsg) : (s.emit m).recov = s.recov := rfl
@[simp] theorem State.emit_log (s : State) (m : OutMsg) : (s.emit m).log = s.log := rfl
@[simp] theorem State.emit_dbg (s : State) (m : OutMsg) : (s.emit m).dbg = s.dbg := rfl
@[simp] theorem State.emit_net (s : State) (m : OutMsg) : (s.emit m).net = s.net := rfl
@[simp] theorem State.emit_step (s : State) (m : OutMsg) : (s.emit m).step = s.step := rfl
@[simp] theorem State.emit_coll (s : State) (m : OutMsg) : (s.emit m).coll = s.coll := rfl
@[simp] theorem State.emit_agree (s : State) (m : OutMsg) : (s.emit m).agree = s.agree := rfl
@[simp] theorem State.emit_pwr (s : State) (m : OutMsg) : (s.emit m).pwr = s.pwr := rfl
@[simp] theorem State.emit_fw (s : State) (m : OutMsg) : (s.emit m).fw = s.fw := rfl
@[simp] theorem State.emit_ksb (s : State) (m : OutMsg) : (s.emit m).ksb = s.ksb := rfl
@[simp] theorem State.emit_boot (s : State) (m : OutMsg) : (s.emit m).boot = s.boot := rfl
@[simp] theorem State.emit_l2 (s : State) (m : OutMsg) : (s.emit m).l2 = s.l2 := rfl
@[simp] theorem State.emit_pending (s : State) (m : OutMsg) : (s.emit m).pending = s.pending := rfl

/-! ### `State.sigPut` -/

@[simp] theorem State.sigPut_regs (s : State) (n v : Nat) : (s.sigPut n v).regs = s.regs := rfl
@[simp] theorem State.sigPut_latch (s : State) (n v : Nat) : (s.sigPut n v).latch = s.latch := rfl
@[simp] theorem State.sigPut_mem (s : State) (n v : Nat) : (s.sigPut n v).mem = s.mem := rfl
@[simp] theorem State.sigPut_poison (s : State) (n v : Nat) : (s.sigPut n v).poison = s.poison := rfl
@[simp] theorem State.sigPut_lost (s : State) (n v : Nat) : (s.sigPut n v).lost = s.lost := rfl
@[simp] theorem State.sigPut_tbc (s : State) (n v : Nat) : (s.sigPut n v).tbc = s.tbc := rfl
@[simp] theorem State.sigPut_tbcCopies (s : State) (n v : Nat) : (s.sigPut n v).tbcCopies = s.tbcCopies := rfl
@[simp] theorem State.sigPut_disabling (s : State) (n v : Nat) : (s.sigPut n v).disabling = s.disabling := rfl
@[simp] theorem State.sigPut_free (s : State) (n v : Nat) : (s.sigPut n v).free = s.free := rfl
@[simp] theorem State.sigPut_rdata (s : State) (n v : Nat) : (s.sigPut n v).rdata = s.rdata := rfl
@[simp] theorem State.sigPut_out (s : State) (n v : Nat) : (s.sigPut n v).out = s.out := rfl
@[simp] theorem State.sigPut_cores (s : State) (n v : Nat) : (s.sigPut n v).cores = s.cores := rfl
@[simp] theorem State.sigPut_dma (s : State) (n v : Nat) : (s.sigPut n v).dma = s.dma := rfl
@[simp] theorem State.sigPut_hbm (s : State) (n v : Nat) : (s.sigPut n v).hbm = s.hbm := rfl
@[simp] theorem State.sigPut_xlt (s : State) (n v : Nat) : (s.sigPut n v).xlt = s.xlt := rfl
@[simp] theorem State.sigPut_host (s : State) (n v : Nat) : (s.sigPut n v).host = s.host := rfl
@[simp] theorem State.sigPut_recov (s : State) (n v : Nat) : (s.sigPut n v).recov = s.recov := rfl
@[simp] theorem State.sigPut_log (s : State) (n v : Nat) : (s.sigPut n v).log = s.log := rfl
@[simp] theorem State.sigPut_dbg (s : State) (n v : Nat) : (s.sigPut n v).dbg = s.dbg := rfl
@[simp] theorem State.sigPut_net (s : State) (n v : Nat) : (s.sigPut n v).net = s.net := rfl
@[simp] theorem State.sigPut_step (s : State) (n v : Nat) : (s.sigPut n v).step = s.step := rfl
@[simp] theorem State.sigPut_coll (s : State) (n v : Nat) : (s.sigPut n v).coll = s.coll := rfl
@[simp] theorem State.sigPut_agree (s : State) (n v : Nat) : (s.sigPut n v).agree = s.agree := rfl
@[simp] theorem State.sigPut_pwr (s : State) (n v : Nat) : (s.sigPut n v).pwr = s.pwr := rfl
@[simp] theorem State.sigPut_fw (s : State) (n v : Nat) : (s.sigPut n v).fw = s.fw := rfl
@[simp] theorem State.sigPut_ksb (s : State) (n v : Nat) : (s.sigPut n v).ksb = s.ksb := rfl
@[simp] theorem State.sigPut_boot (s : State) (n v : Nat) : (s.sigPut n v).boot = s.boot := rfl
@[simp] theorem State.sigPut_l2 (s : State) (n v : Nat) : (s.sigPut n v).l2 = s.l2 := rfl
@[simp] theorem State.sigPut_pending (s : State) (n v : Nat) : (s.sigPut n v).pending = s.pending := rfl

/-! ### `State.wb` -/

@[simp] theorem State.wb_regs (s : State) (a : Nat) (b : Byte) : (s.wb a b).regs = s.regs := rfl
@[simp] theorem State.wb_latch (s : State) (a : Nat) (b : Byte) : (s.wb a b).latch = s.latch := rfl
@[simp] theorem State.wb_poison (s : State) (a : Nat) (b : Byte) : (s.wb a b).poison = s.poison := rfl
@[simp] theorem State.wb_lost (s : State) (a : Nat) (b : Byte) : (s.wb a b).lost = s.lost := rfl
@[simp] theorem State.wb_tbc (s : State) (a : Nat) (b : Byte) : (s.wb a b).tbc = s.tbc := rfl
@[simp] theorem State.wb_tbcCopies (s : State) (a : Nat) (b : Byte) : (s.wb a b).tbcCopies = s.tbcCopies := rfl
@[simp] theorem State.wb_disabling (s : State) (a : Nat) (b : Byte) : (s.wb a b).disabling = s.disabling := rfl
@[simp] theorem State.wb_free (s : State) (a : Nat) (b : Byte) : (s.wb a b).free = s.free := rfl
@[simp] theorem State.wb_rdata (s : State) (a : Nat) (b : Byte) : (s.wb a b).rdata = s.rdata := rfl
@[simp] theorem State.wb_out (s : State) (a : Nat) (b : Byte) : (s.wb a b).out = s.out := rfl
@[simp] theorem State.wb_cores (s : State) (a : Nat) (b : Byte) : (s.wb a b).cores = s.cores := rfl
@[simp] theorem State.wb_sig (s : State) (a : Nat) (b : Byte) : (s.wb a b).sig = s.sig := rfl
@[simp] theorem State.wb_dma (s : State) (a : Nat) (b : Byte) : (s.wb a b).dma = s.dma := rfl
@[simp] theorem State.wb_hbm (s : State) (a : Nat) (b : Byte) : (s.wb a b).hbm = s.hbm := rfl
@[simp] theorem State.wb_xlt (s : State) (a : Nat) (b : Byte) : (s.wb a b).xlt = s.xlt := rfl
@[simp] theorem State.wb_host (s : State) (a : Nat) (b : Byte) : (s.wb a b).host = s.host := rfl
@[simp] theorem State.wb_recov (s : State) (a : Nat) (b : Byte) : (s.wb a b).recov = s.recov := rfl
@[simp] theorem State.wb_log (s : State) (a : Nat) (b : Byte) : (s.wb a b).log = s.log := rfl
@[simp] theorem State.wb_dbg (s : State) (a : Nat) (b : Byte) : (s.wb a b).dbg = s.dbg := rfl
@[simp] theorem State.wb_net (s : State) (a : Nat) (b : Byte) : (s.wb a b).net = s.net := rfl
@[simp] theorem State.wb_step (s : State) (a : Nat) (b : Byte) : (s.wb a b).step = s.step := rfl
@[simp] theorem State.wb_coll (s : State) (a : Nat) (b : Byte) : (s.wb a b).coll = s.coll := rfl
@[simp] theorem State.wb_agree (s : State) (a : Nat) (b : Byte) : (s.wb a b).agree = s.agree := rfl
@[simp] theorem State.wb_pwr (s : State) (a : Nat) (b : Byte) : (s.wb a b).pwr = s.pwr := rfl
@[simp] theorem State.wb_fw (s : State) (a : Nat) (b : Byte) : (s.wb a b).fw = s.fw := rfl
@[simp] theorem State.wb_ksb (s : State) (a : Nat) (b : Byte) : (s.wb a b).ksb = s.ksb := rfl
@[simp] theorem State.wb_boot (s : State) (a : Nat) (b : Byte) : (s.wb a b).boot = s.boot := rfl
@[simp] theorem State.wb_l2 (s : State) (a : Nat) (b : Byte) : (s.wb a b).l2 = s.l2 := rfl
@[simp] theorem State.wb_pending (s : State) (a : Nat) (b : Byte) : (s.wb a b).pending = s.pending := rfl

/-! ### `State.setPoison` -/

@[simp] theorem State.setPoison_regs (s : State) (a : Nat) (b : Bool) : (s.setPoison a b).regs = s.regs := rfl
@[simp] theorem State.setPoison_latch (s : State) (a : Nat) (b : Bool) : (s.setPoison a b).latch = s.latch := rfl
@[simp] theorem State.setPoison_mem (s : State) (a : Nat) (b : Bool) : (s.setPoison a b).mem = s.mem := rfl
@[simp] theorem State.setPoison_lost (s : State) (a : Nat) (b : Bool) : (s.setPoison a b).lost = s.lost := rfl
@[simp] theorem State.setPoison_tbc (s : State) (a : Nat) (b : Bool) : (s.setPoison a b).tbc = s.tbc := rfl
@[simp] theorem State.setPoison_tbcCopies (s : State) (a : Nat) (b : Bool) : (s.setPoison a b).tbcCopies = s.tbcCopies := rfl
@[simp] theorem State.setPoison_disabling (s : State) (a : Nat) (b : Bool) : (s.setPoison a b).disabling = s.disabling := rfl
@[simp] theorem State.setPoison_free (s : State) (a : Nat) (b : Bool) : (s.setPoison a b).free = s.free := rfl
@[simp] theorem State.setPoison_rdata (s : State) (a : Nat) (b : Bool) : (s.setPoison a b).rdata = s.rdata := rfl
@[simp] theorem State.setPoison_out (s : State) (a : Nat) (b : Bool) : (s.setPoison a b).out = s.out := rfl
@[simp] theorem State.setPoison_cores (s : State) (a : Nat) (b : Bool) : (s.setPoison a b).cores = s.cores := rfl
@[simp] theorem State.setPoison_sig (s : State) (a : Nat) (b : Bool) : (s.setPoison a b).sig = s.sig := rfl
@[simp] theorem State.setPoison_dma (s : State) (a : Nat) (b : Bool) : (s.setPoison a b).dma = s.dma := rfl
@[simp] theorem State.setPoison_hbm (s : State) (a : Nat) (b : Bool) : (s.setPoison a b).hbm = s.hbm := rfl
@[simp] theorem State.setPoison_xlt (s : State) (a : Nat) (b : Bool) : (s.setPoison a b).xlt = s.xlt := rfl
@[simp] theorem State.setPoison_host (s : State) (a : Nat) (b : Bool) : (s.setPoison a b).host = s.host := rfl
@[simp] theorem State.setPoison_recov (s : State) (a : Nat) (b : Bool) : (s.setPoison a b).recov = s.recov := rfl
@[simp] theorem State.setPoison_log (s : State) (a : Nat) (b : Bool) : (s.setPoison a b).log = s.log := rfl
@[simp] theorem State.setPoison_dbg (s : State) (a : Nat) (b : Bool) : (s.setPoison a b).dbg = s.dbg := rfl
@[simp] theorem State.setPoison_net (s : State) (a : Nat) (b : Bool) : (s.setPoison a b).net = s.net := rfl
@[simp] theorem State.setPoison_step (s : State) (a : Nat) (b : Bool) : (s.setPoison a b).step = s.step := rfl
@[simp] theorem State.setPoison_coll (s : State) (a : Nat) (b : Bool) : (s.setPoison a b).coll = s.coll := rfl
@[simp] theorem State.setPoison_agree (s : State) (a : Nat) (b : Bool) : (s.setPoison a b).agree = s.agree := rfl
@[simp] theorem State.setPoison_pwr (s : State) (a : Nat) (b : Bool) : (s.setPoison a b).pwr = s.pwr := rfl
@[simp] theorem State.setPoison_fw (s : State) (a : Nat) (b : Bool) : (s.setPoison a b).fw = s.fw := rfl
@[simp] theorem State.setPoison_ksb (s : State) (a : Nat) (b : Bool) : (s.setPoison a b).ksb = s.ksb := rfl
@[simp] theorem State.setPoison_boot (s : State) (a : Nat) (b : Bool) : (s.setPoison a b).boot = s.boot := rfl
@[simp] theorem State.setPoison_l2 (s : State) (a : Nat) (b : Bool) : (s.setPoison a b).l2 = s.l2 := rfl
@[simp] theorem State.setPoison_pending (s : State) (a : Nat) (b : Bool) : (s.setPoison a b).pending = s.pending := rfl

/-! ### `State.cnt` -/

@[simp] theorem State.cnt1_latch (s : State) (p code k n : Nat) : (s.cnt1 p code k n).latch = s.latch := by
  unfold State.cnt1; split <;> rfl
@[simp] theorem State.cnt_latch (s : State) (p code k : Nat) : (s.cnt p code k).latch = s.latch := by
  simp [State.cnt]
@[simp] theorem State.cnt1_mem (s : State) (p code k n : Nat) : (s.cnt1 p code k n).mem = s.mem := by
  unfold State.cnt1; split <;> rfl
@[simp] theorem State.cnt_mem (s : State) (p code k : Nat) : (s.cnt p code k).mem = s.mem := by
  simp [State.cnt]
@[simp] theorem State.cnt1_poison (s : State) (p code k n : Nat) : (s.cnt1 p code k n).poison = s.poison := by
  unfold State.cnt1; split <;> rfl
@[simp] theorem State.cnt_poison (s : State) (p code k : Nat) : (s.cnt p code k).poison = s.poison := by
  simp [State.cnt]
@[simp] theorem State.cnt1_lost (s : State) (p code k n : Nat) : (s.cnt1 p code k n).lost = s.lost := by
  unfold State.cnt1; split <;> rfl
@[simp] theorem State.cnt_lost (s : State) (p code k : Nat) : (s.cnt p code k).lost = s.lost := by
  simp [State.cnt]
@[simp] theorem State.cnt1_tbc (s : State) (p code k n : Nat) : (s.cnt1 p code k n).tbc = s.tbc := by
  unfold State.cnt1; split <;> rfl
@[simp] theorem State.cnt_tbc (s : State) (p code k : Nat) : (s.cnt p code k).tbc = s.tbc := by
  simp [State.cnt]
@[simp] theorem State.cnt1_tbcCopies (s : State) (p code k n : Nat) : (s.cnt1 p code k n).tbcCopies = s.tbcCopies := by
  unfold State.cnt1; split <;> rfl
@[simp] theorem State.cnt_tbcCopies (s : State) (p code k : Nat) : (s.cnt p code k).tbcCopies = s.tbcCopies := by
  simp [State.cnt]
@[simp] theorem State.cnt1_disabling (s : State) (p code k n : Nat) : (s.cnt1 p code k n).disabling = s.disabling := by
  unfold State.cnt1; split <;> rfl
@[simp] theorem State.cnt_disabling (s : State) (p code k : Nat) : (s.cnt p code k).disabling = s.disabling := by
  simp [State.cnt]
@[simp] theorem State.cnt1_free (s : State) (p code k n : Nat) : (s.cnt1 p code k n).free = s.free := by
  unfold State.cnt1; split <;> rfl
@[simp] theorem State.cnt_free (s : State) (p code k : Nat) : (s.cnt p code k).free = s.free := by
  simp [State.cnt]
@[simp] theorem State.cnt1_rdata (s : State) (p code k n : Nat) : (s.cnt1 p code k n).rdata = s.rdata := by
  unfold State.cnt1; split <;> rfl
@[simp] theorem State.cnt_rdata (s : State) (p code k : Nat) : (s.cnt p code k).rdata = s.rdata := by
  simp [State.cnt]
@[simp] theorem State.cnt1_out (s : State) (p code k n : Nat) : (s.cnt1 p code k n).out = s.out := by
  unfold State.cnt1; split <;> rfl
@[simp] theorem State.cnt_out (s : State) (p code k : Nat) : (s.cnt p code k).out = s.out := by
  simp [State.cnt]
@[simp] theorem State.cnt1_cores (s : State) (p code k n : Nat) : (s.cnt1 p code k n).cores = s.cores := by
  unfold State.cnt1; split <;> rfl
@[simp] theorem State.cnt_cores (s : State) (p code k : Nat) : (s.cnt p code k).cores = s.cores := by
  simp [State.cnt]
@[simp] theorem State.cnt1_sig (s : State) (p code k n : Nat) : (s.cnt1 p code k n).sig = s.sig := by
  unfold State.cnt1; split <;> rfl
@[simp] theorem State.cnt_sig (s : State) (p code k : Nat) : (s.cnt p code k).sig = s.sig := by
  simp [State.cnt]
@[simp] theorem State.cnt1_dma (s : State) (p code k n : Nat) : (s.cnt1 p code k n).dma = s.dma := by
  unfold State.cnt1; split <;> rfl
@[simp] theorem State.cnt_dma (s : State) (p code k : Nat) : (s.cnt p code k).dma = s.dma := by
  simp [State.cnt]
@[simp] theorem State.cnt1_hbm (s : State) (p code k n : Nat) : (s.cnt1 p code k n).hbm = s.hbm := by
  unfold State.cnt1; split <;> rfl
@[simp] theorem State.cnt_hbm (s : State) (p code k : Nat) : (s.cnt p code k).hbm = s.hbm := by
  simp [State.cnt]
@[simp] theorem State.cnt1_xlt (s : State) (p code k n : Nat) : (s.cnt1 p code k n).xlt = s.xlt := by
  unfold State.cnt1; split <;> rfl
@[simp] theorem State.cnt_xlt (s : State) (p code k : Nat) : (s.cnt p code k).xlt = s.xlt := by
  simp [State.cnt]
@[simp] theorem State.cnt1_host (s : State) (p code k n : Nat) : (s.cnt1 p code k n).host = s.host := by
  unfold State.cnt1; split <;> rfl
@[simp] theorem State.cnt_host (s : State) (p code k : Nat) : (s.cnt p code k).host = s.host := by
  simp [State.cnt]
@[simp] theorem State.cnt1_recov (s : State) (p code k n : Nat) : (s.cnt1 p code k n).recov = s.recov := by
  unfold State.cnt1; split <;> rfl
@[simp] theorem State.cnt_recov (s : State) (p code k : Nat) : (s.cnt p code k).recov = s.recov := by
  simp [State.cnt]
@[simp] theorem State.cnt1_log (s : State) (p code k n : Nat) : (s.cnt1 p code k n).log = s.log := by
  unfold State.cnt1; split <;> rfl
@[simp] theorem State.cnt_log (s : State) (p code k : Nat) : (s.cnt p code k).log = s.log := by
  simp [State.cnt]
@[simp] theorem State.cnt1_dbg (s : State) (p code k n : Nat) : (s.cnt1 p code k n).dbg = s.dbg := by
  unfold State.cnt1; split <;> rfl
@[simp] theorem State.cnt_dbg (s : State) (p code k : Nat) : (s.cnt p code k).dbg = s.dbg := by
  simp [State.cnt]
@[simp] theorem State.cnt1_net (s : State) (p code k n : Nat) : (s.cnt1 p code k n).net = s.net := by
  unfold State.cnt1; split <;> rfl
@[simp] theorem State.cnt_net (s : State) (p code k : Nat) : (s.cnt p code k).net = s.net := by
  simp [State.cnt]
@[simp] theorem State.cnt1_step (s : State) (p code k n : Nat) : (s.cnt1 p code k n).step = s.step := by
  unfold State.cnt1; split <;> rfl
@[simp] theorem State.cnt_step (s : State) (p code k : Nat) : (s.cnt p code k).step = s.step := by
  simp [State.cnt]
@[simp] theorem State.cnt1_coll (s : State) (p code k n : Nat) : (s.cnt1 p code k n).coll = s.coll := by
  unfold State.cnt1; split <;> rfl
@[simp] theorem State.cnt_coll (s : State) (p code k : Nat) : (s.cnt p code k).coll = s.coll := by
  simp [State.cnt]
@[simp] theorem State.cnt1_agree (s : State) (p code k n : Nat) : (s.cnt1 p code k n).agree = s.agree := by
  unfold State.cnt1; split <;> rfl
@[simp] theorem State.cnt_agree (s : State) (p code k : Nat) : (s.cnt p code k).agree = s.agree := by
  simp [State.cnt]
@[simp] theorem State.cnt1_pwr (s : State) (p code k n : Nat) : (s.cnt1 p code k n).pwr = s.pwr := by
  unfold State.cnt1; split <;> rfl
@[simp] theorem State.cnt_pwr (s : State) (p code k : Nat) : (s.cnt p code k).pwr = s.pwr := by
  simp [State.cnt]
@[simp] theorem State.cnt1_fw (s : State) (p code k n : Nat) : (s.cnt1 p code k n).fw = s.fw := by
  unfold State.cnt1; split <;> rfl
@[simp] theorem State.cnt_fw (s : State) (p code k : Nat) : (s.cnt p code k).fw = s.fw := by
  simp [State.cnt]
@[simp] theorem State.cnt1_ksb (s : State) (p code k n : Nat) : (s.cnt1 p code k n).ksb = s.ksb := by
  unfold State.cnt1; split <;> rfl
@[simp] theorem State.cnt_ksb (s : State) (p code k : Nat) : (s.cnt p code k).ksb = s.ksb := by
  simp [State.cnt]
@[simp] theorem State.cnt1_boot (s : State) (p code k n : Nat) : (s.cnt1 p code k n).boot = s.boot := by
  unfold State.cnt1; split <;> rfl
@[simp] theorem State.cnt_boot (s : State) (p code k : Nat) : (s.cnt p code k).boot = s.boot := by
  simp [State.cnt]
@[simp] theorem State.cnt1_l2 (s : State) (p code k n : Nat) : (s.cnt1 p code k n).l2 = s.l2 := by
  unfold State.cnt1; split <;> rfl
@[simp] theorem State.cnt_l2 (s : State) (p code k : Nat) : (s.cnt p code k).l2 = s.l2 := by
  simp [State.cnt]
@[simp] theorem State.cnt1_pending (s : State) (p code k n : Nat) : (s.cnt1 p code k n).pending = s.pending := by
  unfold State.cnt1; split <;> rfl
@[simp] theorem State.cnt_pending (s : State) (p code k : Nat) : (s.cnt p code k).pending = s.pending := by
  simp [State.cnt]

/-! ### `State.sigSet` -/

@[simp] theorem State.sigSet_regs (s : State) (n v : Nat) : (s.sigSet n v).regs = s.regs := by
  unfold State.sigSet; split <;> rfl
@[simp] theorem State.sigSet_latch (s : State) (n v : Nat) : (s.sigSet n v).latch = s.latch := by
  unfold State.sigSet; split <;> rfl
@[simp] theorem State.sigSet_mem (s : State) (n v : Nat) : (s.sigSet n v).mem = s.mem := by
  unfold State.sigSet; split <;> rfl
@[simp] theorem State.sigSet_poison (s : State) (n v : Nat) : (s.sigSet n v).poison = s.poison := by
  unfold State.sigSet; split <;> rfl
@[simp] theorem State.sigSet_lost (s : State) (n v : Nat) : (s.sigSet n v).lost = s.lost := by
  unfold State.sigSet; split <;> rfl
@[simp] theorem State.sigSet_tbc (s : State) (n v : Nat) : (s.sigSet n v).tbc = s.tbc := by
  unfold State.sigSet; split <;> rfl
@[simp] theorem State.sigSet_tbcCopies (s : State) (n v : Nat) : (s.sigSet n v).tbcCopies = s.tbcCopies := by
  unfold State.sigSet; split <;> rfl
@[simp] theorem State.sigSet_disabling (s : State) (n v : Nat) : (s.sigSet n v).disabling = s.disabling := by
  unfold State.sigSet; split <;> rfl
@[simp] theorem State.sigSet_free (s : State) (n v : Nat) : (s.sigSet n v).free = s.free := by
  unfold State.sigSet; split <;> rfl
@[simp] theorem State.sigSet_rdata (s : State) (n v : Nat) : (s.sigSet n v).rdata = s.rdata := by
  unfold State.sigSet; split <;> rfl
@[simp] theorem State.sigSet_out (s : State) (n v : Nat) : (s.sigSet n v).out = s.out := by
  unfold State.sigSet; split <;> rfl
@[simp] theorem State.sigSet_cores (s : State) (n v : Nat) : (s.sigSet n v).cores = s.cores := by
  unfold State.sigSet; split <;> rfl
@[simp] theorem State.sigSet_dma (s : State) (n v : Nat) : (s.sigSet n v).dma = s.dma := by
  unfold State.sigSet; split <;> rfl
@[simp] theorem State.sigSet_hbm (s : State) (n v : Nat) : (s.sigSet n v).hbm = s.hbm := by
  unfold State.sigSet; split <;> rfl
@[simp] theorem State.sigSet_xlt (s : State) (n v : Nat) : (s.sigSet n v).xlt = s.xlt := by
  unfold State.sigSet; split <;> rfl
@[simp] theorem State.sigSet_host (s : State) (n v : Nat) : (s.sigSet n v).host = s.host := by
  unfold State.sigSet; split <;> rfl
@[simp] theorem State.sigSet_recov (s : State) (n v : Nat) : (s.sigSet n v).recov = s.recov := by
  unfold State.sigSet; split <;> rfl
@[simp] theorem State.sigSet_log (s : State) (n v : Nat) : (s.sigSet n v).log = s.log := by
  unfold State.sigSet; split <;> rfl
@[simp] theorem State.sigSet_dbg (s : State) (n v : Nat) : (s.sigSet n v).dbg = s.dbg := by
  unfold State.sigSet; split <;> rfl
@[simp] theorem State.sigSet_net (s : State) (n v : Nat) : (s.sigSet n v).net = s.net := by
  unfold State.sigSet; split <;> rfl
@[simp] theorem State.sigSet_step (s : State) (n v : Nat) : (s.sigSet n v).step = s.step := by
  unfold State.sigSet; split <;> rfl
@[simp] theorem State.sigSet_coll (s : State) (n v : Nat) : (s.sigSet n v).coll = s.coll := by
  unfold State.sigSet; split <;> rfl
@[simp] theorem State.sigSet_agree (s : State) (n v : Nat) : (s.sigSet n v).agree = s.agree := by
  unfold State.sigSet; split <;> rfl
@[simp] theorem State.sigSet_pwr (s : State) (n v : Nat) : (s.sigSet n v).pwr = s.pwr := by
  unfold State.sigSet; split <;> rfl
@[simp] theorem State.sigSet_fw (s : State) (n v : Nat) : (s.sigSet n v).fw = s.fw := by
  unfold State.sigSet; split <;> rfl
@[simp] theorem State.sigSet_ksb (s : State) (n v : Nat) : (s.sigSet n v).ksb = s.ksb := by
  unfold State.sigSet; split <;> rfl
@[simp] theorem State.sigSet_boot (s : State) (n v : Nat) : (s.sigSet n v).boot = s.boot := by
  unfold State.sigSet; split <;> rfl
@[simp] theorem State.sigSet_l2 (s : State) (n v : Nat) : (s.sigSet n v).l2 = s.l2 := by
  unfold State.sigSet; split <;> rfl
@[simp] theorem State.sigSet_pending (s : State) (n v : Nat) : (s.sigSet n v).pending = s.pending := by
  unfold State.sigSet; split <;> rfl

/-! ### Several bytes -/

@[simp] theorem State.wbs_regs (s : State) (a : Nat) (bs : List Nat) : (s.wbs a bs).regs = s.regs := by
  induction bs generalizing s a with
  | nil => rfl
  | cons b bs ih => simp [State.wbs, ih]
@[simp] theorem State.wle_regs (s : State) (a n v : Nat) : (s.wle a n v).regs = s.regs := State.wbs_regs ..

@[simp] theorem State.wbs_latch (s : State) (a : Nat) (bs : List Nat) : (s.wbs a bs).latch = s.latch := by
  induction bs generalizing s a with
  | nil => rfl
  | cons b bs ih => simp [State.wbs, ih]
@[simp] theorem State.wle_latch (s : State) (a n v : Nat) : (s.wle a n v).latch = s.latch := State.wbs_latch ..

@[simp] theorem State.wbs_poison (s : State) (a : Nat) (bs : List Nat) : (s.wbs a bs).poison = s.poison := by
  induction bs generalizing s a with
  | nil => rfl
  | cons b bs ih => simp [State.wbs, ih]
@[simp] theorem State.wle_poison (s : State) (a n v : Nat) : (s.wle a n v).poison = s.poison := State.wbs_poison ..

@[simp] theorem State.wbs_lost (s : State) (a : Nat) (bs : List Nat) : (s.wbs a bs).lost = s.lost := by
  induction bs generalizing s a with
  | nil => rfl
  | cons b bs ih => simp [State.wbs, ih]
@[simp] theorem State.wle_lost (s : State) (a n v : Nat) : (s.wle a n v).lost = s.lost := State.wbs_lost ..

@[simp] theorem State.wbs_tbc (s : State) (a : Nat) (bs : List Nat) : (s.wbs a bs).tbc = s.tbc := by
  induction bs generalizing s a with
  | nil => rfl
  | cons b bs ih => simp [State.wbs, ih]
@[simp] theorem State.wle_tbc (s : State) (a n v : Nat) : (s.wle a n v).tbc = s.tbc := State.wbs_tbc ..

@[simp] theorem State.wbs_tbcCopies (s : State) (a : Nat) (bs : List Nat) : (s.wbs a bs).tbcCopies = s.tbcCopies := by
  induction bs generalizing s a with
  | nil => rfl
  | cons b bs ih => simp [State.wbs, ih]
@[simp] theorem State.wle_tbcCopies (s : State) (a n v : Nat) : (s.wle a n v).tbcCopies = s.tbcCopies := State.wbs_tbcCopies ..

@[simp] theorem State.wbs_disabling (s : State) (a : Nat) (bs : List Nat) : (s.wbs a bs).disabling = s.disabling := by
  induction bs generalizing s a with
  | nil => rfl
  | cons b bs ih => simp [State.wbs, ih]
@[simp] theorem State.wle_disabling (s : State) (a n v : Nat) : (s.wle a n v).disabling = s.disabling := State.wbs_disabling ..

@[simp] theorem State.wbs_free (s : State) (a : Nat) (bs : List Nat) : (s.wbs a bs).free = s.free := by
  induction bs generalizing s a with
  | nil => rfl
  | cons b bs ih => simp [State.wbs, ih]
@[simp] theorem State.wle_free (s : State) (a n v : Nat) : (s.wle a n v).free = s.free := State.wbs_free ..

@[simp] theorem State.wbs_rdata (s : State) (a : Nat) (bs : List Nat) : (s.wbs a bs).rdata = s.rdata := by
  induction bs generalizing s a with
  | nil => rfl
  | cons b bs ih => simp [State.wbs, ih]
@[simp] theorem State.wle_rdata (s : State) (a n v : Nat) : (s.wle a n v).rdata = s.rdata := State.wbs_rdata ..

@[simp] theorem State.wbs_out (s : State) (a : Nat) (bs : List Nat) : (s.wbs a bs).out = s.out := by
  induction bs generalizing s a with
  | nil => rfl
  | cons b bs ih => simp [State.wbs, ih]
@[simp] theorem State.wle_out (s : State) (a n v : Nat) : (s.wle a n v).out = s.out := State.wbs_out ..

@[simp] theorem State.wbs_cores (s : State) (a : Nat) (bs : List Nat) : (s.wbs a bs).cores = s.cores := by
  induction bs generalizing s a with
  | nil => rfl
  | cons b bs ih => simp [State.wbs, ih]
@[simp] theorem State.wle_cores (s : State) (a n v : Nat) : (s.wle a n v).cores = s.cores := State.wbs_cores ..

@[simp] theorem State.wbs_sig (s : State) (a : Nat) (bs : List Nat) : (s.wbs a bs).sig = s.sig := by
  induction bs generalizing s a with
  | nil => rfl
  | cons b bs ih => simp [State.wbs, ih]
@[simp] theorem State.wle_sig (s : State) (a n v : Nat) : (s.wle a n v).sig = s.sig := State.wbs_sig ..

@[simp] theorem State.wbs_dma (s : State) (a : Nat) (bs : List Nat) : (s.wbs a bs).dma = s.dma := by
  induction bs generalizing s a with
  | nil => rfl
  | cons b bs ih => simp [State.wbs, ih]
@[simp] theorem State.wle_dma (s : State) (a n v : Nat) : (s.wle a n v).dma = s.dma := State.wbs_dma ..

@[simp] theorem State.wbs_hbm (s : State) (a : Nat) (bs : List Nat) : (s.wbs a bs).hbm = s.hbm := by
  induction bs generalizing s a with
  | nil => rfl
  | cons b bs ih => simp [State.wbs, ih]
@[simp] theorem State.wle_hbm (s : State) (a n v : Nat) : (s.wle a n v).hbm = s.hbm := State.wbs_hbm ..

@[simp] theorem State.wbs_xlt (s : State) (a : Nat) (bs : List Nat) : (s.wbs a bs).xlt = s.xlt := by
  induction bs generalizing s a with
  | nil => rfl
  | cons b bs ih => simp [State.wbs, ih]
@[simp] theorem State.wle_xlt (s : State) (a n v : Nat) : (s.wle a n v).xlt = s.xlt := State.wbs_xlt ..

@[simp] theorem State.wbs_host (s : State) (a : Nat) (bs : List Nat) : (s.wbs a bs).host = s.host := by
  induction bs generalizing s a with
  | nil => rfl
  | cons b bs ih => simp [State.wbs, ih]
@[simp] theorem State.wle_host (s : State) (a n v : Nat) : (s.wle a n v).host = s.host := State.wbs_host ..

@[simp] theorem State.wbs_recov (s : State) (a : Nat) (bs : List Nat) : (s.wbs a bs).recov = s.recov := by
  induction bs generalizing s a with
  | nil => rfl
  | cons b bs ih => simp [State.wbs, ih]
@[simp] theorem State.wle_recov (s : State) (a n v : Nat) : (s.wle a n v).recov = s.recov := State.wbs_recov ..

@[simp] theorem State.wbs_log (s : State) (a : Nat) (bs : List Nat) : (s.wbs a bs).log = s.log := by
  induction bs generalizing s a with
  | nil => rfl
  | cons b bs ih => simp [State.wbs, ih]
@[simp] theorem State.wle_log (s : State) (a n v : Nat) : (s.wle a n v).log = s.log := State.wbs_log ..

@[simp] theorem State.wbs_dbg (s : State) (a : Nat) (bs : List Nat) : (s.wbs a bs).dbg = s.dbg := by
  induction bs generalizing s a with
  | nil => rfl
  | cons b bs ih => simp [State.wbs, ih]
@[simp] theorem State.wle_dbg (s : State) (a n v : Nat) : (s.wle a n v).dbg = s.dbg := State.wbs_dbg ..

@[simp] theorem State.wbs_net (s : State) (a : Nat) (bs : List Nat) : (s.wbs a bs).net = s.net := by
  induction bs generalizing s a with
  | nil => rfl
  | cons b bs ih => simp [State.wbs, ih]
@[simp] theorem State.wle_net (s : State) (a n v : Nat) : (s.wle a n v).net = s.net := State.wbs_net ..

@[simp] theorem State.wbs_step (s : State) (a : Nat) (bs : List Nat) : (s.wbs a bs).step = s.step := by
  induction bs generalizing s a with
  | nil => rfl
  | cons b bs ih => simp [State.wbs, ih]
@[simp] theorem State.wle_step (s : State) (a n v : Nat) : (s.wle a n v).step = s.step := State.wbs_step ..

@[simp] theorem State.wbs_coll (s : State) (a : Nat) (bs : List Nat) : (s.wbs a bs).coll = s.coll := by
  induction bs generalizing s a with
  | nil => rfl
  | cons b bs ih => simp [State.wbs, ih]
@[simp] theorem State.wle_coll (s : State) (a n v : Nat) : (s.wle a n v).coll = s.coll := State.wbs_coll ..

@[simp] theorem State.wbs_agree (s : State) (a : Nat) (bs : List Nat) : (s.wbs a bs).agree = s.agree := by
  induction bs generalizing s a with
  | nil => rfl
  | cons b bs ih => simp [State.wbs, ih]
@[simp] theorem State.wle_agree (s : State) (a n v : Nat) : (s.wle a n v).agree = s.agree := State.wbs_agree ..

@[simp] theorem State.wbs_pwr (s : State) (a : Nat) (bs : List Nat) : (s.wbs a bs).pwr = s.pwr := by
  induction bs generalizing s a with
  | nil => rfl
  | cons b bs ih => simp [State.wbs, ih]
@[simp] theorem State.wle_pwr (s : State) (a n v : Nat) : (s.wle a n v).pwr = s.pwr := State.wbs_pwr ..

@[simp] theorem State.wbs_fw (s : State) (a : Nat) (bs : List Nat) : (s.wbs a bs).fw = s.fw := by
  induction bs generalizing s a with
  | nil => rfl
  | cons b bs ih => simp [State.wbs, ih]
@[simp] theorem State.wle_fw (s : State) (a n v : Nat) : (s.wle a n v).fw = s.fw := State.wbs_fw ..

@[simp] theorem State.wbs_ksb (s : State) (a : Nat) (bs : List Nat) : (s.wbs a bs).ksb = s.ksb := by
  induction bs generalizing s a with
  | nil => rfl
  | cons b bs ih => simp [State.wbs, ih]
@[simp] theorem State.wle_ksb (s : State) (a n v : Nat) : (s.wle a n v).ksb = s.ksb := State.wbs_ksb ..

@[simp] theorem State.wbs_boot (s : State) (a : Nat) (bs : List Nat) : (s.wbs a bs).boot = s.boot := by
  induction bs generalizing s a with
  | nil => rfl
  | cons b bs ih => simp [State.wbs, ih]
@[simp] theorem State.wle_boot (s : State) (a n v : Nat) : (s.wle a n v).boot = s.boot := State.wbs_boot ..

@[simp] theorem State.wbs_l2 (s : State) (a : Nat) (bs : List Nat) : (s.wbs a bs).l2 = s.l2 := by
  induction bs generalizing s a with
  | nil => rfl
  | cons b bs ih => simp [State.wbs, ih]
@[simp] theorem State.wle_l2 (s : State) (a n v : Nat) : (s.wle a n v).l2 = s.l2 := State.wbs_l2 ..

@[simp] theorem State.wbs_pending (s : State) (a : Nat) (bs : List Nat) : (s.wbs a bs).pending = s.pending := by
  induction bs generalizing s a with
  | nil => rfl
  | cons b bs ih => simp [State.wbs, ih]
@[simp] theorem State.wle_pending (s : State) (a n v : Nat) : (s.wle a n v).pending = s.pending := State.wbs_pending ..

/-! ### Reads after updates -/

theorem State.rg_wr (s : State) (f g : Fld) (i j v : Nat) :
    (s.wr f i v).rg g j = if g.id = f.id ∧ j = i then v % 2 ^ f.width else s.rg g j := by
  simp only [State.rg, State.wr, PMap.get_put, Prod.mk.injEq]

@[simp] theorem State.rg_wr_self (s : State) (f : Fld) (i v : Nat) : (s.wr f i v).rg f i = v % 2 ^ f.width := by
  simp [State.rg_wr]

theorem State.rg_wr_fld (s : State) {f g : Fld} (i j v : Nat) (h : g.id ≠ f.id) : (s.wr f i v).rg g j = s.rg g j := by
  simp [State.rg_wr, h]

theorem State.rg_wr_inst (s : State) (f g : Fld) {i j : Nat} (v : Nat) (h : j ≠ i) : (s.wr f i v).rg g j = s.rg g j := by
  simp [State.rg_wr, h]

/-- A register read depends on the register store alone. -/
theorem State.rg_congr {s t : State} (h : s.regs = t.regs) (f : Fld) (i : Nat) : s.rg f i = t.rg f i := by
  simp [State.rg, h]

@[simp] theorem State.rg_setCore (s : State) (c : Nat) (x : Core) (r : Fld) (j : Nat) : (s.setCore c x).rg r j = s.rg r j :=
  State.rg_congr (by simp) r j
@[simp] theorem State.rg_setEng (s : State) (e : Nat) (x : DmaEng) (r : Fld) (j : Nat) : (s.setEng e x).rg r j = s.rg r j :=
  State.rg_congr (by simp) r j
@[simp] theorem State.rg_setCq (s : State) (q : Nat) (x : CmdQ) (r : Fld) (j : Nat) : (s.setCq q x).rg r j = s.rg r j :=
  State.rg_congr (by simp) r j
@[simp] theorem State.rg_setEq (s : State) (q : Nat) (x : EvQ) (r : Fld) (j : Nat) : (s.setEq q x).rg r j = s.rg r j :=
  State.rg_congr (by simp) r j
@[simp] theorem State.rg_setStep (s : State) (fn : Nat) (x : StepSt) (r : Fld) (j : Nat) : (s.setStep fn x).rg r j = s.rg r j :=
  State.rg_congr (by simp) r j
@[simp] theorem State.rg_setPort (s : State) (p : Nat) (x : Port) (r : Fld) (j : Nat) : (s.setPort p x).rg r j = s.rg r j :=
  State.rg_congr (by simp) r j
@[simp] theorem State.rg_setFlow (s : State) (f : Nat) (x : Flow) (r : Fld) (j : Nat) : (s.setFlow f x).rg r j = s.rg r j :=
  State.rg_congr (by simp) r j
@[simp] theorem State.rg_setCommq (s : State) (g : Nat) (x : CollQ) (r : Fld) (j : Nat) : (s.setCommq g x).rg r j = s.rg r j :=
  State.rg_congr (by simp) r j
@[simp] theorem State.rg_emit (s : State) (m : OutMsg) (r : Fld) (j : Nat) : (s.emit m).rg r j = s.rg r j :=
  State.rg_congr (by simp) r j
@[simp] theorem State.rg_sigPut (s : State) (n v : Nat) (r : Fld) (j : Nat) : (s.sigPut n v).rg r j = s.rg r j :=
  State.rg_congr (by simp) r j
@[simp] theorem State.rg_wb (s : State) (a : Nat) (b : Byte) (r : Fld) (j : Nat) : (s.wb a b).rg r j = s.rg r j :=
  State.rg_congr (by simp) r j
@[simp] theorem State.rg_setPoison (s : State) (a : Nat) (b : Bool) (r : Fld) (j : Nat) : (s.setPoison a b).rg r j = s.rg r j :=
  State.rg_congr (by simp) r j
@[simp] theorem State.rg_sigSet (s : State) (n v : Nat) (r : Fld) (j : Nat) : (s.sigSet n v).rg r j = s.rg r j :=
  State.rg_congr (by simp) r j
@[simp] theorem State.rg_wbs (s : State) (a : Nat) (bs : List Nat) (g : Fld) (j : Nat) : (s.wbs a bs).rg g j = s.rg g j :=
  State.rg_congr (by simp) g j

@[simp] theorem State.core_setCore (s : State) (c : Nat) (x : Core) : (s.setCore c x).core c = x := by
  simp [State.core, State.setCore]

theorem State.core_setCore_ne (s : State) {c d : Nat} (x : Core) (h : d ≠ c) : (s.setCore c x).core d = s.core d := by
  simp [State.core, State.setCore, NMap.get_put_ne _ _ _ h]

@[simp] theorem State.core_wr (s : State) (f : Fld) (i v d : Nat) : (s.wr f i v).core d = s.core d := rfl
@[simp] theorem State.core_cnt (s : State) (p code k d : Nat) : (s.cnt p code k).core d = s.core d := by simp [State.core]

@[simp] theorem State.eng_setEng (s : State) (e : Nat) (x : DmaEng) : (s.setEng e x).eng e = x := by
  simp [State.eng, State.setEng]

theorem State.eng_setEng_ne (s : State) {e d : Nat} (x : DmaEng) (h : d ≠ e) : (s.setEng e x).eng d = s.eng d := by
  simp [State.eng, State.setEng, NMap.get_put_ne _ _ _ h]

@[simp] theorem State.cq_setCq (s : State) (q : Nat) (x : CmdQ) : (s.setCq q x).cq q = x := by
  simp [State.cq, State.setCq]

@[simp] theorem State.eq_setEq (s : State) (q : Nat) (x : EvQ) : (s.setEq q x).eq q = x := by
  simp [State.eq, State.setEq]

@[simp] theorem State.stepSt_setStep (s : State) (fn : Nat) (x : StepSt) : (s.setStep fn x).stepSt fn = x := by
  simp [State.stepSt, State.setStep]

@[simp] theorem State.port_setPort (s : State) (p : Nat) (x : Port) : (s.setPort p x).port p = x := by
  simp [State.port, State.setPort]

@[simp] theorem State.commq_setCommq (s : State) (g : Nat) (x : CollQ) : (s.setCommq g x).commq g = x := by
  simp [State.commq, State.setCommq]

@[simp] theorem State.sigVal_sigPut (s : State) (n v : Nat) : (s.sigPut n v).sigVal n = v % 2 ^ 64 := by
  simp [State.sigVal, State.sigPut]

theorem State.sigVal_sigPut_ne (s : State) {n m : Nat} (v : Nat) (h : m ≠ n) : (s.sigPut n v).sigVal m = s.sigVal m := by
  simp [State.sigVal, State.sigPut, NMap.get_put_ne _ _ _ h]

theorem State.wrB_eq (s : State) (f : Fld) (i : Nat) (b : Bool) : s.wrB f i b = s.wr f i (b2n b) := rfl

/-- Counting an event leaves every field but the counters alone. -/
theorem State.rg_cnt1 (s : State) (p code k n : Nat) (g : Fld) (j : Nat) (h : g.id ≠ (cntCount n).id) :
    (s.cnt1 p code k n).rg g j = s.rg g j := by
  unfold State.cnt1
  split
  · exact State.rg_wr_fld s _ _ _ h
  · rfl

theorem State.rg_cnt (s : State) (p code k : Nat) (g : Fld) (j : Nat) (h : ∀ n < 4, g.id ≠ (cntCount n).id) :
    (s.cnt p code k).rg g j = s.rg g j := by
  unfold State.cnt
  rw [State.rg_cnt1 _ _ _ _ _ _ _ (h 3 (by omega)), State.rg_cnt1 _ _ _ _ _ _ _ (h 2 (by omega)),
    State.rg_cnt1 _ _ _ _ _ _ _ (h 1 (by omega)), State.rg_cnt1 _ _ _ _ _ _ _ (h 0 (by omega))]

end Sys2Proof.Machine
end

