-- ==== Sys2Proof/Laws/Memory.lean ====
section
/-!
SUPPORT. The memory: a read after a write, the frame of a write, and that every operation on the memory keeps its canonical form.
-/

namespace Sys2Proof.Machine

/-- A byte read after a write of the same address is the byte written, in a memory in canonical form. -/
theorem State.rb_wb_self (s : State) (h : Map.sorted natLt s.mem = true) (a : Nat) (b : Byte) : (s.wb a b).rb a = b := by
  unfold State.rb State.wb
  split
  · rename_i hb
    simp only
    rw [Map.get_del_self natLt_ordered natLt_irrefl _ _ _ h, memDefault, hb.2]
    exact hb.1.symm
  · exact Map.get_put_self ..

/-- A write leaves every other byte alone. -/
theorem State.rb_wb_ne (s : State) {a x : Nat} (b : Byte) (h : x ≠ a) : (s.wb a b).rb x = s.rb x := by
  unfold State.rb State.wb
  split
  · exact Map.get_del_ne _ _ h
  · exact Map.get_put_ne _ _ _ _ h

/-- Writing bytes from an address on leaves every byte outside them alone. -/
theorem State.rb_wbs_out (s : State) (a x : Nat) (bs : List Nat) (h : x < a ∨ a + bs.length ≤ x) :
    (s.wbs a bs).rb x = s.rb x := by
  induction bs generalizing s a with
  | nil => rfl
  | cons b bs ih =>
    simp only [List.length_cons] at h
    rw [State.wbs, ih _ _ (by omega), State.rb_wb_ne _ _ (by omega)]

/-- The `i`-th of the bytes written reads back. -/
theorem State.rb_wbs_at (s : State) (hs : Map.sorted natLt s.mem = true) (a : Nat) (bs : List Nat) (i : Nat) (h : i < bs.length) :
    (s.wbs a bs).rb (a + i) = BitVec.ofNat 8 bs[i] := by
  induction bs generalizing s a i with
  | nil => simp at h
  | cons b bs ih =>
    have hw : Map.sorted natLt (s.wb a (BitVec.ofNat 8 b)).mem = true := by
      unfold State.wb
      split
      · exact Map.sorted_del natLt_ordered _ _ hs
      · exact Map.sorted_put natLt_ordered _ _ _ hs
    rw [State.wbs]
    cases i with
    | zero =>
      rw [State.rb_wbs_out _ _ _ _ (by omega)]
      simpa using State.rb_wb_self s hs a _
    | succ i =>
      have := ih (s.wb a (BitVec.ofNat 8 b)) hw (a + 1) i (by simpa using h)
      rw [show a + (i + 1) = a + 1 + i from by omega, this]
      simp

theorem leBytes_length (n v : Nat) : (leBytes n v).length = n := by
  induction n generalizing v with
  | zero => rfl
  | succ n ih => simp [leBytes, ih]

/-- Writing a number leaves every byte outside its `n` bytes alone. -/
theorem State.rb_wle_out (s : State) (a n v x : Nat) (h : x < a ∨ a + n ≤ x) : (s.wle a n v).rb x = s.rb x :=
  State.rb_wbs_out _ _ _ _ (by simpa [leBytes_length] using h)

/-- A byte read depends on the memory and the lost regions alone. -/
theorem State.rb_congr {s t : State} (h : s.mem = t.mem) (h2 : s.lost = t.lost) (a : Nat) : s.rb a = t.rb a := by
  simp [State.rb, h, h2]

/-! ### The canonical form -/

theorem State.memWf_congr {s t : State} (h : s.mem = t.mem) (h2 : s.lost = t.lost) : s.memWf = t.memWf := by
  simp [State.memWf, h, h2]

theorem Map.all_put {κ α : Type} [DecidableEq κ] (lt : κ → κ → Bool) (p : κ × α → Bool) (k : κ) (v : α) (m : Map κ α)
    (h : m.all p = true) (hk : p (k, v) = true) : (Map.put lt k v m).all p = true := by
  induction m with
  | nil => simpa [Map.put] using hk
  | cons e m ih =>
    obtain ⟨k', v'⟩ := e
    rw [List.all_cons, Bool.and_eq_true] at h
    simp only [Map.put]
    split
    · simp [hk, h.2]
    · split
      · simp [hk, h.1, h.2]
      · simp [h.1, ih h.2]

theorem Map.all_del {κ α : Type} [DecidableEq κ] (p : κ × α → Bool) (k : κ) (m : Map κ α)
    (h : m.all p = true) : (Map.del k m).all p = true := by
  induction m with
  | nil => simp [Map.del]
  | cons e m ih =>
    obtain ⟨k', v'⟩ := e
    rw [List.all_cons, Bool.and_eq_true] at h
    simp only [Map.del]
    split
    · exact h.2
    · simp [h.1, ih h.2]

theorem State.memWf_wb (s : State) (a : Nat) (b : Byte) (h : s.memWf = true) : (s.wb a b).memWf = true := by
  simp only [State.memWf, Bool.and_eq_true] at h ⊢
  rw [State.wb_lost]
  unfold State.wb
  split
  · exact ⟨Map.sorted_del natLt_ordered _ _ h.1, Map.all_del _ _ _ h.2⟩
  · rename_i hb
    refine ⟨Map.sorted_put natLt_ordered _ _ _ h.1, Map.all_put _ _ _ _ _ h.2 ?_⟩
    simp only [Bool.or_eq_true, decide_eq_true_eq]
    by_cases h0 : b = 0
    · exact Or.inr fun he => hb ⟨h0, he⟩
    · exact Or.inl h0

theorem State.memWf_wbs (s : State) (a : Nat) (bs : List Nat) (h : s.memWf = true) : (s.wbs a bs).memWf = true := by
  induction bs generalizing s a with
  | nil => exact h
  | cons b bs ih => exact ih _ _ (State.memWf_wb s a _ h)

theorem State.memWf_wle (s : State) (a n v : Nat) (h : s.memWf = true) : (s.wle a n v).memWf = true :=
  State.memWf_wbs s a _ h

theorem State.memWf_lose (s : State) (lo hi : Nat) (h : s.memWf = true) : (s.lose lo hi).memWf = true := by
  simp only [State.memWf, Bool.and_eq_true] at h ⊢
  refine ⟨(Map.sorted_filter natLt_ordered _ _ h.1).1, ?_⟩
  have h2 := h.2
  simp only [State.lose, List.all_eq_true, Bool.or_eq_true, decide_eq_true_eq, List.mem_filter] at h2 ⊢
  intro c hc
  rcases h2 c hc.1 with h3 | h3
  · exact Or.inl h3
  · right
    have : ¬(lo ≤ c.1 ∧ c.1 < hi) := by omega
    simpa [lostEpoch, this] using h3

theorem State.memWf_sorted (s : State) (h : s.memWf = true) : Map.sorted natLt s.mem = true := by
  simp only [State.memWf, Bool.and_eq_true] at h
  exact h.1

theorem reset_memWf : State.reset.memWf = true := rfl

end Sys2Proof.Machine
end

