-- ==== Sys2Proof/Laws/Digest.lean ====
section
/-!
SUPPORT. How long digests, message codes and the pieces of a handshake message are.
-/

namespace Sys2Proof.Machine

theorem digestRound_length (v : List Nat) (kw : Nat) (h : v.length = 8) : (digestRound v kw).length = 8 := by
  simp [digestRound, h]

theorem digestRounds_length (ks w v : List Nat) (h : v.length = 8) : (digestRounds ks w v).length = 8 := by
  induction ks generalizing w v with
  | nil => exact h
  | cons k ks ih => exact ih _ _ (digestRound_length _ _ h)

theorem digestBlocks_length (n : Nat) (v bs : List Nat) (h : v.length = 8) : (digestBlocks n v bs).length = 8 := by
  induction n generalizing v bs with
  | zero => exact h
  | succ n ih => exact ih _ _ (by simp [digestBlock, digestRounds_length _ _ _ h, h])

@[simp] theorem beBytes_length (n v : Nat) : (beBytes n v).length = n := by simp [beBytes, leBytes_length]

theorem digestStart_length : digestStart.length = 8 := by decide +kernel

@[simp] theorem sha384_length (bs : List Nat) : (sha384 bs).length = 48 := by
  have h := digestBlocks_length ((digestPad bs).length / 128) digestStart (digestPad bs) digestStart_length
  simp [sha384, List.length_flatMap, List.map_const', h]

@[simp] theorem hmac384_length (k m : List Nat) : (hmac384 k m).length = 48 := sha384_length _

@[simp] theorem Shake.finished_length (k : Shake) (side n : Nat) : (k.finished side n).length = 48 := hmac384_length _ _

/-- The code does not depend on the message being received. -/
theorem Shake.finished_part (k : Shake) (l : List Nat) (side n : Nat) : { k with part := l }.finished side n = k.finished side n := rfl

/-- Having received the code of a handshake leaves the code as it is. -/
theorem Shake.finished_got (k j : Shake) (side n : Nat) (h : j = { k with part := k.finished side n }) : j.part = j.finished side n := by
  subst h
  rfl

end Sys2Proof.Machine
end

