-- ==== Sys2Proof/Laws/Span.lean ====
section
/-!
SUPPORT. Spans of local addresses: one line of a walk at a time, and what a load or a store within a scratchpad of its own partition (R174, R176)
answers.
-/

namespace Sys2Proof.Machine

theorem State.checkSpan_step (s : State) (v : Via) (w e : Bool) (k a n : Nat) : s.checkSpan v w e (k + 1) a n = if n = 0 then .ok ()
    else match s.mapAddr v a w e with
      | .error x => .error x
      | .ok pa => if s.mustWait pa (chunk a n) w then .error waitCode else s.checkSpan v w e k (a + chunk a n) (n - chunk a n) := by
  show (if n = 0 then _ else bind (s.mapAddr v a w e) _) = _
  cases s.mapAddr v a w e <;> rfl

theorem State.writeSpan_step (s : State) (v : Via) (k a : Nat) (bs : List (Option Nat × Bool)) : s.writeSpan v (k + 1) a bs =
    if bs = [] then (St.OK, s)
    else match s.mapAddr v a true false with
      | .error e => (e, s)
      | .ok pa =>
        if (bs.take (chunk a bs.length)).all (fun b => b.1.isNone) then s.writeSpan v k (a + chunk a bs.length) (bs.drop (chunk a bs.length))
        else if s.mustWait pa ((bs.take (chunk a bs.length)).filter (fun b => b.1.isSome)).length true then (waitCode, s)
        else
          let r := (s.noteLookup v a).writeLine pa ((bs.take (chunk a bs.length)).map (fun b => b.1)) ((bs.take (chunk a bs.length)).any (fun b => b.2))
          if r.1 = St.OK then r.2.writeSpan v k (a + chunk a bs.length) (bs.drop (chunk a bs.length)) else r := rfl

theorem State.readSpan_step (s : State) (v : Via) (k a n : Nat) : s.readSpan v (k + 1) a n = if n = 0 then .ok (s, [])
    else match s.mapAddr v a false false with
      | .error x => .error x
      | .ok pa => if s.mustWait pa (chunk a n) false then .error waitCode
        else match ((s.noteLookup v a).readLine pa (chunk a n)).1.readSpan v k (a + chunk a n) (n - chunk a n) with
          | .error x => .error x
          | .ok r => .ok (r.1, ((s.noteLookup v a).readLine pa (chunk a n)).2.1.map (fun b => (b, ((s.noteLookup v a).readLine pa (chunk a n)).2.2)) ++ r.2) := by
  simp only [State.readSpan, State.readUpto]
  by_cases hn : n = 0
  · simp only [hn, if_true]
  · simp only [hn, if_false]
    cases s.mapAddr v a false false with
    | error => rfl
    | ok pa =>
      dsimp only
      by_cases hw : s.mustWait pa (chunk a n) false = true
      · simp only [hw, if_true]
      · simp only [hw, if_false, Bool.false_eq_true]
        rcases ((s.noteLookup v a).readLine pa (chunk a n)).1.readUpto v k (a + chunk a n) (n - chunk a n) with ⟨u, r, e⟩
        cases e <;> rfl

theorem State.wbsM_mem (bs : List (Option Nat)) : ∀ (s : State) (a : Nat), ∃ m, s.wbsM a bs = { s with mem := m } := by
  induction bs with
  | nil => exact fun s _ => ⟨s.mem, rfl⟩
  | cons b bs ih =>
    intro s a
    cases b with
    | none => exact ih s (a + 1)
    | some b =>
      obtain ⟨m, h⟩ := ih (s.wb a (BitVec.ofNat 8 b)) (a + 1)
      exact ⟨m, h⟩

theorem spaceOf_pad (c o : Nat) (hc : c < 1024) (ho : o < 0x80000) : spaceOf (aSpad c o) = 0 := by
  simp only [spaceOf, aSpad, Spc]
  omega

theorem State.mapAddr_pad (s : State) (v : Via) (a : Nat) (w e : Bool) (h : s.inPart v.fn (v.core / 4) = true) (ha : a < 0x80000) : s.mapAddr v a w e = .ok (aSpad v.core a) := by
  simp [State.mapAddr, ha, h]

theorem State.mustWait_pad (s : State) (c a n : Nat) (w : Bool) (hc : c < 1024) (ha : a < 0x80000) : s.mustWait (aSpad c a) n w = false := by
  simp [State.mustWait, spaceOf_pad c a hc ha]

theorem State.checkSpan_pad (s : State) (v : Via) (w e : Bool) (h : s.inPart v.fn (v.core / 4) = true) (hc : v.core < 1024) :
    ∀ k a n, a + n ≤ 0x80000 → s.checkSpan v w e k a n = .ok () := by
  intro k
  induction k with
  | zero => intros; rfl
  | succ k ih =>
    intro a n ha
    rw [State.checkSpan_step]
    split
    · rfl
    · have : chunk a n ≤ n := Nat.min_le_left ..
      rw [State.mapAddr_pad s v a w e h (by omega)]
      simp only [State.mustWait_pad s v.core a _ w hc (show a < 0x80000 by omega), Bool.false_eq_true, if_false]
      exact ih _ _ (by omega)

theorem State.writeLine_pad (s : State) (c a : Nat) (bs : List (Option Nat)) (q : Bool) (hc : c < 1024) (ha : a < 0x80000) :
    ∃ m p, s.writeLine (aSpad c a) bs q = (St.OK, { s with mem := m, poison := p }) := by
  obtain ⟨m, h⟩ := State.wbsM_mem bs s (aSpad c a)
  simp only [State.writeLine, spaceOf_pad c a hc ha, h]
  split <;> split <;> exact ⟨_, _, rfl⟩

theorem State.writeSpan_pad (v : Via) (hc : v.core < 1024) : ∀ k (s : State) a (bs : List (Option Nat × Bool)), s.inPart v.fn (v.core / 4) = true → a + bs.length ≤ 0x80000 →
    ∃ m p, s.writeSpan v k a bs = (St.OK, { s with mem := m, poison := p }) := by
  intro k
  induction k with
  | zero => exact fun s _ _ _ _ => ⟨s.mem, s.poison, rfl⟩
  | succ k ih =>
    intro s a bs h ha
    rw [State.writeSpan_step]
    split
    · exact ⟨s.mem, s.poison, rfl⟩
    · rename_i hb
      have hl : 0 < bs.length := List.length_pos_iff.mpr hb
      have hk : chunk a bs.length ≤ bs.length := Nat.min_le_left ..
      have hd : (a + chunk a bs.length) + (bs.drop (chunk a bs.length)).length ≤ 0x80000 := by rw [List.length_drop]; omega
      simp only [State.mapAddr_pad s v a true false h (by omega), State.mustWait_pad s v.core a _ true hc (show a < 0x80000 by omega), Bool.false_eq_true, if_false]
      split
      · exact ih s _ _ h hd
      · have hn : s.noteLookup v a = s := if_pos (show a < 2 ^ 40 by omega)
        obtain ⟨m, p, hw⟩ := State.writeLine_pad s v.core a ((bs.take (chunk a bs.length)).map (fun b => b.1)) ((bs.take (chunk a bs.length)).any (fun b => b.2)) hc (by omega)
        rw [hn, hw]
        obtain ⟨m', p', h'⟩ := ih { s with mem := m, poison := p } _ _ h hd
        exact ⟨m', p', by simpa using h'⟩

/-- A store within a scratchpad of its own partition answers, and changes memory and its marks alone. -/
theorem State.stN_pad (s : State) (v : Via) (a : Nat) (bs : List (Option Nat)) (hc : v.core < 1024) (h : s.inPart v.fn (v.core / 4) = true) (ha : a + bs.length ≤ 0x80000) :
    ∃ m p, s.stN v a bs = .ok { s with mem := m, poison := p } := by
  obtain ⟨m, p, hw⟩ := State.writeSpan_pad v hc (spanLines bs.length) s a (bs.map (fun b => (b, false))) h (by simpa using ha)
  refine ⟨m, p, ?_⟩
  simp only [State.stN, State.checkSpan_pad s v true false h hc _ a bs.length ha, bind, Except.bind, hw]
  rfl

/-- A load of whole lines of a scratchpad of its own partition answers its bytes. -/
theorem State.readSpan_pad (s : State) (v : Via) (hc : v.core < 1024) (h : s.inPart v.fn (v.core / 4) = true) (hp : s.poison = []) :
    ∀ k j a, a % 64 = 0 → a + 64 * k ≤ 0x80000 → s.readSpan v (k + j) a (64 * k) = .ok (s, (s.rbs (aSpad v.core a) (64 * k)).map (fun b => (b, false))) := by
  have app (n m : Nat) : ∀ x, s.rbs x (n + m) = s.rbs x n ++ s.rbs (x + n) m := by
    induction n with
    | zero => intro x; simp [State.rbs]
    | succ n ih =>
      intro x
      rw [Nat.succ_add, State.rbs, State.rbs, ih, List.cons_append, show x + 1 + n = x + (n + 1) by omega]
  intro k
  induction k with
  | zero =>
    intro j a _ _
    cases j <;> rfl
  | succ k ih =>
    intro j a hm ha
    have hk : chunk a (64 * (k + 1)) = 64 := by simp only [chunk, hm]; omega
    have hn : s.noteLookup v a = s := if_pos (show a < 2 ^ 40 by omega)
    have hq : s.poisoned (aSpad v.core a) = false := by simp [State.poisoned, hp, NMap.get, Map.get]
    rw [show k + 1 + j = (k + j) + 1 by omega]
    rw [State.readSpan_step]
    rw [if_neg (by omega), State.mapAddr_pad s v a false false h (by omega)]
    simp only [hk, State.mustWait_pad s v.core a _ false hc (show a < 0x80000 by omega), Bool.false_eq_true, if_false, hn, State.readLine, spaceOf_pad v.core a hc (by omega), hq,
      show 64 * (k + 1) - 64 = 64 * k by omega]
    rw [ih j (a + 64) (by omega) (by omega), show 64 * (k + 1) = 64 + 64 * k by omega, app]
    simp [aSpad, Nat.add_assoc]

/-- A number of 8 bytes is not 0 where its lowest byte is not, and its top bit is that of its highest byte. -/
theorem State.rle_ne_zero (s : State) (a : Nat) (h : (s.rb a).toNat ≠ 0) : s.rle a 8 ≠ 0 := by
  have := (s.rb a).isLt
  simp only [State.rle, State.rbs, ofBytes]
  omega

theorem State.rle_top (s : State) (a : Nat) (h : 128 ≤ (s.rb (a + 7)).toNat) : bit (s.rle a 8) 63 = true := by
  have := (s.rb (a + 7)).isLt
  simp only [State.rle, State.rbs, ofBytes, bit, beq_iff_eq, Nat.add_assoc, Nat.reduceAdd]
  omega

/-- A load of whole lines of a scratchpad, as `ldN` reads them. -/
theorem State.ldN_pad (s : State) (v : Via) (k a : Nat) (hc : v.core < 1024) (h : s.inPart v.fn (v.core / 4) = true) (hp : s.poison = []) (hm : a % 64 = 0)
    (ha : a + 64 * k ≤ 0x80000) : s.ldN v a (64 * k) = .ok (s, (s.rbs (aSpad v.core a) (64 * k)).map (fun b => (b, false))) := by
  have := s.readSpan_pad v hc h hp k 2 a hm ha
  rwa [show k + 2 = spanLines (64 * k) by simp [spanLines]] at this

/-- Eight bytes of a run of bytes are the number at their address. -/
theorem State.rbs_word (s : State) : ∀ (i a n : Nat), ofBytes (((s.rbs a (i + (8 + n))).drop i).take 8) = s.rle (a + i) 8 := by
  intro i
  induction i with
  | zero =>
    intro a n
    rw [Nat.zero_add, Nat.add_comm]
    rfl
  | succ i ih =>
    intro a n
    rw [show i + 1 + (8 + n) = (i + (8 + n)) + 1 by omega, State.rbs, List.drop_succ_cons, ih, show a + 1 + i = a + (i + 1) by omega]

end Sys2Proof.Machine
end

