-- ==== Sys2Proof/Tests/Slice0.lean ====
section
/-!
SUPPORT. Small tests: ill-formed commands, and for each statement states that meet its hypotheses.
-/

namespace Sys2Proof.Tests

open Sys2Proof.Machine

set_option Elab.async false

/-! ### Small states -/

/-- Give register fields values. -/
def put (s : State) (l : List (Fld × Nat × Nat)) : State := l.foldl (fun s e => s.wr e.1 e.2.1 e.2.2) s

/-- A module that runs: every domain on, firmware running, function 0 with queues, signals and the quads of cluster 0. -/
def up : State :=
  put { State.reset with
    host := { HostSt.init with
      pcieUp := true
      fns := [(0, ⟨0, 4, 0, 2, 0, 2, 0, 64, 16, 8, 8, 1⟩), (1, ⟨4, 2, 2, 1, 2, 1, 64, 16, 4, 4, 4, 1⟩)], quadOwner := [(0, 1), (1, 1), (2, 1), (3, 1)] } }
    [(R.PWR_DOM_STATUS_ON, pPwr, 2 ^ 25 - 1), (R.KPR_KSTATE_STATE, pKpr, 1), (R.KPR_BOOT_STATUS_PHASE, pKpr, 10),
     (R.LOG_LOG_STATUS_STATE, pLog, 2)]

/-- Core 0 as it runs a kernel: S1 = 5, S2 = 3, S3 = 0x40, S4 the largest word, P1 = 2. -/
def k0 : Core :=
  { Core.init with s := [(1, 5), (2, 3), (3, 0x40), (4, 0xFFFFFFFFFFFFFFFF)], p := [(1, 2)] }

/-- The module with core 0 running at PC 0x1000, at its highest issue level. -/
def run : State :=
  put { up with cores := [(0, k0)], pwr := { up.pwr with lvl := [(0, 64)] } }
    [(R.HDR_CTRL_ENABLE, pCore 0, 1), (R.CORE_RUN_STATUS_STATE, pCore 0, 1), (R.CORE_PC_PC, pCore 0, 0x1000)]

/-- An instruction of form R on core 0. -/
def rf (d a b : Nat) (m : Nat := 0) (c : Nat := 0) (pred : Nat := 0) : RForm := ⟨0, pred, false, d, a, b, c, m, []⟩

/-- An instruction of form I on core 0. -/
def imf (d a imm : Nat) (m : Nat := 0) (pred : Nat := 0) : IForm := ⟨0, pred, false, d, a, m, imm, []⟩

/-! ### Instructions of a core -/

/-- Replace core 0 of a state. -/
def withK (s : State) (f : Core → Core) : State := s.setCore 0 (f (s.core 0))

/-- A tensor of one row of 8 FP32 elements at 0x100. -/
def ten8 : Ten := ⟨0x100, 0, 8, 1, 1, 0x80000032, 32, 0, 0, 0⟩

/-- A FILL descriptor of 64 bytes at 0x200, as DMAQ reads it (R192). -/
def fill64 : Nat := 0

/-- A queued descriptor of core 0. -/
def dd (n : Nat) : DmaDesc := ⟨n, 0, 0, 0, 0, 0, false, none, 0, none, none, none, 0, none, 0, []⟩

/-- The module running with the descriptor of `ten8` at 0x40 and in T1. -/
def runT : State := withK (run.wle (aSpad 0 0x40) 64 ten8.toBits.toNat) (fun k => k.wrT 1 ten8)

/-- An engine of core 0 whose queue is full. -/
def full0 : State := runT.setEng 0 ⟨List.replicate 16 (dd 1), [], [], [], 0, 0, 0⟩

theorem witness_SaluForms : run.acts (rf 4 1 2) = true ∧ (rf 4 1 2).mod = 0 ∧ run.acts (rf 0 4 4) = true
    ∧ run.actsI (imf 2 4 0xFFFFFFFF) = true ∧ (imf 2 4 0xFFFFFFFF).mod = 0 := by decide +kernel

theorem witness_Branches : run.actsI (imf 1 2 0xFFFFFFFF) = true ∧ (imf 1 2 0xFFFFFFFF).mod = 0 ∧ run.actsI (imf 2 2 3) = true
    ∧ (run.core 0).rdS 1 ≠ (run.core 0).rdS 2 := by decide +kernel

theorem witness_SysClass : run.acts (rf 0 0 0) = true ∧ run.actsI (imf 3 0 6) = true ∧ (imf 3 0 6).imm < 7 := by decide +kernel

theorem witness_IssueAndMask : run.ready 0 = true ∧ run.laneOn 0 1 false 0 = false ∧ run.laneOn 0 0 false 0 = true
    ∧ (put run [(R.CORE_PC_PC, pCore 0, 0x1004)]).canIssue 0 = true ∧ (put run [(R.CORE_PC_PC, pCore 0, 0x1004)]).pc 0 % 8 ≠ 0
    ∧ up.canIssue 0 = false := by decide +kernel

theorem witness_IssueAndMask_words : decodeInstr 0 (RForm.word ⟨0, 7, true, 31, 31, 31, 31, 2 ^ 28 - 1, []⟩ 0xE 2)
      = some (.vld ⟨0, 7, true, 31, 31, 31, 31, 2 ^ 28 - 1, []⟩)
    ∧ (bits (2 ^ 60 * 4 + 2 ^ 52) 63 60, bits (2 ^ 60 * 4 + 2 ^ 52) 59 52) = (4, 1) := by decide +kernel

/-- Words written out field by field from R136 and R137: SHR, BLT, MMA, VLD and DMAQ; CLASS 0xF spells nothing (R138). -/
theorem test_words : decodeInstr 7 0b0001_00000111_101_1_00011_10001_01001_11110_1010101111001101111011110001 = some (.shr ⟨7, 5, true, 3, 17, 9, 30, 0xABCDEF1, []⟩)
    ∧ decodeInstr 7 0b0010_00000010_000_0_11111_00001_000000_11111111111111111111111111111110 = some (.blt ⟨7, 0, false, 31, 1, 0, 0xFFFFFFFE, []⟩)
    ∧ decodeInstr 7 0b0100_00000000_001_0_0010_0011_101_1_10_1111_1000_000111_01000001_000000000000
      = some (.mma ⟨⟨7, 1, false, 2, 3, 5, true, 2, 15, 8, 7, 65, 0, []⟩, 2 ^ 64⟩)
    ∧ decodeInstr 7 0b1110_00000010_000_0_00100_00101_00110_00111_0000000000000000000000000000 = some (.vld ⟨7, 0, false, 4, 5, 6, 7, 0, []⟩)
    ∧ decodeInstr 7 0b1101_00000000_000_0_00000_00011_00000_00000_0000000000000000000000000001 = some (.dmaq ⟨7, 0, false, 0, 3, 0, 0, 1, []⟩)
    ∧ decodeInstr 7 0b1111_00000000_0000000000000000000000000000000000000000000000000000 = none := by decide +kernel

/-- The table of the byte substitution is the function it tabulates. -/
theorem test_substitution : ∀ a < 256, subByte a = substitution a := by decide +kernel

theorem witness_Signals : run.acts (rf 0 1 2) = true ∧ run.ownsSig 0 5 = true ∧ run.sigVal 5 + 3 < 2 ^ 64 ∧ run.sigVal 5 < 3
    ∧ (run.sigSet 5 (2 ^ 64 - 1)).sigVal 5 + 3 ≥ 2 ^ 64 ∧ (run.sigSet 5 3).sigVal 5 ≥ 3 ∧ run.ownsSig 0 64 = false
    ∧ (run.core 0).rdS 3 % 65536 = 64 := by decide +kernel

/-! ### Vector, matrix and scale units -/

/-- Lanes with ordinary, negative, subnormal, infinite and undefined numbers. -/
def lanes (r : Nat) (l : List Nat) (k : Core) : Core := (l.zipIdx).foldl (fun k e => k.wrV r e.2 e.1) k

/-- The running core with V1 to V6 and the enables of P1 in lanes 0, 1, 3, 4, 6 and 7. -/
def runV : State := withK run (fun k =>
  (lanes 1 [0x3FC00000, 0xC0000000, 0x00000001, 0x7F800000, 0x7FC00000, 0x40490FDB, 0x80000000, 0x7F7FFFFF]
  (lanes 2 [0x40000000, 0x3EAAAAAB, 0xBF800000, 0xFF800000, 0x3F800000, 0x00000023, 0x00000000, 0x7F7FFFFF]
  (lanes 3 [0x3DCCCCCD, 0x3F000000, 0x3F800000, 0x41200000, 0x3F800000, 0x3F800000, 0x3F800000, 0x3F800000]
  (lanes 4 [0x3E4CCCCD, 0x3F000000, 0x3F800000, 0x3F800000, 0x3F800000, 0x3F800000, 0x3F800000, 0x40000000] k)))).wrP 1 0xDB)

/-- `runV` with generators in the states 3, 4, … and the tap mask of R158's kind in every lane, and S20 to S23 the scalars of an update. -/
def runR : State := withK runV (fun k =>
  { ((((k.wrS 20 0x3DCCCCCD).wrS 21 0x3F666666).wrS 22 0x3C23D70A).wrS 23 0x3F800000) with
    rng := (List.range 64).map (fun i => (i, i + 3)), tap := (List.range 64).map (fun i => (i, 0xD800000000000000)) })

/-- The operands of a small matrix product in the scratchpad and T2 to T7: two INT8 matrices, a row of FP32, eight BF16 elements, a
destination with UE4M3 scales, and a history. -/
def runM : State := withK
  ((((((run.wle (aSpad 0 0x3C0) 32 (2 ^ 256 - 1)).wle (aSpad 0 0x200) 8 0xFE03).wle (aSpad 0 0x240) 8 0x0705).wle (aSpad 0 0x280) 8 0x80FF).wle (aSpad 0 0x300) 16
    0x3F8040004080C0003E80000041203F00).wle (aSpad 0 0x380) 32 0xFFFFFFFFFFFFFFFFFFFF3F80)
  (fun k => (((((((k.wrT 2 ⟨0x200, 0, 2, 1, 1, 0x8000002C, 64, 0, 0, 0⟩).wrT 3 ⟨0x240, 0, 2, 2, 1, 0x8000002C, 64, 0, 0, 0⟩).wrT 4
    ⟨0x2C0, 0, 2, 1, 1, 0x80000032, 64, 0, 0, 0⟩).wrT 5 ⟨0x300, 0, 8, 1, 1, 0x80000030, 64, 0, 0, 0⟩).wrT 6
    ⟨0x340, 0x360, 8, 1, 1, 0x800000AA, 64, 0, 8, 0⟩).wrT 7 ⟨0x380, 0, 16, 1, 1, 0x80000030, 64, 0, 0, 0⟩).wrS 5 0x400).wrS 6 0x1000)

/-- An MMA of T2 and T3 into bank 0 on core 0. -/
def mf (kind : Nat := 0) (start : Bool := true) (n1 : Nat := 1) : MForm :=
  ⟨0, 0, false, 2, 3, 0, start, kind, (if kind = 0 then 0 else 2), (if kind = 0 then 0 else 3), 0, n1, 0, []⟩

/-- `runM` after that product, to the slice boundary `n`. -/
def runTo (n : Nat) : State := match exec (.mma ⟨mf, n⟩) runM with
  | .next s => s
  | _ => runM

/-- The whole product. -/
def runA : State := runTo (2 ^ 64)
/-- The product before its first slice. -/
def runA0 : State := runTo 0
/-- The module in a thermal halt. -/
def stopped0 : State := put runM [(R.PWR_THERM_STATUS_HALTED, pPwr, 1)]

/-- `runR` with 1 KiB at 0x400 that holds the state `a` and a tap mask of 2^56 times `b` for every lane; both below 256. -/
def gens (a b : Nat) : State := withK { runR with
    mem := ((List.range 64).map (fun i => (aSpad 0 (0x400 + 8 * i), BitVec.ofNat 8 a)) ++ (List.range 64).map (fun i => (aSpad 0 (0x607 + 8 * i), BitVec.ofNat 8 b))).filter
      (fun e => e.2 != 0) }
  (fun k => k.wrS 5 0x400)

/-- `runM` with one translated frame: local address 2^40 is the second frame of the stacks. -/
def runX : State := withK (put (runM.wle (aHbm (2 ^ 21)) 8 0x2000B)
  [(R.HIF_XLT_LEN0_LEN, pHif 0, 1), (R.HIF_XLT_DIR_VALID 0, pHif 0, 1), (R.HIF_XLT_DIR_FRAME 0, pHif 0, 1)]) (fun k => k.wrS 5 (2 ^ 40))

/-! ### Contexts, DMA engines, pages and resets -/

/-- A quiesced core whose context image lies at 0x10000. -/
def ctxQ : State := put runR [(R.HDR_STATUS_QUIESCED, pCore 0, 1), (R.CORE_CTX_BASE_BASE, pCore 0, 0x10)]

/-- The same with a valid image there. -/
def ctxR : State := ctxQ.wle (aSpad 0 0x10000) 2 0x101

/-- A DMA descriptor (R190). -/
def mkDesc (op src dst rows cols ss ds : Nat) (sf : Nat := 0) (df : Nat := 0) (sig : Nat := 0) (inc : Nat := 0) : Nat :=
  op + sig * 2 ^ 16 + inc * 2 ^ 32 + src * 2 ^ 64 + dst * 2 ^ 128 + sf * 2 ^ 192 + df * 2 ^ 224 + rows * 2 ^ 256 + cols * 2 ^ 288
    + ss * 2 ^ 320 + ds * 2 ^ 352

/-- The running module with one descriptor in queue 0 of engine `e`. -/
def eng1 (e desc : Nat) : State :=
  put (runM.setEng e ⟨[dd desc], [], [], [], 0, 0, 0⟩) [(R.HDR_CTRL_ENABLE, pClu 0, 1)]

/-- The same with the descriptor started and its outcome known. -/
def engDone (desc st : Nat) : State := runM.setEng 0 ⟨[{ dd desc with started := true, result := some st }], [], [], [], 0, 0, 0⟩

/-- A reset in progress. -/
def rst (level target : Nat) : RstOp := ⟨level, target, [], false, true, false⟩

/-! ### Flows -/

/-- A flow of function 0 to module 1, next to receive 7, with a window of 4 KiB at the base of cluster 0's memory. -/
def fl : Flow := { Flow.free with
  state := 1, peerInc := 1, peerMaddr := 1, peerFlow := 3, rxNext := 7, txNext := 5, txAcked := 5, txLimit := 5, retryLimit := 4, rto := 100,
  sigCount := 64, winBase := 0x100000000, winLen := 4096 }

/-- A frame of the peer, next on flow 0. -/
def fr (op : Nat) : Frame :=
  { dst := 0, src := 1, op := op, flags := 0, hops := 1, dflow := 0, sflow := 3, inc := 1, seq := 7, ack := 5, len := 0, status := 0, off := 0, sig := 0,
    sigInc := 0, poison := 0, data := [] }

/-- A frame with a line of payload. -/
def frD (op : Nat) : Frame := { fr op with len := 64, data := (List.range 64).map (fun i => 255 - i) }

/-- A frame still to be acknowledged. -/
def tx : TxReq := ⟨1, 0, 0, 64, 0, 0, 4, some (0, 0x300), 0, 0, 0, [], 0⟩

/-- The running module with flow 0 as `x` and the frames `l` delivered on VC 0. -/
def flows (x : Flow) (l : List Frame) : State :=
  { put runM [(R.RTE_AXIS_LEN_M1, pRte, 3)] with net := { runM.net with flows := [(0, x)], cached := [(0, true)], rx := [(0, l)] } }

/-! ### Memory beyond the die -/

/-- The running module with stack 0 and its channel 0 in service, and the links of the far tier up. -/
def hb : State := put runM
  [(R.HDR_CTRL_ENABLE, pMem 0, 1), (R.HDR_CTRL_ENABLE, pMch 0 0, 1), (R.FAR_FAR_STATUS_PRESENT, pFar, 15), (R.FAR_FAR_STATUS_UP, pFar, 15), (R.FAR_DEV_BASE_FRAMES 0, pFar, 16)]

/-- A write-combining entry of line 1: bytes 0 and 1. -/
def we : WcbEntry := ⟨1, 3, 0x2211, 0, false⟩

/-- `hb` with that entry. -/
def hbW : State := hb.setWcb 0 [we]

/-- The stack quiesced and the channel out of service. -/
def hbQ : State := put hb [(R.HDR_CTRL_ENABLE, pMch 0 0, 0), (R.HDR_STATUS_QUIESCED, pMem 0, 1)]

/-! ### Frames, flips and links -/

/-- `hb` with a shadow bank of 4 pages for function 0, in frame 1 of the stacks. -/
def xl : State := put hb
  [(R.HIF_XLT_LEN1_LEN, pHif 0, 4), (R.HIF_XLT_DIR_VALID 8, pHif 0, 1), (R.HIF_XLT_DIR_FRAME 8, pHif 0, 1), (R.HIF_FRAME_COUNT_COUNT, pHif 0, 2)]

/-- A frame request in progress. -/
def req (r : FrameReq) (s : State) : State := s.setXlt 0 { s.xltFn 0 with req := some r }

/-- Port 2 in a link state, as `x`. -/
def port (st : Nat) (x : Port) : State :=
  (put hb [(R.HDR_CTRL_ENABLE, pLnk 2, 1), (R.LNK_PORT_STATUS_STATE, pLnk 2, st), (R.LNK_PORT_CTRL_LANE_MASK, pLnk 2, 255),
    (R.LNK_PORT_STATUS_LIVE, pLnk 2, 255)]).setPort 2 x

/-- A flit sent and not yet acknowledged, resent `n` times. -/
def flit (n : Nat) : Flit := ⟨false, 1, true, true, false, 0, false, [1, 2, 3], 5, [7], n⟩

/-- A module that has committed a key of its own: slot 0, generation 1, IDENT 9. -/
def keyed (s : State) : State :=
  { s with log := { s.log with keys := [(0, some ⟨1, 0, 5, 9, [], [], [9]⟩)], image := { s.log.image with keyCommit := [(0, 1, 5)] } } }

/-! ### Flits, time and agreement -/

/-- A flit received on port 2 with a header and a payload of 224 bytes, no tag, and its CRC-64, or that with one bit wrong (R306). -/
def rxOf (hdr : Nat) (payload : List Nat) (crc : Bool := true) : RxFlit :=
  let b := leBytes 8 hdr ++ payload ++ List.replicate 16 0
  ⟨2, b ++ leBytes 8 (if crc then crc64 b else crc64 b ^^^ 1), ⟨[], 0⟩⟩

/-- A flit received on port 2, of a kind, first and last of its frame. -/
def rx (kind : Nat) (payload : List Nat) (crc : Bool := true) : RxFlit := rxOf (kind * 2 ^ 62 + 3 * 2 ^ 57) payload crc

/-- The module with input 1 of its lasers and its time source on port 2, UP. -/
def timed : State :=
  let s := put (port 6 { Port.init with sentChars := [(0, 0, 4000)] }) [(R.RTE_TIME_CTRL_UP_PORT, pRte, 2), (R.LNK_PEER_CHAR_CHAR, pLnk 2, 2 ^ 32)]
  { s with tbc := 5000000, net := { s.net with
      rx := [(0, [{ fr 8 with len := 16, data := leBytes 8 4000 ++ leBytes 8 4010 }])], t1 := 3990, t2 := 4020, tPort := some 2 } }

/-- The same where the character that the answer names was never sent. -/
def untimed : State := timed.setPort 2 { timed.port 2 with sentChars := [] }

/-! ### Steps and collectives -/

/-- A command fetched: its operands at byte offsets of the descriptor. -/
def cmd (op num : Nat) (l : List (Nat × Nat)) : Cmd :=
  ⟨num, num, op + (l.map (fun e => e.2 * 2 ^ (8 * e.1))).foldl (· + ·) 0, false, none, 0, 0⟩

/-- A state with commands in flight in a queue. -/
def qs (s : State) (q : Nat) (l : List Cmd) : State := s.setCq q ⟨l, 0⟩

/-- The step machine of function 0 in a state, at step 6. -/
def stepAt (s : State) (st : Nat) : State := put s [(R.COL_STEP_STATUS_STATE, pCol 0, st), (R.COL_STEP_COUNT_COUNT, pCol 0, 6)]

/-- A group entry of one module, and one with an axis of two. -/
def ge1 : Nat := 1 + 4 * 2 ^ 8 + 32 * 2 ^ 16 + 100 * 2 ^ 128
/-- Two modules on the axis X. -/
def ge2 : Nat := ge1 + 2 ^ 96

/-- The running module with a group of function 0 in queue 0 whose flows are open, in an axis of four, and its engines enabled. -/
def grp (e : Nat) : State :=
  put { hb with coll := { hb.coll with grp := [((0, 0), e)], quads := [(0, true)] } }
    [(R.RTE_AXIS_LEN_M1, pRte, 3), (R.COL_CQ_STATUS_FLOWS_OK, 0, 1), (R.HDR_CTRL_ENABLE, pCol 0, 1), (R.QUE_CQ_CFG_CLASS, 1, 1), (R.TOP_QUAD_PRESENT_PRESENT 0, pTop, 15)]

/-- A verdict frame of 48 bytes on flow 0: `left` hops, axis `a`. -/
def vfr (left a : Nat) : Frame :=
  { fr 1 with len := 48, data := leBytes 4 magicVerdict ++ leBytes 2 0 ++ leBytes 2 left ++ [a, 0] ++ leBytes 6 0 ++ leBytes 32 7 }

/-- `s` with flow 0 a flow of group 0, place `k` of it, and the frame `f` delivered on its VC. -/
def onFlow (s : State) (vc k : Nat) (f : Frame) : State :=
  { s with net := { s.net with flows := [(0, { fl with grp := some (0, k) }), (36, { fl with grp := some (0, 4) })], cached := [(0, true), (36, true)], rx := [(vc, [f])] } }

/-- A collective operation of a kind at the head of queue 0. -/
def cop (kind : Nat) (e : Nat) : CollOp :=
  { seq := 3, queue := 1, num := 2, order := 2, cob := kind + 64 * 2 ^ 64 + 0x100000000 * 2 ^ 128 + 0x100001000 * 2 ^ 192
      + (if kind = 2 then 0x80000012 + 2 ^ 5 else 0) * 2 ^ 512 + 1 * 2 ^ 576 + 5 * 2 ^ 544,
    since := 0, running := false, entry := e, phase := 0, recv0 := 0, recv1 := 0, part0 := [], part1 := [], hdr0 := false, hdr1 := false, exps := [127], sums := [], abortSt := none,
    wroteDst := false, wroteEf := false, result := none, begun := 0 }

/-- `grp e` with that operation, and its command in queue 1. -/
def withOp (e : Nat) (o : CollOp) : State :=
  (qs (put (grp e) [(R.COL_CQ_SEQ_SEQ, 0, 4), (R.TOP_AGREE_STATUS_LOCAL_MATCH, pTop, 1)]) 1 [{ cmd 5 2 [] with started := true }]).setCommq 0 { CollQ.empty with ops := [o] }

/-- A header of the phase under way, as the operation itself would send it, with bytes of it replaced from `a` on. -/
def hdrOf (s : State) (o : CollOp) (ph : Phase) (a : Nat) (bs : List Nat) : Frame :=
  let d := s.collHeader o ph
  { fr 1 with len := 64, data := d.take a ++ bs ++ d.drop (a + bs.length) }

/-- An ABORT of an operation. -/
def abortFr (seq : Nat) : Frame := { fr 1 with len := 16, data := leBytes 4 magicAbort ++ leBytes 4 0 ++ leBytes 4 seq ++ leBytes 4 9 }

/-! ### Command and event queues -/

/-- Queues of function 0: command queue 1 of class 1 ACTIVE, with descriptor 1 in its ring of 64 and one command offered; command queue 0
of class 0; event queue 0 ACTIVE, with three records unread. -/
def hq : State :=
  put ((grp ge1).wle (aHost 0x2040) 64 (cmd 4 0 [(0x10, 5), (0x18, 9)]).desc)
    [(R.QUE_CQ_STATUS_STATE, 1, 1), (R.QUE_CQ_CTRL_EN, 1, 1), (R.QUE_CQ_CFG_LOG2SIZE, 1, 6), (R.QUE_CQ_BASE_BASE, 1, 0x80), (R.QUE_CQ_TAIL_TAIL, 1, 2), (R.QUE_CQ_FETCHED_FETCHED, 1, 1),
     (R.QUE_CQ_CFG_CLASS, 2, 2), (R.HIF_FUNC_CTRL_EN, pHif 0, 1), (R.HDR_CTRL_ENABLE, pQue 0, 1), (R.QUE_CQ_SEL_QUEUE, pQue 0, 1), (R.HIF_RES_RESULT_DONE, pHif 0, 1),
     (R.EVT_EQ_STATUS_STATE, 0, 1), (R.EVT_EQ_CFG_LOG2SIZE, 0, 6), (R.EVT_EQ_PROD_COUNT, 0, 7), (R.EVT_EQ_CONS_COUNT, 0, 4), (R.EVT_EQ_BASE_BASE, 0, 0x300),
     (R.EVT_EQ_CFG_MSIX_EN, 0, 1)]

/-- A record of a page. -/
def rec9 : EvRec := ⟨5, 3, false, true, 0, pHif 0, 1, 9, 0, 1⟩

/-- Event queue 0 with contents. -/
def eqs (s : State) (x : EvQ) : State := s.setEq 0 x

/-! ### Attestation and power -/

/-- The running module with an SPDM connection in a state and a power state changed by `f`. -/
def spd (v c a : Bool) (d : Nat := 0) : State := { up with host := { up.host with spdm := ⟨v, c, a, [], d⟩ } }

/-- `up` with its power state changed. -/
def pw (f : PwrSt → PwrSt) (s : State := up) : State := { s with pwr := f s.pwr }

/-- A change from operating point `a` to `b` pending, at step `chg` of it. -/
def chg (a b chg : Nat) : State :=
  put (pw (fun x => { x with chg := chg, lvl := [(3, 40)] }))
    [(R.CLK_FREQ_STATUS_OPP, pClk, a), (R.CLK_FREQ_STATUS_PEND_OPP, pClk, b), (R.CLK_FREQ_STATUS_PEND, pClk, 1), (R.CLK_FREQ_TBC_TBC, pClk, 7000000)]

/-! ### The Keeper -/

/-- A state with its log changed by `f`. -/
def lg (f : LogSt → LogSt) (s : State := up) : State := { s with log := f s.log }

/-- A state record and an event record. -/
def srec (n : Nat) : LogRec := ⟨0x0120, n, 1, 0, [2, 4]⟩
/-- An event record. -/
def erec (n : Nat) : LogRec := ⟨0x0200, n, 6, 0, List.replicate 16 7⟩

/-- A device with two sectors in use, and `n` erased ones. -/
def fl2 (n : Nat) (old : LogRec) : FlashDev :=
  { FlashDev.fresh with used := [⟨4, 0, 2, [(srec 9, .committed)], false⟩, ⟨3, 0, 1, [(old, .committed)], true⟩], erasedN := n }

/-- `up` with slots in the states `a` and `b`. -/
def slots (a b : Nat) (s : State := up) : State :=
  lg (fun l => { l with image := { l.image with slotState := [(0, a * 256 + 3 * 2 ^ 64), (1, b * 256 + 1)] } }) s

/-- The first 80 bytes of a good image header of `n` body bytes, with the digest `d` of the body. -/
def head80 (n : Nat) (d : List Nat) : List Nat :=
  leBytes 4 0x464C5354 ++ leBytes 2 1 ++ leBytes 2 256 ++ leBytes 2 0x5434 ++ [0, 1] ++ leBytes 4 0xFFFFFFFF ++ leBytes 4 7 ++ leBytes 4 2 ++ leBytes 4 n
    ++ leBytes 4 0 ++ d

/-- A good header in host memory at 0x1000, with the buffer's length as given. -/
def img (a b len : Nat) : State :=
  put ((slots a b).wbs (aHost 0x1000) (head80 256 (leBytes 48 5))) [(R.FWU_FWU_BUF_ADDR, pFwu, 0x40), (R.FWU_FWU_LEN_LEN, pFwu, len), (R.TOP_PART_DIE_STEP, pTop, 0)]

/-- A load under way. -/
def load (target : Nat) (ksb abort : Bool) (next : Nat) (bytes : List Nat) (s : State) : State :=
  { s with fw := { s.fw with load := some ⟨target, ksb, bytes, next, abort⟩ } }

/-- A module whose AON domain runs, and its Keeper in a state. -/
def aon (k : Nat) : State := put { up with boot := { up.boot with aon := true } } [(R.KPR_KSTATE_STATE, pKpr, k)]

/-- Boot conditions with nothing failing, a link at 64 GT/s x16 and one expander. -/
def env : BootEnv := ⟨false, false, [true, true], [], [], [], [], [], [], [], [], [0x200000000], [], true, 64, 16⟩

/-- Core 0 under array test: `todo`, `once` and `fenc` are masks of arrays, every array at pattern `pat`, with further register fields. -/
def kst (todo once fenc pat : Nat) (f : List (Fld × Nat × Nat)) : State :=
  withK (put run ([(R.HDR_CTRL_SELFTEST_ALLOW, pCore 0, 1), (R.CORE_ARR_STATUS_LIVE, pCore 0, 15)] ++ f))
    (fun k => { k with kat := { k.kat with todo := todo, failedOnce := once, fencing := fenc, pattern := pat * 0x1010101 } })

/-! ### Ill-formed commands: one for each check of WellFormed.lean -/

theorem test_wf_form_r : ((RForm.mk 1024 0 false 0 0 0 0 0 []).wf = false) ∧ (RForm.mk 0 8 false 0 0 0 0 0 []).wf = false ∧ (RForm.mk 0 0 false 32 0 0 0 0 []).wf = false
    ∧ (RForm.mk 0 0 false 0 32 0 0 0 []).wf = false ∧ (RForm.mk 0 0 false 0 0 32 0 0 []).wf = false ∧ (RForm.mk 0 0 false 0 0 0 32 0 []).wf = false
    ∧ (RForm.mk 0 0 false 0 0 0 0 (2 ^ 28) []).wf = false ∧ (RForm.mk 1023 7 true 31 31 31 31 (2 ^ 28 - 1) []).wf = true := by decide

theorem test_wf_form_i : (IForm.mk 1024 0 false 0 0 0 0 []).wf = false ∧ (IForm.mk 0 8 false 0 0 0 0 []).wf = false ∧ (IForm.mk 0 0 false 32 0 0 0 []).wf = false
    ∧ (IForm.mk 0 0 false 0 32 0 0 []).wf = false ∧ (IForm.mk 0 0 false 0 0 64 0 []).wf = false ∧ (IForm.mk 0 0 false 0 0 0 (2 ^ 32) []).wf = false
    ∧ (IForm.mk 1023 7 true 31 31 63 (2 ^ 32 - 1) []).wf = true := by decide

theorem test_wf_form_m : (MForm.mk 1024 0 false 0 0 0 false 0 0 0 0 0 0 []).wf = false ∧ (MForm.mk 0 8 false 0 0 0 false 0 0 0 0 0 0 []).wf = false
    ∧ (MForm.mk 0 0 false 16 0 0 false 0 0 0 0 0 0 []).wf = false ∧ (MForm.mk 0 0 false 0 16 0 false 0 0 0 0 0 0 []).wf = false
    ∧ (MForm.mk 0 0 false 0 0 8 false 0 0 0 0 0 0 []).wf = false ∧ (MForm.mk 0 0 false 0 0 0 false 4 0 0 0 0 0 []).wf = false
    ∧ (MForm.mk 0 0 false 0 0 0 false 0 16 0 0 0 0 []).wf = false ∧ (MForm.mk 0 0 false 0 0 0 false 0 0 16 0 0 0 []).wf = false
    ∧ (MForm.mk 0 0 false 0 0 0 false 0 0 0 64 0 0 []).wf = false ∧ (MForm.mk 0 0 false 0 0 0 false 0 0 0 0 256 0 []).wf = false
    ∧ (MForm.mk 0 0 false 0 0 0 false 0 0 0 0 0 4096 []).wf = false := by decide

theorem test_wf_flit : (RxFlit.mk 16 (List.replicate 256 0) ⟨[], 0⟩).wf = false ∧ (RxFlit.mk 0 [0] ⟨[], 0⟩).wf = false
    ∧ (RxFlit.mk 0 (256 :: List.replicate 255 0) ⟨[], 0⟩).wf = false ∧ (RxFlit.mk 15 (List.replicate 256 255) ⟨[], 0⟩).wf = true := by decide +kernel

theorem test_wf_chc : (ChcOp.load (2 ^ 48) 4).wf = false ∧ (ChcOp.load 63 2).wf = false ∧ (ChcOp.fetch 60 5).wf = false ∧ (ChcOp.store 63 [0, 0]).wf = false
    ∧ (ChcOp.store 0 [256]).wf = false ∧ (ChcOp.clean (2 ^ 48)).wf = false ∧ (ChcOp.flush (2 ^ 48)).wf = false ∧ (ChcOp.inval (2 ^ 48)).wf = false
    ∧ (ChcOp.regRead 16 0 32).wf = false ∧ (ChcOp.regRead 0 4096 32).wf = false ∧ (ChcOp.regRead 0 0 16).wf = false ∧ (ChcOp.regWrite 0 0 8 0).wf = false := by decide

/-- What a register write finds around it. -/
def w0 : WrEnv := ⟨false, false, false, 0, 0, 0, [], []⟩

/-- One command that breaks each range of an operand, by the range. -/
theorem test_wf_ranges : ∀ c ∈ [Instr.ctrlEnableSet 256 0, .ctrlEnableSet 0 4096, .registerWrite 0 0 4096 8 0 w0, .registerWrite 0 0 0 24 0 w0,
    .registerWrite 0 0 0 8 (2 ^ 64) w0, .errInject 0 0 (2 ^ 32), .cntReadLow 0 0 4, .rxClockStop 16 true, .nop (rf 32 0 0), .mmaDone 1024, .katReq 0 0 64 0, .katReq 0 0 0 16,
    .katAbandon 0 4, .bankRequestAged 0 32, .dmaComplete 1088 0 0, .dmaComplete 0 4 0, .stepArm 256 0, .stepVerdict 4096, .hbmWrite 0 ⟨[256], []⟩, .wcbSpace 8, .memTestAbandon 0 32,
    .farLinkDown 4, .farDevEvent (2 ^ 21), .xltInval 0 0 (2 ^ 21) 0, .xltInval 0 0 0 (2 ^ 21), .alloc 0 0 4 0, .alloc 0 0 0 16, .memMarginGo 0 0 (2 ^ 32) 0, .memMarginGo 0 0 0 4,
    .laneLockLoss 0 8, .creditStarve 0 4, .laserDaily 4, .signal 4, .ackTimer (2 ^ 20), .cqDoorbell 0 4096 0, .cqDoorbell 0 0 (2 ^ 32), .cmdFetch 4 0 false,
    .cmdComplete 0 (2 ^ 32), .eqDoorbell 0 1024 0, .mergeWindowEnd 0 32, .pcieLinkTrain true 8 16, .pcieLinkTrain true 64 2], c.wf = false := by decide

theorem test_wf_ranges_more : ∀ c ∈ [Instr.bar4Access 0 0 24 none, .getCertificate 256 0 0, .avsFailRetry 3, .avsAlert 65536, .domainOn 0 25, .icEval 25 0 0 0,
    .hstFreqWrite 0 4096, .marginSample 64 0, .trimApply 25, .stackTemp 8 0, .resetDone 5 0, .testReschedule 3 0, .sectorErase 2 0 0, .stageDone 512 false false,
    .regWrite 0 0 (2 ^ 32) false false, .stop (2 ^ 24) [] false false, .stop 0 [2 ^ 32] false false, .telem 2 false false, .fwBegin (2 ^ 32) false false,
    .ksbStall 256 0, .peek 0 256, .bootStall 65536, .chcAccess 64 (.clean 0) 0, .chcAccess 0 (.clean 0) 3], c.wf = false := by decide

/-! ### States that meet the hypotheses -/

/-- Whether an operation succeeds. -/
def okB {α : Type} (e : Except Nat α) : Bool := match e with
  | .ok _ => true
  | .error _ => false

/-- Whether a load answers, and no byte of it is poisoned. -/
def loads (s : State) (v : Via) (a n : Nat) : Bool := match s.ldN v a n with
  | .ok (_, bs) => bs.all (fun b => !b.2)
  | .error _ => false

/-- Core 0 waiting. -/
def waits (s : State) (w : Wait) : State := withK s (fun k => { k with wait := some w })

theorem witness_WaitsEnd : ((waits (run.sigSet 5 3) (.sig 5 3)).core 0).wait = some (.sig 5 3) ∧ (waits (run.sigSet 5 3) (.sig 5 3)).sigVal 5 ≥ 3
    ∧ (waits run (.sig 5 3)).sigVal 5 < 3 ∧ (waits runT (.fence 1)).fenceDone 0 1 = true ∧ (waits full0 (.fence 2)).fenceDone 0 2 = false
    ∧ ((waits runT (.dma 0 0x40)).core 0).wait = some (.dma 0 0x40)
    ∧ (waits runT (.dma 0 0x40)).engRoom (engineOf 0 0).1 (engineOf 0 0).2 = true ∧ okB ((waits runT (.dma 0 0x40)).readDesc 0 0x40) = true := by
  decide +kernel

theorem witness_DmaqAndFence : runT.acts (rf 0 3 0 1) = true ∧ (runT.core 0).rdS 3 % 64 = 0
    ∧ okB (runT.checkSpan (runT.via 0) false false (spanLines 64) ((runT.core 0).rdS 3) 64) = true
    ∧ runT.engRoom (engineOf 0 1).1 (engineOf 0 1).2 = true ∧ okB (runT.readDesc 0 ((runT.core 0).rdS 3)) = true
    ∧ full0.acts (rf 0 3 0) = true ∧ full0.engRoom (engineOf 0 0).1 (engineOf 0 0).2 = false
    ∧ okB (full0.checkSpan (full0.via 0) false false (spanLines 64) ((full0.core 0).rdS 3) 64) = true
    ∧ runT.actsI (imf 0 0 15) = true ∧ runT.fenceDone 0 15 = true ∧ full0.actsI (imf 0 0 2) = true ∧ full0.fenceDone 0 2 = false := by
  decide +kernel

/-- `runT` with a descriptor of a reserved format in memory. -/
def badT : State := withK (run.wle (aSpad 0 0x40) 64 { ten8 with dim2 := 0 }.toBits.toNat) (fun k => k.wrT 1 ten8)

theorem witness_Descriptors : runT.acts (rf 15 3 0) = true ∧ loads runT (runT.via 0) ((runT.core 0).rdS 3) 64 = true
    ∧ (Ten.ofBits (BitVec.ofNat 512 (runT.rle (aSpad 0 0x40) 64))).check = none ∧ loads badT (badT.via 0) 0x40 64 = true
    ∧ (Ten.ofBits (BitVec.ofNat 512 (badT.rle (aSpad 0 0x40) 64))).check = some St.DESC_INVALID
    ∧ ((runT.core 0).rdT 1).valid = true ∧ runT.inPart (runT.core 0).fn 0 = true ∧ Map.sorted natLt runT.mem = true
    ∧ (((runT.core 0).rdT 1).setDim 2 ((runT.core 0).rdS 2 % 2 ^ 32)).check = none ∧ fmtWordOk ((runT.core 0).rdT 1).fmt false = true
    ∧ okB (((runT.core 0).rdT 1).move 0 3) = true := by
  decide +kernel

theorem witness_VectorUnit : runV.issues (rf 31 31 2 0 3 1) = true ∧ runV.laneOn 0 1 false 0 = true ∧ runV.laneOn 0 1 false 2 = false
    ∧ (rf 7 1 2).d < 8 ∧ (rf 5 1 2 0 7).c < 8 ∧ runV.issues (rf 0 1 0) = true := by decide +kernel

theorem witness_VcvtLanes : runV.ready 0 = true ∧ (imf 5 1 (0x12 + 2 ^ 11 + 2 ^ 12 + 32 * 0x10)).imm < 2 ^ 14
    ∧ fmtWordOk (0x12 + 32) false = true ∧ fmtWordOk (0x10 + 32) false = true := by decide +kernel

theorem witness_OptimiserUpdate : runR.issues (rf 30 28 28 1) = true ∧ (rf 30 28 28 1).d + 1 ≤ 31
    ∧ ∀ i < 64, runR.laneOn 0 0 false i = true → (runR.core 0).rngState i ≠ 0 := by decide +kernel

theorem witness_MatrixProduct : runM.actsM (mf) = true
    ∧ okB (mmaChecks (mf) ((runM.core 0).rdT 2) ((runM.core 0).rdT 0) ((runM.core 0).rdT 3) ((runM.core 0).rdT 0)) = true
    ∧ okB (mmaChecks (mf 1 false) ((runM.core 0).rdT 2) ((runM.core 0).rdT 2) ((runM.core 0).rdT 3) ((runM.core 0).rdT 3)) = true
    ∧ runM.catchUp 0 = runM ∧ runM.mmaFinish 0 = runM ∧ 1 + ceilDiv 9 8 ≤ 3 := by
  decide +kernel

theorem witness_MatrixProduct_done : runA.halted = false ∧ (runA.core 0).mma.map (fun r => (r.x.ups, decide (r.total ≤ r.done))) = some ([], true)
    ∧ (runA.core 0).kat.due = 0 ∧ runA0.halted = false ∧ (runA0.core 0).mma.map (fun r => (r.x.ups, decide (r.total ≤ r.done))) = some ([], false)
    ∧ (runM.core 0).mma = none ∧ stopped0.halted = true := by decide +kernel

/-- A state whose core 0 is at issue level 0. -/
def idle0 (s : State) : State := { s with pwr := { s.pwr with lvl := [] } }

theorem witness_MatrixProduct_levels : runM.throttled 0 = false ∧ (idle0 runA0).throttled 0 = true ∧ ((idle0 runA0).core 0).behind = true
    ∧ runA.throttled 0 = false ∧ (idle0 runV).throttled 0 = true ∧ (idle0 runV).issues (rf 31 31 2 0 3 1) = true ∧ runV.throttled 0 = false := by decide +kernel

theorem witness_BankUnit_banks : runA.acts (rf 1 0 0 0) = true ∧ runM.found 0 (2 ^ 7) = runM ∧ runM.found 0 255 = runM ∧ (runA.found 0 1).inPart ((runA.found 0 1).core 0).fn 0 = true
    ∧ Map.sorted natLt (runA.found 0 1).mem = true ∧ 0 < ((runM.core 0).rdT 5).dim1 ∧ stopped0.halted = true := by decide +kernel

theorem witness_BankUnit : runM.acts (rf 0 0 0 255) = true ∧ runM.acts (rf 7 0 0) = true ∧ (runM.core 0).rdS 3 = 64 ∧ (runM.core 0).rdS 1 < 64
    ∧ runM.issues (rf 7 1 0 1 7) = true ∧ ((runM.core 0).rdT 5).valid = true ∧ fmtWordOk ((runM.core 0).rdT 5).fmt false = true ∧ ((runM.core 0).rdT 5).sf = 0
    ∧ ((runM.core 0).rdT 5).dim0 ≤ 64 ∧ ((runM.core 0).rdT 5).dim1 = 1 ∧ ((runM.core 0).rdT 5).dim2 = 1 ∧ ((runM.core 0).rdT 5).placed = true
    ∧ ((runM.core 0).rdT 5).rowsAligned = true ∧ runM.inPart (runM.core 0).fn 0 = true ∧ Map.sorted natLt runM.mem = true := by decide +kernel

theorem witness_BankUnit_store : (runM.core 0).ast = none ∧ ((withK runM (fun k => { k with ast := some ⟨0, 0, []⟩ })).core 0).ast ≠ none
    ∧ (withK runM (fun k => { k with ast := some ⟨0, 0, []⟩ })).halted = false := by decide +kernel

/-- A SQUANT of T5 into T6 with the history T7, on core 0. -/
def sq : RForm := rf 6 5 7 0
/-- What it runs on, from block `done` on. -/
def sqRun (done : Nat) : SquantRun :=
  let k := runM.core 0
  let word (i : Nat) : BitVec 512 := NMap.get 0 k.t i
  ⟨sq, word sq.a, word sq.b, word sq.d, word sq.c, runM.pc 0, 0, k.rng, done⟩
/-- `runM` with that SQUANT under way. -/
def sqAt (done : Nat) : State := withK runM (fun k => { k with squant := some (sqRun done) })
/-- The rows that a run writes lie in the scratchpad and apart, and there are some. -/
def rowsOk (rows : List (Nat × List Nat)) : Bool :=
  !rows.isEmpty && decide ((∀ p ∈ rows, p.1 + p.2.length ≤ 0x80000) ∧ rows.Pairwise (fun p q => p.1 + p.2.length ≤ q.1 ∨ q.1 + q.2.length ≤ p.1))

theorem witness_ScaleUnit : runM.acts sq = true ∧ runM.catchUp 0 = runM ∧ runM.squantFinish 0 = runM ∧ okB (runM.squantRefused sq) = true
    ∧ runM.inPart (runM.core 0).fn 0 = true ∧ Map.sorted natLt runM.mem = true ∧ bit sq.mod 1 = false
    ∧ rowsOk ((withK runM (fun k => { k with openBlk := 0 })).squantOut 0 (sqRun 0) (sqRun 0).total).rows = true := by decide +kernel

theorem witness_ScaleUnit_done : (sqAt 0).halted = false ∧ ((sqAt 0).core 0).squant = some (sqRun 0) ∧ (sqRun 0).done < (sqRun 0).total
    ∧ (sqAt 0).inPart ((sqAt 0).core 0).fn 0 = true ∧ rowsOk ((sqAt 0).squantOut 0 (sqRun 0) (sqRun 0).total).rows = true
    ∧ (sqRun 1).total ≤ (sqRun 1).done ∧ (runM.core 0).squant = none ∧ stopped0.halted = true := by decide +kernel

theorem witness_ScaleUnit_elements : (historyAmax (runM.history 0 ((runM.core 0).rdT 7) 0)).isSome = true
    ∧ historyAmax (runM.history 0 { ten8 with base := 0x3C0 } 0) = none
    ∧ (match (runM.srcVal 0 ((runM.core 0).rdT 5) false 0 0).1 with | .fin _ _ => true | _ => false) = true ∧ (scaleVal 2 0x38).isSome = true := by decide +kernel

theorem wcbOk_of_empty (s : State) (h : s.hbm.wcb = []) : s.wcbOk := by
  intro m
  have e : s.wcb m = [] := by simp [State.wcb, h, NMap.get, Map.get]
  simp [e]

theorem witness_RawLoadStore : runM.actsI (imf 5 5 0) = true ∧ (runM.core 0).rdS 5 = 0x400 ∧ loads runM (runM.via 0) 0x400 8 = true ∧ runM.memWf = true
    ∧ runM.mapAddr (runM.via 0) 0x400 true false = .ok (aSpad 0 0x400) ∧ runM.mustWait (aSpad 0 0x400) 8 true = false ∧ spaceOf (aSpad 0 0x400) = 0
    ∧ runM.issues (rf 5 5 0) = true ∧ loads runM (runM.via 0) 0x400 256 = true ∧ okB (runM.checkSpan (runM.via 0) false false (spanLines 256) 0x400 256) = true
    ∧ runM.inPart (runM.core 0).fn 0 = true ∧ Map.sorted natLt runM.mem = true := by decide +kernel

theorem witness_RawLoadStore_buffers : runM.wcbOk := wcbOk_of_empty _ (by decide +kernel)

theorem witness_TensorRows : runM.issues (rf 3 1 0 0 5) = true ∧ ((runM.core 0).rdT 5).valid = true ∧ fmtWordOk ((runM.core 0).rdT 5).fmt false = true
    ∧ ((runM.core 0).rdT 5).innerAligned 0 = true ∧ (runM.core 0).rdS 1 ≥ ((runM.core 0).rdT 5).rows ∧ (runM.core 0).rdS 0 < ((runM.core 0).rdT 5).rows
    ∧ ((runM.core 0).rdT 5).sf = 0 ∧ ((runM.core 0).rdT 5).dim0 = 8 ∧ ((runM.core 0).rdT 5).rowsAligned = true
    ∧ okB (runM.checkSpan (runM.via 0) false false (spanLines 16) (((runM.core 0).rdT 5).elemAddr 0 0) 16) = true
    ∧ loads runM (runM.via 0) (((runM.core 0).rdT 5).elemAddr 0 0) 16 = true ∧ rowBytes ((runM.core 0).rdT 5).f 8 = 16
    ∧ ((runM.core 0).rdT 5).elemAddr 0 0 + 16 ≤ 0x80000 ∧ runM.inPart (runM.core 0).fn 0 = true ∧ Map.sorted natLt runM.mem = true := by decide +kernel

theorem witness_GeneratorsAndNorms : runR.issues (rf 5 5 0 1) = true ∧ (∀ i < 64, runR.laneOn 0 0 false i = true → (runR.core 0).rngState i ≠ 0)
    ∧ run.issues (rf 5 5 0 1) = true ∧ run.laneOn 0 0 false 63 = true ∧ (run.core 0).rngState 63 = 0
    ∧ runR.issues (rf 0 0 0 31) = true ∧ runR.acts (rf 1 1 1 31) = true ∧ runR.rg R.CORE_NW_BASE_BASE (pCore 0) * 2048 + 64 * 31 + 64 ≤ 0x80000
    ∧ runR.poisoned (aSpad 0 (runR.rg R.CORE_NW_BASE_BASE (pCore 0) * 2048 + 64 * 31)) = false := by decide +kernel

/-- A load of that image answers its words, none poisoned. -/
theorem loads_image (s : State) (h : s.inPart (s.core 0).fn 0 = true) (hp : s.poison = []) :
    ∃ bs, s.ldN (s.via 0) 0x400 1024 = .ok (s, bs) ∧ (∀ x ∈ bs, x.2 = false)
      ∧ ∀ i < 128, ofBytes (((bs.drop (8 * i)).take 8).map (fun x => x.1)) = s.rle (aSpad 0 0x400 + 8 * i) 8 := by
  have key := s.ldN_pad (s.via 0) 16 0x400 (show 0 < 1024 by decide) (by simpa [State.via] using h) hp (by decide) (by omega)
  refine ⟨_, key, ?_, ?_⟩
  · simp
  · intro i hi
    have e : 64 * 16 = 8 * i + (8 + (1016 - 8 * i)) := by omega
    rw [← List.map_drop, ← List.map_take, List.map_map, List.map_id'', e]
    · exact State.rbs_word ..
    · intro x
      rfl

theorem witness_GeneratorsAndNorms_image : (gens 5 128).acts (rf 0 5 0) = true ∧ ((gens 5 128).core 0).rdS 5 % 1024 = 0
    ∧ (gens 5 128).inPart ((gens 5 128).core 0).fn 0 = true ∧ Map.sorted natLt (gens 5 128).mem = true
    ∧ (gens 0 128).acts (rf 0 5 0) = true ∧ (gens 5 0).acts (rf 0 5 0) = true := by decide +kernel

theorem witness_GeneratorsAndNorms_words : (gens 5 128).inPart ((gens 5 128).core 0).fn 0 = true ∧ (gens 5 128).poison = []
    ∧ (∀ i < 64, ((gens 5 128).rb (aSpad 0 0x400 + 8 * i)).toNat ≠ 0 ∧ 128 ≤ ((gens 5 128).rb (aSpad 0 0x400 + 8 * (64 + i) + 7)).toNat)
    ∧ (gens 0 128).inPart ((gens 0 128).core 0).fn 0 = true ∧ (gens 0 128).poison = [] ∧ (gens 0 128).rle (aSpad 0 0x400 + 8 * 63) 8 = 0
    ∧ (gens 5 0).inPart ((gens 5 0).core 0).fn 0 = true ∧ (gens 5 0).poison = [] ∧ (∀ i < 64, ((gens 5 0).rb (aSpad 0 0x400 + 8 * i)).toNat ≠ 0)
    ∧ bit ((gens 5 0).rle (aSpad 0 0x400 + 8 * 127) 8) 63 = false := by decide +kernel

/-- The word of lane `i` in the bytes of an image. -/
def imageWord (bs : List (Nat × Bool)) (i : Nat) : Nat := ofBytes (((bs.drop (8 * i)).take 8).map (fun x => x.1))

theorem witness_GeneratorsAndNorms_good : ∃ bs, (gens 5 128).ldN ((gens 5 128).via 0) 0x400 1024 = .ok (gens 5 128, bs) ∧ (∀ x ∈ bs, x.2 = false)
    ∧ ∀ i < 64, imageWord bs i ≠ 0 ∧ bit (imageWord bs (64 + i)) 63 = true := by
  have w := witness_GeneratorsAndNorms_words
  obtain ⟨bs, h, hp, hw⟩ := loads_image (gens 5 128) w.1 w.2.1
  refine ⟨bs, h, hp, fun i hi => ⟨?_, ?_⟩⟩
  · rw [imageWord, hw i (by omega)]
    exact State.rle_ne_zero _ _ (w.2.2.1 i hi).1
  · rw [imageWord, hw (64 + i) (by omega)]
    exact State.rle_top _ _ (w.2.2.1 i hi).2

theorem witness_GeneratorsAndNorms_zero : ∃ bs, (gens 0 128).ldN ((gens 0 128).via 0) 0x400 1024 = .ok (gens 0 128, bs) ∧ (∀ x ∈ bs, x.2 = false)
    ∧ imageWord bs 63 = 0 := by
  have w := witness_GeneratorsAndNorms_words.2.2.2
  obtain ⟨bs, h, hp, hw⟩ := loads_image (gens 0 128) w.1 w.2.1
  exact ⟨bs, h, hp, (hw 63 (by decide)).trans w.2.2.1⟩

theorem witness_GeneratorsAndNorms_tap : ∃ bs, (gens 5 0).ldN ((gens 5 0).via 0) 0x400 1024 = .ok (gens 5 0, bs) ∧ (∀ x ∈ bs, x.2 = false)
    ∧ (∀ i < 64, imageWord bs i ≠ 0) ∧ bit (imageWord bs (64 + 63)) 63 = false := by
  have w := witness_GeneratorsAndNorms_words.2.2.2.2.2.2
  obtain ⟨bs, h, hp, hw⟩ := loads_image (gens 5 0) w.1 w.2.1
  refine ⟨bs, h, hp, fun i hi => ?_, ?_⟩
  · rw [imageWord, hw i (by omega)]
    exact State.rle_ne_zero _ _ (w.2.2.1 i hi)
  · rw [imageWord, hw (64 + 63) (by decide)]
    exact w.2.2.2

theorem witness_DrawFunction : (BitVec.ofNat 64 (2 ^ 63)).msb = true ∧ (1 : BitVec 64) ≠ 0 := by decide

/-- A core in a context transfer. -/
def ctxBusy (s : State) (st rest : Nat) : State :=
  withK (put s [(R.CORE_CTX_CMD_BUSY, pCore 0, 1), (R.CORE_RUN_STATUS_STATE, pCore 0, st)]) (fun k => { k with ctx := some ⟨st == 3, 0x10000, rest, false⟩ })

theorem ctxWrite_pad (c : Nat) (hc : c < 1024) (l : List (Nat × List Nat)) : ∀ s : State, s.inPart (s.coreFn c) (c / 4) = true →
    (∀ p ∈ l, s.ctxBase c + p.1 + p.2.length ≤ 0x80000) → ∃ u, s.ctxWrite c l = .ok u := by
  induction l with
  | nil => exact fun s _ _ => ⟨s, rfl⟩
  | cons p l ih =>
    intro s h hl
    obtain ⟨m, q, e⟩ := s.stN_pad (s.ctxVia c) (s.ctxBase c + p.1) (p.2.map some) hc h (by simpa using hl p (List.mem_cons_self ..))
    obtain ⟨u, hu⟩ := ih { s with mem := m, poison := q } h (fun x hx => hl x (List.mem_cons_of_mem _ hx))
    exact ⟨u, by simp only [State.ctxWrite, e, bind, Except.bind]; exact hu⟩

theorem witness_ContextTransfers : run.ctxTakes 0 0 = true ∧ run.quiesced (pCore 0) = false ∧ ctxQ.ctxTakes 0 0 = true ∧ ctxQ.quiesced (pCore 0) = true
    ∧ ctxR.ctxTakes 0 0 = true ∧ ctxR.quiesced (pCore 0) = true ∧ loads ctxR (ctxR.ctxVia 0) (ctxR.ctxBase 0) 64 = true
    ∧ ctxR.rle (aSpad 0 0x10000) 2 = 0x101 := by decide +kernel

theorem witness_ContextTransfers_image : ∃ u, ctxQ.ctxWrite 0 ((0, ctxQ.ctxHeader 0 false) :: (0x40, ctxQ.ctxBody 0)
    :: (onesBelow 8 (ctxQ.core 0).dirtyBanks).map (fun b => (0x3000 + 0x10000 * b, (ctxQ.core 0).bankImage b))) = .ok u :=
  ctxWrite_pad 0 (by decide) _ ctxQ (by decide +kernel) (by decide +kernel)

theorem witness_ContextTransfers_done : ((ctxBusy ctxQ 3 2).core 0).ctx = some ⟨true, 0x10000, 2, false⟩ ∧ (ctxBusy ctxQ 3 2).runState 0 = 3
    ∧ okB ((ctxBusy ctxQ 3 2).stN ((ctxBusy ctxQ 3 2).ctxVia 0) ((ctxBusy ctxQ 3 2).ctxBase 0)
        ((leBytes 8 (ofBytes (((ctxBusy ctxQ 3 2).ctxHeader 0 true).take 8))).map some)) = true
    ∧ (ctxBusy ctxQ 3 2).quiescing (pCore 0) = false ∧ (ctxBusy ctxQ 3 2).enabled (pCore 0) = true ∧ ((ctxBusy ctxQ 3 0).core 0).ctx = some ⟨true, 0x10000, 0, false⟩
    ∧ (ctxBusy ctxR 4 2).runState 0 = 4 ∧ okB ((ctxBusy ctxR 4 2).ctxLoad 0 []) = true
    ∧ (put (ctxBusy ctxR 4 2) [(R.HDR_CTRL_QUIESCE, pCore 0, 1)]).quiescing (pCore 0) = true ∧ okB ((put (ctxBusy ctxR 4 2) [(R.HDR_CTRL_QUIESCE, pCore 0, 1)]).ctxLoad 0 []) = true
    ∧ (run.core 0).ctx = none := by decide +kernel

/-- The status with which an operation fails. -/
def failsWith {α : Type} (e : Except Nat α) : Option Nat := match e with
  | .ok _ => none
  | .error st => some st

/-- A quiesced core whose context image lies in a frame of the stacks, every channel of stack 0 retraining. -/
def ctxH : State :=
  let s := put runX [(R.HDR_STATUS_QUIESCED, pCore 0, 1), (R.CORE_CTX_BASE_BASE, pCore 0, 2 ^ 28)]
  (List.range 32).foldl (fun s c => s.setChan 0 c { s.chan 0 c with retraining := true }) s
/-- The same with the image where no memory is. -/
def ctxN : State := put ctxQ [(R.CORE_CTX_BASE_BASE, pCore 0, 0x100)]

theorem witness_ContextTransfers_fails : ctxH.ctxTakes 0 0 = true ∧ ctxH.quiesced (pCore 0) = true ∧ ctxN.ctxTakes 0 0 = true ∧ ctxN.quiesced (pCore 0) = true
    ∧ failsWith (ctxH.ctxCheck 0) = some waitCode ∧ failsWith (ctxN.ctxCheck 0) = some St.ADDR_RANGE
    ∧ failsWith (ctxH.ctxWrite 0 [(0, ctxH.ctxHeader 0 false)]) = some waitCode ∧ failsWith (ctxN.ctxWrite 0 [(0, ctxN.ctxHeader 0 false)]) = some St.ADDR_RANGE := by
  decide +kernel

/-- Core 0 with its kernel ended. -/
def endedK : State := withK run (fun k => { k with launch := some (1, 2), ended := some 0 })

theorem witness_ContextTransfers_end : (endedK.core 0).launch = some (1, 2) ∧ (endedK.core 0).ended = some 0 ∧ (endedK.core 0).atWork = false ∧ (run.core 0).ended = none
    ∧ (runA.core 0).atWork = true := by decide +kernel

/-- Core 0 ready for a test. -/
def ks0 : State := kst 15 0 0 0 []

theorem witness_ArrayTests : ks0.mayWrite 0 (pCore 0) = true ∧ ks0.flag R.HDR_CTRL_SELFTEST_ALLOW (pCore 0) = true ∧ ks0.quiescing (pCore 0) = false
    ∧ ks0.fencedP (pCore 0) = false ∧ ks0.testBarred (pCore 0) = false ∧ bit (ks0.rg R.CORE_ARR_STATUS_LIVE (pCore 0)) 3 = true
    ∧ bit (ks0.rg R.CORE_ARR_STATUS_BUSY (pCore 0)) 3 = false ∧ (kst 1 1 0 63 []).flag R.HDR_CTRL_SELFTEST_ALLOW (pCore 0) = true
    ∧ bit ((kst 1 1 0 63 []).rg R.CORE_ARR_STATUS_BUSY (pCore 0)) 0 = false
    ∧ bit (ks0.core 0).kat.todo 3 = true ∧ (ks0.core 0).kat.at 3 < 63 ∧ bit (ks0.core 0).kat.failedOnce 3 = false
    ∧ ((kst 1 1 0 63 []).core 0).kat.at 0 ≥ 63 ∧ bit ((kst 1 1 0 63 []).core 0).kat.failedOnce 0 = true
    ∧ (kst 3 1 0 63 [(R.CORE_KAT_STATUS_YIELDS, pCore 0, 16)]).rg R.CORE_KAT_STATUS_YIELDS (pCore 0) ≥ 16
    ∧ bit ((kst 0 0 3 0 []).core 0).kat.fencing 1 = true ∧ ((kst 0 0 3 0 []).core 0).mma = none
    ∧ (kst 2 0 2 0 [(cntEvent 0, pCore 0, Cn.CORE_AGED_GRANT)]).rg (cntEvent 0) (pCore 0) = Cn.CORE_AGED_GRANT
    ∧ (kst 2 0 2 0 [(cntEvent 0, pCore 0, Cn.CORE_AGED_GRANT)]).flag (cntFreeze 0) (pCore 0) = false := by decide +kernel

/-- What the statement on FILL and COPY assumes of the next descriptor of engine `e`. -/
def movesOk (s : State) (e op : Nat) : Bool := s.engTakes e && match s.dmaPick e with
  | some (_, _, d) => decide (d.opc = op ∧ s.dmaCheck e d true = St.OK ∧ d.core < 1024 ∧ s.inPart d.fn (d.core / 4) = true ∧ Map.sorted natLt s.mem = true
      ∧ d.dst + (d.rows - 1) * d.dstStride + d.cols ≤ 0x80000 ∧ (d.rows ≤ 1 ∨ d.cols ≤ d.dstStride)
      ∧ (op = 3 ∨ (d.src + (d.rows - 1) * d.srcStride + d.cols ≤ 0x80000
        ∧ ∀ r < d.rows, ∀ q < d.rows, d.src + r * d.srcStride + d.cols ≤ d.dst + q * d.dstStride ∨ d.dst + q * d.dstStride + d.cols ≤ d.src + r * d.srcStride)))
  | none => false

/-- What the statement on CONVERT and TRANSPOSE assumes of it. -/
def elemsOk (s : State) (e op : Nat) : Bool := s.engTakes e && match s.dmaPick e with
  | some (_, _, d) => let x := d.srcTen
    let y := d.dstTen
    decide (d.opc = op ∧ s.dmaCheck e d true = St.OK ∧ d.core < 1024 ∧ s.inPart d.fn (d.core / 4) = true ∧ Map.sorted natLt s.mem = true
      ∧ x.sf = 0 ∧ y.sf = 0 ∧ x.placed = true ∧ y.placed = true ∧ 0 < d.rows ∧ 0 < d.cols ∧ d.draws = false
      ∧ (y.dim1 = 1 ∨ rowBytes y.f y.dim0 ≤ y.st1)
      ∧ (∀ r < x.dim1, ∀ q < y.dim1, x.rowAddr r + rowBytes x.f x.dim0 ≤ y.rowAddr q ∨ y.rowAddr q + rowBytes y.f y.dim0 ≤ x.rowAddr r)
      ∧ (∀ r < x.dim1, ∀ j < rowBytes x.f x.dim0, s.poisoned (aSpad d.core (x.rowAddr r + j)) = false))
  | none => false

theorem witness_DmaDescriptors : movesOk (eng1 0 (mkDesc 3 0x1122334455667788 0x4000 2 10 0 32 0 0 5 1)) 0 3 = true
    ∧ movesOk (eng1 0 (mkDesc 1 0x200 0x4000 2 10 32 40 0 0 5 1)) 0 1 = true
    ∧ elemsOk (eng1 0 (mkDesc 2 0x300 0x5000 1 8 64 64 0x80000030 0x80000032 5 1)) 0 2 = true
    ∧ elemsOk (eng1 1024 (mkDesc 4 0x200 0x5000 1 2 64 64 0x8000002C 0x8000082C 5 1)) 1024 4 = true := by decide +kernel

/-- A FILL of two rows. -/
def fillD : Nat := mkDesc 3 0x1122334455667788 0x4000 2 10 0 32 0 0 5 1

theorem witness_DmaDescriptors_done :
    (((engDone fillD 0).eng 0).q 0)[0]? = some { dd fillD with started := true, result := some 0 }
    ∧ (engDone fillD 0).sigVal (dd fillD).sig + (dd fillD).inc < 2 ^ 64
    ∧ (((engDone fillD 0x101).eng 0).q 0)[0]? = some { dd fillD with started := true, result := some 0x101 } ∧ (dd fillD).errSignal = false
    ∧ (((eng1 0 fillD).eng 0).q 0)[0]? = some (dd fillD) := by decide +kernel

/-- A page quiescing. -/
def qsc (l : List (Nat × Bool)) : State := { put run [(R.HDR_CTRL_QUIESCE, pEvt 0, 1), (R.HDR_CTRL_ENABLE, pEvt 0, 1)] with disabling := l }
/-- A page quiesced. -/
def qscd : State := put run [(R.HDR_STATUS_QUIESCED, pEvt 0, 1), (R.HDR_CTRL_ENABLE, pEvt 0, 1)]

theorem witness_PageWrites : run.mayWrite 1 pTop = false ∧ accessOk 0x22 32 = false ∧ accessOk 0x100 24 = false ∧ run.mayWrite 0 pTop = true ∧ run.tableOn 0 = true
    ∧ run.mayWrite 0 (pEvt 0) = true ∧ run.responds 0 (pEvt 0) = true ∧ bit (2 ^ 6 &&& srcMask (blkOf (pHif 0))) 6 = true ∧ (port 6 Port.init).lnkState 2 = 6 := by
  decide +kernel

theorem witness_PageWrites_control : run.ctrlTakes 0 (pEvt 0) = true ∧ run.ctrlTakes 1 (pEvt 0) = false ∧ run.disabling = []
    ∧ qscd.ctrlTakes 0 (pEvt 0) = true ∧ qscd.disabling = [] ∧ qscd.enabled (pEvt 0) = true ∧ qscd.quiesced (pEvt 0) = true
    ∧ run.enabled (pCore 0) = true ∧ run.ctrlTakes 0 (pCore 0) = true ∧ run.quiesced (pCore 0) = false
    ∧ (qsc []).quiescing (pEvt 0) = true ∧ (qsc []).quiesced (pEvt 0) = false ∧ (qsc []).drained (pEvt 0) = true ∧ (qsc []).disabling = []
    ∧ (qsc [(pEvt 0, true)]).quiescing (pEvt 0) = true ∧ (qsc [(pEvt 0, true)]).quiesced (pEvt 0) = false ∧ (qsc [(pEvt 0, true)]).drained (pEvt 0) = true
    ∧ (qsc [(pEvt 0, true)]).disabling = [(pEvt 0, true)] := by decide +kernel

/-- The host core of cluster 0 in service. -/
def chc0 : State := put runM [(R.HDR_CTRL_ENABLE, pChc 0, 1)]

/-- The same in a thermal halt. -/
def chcHalted : State := put chc0 [(R.PWR_THERM_STATUS_HALTED, pPwr, 1)]

theorem witness_HostCoreAccess_halt : chcHalted.pageOn (pChc 0) = true ∧ chcHalted.enabled (pChc 0) = true ∧ chcHalted.fencedP (pChc 0) = false
    ∧ chcHalted.halted = true ∧ chc0.halted = false := by decide +kernel

theorem witness_HostCoreAccess : chc0.pageOn (pChc 0) = true ∧ chc0.enabled (pChc 0) = true ∧ chc0.fencedP (pChc 0) = false
    ∧ chc0.chcCacheable 0 0x1000040 = false ∧ okB (chc0.mapAddr (chc0.viaChc 0) 0x1000040 false false) = true ∧ loads chc0 (chc0.viaChc 0) 0x1000040 64 = true
    ∧ okB (chc0.stN (chc0.viaChc 0) 0x1000040 ((List.replicate 64 7).map some)) = true := by decide +kernel

/-- The module that runs, and may take a PERST#. -/
def booted : State := put run [(R.KPR_BOOT_STATUS_PHASE, pKpr, 10)]

theorem witness_Resets : booted.recov.resets = [] ∧ booted.recov.dumps = [] ∧ booted.rg R.KPR_KSTATE_STATE pKpr ≠ 3
    ∧ resetLevelOf (pQue 0) = 1 ∧ booted.fencedP (pQue 0) = false
    ∧ booted.fencedP (pCore 1023) = false ∧ booted.flag R.HIF_DUMP_CFG_ENG (pHif (booted.owner (pCore 1023))) = false
    ∧ booted.mayWrite 0 (pCore 1023) = true ∧ bit (booted.rg R.CORE_ARR_STATUS_BUSY (pCore 1023)) 3 = false ∧ booted.rg R.KPR_BOOT_STATUS_PHASE pKpr = 10 := by decide +kernel

theorem get_unlisted (d i n : Nat) (m : PMap Nat) (h : m.all (fun e => e.1.1 != n) = true) : PMap.get d m (n, i) = d := by
  induction m with
  | nil => rfl
  | cons e m ih =>
    simp only [List.all_cons, Bool.and_eq_true, bne_iff_ne] at h
    have : e.1 ≠ (n, i) := fun he => h.1 (by rw [he])
    simpa [PMap.get, Map.get, this] using ih h.2

theorem witness_Resets_buffers (fn : Nat) : booted.rg R.HIF_DUMP_LEN_LEN (pHif fn) < 65536 := by
  have h : booted.rg R.HIF_DUMP_LEN_LEN (pHif fn) = regReset R.HIF_DUMP_LEN_LEN (pHif fn) := get_unlisted _ _ _ _ (by decide +kernel)
  rw [h, show ∀ i, regReset R.HIF_DUMP_LEN_LEN i = 0 from fun i => by
    unfold regReset
    iterate 11 rw [if_neg (by decide)]
    rfl]
  decide

/-- Resets of every level in progress. -/
def resetting (level target : Nat) : State := { run with recov := { run.recov with resets := [rst level target] } }

theorem witness_Resets_done : (resetting 1 (pQue 0)).recov.resets = [rst 1 (pQue 0)] ∧ (resetting 4 0).recov.resets = [rst 4 0]
    ∧ (resetting 2 (pCore 0)).recov.resets = [rst 2 (pCore 0)] ∧ (resetting 2 (pCore 0)).quadFn 0 = some 0 := by decide +kernel

/-- A dump of function 0 in progress, and a test abandoned 63 times. -/
def dumped : State :=
  let tests := [((0, pCore 0), ⟨63, 600, false, some 5⟩), ((0, pCore 1), ⟨1, 600, false, some 1500000000⟩)]
  { run with tbc := 2000000000, recov := { run.recov with dumps := [(0, ⟨0, 0, 0, 0, 0, 0, 0, 1⟩)], tests := tests } }

theorem witness_DumpsAndTests : run.mayWrite 0 (pHif 0) = true ∧ run.flag R.HIF_DUMP_STATUS_BUSY (pHif 0) = false ∧ run.recov.dumps = []
    ∧ run.rg R.HIF_DUMP_LEN_LEN (pHif 0) < 65536 ∧ 65536 ≤ (put run [(R.HIF_DUMP_LEN_LEN, pHif 0, 65536)]).rg R.HIF_DUMP_LEN_LEN (pHif 0)
    ∧ (put run [(R.HIF_DUMP_LEN_LEN, pHif 0, 65536)]).flag R.HIF_DUMP_STATUS_VALID (pHif 0) = false
    ∧ dumped.recov.dumps = [(0, ⟨0, 0, 0, 0, 0, 0, 0, 1⟩)] ∧ dumped.keeperUp = true ∧ dumped.recov.resets = []
    ∧ dumped.testRec 0 (pCore 0) = ⟨63, 600, false, some 5⟩ ∧ 5 + min 1000 (2 * 600) * 1000000 ≤ dumped.tbc
    ∧ dumped.testRec 0 (pCore 1) = ⟨1, 600, false, some 1500000000⟩ ∧ dumped.tbc < 1500000000 + min 1000 (2 * 600) * 1000000
    ∧ dumped.testRec 1 (pMem 0) = ⟨0, 0, false, none⟩ ∧ run.mayWrite 0 pKpr = true := by decide +kernel

/-- Flow 0 with a SIGNAL that adds 3 to signal 2. -/
def sigF : State := flows fl [{ fr 5 with sigInc := 3, sig := 2 }]

theorem witness_FrameOperations : sigF.arrives 0 5 { fr 5 with sigInc := 3, sig := 2 } ∧ sigF.sigVal 2 + 3 < 2 ^ 64
    ∧ (sigF.sigSet 2 (2 ^ 64 - 3)).arrives 0 5 { fr 5 with sigInc := 3, sig := 2 } ∧ (sigF.sigSet 2 (2 ^ 64 - 3)).sigVal 2 + 3 ≥ 2 ^ 64 :=
  ⟨⟨⟨0, by decide +kernel⟩, by decide +kernel⟩, by decide +kernel, ⟨⟨0, by decide +kernel⟩, by decide +kernel⟩, by decide +kernel⟩

theorem witness_FrameOperations_put : (flows fl [frD 1]).arrives 0 1 (frD 1) ∧ (flows fl [frD 4]).arrives 0 4 (frD 4)
    ∧ (flows fl [{ frD 4 with flags := 2 }]).arrives 0 4 { frD 4 with flags := 2 } ∧ (flows fl [{ fr 2 with len := 10, off := 3 }]).arrives 0 2 { fr 2 with len := 10, off := 3 } :=
  ⟨⟨⟨0, by decide +kernel⟩, by decide +kernel⟩, ⟨⟨0, by decide +kernel⟩, by decide +kernel⟩, ⟨⟨0, by decide +kernel⟩, by decide +kernel⟩,
    ⟨⟨0, by decide +kernel⟩, by decide +kernel⟩⟩

theorem witness_FrameOperations_window : (frD 1).data.length = 64 ∧ (frD 1).len = 64 ∧ (frD 1).poison = 0 ∧ (frD 1).sigInc = 0 ∧ fl.waitq = [] ∧ fl.winBase % 64 = 0
    ∧ (flows fl [frD 1]).flow 0 = fl ∧ Map.sorted natLt (flows fl [frD 1]).mem = true ∧ Map.sorted natLt (flows fl [frD 1]).poison = true
    ∧ (flows fl [frD 1]).mapAddr (viaFn 0) fl.winBase true false = .ok (aClmem 0 0) ∧ (flows fl [frD 1]).mapAddr (viaFn 0) fl.winBase false false = .ok (aClmem 0 0)
    ∧ spaceOf (aClmem 0 0) = 1 ∧ aClmem 0 0 % 64 = 0 ∧ (flows fl [frD 4]).poisoned (aClmem 0 0) = false
    ∧ loads (flows fl [{ fr 2 with len := 10, off := 3 }]) (viaFn 0) (fl.winBase + 3) 10 = true := by decide +kernel

/-- Flow 0 with a GET of 128 bytes under way. -/
def getF : State := flows { fl with gets := [⟨2, 0, 0, 128, 0, 0, 4, some (0, 0x100000000), 0x100000000, 0, 0, [], 0⟩] } [frD 3]

theorem witness_FrameOperations_get : getF.arrives 0 3 (frD 3) ∧ (getF.flow 0).gets = [⟨2, 0, 0, 128, 0, 0, 4, some (0, 0x100000000), 0x100000000, 0, 0, [], 0⟩]
    ∧ getF.mapAddr ⟨0, 0, true⟩ 0x100000000 true false = .ok (aClmem 0 0) := ⟨⟨⟨0, by decide +kernel⟩, by decide +kernel⟩, by decide +kernel, by decide +kernel⟩

/-- Flow 0 with a frame sent and an ACK, or a NAK of `st`, delivered. -/
def sentF (x : Flow) (f : Frame) : State := flows { x with sent := [tx], txNext := 8, unacked := 2 } [f]

theorem witness_Flows : (sentF fl { fr 6 with off := 9, ack := 7 }).answers 0 6 { fr 6 with off := 9, ack := 7 }
    ∧ (sentF fl { fr 7 with status := St.OUT_OF_ORDER, ack := 6 }).answers 0 7 { fr 7 with status := St.OUT_OF_ORDER, ack := 6 }
    ∧ (sentF fl { fr 7 with status := St.DENIED, ack := 6 }).answers 0 7 { fr 7 with status := St.DENIED, ack := 6 } :=
  ⟨⟨⟨0, by decide +kernel⟩, by decide +kernel⟩, ⟨⟨0, by decide +kernel⟩, by decide +kernel⟩, ⟨⟨0, by decide +kernel⟩, by decide +kernel⟩⟩

theorem witness_Flows_timers : ((sentF fl (fr 6)).flow 0).state = 1 ∧ ((sentF fl (fr 6)).flow 0).unacked > 0 ∧ ((sentF fl (fr 6)).flow 0).sent ≠ []
    ∧ ((sentF fl (fr 6)).flow 0).retries + 1 < ((sentF fl (fr 6)).flow 0).retryLimit ∧ ((flows fl []).flow 0).unacked = 0
    ∧ ((sentF { fl with retries := 3 } (fr 6)).flow 0).retries + 1 ≥ ((sentF { fl with retries := 3 } (fr 6)).flow 0).retryLimit := by decide +kernel

/-- A FLOW_CMD of function 0 that names flow 0, or any. -/
def flowCmd (s : State) (any : Nat) : State := put s [(R.XPT_FLOW_RESULT_DONE, pXpt 0, 1), (R.XPT_FLOW_ID_ANY, pXpt 0, any)]
/-- A quota of one flow. -/
def oneFlow (s : State) : State := { s with host := { s.host with fns := [(0, { s.fnRes 0 with flows := 1 })] } }

theorem witness_Flows_commands : (flowCmd (flows fl []) 1).mayWrite 0 (pXpt 0) = true ∧ (flowCmd (flows fl []) 1).flag R.XPT_FLOW_RESULT_DONE (pXpt 0) = true
    ∧ (flowCmd (flows fl []) 1).flag R.XPT_FLOW_ID_ANY (pXpt 0) = true ∧ (flowCmd (flows fl []) 1).flowsUsed 0 < ((flowCmd (flows fl []) 1).fnRes 0).flows
    ∧ (flowCmd (flows fl []) 1).net.flows.length < 2 ^ 20 ∧ ((flowCmd (flows fl []) 1).flow 1).state = 0
    ∧ lowestFree 0 ((flowCmd (flows fl []) 1).net.flows.map (fun e => e.1)) = 1
    ∧ (oneFlow (flowCmd (flows fl []) 1)).flowsUsed 0 ≥ ((oneFlow (flowCmd (flows fl []) 1)).fnRes 0).flows
    ∧ (oneFlow (flowCmd (flows fl []) 1)).mayWrite 0 (pXpt 0) = true ∧ (oneFlow (flowCmd (flows fl []) 1)).flag R.XPT_FLOW_RESULT_DONE (pXpt 0) = true
    ∧ ((flowCmd (flows fl []) 0).flow 0).state ≠ 0 ∧ ((flowCmd (flows fl []) 0).flow 0).fn = 0 ∧ Map.sorted natLt (flowCmd (flows fl []) 0).net.flows = true
    ∧ ((flowCmd (flows { fl with fn := 1 } []) 0).flow 0).fn ≠ 0 := by decide +kernel

/-- A PUT or GET of two rows of 5,000 bytes at the head of engine 0. -/
def flowDma (op : Nat) (x : Flow) : State :=
  (flows x []).setEng 0 ⟨[dd (mkDesc op (if op = 5 then 0x200 else 0) (if op = 5 then 0 else 0x200) 2 5000 5056 5056)], [], [], [], 0, 0, 0⟩

/-- What the statement on PUT and GET descriptors assumes, with the flow's state. -/
def flowDmaOk (s : State) (op st : Nat) : Bool := s.engTakes 0 && match s.dmaPick 0 with
  | some (_, _, d) => decide (d.opc = op ∧ (s.flow d.flowId).state = st
      ∧ s.dmaCheck 0 d (decide ((s.flow d.flowId).state ≠ 0) && decide ((s.flow d.flowId).fn = d.fn)) = St.OK
      ∧ (st = 1 → s.reachable (s.flow d.flowId).peerMaddr (s.flow d.flowId).vc = true ∧ (s.flow d.flowId).maySend = false ∧ d.requests (s.net.nextTag * 2048) ≠ []))
  | none => false

theorem witness_Flows_descriptors : flowDmaOk (flowDma 5 fl) 5 1 = true ∧ flowDmaOk (flowDma 6 fl) 6 1 = true ∧ flowDmaOk (flowDma 5 { fl with state := 2 }) 5 2 = true
    ∧ flowDmaOk (flowDma 6 { fl with state := 2 }) 6 2 = true := by decide +kernel

theorem wcbOk_hbW : hbW.wcbOk := by
  intro m
  by_cases h : m = 0
  · subst h
    decide +kernel
  · have e : hbW.wcb m = [] := by
      have he : hbW.hbm.wcb = [(0, [we])] := by decide +kernel
      simp only [State.wcb, he, NMap.get, Map.get]
      rw [if_neg (fun x => h x.symm)]
    simp [e]

/-- Channel 0 of stack 0 changed by `f`. -/
def ce (f : Chan → Chan) : State := hb.setChan 0 0 (f (hb.chan 0 0))
/-- Stack 0 in self-refresh. -/
def selfr : State := { hb with hbm := { hb.hbm with selfRefresh := [(0, true)] } }
/-- `hbW` with a partial write that waits. -/
def waitW : State := { hbW with hbm := { hbW.hbm with wcbWait := [(0, [⟨64, 2, some 0x0709⟩])] } }

theorem witness_StackAccess : selfr.stackOff (stackOf 0) = true ∧ hb.stackOff (stackOf 62) = false ∧ hb.chHeld (stackOf 62) (channelOf 62) = false
    ∧ hb.chFenced (stackOf 62) (channelOf 62) = false ∧ hb.poisoned (aHbm 62) = false ∧ Map.sorted natLt hb.mem = true ∧ hb.wcbFull 62 = false
    ∧ (ce (fun x => { x with repeats := 1 })).stackOff 0 = false ∧ (ce (fun x => { x with repeats := 1 })).chHeld 0 (channelOf 0) = true
    ∧ we ∈ hbW.wcb 0 ∧ Map.sorted natLt hbW.mem = true ∧ hbW.chHeld 0 (channelOf (we.line * 64)) = false
    ∧ NMap.get [] waitW.hbm.wcbWait 0 = [⟨64, 2, some 0x0709⟩] ∧ stackOf 64 = 0 ∧ waitW.wcbFull 64 = false ∧ waitW.stackOff 0 = false
    ∧ waitW.chHeld 0 (channelOf 64) = false ∧ waitW.chFenced 0 (channelOf 64) = false := by decide +kernel

/-- Scrubbing of stack 0 allowed. -/
def scrub (s : State) : State := put s [(R.HDR_CTRL_SELFTEST_ALLOW, pMem 0, 1), (R.MEM_SCRUB_CTRL_ENABLE, pMem 0, 1)]

theorem witness_ChannelErrors : stackOf 62 = 0 ∧ channelOf 62 = 0 ∧ hb.chHeld 0 0 = false ∧ hb.chFenced 0 0 = false ∧ hb.stackOff 0 = false
    ∧ ((ce (fun x => { x with repeats := 3 })).chan 0 0).repeats = 3 ∧ ((ce (fun x => { x with repeats := 4 })).chan 0 0).repeats = 4
    ∧ (ce (fun x => { x with repeats := 4 })).rg R.MCH_CH_STATUS_RATE (pMch 0 0) = 0 ∧ ((ce (fun x => { x with repeats := 4 })).chan 0 0).lastRetrain = none
    ∧ ((ce (fun x => { x with repeats := 1 })).chan 0 0).retraining = false ∧ (ce (fun x => { x with repeats := 1 })).enabled (pMch 0 0) = true
    ∧ (ce (fun x => { x with repeats := 1 })).enabled (pMem 0) = true ∧ ((ce (fun x => { x with retraining := true })).chan 0 0).retraining = true
    ∧ ((ce (fun x => { x with retraining := true })).chan 0 0).low = false
    ∧ (put (ce (fun x => { x with retraining := true })) [(R.MCH_CH_STATUS_RATE, pMch 0 0, 1)]).rg R.MCH_CH_STATUS_RATE (pMch 0 0) ≠ 0 := by decide +kernel

theorem witness_ChannelErrors_scrub : (scrub hb).stackOff 0 = false ∧ (scrub hb).flag R.HDR_CTRL_SELFTEST_ALLOW (pMem 0) = true
    ∧ (scrub hb).flag R.MEM_SCRUB_CTRL_ENABLE (pMem 0) = true ∧ (scrub hb).quiescing (pMem 0) = false ∧ NMap.get 0 (scrub hb).hbm.scrubPass 0 = 0
    ∧ (scrub hb).chHeld 0 (channelOf 0) = false ∧ (scrub hb).testBarred (pMem 0) = false ∧ ((scrub hb).chan 0 (channelOf 0)).abandoned = false
    ∧ hb.frameHeld 0 = false ∧ (hb.setXlt 0 { hb.xltFn 0 with quarantined := [(3, 1)] }).frameHeld 0 = true
    ∧ ((ce (fun x => { x with abandoned := true })).chan 0 0).abandoned = true ∧ ((scrub (ce (fun x => { x with preempts := 15 }))).chan 0 (channelOf 0)).preempts < 16
    ∧ 16 ≤ ((ce (fun x => { x with preempts := 16 })).chan 0 0).preempts := by decide +kernel

/-- A traffic generator that runs. -/
def tgRun : State := (put hbQ [(R.MCH_TG_CTRL_MODE, pMch 0 0, 1), (R.MCH_TG_CTRL_GO, pMch 0 0, 1), (R.MCH_TG_COUNT_PASSES, pMch 0 0, 1)]).setChan 0 0
  { hbQ.chan 0 0 with tgOn := true, tgStop := true }

theorem witness_MemoryTests : hbQ.mayWrite 0 (pMch 0 0) = true ∧ hbQ.flag R.MCH_TG_CTRL_GO (pMch 0 0) = false ∧ hbQ.enabled (pMch 0 0) = false
    ∧ hbQ.quiesced (pMem 0) = true ∧ hb.mayWrite 0 (pMch 0 0) = true ∧ hb.flag R.MCH_TG_CTRL_GO (pMch 0 0) = false ∧ hb.enabled (pMch 0 0) = true
    ∧ (tgRun.chan 0 0).tgOn = true ∧ tgRun.mayWrite 0 (pMch 0 0) = true ∧ (tgRun.chan 0 0).tgStop = true ∧ tgRun.rg R.MCH_TG_COUNT_PASSES (pMch 0 0) ≠ 0
    ∧ tgRun.rg R.MCH_TG_CTRL_MODE (pMch 0 0) = 1 ∧ (put tgRun [(R.MCH_TG_CTRL_MODE, pMch 0 0, 2), (R.MCH_TG_CTRL_PATTERN, pMch 0 0, 3)]).rg R.MCH_TG_CTRL_PATTERN (pMch 0 0) = 3
    ∧ ((put tgRun [(R.MCH_TG_CTRL_MODE, pMch 0 0, 2), (R.MCH_TG_CTRL_PATTERN, pMch 0 0, 3)]).chan 0 0).tgOn = true ∧ hbQ.mayWrite 0 (pMem 0) = true ∧ hbQ.flag R.MEM_MARGIN_CTRL_GO (pMem 0) = false
    ∧ (∀ c < 32, bit (2 ^ 32 - 1) c = true → hbQ.enabled (pMch 0 c) = false) ∧ hb.mayWrite 0 (pMem 0) = true ∧ hb.flag R.MEM_MARGIN_CTRL_GO (pMem 0) = false
    ∧ hb.quiesced (pMem 0) = false ∧ (put hbQ [(R.MEM_MARGIN_CTRL_GO, pMem 0, 1)]).flag R.MEM_MARGIN_CTRL_GO (pMem 0) = true := by decide +kernel

theorem witness_MemoryTests_others : (put hb [(R.HDR_CTRL_ENABLE, pMch 0 0, 0), (R.TOP_MEM_PORT_PRESENT_MEM, pTop, 2)]).enabled (pMch 0 0) = false
    ∧ bit ((put hb [(R.HDR_CTRL_ENABLE, pMch 0 0, 0), (R.TOP_MEM_PORT_PRESENT_MEM, pTop, 2)]).rg R.TOP_MEM_PORT_PRESENT_MEM pTop) 0 = false
    ∧ (put hb [(R.HDR_CTRL_ENABLE, pMch 0 0, 0), (R.TOP_MEM_PORT_PRESENT_MEM, pTop, 1)]).quiesced (pMem 0) = false
    ∧ bit ((put hb [(R.HDR_CTRL_ENABLE, pMch 0 0, 0), (R.TOP_MEM_PORT_PRESENT_MEM, pTop, 1)]).rg R.TOP_MEM_PORT_PRESENT_MEM pTop) 0 = true
    ∧ (put hbQ [(R.HDR_CTRL_ENABLE, pMch 0 3, 1)]).quiesced (pMem 0) = true ∧ bit 8 3 = true ∧ (put hbQ [(R.HDR_CTRL_ENABLE, pMch 0 3, 1)]).enabled (pMch 0 3) = true
    ∧ hb.mayWrite 7 (pMch 0 0) = false ∧ hb.mayWrite 7 (pMem 0) = false ∧ (hb.chan 0 0).tgOn = false ∧ hb.flag R.MEM_MARGIN_CTRL_GO (pMem 0) = false := by decide +kernel

theorem witness_FarTier : hb.farUp 62 = true ∧ hb.poisoned (aFar 62) = false ∧ up.farUp 62 = false ∧ Map.sorted natLt hb.mem = true
    ∧ bit (hb.rg R.FAR_FAR_STATUS_UP pFar) 3 = true ∧ bit ((put hb [(R.FAR_FAR_STATUS_UP, pFar, 14)]).rg R.FAR_FAR_STATUS_UP pFar) 0 = false
    ∧ bit ((put hb [(R.FAR_FAR_STATUS_UP, pFar, 14)]).rg R.FAR_FAR_STATUS_PRESENT pFar) 0 = true := by decide +kernel

/-- TBC 100, with the translation flip of function 0 armed for `t`, the shadow bank ready or not. -/
def flip (t rdy : Nat) : State :=
  put { xl with tbc := 100 } [(R.HIF_XLT_FLIP_TBC_TBC, pHif 0, t), (R.HIF_XLT_CTRL_SHADOW_READY, pHif 0, rdy), (R.HIF_XLT_CTRL_FLIP_ARM, pHif 0, 1)]
/-- An invalidation of pages 4 and 5 in progress. -/
def invX : State := xl.setXlt 0 { xl.xltFn 0 with inval := some (4, 2) }

theorem witness_ScheduledFlips : (flip 101 0).coreTbc = 100 ∧ xl.mayWrite 0 (pHif 0) = true ∧ xl.flag R.HIF_XLT_INVAL_BUSY (pHif 0) = false ∧ (invX.xltFn 0).inval = some (4, 2)
    ∧ (flip 101 0).mayWrite 0 (pHif 0) = true
    ∧ (match flipTab (blkOf (pHif 0)) with
      | some T => decide ((flip 101 0).coreTbc < (flip 101 0).rg T.tbc (pHif 0)) && (flip 100 1).flag T.arm (pHif 0)
        && decide ((flip 100 1).rg T.tbc (pHif 0) ≤ (flip 100 1).coreTbc) && (flip 100 1).flag T.ready (pHif 0) && (flip 100 0).flag T.arm (pHif 0)
        && decide ((flip 100 0).rg T.tbc (pHif 0) ≤ (flip 100 0).coreTbc) && !(flip 100 0).flag T.ready (pHif 0)
      | none => false) = true := by decide +kernel

/-- A request of function 0 for frames of the far tier. -/
def rq (op v n : Nat) : State := req ⟨op, 1, 0, v, n⟩ xl
/-- A request for frames of stacks that are not there. -/
def rqNone : State := req ⟨1, 0, 0, 0, 2⟩ xl
/-- The same with an entry in use. -/
def rqUsed : State := (req ⟨1, 0, 0, 0, 2⟩ xl).wle (aHbm (2 ^ 21)) 8 1

theorem witness_FrameRequests : xl.mayWrite 0 (pHif 0) = true ∧ xl.rg R.HIF_FRAME_RESULT_DONE (pHif 0) ≠ 0
    ∧ (rq 1 3 2).reqRange 0 ⟨1, 1, 0, 3, 2⟩ = false ∧ (rq 1 0 2).reqRange 0 ⟨1, 1, 0, 0, 2⟩ = true
    ∧ xltValid (rqUsed.bankEntry 0 (rqUsed.shadow 0) 0) = true ∧ rqUsed.reqRange 0 ⟨1, 0, 0, 0, 2⟩ = true
    ∧ (∀ v ∈ [0, 1], xltValid (rqNone.bankEntry 0 (rqNone.shadow 0) v) = false) ∧ (rqNone.frameSplit 0 ⟨1, 0, 0, 0, 2⟩).1 + (rqNone.frameSplit 0 ⟨1, 0, 0, 0, 2⟩).2 < 2
    ∧ (⟨1, 0, 0, 0, 2⟩ : FrameReq).vpns = [0, 1] ∧ (∀ v ∈ [0, 1], xltValid ((rq 1 0 2).bankEntry 0 ((rq 1 0 2).shadow 0) v) = false)
    ∧ ((rq 1 0 2).frameSplit 0 ⟨1, 1, 0, 0, 2⟩).1 + ((rq 1 0 2).frameSplit 0 ⟨1, 1, 0, 0, 2⟩).2 = 2 ∧ Map.sorted natLt (rq 1 0 2).mem = true
    ∧ (∀ v ∈ [0, 1], (match (rq 1 0 2).xltEntryAddr 0 ((rq 1 0 2).shadow 0) v with
        | some o => !(rq 1 0 2).chFenced (stackOf o) (channelOf o)
        | none => true) = true)
    ∧ (rq 2 0 2).reqRange 0 ⟨2, 1, 0, 0, 2⟩ = true ∧ (rq 3 0 2).reqRange 0 ⟨3, 1, 0, 0, 2⟩ = true
    ∧ ((rq 3 0 2).frameSplit 0 ⟨3, 1, 0, 0, 2⟩).1 + ((rq 3 0 2).frameSplit 0 ⟨3, 1, 0, 0, 2⟩).2 = 2 ∧ ((rq 3 0 2).xltFn 0).quarantined = []
    ∧ xl.responds 0 (pMem 7) = true := by decide +kernel

theorem witness_FrameRequests_buffers : (rq 1 0 2).wcbOk ∧ (rq 2 0 2).wcbOk := ⟨wcbOk_of_empty _ (by decide +kernel), wcbOk_of_empty _ (by decide +kernel)⟩

/-- A port's initial contents. -/
def P0 : Port := Port.init

/-- Port 2 training in a link state, on lanes 0 to 3 that have locked. -/
def train (st : Nat) : State := port st { P0 with training := true, lanes := 15, locks := 15 }

theorem witness_LinkStates : (port 8 P0).portOn 2 = true ∧ (port 8 P0).lnkState 2 = 8 ∧ ((port 8 P0).port 2).selfPend = false ∧ up.portOn 2 = false
    ∧ (up.port 2).training = false ∧ ((train 2).port 2).training = true ∧ (train 2).lnkState 2 = 2 ∧ (train 1).lnkState 2 = 1 ∧ ((train 2).port 2).lanes &&& 9 % 256 ≠ 0
    ∧ (train 3).lnkState 2 = 3 ∧ 4 ≤ popcount 8 (((train 3).port 2).locks &&& 15 % 256) ∧ popcount 8 (((train 3).port 2).locks &&& 15 % 256) < 8
    ∧ popcount 8 (((train 3).port 2).locks &&& 7 % 256) < 4 := by decide +kernel

/-- A port whose lane 0 has corrected too much for nine seconds. -/
def worn : State := port 6 { P0 with corr := [(0, 10001)], corrRun := [(0, 9)] }

theorem witness_LinkStates_up : (port 6 P0).lnkState 2 = 6 ∧ (port 7 P0).lnkState 2 = 7 ∧ NMap.get 0 ((port 7 P0).port 2).rejTbc 9 = 0
    ∧ (port 7 P0).mayWrite 0 (pLnk 2) = true ∧ (port 7 P0).portOn 2 = true ∧ (port 7 P0).rg R.LNK_PEER_EXPECT_MADDR (pLnk 2) ≠ bits 9 29 0
    ∧ bit ((port 6 P0).rg R.LNK_PORT_STATUS_LIVE (pLnk 2)) 7 = true ∧ NMap.get [] ((port 6 P0).port 2).lockLoss 7 = []
    ∧ NMap.get 0 (worn.port 2).corr 0 > 10000 ∧ NMap.get 0 (worn.port 2).corrRun 0 + 1 ≥ 10 ∧ worn.flag (R.LNK_LANE_STATUS_MARKED 0) (pLnk 2) = false := by decide +kernel

/-- Port 2 in AUTH at a stage of the handshake. -/
def auth (k : Nat) : State := keyed (port 5 { P0 with stage := k, training := true })

/-- A payload of 224 bytes. -/
def pay (l : List Nat) : List Nat := l ++ List.replicate (224 - l.length) 0

/-- A handshake piece of CTYPE `t` on port 2: the first or not, the last or not. -/
def piece (t : Nat) (sof eof : Bool) (l : List Nat := []) : RxFlit := rxOf (2 ^ 62 + b2n sof * 2 ^ 58 + b2n eof * 2 ^ 57) (pay (t :: l))

/-- What the statement on handshake messages assumes of the flit `f` with CTYPE `c`. -/
def dueOk (s : State) (f : RxFlit) (c : Nat) : Bool :=
  let v := s.seen f
  let x := s.port 2
  decide (v.port = 2 ∧ v.kind = 1 ∧ v.byte 0 = c ∧ (s.rxAccept v).2 = true ∧ s.lnkState 2 = 5 ∧ x.stage = c ∧ v.sof = x.shake.part.isEmpty ∧ x.shake.part.length < 16384)

/-- A module whose committed key is lost. -/
def keyless : State := lg (fun l => { l with image := { l.image with keyCommit := [(0, 1, 5)] } }) (port 5 { P0 with stage := 6, training := true })
/-- A port whose partner changed. -/
def partner7 : State := keyed (port 5 { P0 with stage := 6, training := true, partner := 7, partnerChar := (5, 1) })

theorem witness_LinkSecurity_pieces : dueOk (auth 2) (piece 2 true false) 2 = true ∧ ((auth 2).seen (piece 2 true false)).eof = false
    ∧ dueOk (auth 2) (piece 2 true true) 2 = true ∧ ((auth 2).seen (piece 2 true true)).eof = true ∧ (auth 2).hasKey = true
    ∧ dueOk (auth 6) (piece 6 true true) 6 = true ∧ ((auth 6).port 2).partner = 0 ∧ dueOk keyless (piece 6 true true) 6 = true ∧ keyless.hasKey = false := by decide +kernel

theorem witness_LinkSecurity_others : ((auth 3).seen (piece 2 true true)).byte 0 = 2 ∧ ((auth 3).rxAccept ((auth 3).seen (piece 2 true true))).2 = true
    ∧ ((auth 3).port 2).stage ≠ 2 ∧ ((auth 3).port 2).training = true ∧ (auth 3).lnkState 2 = 5 ∧ (port 3 P0).lnkState 2 < 4
    ∧ (partner7.port 2).partner ≠ 0 ∧ (partner7.port 2).ident ≠ (partner7.port 2).partner ∧ partner7.peerId 2 ≠ (partner7.port 2).partnerChar
    ∧ dueOk partner7 (piece 6 true true) 6 = true ∧ (partner7.seen (piece 6 true true)).eof = true ∧ partner7.hasKey = true := by decide +kernel

/-- The state in which only an empty last piece is missing that ends the partner's FINISHED, with the right code. -/
def fin : State := keyed (port 5 { P0 with stage := 6, training := true, shake := { P0.shake with part := P0.shake.finished 1 0 } })

theorem witness_LinkSecurity_code : (fin.port 2).shake.part = (fin.port 2).shake.finished 1 0 ∧ (fin.port 2).shake.part.length = 48
    ∧ ((fin.port 2).shake.part ++ (fin.seen (piece 6 false true)).bytes.drop 1).take 48 = (fin.port 2).shake.finished 1 0 := by
  have h : (fin.port 2).shake.part = (fin.port 2).shake.finished 1 0 := by
    have e : (fin.port 2).shake = { P0.shake with part := P0.shake.finished 1 0 } := by
      simp only [fin, keyed, State.port, port, State.setPort, NMap.get_put_self]
    exact Shake.finished_got _ _ _ _ e
  refine ⟨h, by rw [h, Shake.finished_length], ?_⟩
  rw [h, List.take_append_of_le_length (by simp), List.take_of_length_le (by simp)]

theorem witness_LinkSecurity_finished : fin.sideOf 2 = 1 ∧ (fin.seen (piece 6 false true)).kind = 1 ∧ (fin.seen (piece 6 false true)).byte 0 = 6
    ∧ (fin.rxAccept (fin.seen (piece 6 false true))).2 = true ∧ fin.lnkState 2 = 5 ∧ (fin.port 2).stage = 6 ∧ (fin.seen (piece 6 false true)).sof = false
    ∧ (fin.seen (piece 6 false true)).eof = true ∧ fin.hasKey = true ∧ (fin.port 2).partner = 0 := by decide +kernel

theorem witness_LinkSecurity : ((port 6 { P0 with replay := [flit 0, flit 7] }).port 2).replay = [flit 0, flit 7] ∧ (∀ f ∈ [flit 0, flit 7], f.resends < 8) ∧ 8 ≤ (flit 8).resends
    ∧ creditOf ((port 6 P0).port 2).sent 3 = creditOf ((port 6 P0).port 2).grant 3 ∧ NMap.get false ((port 6 P0).port 2).starved 3 = false
    ∧ NMap.get false ((port 6 { P0 with starved := [(0, true)] }).port 2).starved 0 = true ∧ (port 6 P0).pageOn (pLnk 2) = true := by decide +kernel

/-- A character frame of a role and an address, with a good CRC. -/
def chr (role maddr : Nat) : List Nat :=
  let b := [1, role, 0, 0] ++ leBytes 4 maddr ++ List.replicate 0x20 0
  pay (b ++ leBytes 4 (crc32c b))
/-- A port that is UP with credit freed, its keys as `f` leaves them. -/
def up6 (f : Port → Port) : State := port 6 (f { P0 with got := [], freed := [(0, 5), (1, 5), (2, 5), (3, 5)] })
/-- A character that this port does not expect. -/
def expects : State := put (port 4 P0) [(R.LNK_PEER_EXPECT_MODE, pLnk 2, 3), (R.LNK_PEER_EXPECT_MADDR, pLnk 2, 9)]

/-- The flit `f` as the state sees it, taken by its checks, and the state after them. -/
def takes (s : State) (f : RxFlit) : Bool := (s.rxAccept (s.seen f)).2
/-- The state that the checks of a flit leave. -/
def after (s : State) (f : RxFlit) : State := (s.rxAccept (s.seen f)).1

/-- A whole frame in one flit. -/
def whole : RxFlit := rx 0 (pay (frD 1).bytes)

theorem witness_ReceivedFlits : (up6 id).portOn 2 = true ∧ (up6 id).lnkState 2 = 6 ∧ ((up6 id).seen (rx 1 (pay [0x30]) false)).crcOk = false
    ∧ takes (up6 id) whole = true ∧ ((up6 id).seen whole).kind = 0 ∧ ((up6 id).seen whole).vc = 0 ∧ (after (up6 id) whole).lnkState 2 = 6
    ∧ creditOf ((after (up6 id) whole).port 2).freed 0 ≠ creditOf ((after (up6 id) whole).port 2).got 0 ∧ ((up6 id).seen whole).dmCheck = false
    ∧ ((up6 id).seen whole).sof = true ∧ ((up6 id).seen whole).eof = true ∧ ((after (up6 id) whole).port 2).part = []
    ∧ frameHeaderOk ((up6 id).seen whole).bytes = true ∧ frameFlitCount ((up6 id).seen whole).bytes = 1
    ∧ byteFld ((up6 id).seen whole).bytes 0 4 = (after (up6 id) whole).maddr := by decide +kernel

/-- An idle flit that acknowledges number 0. -/
def idleF : RxFlit := rxOf (2 * 2 ^ 62 + 3 * 2 ^ 57 + 2 ^ 30) (pay [])
/-- A port with two flits to acknowledge. -/
def two6 : State := up6 (fun x => { x with replay := [flit 0, flit 1], txSeq := 2 })

theorem witness_ReceivedFlits_control : two6.portOn 2 = true ∧ two6.lnkState 2 = 6 ∧ (two6.seen idleF).crcOk = true ∧ (two6.seen idleF).kind = 2 ∧ (two6.port 2).rxKey = false
    ∧ bits (two6.seen idleF).hdr 31 30 = 1
    ∧ (bits (two6.seen idleF).hdr 43 32 + 1 + 4096 + (two6.port 2).replay.length - (two6.port 2).txSeq) % 4096 ≤ (two6.port 2).replay.length
    ∧ takes (up6 id) (rx 1 (pay [1, 2])) = true ∧ ((up6 id).seen (rx 1 (pay [1, 2]))).byte 0 = 1
    ∧ crc32c (((up6 id).seen (rx 1 (pay [1, 2]))).bytes.take 0x28) ≠ byteFld ((up6 id).seen (rx 1 (pay [1, 2]))).bytes 0x28 4
    ∧ takes (up6 id) (rx 1 (pay [0x10, 9])) = true ∧ ((up6 id).seen (rx 1 (pay [0x10, 9]))).byte 0 = 0x10 := by decide +kernel

/-- What the statement on character frames assumes, and whether the cabling check passes. -/
def charOk (s : State) (f : RxFlit) : Option Bool :=
  let v := s.seen f
  let u := after s f
  let b := byteFld v.bytes
  if takes s f = true ∧ v.kind = 1 ∧ v.byte 0 = 1 ∧ crc32c (v.bytes.take 0x28) = b 0x28 4 ∧ b 1 1 < 16 ∧ b 2 2 < 4 ∧ b 4 4 < 2 ^ 30
      ∧ (v.bytes.drop 0x2C).all (fun z => decide (z = 0)) = true ∧ u.lnkState 2 = 4 then
    some (u.cablingOk 2 (b 4 4) (b 1 1) (u.ownChar 2 (b 4 4, b 1 1, b 0x18 8)))
  else none

theorem witness_ReceivedFlits_char : charOk expects (rx 1 (chr 1 5)) = some false ∧ charOk (port 4 P0) (rx 1 (chr 0 5)) = some true := by
  decide +kernel

/-- The key of the test link, and a flit of CTYPE and contents `l` that is the first under it. -/
def key0 : LinkKey := ⟨List.replicate 32 0, List.replicate 4 0⟩
/-- That flit: enciphered, with its tag and CRC (R304, R306). -/
def sealed (l : List Nat) : RxFlit :=
  let h := leBytes 8 (2 ^ 62 + 3 * 2 ^ 57)
  let rks := roundKeys key0.key
  let c := counterMode rks (key0.nonce 0) (pay l)
  let b := h ++ c ++ authTag rks (key0.nonce 0) h c
  ⟨2, b ++ leBytes 8 (crc64 b), ⟨[], 0⟩⟩

/-- A port with keys, its roll at `k`. -/
def key6 (k : Nat) : State := up6 (fun x => { x with rxKey := true, rxKeys := [(0, key0)], rekey := k, graceFrom := some 4 })
/-- A port whose roll is at `k`, without keys. -/
def roll6 (k : Nat) : State := up6 (fun x => { x with rekey := k })

theorem test_sealed : ((key6 0).seen (sealed [0x20, 1])).tagOk = true ∧ ((key6 0).seen (sealed [0x20, 1])).payload = pay [0x20, 1] := by decide +kernel

theorem witness_ReceivedFlits_keys : takes (key6 0) (sealed [0x20, 1]) = true ∧ ((key6 0).seen (sealed [0x20, 1])).kind = 1 ∧ ((key6 0).seen (sealed [0x20, 1])).byte 0 = 0x20
    ∧ (after (key6 0) (sealed [0x20, 1])).lnkState 2 = 6 ∧ ((after (key6 0) (sealed [0x20, 1])).port 2).rxKey = true
    ∧ byteFld ((key6 0).seen (sealed [0x20, 1])).bytes 1 4 = (((after (key6 0) (sealed [0x20, 1])).port 2).rxGen + 1) % 2 ^ 32 := by decide +kernel

theorem witness_ReceivedFlits_roll : takes (roll6 1) (rx 1 (pay [0x21, 1])) = true ∧ ((after (roll6 1) (rx 1 (pay [0x21, 1]))).port 2).rekey ≠ 0
    ∧ (after (roll6 1) (rx 1 (pay [0x21, 1]))).lnkState 2 = 6 ∧ ((roll6 1).seen (rx 1 (pay [0x21, 1]))).byte 0 = 0x21
    ∧ byteFld ((roll6 1).seen (rx 1 (pay [0x21, 1]))).bytes 1 4 = (((after (roll6 1) (rx 1 (pay [0x21, 1]))).port 2).txGen + 1) % 2 ^ 32
    ∧ ((key6 0).port 2).rekey = 0 ∧ ((key6 0).port 2).rxKey = true ∧ ((key6 3).port 2).rekey ≤ 3 ∧ 3 < ((key6 4).port 2).rekey ∧ (key6 4).lnkState 2 = 6
    ∧ ((key6 4).port 2).graceFrom.isSome = true := by decide +kernel

/-- A port that started training by itself a moment ago. -/
def lately : State := { up6 (fun x => { x with lastSelf := some 5 }) with tbc := 10 }

theorem witness_ReceivedFlits_retrain : takes (up6 id) (rx 1 (pay [0x30])) = true ∧ ((up6 id).seen (rx 1 (pay [0x30]))).byte 0 = 0x30
    ∧ (after (up6 id) (rx 1 (pay [0x30]))).retrainOk 2 = true ∧ (after (up6 id) (rx 1 (pay [0x30]))).portOn 2 = true
    ∧ takes lately (rx 1 (pay [0x30])) = true ∧ (after lately (rx 1 (pay [0x30]))).retrainOk 2 = false
    ∧ NMap.get 0 ((after lately (rx 1 (pay [0x30]))).port 2).rejTbc 11 = 0 := by decide +kernel

/-- Margin scans of port 2 allowed. -/
def scanP (x : Port) : State := put (port 6 x) [(R.HDR_CTRL_SELFTEST_ALLOW, pLnk 2, 1)]
/-- Laser input 1 changed by `f`. -/
def lz (f : Laser → Laser) : State := { timed with net := { timed.net with lasers := [(1, f (timed.laser 1))] } }
/-- The answer of the upstream partner that `timed` has received. -/
def timeF : Frame := { fr 8 with len := 16, data := leBytes 8 4000 ++ leBytes 8 4010 }

theorem witness_LightTimeRoutes : (scanP P0).flag R.HDR_CTRL_SELFTEST_ALLOW (pLnk 2) = true ∧ (scanP P0).quiescing (pLnk 2) = false ∧ (scanP P0).lnkState 2 = 6
    ∧ ((scanP P0).port 2).scan = none ∧ (scanP P0).testBarred (pLnk 2) = false ∧ ((scanP { P0 with scan := some 3, yields := 16 }).port 2).scan.isSome = true
    ∧ 16 ≤ ((scanP { P0 with scan := some 3, yields := 16 }).port 2).yields ∧ pwrBias 0 < 1000 + 2 ^ 15 ∧ ((lz (fun x => { x with dayN := 3 })).laser 1).dayN ≠ 0
    ∧ ((lz (fun x => { x with newFrom := some 4, firstN := 3 })).laser 1).newFrom.isSome = true ∧ ((lz (fun x => { x with newFrom := some 4, firstN := 3 })).laser 1).firstN ≠ 0
    ∧ timed.rxFind 0 (fun f => decide (f.op = 8)) = some (0, timeF) ∧ timed.upstream = some 2 ∧ timed.flag R.RTE_TIME_CTRL_ROOT pRte = false
    ∧ timeF.src = timed.peerChar 2 4 4 ∧ 16 ≤ timeF.data.length ∧ timed.net.stepped = false ∧ { timed.net with stepped := true }.stepped = true
    ∧ byteFld timeF.data 0 8 = 4000 ∧ timed.net.before = [] ∧ timed.net.tPort = some 2 ∧ timed.net.t2 = 4020
    ∧ (timed.port 2).sentChars = [(0, 0, 4000)] ∧ ((scanP P0).testRec 2 (pLnk 2)).suspended = false ∧ untimed.upstream = some 2 ∧ (untimed.port 2).sentChars = []
    ∧ untimed.rxFind 0 (fun f => decide (f.op = 8)) = some (0, timeF) ∧ timeF.src = untimed.peerChar 2 4 4
    ∧ untimed.flag R.RTE_TIME_CTRL_ROOT pRte = false := by decide +kernel

theorem witness_LightTimeRoutes_address : up.mayWrite 0 pRte = true ∧ (put up [(R.RTE_MADDR_STANDBY, pRte, 1)]).flag R.RTE_MADDR_STANDBY pRte = true
    ∧ (put up [(R.RTE_MADDR_STANDBY, pRte, 0)]).flag R.RTE_MADDR_STANDBY pRte = false ∧ (∀ p < 12, (put up [(R.RTE_MADDR_STANDBY, pRte, 0)]).lnkState p = 0)
    ∧ (put up [(R.RTE_MADDR_STANDBY, pRte, 0), (R.LNK_PORT_STATUS_STATE, pLnk 3, 6)]).lnkState 3 ≠ 0 := by decide +kernel

/-- `hb` with its agreement changed by `f`. -/
def agr (f : AgreeSt → AgreeSt) : State := { hb with agree := f hb.agree }

theorem witness_AgreementKept : (agr (fun x => { x with again := true })).agree.again = true ∧ (agr (fun x => { x with again := true })).keeperUp = true ∧ hb.agree.again = false
    ∧ (agr (fun x => { x with approval := some [] })).agree.approval ≠ none ∧ hb.mayWrite 0 pTop = true ∧ hb.flag R.TOP_DM_APPROVE_BUSY pTop = false
    ∧ newer 32 7 (hb.rg R.TOP_CFG_EPOCH_EPOCH pTop) = true ∧ newer 32 0 (hb.rg R.TOP_CFG_EPOCH_EPOCH pTop) = false ∧ (List.range 16).filter hb.takesPart = []
    ∧ hb.agree.changed = false ∧ (List.range 16).filter (port 6 P0).takesPart = [2] := by decide +kernel

/-- The step machine in a state, with a command of an opcode in queue 1. -/
def stq (st op : Nat) (l : List (Nat × Nat)) (e : Nat := ge1) : State := stepAt (qs (grp e) 1 [cmd op 2 l]) st
/-- The same with a command of queue 2 before it. -/
def early (s : State) : State := s.setCq 2 ⟨[{ cmd 4 1 [] with started := true }], 0⟩
/-- The same without a verdict group. -/
def noGrp (s : State) : State := put s [(R.COL_VERDICT_GID_GID, pCol 0, 4095)]
/-- The step state of function 0 changed by `f`. -/
def sst (f : StepSt → StepSt) (s : State) : State := s.setStep 0 (f (s.stepSt 0))

theorem witness_Steps : hb.mayWrite 0 (pCol 0) = true ∧ (stepAt hb 0).stepState 0 = 0 ∧ (stepAt hb 0).quadsOf 0 ≠ [] ∧ (stepAt hb 0).mayWrite 0 (pCol 0) = true
    ∧ (stepAt hb 5).stepState 0 = 5 ∧ (stq 0 6 [(0x10, 6)]).stepFirst 1 6 = some (cmd 6 2 [(0x10, 6)])
    ∧ (stq 0 6 [(0x10, 6)]).cmdFind 1 2 = some (cmd 6 2 [(0x10, 6)]) ∧ (stq 0 6 [(0x10, 6)]).stepState 0 ≠ 1 ∧ (stq 1 6 [(0x10, 5)]).stepState 0 = 1
    ∧ (stq 1 6 [(0x10, 5)]).stepFirst 1 6 = some (cmd 6 2 [(0x10, 5)]) ∧ ((stq 1 6 [(0x10, 5)]).stepSt 0).cmd = none
    ∧ (cmd 6 2 [(0x10, 5)]).opnd 0x10 47 0 ≠ (stq 1 6 [(0x10, 5)]).stepCount 0 ∧ (cmd 6 2 [(0x10, 6)]).opnd 0x10 47 0 = (stq 1 6 [(0x10, 6)]).stepCount 0
    ∧ (early (stq 1 6 [(0x10, 6)])).stepFirst 1 6 = some (cmd 6 2 [(0x10, 6)]) ∧ (early (stq 1 6 [(0x10, 6)])).earlierDone 0 (cmd 6 2 [(0x10, 6)]).order = false
    ∧ (noGrp (stq 1 6 [(0x10, 6)])).earlierDone 0 (cmd 6 2 [(0x10, 6)]).order = true ∧ (noGrp (stq 1 6 [(0x10, 6)])).verdictGroup 0 = none
    ∧ (stq 1 6 [(0x10, 6)]).verdictGroup 0 = some (0, ge1) ∧ gAxes ge1 = [] ∧ (stq 1 6 [(0x10, 6)]).flag R.COL_STEP_STATUS_HOLD (pCol 0) = false
    ∧ (stq 1 6 [(0x10, 6)]).snapRunning 0 = false := by decide +kernel

theorem witness_Steps_commit : (stq 4 7 [(0x10, 6)]).stepFirst 1 7 = some (cmd 7 2 [(0x10, 6)]) ∧ (stq 4 7 [(0x10, 6)]).cmdFind 1 2 = some (cmd 7 2 [(0x10, 6)])
    ∧ (stq 4 7 [(0x10, 6)]).stepState 0 = 4 ∧ ((stq 4 7 [(0x10, 6)]).stepSt 0).cmd = none ∧ (cmd 7 2 [(0x10, 6)]).opnd 0x10 47 0 = (stq 4 7 [(0x10, 6)]).stepCount 0
    ∧ (early (stq 4 7 [(0x10, 6)])).earlierDone 0 (cmd 7 2 [(0x10, 6)]).order = false ∧ (stq 4 7 [(0x10, 6)]).earlierDone 0 (cmd 7 2 [(0x10, 6)]).order = true
    ∧ (stq 4 7 [(0x10, 6)]).applyClean 0 = true ∧ (sst (fun x => { x with unclean := true }) (stq 4 7 [(0x10, 6)])).applyClean 0 = false := by decide +kernel

/-- Operands of a SNAPSHOT. -/
def snapL : List (Nat × Nat) := [(0x10, 0x100000000), (0x18, 1), (0x20, 0x100000100)]
/-- A SNAPSHOT in queue 1 and its list in cluster memory. -/
def snapQ (st : Nat) : State := (stq st 8 snapL).wle (aClmem 0 0) 16 (0x100000200 + 0x40 * 2 ^ 64)
/-- A SNAPSHOT under way, started or not. -/
def snapRun (b : Bool) (s : State) : State := sst (fun x => { x with snap := some ⟨1, 2, b, 6, 0, 0, 0⟩ }) s

theorem witness_Steps_snapshot : (snapQ 5).starts 1 8 (cmd 8 2 snapL) ∧ (snapQ 4).starts 1 8 (cmd 8 2 snapL) ∧ (snapQ 1).starts 1 8 (cmd 8 2 snapL)
    ∧ (snapRun true (snapQ 1)).starts 1 8 (cmd 8 2 snapL) :=
  ⟨⟨0, by decide +kernel⟩, ⟨0, by decide +kernel⟩, ⟨0, by decide +kernel⟩, ⟨0, by decide +kernel⟩⟩

theorem witness_Steps_snapshots : ((snapQ 4).stepSt 0).snap = none ∧ (snapQ 5).stepState 0 = 5 ∧ (snapQ 1).stepCount 0 ≠ 0 ∧ okB ((snapQ 1).snapList 0 (cmd 8 2 snapL)) = true
    ∧ ((snapRun true (snapQ 1)).stepSt 0).snap = some ⟨1, 2, true, 6, 0, 0, 0⟩ ∧ (snapRun false (snapQ 1)).cmdFind 1 2 = some (cmd 8 2 snapL)
    ∧ okB ((snapRun false (snapQ 1)).snapList 0 (cmd 8 2 snapL)) = true ∧ (snapRun false (snapQ 4)).stepState 0 ≠ 1
    ∧ (snapRun true (snapQ 1)).flag R.COL_STEP_STATUS_HOLD (pCol 0) = false
    ∧ okB ((snapRun true (snapQ 1)).snapImage 0 ⟨1, 2, true, 6, 0, 0, 0⟩ (cmd 8 2 snapL)) = true := by decide +kernel

theorem witness_Steps_frames : (onFlow (stepAt (grp ge1) 0) 0 0 (vfr 0 0)).groupFrame 0 0 (vfr 0 0) 0 0
    ∧ (noGrp (onFlow (stepAt (grp ge2) 0) 0 0 (vfr 2 0))).groupFrame 0 0 (vfr 2 0) 0 0 :=
  ⟨⟨⟨0, by decide +kernel⟩, by decide +kernel⟩, ⟨⟨0, by decide +kernel⟩, by decide +kernel⟩⟩

theorem witness_Steps_verdicts : isMagic 48 magicVerdict (vfr 0 0) = true ∧ byteFld (vfr 0 0).data 6 2 = 0
    ∧ (onFlow (stepAt (grp ge1) 0) 0 0 (vfr 0 0)).verdictGroup ((onFlow (stepAt (grp ge1) 0) 0 0 (vfr 0 0)).commqFn 0) = some (0, ge1)
    ∧ (onFlow (stepAt (grp ge1) 0) 0 0 (vfr 0 0)).stepState 0 = 0 ∧ byteFld (vfr 2 0).data 6 2 = 2 ∧ byteFld (vfr 2 0).data 8 1 ≤ 2
    ∧ (noGrp (onFlow (stepAt (grp ge2) 0) 0 0 (vfr 2 0))).verdictGroup 0 = none
    ∧ ((noGrp (onFlow (stepAt (grp ge2) 0) 0 0 (vfr 2 0))).flow (gFlow ge2 0 1 0 0)).state = 1
    ∧ ((noGrp (onFlow (stepAt (grp ge2) 0) 0 0 (vfr 2 0))).flow (gFlow ge2 0 1 0 0)).waitq = [] := by decide +kernel

/-- A STEP_COMMIT in queue 1 for step `n`, the step machine at that step. -/
def commitAt (n : Nat) : State := put (stq 4 7 [(0x10, n)]) [(R.COL_STEP_COUNT_COUNT, pCol 0, n)]
/-- A SNAPSHOT that has ended while the vote was held for it. -/
def snapHeld : State := put (snapRun true (snapQ 3)) [(R.COL_STEP_STATUS_HOLD, pCol 0, 1)]

theorem witness_HostControl_steps : (stepAt hb 0).mayWrite 0 (pCol 0) = true ∧ (stepAt hb 0).quadsOf 0 ≠ [] ∧ (stepAt hb 5).mayWrite 0 (pCol 0) = true
    ∧ (stepAt hb 5).stepState 0 = 5 ∧ (stq 1 6 [(0x10, 6)]).stepState 0 = 1 ∧ (stq 1 6 [(0x10, 6)]).stepFirst 1 6 = some (cmd 6 2 [(0x10, 6)])
    ∧ (commitAt (2 ^ 48 - 1)).stepFirst 1 7 = some (cmd 7 2 [(0x10, 2 ^ 48 - 1)]) ∧ (commitAt (2 ^ 48 - 1)).stepState 0 = 4
    ∧ (commitAt (2 ^ 48 - 1)).cmdFind 1 2 = some (cmd 7 2 [(0x10, 2 ^ 48 - 1)]) ∧ ((commitAt (2 ^ 48 - 1)).stepSt 0).cmd = none
    ∧ (cmd 7 2 [(0x10, 2 ^ 48 - 1)]).opnd 0x10 47 0 = (commitAt (2 ^ 48 - 1)).stepCount 0
    ∧ (commitAt (2 ^ 48 - 1)).earlierDone 0 (cmd 7 2 [(0x10, 2 ^ 48 - 1)]).order = true ∧ (commitAt (2 ^ 48 - 1)).stepCount 0 = 2 ^ 48 - 1
    ∧ (commitAt (2 ^ 48 - 2)).applyClean 0 = true ∧ (commitAt (2 ^ 48 - 2)).stepCount 0 < 2 ^ 48 - 1 := by decide +kernel

/-- A STEP_VERDICT fetched before the step command in queue 1. -/
def stepBefore (s : State) : State := s.setCq 2 ⟨[cmd 6 1 [(0x10, 6)]], 0⟩

theorem witness_Steps_first : (∀ e ∈ (stq 1 6 [(0x10, 6)]).cmdsOf 0, e.2.isStep = true → e.2.result = none → (cmd 6 2 [(0x10, 6)]).order ≤ e.2.order)
    ∧ (∀ e ∈ (stq 4 7 [(0x10, 6)]).cmdsOf 0, e.2.isStep = true → e.2.result = none → (cmd 7 2 [(0x10, 6)]).order ≤ e.2.order)
    ∧ (∃ e ∈ (stepBefore (stq 1 6 [(0x10, 6)])).cmdsOf 0, e.2.isStep = true ∧ e.2.result = none ∧ e.2.order < (cmd 6 2 [(0x10, 6)]).order)
    ∧ (stepBefore (stq 1 6 [(0x10, 6)])).stepFirst 1 6 = some (cmd 6 2 [(0x10, 6)]) ∧ (stepBefore (stq 1 6 [(0x10, 6)])).cmdFind 1 2 = some (cmd 6 2 [(0x10, 6)])
    ∧ (stq 1 7 [(0x10, 6)]).stepFirst 1 7 = some (cmd 7 2 [(0x10, 6)]) ∧ (stq 1 7 [(0x10, 6)]).stepState 0 ≠ 4
    ∧ (∀ e ∈ (commitAt (2 ^ 48 - 1)).cmdsOf 0, e.2.isStep = true → e.2.result = none → (cmd 7 2 [(0x10, 2 ^ 48 - 1)]).order ≤ e.2.order) := by decide +kernel

theorem witness_HostControl_snapshots : ((snapRun false (snapQ 1)).stepSt 0).snap = some ⟨1, 2, false, 6, 0, 0, 0⟩
    ∧ (put (snapRun false (snapQ 1)) [(R.COL_STEP_COUNT_COUNT, pCol 0, 0)]).stepCount 0 = 0 ∧ (cmd 8 2 snapL).result = none
    ∧ (snapHeld.stepSt 0).snap = some ⟨1, 2, true, 6, 0, 0, 0⟩ ∧ snapHeld.flag R.COL_STEP_STATUS_HOLD (pCol 0) = true ∧ snapHeld.stepState 0 = 3
    ∧ okB (snapHeld.snapImage 0 ⟨1, 2, true, 6, 0, 0, 0⟩ (cmd 8 2 snapL)) = true ∧ snapHeld.cmdFind 1 2 = some (cmd 8 2 snapL)
    ∧ (onFlow (stepAt (grp ge1) 5) 0 0 (vfr 0 0)).stepState 0 = 5
    ∧ (onFlow (stepAt (grp ge1) 5) 0 0 (vfr 0 0)).verdictGroup ((onFlow (stepAt (grp ge1) 5) 0 0 (vfr 0 0)).commqFn 0) = some (0, ge1) := by decide +kernel

/-- A COLL_LAUNCH in queue 1 whose operation block lies in cluster memory. -/
def lq (e : Nat) : State :=
  put ((qs (put (grp e) [(R.COL_CQ_SEQ_SEQ, 0, 4)]) 1 [cmd 5 2 [(0x10, 0x100002000)]]).wle (aClmem 0 0x2000) 128 (cop 2 e).cob) [(R.QUE_CQ_WAIT_OPCODE, 1, 5)]
/-- Its command. -/
def lqc : Cmd := cmd 5 2 [(0x10, 0x100002000)]

theorem witness_Collectives_starts : (lq ge1).starts 1 5 lqc := ⟨0, by decide +kernel⟩

theorem witness_Collectives : (lq ge1).rg R.QUE_CQ_WAIT_OPCODE 1 = 5 ∧ lqc.fld 0x10 64 % 64 = 0 ∧ loads (lq ge1) (viaFn ((lq ge1).cmdqFn 1)) (lqc.fld 0x10 64) 128 = true
    ∧ (lq ge1).commqOf ((lq ge1).cmdqFn 1) (bits ((lq ge1).rle (aClmem 0 0x2000) 128) 43 32) = some 0
    ∧ (lq ge1).grpUsable ((lq ge1).grpEntry 0) = true ∧ (lq ge1).grpMember ((lq ge1).grpEntry 0) = true ∧ (lq 0).grpUsable ((lq 0).grpEntry 0) = false
    ∧ (put (lq ge1) [(R.COL_CQ_STATUS_STATE, 0, 2)]).rg R.COL_CQ_STATUS_STATE 0 = 2 ∧ (lq ge1).rg R.COL_CQ_STATUS_STATE 0 ≠ 2
    ∧ 16 ≤ (((lq ge1).setCommq 0 { CollQ.empty with ops := List.replicate 16 (cop 2 ge1) }).commq 0).ops.length ∧ ((lq ge1).commq 0).ops.length < 16
    ∧ ((lq ge1).commq 0).pendAbort = none := by decide +kernel

/-- The command of `lq` with ERR_SIGNAL. -/
def lqe : Cmd := { lqc with desc := lqc.desc + 2 ^ 9 }
/-- `lq e` with that command. -/
def lqErr (e : Nat) : State := qs (lq e) 1 [lqe]

theorem witness_Collectives_refused : (lq ge1).workStatus (pCol ((lq ge1).cmdqFn 1)) = St.OK ∧ lqc.errSignal = false ∧ lqe.errSignal = true
    ∧ (lqErr 0).ownsSig 0 (bits ((lq 0).rle (aClmem 0 0x2000) 128) 559 544) = true ∧ bits ((lq 0).rle (aClmem 0 0x2000) 128) 607 576 ≠ 0
    ∧ (lqErr 0).sigVal 5 + bits ((lq 0).rle (aClmem 0 0x2000) 128) 607 576 < 2 ^ 64
    ∧ (lq (ge1 + 4 + 2 ^ 64)).grpUsable ((lq (ge1 + 4 + 2 ^ 64)).grpEntry 0) = true ∧ (lq (ge1 + 4 + 2 ^ 64)).grpMember ((lq (ge1 + 4 + 2 ^ 64)).grpEntry 0) = false := by decide +kernel

theorem witness_Collectives_refused_starts : (lqErr 0).starts 1 5 lqe := ⟨0, by decide +kernel⟩

/-- An operation of a kind waiting in queue 0. -/
def wq (e : Nat) : State := (put (grp e) [(R.TOP_AGREE_STATUS_LOCAL_MATCH, pTop, 1)]).setCommq 0 { CollQ.empty with ops := [cop 2 e] }
/-- The same while every core of the quad computes. -/
def wqBusy : State := { wq ge2 with coll := { (wq ge2).coll with inUse := [(0, 2), (1, 2), (2, 2), (3, 2)] } }
/-- A change of COLL_QUADS that is pending. -/
def qpend (s : State) : State := { s with coll := { s.coll with quadsPend := [(0, true)] } }

theorem witness_Collectives_operations : (wq ge1).unitStatus (pCol 0) = St.OK ∧ (wq ge1).collWaiting 0 = some (0, cop 2 ge1)
    ∧ (wq ge1).collCheck 0 0 { cop 2 ge1 with entry := (wq ge1).grpEntry 0 } = St.OK ∧ gAxes ge1 = [] ∧ (cop 2 ge1).kind = 2
    ∧ (gRings ge1).length ≤ ((wq ge1).freeCores 0).length ∧ ((grp ge1).setCommq 0 { CollQ.empty with ops := [cop 2 ge1] }).collWaiting 0 = some (0, cop 2 ge1)
    ∧ ((grp ge1).setCommq 0 { CollQ.empty with ops := [cop 2 ge1] }).collCheck 0 0
        { cop 2 ge1 with entry := ((grp ge1).setCommq 0 { CollQ.empty with ops := [cop 2 ge1] }).grpEntry 0 } ≠ St.OK
    ∧ (wqBusy.freeCores 0).length < (gRings ge2).length ∧ wqBusy.collWaiting 0 = some (0, cop 2 ge2)
    ∧ wqBusy.collCheck 0 0 { cop 2 ge2 with entry := wqBusy.grpEntry 0 } = St.OK
    ∧ (grp ge1).mayWrite 0 (pCol 0) = true ∧ (grp ge1).commqOf 0 ((grp ge1).rg R.COL_CQ_SEL_GID (pCol 0)) = some 0 ∧ (grp ge1).flag R.COL_CQ_CMD_BUSY 0 = false
    ∧ NMap.get false (qpend (grp ge1)).coll.quadsPend 0 = true ∧ (qpend (grp ge1)).collRunning 0 = false
    ∧ (qpend ((grp ge1).setCommq 0 { CollQ.empty with ops := [{ cop 2 ge1 with running := true }] })).collRunning 0 = true := by decide +kernel

/-- A running operation of a group of two. -/
def r2 : CollOp := { cop 2 ge2 with running := true }
/-- The same with its flow and a frame on it. -/
def wo (o : CollOp) (f : Frame) : State := onFlow (withOp ge2 o) 1 2 f
/-- A header whose byte 5 differs. -/
def hx : Frame := hdrOf (withOp ge2 r2) r2 (r2.phases.headD ⟨0, 0, false⟩) 5 [9]
/-- Four bytes of data. -/
def dfr : Frame := { fr 1 with len := 4, data := [1, 2, 3, 4] }

theorem witness_Collectives_frames : (wo r2 hx).groupFrame 1 0 hx 0 2 ∧ (wo { r2 with hdr0 := true } dfr).groupFrame 1 0 dfr 0 2
    ∧ (wo r2 (abortFr 3)).groupFrame 1 0 (abortFr 3) 0 2 ∧ (wo r2 (abortFr 9)).groupFrame 1 0 (abortFr 9) 0 2 :=
  ⟨⟨⟨0, by decide +kernel⟩, by decide +kernel⟩, ⟨⟨0, by decide +kernel⟩, by decide +kernel⟩, ⟨⟨0, by decide +kernel⟩, by decide +kernel⟩,
    ⟨⟨0, by decide +kernel⟩, by decide +kernel⟩⟩

theorem witness_Collectives_headers : isMagic 64 magicHeader hx = true ∧ ((wo r2 hx).ringPhase 0 2).map (fun e => (e.1, e.2.2)) = some (r2, 0)
    ∧ (wo r2 hx).rg R.COL_CQ_STATUS_STATE 0 ≠ 2 ∧ byteFld hx.data 8 4 = r2.seq ∧ r2.hdr0 = false ∧ seq32Before r2.seq ((wo r2 hx).collOldest 0) = false
    ∧ (((wo r2 hx).collHeader r2 (r2.phases.headD ⟨0, 0, false⟩)).drop 4).take 28 ≠ (hx.data.drop 4).take 28
    ∧ isMagic 16 magicAbort dfr = false ∧ isMagic 64 magicHeader dfr = false
    ∧ ((wo { r2 with hdr0 := true } dfr).ringPhase 0 2).map (fun e => (e.1, e.2.2)) = some ({ r2 with hdr0 := true }, 0) ∧ gLanes2 ge2 = false ∧ dfr.poison = 0
    ∧ isMagic 16 magicAbort (abortFr 3) = true ∧ (wo r2 (abortFr 3)).collHead 0 = some r2 ∧ r2.seq = byteFld (abortFr 3).data 8 4
    ∧ seq32Before 9 ((wo r2 (abortFr 9)).collOldest 0) = false ∧ (∀ o ∈ ((wo r2 (abortFr 9)).commq 0).ops, o.seq ≠ byteFld (abortFr 9).data 8 4) := by decide +kernel

/-- The data clause's piece has room for the frame. -/
def pieceRoom (s : State) (g k : Nat) (f : Frame) : Bool := match s.ringPhase g k with
  | some (o, ph, 0) =>
    let e := gExt o.entry ph.axis
    let piece := s.pieceBlocks o ph (recvPiece ph.gather (s.grpIdx o.entry ph.axis) e 0 (o.recv0 + 1)) 0
    decide (o.recv0 + 1 ≤ e - 1 ∧ o.part0.length + f.data.length < (piece.map (o.blockBytes ph)).foldl (· + ·) 0)
  | _ => false

theorem witness_Collectives_done : pieceRoom (wo { r2 with hdr0 := true } dfr) 0 2 dfr = true
    ∧ (withOp ge2 { r2 with result := some 0 }).commqOf 0 0 = some 0 ∧ (withOp ge2 { r2 with result := some 0 }).collHead 0 = some { r2 with result := some 0 }
    ∧ (withOp ge2 { r2 with result := some 0 }).cmdFind 1 2 = some { cmd 5 2 [] with started := true } ∧ r2.inc ≠ 0
    ∧ (withOp ge2 { r2 with result := some 0 }).sigVal r2.sig + r2.inc < 2 ^ 64
    ∧ (withOp ge2 { r2 with result := some 0x404 }).collHead 0 = some { r2 with result := some 0x404 } := by decide +kernel

/-- An operation known to have ended with a status, its command with ERR_SIGNAL, its queue in a state. -/
def doneErr (st state : Nat) : State :=
  put (qs (withOp ge2 { r2 with result := some st }) 1 [{ cmd 5 2 [] with desc := 5 + 2 ^ 9, started := true }]) [(R.COL_CQ_STATUS_STATE, 0, state)]

theorem witness_Collectives_done_signal : (doneErr 0x404 0).cmdFind 1 2 = some { cmd 5 2 [] with desc := 5 + 2 ^ 9, started := true }
    ∧ ({ cmd 5 2 [] with desc := 5 + 2 ^ 9, started := true } : Cmd).errSignal = true ∧ (doneErr 0x404 0).ownsSig 0 r2.sig = true
    ∧ (doneErr 0x404 0).sigVal r2.sig + r2.inc < 2 ^ 64 ∧ (doneErr 0x404 0).rg R.COL_CQ_STATUS_STATE 0 ≠ 2 ∧ (doneErr 0x404 2).rg R.COL_CQ_STATUS_STATE 0 = 2
    ∧ (doneErr 0x404 2).collHead 0 = some { r2 with result := some 0x404 } ∧ (cmd 5 2 []).errSignal = false := by decide +kernel

/-- `hq` with register fields changed. -/
def hqp (l : List (Fld × Nat × Nat)) : State := put hq l
/-- A command that has ended, its signal 5 to be raised by `inc`. -/
def ended (st inc : Nat) : Cmd := { cmd 4 1 [(8, 5), (0xC, inc)] with started := true, result := some st }
/-- `hq` with that command in flight. -/
def endd (st inc : Nat) : State := qs hq 1 [ended st inc]

theorem witness_HostQueues : hq.cmdqOf 0 1 = some 1 ∧ hq.cqState 1 = 1 ∧ (3 + 2 ^ 32 - hq.rg R.QUE_CQ_TAIL_TAIL 1) % 2 ^ 32 ≠ 0
    ∧ (65 + 2 ^ 32 - hq.rg R.QUE_CQ_FETCHED_FETCHED 1) % 2 ^ 32 = 2 ^ hq.rg R.QUE_CQ_CFG_LOG2SIZE 1
    ∧ 2 ^ hq.rg R.QUE_CQ_CFG_LOG2SIZE 1 < (66 + 2 ^ 32 - hq.rg R.QUE_CQ_FETCHED_FETCHED 1) % 2 ^ 32 ∧ hq.cmdqOf 0 9 = none
    ∧ (hqp [(R.QUE_CQ_STATUS_STATE, 1, 3)]).cmdqOf 0 1 = some 1 ∧ (hqp [(R.QUE_CQ_STATUS_STATE, 1, 3)]).cqState 1 ≠ 1
    ∧ (hq.classTurn hq.cqsReady 1).isSome = true ∧ hq.cqTurn hq.cqsReady 1 = some 1
    ∧ 0 < (hq.rg R.QUE_CQ_TAIL_TAIL 1 + 2 ^ 32 - hq.rg R.QUE_CQ_FETCHED_FETCHED 1) % 2 ^ 32
    ∧ (endd 0 3).cmdFind 1 1 = some (ended 0 3) ∧ (endd 0 3).digestHolds ((endd 0 3).cmdqFn 1) 1 1 = false ∧ (ended 0 3).sig = 5 ∧ (ended 0 3).inc = 3
    ∧ (endd 0 3).sigVal 5 + 3 < 2 ^ 64 ∧ ((endd 0 3).sigSet 5 (2 ^ 64 - 3)).sigVal 5 + 3 ≥ 2 ^ 64 ∧ (endd 0x404 3).cmdFind 1 1 = some (ended 0x404 3)
    ∧ (ended 0x404 3).errSignal = false := by decide +kernel

/-- A state whose host link is down. -/
def linkless (s : State) : State := { s with host := { s.host with pcieUp := false } }

theorem witness_HostQueues_link : hq.hostUp 0 = true ∧ hq.cqResetting 1 = false ∧ (linkless hq).hostUp 0 = false
    ∧ { hq with recov := { hq.recov with resets := [rst 1 (pQue 0)] } }.cqResetting 1 = true
    ∧ { hq with recov := { hq.recov with resets := [rst 1 (pQue 0)] } }.hostUp 0 = true := by decide +kernel

theorem witness_HostQueues_control : hq.mayWrite 0 (pQue 0) = true ∧ hq.cqSel 0 = some 1 ∧ sizeOk (hq.rg R.QUE_CQ_CFG_LOG2SIZE 1) = true ∧ hq.cqState 1 ≠ 3
    ∧ hq.flag R.QUE_CQ_STATUS_FSTOP 1 = false ∧ hq.flag R.QUE_CQ_STATUS_QSTOP 1 = false
    ∧ (hqp [(R.QUE_CQ_STATUS_STATE, 1, 2), (R.QUE_CQ_STATUS_FSTOP, 1, 1)]).cqState 1 = 2
    ∧ (hqp [(R.QUE_CQ_STATUS_STATE, 1, 2), (R.QUE_CQ_STATUS_FSTOP, 1, 1)]).flag R.QUE_CQ_CTRL_EN 1 = true := by decide +kernel

/-- Event queue 0 with merge slots and a record unsignalled. -/
def eqx : State := eqs hq { EvQ.empty with slots := [⟨rec9, 4, 0, 4, 9⟩, ⟨rec9, 4, 3, 5, 8⟩], hist := [rec9], unsig := 3 }

theorem witness_HostQueues_events : hq.evtqOf 0 0 = some 0 ∧ hq.eqActive 0 = true ∧ hq.rg R.EVT_EQ_CONS_COUNT 0 = 4 ∧ hq.rg R.EVT_EQ_PROD_COUNT 0 = 7
    ∧ hq.mayWrite 0 (pEvt 0) = true ∧ hq.eqSel 0 = some 0 ∧ sizeOk (hq.rg R.EVT_EQ_CFG_LOG2SIZE 0) = true ∧ hq.flag R.EVT_EQ_CTRL_EN 0 = false
    ∧ hq.boot.readyPend = false ∧ (hqp [(R.EVT_EQ_CTRL_EN, 0, 1)]).flag R.EVT_EQ_CTRL_EN 0 = true ∧ (hqp [(R.EVT_EQ_CTRL_EN, 0, 1)]).eqSel 0 = some 0
    ∧ ((eqx.eq 0).slots.map MergeSlot.count) = [0, 3] ∧ (eqx.eq 0).pend = [] ∧ eqx.eqSpace 0 = true ∧ (eqx.eq 0).unsig ≠ 0
    ∧ eqx.flag R.EVT_EQ_CFG_MSIX_EN 0 = true ∧ eqx.eqActive 0 = true ∧ (eqx.eq 0).hist ≠ [] ∧ eqx.rg R.EVT_EQ_DROP_COUNTS 0 = 0
    ∧ (put eqx [(R.EVT_EQ_DROP_COUNTS, 0, 2)]).rg R.EVT_EQ_DROP_COUNTS 0 ≠ 0 ∧ (put eqx [(R.EVT_EQ_DROP_COUNTS, 0, 2)]).eqSpace 0 = true := by decide +kernel

theorem witness_HostQueues_fails : (0 : Nat) < (eqx.eq 0).hist.length ∧ 0 < (eqx.rg R.EVT_EQ_PROD_COUNT 0 + 2 ^ 32 - eqx.rg R.EVT_EQ_CONS_COUNT 0) % 2 ^ 32
    ∧ (2 : Nat) < ((eqs hq { EvQ.empty with hist := [rec9, rec9, rec9] }).eq 0).hist.length ∧ (eqs hq { EvQ.empty with hist := [rec9, rec9, rec9] }).eqActive 0 = true
    ∧ (2 : Nat) < ((eqs hq { EvQ.empty with hist := [rec9, rec9, rec9] }).rg R.EVT_EQ_PROD_COUNT 0 + 2 ^ 32
      - (eqs hq { EvQ.empty with hist := [rec9, rec9, rec9] }).rg R.EVT_EQ_CONS_COUNT 0) % 2 ^ 32 := by decide +kernel

/-- `hq` with a command of an opcode in queue 1. -/
def c1 (op : Nat) (l : List (Nat × Nat)) : State := qs hq 1 [cmd op 2 l]
/-- `hq` with the cores of quad 0 enabled, idle and not dedicated, and a KERNEL_LAUNCH on all four. -/
def launches (busy : Nat) : State :=
  qs (put { hq with cores := [], coll := { hq.coll with quads := [] } }
    ((List.range 4).flatMap (fun c => [(R.CORE_RUN_STATUS_STATE, pCore c, if c = 2 then busy else 0), (R.HDR_CTRL_ENABLE, pCore c, 1)])))
    1 [cmd 1 2 [(0x28, 0x500), (0x10, 0x4000), (0x18, 7), (0x20, 9)]]
/-- Its command. -/
def kl : Cmd := cmd 1 2 [(0x28, 0x500), (0x10, 0x4000), (0x18, 7), (0x20, 9)]

theorem witness_HostCommands_starts : (launches 0).starts 1 1 kl ∧ (c1 1 [(0x28, 5)]).starts 1 1 (cmd 1 2 [(0x28, 5)])
    ∧ (c1 2 [(0x18, 0x500), (0x20, 64)]).starts 1 2 (cmd 2 2 [(0x18, 0x500), (0x20, 64)]) ∧ (c1 3 [(0x10, 5), (0x18, 9)]).starts 1 3 (cmd 3 2 [(0x10, 5), (0x18, 9)])
    ∧ (c1 4 [(0x10, 5), (0x12, 1), (0x18, 9)]).starts 1 4 (cmd 4 2 [(0x10, 5), (0x12, 1), (0x18, 9)])
    ∧ (c1 9 [(0x10, 70), (0x11, 250)]).starts 1 9 (cmd 9 2 [(0x10, 70), (0x11, 250)])
    ∧ (c1 9 [(0x10, 20), (0x11, 233), (0x12, 3)]).starts 1 9 (cmd 9 2 [(0x10, 20), (0x11, 233), (0x12, 3)]) :=
  ⟨⟨0, by decide +kernel⟩, ⟨0, by decide +kernel⟩, ⟨0, by decide +kernel⟩, ⟨0, by decide +kernel⟩, ⟨0, by decide +kernel⟩, ⟨0, by decide +kernel⟩,
    ⟨0, by decide +kernel⟩⟩

theorem witness_HostCommands_launch : (c1 1 [(0x28, 5)]).quadFn ((cmd 1 2 [(0x28, 5)]).opnd 0x28 7 0) ≠ some 0 ∧ (launches 0).quadFn (kl.opnd 0x28 7 0) = some ((launches 0).cmdqFn 1)
    ∧ (launches 0).quadPresent (kl.opnd 0x28 7 0) = true ∧ kl.cores ≠ [] ∧ (launches 0).dedicatedQuad 0 0 = false
    ∧ (launches 0).unitsStatus (kl.cores.map pCore) = St.OK ∧ (∀ c ∈ kl.cores, (launches 0).coreIdle c = true)
    ∧ (launches 1).unitsStatus (kl.cores.map pCore) = St.OK ∧ (∃ c ∈ kl.cores, (launches 1).coreIdle c = false) := by decide +kernel

/-- A DMA of a line between host memory and cluster memory. -/
def dmaC (out : Nat) : List (Nat × Nat) := [(0x10, 0x3000), (0x18, 0x100000040), (0x20, 64), (0x24, out)]

theorem witness_HostCommands_dma : windowOk 0x500 64 = false ∧ (c1 2 (dmaC 1)).starts 1 2 (cmd 2 2 (dmaC 1)) ∧ (cmd 2 2 (dmaC 1)).fld 0x20 32 = 64
    ∧ windowOk 0x100000040 64 = true ∧ Map.sorted natLt (c1 2 (dmaC 0)).mem = true ∧ (c1 2 (dmaC 0)).flag R.DBG_TRACE_CFG_EN (pDbg 0) = false
    ∧ (c1 2 (dmaC 0)).mapAddr (viaFn 0) 0x100000040 true false = .ok (aClmem 0 0x40) ∧ (c1 2 (dmaC 1)).mapAddr (viaFn 0) 0x100000040 false false = .ok (aClmem 0 0x40)
    ∧ (c1 2 (dmaC 0)).poisoned (aHost 0x3000) = false ∧ bit ((cmd 2 2 (dmaC 0)).fld 0x24 8) 0 = false ∧ bit ((cmd 2 2 (dmaC 1)).fld 0x24 8) 0 = true :=
  ⟨by decide +kernel, ⟨0, by decide +kernel⟩, by decide +kernel⟩

/-- A DMA of no byte. -/
def dma0 : List (Nat × Nat) := [(0x10, 0x3000), (0x18, 0x100000040)]

theorem witness_HostCommands_dma_ends : (put (c1 2 (dmaC 0)) [(R.PWR_THERM_STATUS_HALTED, pPwr, 1)]).halted = true ∧ (c1 2 (dmaC 0)).halted = false
    ∧ (c1 2 (dmaC 0)).host.pcieUp = true ∧ (linkless (c1 2 (dmaC 0))).host.pcieUp = false ∧ (linkless (c1 2 (dmaC 0))).halted = false
    ∧ windowOk ((cmd 2 2 dma0).fld 0x18 64) ((cmd 2 2 dma0).fld 0x20 32) = true ∧ (cmd 2 2 dma0).fld 0x20 32 = 0 := by decide +kernel

theorem witness_HostCommands_dma_starts : (c1 2 dma0).starts 1 2 (cmd 2 2 dma0) ∧ (linkless (c1 2 (dmaC 0))).starts 1 2 (cmd 2 2 (dmaC 0))
    ∧ (put (c1 2 (dmaC 0)) [(R.PWR_THERM_STATUS_HALTED, pPwr, 1)]).starts 1 2 (cmd 2 2 (dmaC 0)) :=
  ⟨⟨0, by decide +kernel⟩, ⟨0, by decide +kernel⟩, ⟨0, by decide +kernel⟩⟩

/-- A SIGNAL_WAIT that waits. -/
def sw : Cmd := { cmd 3 2 [(0x10, 5), (0x18, 9)] with started := true }

theorem witness_HostCommands_signals : (c1 3 [(0x10, 5), (0x18, 9)]).waitMet (cmd 3 2 [(0x10, 5), (0x18, 9)]) = false
    ∧ ((c1 3 [(0x10, 5), (0x18, 9)]).sigSet 5 9).waitMet (cmd 3 2 [(0x10, 5), (0x18, 9)]) = true
    ∧ (qs hq 1 [sw]).cmdFind 1 2 = some sw ∧ (qs hq 1 [sw]).waitMet sw = false ∧ ((qs hq 1 [sw]).sigSet 5 9).waitMet sw = true
    ∧ (qs hq 1 [sw]).cq 1 = ⟨[sw], 0⟩ ∧ (sw.opcode == 3 && sw.started && sw.result.isNone) = true
    ∧ (c1 4 [(0x10, 5), (0x12, 1), (0x18, 9)]).sigVal 5 + 9 < 2 ^ 64 ∧ ((c1 4 [(0x10, 5), (0x12, 1), (0x18, 9)]).sigSet 5 (2 ^ 64 - 9)).sigVal 5 + 9 = 2 ^ 64
    ∧ (cmd 9 2 [(0x10, 70), (0x11, 250)]).opnd 0x10 17 8 ≤ 1000 ∧ (cmd 9 2 [(0x10, 20), (0x11, 233), (0x12, 3)]).opnd 0x10 17 8 = 1001 := by decide +kernel

/-- A FENCE of queue 1 in flight with its fence, and the commands of queue 2. -/
def fen (more : List Cmd) : State :=
  let s := qs (qs hq 1 [{ cmd 10 2 [(0x10, 1)] with started := true }]) 2 more
  { s with host := { s.host with fences := [⟨0, some (1, 2), [(2, 5)]⟩] } }

theorem witness_HostControl : (c1 10 [(0x10, 1)]).starts 1 10 (cmd 10 2 [(0x10, 1)]) ∧ (c1 11 []).starts 1 11 (cmd 11 2 []) ∧ (c1 11 [(0x10, 1)]).starts 1 11 (cmd 11 2 [(0x10, 1)])
    ∧ (c1 10 [(0x10, 9)]).starts 1 10 (cmd 10 2 [(0x10, 9)]) := ⟨⟨0, by decide +kernel⟩, ⟨0, by decide +kernel⟩, ⟨0, by decide +kernel⟩, ⟨0, by decide +kernel⟩⟩

theorem witness_HostControl_fences : (c1 10 [(0x10, 1)]).cmdqOf 0 ((cmd 10 2 [(0x10, 1)]).opnd 0x10 11 0) = some 1 ∧ (c1 10 [(0x10, 1)]).cqClass 1 ≠ 0
    ∧ (c1 10 [(0x10, 9)]).cmdqOf 0 ((cmd 10 2 [(0x10, 9)]).opnd 0x10 11 0) = none ∧ (fen []).cmdFind 1 2 = some { cmd 10 2 [(0x10, 1)] with started := true }
    ∧ (fen []).fenceMet ⟨0, some (1, 2), [(2, 5)]⟩ = true ∧ (fen [{ cmd 4 1 [] with order := 1 }]).fenceMet ⟨0, some (1, 2), [(2, 5)]⟩ = false := by decide +kernel

/-- A resource assignment of function 1 staged. -/
def resS (w : Nat) : State := put up [(R.HIF_RES_RESULT_DONE, pHif 1, 1), (R.TOP_MEM_PORT_PRESENT_MEM, pTop, 255), (R.FAR_DEV_BASE_FRAMES 0, pFar, 16),
  (R.HIF_RES_CTRL_CDMA_WEIGHT, pHif 1, w)]

theorem witness_HostControl_resources : up.mayWrite 0 (pHif 0) = true ∧ (resS 1).mayWrite 0 (pHif 1) = true ∧ (resS 1).flag R.HIF_RES_RESULT_DONE (pHif 1) = true
    ∧ (resS 1).resCheck 1 = St.OK ∧ (resS 0).resCheck 1 ≠ St.OK ∧ (resS 0).flag R.HIF_RES_RESULT_DONE (pHif 1) = true := by decide +kernel

theorem witness_SignalWindow : up.hostUp 0 = true ∧ (linkless up).hostUp 0 = false ∧ up.ownsSig 0 63 = true ∧ up.ownsSig 0 64 = false ∧ up.ownsSig 0 65535 = false
    ∧ (put up [(cntEvent 3, pHif 0, Cn.HIF_SIG_DENIED)]).rg (cntEvent 3) (pHif 0) = Cn.HIF_SIG_DENIED
    ∧ (put up [(cntEvent 3, pHif 0, Cn.HIF_SIG_DENIED)]).flag (cntFreeze 3) (pHif 0) = false := by decide +kernel

theorem witness_HostLink : up.domOn 23 = true ∧ (linkless up).domOn 23 = true ∧ (linkless up).host.pcieUp = false ∧ up.host.pcieUp = true ∧ (spd true true true).spdmOn = true ∧ (spd true false false).host.spdm.versionDone = true ∧ (spd false false false).spdmOn = true
    ∧ (spd false false false).host.spdm.versionDone = false ∧ (spd true true false).host.spdm.capsDone = true ∧ bit 0x80 7 = true ∧ bit 2 1 = true
    ∧ (spd true true true).host.spdm.algsDone = true ∧ (keyed (spd true true true)).chainBytes.isSome = true ∧ (spd true true true).host.spdm.deferred = 0 := by decide +kernel

/-- `up` with a rail changed. -/
def rl (r : Nat) (x : Rail) : State := pw (fun p => { p with rails := NMap.put r x p.rails })
/-- `up` with slack samples below the floor. -/
def slackS : State := { pw (fun x => { x with slackRun := [(0, 9)], trimLogged := [(3, true)] }) (put up [(R.PWR_MARGIN_CFG_FLOOR, pPwr, 10)]) with tbc := 4000000000000 }

theorem witness_PowerAndClocks : ((rl 0 ⟨8000, some (8500, 5, 2), 0, false⟩).rail 0).pend = some (8500, 5, 2) ∧ ((rl 0 ⟨8000, some (8500, 5, 3), 0, false⟩).rail 0).pend = some (8500, 5, 3)
    ∧ ((rl 1 ⟨8000, none, 0, true⟩).rail 1).failed = true ∧ ((rl 1 ⟨8000, none, 0, true⟩).rail 1).pend = none ∧ (rl 1 ⟨8000, none, 0, true⟩).keeperUp = true
    ∧ ¬(3 * up.cgCurrent < 100 * (max up.cgCurrent up.cgCurrent - min up.cgCurrent up.cgCurrent))
    ∧ 3 * up.cgCurrent < 100 * (max 1000000 up.cgCurrent - min 1000000 up.cgCurrent) ∧ up.pwr.mismatch < 9
    ∧ 9 ≤ (pw (fun p => { p with mismatch := 9 })).pwr.mismatch ∧ 9 < slackS.rg R.PWR_MARGIN_CFG_FLOOR pPwr ∧ 10 ≤ NMap.get 0 slackS.pwr.slackRun 0 + 1
    ∧ slackS.freqPend = false ∧ slackS.rg (R.PWR_TRIM_TRIM (cgOfCluster 0)) pPwr + 4 ≤ 40 ∧ slackS.pwr.trimLast = [] ∧ NMap.get false slackS.pwr.trimLogged 3 = true := by
  decide +kernel

theorem witness_PowerAndClocks_readback : (rl 0 ⟨8000, some (8500, 5, 2), 0, false⟩).tbc ≤ ((rl 0 ⟨8000, some (8500, 5, 2), 0, false⟩).rail 0).deadline 8500 5
    ∧ ((rl 0 ⟨8000, some (8500, 5, 2), 0, false⟩).rail 0).deadline 8500 5 < { rl 0 ⟨8000, some (8500, 5, 2), 0, false⟩ with tbc := 1000000 }.tbc
    ∧ (8601 : Nat) + 100 > 8500 ∧ 8500 + 100 < (⟨8601, 7⟩ : AvsReply).volt := by decide +kernel

/-- A state without automatic changes. -/
def noauto (s : State := up) : State := put s [(R.CLK_CLK_CTRL_AUTO, pClk, 0)]
/-- A change of CLK_HST under way. -/
def hst (old now : Nat) (r : Rail) : State := put (pw (fun p => { p with hstOld := some old, rails := [(2, r)] })) [(R.CLK_HST_FREQ_MHZ, pClk, now), (R.CLK_HST_FREQ_BUSY, pClk, 1)]

theorem witness_PowerAndClocks_changes : up.mayWrite 0 pClk = true ∧ (noauto (put up [(R.CLK_FREQ_REQ_OPP, pClk, 6)])).rg R.CLK_FREQ_REQ_OPP pClk < 8
    ∧ noauto.flag R.CLK_CLK_CTRL_AUTO pClk = false ∧ noauto.freqCheck 0 (2 ^ 63) = St.OK ∧ up.freqPend = false ∧ up.flag R.CLK_CLK_CTRL_AUTO pClk = true
    ∧ noauto.freqCheck 0 1 ≠ St.OK ∧ (noauto (chg 4 6 1)).freqPend = true ∧ (noauto (chg 4 6 1)).pwr.chg = 1 ∧ (noauto (chg 4 6 2)).pwr.chg ≠ 1
    ∧ (chg 4 6 1).freqTo = 6 ∧ (chg 4 6 1).opp = 4 ∧ (chg 4 6 1).keeperUp = true ∧ ((chg 4 6 1).rail 0).failed = false ∧ 7600 ≤ (chg 4 6 1).coreVolt 6
    ∧ (chg 4 6 1).coreVolt 6 ≤ 13000 ∧ (chg 4 6 3).pwr.chg = 3 ∧ (chg 4 6 2).pwr.chg ≠ 3 ∧ (chg 6 4 1).freqTo < (chg 6 4 1).opp
    ∧ (pw (fun x => { x with lower := true })).pwr.lower = true ∧ (pw (fun x => { x with lower := true })).keeperUp = true ∧ (up.rail 0).failed = false
    ∧ 7600 ≤ up.coreVolt up.opp ∧ up.coreVolt up.opp ≤ 13000 ∧ up.flag R.CLK_HST_FREQ_BUSY pClk = false
    ∧ (hst 1600 1200 ⟨0, none, 0, false⟩).flag R.CLK_HST_FREQ_BUSY pClk = true ∧ (hst 1600 1200 ⟨0, none, 0, false⟩).pwr.hstOld = some 1600
    ∧ (hst 1600 1200 ⟨0, none, 0, false⟩).rg R.CLK_HST_FREQ_MHZ pClk ≤ 1600 ∧ ((hst 1200 1600 ⟨20000, none, 0, false⟩).rail 2).pend = none ∧ hstVolt 1600 ≤ 20000
    ∧ 1200 < (hst 1200 2200 ⟨0, none, 0, false⟩).rg R.CLK_HST_FREQ_MHZ pClk ∧ ((hst 1200 2200 ⟨0, none, 0, false⟩).rail 2).set < hstVolt 2200 := by decide +kernel

/-- CLK_HST derated. -/
def derated (s : State) : State := lg (fun l => { l with image := { l.image with derate := [(16, 5)] } }) s

theorem witness_PowerAndClocks_host : up.railReady 2 = true ∧ min 1600 up.hstTop ≤ up.rg R.CLK_HST_FREQ_MHZ pClk
    ∧ (rl 2 ⟨8000, none, 0, true⟩).railReady 2 = false ∧ (rl 2 ⟨8000, none, 0, true⟩).rg R.CLK_HST_FREQ_MHZ pClk < min 2200 (rl 2 ⟨8000, none, 0, true⟩).hstTop
    ∧ (derated (hst 1600 1500 ⟨0, none, 0, false⟩)).hstTop < 1500 ∧ 1200 ≤ (hst 1600 1200 ⟨0, none, 0, false⟩).hstTop := by decide +kernel

/-- `up` with segments of domain 2 failed. -/
def sg (f : Nat) : State := put up [(R.PWR_SEG_FAIL_FAILED 2, pPwr, f), (R.PWR_SEG_STATE_STATE 2, pPwr, segOutcome f)]
/-- `up` with a switch of domains allowed, all but HIO and CG0 off. -/
def offs : State := put up [(R.PWR_DOM_STATUS_ON, pPwr, 2 ^ 23 + 2 ^ 24 + 1), (R.PWR_DOM_RESULT_DONE, pPwr, 1)]
/-- The fence of domain 2 under way. -/
def fencing2 : State := pw (fun x => { x with fencing := [(2, true)], lvl := [] }) (sg 31)

theorem witness_Domains : offs.mayWrite 0 pPwr = true ∧ offs.flag R.PWR_DOM_RESULT_DONE pPwr = true ∧ offs.domOn 2 = false ∧ offs.domFenced 2 = false ∧ offs.domOn 0 = true
    ∧ (put offs [(R.PWR_SEG_STATE_STATE 2, pPwr, 3)]).domFenced 2 = true ∧ (put offs [(R.PWR_SEG_STATE_STATE 2, pPwr, 3)]).domOn 2 = false
    ∧ offs.domOffStatus 23 = St.OK ∧ offs.domOffStatus 0 ≠ St.OK ∧ offs.domOn 23 = true
    ∧ (put up [(R.PWR_DOM_RESULT_DONE, pPwr, 0)]).flag R.PWR_DOM_RESULT_DONE pPwr = false ∧ (put up [(R.PWR_DOM_RESULT_DONE, pPwr, 0)]).pwr.switchOn = []
    ∧ (pw (fun x => { x with switchOn := [20, 21] }) (put offs [(R.PWR_DOM_RESULT_DONE, pPwr, 0)])).pwr.switchOn = [20, 21]
    ∧ (sg 3).pwr.fencing = [] ∧ (sg 3).segFailed 2 < 2 ^ 32 ∧ bit ((sg 3).segFailed 2) 31 = false
    ∧ segOutcome (setBit ((sg 0).segFailed 2) 31) = 1 ∧ segOutcome (setBit ((sg 3).segFailed 2) 5) = 2 ∧ segOutcome (setBit ((sg 15).segFailed 2) 4) = 3
    ∧ segOutcome ((sg 15).segFailed 2) ≠ 3 ∧ fencing2.pwr.fencing = [(2, true)] ∧ (∀ n ∈ clustersIn 2, ∀ i < 16, NMap.get 0 fencing2.pwr.lvl (16 * n + i) = 0) := by
  decide +kernel

/-- Domain 2 on its way up while it is to be fenced. -/
def fencedRise : State := put (pw (fun x => { x with switchOn := [2] }) fencing2) [(R.PWR_DOM_RESULT_DONE, pPwr, 0), (R.PWR_DOM_STATUS_ON, pPwr, 2 ^ 24)]

theorem witness_Domains_rise : fencedRise.flag R.PWR_DOM_RESULT_DONE pPwr = false ∧ fencedRise.pwr.switchOn = [2] ∧ NMap.get false fencedRise.pwr.fencing 2 = true := by
  decide +kernel

/-- The interconnect of domain 3 on the way to a derating, and back from one. -/
def icS (worse low der : Nat) : State :=
  lg (fun l => { l with image := { l.image with derate := [(3, der)] } }) (pw (fun x => { x with ic := [(3, { IcRun.init with worse := worse, low := low })] })
    (put up [(R.PWR_IC_DATA_R_BASE, 0x10003, 1000)]))

theorem witness_Domains_interconnect : (NMap.get IcRun.init (icS 15 0 0).pwr.ic 3).worse = 15 ∧ NMap.get 0 (icS 15 0 0).log.image.derate 3 = 0
    ∧ (NMap.get IcRun.init (icS 0 15 5).pwr.ic 3).low = 15 ∧ NMap.get 0 (icS 0 15 5).log.image.derate 3 ≠ 0
    ∧ 140 * 1024 < 100 * ((30000 : Rat) * 1000 / 10000 / (1 + 39 / 10000 * (25 - 25)) * 1024 / ((icS 15 0 0).rg R.PWR_IC_DATA_R_BASE 0x10003 : Rat)).floor.toNat
    ∧ 100 * ((7 : Rat) * 1000 / 10000 / (1 + 39 / 10000 * (25 - 25)) * 1024 / ((icS 0 15 5).rg R.PWR_IC_DATA_R_BASE 0x10003 : Rat)).floor.toNat ≤ 140 * 1024 := by
  decide +kernel

/-- `up` with the power state and cores of a busy governor. -/
def gov : State :=
  put (pw (fun x => { x with exceed := 9, pCg := 900000, penv := 500000, lenvZero := 1000, lvl := [(0, 3), (5, 60)] }) run)
    [(R.TOP_CLU_PRESENT_PRESENT, pTop, 1), (R.TOP_QUAD_PRESENT_PRESENT 0, pTop, 15), (R.PWR_TELEM_CTRL_EN, pPwr, 1), (R.PWR_TELEM_CTRL_FLOW_EN, pPwr, 0)]
/-- `up` with set-points as held values or a time of the last one. -/
def envs (held : Option (Nat × Nat)) (last : Option Nat) : State :=
  { pw (fun x => { x with host := { x.host with held := held, last := last }, tray := { x.tray with held := held } }) with tbc := 50000000 }

theorem witness_EnergyAndEnvelope : gov.flag R.PWR_TELEM_CTRL_FLOW_EN pPwr = false ∧ gov.flag R.PWR_TELEM_CTRL_EN pPwr = true ∧ Map.sorted natLt gov.mem = true
    ∧ ((up.log.eventQ.map LogRec.size).foldl (· + ·) 0 + 64 ≤ 65536) ∧ up.mayWrite 0 pPwr = true ∧ bits (2 ^ 16 + 500) 31 16 = 1 ∧ bits (1000 * 2 ^ 16) 31 16 = 1000
    ∧ bits 500 31 16 < 1 ∧ 1000 < bits (1001 * 2 ^ 16) 31 16 ∧ (envs none (some 0)).pwr.host.last = some 0 ∧ 0 + 10000000 ≤ (envs none (some 0)).tbc
    ∧ (envs none (some 45000000)).pwr.host.last = some 45000000 ∧ (envs none (some 45000000)).tbc < 45000000 + 10000000
    ∧ (envs (some (300, 20)) none).pwr.host.held = some (300, 20) ∧ (envs (some (300, 20)) none).pwr.tray.held = some (300, 20)
    ∧ 150 % 65536 = 150 ∧ 749 % 65536 < 750 ∧ 149 % 65536 < 150 ∧ 750 < 751 % 65536
    ∧ gov.keeperUp = true ∧ gov.coreServes 0 = true ∧ gov.pwr.penvUs = 0 ∧ 102 * gov.pwr.penv < 100 * (gov.pwr.pCg + gov.pwr.pNon) ∧ 10 ≤ gov.pwr.exceed + 1
    ∧ 1000 ≤ gov.pwr.lenvZero ∧ (put up [(R.KPR_KSTATE_STATE, pKpr, 3)]).keeperUp = false := by decide +kernel

theorem witness_Heat : up.rg R.PWR_THERM_CTRL_T_THROTTLE pPwr = 100 ∧ up.pwr.thermLimit = 64 ∧ up.halted = false ∧ up.pwr.airflow = false ∧ up.pwr.tripped = false
    ∧ up.pwr.quench = false ∧ (pw (fun x => { x with airflow := true })).pwr.airflow = true ∧ (pw (fun x => { x with quench := true })).pwr.quench = true
    ∧ up.mayWrite 0 pPwr = true ∧ (pw (fun x => { x with tripped := true })).mayWrite 0 pPwr = true ∧ (pw (fun x => { x with tripped := true })).pwr.tripped = true
    ∧ (put up [(R.PWR_THERM_STATUS_TJ, pPwr, 95)]).rg R.PWR_THERM_CTRL_T_WARN pPwr ≤ (put up [(R.PWR_THERM_STATUS_TJ, pPwr, 95)]).rg R.PWR_THERM_STATUS_TJ pPwr
    ∧ ¬(up.rg R.PWR_THERM_CTRL_T_WARN pPwr ≤ up.rg R.PWR_THERM_STATUS_TJ pPwr) := by decide +kernel

/-- `up` with both devices of two used sectors, the older holding `old`, and `n` erased ones. -/
def dev2 (n : Nat) (old : LogRec) (f : LogSt → LogSt := id) : State := lg (fun l => f { l with fl0 := fl2 n old, fl1 := fl2 n old })

theorem witness_KeeperLog : up.keeperUp = true ∧ (put up [(R.KPR_KSTATE_STATE, pKpr, 3)]).keeperUp = false ∧ up.rg R.KPR_KSTATE_STATE pKpr = 1
    ∧ (dev2 8 (erec 4) (fun l => { l with stateQ := [srec 0] })).rg R.LOG_LOG_STATUS_STATE pLog ≠ 0
    ∧ (dev2 8 (erec 4) (fun l => { l with stateQ := [srec 0] })).log.ckpt = [] ∧ (dev2 8 (erec 4) (fun l => { l with stateQ := [srec 0] })).log.stateQ = [srec 0]
    ∧ (∀ d < 2, ((dev2 8 (erec 4) (fun l => { l with stateQ := [srec 0] })).fl d).failed = false ∧ 1 ≤ ((dev2 8 (erec 4) (fun l => { l with stateQ := [srec 0] })).fl d).erasedN)
    ∧ (srec 0).isState = true ∧ (erec 0).isState = false ∧ (dev2 8 (erec 4) (fun l => { l with eventQ := [erec 0], nextDev := 1 })).log.eventQ = [erec 0]
    ∧ (dev2 8 (erec 4) (fun l => { l with eventQ := [erec 0], nextDev := 1 })).log.stateQ = [] ∧ (dev2 8 (erec 4) (fun l => { l with eventQ := [erec 0], nextDev := 1 })).log.nextDev = 1
    ∧ (∀ d < 2, ((dev2 8 (erec 4) (fun l => { l with eventQ := [erec 0], nextDev := 1 })).fl d).failed = false
      ∧ 1 ≤ ((dev2 8 (erec 4) (fun l => { l with eventQ := [erec 0], nextDev := 1 })).fl d).erasedN)
    ∧ (lg (fun l => { l with stateQ := List.replicate 255 (srec 0), retryQ := [srec 0, srec 0] })).log.retryQ.length = 2
    ∧ 256 - (lg (fun l => { l with stateQ := List.replicate 255 (srec 0), retryQ := [srec 0, srec 0] })).log.stateQ.length = 1
    ∧ (lg (fun l => { l with stateQ := List.replicate 255 (srec 0), retryQ := [srec 0, srec 0] })).keeperUp = true := by decide +kernel

/-- A log that is THROTTLED, its queue one INC_OPEN and one INC_REC. -/
def throttledLog : State :=
  put (dev2 8 (erec 4) (fun l => { l with eventQ := [⟨0x0210, 0, 6, 0, List.replicate 16 7⟩, ⟨0x0211, 0, 6, 0, List.replicate 16 7⟩] })) [(R.LOG_LOG_STATUS_THROTTLED, pLog, 1)]

theorem witness_KeeperLog_throttled : throttledLog.flag R.LOG_LOG_STATUS_THROTTLED pLog = true ∧ throttledLog.log.stateQ = [] ∧ throttledLog.log.eventQ ≠ []
    ∧ (∀ r ∈ throttledLog.log.eventQ, 0x0210 ≤ r.typ ∧ r.typ ≤ 0x0211) ∧ throttledLog.rg R.KPR_KSTATE_STATE pKpr = 1
    ∧ throttledLog.rg R.LOG_LOG_STATUS_STATE pLog ≠ 0 ∧ throttledLog.log.ckpt = [] ∧ (∀ d < 2, (throttledLog.fl d).failed = false ∧ 1 ≤ (throttledLog.fl d).erasedN)
    ∧ (dev2 8 (erec 4)).flag R.LOG_LOG_STATUS_THROTTLED pLog = false := by decide +kernel

theorem witness_KeeperLog_sectors : (dev2 8 (erec 4) (fun l => { l with ckptDue := true })).log.ckptDue = true ∧ (dev2 8 (erec 4) (fun l => { l with ckptDue := true })).log.ckpt = []
    ∧ (dev2 8 (erec 4) (fun l => { l with ckptDue := true })).rg R.KPR_KSTATE_STATE pKpr = 1 ∧ (dev2 8 (erec 4) (fun l => { l with ckptDue := true })).logDead = false
    ∧ ((dev2 8 (srec 4)).fl 1).used.getLast? = some ⟨3, 0, 1, [(srec 4, .committed)], true⟩ ∧ (dev2 8 (srec 4)).reclaimable ⟨3, 0, 1, [(srec 4, .committed)], true⟩ = false
    ∧ ((dev2 15 (erec 4)).fl 0).used.getLast? = some ⟨3, 0, 1, [(erec 4, .committed)], true⟩ ∧ (dev2 15 (erec 4)).reclaimable ⟨3, 0, 1, [(erec 4, .committed)], true⟩ = true
    ∧ ((dev2 15 (erec 4)).fl 0).failed = false ∧ ((dev2 15 (erec 4)).fl 0).erasedN < 16 ∧ 2 ≤ ((dev2 15 (erec 4)).fl 0).used.length
    ∧ ((dev2 8 (srec 4)).fl 1).failed = false ∧ ((dev2 8 (srec 4)).fl 1).erasedN < 16 ∧ 2 ≤ ((dev2 8 (srec 4)).fl 1).used.length ∧ (dev2 8 (srec 4)).rg R.KPR_KSTATE_STATE pKpr = 1
    ∧ (dev2 15 (erec 4)).rg R.KPR_KSTATE_STATE pKpr = 1 ∧ NMap.get 0 ((dev2 15 (erec 4)).fl 0).erases 3 + 1 < 1000 ∧ NMap.get 0 ((dev2 15 (erec 4)).fl 0).replaced 3 ≠ 0xFFFF
    ∧ (lg (fun l => { l with incident := { l.incident with isOpen := true, number := 3 } })).log.incident.isOpen = true ∧ up.log.incident.isOpen = false := by decide +kernel

/-- Both devices with position 5 erased and without its header. -/
def unheadedLog : State := lg (fun l => { l with fl0 := { fl2 8 (erec 4) with unheaded := [5] }, fl1 := { fl2 8 (erec 4) with unheaded := [5] } })

theorem witness_KeeperLog_unheaded : (unheadedLog.fl 0).unheaded = [5] ∧ ((dev2 15 (erec 4)).fl 0).unheaded = [] ∧ (unheadedLog.fl 0).used.getLast?.isSome = true
    ∧ (unheadedLog.fl 0).failed = false ∧ (unheadedLog.fl 0).erasedN < 16 ∧ 2 ≤ (unheadedLog.fl 0).used.length ∧ unheadedLog.rg R.KPR_KSTATE_STATE pKpr = 1
    ∧ NMap.get 0 (unheadedLog.fl 0).erases 5 + 1 < 1000 ∧ NMap.get 0 (unheadedLog.fl 0).replaced 5 ≠ 0xFFFF := by decide +kernel

theorem witness_KeeperLog_reads : up.mayWrite 0 pLog = true ∧ up.flag R.LOG_READ_RESULT_DONE pLog = true ∧ (put up [(R.LOG_READ_RESULT_DONE, pLog, 0)]).mayWrite 0 pLog = true
    ∧ (put up [(R.LOG_READ_RESULT_DONE, pLog, 0)]).flag R.LOG_READ_RESULT_DONE pLog = false ∧ up.rg R.LOG_LOG_STATUS_STATE pLog ≠ 0
    ∧ (put up [(R.LOG_LOG_STATUS_STATE, pLog, 0)]).rg R.LOG_LOG_STATUS_STATE pLog = 0 ∧ (put up [(R.LOG_LOG_STATUS_STATE, pLog, 0)]).flag R.LOG_READ_RESULT_DONE pLog = true
    ∧ (put up [(R.LOG_LOG_STATUS_STATE, pLog, 0)]).mayWrite 0 pLog = true
    ∧ (dev2 8 (erec 4) (fun l => { l with reading := some (320, 200, 0, 0, 0xFFFF) })).log.reading = some (320, 200, 0, 0, 0xFFFF)
    ∧ (readFit 200 0 ((dev2 8 (erec 4)).log.select 0 0 0xFFFF)).length = 2 ∧ Map.sorted natLt (dev2 8 (erec 4)).mem = true := by decide +kernel

/-- A staged public key 77, the keys in a state. -/
def stgd (f : LogSt → LogSt := id) : State := lg (fun l => f { l with staged := some [77] })

theorem witness_KeyRing : up.mayWrite 0 pLog = true ∧ up.flag R.LOG_KEY_STATUS_BUSY pLog = false ∧ (put up [(R.LOG_KEY_STATUS_BUSY, pLog, 1)]).flag R.LOG_KEY_STATUS_BUSY pLog = true
    ∧ (put up [(R.LOG_KEY_STATUS_BUSY, pLog, 1)]).mayWrite 0 pLog = true ∧ up.log.staged = none ∧ stgd.log.staged = some [77] ∧ (some [77] : Option (List Nat)) ≠ some [5]
    ∧ stgd.flag R.LOG_KEY_STATUS_BUSY pLog = false ∧ stgd.mayWrite 0 pLog = true ∧ ([8] : List Nat).contains 77 = false ∧ stgd.otp 2 ≤ 0
    ∧ 1 < (stgd (fun l => { l with otp := [(2, (2, 2))] })).otp 2 ∧ stgd.rg R.LOG_KEY_STATUS_GEN pLog + 1 ≤ 64 ∧ stgd.logDead = false
    ∧ 64 < (put stgd [(R.LOG_KEY_STATUS_GEN, pLog, 64)]).rg R.LOG_KEY_STATUS_GEN pLog + 1 ∧ (lg (fun l => { l with keyOp := 1 })).log.keyOp = 1
    ∧ (lg (fun l => { l with keyOp := 2, keyNew := some ⟨2, 3, 5, 9, [], [], []⟩ })).log.keyOp = 2
    ∧ (lg (fun l => { l with keyOp := 2, keyNew := some ⟨2, 3, 5, 9, [], [], []⟩ })).log.keyNew = some ⟨2, 3, 5, 9, [], [], []⟩ ∧ Map.sorted natLt up.mem = true := by decide +kernel

/-- A module that has committed a key whose anchors hold 77. -/
def anch (f : LogSt → LogSt := id) : State :=
  lg (fun l => f { l with staged := some [77], keys := [(0, some ⟨1, 0, 5, 9, [], [77], []⟩)], image := { l.image with keyCommit := [(0, 1, 5)] } })

theorem witness_KeyRing_install : anch.anchors.contains (([] : List Nat).getLast?.getD 77) = true ∧ anch.anchors.contains (([5] : List Nat).getLast?.getD 77) = false
    ∧ ([77] : List Nat).contains 77 = true ∧ anch.log.staged = some [77] ∧ anch.flag R.LOG_KEY_STATUS_BUSY pLog = false ∧ anch.mayWrite 0 pLog = true
    ∧ anch.otp 2 ≤ 0 ∧ anch.logDead = false ∧ anch.rg R.LOG_KEY_STATUS_GEN pLog + 1 ≤ 64 ∧ 1 < (anch (fun l => { l with otp := [(2, (2, 2))] })).otp 2
    ∧ (anch (fun l => { l with otp := [(2, (2, 2))] })).anchors = [77] ∧ 64 < (put anch [(R.LOG_KEY_STATUS_GEN, pLog, 64)]).rg R.LOG_KEY_STATUS_GEN pLog + 1
    ∧ (put anch [(R.LOG_KEY_STATUS_GEN, pLog, 64)]).anchors = [77] ∧ anch.otp 2 ≤ 33 ∧ anch.otp 2 ≤ 32 := by decide +kernel

/-- Core 0 with one word at its PC. -/
def fetches (w : Nat) : State := run.wle (aSpad 0 0x1000) 8 w

theorem witness_StepRunsFront : State.reset.pending = [] ∧ State.reset.domOn 23 = false ∧ (State.reset.tbc % 1000 ≠ 999 ∨ State.reset.net.slew < 16)
    ∧ (∀ p < 16, State.reset.lnkUp p = false) ∧ State.reset.runningCores = [] ∧ (fetches (2 ^ 60)).pending = [] ∧ (∀ p < 16, (fetches (2 ^ 60)).lnkUp p = false)
    ∧ (fetches (2 ^ 60)).runningCores = [0] ∧ (fetches (2 ^ 60)).tbcTick.canIssue 0 = true ∧ (fetches (2 ^ 60)).tbcTick.fetchCode 0 [] = none
    ∧ decodeInstr 0 ((fetches (2 ^ 60)).tbcTick.codeWord 0) = some (.add ⟨0, 0, false, 0, 0, 0, 0, 0, []⟩) ∧ (fetches (15 * 2 ^ 60)).runningCores = [0]
    ∧ (fetches (15 * 2 ^ 60)).tbcTick.canIssue 0 = true ∧ (fetches (15 * 2 ^ 60)).tbcTick.fetchCode 0 [] = none
    ∧ decodeInstr 0 ((fetches (15 * 2 ^ 60)).tbcTick.codeWord 0) = none := by decide +kernel

theorem witness_StepRunsFront_levels : (fetches (2 ^ 60)).tbcTick.levelled 0 ((fetches (2 ^ 60)).tbcTick.codeWord 0) = false
    ∧ (idle0 (fetches (6 * 2 ^ 60))).tbcTick.levelled 0 ((idle0 (fetches (6 * 2 ^ 60))).tbcTick.codeWord 0) = true
    ∧ (idle0 (fetches (6 * 2 ^ 60))).tbcTick.levelWaits 0 = true ∧ (idle0 (fetches (6 * 2 ^ 60))).runningCores = [0]
    ∧ (idle0 (fetches (6 * 2 ^ 60))).tbcTick.canIssue 0 = true ∧ laneClass ((fetches (15 * 2 ^ 60)).tbcTick.codeWord 0) = false
    ∧ bit (((fetches (15 * 2 ^ 60)).tbcTick.core 0).mask (bits (15 * 2 ^ 60) 51 49) (bit (15 * 2 ^ 60) 48)) 0 = true
    ∧ (fetches (15 * 2 ^ 60 + 2 ^ 48)).tbcTick.codeWord 0 = 15 * 2 ^ 60 + 2 ^ 48 ∧ decodeInstr 0 (15 * 2 ^ 60 + 2 ^ 48) = none
    ∧ bit (((fetches (15 * 2 ^ 60 + 2 ^ 48)).tbcTick.core 0).mask (bits (15 * 2 ^ 60 + 2 ^ 48) 51 49) (bit (15 * 2 ^ 60 + 2 ^ 48) 48)) 0 = false := by decide +kernel

theorem witness_MemoryFormKept : runM.memWf = true ∧ (match step runM with
    | .next _ => true
    | _ => false) = true := by decide +kernel

theorem witness_QueueFormKept : pendingWf { run with pending := [.heartbeatTick, .add (rf 4 1 2)] } = true
    ∧ (match step { run with pending := [.heartbeatTick, .add (rf 4 1 2)] } with
    | .next t => t.pending.length == 1
    | _ => false) = true := by decide +kernel

/-- A firmware state changed by `f`. -/
def fwc (f : FwSt → FwSt) (s : State := up) : State := { s with fw := f s.fw }
/-- A header of an image of `n` bytes with the digest `d` of them, at its full length. -/
def fullHead (n : Nat) (d : List Nat) : List Nat := head80 n d ++ List.replicate 8368 0
/-- A load into slot 1 of an image whose body, of no bytes, has the digest `d`; slot 0 ACTIVE. -/
def loadOf (d : List Nat) (abort : Bool) : State := load 1 false abort 0 (fullHead 0 d) (slots 4 1)
/-- SHA-384 of nothing. -/
def sha0 : List Nat := sha384 []
/-- The Keeper in Fog mode, slots in the states `a` and `b`. -/
def fogS (a b : Nat) : State := put (slots a b (aon 2)) []

theorem logOpen_slots : (slots 4 2).logOpen ∧ (slots 3 4).logOpen ∧ (img 4 0 8704).logOpen ∧ (loadOf sha0 false).logOpen := by
  unfold State.logOpen
  exact ⟨⟨by decide +kernel, rfl, rfl, rfl, by decide +kernel⟩, ⟨by decide +kernel, rfl, rfl, rfl, by decide +kernel⟩,
    ⟨by decide +kernel, rfl, rfl, rfl, by decide +kernel⟩, ⟨by decide +kernel, rfl, rfl, rfl, by decide +kernel⟩⟩

theorem witness_Firmware_stage : up.fwGo 0 = true ∧ (img 4 4 8704).fwTarget 0 = none ∧ (img 4 4 8704).fwGo 0 = true ∧ (img 4 0 8704).fwGo 0 = true ∧ (img 4 0 8704).slotsIn 3 = []
    ∧ (img 4 0 8704).fw.load = none ∧ (img 4 0 8704).fwTarget 0 = some 1 ∧ (img 4 0 8704).rg R.FWU_FWU_LEN_LEN pFwu = 8704 ∧ (img 4 0 8703).rg R.FWU_FWU_LEN_LEN pFwu = 8703
    ∧ (img 4 0 8703).fwTarget 0 = some 1 ∧ (img 4 0 8704).rg R.KPR_KSTATE_STATE pKpr = 1 ∧ up.fwTarget 0 = some 1 ∧ up.slotsIn 3 = [] ∧ up.fw.load = none := by decide +kernel

theorem witness_Firmware_header : (img 4 0 8704).fwHeader ((img 4 0 8704).rbs (aHost ((img 4 0 8704).rg R.FWU_FWU_BUF_ADDR pFwu * 64)) fwHead) = St.OK := by decide +kernel

theorem witness_Firmware_length : fwHead + fwLength ((img 4 0 8704).rbs (aHost ((img 4 0 8704).rg R.FWU_FWU_BUF_ADDR pFwu * 64)) fwHead) = 8704 := by decide +kernel

theorem witness_Firmware_refused : up.fwHeader (up.rbs (aHost (up.rg R.FWU_FWU_BUF_ADDR pFwu * 64)) fwHead) ≠ St.OK := by decide +kernel

theorem witness_Firmware_slots : (slots 4 2).slotState 1 = 2 ∧ (slots 4 2).slotState 0 = 4 ∧ (slots 4 2).fwGo 0 = true ∧ (slots 4 2).rg R.KPR_KSTATE_STATE pKpr = 1
    ∧ (slots 4 3).slotsIn 3 ≠ [] ∧ (slots 4 1).slotsIn 2 = [] ∧ (fwc (fun x => { x with confirmed := true })).fw.confirmed = true
    ∧ (fwc (fun x => { x with confirmed := false }) (slots 3 4)).fw.confirmed = false ∧ (fwc (fun x => { x with confirmed := false }) (slots 3 4)).runningSlot = 0
    ∧ (fwc (fun x => { x with confirmed := false }) (slots 3 4)).slotState 0 = 3 ∧ (fwc (fun x => { x with confirmed := false }) (slots 3 4)).slotState 1 = 4
    ∧ (slots 0 4).fog = false ∧ (slots 0 4).slotState (slots 0 4).runningSlot ≠ 4 ∧ (slots 4 0).slotState (slots 4 0).runningSlot = 4
    ∧ (slots 4 0).slotSvn 0 = 3 ∧ (slots 4 0).otp 0 < 3
    ∧ up.fogExit false ≠ St.OK ∧ (fogS 2 0).fogExit true ≠ St.OK ∧ (fogS 2 0).fogExit false = St.OK ∧ (fogS 2 0).fwGo 0 = true ∧ (fogS 0 0).fogExit false ≠ St.OK := by
  decide +kernel

theorem witness_Firmware_loads : (loadOf (leBytes 48 5) true).fw.load.isSome = true ∧ (loadOf (leBytes 48 5) true).keeperUp = true
    ∧ ((loadOf (leBytes 48 5) true).fw.load.map FwLoad.abort) = some true ∧ ((loadOf (leBytes 48 5) false).fw.load.map FwLoad.abort) = some false
    ∧ ((loadOf (leBytes 48 5) false).fw.load.map FwLoad.ksb) = some false ∧ ((loadOf (leBytes 48 5) false).fw.load.map FwLoad.target) = some 1
    ∧ (loadOf (leBytes 48 5) false).rg R.KPR_KSTATE_STATE pKpr = 1 ∧ (loadOf (leBytes 48 5) false).mayWrite 0 pFwu = true
    ∧ (put up [(R.FWU_FWU_CTRL_AUTO_CONFIRM, pFwu, 0)]).flag R.FWU_FWU_CTRL_AUTO_CONFIRM pFwu = false ∧ (put up [(R.FWU_FWU_CTRL_AUTO_CONFIRM, pFwu, 0)]).rg R.KPR_KSTATE_STATE pKpr = 1
    ∧ (put up [(R.KPR_KSTATE_STATE, pKpr, 3)]).rg R.KPR_KSTATE_STATE pKpr = 3 ∧ (put up [(R.KPR_KSTATE_STATE, pKpr, 3)]).recov.resets = [] := by decide +kernel

theorem witness_Firmware_body : fwBodyOk (fullHead 0 sha0 ++ []) = true ∧ fwBodyOk (fullHead 0 (leBytes 48 5) ++ []) = false := by decide +kernel

theorem witness_SideBandFrames : (aon 1).boot.aon = true ∧ ksbWords 0x99 = none ∧ ksbWords 0x51 = some 64 ∧ ksbWords 0x10 = some 0 ∧ atBoundary false 40 = true
    ∧ atBoundary false 41 = false ∧ atBoundary true 40 = true ∧ atBoundary true 655 = false ∧ 655 < statusEdges ∧ statusEdges ≤ 656 ∧ 39 < 40 + 32 * 0
    ∧ 40 + 32 * 64 ≤ 2088 := by decide +kernel

/-- A side-band state changed by `f`. -/
def kx (f : KsbSt → KsbSt) (s : State) : State := { s with ksb := f s.ksb }
/-- A cursor over two records of device 0. -/
def seek : State := lg (fun l => { l with fl0 := fl2 8 (erec 4), fl1 := fl2 8 (srec 4) }) (kx (fun k => { k with seekLo := 0, seekHi := 0xFFFF }) (aon 1))

theorem witness_SideBandCommands_reads : (aon 1).fog = false ∧ (aon 1).pageOn pPwr = true ∧ (put (aon 1) [(R.PWR_DOM_STATUS_ON, pPwr, 2 ^ 24)]).fog = false
    ∧ (put (aon 1) [(R.PWR_DOM_STATUS_ON, pPwr, 2 ^ 24)]).pageOn (pCore 0) = false ∧ 4092 % 4 = 0 ∧ 4093 % 4 ≠ 0
    ∧ (aon 1).rg R.LOG_LOG_STATUS_STATE pLog ≠ 0 ∧ (aon 1).ksb.seekRec = [] ∧ (aon 1).log.select (aon 1).ksb.seekSeq (aon 1).ksb.seekLo (aon 1).ksb.seekHi = []
    ∧ seek.boot.aon = true ∧ seek.rg R.LOG_LOG_STATUS_STATE pLog ≠ 0 ∧ seek.ksb.seekRec = []
    ∧ (seek.log.select seek.ksb.seekSeq seek.ksb.seekLo seek.ksb.seekHi).head?.isSome = true
    ∧ (aon 1).fogExit false ≠ St.OK ∧ (fogS 2 0).fogExit false = St.OK ∧ (fogS 2 0).boot.aon = true := by decide +kernel

theorem witness_SideBandCommands_control : (aon 1).boot.aon = true ∧ (aon 1).rg R.KPR_KSTATE_STATE pKpr = 1 ∧ (aon 1).recov.pwrcyc = false ∧ pCore 0 ∉ [pPwr, pKpr, pKsb]
    ∧ bits 500 31 16 < 1 ∧ 1000 < bits (1001 * 2 ^ 16) 31 16 ∧ bits (1000 * 2 ^ 16) 31 16 ≤ 1000 ∧ (aon 1).pwr.tray.last = none
    ∧ (pw (fun x => { x with tripped := true }) (aon 1)).pwr.tripped = true ∧ (pw (fun x => { x with tripped := true }) (aon 1)).boot.aon = true
    ∧ (pw (fun x => { x with tripped := true }) (aon 1)).rg R.KPR_KSTATE_STATE pKpr = 1 ∧ (aon 1).pwr.tripped = false ∧ (aon 1).pwr.airflow = false
    ∧ (aon 1).rg R.PWR_THERM_STATUS_TJ pPwr < (aon 1).rg R.PWR_THERM_CTRL_T_WARN pPwr ∧ 0 ≠ ksbGuard ∧ (aon 1).domOn 23 = true ∧ (aon 1).dataQueues 0 ≠ []
    ∧ (put (aon 1) [(R.RTE_MADDR_STANDBY, pRte, 1)]).pageOn pRte = true ∧ (put (aon 1) [(R.RTE_MADDR_STANDBY, pRte, 1)]).flag R.RTE_MADDR_STANDBY pRte = true
    ∧ (put (aon 1) [(R.RTE_MADDR_STANDBY, pRte, 1)]).rg R.KPR_KSTATE_STATE pKpr = 1
    ∧ (pw (fun x => { x with telem := List.replicate 128 7 }) (aon 1)).pwr.telem ≠ [] := by decide +kernel

theorem witness_SideBandCommands_ports : ∀ p, ((put (aon 1) [(R.RTE_MADDR_STANDBY, pRte, 1)]).port p).training = false := by
  intro p; rfl

/-- A side-band load into slot 1 in Fog mode, with `n` chunks taken. -/
def kload (n : Nat) (bytes : List Nat) : State := load 1 true false n bytes (fogS 4 1)

theorem witness_SideBandCommands_loads : (fogS 4 2).boot.aon = true ∧ (fogS 4 2).rg R.KPR_KSTATE_STATE pKpr = 2 ∧ (fogS 4 2).fwTarget 0 = some 1 ∧ (fogS 2 0).fwTarget 0 = some 0
    ∧ (fogS 4 2).fw.load = none ∧ (fogS 4 2).slotState (1 - 1) ≠ 3 ∧ (fogS 2 3).slotState (1 - 0) = 3 ∧ (fogS 2 3).fwTarget 0 = some 0 ∧ (fogS 2 3).fw.load = none
    ∧ (kload 5 (List.replicate 8448 0)).boot.aon = true ∧ (kload 5 (List.replicate 8448 0)).rg R.KPR_KSTATE_STATE pKpr = 2 ∧ (kload 5 []).fw.load = some ⟨1, true, [], 5, false⟩
    ∧ 0 < fwHead + fwLength [] ∧ (kload 33 (fullHead 0 sha0)).fw.load.isSome = true ∧ (fullHead 0 sha0).length = fwHead + fwLength (fullHead 0 sha0)
    ∧ (fullHead 0 (leBytes 48 5)).length = fwHead + fwLength (fullHead 0 (leBytes 48 5)) ∧ fwBodyOk (fullHead 0 sha0) = true ∧ fwBodyOk (fullHead 0 (leBytes 48 5)) = false := by
  decide +kernel

theorem witness_SideBandCommands_log : (kload 33 (fullHead 0 sha0)).logOpen := by
  unfold State.logOpen
  exact ⟨by decide +kernel, rfl, rfl, rfl, by decide +kernel⟩

/-- The DBG page of function 0 with a trace enabled, its queue as `q`, and `f` more of it. -/
def trc (q : List EvRec) (f : DbgFn → DbgFn := id) : State :=
  let s := put runT [(R.DBG_TRACE_CFG_EN, pDbg 0, 1), (R.DBG_TRACE_SRC_SRC, pDbg 0, 63), (R.DBG_TRACE_CFG_LOG2SIZE, pDbg 0, 10), (R.DBG_TRACE_BASE_ADDR, pDbg 0, 9),
    (R.DBG_TW_CFG_EN, pDbg 0, 1)]
  s.setDbg 0 (f { s.dbgFn 0 with queue := q })

theorem witness_DebugPage_traces : up.responds 0 (pDbg 0) = true ∧ up.responds 1 (pDbg 0) = false
    ∧ (put up [(R.DBG_VIS_CLOSED, pDbg 0, 1)]).peekOk 1 (pCore 0) 0 = false ∧ up.peekOk 0 (pCore 0) 8 = true ∧ up.pageOn (pCore 0) = true
    ∧ (put up [(R.PWR_DOM_STATUS_ON, pPwr, 2 ^ 23)]).responds 0 (pDbg 0) = true ∧ (put up [(R.PWR_DOM_STATUS_ON, pPwr, 2 ^ 23)]).pageOn (pCore 3) = false
    ∧ (trc []).mayWrite 0 (pDbg 0) = true ∧ (trc []).flag R.DBG_TRACE_CFG_EN (pDbg 0) = true ∧ (trc []).rg R.DBG_TRACE_START_TBC_TBC (pDbg 0) ≤ (trc []).tbc
    ∧ bit ((trc []).rg R.DBG_TRACE_SRC_SRC (pDbg 0)) 5 = true ∧ ((trc []).dbgFn 0).queue = [] ∧ ((trc []).dbgFn 0).dropped = 0
    ∧ 64 ≤ ((trc (List.replicate 64 rec9)).dbgFn 0).queue.length ∧ ((trc [rec9]).dbgFn 0).queue = [rec9] ∧ ((trc [rec9]).dbgFn 0).dropped = 0
    ∧ (trc [rec9]).flag R.DBG_TRACE_CFG_TO_EQ (pDbg 0) = false ∧ (trc [rec9]).flag R.DBG_TRACE_CFG_STOP_FULL (pDbg 0) = false ∧ Map.sorted natLt (trc [rec9]).mem = true
    ∧ up.commqOf 0 0 = some 0 := by decide +kernel

/-- A digest of the tensor described at an address. -/
def dg (a : Nat) : Digest := ⟨0, 1, 2, 3, 4, 5, a, 0⟩
/-- The same page with that digest waiting, and a descriptor of one row of 8 in cluster memory. -/
def dgs (a : Nat) : State := (trc [] (fun x => { x with digests := [dg a] })).wle (aClmem 0 0) 64 ({ ten8 with base := 0x100000400 }).toBits.toNat

theorem witness_DebugPage_digests : ((dgs 0x100000000).dbgFn 0).digests = [dg 0x100000000] ∧ (dgs 0x100000000).cmdFind 1 2 = none
    ∧ (dgs 0x100000000).flag R.DBG_TW_CFG_EN (pDbg 0) = true
    ∧ (match (dgs 0x100000040).twDesc 0 (dg 0x100000040) with
      | some (_, none) => true
      | _ => false) = true
    ∧ (match (dgs 0x100000000).twDesc 0 (dg 0x100000000) with
      | some (u, some d) => (match State.twRows (viaFn 0) d 0 (List.range d.rows) u TwAcc.empty with
        | some (_, a) => !a.trunc
        | none => false)
      | _ => false) = true := by decide +kernel

/-- The Keeper running at a step of boot. -/
def bt (ph : Nat) (s : State := aon 1) : State := put s [(R.KPR_BOOT_STATUS_PHASE, pKpr, ph)]

theorem witness_BootAndLoss : State.reset.rg R.KPR_BOOT_STATUS_PHASE pKpr = 0 ∧ { env with strapLow := true }.strapLow = true ∧ (bt 4).rg R.KPR_BOOT_STATUS_PHASE pKpr = 4
    ∧ (bt 4).boot.aon = true ∧ (bt 4).rg R.KPR_KSTATE_STATE pKpr = 1 ∧ (bt 4).rg R.KPR_BOOT_STATUS_ENTRY pKpr ≠ 1 ∧ { env with airLow := true }.airLow = true ∧ env.airLow = false
    ∧ (bt 6).boot.holdAir = false ∧ { (bt 7).boot with holdAir := true }.holdAir = true ∧ (bt 9).rg R.KPR_BOOT_STATUS_PHASE pKpr < 10 ∧ (bt 9).boot.aon = true
    ∧ 10 ≤ up.rg R.KPR_BOOT_STATUS_PHASE pKpr ∧ Spc 4 ≤ aHost 0 ∧ aHost 0 < Spc 5 := by decide +kernel

theorem get_filter {κ α : Type} [DecidableEq κ] (d : α) (q : κ → Bool) (m : Map κ α) (k : κ) :
    Map.get d (m.filter (fun e => q e.1)) k = if q k = true then Map.get d m k else d := by
  induction m with
  | nil => simp [Map.get]
  | cons e m ih =>
    obtain ⟨k', v⟩ := e
    by_cases h : q k' = true <;> by_cases e : k' = k
    · subst e; simp [Map.get, h]
    · simp [Map.get, h, e, ih]
    · subst e; simp [h, ih]
    · simp [Map.get, h, e, ih]

/-- The stacks `n` in service, no channel fenced, nothing retired, and air that flows. -/
def calm (n : Nat) (s : State) : Prop :=
  (∀ i, s.rg R.HDR_STATUS_FENCED i = 0) ∧ s.rg R.TOP_MEM_PORT_PRESENT_MEM pTop = n ∧ s.recov.fenced = [] ∧ s.log.image.retired = [] ∧ s.pwr.airflow = false

theorem calm_wr {n : Nat} {s : State} (f : Fld) (i v : Nat) (h1 : R.HDR_STATUS_FENCED.id ≠ f.id) (h2 : R.TOP_MEM_PORT_PRESENT_MEM.id ≠ f.id) (h : calm n s) :
    calm n (s.wr f i v) :=
  ⟨fun j => by rw [State.rg_wr_fld _ _ _ _ h1]; exact h.1 j, by rw [State.rg_wr_fld _ _ _ _ h2]; exact h.2.1, h.2.2.1, h.2.2.2.1, h.2.2.2.2⟩

theorem fenced_reset (i : Nat) : regReset R.HDR_STATUS_FENCED i = 0 := by
  unfold regReset
  iterate 11 rw [if_neg (by decide)]
  rfl

theorem calm_drop {n : Nat} {s : State} (gone : Nat → Nat → Bool) (hg : gone R.TOP_MEM_PORT_PRESENT_MEM.id pTop = false) (h : calm n s) : calm n (s.dropRegs gone) := by
  have get (f : Fld) (i : Nat) : (s.dropRegs gone).rg f i = if (rwsIds.contains f.id || !(gone f.id i)) = true then s.rg f i else regReset f i :=
    get_filter (regReset f i) (fun e : Nat × Nat => rwsIds.contains e.1 || !(gone e.1 e.2)) s.regs (f.id, i)
  refine ⟨fun j => ?_, ?_, h.2.2.1, h.2.2.2.1, h.2.2.2.2⟩
  · rw [get, h.1 j, fenced_reset]
    split <;> trivial
  · rw [get, hg, h.2.1]
    simp

theorem calm_hbm {n : Nat} {s : State} (x : HbmSt) (h : calm n s) : calm n { s with hbm := x } := h

theorem calm_net {n : Nat} {s : State} (x : NetSt) (h : calm n s) : calm n { s with net := x } := h

theorem calm_fold {n : Nat} {α : Type} (f : State → α → State) (hf : ∀ s a, calm n s → calm n (f s a)) (l : List α) {s : State} (h : calm n s) : calm n (l.foldl f s) := by
  induction l generalizing s with
  | nil => exact h
  | cons a l ih => exact ih (hf s a h)

theorem calm_memLoad {n : Nat} {s : State} (m : Nat) (h : calm n s) : calm n (s.memLoad m) := by
  simp only [State.memLoad, h.2.2.2.1, List.filter_nil, List.map_nil, List.foldl_nil]
  exact calm_wr _ _ _ (by decide) (by decide) (calm_hbm _ (calm_wr _ _ _ (by decide) (by decide) (calm_wr _ _ _ (by decide) (by decide) h)))

theorem calm_rise {n d : Nat} {s : State} (hd : d ∈ [17, 18, 19, 20]) (h : calm n s) : calm n (s.domRise d) := by
  have h1 : calm n (s.domRegs d) := calm_drop _ (by revert d; decide +kernel) h
  have hf : (s.domRegs d).recov.fenced = [] := h1.2.2.1
  have hr : (s.domRegs d).log.image.retired = [] := h1.2.2.2.1
  have h2 := calm_fold (fun s p => s.wr R.HDR_STATUS_READY p 1) (fun _ _ => calm_wr _ _ _ (by decide) (by decide)) (domPages d)
    (calm_wr R.PWR_DOM_STATUS_ON pPwr (setBit ((s.domRegs d).rg R.PWR_DOM_STATUS_ON pPwr) d) (by decide) (by decide) h1)
  have h3 := calm_fold (fun s m => { s.memLoad m with hbm := { (s.memLoad m).hbm with selfRefresh := Map.del m s.hbm.selfRefresh } }) (fun _ m h => calm_hbm _ (calm_memLoad m h))
    (domStacks d) h2
  simp only [List.mem_cons, List.not_mem_nil, or_false] at hd
  obtain rfl | rfl | rfl | rfl := hd
  · simp only [State.domRise, Nat.reduceEqDiff, Nat.reduceLT, reduceIte, hf, hr, List.filter_nil, List.foldl_nil, or_false]
    exact h2
  · simp only [State.domRise, Nat.reduceEqDiff, Nat.reduceLT, reduceIte, hf, hr, List.filter_nil, List.foldl_nil, or_false]
    exact h2
  · simp only [State.domRise, Nat.reduceEqDiff, Nat.reduceLT, reduceIte, hf, hr, List.filter_nil, List.foldl_nil, true_or]
    exact h3
  · simp only [State.domRise, Nat.reduceEqDiff, Nat.reduceLT, reduceIte, hf, hr, List.filter_nil, List.foldl_nil, or_true]
    exact h3

theorem calm_memory {n : Nat} {s : State} (h : calm n (s.bootPhase 5)) : calm n (s.bootMemory env) := by
  have h4 := calm_rise (d := 20) (by decide) (calm_rise (d := 19) (by decide) (calm_rise (d := 18) (by decide) (calm_rise (d := 17) (by decide) h)))
  have e (u : State) (hu : calm n u) : u.stacksLeave [] = u := by
    have f (m ch : Nat) : u.chFenced m ch = false := by simp [State.chFenced, State.fencedP, State.flag, hu.1]
    have g (l : List Nat) : l.foldl (fun s m => if ((List.range 32).any (fun ch => s.chFenced m ch)) = true
        then (s.wr R.TOP_MEM_PORT_PRESENT_MEM pTop (clrBit (s.rg R.TOP_MEM_PORT_PRESENT_MEM pTop) m)).bootDegraded else s) u = u := by
      induction l with
      | nil => rfl
      | cons m l ih => simpa [f] using ih
    exact g (List.range 8)
  have c (u : State) : u.chansBoot 1 env.chanLow env.chanFail = u := rfl
  have f : env.stackFail = [] := rfl
  unfold State.bootMemory
  simp only [List.foldl_cons, List.foldl_nil, c, f]
  rw [e _ h4]
  exact calm_net _ h4

theorem calm_regs (s : State) (h : s.regs.all (fun e => e.1.1 != R.HDR_STATUS_FENCED.id) = true) (i : Nat) : s.rg R.HDR_STATUS_FENCED i = 0 :=
  (get_unlisted _ _ _ _ h).trans (fenced_reset i)

/-- Step 5 with stack 0 in service. -/
def bt5 : State := put (bt 4) [(R.TOP_MEM_PORT_PRESENT_MEM, pTop, 1)]

theorem witness_BootAndLoss_memory : calm 1 (bt5.bootRails.bootMemory env) ∧ calm 0 ((bt 4).bootRails.bootMemory env) :=
  ⟨calm_memory ⟨calm_regs _ (by decide +kernel), by decide +kernel, rfl, rfl, rfl⟩, calm_memory ⟨calm_regs _ (by decide +kernel), by decide +kernel, rfl, rfl, rfl⟩⟩

theorem witness_BootAndLoss_five : bt5.rg R.KPR_BOOT_STATUS_PHASE pKpr = 4 ∧ bt5.boot.aon = true ∧ bt5.rg R.KPR_KSTATE_STATE pKpr = 1 ∧ bt5.rg R.KPR_BOOT_STATUS_ENTRY pKpr ≠ 1 := by
  decide +kernel

end Sys2Proof.Tests
end

section
/-!
PROOF. What reset leaves: a register reads its reset value, which the register tables give for most fields.
-/

namespace Sys2Proof.Machine

/-- A field whose reset value is the one of the register table on every page: none of those that `regReset` singles out. -/
def Fld.tabled (f : Fld) : Bool :=
  decide (f.blk ≠ 0x13) && !([R.HDR_ID_BLOCK_TYPE, R.HDR_ID_INSTANCE, R.HDR_ID_VERSION, R.HDR_ERR_SEVERITY_SEV, R.HDR_CAP0_CAP, R.LNK_PORT_STATUS_ROLE,
    R.PWR_DOM_STATUS_ON, R.PWR_DOM_CTRL_ON, R.TOP_PART_SUFFIX, R.TOP_PART_DIE_STEP, R.LNK_OE_PWR_LASER_IN].any (fun g => f.id == g.id))

theorem regReset_of_tabled {f : Fld} (h : f.tabled = true) (i : Nat) : regReset f i = f.rst := by
  simp only [Fld.tabled, List.any_cons, List.any_nil, Bool.and_eq_true, decide_eq_true_eq, Bool.not_eq_true', Bool.or_eq_false_iff,
    beq_eq_false_iff_ne, ne_eq] at h
  simp [regReset, h]

/-- After reset a register reads its reset value. -/
theorem rg_reset (f : Fld) (i : Nat) : State.reset.rg f i = regReset f i := rfl

theorem rg_reset_of_tabled {f : Fld} (h : f.tabled = true) (i : Nat) : State.reset.rg f i = f.rst :=
  regReset_of_tabled h i

theorem regReset_version (i : Nat) : regReset R.HDR_ID_VERSION i = 1 := by
  simp [regReset, Fld.id, R.HDR_ID_VERSION, R.HDR_ID_BLOCK_TYPE, R.HDR_ID_INSTANCE]

theorem bit_two_pow (n i : Nat) : bit (2 ^ n) i = decide (i = n) := by
  rw [Bool.eq_iff_iff]
  simp only [bit, beq_iff_eq, decide_eq_true_eq]
  rcases lt_trichotomy i n with h | h | h
  · obtain ⟨k, rfl⟩ := Nat.exists_eq_add_of_lt h
    rw [show 2 ^ (i + k + 1) = 2 ^ i * (2 * 2 ^ k) by ring, Nat.mul_div_cancel_left _ (by positivity)]
    omega
  · simp [h]
  · rw [Nat.div_eq_of_lt (Nat.pow_lt_pow_right (by omega) h)]
    omega

/-- After reset no domain is on but AON (R443). -/
theorem domOn_reset (d : Nat) : State.reset.domOn d = decide (d = 24) := by
  have hon : State.reset.rg R.PWR_DOM_STATUS_ON pPwr = 2 ^ 24 := by rw [rg_reset]; decide +kernel
  simp [State.domOn, hon, bit_two_pow, -Nat.reducePow]

/-- Settles O58: every field but the few that `regReset` singles out resets to the number of its table, and the rest of the reset state is empty. -/
theorem reset : Obligations.Reset := by
  unfold Obligations.Reset
  refine ⟨⟨?_, ?_, ?_, ?_, domOn_reset, ?_, ?_, ?_, ?_⟩, rfl, rfl⟩
  · simp only [rg_reset]; decide +kernel
  · simp only [rg_reset]; decide +kernel
  · intro p
    exact ⟨rg_reset_of_tabled (by decide) p, rg_reset_of_tabled (by decide) p, rg_reset_of_tabled (by decide) p, rg_reset_of_tabled (by decide) p, regReset_version p⟩
  · exact fun p => ⟨rg_reset_of_tabled (by decide) p, rg_reset_of_tabled (by decide) p, rg_reset_of_tabled (by decide) p, rg_reset_of_tabled (by decide) p, rg_reset_of_tabled (by decide) p⟩
  · exact fun _ => rfl
  · exact fun _ => rfl
  · exact fun c => rg_reset_of_tabled (by decide) _
  · exact ⟨rfl, rfl, rfl⟩

end Sys2Proof.Machine
end

section
/-!
PROOF. Stacked memory: why the statement about its reads and writes fails.
-/

namespace Sys2Proof.Machine

/-- A read whose address, 2^64, lies beyond the space of stacked memory: the address that the model reads for it belongs to the far tier. -/
def readBeyond : MemReq := ⟨2 ^ 64, 1, none⟩

/-- Stack 0 and its channel 0 are in service and no expander is; an event of the module reaches queue 0, whose MSI-X vector is not masked; and the
read `readBeyond` is what waits at stack 0. -/
def readBeyondWaits : State :=
  let regs : List ((Fld × Nat) × Nat) :=
    [((R.HDR_CTRL_ENABLE, pMem 0), 1), ((R.HDR_CTRL_ENABLE, pMch 0 0), 1), ((R.PWR_DOM_STATUS_ON, pPwr), 2 ^ 24 + 2 ^ 19),
     ((R.EVT_EQ_STATUS_STATE, 0), 1), ((R.EVT_EQ_CFG_MSIX_EN, 0), 1)]
  { State.reset with
    regs := regs.foldl (fun m e => PMap.put (e.1.1.id, e.1.2) e.2 m) []
    hbm := { HbmSt.init with wcbWait := [(0, [readBeyond])] }
    host := { HostSt.init with msix := [((0, 3), 0)] } }

/-- The stack takes the read: it is not off, and its channel is neither held nor fenced. -/
theorem readBeyondWaits_served : readBeyondWaits.stackOff 0 = false ∧ readBeyondWaits.chHeld 0 0 = false ∧ readBeyondWaits.chFenced 0 0 = false := by
  decide +kernel

/-- The read meets no expander, so that FAR_LINK_DOWN is reported, by an interrupt message ahead of the completion. -/
theorem readBeyondWaits_out : (readBeyondWaits.after (exec (.wcbSpace 0) readBeyondWaits)).out = [.msix 0 0 0 0, .status 5 St.OK] := by
  decide +kernel

/-- Refutes O28: the clause on WCB_SPACE bounds neither the kind nor the address of the request that waits. A read at 2^64 is served from the far tier, and
where no expander answers an interrupt message leaves the module besides the completion. -/
theorem not_stackAccess : ¬ Obligations.StackAccess := by
  unfold Obligations.StackAccess
  intro h
  obtain ⟨-, -, -, -, -, space⟩ := h readBeyondWaits 0 1 [0] (by decide) (by decide) (by decide) rfl (by decide)
  obtain ⟨hoff, hheld, hfenced⟩ := readBeyondWaits_served
  obtain ⟨t, ht, -, hout, -⟩ := space readBeyond [] rfl rfl rfl hoff hheld hfenced
  have hafter : t.out = [.msix 0 0 0 0, .status 5 St.OK] := by
    have := readBeyondWaits_out
    rwa [show exec (.wcbSpace 0) readBeyondWaits = .next t from ht] at this
  rw [hout] at hafter
  exact absurd hafter (by decide)

end Sys2Proof.Machine
end

section
/-!
SUPPORT. The view `State.held`: what the module's services leave to a unit and to software, with the rule of each operation of the state.
-/

namespace Sys2Proof.Machine

/-! ### The view -/

/-- The fields by which software sees its flows (R347). -/
def flowIds : List Nat :=
  [R.XPT_FLOW_ID_FLOW_ID.id, R.XPT_FLOW_RESULT_STATUS.id, R.XPT_FLOW_FAILED_FLOW_ID.id, R.XPT_FLOW_CTX_CTX.id]

/-- The state of a port, how often the Keeper has restarted, and whether a core runs an MMA. -/
def linkIds : List Nat := [R.LNK_PORT_STATUS_STATE.id, R.KPR_KSTATE_RESTARTS.id, R.CORE_RUN_STATUS_MMA_ACTIVE.id]

/-- The fields that a view can show: the bits of CTRL and STATUS by which a unit is in service (R13), INC, what the Keeper shows of itself and of a pending
RST_CHIP, `flowIds`, `linkIds` and ERR_STATUS. -/
def heldIds : List Nat :=
  [R.HDR_CTRL_ENABLE.id, R.HDR_CTRL_QUIESCE.id, R.HDR_CTRL_SELFTEST_ALLOW.id, R.HDR_CTRL_RESET_REQ.id, R.HDR_STATUS_QUIESCED.id,
    R.HDR_STATUS_FENCED.id, R.RTE_INC_INC.id, R.KPR_RST_STATUS_CHIP_PEND.id, R.KPR_KSTATE_STATE.id, R.HDR_ERR_STATUS_ERR.id]
  ++ flowIds ++ linkIds

/-- Whether a view shows the field numbered `id`: one of `flowIds` with `near` only, of `linkIds` with `links` only, ERR_STATUS with `errs` only. -/
def heldId (near links errs : Bool) (id : Nat) : Bool :=
  heldIds.contains id && (near || !flowIds.contains id) && (links || !linkIds.contains id) && (errs || id != R.HDR_ERR_STATUS_ERR.id)

/-- The cells of a view: of TOP's page the header alone. -/
def heldCell (near links errs : Bool) (id inst : Nat) : Bool :=
  heldId near links errs id && (decide (id < 32768) || inst != pTop)

/-- What the services of the module leave to a unit and to software, as one value. -/
structure Held where
  tbc : Nat
  disabling : NMap Bool
  resets : List RstOp
  fenced : NMap Bool
  fns : NMap Fn
  quadOwner : NMap Nat
  flr : NMap Bool
  perst : Bool
  regs : Fld → Nat → Nat
  cores : NMap Core
  sig : NMap Nat
  flows : NMap Flow
  bytes : Nat → Byte

/-- The view of a state: time, what waits to be disabled, resets in progress and fences, the functions' resources, and the cells of `heldCell`; with `near`
also the cores, the signals, the flows and the bytes below host memory. -/
def State.held (near links errs : Bool) (s : State) : Held where
  tbc := s.tbc
  disabling := s.disabling
  resets := s.recov.resets
  fenced := s.recov.fenced
  fns := s.host.fns
  quadOwner := s.host.quadOwner
  flr := s.host.flr
  perst := s.host.perst
  regs f i := if heldCell near links errs f.id i then s.rg f i else 0
  cores := if near then s.cores else []
  sig := if near then s.sig else []
  flows := if near then s.net.flows else []
  bytes a := if near = true ∧ a < Spc 4 then s.rb a else 0

section
variable {n l e : Bool} {s t : State}

theorem held_disabling (h : t.held n l e = s.held n l e) : t.disabling = s.disabling := congrArg Held.disabling h
theorem held_resets (h : t.held n l e = s.held n l e) : t.recov.resets = s.recov.resets := congrArg Held.resets h
theorem held_fenced (h : t.held n l e = s.held n l e) : t.recov.fenced = s.recov.fenced := congrArg Held.fenced h
theorem held_fns (h : t.held n l e = s.held n l e) : t.host.fns = s.host.fns := congrArg Held.fns h
theorem held_quadOwner (h : t.held n l e = s.held n l e) : t.host.quadOwner = s.host.quadOwner := congrArg Held.quadOwner h
theorem held_cores (h : t.held true l e = s.held true l e) : t.cores = s.cores := congrArg Held.cores h
theorem held_sig (h : t.held true l e = s.held true l e) : t.sig = s.sig := congrArg Held.sig h
theorem held_flows (h : t.held true l e = s.held true l e) : t.net.flows = s.net.flows := congrArg Held.flows h

theorem held_rb (h : t.held true l e = s.held true l e) (a : Nat) (ha : a < Spc 4) : t.rb a = s.rb a := by
  simpa [State.held, ha] using congrFun (congrArg Held.bytes h) a

theorem held_rg_at (h : t.held n l e = s.held n l e) (f : Fld) (i : Nat) (hf : heldCell n l e f.id i = true) : t.rg f i = s.rg f i := by
  simpa [State.held, hf] using congrFun (congrFun (congrArg Held.regs h) f) i

/-- A field of the page header, on any page. -/
theorem held_rg (h : t.held n l e = s.held n l e) (f : Fld) (i : Nat) (hf : (heldId n l e f.id && decide (f.id < 32768)) = true) :
    t.rg f i = s.rg f i :=
  held_rg_at h f i (by
    obtain ⟨hid, hhdr⟩ := Bool.and_eq_true_iff.mp hf
    simp [heldCell, hid, hhdr])

theorem held_flag (h : t.held n l e = s.held n l e) (f : Fld) (i : Nat) (hf : (heldId n l e f.id && decide (f.id < 32768)) = true) :
    t.flag f i = s.flag f i := by
  simp only [State.flag, held_rg h f i hf]

/-- A view is kept in both branches. -/
@[simp ↓] theorem held_ite (p : Prop) [Decidable p] (a b : State) :
    (if p then a else b).held n l e = if p then a.held n l e else b.held n l e := apply_ite _ _ _ _

@[simp ↓] theorem held_ite_fst {α : Type} (p : Prop) [Decidable p] (a b : State × α) :
    (if p then a else b).1.held n l e = if p then a.1.held n l e else b.1.held n l e := apply_ite (fun x : State × α => x.1.held n l e) _ _ _

/-- An operation on each element of a list keeps a view that it keeps for one. -/
theorem held_foldl {α : Type} (f : State → α → State) (h : ∀ s x, (f s x).held n l e = s.held n l e) (xs : List α) (s : State) :
    (xs.foldl f s).held n l e = s.held n l e := by
  induction xs generalizing s with
  | nil => rfl
  | cons x xs ih => exact (ih _).trans (h s x)

end

/-! ### The operations on the state's components -/

section
variable (n l e : Bool) (s : State)

theorem held_wr_at (f : Fld) (i v : Nat) (h : heldCell n l e f.id i = false) : (s.wr f i v).held n l e = s.held n l e := by
  have cell : ∀ g j, (if heldCell n l e g.id j then (s.wr f i v).rg g j else 0) = if heldCell n l e g.id j then s.rg g j else 0 := by
    intro g j
    split
    · next hg =>
      refine (State.rg_wr ..).trans (if_neg ?_)
      rintro ⟨hid, rfl⟩
      rw [hid, h] at hg
      cases hg
    · rfl
  simp only [State.held, cell]
  rfl

theorem held_wr_of (f : Fld) (i v : Nat) (h : heldId n l e f.id = false) : (s.wr f i v).held n l e = s.held n l e :=
  held_wr_at _ _ _ _ _ _ _ (by simp [heldCell, h])

@[simp ↓] theorem held_wr (f : Fld) (i v : Nat) (h : f.id ∉ heldIds) : (s.wr f i v).held n l e = s.held n l e :=
  held_wr_of _ _ _ _ _ _ _ (by simp [heldId, h])

@[simp ↓] theorem held_wr_lnkState (i v : Nat) : (s.wr R.LNK_PORT_STATUS_STATE i v).held n false e = s.held n false e :=
  held_wr_of _ _ _ _ _ _ _ (by simp [heldId, linkIds])
@[simp ↓] theorem held_wr_mmaActive (i v : Nat) : (s.wr R.CORE_RUN_STATUS_MMA_ACTIVE i v).held n false e = s.held n false e :=
  held_wr_of _ _ _ _ _ _ _ (by simp [heldId, linkIds])
@[simp ↓] theorem held_wr_errStatus (i v : Nat) : (s.wr R.HDR_ERR_STATUS_ERR i v).held n l false = s.held n l false :=
  held_wr_of _ _ _ _ _ _ _ (by simp [heldId])

@[simp ↓] theorem held_wrB (f : Fld) (i : Nat) (b : Bool) (h : f.id ∉ heldIds) : (s.wrB f i b).held n l e = s.held n l e :=
  held_wr _ _ _ _ _ _ _ h

@[simp ↓] theorem held_incSat (f : Fld) (i k : Nat) (h : f.id ∉ heldIds) : (s.incSat f i k).held n l e = s.held n l e :=
  held_wr _ _ _ _ _ _ _ h

/-- No view shows a counter. -/
theorem count_not_held {k : Nat} (hk : k < 4) : (cntCount k).id ∉ heldIds := by
  interval_cases k <;> decide

@[simp ↓] theorem held_cnt1 (p code k : Nat) {m : Nat} (hm : m < 4) : (s.cnt1 p code k m).held n l e = s.held n l e := by
  unfold State.cnt1
  split
  · exact held_wr _ _ _ _ _ _ _ (count_not_held hm)
  · rfl

@[simp ↓] theorem held_cnt (p code k : Nat) : (s.cnt p code k).held n l e = s.held n l e := by
  simp [State.cnt]

/-- A change of the components that no view shows. -/
@[simp ↓] theorem held_log (x : LogSt) : ({ s with log := x } : State).held n l e = s.held n l e := (rfl)
@[simp ↓] theorem held_hbm (x : HbmSt) : ({ s with hbm := x } : State).held n l e = s.held n l e := (rfl)
@[simp ↓] theorem held_coll (x : CollSt) : ({ s with coll := x } : State).held n l e = s.held n l e := (rfl)
@[simp ↓] theorem held_free (x : Nat) : ({ s with free := x } : State).held n l e = s.held n l e := (rfl)
@[simp ↓] theorem held_rdata (x : List Nat) : ({ s with rdata := x } : State).held n l e = s.held n l e := (rfl)
@[simp ↓] theorem held_mem (x : List Host.Cell) : ({ s with mem := x } : State).held false l e = s.held false l e := (rfl)

/-- Recovery moves on, its resets and fences as before. -/
theorem held_recov (x : RecSt) (hr : x.resets = s.recov.resets) (hf : x.fenced = s.recov.fenced) :
    ({ s with recov := x } : State).held n l e = s.held n l e := by
  simp only [State.held, hr, hf]
  rfl

@[simp ↓] theorem held_dumps (x : NMap Dump) : ({ s with recov := { s.recov with dumps := x } } : State).held n l e = s.held n l e := held_recov _ _ _ _ _ rfl rfl
@[simp ↓] theorem held_escRecs (x : NMap Nat) : ({ s with recov := { s.recov with escRecs := x } } : State).held n l e = s.held n l e := held_recov _ _ _ _ _ rfl rfl

@[simp ↓] theorem held_pwrcyc (x : Bool) : ({ s with recov := { s.recov with pwrcyc := x } } : State).held n l e = s.held n l e :=
  held_recov _ _ _ _ _ rfl rfl

/-- The host's state moves on, what a function owns, its reset and PERST# as before. -/
theorem held_host (x : HostSt) (hf : x.fns = s.host.fns) (hq : x.quadOwner = s.host.quadOwner) (hr : x.flr = s.host.flr)
    (hp : x.perst = s.host.perst) : ({ s with host := x } : State).held n l e = s.held n l e := by
  simp only [State.held, hf, hq, hr, hp]
  rfl

@[simp ↓] theorem held_pba (x : PMap Bool) : ({ s with host := { s.host with pba := x } } : State).held n l e = s.held n l e :=
  held_host _ _ _ _ _ rfl rfl rfl rfl

/-- The network's state moves on, its flows as before. -/
theorem held_net (x : NetSt) (hf : x.flows = s.net.flows) : ({ s with net := x } : State).held n l e = s.held n l e := by
  simp only [State.held, hf]
  rfl

@[simp ↓] theorem held_fences (x : List Fence) : ({ s with host := { s.host with fences := x } } : State).held n l e = s.held n l e :=
  held_host _ _ _ _ _ rfl rfl rfl rfl
@[simp ↓] theorem held_quiesce (x : NMap (List (Nat × Nat))) :
    ({ s with host := { s.host with quiesce := x } } : State).held n l e = s.held n l e :=
  held_host _ _ _ _ _ rfl rfl rfl rfl
@[simp ↓] theorem held_cached (x : NMap Bool) : ({ s with net := { s.net with cached := x } } : State).held n l e = s.held n l e :=
  held_net _ _ _ _ _ rfl
@[simp ↓] theorem held_rx (x : NMap (List Frame)) : ({ s with net := { s.net with rx := x } } : State).held n l e = s.held n l e :=
  held_net _ _ _ _ _ rfl
@[simp ↓] theorem held_flowMap (x : NMap Flow) : ({ s with net := { s.net with flows := x } } : State).held false l e = s.held false l e := (rfl)
@[simp ↓] theorem held_slew (x : Nat) : ({ s with net := { s.net with slew := x } } : State).held n l e = s.held n l e :=
  held_net _ _ _ _ _ rfl

@[simp ↓] theorem held_setEng (c : Nat) (x : DmaEng) : (s.setEng c x).held n l e = s.held n l e := (rfl)
@[simp ↓] theorem held_setCq (c : Nat) (x : CmdQ) : (s.setCq c x).held n l e = s.held n l e := (rfl)
@[simp ↓] theorem held_setEq (c : Nat) (x : EvQ) : (s.setEq c x).held n l e = s.held n l e := (rfl)
@[simp ↓] theorem held_setStep (c : Nat) (x : StepSt) : (s.setStep c x).held n l e = s.held n l e := (rfl)
@[simp ↓] theorem held_setPort (c : Nat) (x : Port) : (s.setPort c x).held n l e = s.held n l e := (rfl)
@[simp ↓] theorem held_setCommq (c : Nat) (x : CollQ) : (s.setCommq c x).held n l e = s.held n l e := (rfl)
@[simp ↓] theorem held_setDbg (c : Nat) (x : DbgFn) : (s.setDbg c x).held n l e = s.held n l e := (rfl)
@[simp ↓] theorem held_setTestRec (c d : Nat) (x : TestRec) : (s.setTestRec c d x).held n l e = s.held n l e := (rfl)
@[simp ↓] theorem held_emit (x : OutMsg) : (s.emit x).held n l e = s.held n l e := (rfl)
@[simp ↓] theorem held_setPoison (a : Nat) (b : Bool) : (s.setPoison a b).held n l e = s.held n l e := (rfl)
@[simp ↓] theorem held_freeVal : s.freeVal.2.held n l e = s.held n l e := (rfl)
@[simp ↓] theorem held_setCore (c : Nat) (x : Core) : (s.setCore c x).held false l e = s.held false l e := (rfl)
@[simp ↓] theorem held_setFlow (c : Nat) (x : Flow) : (s.setFlow c x).held false l e = s.held false l e := (rfl)
@[simp ↓] theorem held_wb (a : Nat) (b : Byte) : (s.wb a b).held false l e = s.held false l e := (rfl)
@[simp ↓] theorem held_lose (a b : Nat) : (s.lose a b).held false l e = s.held false l e := (rfl)

@[simp ↓] theorem held_sigAdd (k v : Nat) : (s.sigAdd k v).2.held false l e = s.held false l e := by
  unfold State.sigAdd
  dsimp only
  split <;> rfl

/-- Bytes written in host memory are in no view. -/
theorem held_wbs_high (a : Nat) (bs : List Nat) (h : Spc 4 ≤ a) : (s.wbs a bs).held n l e = s.held n l e := by
  have byte : ∀ b, (if n = true ∧ b < Spc 4 then (s.wbs a bs).rb b else 0) = if n = true ∧ b < Spc 4 then s.rb b else 0 := by
    intro b
    split
    · next hb => exact State.rb_wbs_out s a b bs (Or.inl (lt_of_lt_of_le hb.2 h))
    · rfl
  simp only [State.held, byte, State.rg_wbs, State.wbs_tbc, State.wbs_disabling, State.wbs_recov, State.wbs_host, State.wbs_cores, State.wbs_sig,
    State.wbs_net]

@[simp ↓] theorem held_wbs_host (o : Nat) (bs : List Nat) : (s.wbs (aHost o) bs).held n l e = s.held n l e :=
  held_wbs_high _ _ _ _ _ _ (by simp [aHost])

@[simp ↓] theorem held_wle_host (o k v : Nat) : (s.wle (aHost o) k v).held n l e = s.held n l e :=
  held_wbs_host ..

@[simp ↓] theorem held_wbs (a : Nat) (bs : List Nat) : (s.wbs a bs).held false l e = s.held false l e := by
  induction bs generalizing s a with
  | nil => rfl
  | cons b bs ih => exact (ih ..).trans (held_wb ..)

@[simp ↓] theorem held_wle (a k v : Nat) : (s.wle a k v).held false l e = s.held false l e := held_wbs ..

@[simp ↓] theorem held_stepNote (fn st : Nat) : (s.stepNote fn st).held n l e = s.held n l e := by
  simp [State.stepNote]

end

end Sys2Proof.Machine
end

section
/-!
SUPPORT. Events, logs and dumps keep the view `State.held`.
-/

namespace Sys2Proof.Machine

/-! ### Event records (R425–R432) -/

section
variable (n l e : Bool) (s : State)

@[simp ↓] theorem held_sendMsix (q : Nat) : (s.sendMsix q).held n l e = s.held n l e := by
  simp [State.sendMsix]

@[simp ↓] theorem held_signalWritten (q cls : Nat) : (s.signalWritten q cls).held n l e = s.held n l e := by
  simp [State.signalWritten]

@[simp ↓] theorem held_evWrite (q : Nat) (r : EvRec) : (s.evWrite q r).held n l e = s.held n l e := by
  simp (disch := decide) [State.evWrite]

@[simp ↓] theorem held_dropCount (q cls : Nat) : (s.dropCount q cls).held n l e = s.held n l e := by
  simp (disch := decide) [State.dropCount]

@[simp ↓] theorem held_evLost (q : Nat) : (s.evLost q).1.held n l e = s.held n l e := by
  simp (disch := decide) [State.evLost]

@[simp ↓] theorem held_evPlace (q : Nat) (r : EvRec) : (s.evPlace q r).1.held n l e = s.held n l e := by
  have start : (if (s.eq q).pend = [] then s.evLost q else (s, [])).1.held n l e = s.held n l e := by simp
  unfold State.evPlace
  rw [← start]
  generalize (if (s.eq q).pend = [] then s.evLost q else (s, [])) = u
  simp (disch := decide)

@[simp ↓] theorem held_evArrive (q : Nat) (r : EvRec) : (s.evArrive q r).1.held n l e = s.held n l e := by
  unfold State.evArrive
  dsimp only
  split
  · simp
  · split <;> simp

@[simp ↓] theorem held_evRedirect (p : Nat) : (s.evRedirect p).held n l e = s.held n l e := by
  unfold State.evRedirect
  split <;> rfl

@[simp ↓] theorem held_evDeliver (q : Option Nat) (r : EvRec) : (s.evDeliver q r).1.held n l e = s.held n l e := by
  cases q with
  | some q => simp [State.evDeliver]
  | none =>
    simp [State.evDeliver]

/-! ### The Keeper's log and dumps (R484–R490, R508, R518) -/

@[simp ↓] theorem held_logDrop (typ : Nat) : (s.logDrop typ).held n l e = s.held n l e := by
  simp [State.logDrop]

@[simp ↓] theorem held_logEvent (typ cls : Nat) (bs : List Nat) : (s.logEvent typ cls bs).held n l e = s.held n l e := by
  simp [State.logEvent]

@[simp ↓] theorem held_logIncident (typ cls : Nat) (bs : List Nat) : (s.logIncident typ cls bs).held n l e = s.held n l e := by
  simp [State.logIncident]

@[simp ↓] theorem held_logState (typ : Nat) (bs : List Nat) : (s.logState typ bs).1.held n l e = s.held n l e := by
  simp (disch := decide) [State.logState]

@[simp ↓] theorem held_incidentOpen (typ src cls : Nat) : (s.incidentOpen typ src cls).held n l e = s.held n l e := by
  simp (disch := decide) [State.incidentOpen]

@[simp ↓] theorem held_incidentMap (f : Incident → Incident) : (s.incidentMap f).held n l e = s.held n l e := rfl

@[simp ↓] theorem held_incidentCopy (r : EvRec) : (s.incidentCopy r).held n l e = s.held n l e := by
  have opened : (if r.cls ≤ 1 then s.incidentOpen r.typ r.src r.cls else s).held n l e = s.held n l e := by simp
  unfold State.incidentCopy
  rw [← opened]
  generalize (if r.cls ≤ 1 then s.incidentOpen r.typ r.src r.cls else s) = u at opened ⊢
  split
  · exact opened.symm
  · dsimp only
    split
    · rfl
    · split <;> simp

@[simp ↓] theorem held_escalationRecord (fn lvl p st : Nat) : (s.escalationRecord fn lvl p st).held n l e = s.held n l e := by
  unfold State.escalationRecord
  dsimp only
  simp (disch := decide)

@[simp ↓] theorem held_dumpCause (fn kind lvl code src b : Nat) : (s.dumpCause fn kind lvl code src b).held n l e = s.held n l e := by
  unfold State.dumpCause
  dsimp only
  split
  · rfl
  · simp (disch := decide)

@[simp ↓] theorem held_evRaise (p : Nat) (r : EvRec) : (s.evRaise p r).1.held n l e = s.held n l e := by
  simp [State.evRaise]

end

/-! ### Error sources (R15–R17) -/

section
variable (n l : Bool) (s : State)

/-- Recording an error source writes ERR_STATUS of its page; all else that it does is reporting. -/
theorem held_raise1_errs (n l e : Bool) (p k d : Nat) (inj addr : Bool) (attr : Nat) :
    (s.raise1 p k d inj addr attr).1.held n l e
      = (s.wr R.HDR_ERR_STATUS_ERR p (setBit (s.rg R.HDR_ERR_STATUS_ERR p) k)).held n l e := by
  unfold State.raise1
  dsimp only
  split <;> split <;> simp

@[simp ↓] theorem held_raise1 (p k d : Nat) (inj addr : Bool) (attr : Nat) : (s.raise1 p k d inj addr attr).1.held n l false = s.held n l false :=
  (held_raise1_errs ..).trans (held_wr_errStatus ..)

theorem raiseAll_cons (k : Nat) (x : Src) (xs : List Src) : s.raiseAll (k + 1) (x :: xs)
    = (s.raise1 x.page x.bit x.detail false true 0).1.raiseAll k (xs ++ (s.raise1 x.page x.bit x.detail false true 0).2) := rfl

@[simp ↓] theorem held_raiseAll (k : Nat) (xs : List Src) : (s.raiseAll k xs).held n l false = s.held n l false := by
  induction k generalizing s xs with
  | zero => cases xs <;> rfl
  | succ k ih =>
    cases xs with
    | nil => rfl
    | cons x xs => simp [raiseAll_cons, ih]

@[simp ↓] theorem held_raiseAt (p k d : Nat) (inj addr : Bool) (attr : Nat) : (s.raiseAt p k d inj addr attr).held n l false = s.held n l false := by
  simp [State.raiseAt]

@[simp ↓] theorem held_raise (p k d : Nat) : (s.raise p k d).held n l false = s.held n l false := held_raiseAt ..

@[simp ↓] theorem held_event (p typ cls v : Nat) (addr : Bool) (attr : Nat) : (s.event p typ cls v addr attr).held n l false = s.held n l false := by
  simp [State.event]

@[simp ↓] theorem held_logStateRec (typ : Nat) (bs : List Nat) : (s.logStateRec typ bs).held n l false = s.held n l false := by
  simp [State.logStateRec]

@[simp ↓] theorem held_trace (fn src typ v p : Nat) (addr : Bool) (attr : Nat) : (s.trace fn src typ v p addr attr).held n l false = s.held n l false := by
  simp (disch := decide) [State.trace]

end

end Sys2Proof.Machine
end

section
/-!
SUPPORT. The machine's shared operations that keep the view `State.held`, in the order of the model.
-/

namespace Sys2Proof.Machine

/-! ### Operands -/

@[simp ↓] theorem held_setChan (n l e : Bool) (s : State) (m ch : Nat) (x : Chan) : (s.setChan m ch x).held n l e = s.held n l e := by
  simp (disch := decide) [State.setChan]

@[simp ↓] theorem held_setWcb (n l e : Bool) (s : State) (m : Nat) (xs : List WcbEntry) : (s.setWcb m xs).held n l e = s.held n l e := by
  simp (disch := decide) [State.setWcb]

@[simp ↓] theorem held_countHbmN (n l e : Bool) (s : State) (o k : Nat) (write : Bool) : (s.countHbmN o k write).held n l e = s.held n l e := by
  simp (disch := decide) [State.countHbmN]

@[simp ↓] theorem held_countHbm (n l e : Bool) (s : State) (o : Nat) (write : Bool) : (s.countHbm o write).held n l e = s.held n l e := by
  simp (disch := decide) [State.countHbm]

@[simp ↓] theorem held_countFar (n l e : Bool) (s : State) (o : Nat) : (s.countFar o).held n l e = s.held n l e := by
  simp (disch := decide) [State.countFar]

@[simp ↓] theorem held_wbsM (l e : Bool) (s : State) (a : Nat) (bs : List (Option Nat)) : (s.wbsM a bs).held false l e = s.held false l e := by
  obtain ⟨m, hm⟩ := State.wbsM_mem bs s a
  rw [hm, held_mem]

@[simp ↓] theorem held_wcbStore (l e : Bool) (s : State) (x : WcbEntry) (k : Nat) : (s.wcbStore x k).held false l e = s.held false l e := by
  induction k with
  | zero => rfl
  | succ k ih =>
    unfold State.wcbStore
    dsimp only
    split
    · exact ih
    · exact ih

@[simp ↓] theorem held_wcbDrain (l e : Bool) (s : State) (m : Nat) (x : WcbEntry) : (s.wcbDrain m x).held false l e = s.held false l e := by
  simp (disch := decide) [State.wcbDrain]

@[simp ↓] theorem held_wcbDrainAll (l e : Bool) (s : State) (m : Nat) : (s.wcbDrainAll m).held false l e = s.held false l e :=
  held_foldl _ (fun _ _ => by simp) _ _

@[simp ↓] theorem held_wcbSettle (l e : Bool) (s : State) (m : Nat) : (s.wcbSettle m).held false l e = s.held false l e := by
  unfold State.wcbSettle
  split
  · simp
  · split
    · split <;> simp
    · rfl

@[simp ↓] theorem held_wcbWrite (l e : Bool) (s : State) (o : Nat) (bs : List (Option Nat)) (bad : Bool) : (s.wcbWrite o bs bad).held false l e = s.held false l e := by
  unfold State.wcbWrite
  dsimp only
  split <;> simp

@[simp ↓] theorem held_hbmWrite (l e : Bool) (s : State) (o : Nat) (bs : List (Option Nat)) (bad : Bool) : (s.hbmWrite o bs bad).2.held false l e = s.held false l e := by
  unfold State.hbmWrite
  dsimp only
  split
  · rfl
  · split
    · simp
    · split <;> simp

@[simp ↓] theorem held_readLine (n l : Bool) (s : State) (pa k : Nat) : (s.readLine pa k).1.held n l false = s.held n l false := by
  unfold State.readLine
  dsimp only
  split
  · simp
  · split <;> simp
  · split <;> simp
  · rfl

@[simp ↓] theorem held_noteEntry (n l e : Bool) (s : State) (o : Nat) : (s.noteEntry o).held n l e = s.held n l e := by
  simp (disch := decide) [State.noteEntry]

@[simp ↓] theorem held_noteLookup (n l e : Bool) (s : State) (v : Via) (a : Nat) : (s.noteLookup v a).held n l e = s.held n l e := by
  unfold State.noteLookup
  split
  · rfl
  · dsimp only
    split
    · rfl
    · split <;> simp

@[simp ↓] theorem held_readUpto (n l : Bool) (s : State) (v : Via) (k a m : Nat) : (s.readUpto v k a m).1.held n l false = s.held n l false := by
  induction k generalizing s a m with
  | zero => rfl
  | succ k ih =>
    unfold State.readUpto
    split
    · rfl
    · dsimp only
      split
      · rfl
      · split
        · rfl
        · exact (ih ..).trans (by simp)

theorem held_readSpan (n l : Bool) (s : State) (v : Via) (k a m : Nat) {u : State} {bs : List (Nat × Bool)} (h : s.readSpan v k a m = .ok (u, bs)) :
    u.held n l false = s.held n l false := by
  have hu := held_readUpto n l s v k a m
  unfold State.readSpan at h
  split at h
  · next u' bs' he =>
    obtain ⟨rfl, rfl⟩ := Prod.mk.inj (Except.ok.inj h)
    rwa [he] at hu
  · cases h

theorem held_ldN (n l : Bool) (s : State) (v : Via) (a k : Nat) {u : State} {bs : List (Nat × Bool)} (h : s.ldN v a k = .ok (u, bs)) : u.held n l false = s.held n l false :=
  held_readSpan _ _ _ _ _ _ _ h

/-! ### Retire -/

@[simp ↓] theorem held_presenceEvent (n l : Bool) (s : State) (kind id : Nat) : (s.presenceEvent kind id).held n l false = s.held n l false := by
  simp (disch := decide) [State.presenceEvent]

@[simp ↓] theorem held_clearPresent (n l : Bool) (s : State) (f : Fld) (b kind id : Nat) (h : f.id ∉ heldIds) :
    (s.clearPresent f b kind id).held n l false = s.held n l false := by
  unfold State.clearPresent
  split
  · simp [h]
  · rfl

@[simp ↓] theorem held_arraysCount (n l e : Bool) (s : State) : (s.arraysCount).held n l e = s.held n l e := by
  simp (disch := decide) [State.arraysCount]

/-- No view shows a word of QUAD_PRESENT. -/
theorem held_wr_quadPresent (n l : Bool) (s : State) (m v : Nat) (e : Bool) : (s.wr (R.TOP_QUAD_PRESENT_PRESENT m) pTop v).held n l e = s.held n l e :=
  held_wr_at _ _ _ _ _ _ _ (by
    have hid : 32768 ≤ (R.TOP_QUAD_PRESENT_PRESENT m).id := by simp only [Fld.id, R.TOP_QUAD_PRESENT_PRESENT]; omega
    simp [heldCell, Nat.not_lt.mpr hid])

@[simp ↓] theorem held_clearQuad (n l : Bool) (s : State) (q : Nat) : (s.clearQuad q).held n l false = s.held n l false := by
  unfold State.clearQuad State.clearPresent
  rw [held_arraysCount]
  split
  · simp [held_wr_quadPresent]
  · rfl

@[simp ↓] theorem held_clearMem (n l : Bool) (s : State) (m : Nat) : (s.clearMem m).held n l false = s.held n l false := by
  simp (disch := decide) [State.clearMem]

@[simp ↓] theorem held_clearPort (n l : Bool) (s : State) (p : Nat) : (s.clearPort p).held n l false = s.held n l false := by
  simp (disch := decide) [State.clearPort]

@[simp ↓] theorem held_rmapPut (n l e : Bool) (s : State) (bank i : Nat) (x : Nat × Nat × Bool) : (s.rmapPut bank i x).held n l e = s.held n l e := by
  simp (disch := decide) [State.rmapPut]

@[simp ↓] theorem held_rmapInsert1 (n l e : Bool) (s : State) (bank kind id : Nat) : (s.rmapInsert1 bank kind id).held n l e = s.held n l e := by
  unfold State.rmapInsert1
  split
  · simp
  · split <;> simp

@[simp ↓] theorem held_rmapInsert (n l : Bool) (s : State) (kind id : Nat) : (s.rmapInsert kind id).held n l false = s.held n l false := by
  simp (disch := decide) [State.rmapInsert]

@[simp ↓] theorem held_retireUnit (n l : Bool) (s : State) (kind id cause : Nat) : (s.retireUnit kind id cause).held n l false = s.held n l false := by
  simp (disch := decide) [State.retireUnit]

@[simp ↓] theorem held_retireQuad (n l : Bool) (s : State) (q cause : Nat) : (s.retireQuad q cause).held n l false = s.held n l false := by
  simp (disch := decide) [State.retireQuad]

/-! ### Flags -/

@[simp ↓] theorem held_loseBanks (l e : Bool) (s : State) (c : Nat) (banks : Nat) : (s.loseBanks c banks).held false l e = s.held false l e := by
  unfold State.loseBanks
  dsimp only
  simp (disch := decide)

/-! ### Arrays -/

@[simp ↓] theorem held_katShow (n l e : Bool) (s : State) (c : Nat) : (s.katShow c).held n l e = s.held n l e := by
  simp (disch := decide) [State.katShow]

@[simp ↓] theorem held_setKat (l e : Bool) (s : State) (c : Nat) (k : Kat) : (s.setKat c k).held false l e = s.held false l e := by
  simp (disch := decide) [State.setKat]

@[simp ↓] theorem held_katStart (l e : Bool) (s : State) (c first mask : Nat) (asked : Bool) : (s.katStart c first mask asked).held false l e = s.held false l e := by
  simp (disch := decide) [State.katStart]

@[simp ↓] theorem held_katDue (l e : Bool) (s : State) (c : Nat) : (s.katDue c).held false l e = s.held false l e := by
  simp (disch := decide) [State.katDue]

@[simp ↓] theorem held_katOver (l e : Bool) (s : State) (c a : Nat) : (s.katOver c a).held false l e = s.held false l e := by
  simp (disch := decide) [State.katOver]

@[simp ↓] theorem held_busyShow (n l e : Bool) (s : State) (c : Nat) : (s.busyShow c).held n l e = s.held n l e := by
  simp (disch := decide) [State.busyShow]

@[simp ↓] theorem held_feedersFill (l e : Bool) (s : State) (c : Nat) : (s.feedersFill c).held false l e = s.held false l e := by
  unfold State.feedersFill
  split <;> simp (disch := decide)

/-! ### Issue -/

@[simp ↓] theorem held_unissue (l e : Bool) (s : State) (c : Nat) : (s.unissue c).held false l e = s.held false l e := by
  unfold State.unissue
  extract_lets younger astBack squantBack
  have ast (s : State) : (astBack s).held false l e = s.held false l e := by
    dsimp only [astBack]
    split
    · simp (disch := decide)
    · rfl
  have squant (s : State) : (squantBack s).held false l e = s.held false l e := by
    dsimp only [squantBack]
    split
    · simp (disch := decide)
    · rfl
  rw [ast, squant, ast]

@[simp ↓] theorem held_setRun (n l e : Bool) (s : State) (c k : Nat) : (s.setRun c k).held n l e = s.held n l e := by
  simp (disch := decide) [State.setRun]

/-! ### Sync -/

@[simp ↓] theorem held_engRegs (n l e : Bool) (s : State) (x : Nat) : (s.engRegs x).held n l e = s.held n l e := by
  simp (disch := decide) [State.engRegs]

@[simp ↓] theorem held_putEng (n l e : Bool) (s : State) (x : Nat) (x' : DmaEng) : (s.putEng x x').held n l e = s.held n l e := by
  simp (disch := decide) [State.putEng]

@[simp ↓] theorem held_engRngEnd (n l e : Bool) (s : State) (x : Nat) (d : DmaDesc) : (s.engRngEnd x d).held n l e = s.held n l e := by
  unfold State.engRngEnd
  extract_lets p fs ft put
  have one (f : Fld) (h : f.id ∉ heldIds) (o : Option Nat) (s : State) : (put f o s).held n l e = s.held n l e := by
    cases o with
    | none => rfl
    | some v => exact held_wr _ _ _ _ _ _ _ h
  have hs : fs.id ∉ heldIds := by dsimp only [fs]; split <;> decide
  have ht : ft.id ∉ heldIds := by dsimp only [ft]; split <;> decide
  rw [one _ ht, one _ hs, one _ hs]

/-! ### Dma -/

@[simp ↓] theorem held_dmaTurn (n l e : Bool) (s : State) (x i : Nat) : (s.dmaTurn x i).held n l e = s.held n l e := by
  simp (disch := decide) [State.dmaTurn]

@[simp ↓] theorem held_dmaBytes (n l e : Bool) (s : State) (x rd wr : Nat) : (s.dmaBytes x rd wr).held n l e = s.held n l e := by
  simp (disch := decide) [State.dmaBytes]

@[simp ↓] theorem held_setDesc (n l e : Bool) (s : State) (x i k : Nat) (d : DmaDesc) : (s.setDesc x i k d).held n l e = s.held n l e := by
  simp (disch := decide) [State.setDesc]

/-! ### Link -/

@[simp ↓] theorem held_sendFlit (n l e : Bool) (s : State) (p : Nat) (f : Flit) : (s.sendFlit p f).held n l e = s.held n l e := by
  simp (disch := decide) [State.sendFlit]

@[simp ↓] theorem held_sendHead (n l e : Bool) (s : State) (p k : Nat) : (s.sendHead p k).held n l e = s.held n l e := by
  unfold State.sendHead
  dsimp only
  split <;> simp (disch := decide)

@[simp ↓] theorem held_pumpPort (n l e : Bool) (s : State) (k p : Nat) : (State.pumpPort k s p).held n l e = s.held n l e := by
  induction k generalizing s with
  | zero => rfl
  | succ k ih =>
    unfold State.pumpPort
    extract_lets x q0 vc0 mid
    split
    · rfl
    · split
      · simp [ih]
      · split
        · simp [ih]
        · split
          · simp [ih]
          · split
            · simp [ih]
            · rfl

@[simp ↓] theorem held_tokenFill (n l e : Bool) (s : State) (p : Nat) : (s.tokenFill p).held n l e = s.held n l e := by
  simp (disch := decide) [State.tokenFill]

@[simp ↓] theorem held_pump (n l e : Bool) (s : State) (p : Nat) : (s.pump p).held n l e = s.held n l e := by
  simp (disch := decide) [State.pump]

@[simp ↓] theorem held_queueFlits (n l e : Bool) (s : State) (p k : Nat) (xs : List Flit) : (s.queueFlits p k xs).held n l e = s.held n l e := by
  simp (disch := decide) [State.queueFlits]

@[simp ↓] theorem held_noRoute (n l : Bool) (s : State) : (s.noRoute).held n l false = s.held n l false := by
  simp (disch := decide) [State.noRoute]

@[simp ↓] theorem held_route (n l : Bool) (s : State) (dst vc dflow : Nat) : (s.route dst vc dflow).2.held n l false = s.held n l false := by
  unfold State.route
  split
  · rfl
  · split
    · simp
    · simp
    · split
      · simp
      · simp
      · split <;> simp

@[simp ↓] theorem held_launch (n l : Bool) (s : State) (vc : Nat) (marks : List (Bool × Nat × Bool)) (pass : Bool) (bs : List Nat) :
    (s.launch vc marks pass bs).held n l false = s.held n l false := by
  have way := held_route n l s (byteFld bs 0 4) vc (byteFld bs 0x0C 4)
  unfold State.launch
  split
  · next u he => rw [he] at way; simpa using way
  · next u he => rw [he] at way; exact way
  · next p u _ _ he =>
    rw [he] at way
    split <;> simpa using way

@[simp ↓] theorem held_sendFrame (n l : Bool) (s : State) (vc : Nat) (dmCheck : Bool) (f : Frame) : (s.sendFrame vc dmCheck f).held n l false = s.held n l false := by
  simp (disch := decide) [State.sendFrame]

/-! ### Flow -/

@[simp ↓] theorem held_flowTouch (n l e : Bool) (s : State) (id : Nat) : (s.flowTouch id).held n l e = s.held n l e := by
  unfold State.flowTouch
  split
  · rfl
  · dsimp only
    split <;> simp

@[simp ↓] theorem held_flowUsedReg (n l e : Bool) (s : State) (fn : Nat) : (s.flowUsedReg fn).held n l e = s.held n l e := by
  simp (disch := decide) [State.flowUsedReg]

@[simp ↓] theorem held_tagResult (n l e : Bool) (s : State) (tag st : Nat) : (s.tagResult tag st).held n l e = s.held n l e := by
  simp (disch := decide) [State.tagResult]

@[simp ↓] theorem held_flowEnd (n l e : Bool) (s : State) (id st : Nat) : (s.flowEnd id st).held n l e = s.held n l e :=
  held_foldl _ (fun _ _ => by simp (disch := decide)) _ _

@[simp ↓] theorem held_flowSettle (n l e : Bool) (s : State) (id : Nat) (tags : List Nat) : (s.flowSettle id tags).held n l e = s.held n l e :=
  held_foldl _ (fun _ _ => by simp (disch := decide)) _ _

theorem held_txRead (n l : Bool) (s : State) (x : Flow) (r : TxReq) {u : State} {bs : List Nat} {k : Nat} (h : s.txRead x r = .ok (u, bs, k)) :
    u.held n l false = s.held n l false := by
  unfold State.txRead at h
  split at h
  · cases h; rfl
  · next core a _ =>
    cases hl : s.ldN ⟨core, x.fn, true⟩ a r.len with
    | error e => rw [hl] at h; cases h
    | ok y =>
      rw [hl] at h
      cases h
      exact held_ldN _ _ _ _ _ _ hl

@[simp ↓] theorem held_descMoved (n l e : Bool) (s : State) (tag rd wr : Nat) : (s.descMoved tag rd wr).held n l e = s.held n l e := by
  simp (disch := decide) [State.descMoved]

@[simp ↓] theorem held_flowPumpN (s : State) (k id : Nat) : (State.flowPumpN k s id).held false false false = s.held false false false := by
  induction k generalizing s with
  | zero => rfl
  | succ k ih =>
    unfold State.flowPumpN
    dsimp only
    split
    · rfl
    · split
      · rfl
      · split
        · split
          · rfl
          · simp [ih]
        · next u data poison hr =>
          rw [ih]
          simpa using held_txRead _ _ _ _ _ hr

@[simp ↓] theorem held_flowPump (s : State) (id : Nat) : (s.flowPump id).held false false false = s.held false false false := by
  simp (disch := decide) [State.flowPump]

@[simp ↓] theorem held_flowQueue (s : State) (id : Nat) (xs : List TxReq) : (s.flowQueue id xs).held false false false = s.held false false false := by
  simp (disch := decide) [State.flowQueue]

@[simp ↓] theorem held_resendReqs (n l : Bool) (s : State) (id : Nat) (x : Flow) (rs : List TxReq) : (State.resendReqs id x rs s).held n l false = s.held n l false := by
  induction rs generalizing s with
  | nil => rfl
  | cons r rs ih =>
    unfold State.resendReqs
    dsimp only
    split
    · next u data poison hr =>
      rw [ih]
      simpa using held_txRead _ _ _ _ _ hr
    · split
      · rfl
      · simp [ih]

@[simp ↓] theorem held_flowResend (n l : Bool) (s : State) (id : Nat) : (s.flowResend id).held n l false = s.held n l false := by
  simp (disch := decide) [State.flowResend]

@[simp ↓] theorem held_sendNak (n : Bool) (s : State) (id status : Nat) (f : Frame) : (s.sendNak id status f).held n false false = s.held n false false := by
  simp (disch := decide) [State.sendNak]

@[simp ↓] theorem held_ackTo (l e : Bool) (s : State) (id a : Nat) : (s.ackTo id a).held false l e = s.held false l e := by
  simp (disch := decide) [State.ackTo]

@[simp ↓] theorem held_collPeerLost (n l : Bool) (s : State) (fn g : Nat) : (s.collPeerLost fn g).held n l false = s.held n l false := by
  unfold State.collPeerLost
  dsimp only
  split <;> simp (disch := decide)

@[simp ↓] theorem held_flowReset (l e : Bool) (s : State) (id : Nat) : (s.flowReset id).held false l e = s.held false l e := by
  simp (disch := decide) [State.flowReset]

@[simp ↓] theorem held_flowsReset (l e : Bool) (s : State) (fn : Nat) : (s.flowsReset fn).held false l e = s.held false l e :=
  held_foldl _ (fun _ _ => by simp (disch := decide)) _ _

@[simp ↓] theorem held_flowClose (l e : Bool) (s : State) (id : Nat) : (s.flowClose id).held false l e = s.held false l e := by
  simp (disch := decide) [State.flowClose]

@[simp ↓] theorem held_rxDrop (n l e : Bool) (s : State) (vc i : Nat) : (s.rxDrop vc i).held n l e = s.held n l e := held_net _ _ _ _ _ rfl

@[simp ↓] theorem held_flowStale (n : Bool) (s : State) (id : Nat) (f : Frame) : (s.flowStale id f).held n false false = s.held n false false := by
  simp (disch := decide) [State.flowStale]

@[simp ↓] theorem held_flowFailReq (l e : Bool) (s : State) (id : Nat) (r : TxReq) (st : Nat) : (s.flowFailReq id r st).held false l e = s.held false l e := by
  simp (disch := decide) [State.flowFailReq]

/-! ### Queue -/

@[simp ↓] theorem held_cmdMap (n l e : Bool) (s : State) (q num : Nat) (f : Cmd → Cmd) : (s.cmdMap q num f).held n l e = s.held n l e := by
  simp (disch := decide) [State.cmdMap]

@[simp ↓] theorem held_cmdResult (n l e : Bool) (s : State) (q num st : Nat) : (s.cmdResult q num st).held n l e = s.held n l e := by
  simp (disch := decide) [State.cmdResult]

@[simp ↓] theorem held_cqWait (n l e : Bool) (s : State) (q op sig : Nat) : (s.cqWait q op sig).held n l e = s.held n l e := by
  simp (disch := decide) [State.cqWait]

@[simp ↓] theorem held_twPending (n l e : Bool) (s : State) (fn : Nat) : (s.twPending fn).held n l e = s.held n l e := by
  simp (disch := decide) [State.twPending]

/-! ### Coll -/

@[simp ↓] theorem held_grpClose (l e : Bool) (s : State) (g x : Nat) : (s.grpClose g x).held false l e = s.held false l e := by
  refine held_foldl _ (fun s k => ?_) _ _
  dsimp only
  split
  · simp
  · rfl

@[simp ↓] theorem held_grpIdle (l e : Bool) (s : State) (g : Nat) : (s.grpIdle g).held false l e = s.held false l e := by
  unfold State.grpIdle
  dsimp only
  split
  · rfl
  · rw [held_setCommq]
    exact held_foldl _ (fun _ _ => by simp) _ _

@[simp ↓] theorem held_grpPut (s : State) (id : Nat) (bytes : List Nat) (off poison : Nat) : (s.grpPut id bytes off poison).held false false false = s.held false false false := by
  simp (disch := decide) [State.grpPut]

@[simp ↓] theorem held_sendAborts (s : State) (x gid seq st : Nat) : (s.sendAborts x gid seq st).held false false false = s.held false false false :=
  held_foldl _ (fun _ _ => by simp (disch := decide)) _ _

@[simp ↓] theorem held_collRegs (n l e : Bool) (s : State) (g : Nat) : (s.collRegs g).held n l e = s.held n l e := by
  simp (disch := decide) [State.collRegs]

@[simp ↓] theorem held_collSignal (l e : Bool) (s : State) (fn : Nat) (es : Bool) (sig inc st : Nat) : (s.collSignal fn es sig inc st).2.held false l e = s.held false l e := by
  unfold State.collSignal
  split
  · rfl
  · split
    · simp
    · split <;> simp

@[simp ↓] theorem held_loseSpan (l e : Bool) (s : State) (fn a k : Nat) : (s.loseSpan fn a k).held false l e = s.held false l e := by
  refine held_foldl _ (fun s i => ?_) _ _
  extract_lets b c
  split
  · split <;> simp
  · rfl

@[simp ↓] theorem held_collFree (n l e : Bool) (s : State) (g : Nat) : (s.collFree g).held n l e = s.held n l e := by
  simp (disch := decide) [State.collFree]

@[simp ↓] theorem held_collError (n l : Bool) (s : State) (p : Nat) (o : CollOp) (c : Nat) : (s.collError p o c).held n l false = s.held n l false := by
  simp (disch := decide) [State.collError]

@[simp ↓] theorem held_collFinish (s : State) (g : Nat) (o : CollOp) (st : Nat) : (s.collFinish g o st).held false false false = s.held false false false := by
  have spans (xs : List (Nat × Nat × Bool)) (fn : Nat) (s : State) : (xs.foldl (fun s x =>
      if x.1 = o.dst ∨ (o.kind = 2 ∧ x.1 = o.dstScale) then s.loseSpan fn x.1 x.2.1 else s) s).held false false false = s.held false false false :=
    held_foldl _ (fun _ _ => by simp) _ _
  unfold State.collFinish
  dsimp only
  simp (disch := decide) [spans]

@[simp ↓] theorem held_collAbort (s : State) (g : Nat) : (s.collAbort g).held false false false = s.held false false false := by
  unfold State.collAbort
  split <;> simp

@[simp ↓] theorem held_collAbortAll (s : State) (fn : Nat) : (s.collAbortAll fn).held false false false = s.held false false false :=
  held_foldl _ (fun _ _ => by simp (disch := decide)) _ _

@[simp ↓] theorem held_collAbortCore (s : State) (c : Nat) : (s.collAbortCore c).held false false false = s.held false false false := by
  unfold State.collAbortCore
  split <;> simp (disch := decide)

@[simp ↓] theorem held_grpReset (l e : Bool) (s : State) (g : Nat) : (s.grpReset g).held false l e = s.held false l e :=
  held_foldl _ (fun _ _ => by simp (disch := decide)) _ _

@[simp ↓] theorem held_collDrop (l : Bool) (s : State) (g : Nat) : (s.collDrop g).held false l false = s.held false l false := by
  have ops (fn p : Nat) (o : CollOp) (s : State) :
      (((s.collSignal fn (s.launchErrSignal o) o.sig o.inc St.ABORTED).2.cmdResult o.queue o.num St.ABORTED).collError p o St.ABORTED).held false l false
        = s.held false l false := by simp
  unfold State.collDrop
  dsimp only
  rw [held_setCommq, held_ite, held_wr _ _ _ _ _ _ _ (by decide), ite_self]
  exact held_foldl _ (fun s o => ops _ _ o s) _ _

@[simp ↓] theorem held_collReset (s : State) (g : Nat) : (s.collReset g).held false false false = s.held false false false := by
  simp (disch := decide) [State.collReset]

/-! ### Verdict -/

@[simp ↓] theorem held_stepTo (n l : Bool) (s : State) (fn new : Nat) : (s.stepTo fn new).held n l false = s.held n l false := by
  simp (disch := decide) [State.stepTo]

@[simp ↓] theorem held_stepClear (n l e : Bool) (s : State) (fn : Nat) : (s.stepClear fn).held n l e = s.held n l e := by
  unfold State.stepClear
  dsimp only
  rw [held_foldl _ (fun _ _ => by simp (disch := decide))]
  simp (disch := decide)

@[simp ↓] theorem held_rngSave (l e : Bool) (s : State) (fn : Nat) : (s.rngSave fn).held false l e = s.held false l e :=
  held_foldl _ (fun _ _ => by simp (disch := decide)) _ _

@[simp ↓] theorem held_slotWord (n l e : Bool) (s : State) (a : Nat) : (s.slotWord a).2.held n l e = s.held n l e := by
  unfold State.slotWord
  split <;> simp (disch := decide)

@[simp ↓] theorem held_rngRestore (n l e : Bool) (s : State) (fn : Nat) : (s.rngRestore fn).held n l e = s.held n l e :=
  held_foldl _ (fun _ _ => by simp (disch := decide)) _ _

@[simp ↓] theorem held_stepOpen (l : Bool) (s : State) (fn : Nat) (fresh : Bool) : (s.stepOpen fn fresh).held false l false = s.held false l false := by
  have pages (cs : List Nat) (head : Bool) (s : State) : (cs.foldl (fun s c =>
      let q := pCore c
      let s := s.wr R.CORE_NW_STATUS_JUMP q 0
      let s := if head then s.wr R.CORE_SCALE_CTRL_HEAD q (s.stepCount fn % 16) else s
      s.wr R.CORE_SCALE_CTRL_FORCE_JIT q (s.rg R.COL_STEP_STATUS_ATTEMPT (pCol fn))) s).held false l false = s.held false l false :=
    held_foldl _ (fun _ _ => by simp (disch := decide)) _ _
  unfold State.stepOpen
  dsimp only at pages ⊢
  simp (disch := decide) [pages]

@[simp ↓] theorem held_stepCmdEnd (n l e : Bool) (s : State) (fn st : Nat) : (s.stepCmdEnd fn st).held n l e = s.held n l e := by
  unfold State.stepCmdEnd
  dsimp only
  split <;> simp (disch := decide)

@[simp ↓] theorem held_stepApply (n l : Bool) (s : State) (fn : Nat) : (s.stepApply fn).held n l false = s.held n l false := by
  simp (disch := decide) [State.stepApply]

@[simp ↓] theorem held_stepDecide (l : Bool) (s : State) (fn r : Nat) : (s.stepDecide fn r).held false l false = s.held false l false := by
  unfold State.stepDecide
  dsimp only
  split <;> simp (disch := decide)

@[simp ↓] theorem held_sendVerdict (s : State) (fn x a r : Nat) : (s.sendVerdict fn x a r).held false false false = s.held false false false := by
  unfold State.sendVerdict
  extract_lets m send
  have one (s : State) (w hops : Nat) : (send s w hops).held false false false = s.held false false false := by
    dsimp only [send]
    split
    · rfl
    · simp
  rw [one, one]

@[simp ↓] theorem held_voteRun (s : State) (k fn x : Nat) : (State.voteRun k s fn x).held false false false = s.held false false false := by
  induction k generalizing s with
  | zero => rfl
  | succ k ih =>
    unfold State.voteRun
    dsimp only
    split
    · simp
    · split
      · rfl
      · rw [ih]
        split <;> simp

@[simp ↓] theorem held_vote (s : State) (fn : Nat) : (s.vote fn).held false false false = s.held false false false := by
  unfold State.vote
  split <;> simp

@[simp ↓] theorem held_stepSeal (s : State) (fn : Nat) : (s.stepSeal fn).held false false false = s.held false false false := by
  unfold State.stepSeal
  dsimp only
  split
  · rw [held_vote]
    split <;> simp (disch := decide)
  · simp (disch := decide)

@[simp ↓] theorem held_sealCheck (s : State) (fn : Nat) : (s.sealCheck fn).held false false false = s.held false false false := by
  unfold State.sealCheck
  split
  · rfl
  · split <;> simp

@[simp ↓] theorem held_snapNote (n l : Bool) (s : State) (fn q num st : Nat) : (s.snapNote fn q num st).held n l false = s.held n l false := by
  simp (disch := decide) [State.snapNote]

@[simp ↓] theorem held_snapFail (n l : Bool) (s : State) (fn q num st : Nat) : (s.snapFail fn q num st).held n l false = s.held n l false := by
  simp (disch := decide) [State.snapFail]

@[simp ↓] theorem held_holdEnd (n l : Bool) (s : State) (fn : Nat) : (s.holdEnd fn).held n l false = s.held n l false := by
  simp (disch := decide) [State.holdEnd]

@[simp ↓] theorem held_stepReset (n l : Bool) (s : State) (fn : Nat) : (s.stepReset fn).held n l false = s.held n l false := by
  unfold State.stepReset
  dsimp only
  split <;> simp (disch := decide)

/-! ### Abort -/

@[simp ↓] theorem held_putBack (l e : Bool) (s : State) (pa : Nat) (bs : List Nat) (bad : Bool) : (s.putBack pa bs bad).held false l e = s.held false l e := by
  simp (disch := decide) [State.putBack]

@[simp ↓] theorem held_unmove (l e : Bool) (s : State) (u : Nat × List Nat × List Nat × Bool) : (s.unmove u).held false l e = s.held false l e := by
  simp (disch := decide) [State.unmove]

@[simp ↓] theorem held_descAbort (l : Bool) (s : State) (x : Nat) (d : DmaDesc) : (s.descAbort x d).held false l false = s.held false l false := by
  have back (us : List (Nat × List Nat × List Nat × Bool)) (s : State) : (us.foldl State.unmove s).held false l false = s.held false l false :=
    held_foldl _ (fun _ _ => by simp) _ _
  unfold State.descAbort
  dsimp only
  simp [back]

@[simp ↓] theorem held_dmaAbort (l : Bool) (s : State) (x : Nat) (sel : Nat → DmaDesc → Bool) : (s.dmaAbort x sel).held false l false = s.held false l false := by
  unfold State.dmaAbort
  dsimp only
  split
  · rfl
  · rw [held_raise, held_foldl _ (fun _ _ => by simp), held_putEng]

@[simp ↓] theorem held_ctxAbort (l : Bool) (s : State) (c : Nat) : (s.ctxAbort c).held false l false = s.held false l false := by
  simp (disch := decide) [State.ctxAbort]

@[simp ↓] theorem held_kernelOver (l : Bool) (s : State) (c st : Nat) : (s.kernelOver c st).held false l false = s.held false l false := by
  unfold State.kernelOver
  dsimp only
  split <;> simp (disch := decide)

@[simp ↓] theorem held_unitsStop (e : Bool) (s : State) (c : Nat) : (s.unitsStop c).held false false e = s.held false false e := by
  simp (disch := decide) [State.unitsStop]

@[simp ↓] theorem held_kernelAbort (s : State) (c : Nat) : (s.kernelAbort c).held false false false = s.held false false false := by
  simp (disch := decide) [State.kernelAbort]

@[simp ↓] theorem held_cmdAbort (s : State) (q num : Nat) : (s.cmdAbort q num).held false false false = s.held false false false := by
  unfold State.cmdAbort
  dsimp only
  split
  · rfl
  · rw [held_cmdMap]
    split
    · rfl
    · split
      · exact held_foldl _ (fun _ _ => by simp) _ _
      · refine held_foldl _ (fun s x => ?_) _ _
        split
        · split <;> simp
        · rfl
      · split
        · split <;> simp
        · rfl
      · simp
      · simp
      · rfl

@[simp ↓] theorem held_queueAbort (s : State) (q : Nat) : (s.queueAbort q).held false false false = s.held false false false := by
  unfold State.queueAbort
  rw [held_cqWait]
  exact held_foldl _ (fun _ _ => by simp) _ _

/-! ### Train -/

@[simp ↓] theorem held_timeCheck (n l : Bool) (s : State) : s.timeCheck.held n l false = s.held n l false := by
  unfold State.timeCheck
  split
  · simp (disch := decide)
  · split
    · rfl
    · simp (disch := decide)

@[simp ↓] theorem held_scanEnd (n l e : Bool) (s : State) (p : Nat) (abandoned : Bool) : (s.scanEnd p abandoned).held n l e = s.held n l e := by
  simp (disch := decide) [State.scanEnd]

@[simp ↓] theorem held_scanStart (n l e : Bool) (s : State) (p lane : Nat) : (s.scanStart p lane).held n l e = s.held n l e := by
  simp (disch := decide) [State.scanStart]

/-- The marks and locks of lanes are in no view. -/
theorem laneStatus_not_held (m : Nat) : (R.LNK_LANE_STATUS_MARKED m).id ∉ heldIds ∧ (R.LNK_LANE_STATUS_LOCK m).id ∉ heldIds := by
  have hm : (R.LNK_LANE_STATUS_MARKED m).id = 1575967 + 32 * m := by simp only [Fld.id, R.LNK_LANE_STATUS_MARKED]; omega
  have hl : (R.LNK_LANE_STATUS_LOCK m).id = 1575966 + 32 * m := by simp only [Fld.id, R.LNK_LANE_STATUS_LOCK]; omega
  have none : ∀ x ∈ heldIds, ¬(1575966 ≤ x ∧ 30 ≤ x % 32) := by decide
  rw [hm, hl]
  exact ⟨fun h => none _ h ⟨by omega, by omega⟩, fun h => none _ h ⟨by omega, by omega⟩⟩

@[simp ↓] theorem held_linkDrop (n l e : Bool) (s : State) (p : Nat) : (s.linkDrop p).held n l e = s.held n l e := by
  unfold State.linkDrop
  dsimp only
  rw [held_setPort, held_foldl _ (fun _ j => by simp [(laneStatus_not_held j).2])]
  simp (disch := decide)

@[simp ↓] theorem held_linkDown (n : Bool) (s : State) (p : Nat) : (s.linkDown p).held n false false = s.held n false false := by
  simp (disch := decide) [State.linkDown]

@[simp ↓] theorem held_portLoad (n l e : Bool) (s : State) (p : Nat) : (s.portLoad p).held n l e = s.held n l e := by
  unfold State.portLoad
  dsimp only
  rw [held_foldl _ (fun _ j => by simp [(laneStatus_not_held j).1])]
  simp (disch := decide)

@[simp ↓] theorem held_trainBegin (n : Bool) (s : State) (p : Nat) (self : Bool) : (s.trainBegin p self).held n false false = s.held n false false := by
  simp (disch := decide) [State.trainBegin]

@[simp ↓] theorem held_quarRelease (n : Bool) (s : State) (p : Nat) : (s.quarRelease p).held n false false = s.held n false false := by
  simp (disch := decide) [State.quarRelease]

@[simp ↓] theorem held_portEnable (n : Bool) (s : State) (p : Nat) : (s.portEnable p).held n false false = s.held n false false := by
  simp (disch := decide) [State.portEnable]

@[simp ↓] theorem held_portDisable (n : Bool) (s : State) (p : Nat) : (s.portDisable p).held n false false = s.held n false false := by
  simp (disch := decide) [State.portDisable]

/-! ### Mem -/

@[simp ↓] theorem held_memDone (n l e : Bool) (s : State) (st : Nat) : (s.memDone st).held n l e = s.held n l e := by
  simp (disch := decide) [State.memDone]

@[simp ↓] theorem held_memServe (l : Bool) (s : State) (r : MemReq) : (s.memServe r).held false l false = s.held false l false := by
  unfold State.memServe
  dsimp only
  split
  · simp
  · split <;> simp

@[simp ↓] theorem held_chResume (l : Bool) (s : State) (m ch : Nat) : (s.chResume m ch).held false l false = s.held false l false := by
  unfold State.chResume
  split
  · rfl
  · dsimp only
    rw [held_foldl _ (fun _ _ => by simp), held_setChan]

@[simp ↓] theorem held_memResume (l : Bool) (s : State) (m : Nat) : (s.memResume m).held false l false = s.held false l false :=
  held_foldl _ (fun _ _ => by simp (disch := decide)) _ _

/-! ### Header -/

@[simp ↓] theorem held_katDrop (l e : Bool) (s : State) (c : Nat) : (s.katDrop c).held false l e = s.held false l e := by
  simp (disch := decide) [State.katDrop]

@[simp ↓] theorem held_testsDrop (l e : Bool) (s : State) (p : Nat) : (s.testsDrop p).held false l e = s.held false l e := by
  unfold State.testsDrop
  split
  · simp
  · simp
  · simp
  · exact held_foldl _ (fun _ _ => by simp) _ _
  · rfl

@[simp ↓] theorem held_coreResume (e : Bool) (s : State) (c : Nat) : (s.coreResume c).held false false e = s.held false false e := by
  unfold State.coreResume
  dsimp only
  split <;> simp (disch := decide)

@[simp ↓] theorem held_unitOff (n : Bool) (s : State) (p : Nat) : (s.unitOff p).held n false false = s.held n false false := by
  simp (disch := decide) [State.unitOff]

@[simp ↓] theorem held_quiesceCheck (n l e : Bool) (s : State) (fn : Nat) : (s.quiesceCheck fn).held n l e = s.held n l e := by
  unfold State.quiesceCheck
  dsimp only
  split
  · rfl
  · rw [held_quiesce]
    exact held_foldl _ (fun _ _ => by simp) _ _

@[simp ↓] theorem held_unitOn (s : State) (p : Nat) : (s.unitOn p).held false false false = s.held false false false := by
  unfold State.unitOn
  split <;> simp

@[simp ↓] theorem held_suspendedReg (n l e : Bool) (s : State) : (s.suspendedReg).held n l e = s.held n l e := by
  simp (disch := decide) [State.suspendedReg]

@[simp ↓] theorem held_testAgain (l e : Bool) (s : State) (test p : Nat) : (s.testAgain test p).held false l e = s.held false l e := by
  unfold State.testAgain
  split
  · simp
  · exact held_foldl _ (fun _ _ => by simp) _ _
  · simp
  · rfl

@[simp ↓] theorem held_testsResume (l e : Bool) (s : State) (sel : Nat × Nat → Bool) : (s.testsResume sel).held false l e = s.held false l e := by
  unfold State.testsResume
  dsimp only
  rw [held_suspendedReg]
  exact held_foldl _ (fun _ _ => by simp) _ _

/-! ### Fetch -/

@[simp ↓] theorem held_cmdDoneRecord (n l : Bool) (s : State) (fn q : Nat) (c : Cmd) (st : Nat) : (s.cmdDoneRecord fn q c st).held n l false = s.held n l false := by
  simp (disch := decide) [State.cmdDoneRecord]

@[simp ↓] theorem held_stopCheck (n l e : Bool) (s : State) (fn : Nat) : (s.stopCheck fn).held n l e = s.held n l e := by
  unfold State.stopCheck
  dsimp only
  split
  · rfl
  · simp (disch := decide)

@[simp ↓] theorem held_cmdEnd (s : State) (q : Nat) (c : Cmd) (st : Nat) : (s.cmdEnd q c st).held false false false = s.held false false false := by
  unfold State.cmdEnd
  extract_lets fn x s₀
  have start : s₀.held false false false = s.held false false false := held_setCq ..
  rw [← start]
  have signal : (if c.inc = 0 then (st, s₀)
      else if st = St.OK then s₀.sigAdd c.sig c.inc
      else if c.errSignal = true ∧ s₀.ownsSig fn c.sig = true then (st, (s₀.sigAdd c.sig c.inc).2)
      else (st, s₀)).2.held false false false = s₀.held false false false := by
    split
    · rfl
    · split
      · simp
      · split <;> simp
  rw [← signal]
  generalize (if c.inc = 0 then (st, s₀) else _) = u
  simp (disch := decide)

@[simp ↓] theorem held_digestsDrop (n l e : Bool) (s : State) (fn : Nat) (sel : Digest → Bool) : (s.digestsDrop fn sel).held n l e = s.held n l e := by
  simp (disch := decide) [State.digestsDrop]

@[simp ↓] theorem held_cqFlush (s : State) (q : Nat) : (s.cqFlush q).held false false false = s.held false false false := by
  unfold State.cqFlush
  dsimp only
  rw [held_foldl _ (fun _ _ => by simp), held_digestsDrop, held_queueAbort]

/-! ### EvQueues -/

@[simp ↓] theorem held_eqReset (n l e : Bool) (s : State) (q : Nat) : (s.eqReset q).held n l e = s.held n l e := by
  simp (disch := decide) [State.eqReset]

/-! ### Reset -/

@[simp ↓] theorem held_coreClear (l e : Bool) (s : State) (c : Nat) : (s.coreClear c).held false l e = s.held false l e := by
  unfold State.coreClear
  dsimp only
  simp (disch := decide)

@[simp ↓] theorem held_corePageClear (n e : Bool) (s : State) (c : Nat) : (s.corePageClear c).held n false e = s.held n false e := by
  simp (disch := decide) [State.corePageClear]

@[simp ↓] theorem held_l2Drop (l e : Bool) (s : State) (k : Nat) : (s.l2Drop k).held false l e = s.held false l e := rfl

@[simp ↓] theorem held_arrReset (s : State) (c a : Nat) : (s.arrReset c a).held false false false = s.held false false false := by
  simp (disch := decide) [State.arrReset]

@[simp ↓] theorem held_engReset (s : State) (p : Nat) : (s.engReset p).held false false false = s.held false false false := by
  unfold State.engReset
  dsimp only
  split
  · simp
  · simp
  · simp
  · simp
  · simp
  · simp
  · rw [held_ite, held_wr _ _ _ _ _ _ _ (by decide), held_wr _ _ _ _ _ _ _ (by decide), ite_self, held_foldl _ (fun _ _ => by simp)]
    simp
  · simp
  · simp

@[simp ↓] theorem held_traceDrop (n l e : Bool) (s : State) (fn : Nat) : (s.traceDrop fn).held n l e = s.held n l e := by
  simp (disch := decide) [State.traceDrop]

@[simp ↓] theorem held_ctxReset (s : State) (p : Nat) : (s.ctxReset p).held false false false = s.held false false false := by
  unfold State.ctxReset
  dsimp only
  split
  · exact held_foldl _ (fun _ _ => by simp) _ _
  · exact held_foldl _ (fun _ _ => by simp) _ _
  · simp
  · simp
  · rfl

/-- The signals of a function zeroed. -/
def State.sigDrop (s : State) (fn : Nat) : State := { s with sig := s.sig.filter (fun e => !(s.ownsSig fn e.1)) }

/-- What RST_PART clears after the signals: the trace, and with a reset of the function its events. -/
def State.partEnd (s : State) (fn : Nat) : State :=
  if NMap.get false ((s.traceDrop fn).wr R.DBG_TRACE_CFG_EN (pDbg fn) 0).host.flr fn then ((s.traceDrop fn).wr R.DBG_TRACE_CFG_EN (pDbg fn) 0).ctxReset (pEvt fn)
  else (s.traceDrop fn).wr R.DBG_TRACE_CFG_EN (pDbg fn) 0

@[simp ↓] theorem held_partEnd (s : State) (fn : Nat) : (s.partEnd fn).held false false false = s.held false false false := by
  unfold State.partEnd
  split <;> simp (disch := decide)

/-- RST_PART stops its units, and then zeroes the signals. -/
theorem partReset_parts (s : State) (fn : Nat) : ∃ w : State, w.held false false false = s.held false false false ∧ s.partReset fn = (w.sigDrop fn).partEnd fn := by
  have engines (ps : List Nat) (s : State) : (ps.foldl State.engReset s).held false false false = s.held false false false :=
    held_foldl _ (fun _ _ => by simp) _ _
  have transfers (qs : List Nat) (s : State) :
      (qs.foldl (fun s q => s.dmaAbort (engCluster (q / 4)) (fun i _ => decide (i = q % 4))) s).held false false false = s.held false false false :=
    held_foldl _ (fun _ _ => by simp) _ _
  have queues (ks : List Nat) (b : Nat) (s : State) : (ks.foldl (fun s k => s.collReset (b + k)) s).held false false false = s.held false false false :=
    held_foldl _ (fun _ _ => by simp) _ _
  unfold State.partReset
  extract_lets s1 s2 s3 r s4 s5 s6
  refine ⟨s4, ?_, rfl⟩
  simp [s4, s3, s2, s1, engines, transfers, queues]

@[simp ↓] theorem held_partReset (s : State) (fn : Nat) : (s.partReset fn).held false false false = s.held false false false := by
  obtain ⟨w, kept, eq⟩ := partReset_parts s fn
  rw [eq, held_partEnd]
  exact kept

@[simp ↓] theorem held_rstNote (n l e : Bool) (s : State) (level st : Nat) : (s.rstNote level st).held n l e = s.held n l e := by
  simp (disch := decide) [State.rstNote]

@[simp ↓] theorem held_raiseC1 (n l : Bool) (s : State) (page k detail : Nat) : (s.raiseC1 page k detail).held n l false = s.held n l false := by
  simp (disch := decide) [State.raiseC1]

@[simp ↓] theorem held_unitRetire (n l : Bool) (s : State) (p : Nat) : (s.unitRetire p).held n l false = s.held n l false := by
  unfold State.unitRetire
  split
  · simp
  · split <;> simp

@[simp ↓] theorem held_powerCycleNote (n l : Bool) (s : State) : (s.powerCycleNote).held n l false = s.held n l false := by
  simp (disch := decide) [State.powerCycleNote]

@[simp ↓] theorem held_powerCyclePin (n l e : Bool) (s : State) : s.powerCyclePin.held n l e = s.held n l e := by
  simp [State.powerCyclePin]

end Sys2Proof.Machine
end

section
/-!
SUPPORT. Host writes of a page header and of an MSI-X table, as REGISTER_WRITE performs them.
-/

namespace Sys2Proof.Machine

/-! ### Writes of the header and of the MSI-X table (R11, R22, R599–R602) -/

/-- A block's own registers lie beyond the common header (R12). -/
theorem fieldsOf_beyond (blk : Nat) : ∀ f ∈ fieldsOf blk, 0x800 ≤ f.pos := by
  unfold fieldsOf
  split <;> decide +kernel

/-- The fields of a word of the header are those of the header alone. -/
theorem fieldsIn_header (p off : Nat) (h : off + 4 < 0x100) :
    fieldsIn p off 4 = fieldsHdr.filter (fun f => decide (8 * off ≤ f.pos) && decide (f.pos + f.width ≤ 8 * (off + 4))) := by
  unfold fieldsIn fieldsOfPage
  rw [List.filter_append, List.append_right_eq_self, List.filter_eq_nil_iff]
  intro f hf
  have := fieldsOf_beyond _ f hf
  simp only [Bool.and_eq_true, decide_eq_true_eq, not_and]
  omega

/-- No register at one of these offsets is wider than 32 bits. -/
theorem wideBase_header (blk : Nat) : ∀ off ∈ [0x000, 0x024, 0x028, 0x034], wideBase blk off = none := by
  simp only [wideBase, wideRegs]
  split <;> split <;> decide

/-- A 32-bit write of a header register that is plain writes the fields of its word. -/
theorem registerWrite_header {s : State} {fn p off v : Nat} (env : WrEnv) (hw : s.mayWrite fn p = true) (hp : p < 0xC00)
    (hoff : off ∈ [0x000, 0x024, 0x028, 0x034]) :
    exec (.registerWrite fn p off 32 v env) s = .next (s.putPlain p off 4 (v % 2 ^ 32)) := by
  have ok : accessOk off 32 = true := by revert hoff off; decide
  have table : ¬(0xC00 ≤ p ∧ p ≤ 0xC03) := by omega
  have word : s.writeReg fn p off 4 (v % 2 ^ 32) env = s.putPlain p off 4 (v % 2 ^ 32) := by
    fin_cases hoff <;> rfl
  change execRegisterWrite fn p off 32 v env s = _
  simp [execRegisterWrite, ok, table, hw, State.writePage, State.write32, wideBase_header _ _ hoff, word, -Nat.reducePow]

/-- A word of the header that holds one field of code RW takes its value; the reserved bits are ignored. -/
theorem putPlain_header {s : State} {p off v : Nat} {f : Fld} (hoff : off + 4 < 0x100)
    (hf : fieldsHdr.filter (fun f => decide (8 * off ≤ f.pos) && decide (f.pos + f.width ≤ 8 * (off + 4))) = [f])
    (hpos : f.pos = 8 * off) (hblk : f.blk = 0) (hacc : f.acc = .rw) (hw : 0 < f.width ∧ f.width ≤ 32) (hany : fldRanges.find? (fun e => decide (e.1.id = f.id)) = none)
    (hv : validTab.find? (fun e => [f].contains e.1) = none) : s.putPlain p off 4 (v % 2 ^ 32) = s.wr f p v := by
  have value : f.ofWrite off (v % 2 ^ 32) % 2 ^ f.width = v % 2 ^ f.width := by
    have le : 2 ^ f.width ∣ 2 ^ 32 := pow_dvd_pow 2 hw.2
    have top : f.pos + f.width - 1 - 8 * off + 1 = f.width := by omega
    simp only [Fld.ofWrite, bits, hpos]
    rw [show 8 * off + f.width - 1 - 8 * off + 1 - (8 * off - 8 * off) = f.width by omega]
    simp [Nat.mod_mod_of_dvd _ le, -Nat.reducePow]
  simp only [State.putPlain, fieldsIn_header p off hoff, State.putReg, hf, hv, List.foldl_cons, List.foldl_nil, State.putFld, State.regInst, hblk,
    hacc, Fld.takes, hany, if_true, State.wr, value]

/-- A write of ID changes nothing (R12). -/
theorem putPlain_id (s : State) (p v : Nat) : s.putPlain p 0x000 4 v = s := by
  have fields : fieldsIn p 0x000 4 = [R.HDR_ID_BLOCK_TYPE, R.HDR_ID_INSTANCE, R.HDR_ID_VERSION] :=
    (fieldsIn_header p 0 (by decide)).trans (by decide)
  have none : validTab.find? (fun e => [R.HDR_ID_BLOCK_TYPE, R.HDR_ID_INSTANCE, R.HDR_ID_VERSION].contains e.1) = none := by decide
  simp only [State.putPlain, State.putReg, fields, none]
  rfl

/-- The clauses on which writes a page takes and what they leave. -/
theorem registerWrite_words {s : State} {fn p : Nat} (v : Nat) (env : WrEnv) (hw : s.mayWrite fn p = true) (hp : p < 0xC00) :
    (∀ r ∈ ([(0x024, R.HDR_ERR_MASK_MASK), (0x028, R.HDR_ERR_SEVERITY_SEV), (0x034, R.HDR_EVT_QUEUE_QUEUE)] : List (Nat × Fld)),
      exec (.registerWrite fn p r.1 32 v env) s = .next (s.wr r.2 p v))
    ∧ exec (.registerWrite fn p 0x000 32 v env) s = .next s := by
  refine ⟨?_, (registerWrite_header env hw hp (by decide)).trans (by rw [putPlain_id])⟩
  have mask := putPlain_header (s := s) (p := p) (v := v) (f := R.HDR_ERR_MASK_MASK) (off := 0x024) (by decide) (by decide) rfl rfl rfl (by decide)
    (by decide) (by decide)
  have severity := putPlain_header (s := s) (p := p) (v := v) (f := R.HDR_ERR_SEVERITY_SEV) (off := 0x028) (by decide) (by decide) rfl rfl rfl (by decide)
    (by decide) (by decide)
  have queue := putPlain_header (s := s) (p := p) (v := v) (f := R.HDR_EVT_QUEUE_QUEUE) (off := 0x034) (by decide) (by decide) rfl rfl rfl (by decide)
    (by decide) (by decide)
  intro r hr
  fin_cases hr
  · exact (registerWrite_header env hw hp (by decide)).trans (by rw [mask])
  · exact (registerWrite_header env hw hp (by decide)).trans (by rw [severity])
  · exact (registerWrite_header env hw hp (by decide)).trans (by rw [queue])

/-- A page that does not take a write leaves everything as it is. -/
theorem registerWrite_barred {s : State} {fn p : Nat} (off width v : Nat) (env : WrEnv) (hp : p < 0xC00) (hw : s.mayWrite fn p = false) :
    exec (.registerWrite fn p off width v env) s = .next s := by
  have table : ¬(0xC00 ≤ p ∧ p ≤ 0xC03) := by omega
  change execRegisterWrite fn p off width v env s = _
  simp [execRegisterWrite, table, hw]

/-- So does a write of a wrong width or alignment. -/
theorem registerWrite_misaligned (s : State) (fn p : Nat) {off width : Nat} (v : Nat) (env : WrEnv) (h : accessOk off width = false) :
    exec (.registerWrite fn p off width v env) s = .next s := by
  change execRegisterWrite fn p off width v env s = _
  simp [execRegisterWrite, h]

/-- A dword of the MSI-X table takes its value; of the vector control only the mask bit. -/
theorem msix_msixWrite (s : State) (fn i v : Nat) :
    PMap.get 0 (s.msixWrite fn i v).host.msix (fn, i) = if i % 4 = 3 then v % 2 else v % 2 ^ 32 := by
  unfold State.msixWrite
  generalize (if i % 4 = 3 then v % 2 else v % 2 ^ 32) = w
  dsimp only
  split <;> simp

theorem registerWrite_msix {s : State} {fn i : Nat} (v : Nat) (env : WrEnv) (ht : s.tableOn fn = true) (hi : i < 4096) :
    ∃ t, exec (.registerWrite fn (0xC00 + i / 1024) (4 * (i % 1024)) 32 v env) s = .next t
      ∧ PMap.get 0 t.host.msix (fn, i) = if i % 4 = 3 then v % 2 else v % 2 ^ 32 := by
  have ok : accessOk (4 * (i % 1024)) 32 = true := by simp [accessOk]; omega
  have table : 0xC00 ≤ 0xC00 + i / 1024 ∧ 0xC00 + i / 1024 ≤ 0xC03 := by omega
  have dword : 1024 * (0xC00 + i / 1024 - 0xC00) + 4 * (i % 1024) / 4 = i := by omega
  refine ⟨s.msixWrite fn i (v % 2 ^ 32), ?_, ?_⟩
  · change execRegisterWrite fn _ _ 32 v env s = _
    simp only [execRegisterWrite, ok, ht, dword, if_pos table]
    rfl
  · rw [msix_msixWrite]
    split
    · omega
    · exact Nat.mod_mod ..

end Sys2Proof.Machine
end

section
/-!
SUPPORT. CTRL: enabling, quiescing and disabling a page.
-/

namespace Sys2Proof.Machine

/-! ### What the bits of CTRL leave of a page's service (R13, R14) -/

section
variable (l e : Bool) (s : State)

/-- QUIESCE becomes 1: what else follows shows in no view. -/
theorem held_quiesceSet (p : Nat) : (s.quiesceSet p).held false l e = (s.wr R.HDR_CTRL_QUIESCE p 1).held false l e := by
  rw [← held_testsDrop l e (s.wr R.HDR_CTRL_QUIESCE p 1) p]
  unfold State.quiesceSet
  dsimp only
  split
  · simp
  · split
    · rfl
    · simp (disch := decide)
    · simp (disch := decide)
  · rfl

/-- QUIESCE and QUIESCED become 0: what else follows shows in no view. -/
theorem held_quiesceClear (p : Nat) :
    (s.quiesceClear p).held false false e = ((s.wr R.HDR_CTRL_QUIESCE p 0).wr R.HDR_STATUS_QUIESCED p 0).held false false e := by
  unfold State.quiesceClear
  dsimp only
  split
  · split <;> simp
  · rfl

theorem held_selftestWrite (p : Nat) (b : Bool) : (s.selftestWrite p b).held false l e = (s.wrB R.HDR_CTRL_SELFTEST_ALLOW p b).held false l e := by
  unfold State.selftestWrite
  dsimp only
  split
  · simp
  · split <;> simp

theorem held_enableOff (n : Bool) (p : Nat) : (s.enableOff p).held n false false = (s.wr R.HDR_CTRL_ENABLE p 0).held n false false :=
  held_unitOff ..

end

/-- QUIESCE commands that complete write no register. -/
theorem quiesceCheck_regs (s : State) (fn : Nat) : (s.quiesceCheck fn).regs = s.regs := by
  have results (xs : List (Nat × Nat)) (s : State) : (xs.foldl (fun s e => s.cmdResult e.1 e.2 St.OK) s).regs = s.regs := by
    induction xs generalizing s with
    | nil => rfl
    | cons x xs ih => exact (ih _).trans (by simp [State.cmdResult, State.cmdMap])
  unfold State.quiesceCheck
  dsimp only
  split
  · rfl
  · exact results ..

/-- A one-bit field reads what was written. -/
theorem flag_wr_self (s : State) (f : Fld) (i v : Nat) (hw : f.width = 1) : (s.wr f i v).flag f i = decide (v % 2 = 1) := by
  simp only [State.flag, State.rg_wr_self, hw, bne]
  rcases Nat.mod_two_eq_zero_or_one v with h | h <;> simp [h]

theorem flag_wrB_self (s : State) (f : Fld) (i : Nat) (b : Bool) (hw : f.width = 1) : (s.wrB f i b).flag f i = b := by
  rw [State.wrB_eq, flag_wr_self _ _ _ _ hw]
  cases b <;> rfl

theorem flag_wr_fld (s : State) {f g : Fld} (i j v : Nat) (h : g.id ≠ f.id) : (s.wr f i v).flag g j = s.flag g j := by
  simp only [State.flag, State.rg_wr_fld s i j v h]

section
variable {s : State} {fn p : Nat}

/-- ENABLE is written 1 with no disable waiting. -/
theorem enabled_enableSet (hd : s.disabling = []) : (s.enableSet p).enabled p = true := by
  unfold State.enableSet
  simp only [hd, List.find?_nil]
  split
  · assumption
  · refine (held_flag (held_unitOn _ p) _ _ (by decide)).trans ?_
    have set : (s.wr R.HDR_CTRL_ENABLE p 1).flag R.HDR_CTRL_ENABLE p = true := flag_wr_self _ _ _ _ rfl
    split
    · exact set
    · refine (held_flag (held_quiesceClear false _ p) _ _ (by decide)).trans ?_
      rw [flag_wr_fld _ _ _ _ (by decide), flag_wr_fld _ _ _ _ (by decide), set]

/-- ENABLE is written 0 on a quiesced unit: it clears at once. -/
theorem enableClear_quiesced (hd : s.disabling = []) (he : s.enabled p = true) (hq : s.quiesced p = true) : s.enableClear p = s.enableOff p := by
  simp [State.enableClear, hd, he, hq]

theorem enabled_enableOff : (s.enableOff p).enabled p = false :=
  (held_flag (held_enableOff s false p) _ _ (by decide)).trans (flag_wr_self _ _ _ _ rfl)

/-- Otherwise the unit quiesces it first, and remembers whether software had. -/
theorem enableClear_waits (hd : s.disabling = []) (he : s.enabled p = true) (hq : s.quiesced p = false) :
    (s.enableClear p).quiescing p = true ∧ (s.enableClear p).enabled p = true ∧ (s.enableClear p).disabling = [(p, s.quiescing p)] := by
  have eq : s.enableClear p = { s with disabling := [(p, s.quiescing p)] }.quiesceSet p := by
    simp [State.enableClear, hd, he, hq, NMap.put, Map.put]
  have view := held_quiesceSet false false { s with disabling := [(p, s.quiescing p)] } p
  rw [eq]
  refine ⟨(held_flag view _ _ (by decide)).trans (flag_wr_self _ _ _ _ rfl), (held_flag view _ _ (by decide)).trans ?_, held_disabling view⟩
  exact (flag_wr_fld _ _ _ _ (by decide)).trans he

/-- Software sets and releases QUIESCE with no disable waiting. -/
theorem quiescing_quiesceWrite (hd : s.disabling = []) : (s.quiesceWrite p true).quiescing p = true := by
  unfold State.quiesceWrite
  simp only [hd, List.any_nil, Bool.false_eq_true, if_false, if_true]
  split
  · assumption
  · exact (held_flag (held_quiesceSet false false s p) _ _ (by decide)).trans (flag_wr_self _ _ _ _ rfl)

theorem released_quiesceWrite (hd : s.disabling = []) :
    (s.quiesceWrite p false).quiescing p = false ∧ (s.quiesceWrite p false).quiesced p = false := by
  have eq : s.quiesceWrite p false = s.quiesceClear p := by simp [State.quiesceWrite, hd]
  have view := held_quiesceClear false s p
  rw [eq]
  refine ⟨(held_flag view _ _ (by decide)).trans ?_, (held_flag view _ _ (by decide)).trans (flag_wr_self _ _ _ _ rfl)⟩
  exact (flag_wr_fld _ _ _ _ (by decide)).trans (flag_wr_self _ _ _ _ rfl)

theorem flag_selftestWrite (b : Bool) : (s.selftestWrite p b).flag R.HDR_CTRL_SELFTEST_ALLOW p = b :=
  (held_flag (held_selftestWrite false false s p b) _ _ (by decide)).trans (flag_wrB_self _ _ _ _ rfl)

/-- The unit has drained (R13): QUIESCED, and a core that ran counts as preempted. -/
def State.stilled (s : State) (p : Nat) : State :=
  let s := s.wr R.HDR_STATUS_QUIESCED p 1
  if blkOf p = 0x60 ∧ s.runState (p - 0x200) = 1 then (s.setRun (p - 0x200) 2).cnt p Cn.CORE_PREEMPTIONS else s

theorem held_stilled (n l e : Bool) : (s.stilled p).held n l e = (s.wr R.HDR_STATUS_QUIESCED p 1).held n l e := by
  simp [State.stilled]

theorem runState_stilled (hp : blkOf p = 0x60) (hr : s.runState (p - 0x200) = 1) : (s.stilled p).runState (p - 0x200) = 2 := by
  have run : (s.wr R.HDR_STATUS_QUIESCED p 1).runState (p - 0x200) = 1 := (State.rg_wr_fld _ _ _ _ (by decide)).trans hr
  simp only [State.stilled, hp, run, and_self, if_true]
  exact (State.rg_cnt _ _ _ _ _ _ (by decide)).trans (State.rg_wr_self ..)

/-- A disable that waited for the unit takes effect (R13). -/
def State.disableEnd (s : State) (p : Nat) : State :=
  match s.disabling.find? (fun e => decide (e.1 = p)) with
  | some (_, soft) =>
    let s := { s with disabling := Map.del p s.disabling }
    (if soft then s else s.wr R.HDR_CTRL_QUIESCE p 0).enableOff p
  | none => s

theorem disableEnd_none (h : s.disabling = []) : s.disableEnd p = s := by
  simp [State.disableEnd, h]

theorem disableEnd_one {soft : Bool} (h : s.disabling = [(p, soft)]) :
    s.disableEnd p = (if soft then { s with disabling := [] } else { s with disabling := [] }.wr R.HDR_CTRL_QUIESCE p 0).enableOff p := by
  simp [State.disableEnd, h, Map.del]

/-- QUIESCE_DONE in its three steps. -/
theorem quiesceDone_eq (hq : s.quiescing p = true) (hn : s.quiesced p = false) (hr : s.drained p = true) :
    s.quiesceDone p = ((s.stilled p).disableEnd p).quiesceCheck (((s.stilled p).disableEnd p).owner p) := by
  unfold State.quiesceDone
  simp only [hq, hn, hr, Bool.true_eq_false, Bool.false_eq_true, or_self, if_false]
  rfl

theorem disabling_stilled : (s.stilled p).disabling = s.disabling :=
  held_disabling (s := s.wr R.HDR_STATUS_QUIESCED p 1) (held_stilled false false false)

/-- QUIESCED with no disable waiting. -/
theorem quiesceDone_alone (hq : s.quiescing p = true) (hn : s.quiesced p = false) (hr : s.drained p = true) (hd : s.disabling = []) :
    (s.quiesceDone p).quiesced p = true ∧ (s.quiesceDone p).quiescing p = true
      ∧ (blkOf p = 0x60 → s.runState (p - 0x200) = 1 → (s.quiesceDone p).runState (p - 0x200) = 2) := by
  have regs (f : Fld) (i : Nat) : (s.quiesceDone p).rg f i = (s.stilled p).rg f i := by
    rw [quiesceDone_eq hq hn hr, disableEnd_none (disabling_stilled.trans hd)]
    exact State.rg_congr (quiesceCheck_regs ..) f i
  have view := held_stilled (s := s) (p := p) false false false
  refine ⟨?_, ?_, fun hp hrun => (regs ..).trans (runState_stilled hp hrun)⟩
  · simp only [State.quiesced, State.flag, regs]
    exact (held_flag view R.HDR_STATUS_QUIESCED p (by decide)).trans (flag_wr_self _ _ _ _ rfl)
  · simp only [State.quiescing, State.flag, regs]
    exact ((held_flag view R.HDR_CTRL_QUIESCE p (by decide)).trans (flag_wr_fld _ _ _ _ (by decide))).trans hq

/-- QUIESCED with a disable waiting: ENABLE clears, and QUIESCE with it unless software had set it. -/
theorem quiesceDone_disables {soft : Bool} (hq : s.quiescing p = true) (hn : s.quiesced p = false) (hr : s.drained p = true)
    (hd : s.disabling = [(p, soft)]) :
    (s.quiesceDone p).quiesced p = true ∧ (s.quiesceDone p).enabled p = false ∧ (s.quiesceDone p).quiescing p = soft
      ∧ (s.quiesceDone p).disabling = [] := by
  have still := held_stilled (s := s) (p := p) false false false
  have sets : (s.stilled p).quiesced p = true := (held_flag still _ _ (by decide)).trans (flag_wr_self _ _ _ _ rfl)
  have asks : (s.stilled p).quiescing p = true := ((held_flag still _ _ (by decide)).trans (flag_wr_fld _ _ _ _ (by decide))).trans hq
  rw [quiesceDone_eq hq hn hr, disableEnd_one (disabling_stilled.trans hd)]
  generalize s.stilled p = u at sets asks
  have view (v : State) (fn : Nat) : ((v.enableOff p).quiesceCheck fn).held false false false = (v.wr R.HDR_CTRL_ENABLE p 0).held false false false :=
    (held_quiesceCheck ..).trans (held_enableOff ..)
  refine ⟨(held_flag (view ..) _ _ (by decide)).trans ?_, (held_flag (view ..) _ _ (by decide)).trans (flag_wr_self _ _ _ _ rfl),
    (held_flag (view ..) _ _ (by decide)).trans ?_, (held_disabling (view ..)).trans ?_⟩
  · rw [flag_wr_fld _ _ _ _ (by decide)]
    cases soft
    · exact (flag_wr_fld _ _ _ _ (by decide)).trans sets
    · exact sets
  · rw [flag_wr_fld _ _ _ _ (by decide)]
    cases soft
    · exact flag_wr_self _ _ _ _ rfl
    · exact asks
  · cases soft <;> rfl

/-- The clauses on CTRL on a page that takes the write. -/
theorem ctrl_taken (ht : s.ctrlTakes fn p = true) :
    (s.disabling = [] → ∃ t, exec (.ctrlEnableSet fn p) s = .next t ∧ t.enabled p = true)
    ∧ (s.disabling = [] → s.enabled p = true → s.quiesced p = true → ∃ t, exec (.ctrlEnableClear fn p) s = .next t ∧ t.enabled p = false)
    ∧ (s.disabling = [] → s.enabled p = true → s.quiesced p = false → ∃ t, exec (.ctrlEnableClear fn p) s = .next t ∧ t.quiescing p = true
        ∧ t.enabled p = true ∧ t.disabling = [(p, s.quiescing p)])
    ∧ (s.disabling = [] → (∃ t, exec (.ctrlQuiesce fn p true) s = .next t ∧ t.quiescing p = true)
        ∧ ∃ t, exec (.ctrlQuiesce fn p false) s = .next t ∧ t.quiescing p = false ∧ t.quiesced p = false)
    ∧ (∀ b, ∃ t, exec (.ctrlSelftestAllow fn p b) s = .next t ∧ t.flag R.HDR_CTRL_SELFTEST_ALLOW p = b) := by
  have set : exec (.ctrlEnableSet fn p) s = .next (s.enableSet p) := by
    change execCtrlEnableSet fn p s = _
    rw [execCtrlEnableSet, ht, if_pos rfl]
  have clear : exec (.ctrlEnableClear fn p) s = .next (s.enableClear p) := by
    change execCtrlEnableClear fn p s = _
    rw [execCtrlEnableClear, ht, if_pos rfl]
  have quiesce (b : Bool) : exec (.ctrlQuiesce fn p b) s = .next (s.quiesceWrite p b) := by
    change execCtrlQuiesce fn p b s = _
    rw [execCtrlQuiesce, ht, if_neg (by decide)]
  have allow (b : Bool) : exec (.ctrlSelftestAllow fn p b) s = .next (s.selftestWrite p b) := by
    change execCtrlSelftestAllow fn p b s = _
    rw [execCtrlSelftestAllow, ht, if_neg (by decide)]
  refine ⟨fun hd => ⟨_, set, enabled_enableSet hd⟩, fun hd he hq => ⟨_, clear, ?_⟩, fun hd he hq => ⟨_, clear, enableClear_waits hd he hq⟩,
    fun hd => ⟨⟨_, quiesce true, quiescing_quiesceWrite hd⟩, _, quiesce false, released_quiesceWrite hd⟩, fun b => ⟨_, allow b, flag_selftestWrite b⟩⟩
  rw [enableClear_quiesced hd he hq]
  exact enabled_enableOff

/-- On any other page a write of CTRL changes nothing. -/
theorem ctrl_barred (ht : s.ctrlTakes fn p = false) (b : Bool) :
    ∀ c ∈ ([.ctrlEnableSet fn p, .ctrlEnableClear fn p, .ctrlQuiesce fn p b, .ctrlSelftestAllow fn p b] : List Instr), exec c s = .next s := by
  intro c hc
  fin_cases hc
  · change execCtrlEnableSet fn p s = _
    rw [execCtrlEnableSet, ht, if_neg Bool.false_ne_true]
  · change execCtrlEnableClear fn p s = _
    rw [execCtrlEnableClear, ht, if_neg Bool.false_ne_true]
  · change execCtrlQuiesce fn p b s = _
    rw [execCtrlQuiesce, ht, if_pos rfl]
  · change execCtrlSelftestAllow fn p b s = _
    rw [execCtrlSelftestAllow, ht, if_pos rfl]

end

end Sys2Proof.Machine
end

section
/-!
SUPPORT. ERR_STATUS: a source that is raised is recorded, and stays so.
-/

namespace Sys2Proof.Machine

/-! ### Error sources stay recorded (R15, R16) -/

theorem bit_setBit_self (v k : Nat) : bit (setBit v k) k = true := by
  unfold setBit
  split
  · assumption
  · next h =>
    simp only [bit, beq_iff_eq] at h ⊢
    rw [Nat.add_div_right _ (by positivity)]
    omega

/-- Setting a bit that is 0 leaves what lies above it. -/
theorem div_setBit (v k : Nat) (h : bit v k = false) : (v + 2 ^ k) / 2 ^ (k + 1) = v / 2 ^ (k + 1) := by
  simp only [bit, beq_eq_false_iff_ne, ne_eq] at h
  rw [pow_succ, ← Nat.div_div_eq_div_mul, ← Nat.div_div_eq_div_mul, Nat.add_div_right _ (by positivity)]
  omega

/-- A bit that is 1 stays 1 when another is set. -/
theorem bit_setBit_of_bit {v n : Nat} (k : Nat) (h : bit v n = true) : bit (setBit v k) n = true := by
  unfold setBit
  split
  · exact h
  · next hk =>
    rw [Bool.not_eq_true] at hk
    rcases lt_trichotomy n k with hn | rfl | hn
    · obtain ⟨d, rfl⟩ := Nat.exists_eq_add_of_lt hn
      simp only [bit, beq_iff_eq] at h ⊢
      rw [show 2 ^ (n + d + 1) = 2 ^ n * (2 * 2 ^ d) by ring, Nat.add_mul_div_left _ _ (by positivity)]
      omega
    · rw [h] at hk
      cases hk
    · obtain ⟨d, rfl⟩ := Nat.exists_eq_add_of_lt hn
      simp only [bit] at h ⊢
      rw [show 2 ^ (k + d + 1) = 2 ^ (k + 1) * 2 ^ d by ring, ← Nat.div_div_eq_div_mul] at h ⊢
      rwa [div_setBit v k hk]

theorem bit_mod (v : Nat) {w n : Nat} (h : n < w) : bit (v % 2 ^ w) n = bit v n := by
  obtain ⟨d, rfl⟩ := Nat.exists_eq_add_of_lt h
  simp only [bit]
  rw [show 2 ^ (n + d + 1) = 2 ^ n * (2 * 2 ^ d) by ring, Nat.mod_mul_right_div_self, Nat.mod_mul_right_mod]

section
variable {s : State} {q b : Nat}

/-- What ERR_STATUS of a page reads where a source has been recorded. -/
theorem errStatus_raise1 (s : State) (p k d : Nat) (inj addr : Bool) (attr q : Nat) :
    (s.raise1 p k d inj addr attr).1.rg R.HDR_ERR_STATUS_ERR q
      = if q = p then setBit (s.rg R.HDR_ERR_STATUS_ERR p) k % 2 ^ 32 else s.rg R.HDR_ERR_STATUS_ERR q := by
  rw [held_rg (held_raise1_errs s true true true p k d inj addr attr) _ _ (by decide), State.rg_wr]
  simp [R.HDR_ERR_STATUS_ERR]

theorem recorded_raise1 (p k d : Nat) (inj addr : Bool) (attr : Nat) (hb : b < 32) (h : s.recorded q b) :
    (s.raise1 p k d inj addr attr).1.recorded q b := by
  unfold State.recorded at h ⊢
  rw [errStatus_raise1]
  split
  · next hq => subst hq; rw [bit_mod _ hb]; exact bit_setBit_of_bit k h
  · exact h

theorem recorded_raiseAll (k : Nat) (xs : List Src) (hb : b < 32) (h : s.recorded q b) : (s.raiseAll k xs).recorded q b := by
  induction k generalizing s xs with
  | zero => cases xs <;> exact h
  | succ k ih =>
    cases xs with
    | nil => exact h
    | cons x xs => exact ih _ (recorded_raise1 _ _ _ _ _ _ hb h)

theorem recorded_raiseAt (p k d : Nat) (inj addr : Bool) (attr : Nat) (hb : b < 32) (h : s.recorded q b) :
    (s.raiseAt p k d inj addr attr).recorded q b :=
  recorded_raiseAll _ _ hb (recorded_raise1 _ _ _ _ _ _ hb h)

/-- A source that is raised is recorded. -/
theorem recorded_raiseAt_self (s : State) (p d : Nat) (inj addr : Bool) (attr : Nat) (hb : b < 32) : (s.raiseAt p b d inj addr attr).recorded p b := by
  have first : (s.raise1 p b d inj addr attr).1.recorded p b := by
    unfold State.recorded
    rw [errStatus_raise1, if_pos rfl, bit_mod _ hb, bit_setBit_self]
  exact recorded_raiseAll _ _ hb first

theorem recorded_raise (p k d : Nat) (hb : b < 32) (h : s.recorded q b) : (s.raise p k d).recorded q b := recorded_raiseAt _ _ _ _ _ _ hb h

theorem recorded_raise_self (s : State) (p d : Nat) (hb : b < 32) : (s.raise p b d).recorded p b := recorded_raiseAt_self _ _ _ _ _ _ hb

/-- ERR_INJECT records each of the sources named that the block defines. -/
theorem recorded_errInject {p mask : Nat} (hb : b < 32) (h : bit (mask &&& srcMask (blkOf p)) b = true) : (s.errInject p mask).recorded p b := by
  have keep (xs : List Nat) (s : State) (hs : s.recorded p b) : (xs.foldl (fun s n => s.raiseAt p n 0 true true 0) s).recorded p b := by
    induction xs generalizing s with
    | nil => exact hs
    | cons x xs ih => exact ih _ (recorded_raiseAt _ _ _ _ _ _ hb hs)
  have all (xs : List Nat) (s : State) (hx : b ∈ xs) : (xs.foldl (fun s n => s.raiseAt p n 0 true true 0) s).recorded p b := by
    induction xs generalizing s with
    | nil => cases hx
    | cons x xs ih =>
      rcases List.mem_cons.mp hx with rfl | hx
      · exact keep xs _ (recorded_raiseAt_self _ _ _ _ _ _ hb)
      · exact ih _ hx
  exact all _ _ (List.mem_filter.mpr ⟨List.mem_range.mpr hb, h⟩)

end

end Sys2Proof.Machine
end

section
/-!
PROOF. Writes of the page header (O22).
-/

namespace Sys2Proof.Machine
theorem fldVal_cntCount (s : State) (p : Nat) {n : Nat} (hn : n < 4) : s.fldVal p (cntCount n) = s.rg (cntCount n) p := by
  have ids : ∀ n < 4, (cntCount n).id ∉ [R.HDR_CAP0_CAP.id, R.HDR_CAP1_CAP.id, R.KPR_KSTATE_RESTARTS.id, R.DBG_VIS_CLOSED.id, R.CORE_RNG_DIGEST_CRC.id,
      R.MEM_WCB_STATUS_FILL.id, R.MEM_FRAME_CNT_READS.id, R.MEM_FRAME_CNT_WRITES.id, R.FAR_FRAME_CNT_ACCESSES.id, R.RTE_EXC_DATA_ENTRY.id,
      R.RTE_PATCH_DATA_ENTRY.id, R.COL_GRP_DATA_ENTRY.id, R.COL_GRP_ACTIVE_ENTRY.id, R.LOG_RMAP_DATA_ENTRY.id, R.PWR_EN_DATA_UJ.id,
      R.PWR_MARGIN_SLACK.id, R.PWR_MARGIN_LOW.id] := by decide
  have own := ids n hn
  simp only [List.mem_cons, List.not_mem_nil, or_false, not_or] at own
  have acc : (cntCount n).acc ≠ .wo := by simp [cntCount]
  have blk : (cntCount n).blk = 0 := rfl
  simp [State.fldVal, own, acc, blk, State.regInst]

theorem pageVal_cntCount (s : State) (p : Nat) {n : Nat} (hn : n < 4) : s.pageVal p (0x060 + 8 * n) 4 = s.rg (cntCount n) p % 2 ^ 32 := by
  have low : fieldsAt p (0x060 + 8 * n) 4 = [cntCount n] := by
    have header : ∀ n < 4, fieldsHdr.filter (fun f => decide (f.pos < 8 * (0x060 + 8 * n + 4)) && decide (8 * (0x060 + 8 * n) < f.pos + f.width))
        = [cntCount n] := by decide
    rw [fieldsAt, fieldsOfPage, List.filter_append, header n hn, List.append_right_eq_self, List.filter_eq_nil_iff]
    intro f hf
    have := fieldsOf_beyond _ f hf
    simp only [Bool.and_eq_true, decide_eq_true_eq, not_and]
    omega
  have start : (cntCount n).pos = 8 * (0x060 + 8 * n) := rfl
  simp [State.pageVal, low, start, fldVal_cntCount s p hn, -Nat.reducePow]

/-- A 32-bit read of the low half of a counter latches the high half (R22). -/
theorem read32_cntCount (s : State) (p : Nat) {n : Nat} (hn : n < 4) :
    s.read32 p (0x060 + 8 * n) = (s.rg (cntCount n) p % 2 ^ 32,
      { s with latch := PMap.put (p, 2 * (0x060 + 8 * n) + 1) (s.rg (cntCount n) p / 2 ^ 32) s.latch }) := by
  have half : ∀ n < 4, cntHalf (0x060 + 8 * n) = some (n, false) := by decide
  simp only [State.read32, half n hn, pageVal_cntCount s p hn]
  rfl

theorem ofBytes_lt (bs : List Nat) : ofBytes bs < 256 ^ bs.length := by
  induction bs with
  | nil => decide
  | cons b bs ih =>
    rw [ofBytes, List.length_cons, pow_succ]
    omega

theorem cfgDigest_lt (s : State) (p : Nat) : s.cfgDigest p < 2 ^ 64 := by
  unfold State.cfgDigest
  split
  · positivity
  · refine lt_of_lt_of_le (ofBytes_lt _) ?_
    rw [List.length_take, sha384_length]
    decide

/-- CFG_DIGEST follows the configuration registers, and nothing of the cores or of memory does (R23). -/
theorem digestUpdate_eq (s : State) (p : Nat) : (s.digestUpdate p).rg R.HDR_CFG_DIGEST_DIGEST p = s.cfgDigest p
    ∧ s.sameMem (s.digestUpdate p) ∧ ∀ c, (s.digestUpdate p).core c = s.core c := by
  unfold State.digestUpdate
  dsimp only
  split
  · next h => exact ⟨h.symm, fun _ => rfl, fun _ => rfl⟩
  · refine ⟨?_, fun _ => rfl, fun _ => rfl⟩
    rw [State.rg_wr_fld _ _ _ _ (by decide)]
    exact (State.rg_wr_self ..).trans (Nat.mod_eq_of_lt (cfgDigest_lt s p))

/-- The master's count reaches every clock domain (R52). -/
theorem get_tbcCopies (t d : Nat) (hd : d < 28) : NMap.get 0 ((List.range 28).map (fun d => (d, t))) d = t := by
  interval_cases d <;> rfl

/-- With `links` the view shows the ports' states. -/
theorem held_lnkState {n e : Bool} {s t : State} (h : t.held n true e = s.held n true e) (x : Nat) : t.lnkState x = s.lnkState x := by
  have shown : heldId n true e R.LNK_PORT_STATUS_STATE.id = true := (by decide : ∀ n e, heldId n true e R.LNK_PORT_STATUS_STATE.id = true) n e
  exact held_rg_at h _ _ (by simp [heldCell, shown, pLnk, pTop])

/-- A port that goes down from UP or MISCABLED leaves both states (R319). -/
theorem lnkState_linkDown {s : State} {x : Nat} (h : s.lnkState x = 6 ∨ s.lnkState x = 7) :
    (s.linkDown x).lnkState x = if (s.linkDrop x).portOn x then 8 else 0 := by
  have goes : ¬(s.lnkState x ≠ 6 ∧ s.lnkState x ≠ 7) := by omega
  rw [State.lnkState, State.linkDown, if_neg goes]
  dsimp only
  rw [← State.lnkState, held_lnkState ((held_timeCheck true true _).trans (held_raise ..)), held_lnkState (held_setPort (n := true) (e := false) ..),
    State.lnkState, State.rg_wr_self]
  split <;> rfl

theorem lnkState_linkLost {s : State} {x : Nat} (h : s.lnkState x = 6 ∨ s.lnkState x = 7) : (s.linkLost x).lnkState x ≠ s.lnkState x := by
  rw [State.linkLost, if_pos h, lnkState_linkDown h]
  split <;> omega

theorem lnkState_rxClockStop {s : State} {x : Nat} (b : Bool) (h : s.lnkState x = 6 ∨ s.lnkState x = 7) :
    ∃ t, exec (.rxClockStop x b) s = .next t ∧ t.lnkState x ≠ s.lnkState x := by
  refine ⟨_, rfl, ?_⟩
  have counted : (if b then s.cnt (pLnk x) Cn.LNK_CRC_FAIL else s).lnkState x = s.lnkState x := by
    split
    · exact State.rg_cnt _ _ _ _ _ _ (by decide)
    · rfl
  have lost := lnkState_linkLost (x := x) (counted.symm ▸ h)
  rwa [counted] at lost

/-- ERR_STATUS, ERR_INJECT and CNT_SEL as the writes that a page takes leave them (R16, R20, R22). -/
theorem errCnt_taken {s : State} {fn p : Nat} (hw : s.mayWrite fn p = true) (mask : Nat) :
    exec (.errStatusClear fn p mask 0) s = .next (s.wr R.HDR_ERR_STATUS_ERR p (s.rg R.HDR_ERR_STATUS_ERR p - (s.rg R.HDR_ERR_STATUS_ERR p &&& mask)))
    ∧ (∀ n < 32, bit (mask &&& srcMask (blkOf p)) n = true →
        ∃ t, exec (.errInject fn p mask) s = .next t ∧ bit (t.rg R.HDR_ERR_STATUS_ERR p) n = true)
    ∧ (∀ n < 4, ∀ b, exec (.cntClear fn p n b) s = .next (s.wr (cntCount n) p (b2n b))) := by
  refine ⟨?_, fun n hn hb => ⟨s.errInject p mask, ?_, recorded_errInject hn hb⟩, fun n hn b => ?_⟩
  · change execErrStatusClear fn p mask 0 s = _
    have none : onesBelow 32 (0 &&& srcMask (blkOf p)) = [] := by
      rw [Nat.zero_and]
      decide
    simp only [execErrStatusClear, hw, if_true, State.errClear, none, List.foldl_nil]
  · change execErrInject fn p mask s = _
    simp only [execErrInject, hw, if_true]
  · change execCntClear fn p n b s = _
    simp only [execCntClear, hw, hn, and_self, if_true, State.wrB_eq]

/-- CNT_READ_LOW reads the low half and latches the high one (R22). -/
theorem cntReadLow_latches {s : State} {fn p : Nat} (hr : s.responds fn p = true) {n : Nat} (hn : n < 4) :
    ∃ t, exec (.cntReadLow fn p n) s = .next t ∧ t.rdata = [s.rg (cntCount n) p % 2 ^ 32]
      ∧ PMap.get 0 t.latch (p, 2 * (0x60 + 8 * n) + 1) = s.rg (cntCount n) p / 2 ^ 32 ∧ s.sameMem t ∧ t.regs = s.regs := by
  refine ⟨{ (s.read32 p (0x060 + 8 * n)).2 with rdata := [(s.read32 p (0x060 + 8 * n)).1] }, ?_, ?_, ?_, ?_, ?_⟩
  · change execCntReadLow fn p n s = _
    simp only [execCntReadLow, hr, hn, and_self, if_true]
  all_goals rw [read32_cntCount s p hn]
  · exact Map.get_put_self ..
  · exact fun _ => rfl

/-- Settles O22: writes that a page does not take, `registerWrite_words`, `registerWrite_msix`, CTRL by `ctrl_taken` and `quiesceDone`, and the rest of the
header one operation at a time. -/
theorem pageWrites : Obligations.PageWrites := by
  refine ⟨fun s fn p off width v env => ⟨registerWrite_barred off width v env, registerWrite_misaligned s fn p v env,
    registerWrite_words v env, fun ht i => registerWrite_msix v env ht⟩, fun s fn p => ⟨ctrl_taken, ctrl_barred, fun hq hn hr =>
    ⟨fun hd => ⟨_, rfl, quiesceDone_alone hq hn hr hd⟩, fun soft hd => ⟨_, rfl, quiesceDone_disables hq hn hr hd⟩⟩⟩,
    fun s fn p => ⟨errCnt_taken, fun hr n => cntReadLow_latches hr, ⟨_, rfl, digestUpdate_eq s p⟩,
    ⟨_, rfl, fun d hd => get_tbcCopies s.tbc d hd, rfl⟩, fun x b => lnkState_rxClockStop b⟩⟩

end Sys2Proof.Machine
end

section
/-!
SUPPORT. Flows: what sending on a flow leaves to it, and to what is recorded of errors.
-/

namespace Sys2Proof.Machine
section
variable {s t u : State} {l e : Bool} {id : Nat}

theorem apart_trans (h : s.apart t) (h' : t.apart u) : s.apart u :=
  ⟨h'.1.trans h.1, h'.2.1.trans h.2.1, fun a ha => (h'.2.2 a ha).trans (h.2.2 a ha)⟩

theorem apart_of_held (h : t.held true l e = s.held true l e) : s.apart t := ⟨held_cores h, held_sig h, held_rb h⟩

theorem apart_setFlow (s : State) (id : Nat) (x : Flow) : s.apart (s.setFlow id x) := ⟨rfl, rfl, fun _ _ => rfl⟩

theorem flow_of_held (h : t.held true l e = s.held true l e) (id : Nat) : t.flow id = s.flow id := by
  rw [State.flow, State.flow, held_flows h]

theorem recorded_of_held {n : Bool} {q b : Nat} (h : t.held n l true = s.held n l true) (hs : s.recorded q b) : t.recorded q b := by
  have shown : (heldId n l true R.HDR_ERR_STATUS_ERR.id && decide (R.HDR_ERR_STATUS_ERR.id < 32768)) = true :=
    (by decide : ∀ n l, (heldId n l true R.HDR_ERR_STATUS_ERR.id && decide (R.HDR_ERR_STATUS_ERR.id < 32768)) = true) n l
  exact (congrArg (fun v => bit v b = true) (held_rg h R.HDR_ERR_STATUS_ERR q shown)).mpr hs

/-! ### A flow's record -/

theorem flow_setFlow (s : State) (id : Nat) {x : Flow} (h : x.state ≠ 0) : (s.setFlow id x).flow id = x := by
  simp [State.flow, State.setFlow, h]

theorem flow_setFlow_ne (s : State) (x : Flow) {j : Nat} (h : j ≠ id) : (s.setFlow id x).flow j = s.flow j := by
  simp only [State.flow, State.setFlow]
  split
  · exact Map.get_del_ne _ _ h
  · exact NMap.get_put_ne _ _ _ h

theorem flow_setFlow_free (hs : Map.sorted natLt s.net.flows = true) : (s.setFlow id Flow.free).flow id = Flow.free :=
  Map.get_del_self natLt_ordered natLt_irrefl _ _ _ hs

/-! ### What sending keeps recorded -/

variable {q b : Nat}

theorem recorded_noRoute (hb : b < 32) (h : s.recorded q b) : s.noRoute.recorded q b :=
  recorded_raise _ _ _ hb (recorded_of_held (held_cnt (n := true) (l := true) (e := true) ..) h)

theorem recorded_route (dst vc dflow : Nat) (hb : b < 32) (h : s.recorded q b) : (s.route dst vc dflow).2.recorded q b := by
  have counted (k : Nat) : (s.cnt pRte k).recorded q b := recorded_of_held (held_cnt (n := true) (l := true) (e := true) ..) h
  unfold State.route
  split
  · exact h
  · split
    · exact recorded_noRoute hb h
    · exact counted _
    · split
      · exact recorded_noRoute hb h
      · exact counted _
      · split
        · exact h
        · exact recorded_noRoute hb h

theorem recorded_launch (vc : Nat) (marks : List (Bool × Nat × Bool)) (pass : Bool) (bs : List Nat) (hb : b < 32) (h : s.recorded q b) :
    (s.launch vc marks pass bs).recorded q b := by
  have way := recorded_route (byteFld bs 0 4) vc (byteFld bs 0x0C 4) hb h
  unfold State.launch
  split
  · next u he => rw [he] at way; exact way
  · next u he => rw [he] at way; exact way
  · next p u _ _ he =>
    rw [he] at way
    split
    · exact recorded_raise _ _ _ hb (recorded_of_held (held_cnt (n := true) (l := true) (e := true) ..) way)
    · exact recorded_of_held (s := u) (n := true) (l := true) (by simp) way

theorem recorded_sendFrame (vc : Nat) (dmCheck : Bool) (f : Frame) (hb : b < 32) (h : s.recorded q b) : (s.sendFrame vc dmCheck f).recorded q b :=
  recorded_launch _ _ _ _ hb h

theorem recorded_readLine (pa k : Nat) (hb : b < 32) (h : s.recorded q b) : (s.readLine pa k).1.recorded q b := by
  unfold State.readLine
  dsimp only
  split
  · exact recorded_of_held (s := s) (n := true) (l := true) (by simp) h
  · split
    · exact h
    · exact recorded_of_held (s := s) (n := true) (l := true) (by simp) h
  · split
    · exact recorded_of_held (s := s) (n := true) (l := true) (by simp) h
    · exact recorded_raiseAt _ _ _ _ _ _ hb (recorded_of_held (s := s) (n := true) (l := true) (by simp) h)
  · exact h

theorem recorded_readUpto (v : Via) (k a m : Nat) (hb : b < 32) (h : s.recorded q b) : (s.readUpto v k a m).1.recorded q b := by
  induction k generalizing s a m with
  | zero => exact h
  | succ k ih =>
    unfold State.readUpto
    split
    · exact h
    · dsimp only
      split
      · exact h
      · split
        · exact h
        · exact ih _ _ (recorded_readLine _ _ hb (recorded_of_held (held_noteLookup true true true ..) h))

theorem recorded_ldN (v : Via) (a k : Nat) {bs : List (Nat × Bool)} (hu : s.ldN v a k = .ok (u, bs)) (hb : b < 32) (h : s.recorded q b) :
    u.recorded q b := by
  have read := recorded_readUpto v (spanLines k) a k hb h
  unfold State.ldN State.readSpan at hu
  split at hu
  · next he =>
    rw [he] at read
    cases hu
    exact read
  · cases hu

theorem recorded_txRead (x : Flow) (r : TxReq) {bs : List Nat} {k : Nat} (hu : s.txRead x r = .ok (u, bs, k)) (hb : b < 32) (h : s.recorded q b) :
    u.recorded q b := by
  unfold State.txRead at hu
  split at hu
  · cases hu
    exact h
  · next core a _ =>
    cases hl : s.ldN ⟨core, x.fn, true⟩ a r.len with
    | error e => rw [hl] at hu; cases hu
    | ok y =>
      rw [hl] at hu
      cases hu
      exact recorded_ldN _ _ _ hl hb h

theorem recorded_resendReqs (x : Flow) (rs : List TxReq) (hb : b < 32) (h : s.recorded q b) : (State.resendReqs id x rs s).recorded q b := by
  induction rs generalizing s with
  | nil => exact h
  | cons r rs ih =>
    have again (s : State) (data : List Nat) (poison : Nat) (h : s.recorded q b) :
        ((s.cnt (pXpt x.fn) Cn.XPT_RESENDS).sendFrame x.vc x.dmCheck (s.reqFrame id x r data poison)).recorded q b :=
      recorded_sendFrame _ _ _ hb (recorded_of_held (held_cnt (n := true) (l := true) (e := true) ..) h)
    unfold State.resendReqs
    dsimp only
    split
    · next u data poison hr => exact ih (again _ _ _ (recorded_txRead _ _ hr hb h))
    · split
      · exact h
      · exact ih (again _ _ _ h)

theorem recorded_flowResend (id : Nat) (hb : b < 32) (h : s.recorded q b) : (s.flowResend id).recorded q b :=
  recorded_resendReqs _ _ hb (recorded_of_held (held_flowTouch true true true ..) h)

theorem recorded_flowPumpN (k id : Nat) (hb : b < 32) (h : s.recorded q b) : (State.flowPumpN k s id).recorded q b := by
  induction k generalizing s with
  | zero => exact h
  | succ k ih =>
    unfold State.flowPumpN
    dsimp only
    split
    · exact h
    · split
      · exact h
      · split
        · split
          · exact h
          · exact ih (recorded_of_held (s := s) (n := false) (l := true) (by simp) h)
        · next u data poison hr =>
          exact ih (recorded_sendFrame _ _ _ hb (recorded_of_held (s := u) (n := false) (l := true) (by simp) (recorded_txRead _ _ hr hb h)))

theorem recorded_flowPump (id : Nat) (hb : b < 32) (h : s.recorded q b) : (s.flowPump id).recorded q b :=
  recorded_flowPumpN _ _ hb (recorded_of_held (held_flowTouch true true true ..) h)

/-! ### What sending keeps of a flow -/

/-- What the checks of a frame received see of a flow: whether it is open, and how far its peer has acknowledged and granted. -/
def Flow.window (x : Flow) : Nat × Nat × Nat := (x.state, x.txAcked, x.txLimit)

/-- The cores, the signals and the window of a flow are as before. -/
structure State.steady (s t : State) (id : Nat) : Prop where
  cores : t.cores = s.cores
  sig : t.sig = s.sig
  window : (t.flow id).window = (s.flow id).window

theorem steady_trans (h : s.steady t id) (h' : t.steady u id) : s.steady u id :=
  ⟨h'.cores.trans h.cores, h'.sig.trans h.sig, h'.window.trans h.window⟩

theorem steady_of_held (h : t.held true l e = s.held true l e) : s.steady t id :=
  ⟨held_cores h, held_sig h, by rw [flow_of_held h]⟩

theorem steady_setFlow {x : Flow} (hx : x.window = (s.flow id).window) (h : x.state ≠ 0) : s.steady (s.setFlow id x) id :=
  ⟨rfl, rfl, by rw [flow_setFlow s id h, hx]⟩

theorem steady_state (h : s.steady t id) : (t.flow id).state = (s.flow id).state := congrArg (fun w => w.1) h.window

/-- A request goes out on the flow, whatever its record becomes beside the window. -/
theorem steady_sent {x : Flow} (hx : x.window = (s.flow id).window) (h : x.state ≠ 0) (p code tag rd wr vc : Nat) (dmCheck : Bool) (f : Frame) :
    s.steady ((((s.setFlow id x).cnt p code).descMoved tag rd wr).sendFrame vc dmCheck f) id :=
  steady_trans (steady_setFlow hx h) (steady_of_held (l := true) (e := false) (by simp))

theorem steady_flowPumpN (k : Nat) (s : State) (id : Nat) : s.steady (State.flowPumpN k s id) id := by
  induction k generalizing s with
  | zero => exact ⟨rfl, rfl, rfl⟩
  | succ k ih =>
    unfold State.flowPumpN
    dsimp only
    split
    · exact ⟨rfl, rfl, rfl⟩
    · split
      · exact ⟨rfl, rfl, rfl⟩
      · next hm =>
        have open_ : (s.flow id).state ≠ 0 := by
          intro h
          simp [Flow.maySend, h] at hm
        split
        · split
          · exact ⟨rfl, rfl, rfl⟩
          · next e _ _ =>
            refine steady_trans ?_ (ih _)
            refine steady_trans (steady_of_held (held_tagResult true true true _ _ e)) (steady_setFlow ?_ ?_)
            · rw [flow_of_held (held_tagResult true true true ..)]
              rfl
            · exact open_
        · next u data poison hr =>
          have read : s.steady u id := steady_of_held (held_txRead true true _ _ _ hr)
          refine steady_trans (steady_trans read ?_) (ih _)
          refine steady_sent ?_ ?_ ..
          · exact read.window.symm
          · exact open_

theorem steady_flowPump (s : State) (id : Nat) : s.steady (s.flowPump id) id :=
  steady_trans (steady_of_held (held_flowTouch true true true ..)) (steady_flowPumpN ..)

/-- Where TX_ACKED stands after an acknowledgement of `a` (R334). -/
def Flow.ackedBy (x : Flow) (a : Nat) : Nat :=
  if seqDist x.txAcked a ≠ 0 ∧ seqDist x.txAcked a ≤ seqDist x.txAcked x.txNext then a % seqMod else x.txAcked

/-- ACK_TO either leaves the state or writes the flow's record and settles what is acknowledged. -/
theorem ackTo_cases (s : State) (id a : Nat) :
    ¬(seqDist (s.flow id).txAcked a ≠ 0 ∧ seqDist (s.flow id).txAcked a ≤ seqDist (s.flow id).txAcked (s.flow id).txNext) ∧ s.ackTo id a = s
    ∨ (seqDist (s.flow id).txAcked a ≠ 0 ∧ seqDist (s.flow id).txAcked a ≤ seqDist (s.flow id).txAcked (s.flow id).txNext)
      ∧ ∃ x tags, x.window = ((s.flow id).state, a % seqMod, (s.flow id).txLimit) ∧ s.ackTo id a = (s.setFlow id x).flowSettle id tags := by
  unfold State.ackTo
  dsimp only
  split
  · next hd => exact .inl ⟨by omega, rfl⟩
  · next hd => exact .inr ⟨by omega, _, _, by rw [Flow.window], rfl⟩

theorem window_ackTo (a : Nat) (h : (s.flow id).state ≠ 0) : ((s.ackTo id a).flow id).window
    = ((s.flow id).state, (s.flow id).ackedBy a, (s.flow id).txLimit) := by
  unfold Flow.ackedBy
  obtain ⟨hd, eq⟩ | ⟨hd, x, tags, hx, eq⟩ := ackTo_cases s id a
  · rw [eq, if_neg hd, Flow.window]
  · have live : x.state ≠ 0 := by rwa [(Prod.mk.inj hx).1]
    rw [eq, if_pos hd, flow_of_held (held_flowSettle true true true ..), flow_setFlow _ _ live, hx]

theorem cores_ackTo (s : State) (id a : Nat) : (s.ackTo id a).cores = s.cores ∧ (s.ackTo id a).sig = s.sig := by
  obtain ⟨-, eq⟩ | ⟨-, x, tags, -, eq⟩ := ackTo_cases s id a
  · rw [eq]
    exact ⟨rfl, rfl⟩
  · have settled := held_flowSettle true true true (s.setFlow id x) id tags
    rw [eq, held_cores settled, held_sig settled]
    exact ⟨rfl, rfl⟩

end

end Sys2Proof.Machine
end

section
/-!
SUPPORT. ACK, NAK and the timers of a flow.
-/

namespace Sys2Proof.Machine
section
variable {s : State} {vc id : Nat} {f : Frame}

/-- The state in which a frame without sequence number is applied: taken from its VC, its flow in use. -/
def State.bareTaken (s : State) (vc i : Nat) (f : Frame) : State := (s.rxDrop vc i).flowTouch f.dflow

theorem held_bareTaken (n l e : Bool) (s : State) (vc i : Nat) (f : Frame) : (s.bareTaken vc i f).held n l e = s.held n l e := by
  simp [State.bareTaken]

/-- A frame from the peer of the open flow it names is applied (R334, R338). -/
theorem takeBare_answers {op : Nat} (apply : State → Nat → Frame → State) (h : s.answers vc op f) :
    ∃ i, s.takeBare vc op apply = apply (s.bareTaken vc i f) f.dflow f := by
  obtain ⟨⟨i, hi⟩, hstate, hinc, hsrc, hflow⟩ := h
  have same : (s.rxDrop vc i).flow f.dflow = s.flow f.dflow := rfl
  refine ⟨i, ?_⟩
  simp only [State.takeBare, hi, same, hstate, ← hinc, ← hsrc, ← hflow]
  simp [State.bareTaken]

/-- One of another incarnation is answered with FLOW_STALE, and moves no flow. -/
theorem takeBare_stale {op i : Nat} (apply : State → Nat → Frame → State) (hi : s.rxFind vc (fun f => decide (f.op = op)) = some (i, f))
    (hstate : (s.flow f.dflow).state = 1) (hinc : f.inc ≠ (s.flow f.dflow).peerInc) :
    s.takeBare vc op apply = (s.bareTaken vc i f).flowStale f.dflow f := by
  have same : (s.rxDrop vc i).flow f.dflow = s.flow f.dflow := rfl
  simp only [State.takeBare, hi, same, hstate, if_pos hinc, one_ne_zero, if_false, State.bareTaken]

/-! ### ACK and NAK -/

theorem window_iff {x : Flow} {a b c : Nat} : x.window = (a, b, c) ↔ x.state = a ∧ x.txAcked = b ∧ x.txLimit = c := by
  simp only [Flow.window, Prod.mk.injEq]

/-- The limit that an ACK grants moves forward only (R334). -/
def Flow.granted (x : Flow) (off : Nat) : Nat := if seqBefore x.txLimit (off % seqMod) then off % seqMod else x.txLimit

theorem window_setLimit (s : State) (id lim : Nat) {x : Flow} (h : x.state ≠ 0) :
    ((s.setFlow id { x with txLimit := lim }).flow id).window = (x.state, x.txAcked, lim) := by
  rw [flow_setFlow _ _ (by exact h), Flow.window]

/-- The grant of an ACK alone. -/
def State.grantTo (s : State) (id lim : Nat) : State :=
  if seqBefore (s.flow id).txLimit lim then s.setFlow id { s.flow id with txLimit := lim } else s

/-- ACK as it is applied. -/
def State.ackApply (s : State) (id : Nat) (f : Frame) : State := ((s.ackTo id f.ack).grantTo id (f.off % seqMod)).flowPump id

theorem cores_grantTo (s : State) (id lim : Nat) : (s.grantTo id lim).cores = s.cores ∧ (s.grantTo id lim).sig = s.sig := by
  unfold State.grantTo
  split <;> exact ⟨rfl, rfl⟩

theorem window_grantTo (lim : Nat) (h : (s.flow id).state ≠ 0) : ((s.grantTo id lim).flow id).window
    = ((s.flow id).state, (s.flow id).txAcked, if seqBefore (s.flow id).txLimit lim then lim else (s.flow id).txLimit) := by
  unfold State.grantTo
  split
  · exact window_setLimit _ _ _ h
  · rw [Flow.window]

theorem ackApply_moves (h : (s.flow id).state ≠ 0) : (s.ackApply id f).cores = s.cores ∧ (s.ackApply id f).sig = s.sig
    ∧ ((s.ackApply id f).flow id).window = ((s.flow id).state, (s.flow id).ackedBy f.ack, (s.flow id).granted f.off) := by
  obtain ⟨hcores, hsig⟩ := cores_ackTo s id f.ack
  obtain ⟨gcores, gsig⟩ := cores_grantTo (s.ackTo id f.ack) id (f.off % seqMod)
  obtain ⟨hstate, hacked, hlimit⟩ := window_iff.mp (window_ackTo f.ack h)
  have grant := window_grantTo (s := s.ackTo id f.ack) (id := id) (f.off % seqMod) (by rwa [hstate])
  have sent := steady_flowPump ((s.ackTo id f.ack).grantTo id (f.off % seqMod)) id
  refine ⟨sent.cores.trans (gcores.trans hcores), sent.sig.trans (gsig.trans hsig), ?_⟩
  rw [State.ackApply, sent.window, grant, hstate, hacked, hlimit, Flow.granted]

theorem ack_answers (h : s.answers vc 6 f) : ∃ t, exec (.ack vc) s = .next t ∧ t.cores = s.cores ∧ t.sig = s.sig
    ∧ (t.flow f.dflow).txAcked = (s.flow f.dflow).ackedBy f.ack ∧ (t.flow f.dflow).txLimit = (s.flow f.dflow).granted f.off := by
  obtain ⟨i, eq⟩ := takeBare_answers (fun s id f => s.ackApply id f) h
  have taken := held_bareTaken true true true s vc i f
  have flow := flow_of_held taken f.dflow
  have live : ((s.bareTaken vc i f).flow f.dflow).state ≠ 0 := by
    rw [flow, h.2.1]
    decide
  obtain ⟨hcores, hsig, hw⟩ := ackApply_moves (f := f) live
  rw [flow] at hw
  obtain ⟨-, hacked, hlimit⟩ := window_iff.mp hw
  exact ⟨_, congrArg Host.Outcome.next eq, hcores.trans (held_cores taken), hsig.trans (held_sig taken), hacked, hlimit⟩

theorem ack_stale {i : Nat} (hi : s.rxFind vc (fun f => decide (f.op = 6)) = some (i, f)) (hs : (s.flow f.dflow).state = 1)
    (hinc : f.inc ≠ (s.flow f.dflow).peerInc) : ∃ t, exec (.ack vc) s = .next t ∧ t.cores = s.cores ∧ t.sig = s.sig
      ∧ (t.flow f.dflow).txAcked = (s.flow f.dflow).txAcked ∧ (t.flow f.dflow).txLimit = (s.flow f.dflow).txLimit := by
  have kept : ((s.bareTaken vc i f).flowStale f.dflow f).held true false false = s.held true false false :=
    (held_flowStale ..).trans (held_bareTaken ..)
  refine ⟨_, congrArg Host.Outcome.next (takeBare_stale _ hi hs hinc), held_cores kept, held_sig kept, ?_, ?_⟩ <;>
    rw [flow_of_held kept]

/-- A request that a NAK names is failed; the flow stays open, its window as it was. -/
theorem steady_flowFailReq (r : TxReq) (st : Nat) (h : (s.flow id).state ≠ 0) : s.steady (s.flowFailReq id r st) id := by
  have told : (s.tagResult r.tag st).held true true true = s.held true true true := held_tagResult ..
  have same := flow_of_held told id
  unfold State.flowFailReq
  dsimp only
  split
  · exact steady_of_held told
  · refine steady_trans (steady_of_held told) (steady_setFlow ?_ ?_)
    · rfl
    · rwa [same]

/-- What a NAK leaves: the flow is open, the cores and signals are as before. -/
structure State.staysOpen (s t : State) (id : Nat) : Prop where
  cores : t.cores = s.cores
  sig : t.sig = s.sig
  state : (t.flow id).state = (s.flow id).state

theorem staysOpen_of_steady {t : State} (h : s.steady t id) : s.staysOpen t id := ⟨h.cores, h.sig, steady_state h⟩

theorem staysOpen_trans {t u : State} (h : s.staysOpen t id) (h' : t.staysOpen u id) : s.staysOpen u id :=
  ⟨h'.cores.trans h.cores, h'.sig.trans h.sig, h'.state.trans h.state⟩

theorem staysOpen_ackTo (a : Nat) (h : (s.flow id).state ≠ 0) : s.staysOpen (s.ackTo id a) id :=
  ⟨(cores_ackTo s id a).1, (cores_ackTo s id a).2, (window_iff.mp (window_ackTo a h)).1⟩

/-- The part of a NAK other than OUT_OF_ORDER that follows its record: the request it names fails, unless unseen it acknowledges, and the flow goes on. -/
def State.nakRest (s : State) (id : Nat) (f : Frame) : State :=
  let x := s.flow id
  let unseen := f.status = St.FLOW_UNKNOWN ∨ f.status = St.FLOW_STALE
  let r := if unseen then x.sent.head? else x.sent.find? (fun r => decide ((r.seq + 1) % seqMod = f.ack))
  let s := match r with
    | some r => s.flowFailReq id r f.status
    | none => s
  ((if unseen then s else s.ackTo id f.ack)).flowPump id

theorem nakRest_keeps (f : Frame) (h : (s.flow id).state ≠ 0) :
    s.staysOpen (s.nakRest id f) id ∧ ∀ q b, b < 32 → s.recorded q b → (s.nakRest id f).recorded q b := by
  have failed (r : Option TxReq) : s.staysOpen (match r with | some r => s.flowFailReq id r f.status | none => s) id
      ∧ ∀ q b, s.recorded q b → (match r with | some r => s.flowFailReq id r f.status | none => s : State).recorded q b := by
    cases r with
    | none => exact ⟨⟨rfl, rfl, rfl⟩, fun _ _ hr => hr⟩
    | some r => exact ⟨staysOpen_of_steady (steady_flowFailReq r _ h), fun _ _ hr => recorded_of_held (held_flowFailReq true true ..) hr⟩
  unfold State.nakRest
  extract_lets x unseen r t
  obtain ⟨open_, kept⟩ := failed r
  split
  · exact ⟨staysOpen_trans open_ (staysOpen_of_steady (steady_flowPump ..)), fun q b hb hr => recorded_flowPump _ hb (kept q b hr)⟩
  · have acked : s.staysOpen (t.ackTo id f.ack) id := staysOpen_trans open_ (staysOpen_ackTo _ (by rw [open_.state]; exact h))
    exact ⟨staysOpen_trans acked (staysOpen_of_steady (steady_flowPump ..)),
      fun q b hb hr => recorded_flowPump _ hb (recorded_of_held (held_ackTo true true ..) (kept q b hr))⟩

/-- A NAK as it is applied (R336). -/
def State.nakApply (s : State) (id : Nat) (f : Frame) : State :=
  if f.status = St.OUT_OF_ORDER then (((s.cnt (pXpt (s.flow id).fn) Cn.XPT_NAK_RCVD).ackTo id f.ack).flowResend id).flowPump id
  else ((s.cnt (pXpt (s.flow id).fn) Cn.XPT_NAK_RCVD).raise (pXpt (s.flow id).fn) Er.XPT_FLOW_NAK f.status).nakRest id f

theorem nakApply_keeps (f : Frame) (h : (s.flow id).state ≠ 0) : s.staysOpen (s.nakApply id f) id
    ∧ (f.status ≠ St.OUT_OF_ORDER → (s.nakApply id f).recorded (pXpt (s.flow id).fn) Er.XPT_FLOW_NAK) := by
  have counted : s.staysOpen (s.cnt (pXpt (s.flow id).fn) Cn.XPT_NAK_RCVD) id :=
    staysOpen_of_steady (steady_of_held (held_cnt (n := true) (l := true) (e := true) ..))
  have raised : s.staysOpen ((s.cnt (pXpt (s.flow id).fn) Cn.XPT_NAK_RCVD).raise (pXpt (s.flow id).fn) Er.XPT_FLOW_NAK f.status) id :=
    staysOpen_trans counted (staysOpen_of_steady (steady_of_held (held_raise (n := true) (l := true) ..)))
  unfold State.nakApply
  split
  · next hs =>
    have acked := staysOpen_trans counted (staysOpen_ackTo f.ack (by rwa [counted.state]))
    have resent := staysOpen_trans acked (staysOpen_of_steady (steady_of_held (held_flowResend true true _ id)))
    exact ⟨staysOpen_trans resent (staysOpen_of_steady (steady_flowPump ..)), fun hn => absurd hs hn⟩
  · obtain ⟨rest, kept⟩ := nakRest_keeps f (by rwa [raised.state])
    exact ⟨staysOpen_trans raised rest, fun _ => kept _ _ (by decide) (recorded_raise_self _ _ _ (by decide))⟩

theorem nak_answers (h : s.answers vc 7 f) : ∃ t, exec (.nak vc) s = .next t ∧ (t.flow f.dflow).state = 1 ∧ t.cores = s.cores ∧ t.sig = s.sig
    ∧ (f.status ≠ St.OUT_OF_ORDER → t.recorded (pXpt (s.flow f.dflow).fn) Er.XPT_FLOW_NAK) := by
  obtain ⟨i, eq⟩ := takeBare_answers State.nakApply h
  have taken := held_bareTaken true true true s vc i f
  have flow := flow_of_held taken f.dflow
  obtain ⟨kept, told⟩ := nakApply_keeps (id := f.dflow) f (s := s.bareTaken vc i f) (by rw [flow, h.2.1]; decide)
  rw [flow] at told
  refine ⟨_, congrArg Host.Outcome.next eq, ?_, kept.cores.trans (held_cores taken), kept.sig.trans (held_sig taken), told⟩
  rw [kept.state, flow, h.2.1]

/-! ### Timers -/

/-- The ACK that is due goes out; of the flows, only what is unacknowledged changes (R338). -/
theorem ackTimer_due (hs : (s.flow id).state ≠ 0) (hu : (s.flow id).unacked > 0) :
    ∃ t, exec (.ackTimer id) s = .next t ∧ t.flow id = { s.flow id with unacked := 0 } ∧ s.apart t := by
  refine ⟨s.sendAck id, ?_, ?_, ?_⟩
  · change execAckTimer id s = _
    simp only [execAckTimer, hs, hu, ne_eq, not_false_eq_true, and_self, if_true]
  · exact (flow_of_held (held_sendFrame true true _ _ _ _) id).trans (flow_setFlow s id (x := { s.flow id with unacked := 0 }) hs)
  · exact apart_trans (apart_setFlow ..) (apart_of_held (held_sendFrame true true _ _ _ _))

theorem ackTimer_none (hu : (s.flow id).unacked = 0) : exec (.ackTimer id) s = .next s := by
  change execAckTimer id s = _
  simp [execAckTimer, hu]

/-- An RTO that passes: one more retry, and the frames sent again. -/
def State.retried (s : State) (id : Nat) : State := (s.setFlow id { s.flow id with retries := (s.flow id).retries + 1 }).flowResend id

theorem flow_retried (hs : (s.flow id).state = 1) : (s.retried id).flow id = { s.flow id with retries := (s.flow id).retries + 1 } :=
  (flow_of_held (held_flowResend true true _ id) id).trans
    (flow_setFlow s id (x := { s.flow id with retries := (s.flow id).retries + 1 }) (by rw [hs]; decide))

theorem apart_retried : s.apart (s.retried id) := apart_trans (apart_setFlow ..) (apart_of_held (held_flowResend true true _ id))

theorem flowRto_eq (hs : (s.flow id).state = 1) (hsent : (s.flow id).sent ≠ []) :
    exec (.flowRto id) s = .next (if (s.flow id).retries + 1 ≥ (s.flow id).retryLimit then (s.retried id).flowFail id else s.retried id) := by
  change execFlowRto id s = _
  simp only [execFlowRto, hs, hsent, ne_eq, not_true_eq_false, or_self, if_false, State.retried]

theorem recorded_collPeerLost {q b : Nat} (fn g : Nat) (hb : b < 32) (h : s.recorded q b) : (s.collPeerLost fn g).recorded q b := by
  unfold State.collPeerLost
  dsimp only
  split
  · split
    · exact recorded_raise _ _ _ hb h
    · exact h
  · exact h

/-- A field of the flows' registers on a function's XPT page. -/
theorem held_xpt {n l e : Bool} {t : State} (h : t.held n l e = s.held n l e) (f : Fld) (fn : Nat) (hf : heldId n l e f.id = true) :
    t.rg f (pXpt fn) = s.rg f (pXpt fn) :=
  held_rg_at h f _ (by simp [heldCell, hf, pXpt, pTop])

theorem apart_wr (s : State) (f : Fld) (i v : Nat) : s.apart (s.wr f i v) := ⟨rfl, rfl, fun _ _ => rfl⟩

/-- The record of a flow that has failed. -/
def Flow.failed (x : Flow) : Flow := { x with state := 2, waitq := [], sent := [], gets := [], retries := x.retryLimit }

/-- A flow fails, but for the collective that it may serve. -/
def State.flowFailed (s : State) (id : Nat) : State :=
  ((((s.flowEnd id St.FLOW_TIMEOUT).setFlow id (s.flow id).failed).wr R.XPT_FLOW_FAILED_FLOW_ID (pXpt (s.flow id).fn) id).raise
    (pXpt (s.flow id).fn) Er.XPT_FLOW_FAIL (id + (s.flow id).peerMaddr * 2 ^ 20))

/-- What the failure of a flow leaves (R336): FLOW_FAIL recorded with the flow's number, nothing to be sent, and all else apart from it. -/
structure State.failedIn (s t : State) (id : Nat) : Prop where
  flow : t.flow id = (s.flow id).failed
  told : t.recorded (pXpt (s.flow id).fn) Er.XPT_FLOW_FAIL
  named : t.rg R.XPT_FLOW_FAILED_FLOW_ID (pXpt (s.flow id).fn) = id % 2 ^ 20
  apart : s.apart t

theorem failedIn_flowFailed (s : State) (id : Nat) : s.failedIn (s.flowFailed id) id where
  flow := (flow_of_held (held_raise (n := true) (l := true) ..) id).trans (flow_setFlow _ id (by simp [Flow.failed]))
  told := recorded_raise_self _ _ _ (by decide)
  named := (held_xpt (held_raise (n := true) (l := true) ..) _ _ (by decide)).trans (State.rg_wr_self ..)
  apart := apart_trans (apart_of_held (held_flowEnd true true true s id St.FLOW_TIMEOUT))
    (apart_trans (apart_trans (apart_setFlow _ id _) (apart_wr ..)) (apart_of_held (held_raise (n := true) (l := true) ..)))

theorem failedIn_collPeerLost {t : State} (fn g : Nat) (h : s.failedIn t id) : s.failedIn (t.collPeerLost fn g) id where
  flow := (flow_of_held (held_collPeerLost true true ..) id).trans h.flow
  told := recorded_collPeerLost _ _ (by decide) h.told
  named := (held_xpt (held_collPeerLost true true ..) _ _ (by decide)).trans h.named
  apart := apart_trans h.apart (apart_of_held (held_collPeerLost true true ..))

theorem failedIn_flowFail (s : State) (id : Nat) : s.failedIn (s.flowFail id) id := by
  have failed := failedIn_flowFailed s id
  unfold State.flowFail
  dsimp only
  split
  · split
    · exact failedIn_collPeerLost _ _ failed
    · exact failed
  · exact failed

theorem flowRto_retries (hs : (s.flow id).state = 1) (hsent : (s.flow id).sent ≠ []) :
    ((s.flow id).retries + 1 < (s.flow id).retryLimit →
      ∃ t, exec (.flowRto id) s = .next t ∧ t.flow id = { s.flow id with retries := (s.flow id).retries + 1 } ∧ s.apart t)
    ∧ ((s.flow id).retries + 1 ≥ (s.flow id).retryLimit → ∃ t, exec (.flowRto id) s = .next t ∧ (t.flow id).state = 2 ∧ (t.flow id).waitq = []
        ∧ (t.flow id).sent = [] ∧ t.recorded (pXpt (s.flow id).fn) Er.XPT_FLOW_FAIL
        ∧ t.rg R.XPT_FLOW_FAILED_FLOW_ID (pXpt (s.flow id).fn) = id % 2 ^ 20 ∧ s.apart t) := by
  have flow := flow_retried hs
  refine ⟨fun hr => ⟨s.retried id, ?_, flow, apart_retried⟩, fun hr => ⟨(s.retried id).flowFail id, ?_, ?_⟩⟩
  · rw [flowRto_eq hs hsent, if_neg (by omega)]
  · rw [flowRto_eq hs hsent, if_pos hr]
  · obtain ⟨hflow, told, named, away⟩ := failedIn_flowFail (s.retried id) id
    rw [flow] at told named
    exact ⟨by rw [hflow, Flow.failed], by rw [hflow, Flow.failed], by rw [hflow, Flow.failed], told, named, apart_trans apart_retried away⟩

end

end Sys2Proof.Machine
end

section
/-!
SUPPORT. FLOW_CMD: opening, closing, resetting and reading a flow.
-/

namespace Sys2Proof.Machine
section
variable {s : State} {req fn op id : Nat}

/-! ### FLOW_CMD -/

/-- The state in which FLOW_CMD acts: OP written. -/
def State.flowAsked (s : State) (fn op : Nat) : State := s.wr R.XPT_FLOW_CMD_OP (pXpt fn) op

theorem rg_flowAsked (s : State) (fn op : Nat) {f : Fld} (i : Nat) (h : f.id ≠ R.XPT_FLOW_CMD_OP.id) : (s.flowAsked fn op).rg f i = s.rg f i :=
  State.rg_wr_fld _ _ _ _ h

theorem workStatus_flowAsked (s : State) (fn op p : Nat) : (s.flowAsked fn op).workStatus p = s.workStatus p := by
  rw [State.workStatus, State.workStatus, State.fencedP, State.fencedP, State.enabled, State.enabled, State.flowAsked,
    flag_wr_fld _ _ _ _ (by decide), flag_wr_fld _ _ _ _ (by decide)]

theorem flowCmd_taken (f : State → Nat → Nat × State) (hw : s.mayWrite req (pXpt fn) = true) (hd : s.flag R.XPT_FLOW_RESULT_DONE (pXpt fn) = true)
    (ho : s.workStatus (pXpt fn) = St.OK) : s.flowCmd req fn op f
      = (f (s.flowAsked fn op) (s.rg R.XPT_FLOW_ID_FLOW_ID (pXpt fn))).2.wr R.XPT_FLOW_RESULT_STATUS (pXpt fn)
          (f (s.flowAsked fn op) (s.rg R.XPT_FLOW_ID_FLOW_ID (pXpt fn))).1 := by
  have asked : (s.wr R.XPT_FLOW_CMD_OP (pXpt fn) op).workStatus (pXpt fn) = St.OK := (workStatus_flowAsked ..).trans ho
  simp only [State.flowCmd, hw, hd, Bool.true_eq_false, or_self, if_false, asked, if_true]
  rw [← State.flowAsked, rg_flowAsked _ _ _ _ (by decide)]

theorem flowCmd_idle (f : State → Nat → Nat × State) (hw : s.mayWrite req (pXpt fn) = true) (hd : s.flag R.XPT_FLOW_RESULT_DONE (pXpt fn) = true)
    (ho : s.workStatus (pXpt fn) ≠ St.OK) : s.flowCmd req fn op f
      = (s.flowAsked fn op).wr R.XPT_FLOW_RESULT_STATUS (pXpt fn) (s.workStatus (pXpt fn)) := by
  have asked : (s.wr R.XPT_FLOW_CMD_OP (pXpt fn) op).workStatus (pXpt fn) = s.workStatus (pXpt fn) := workStatus_flowAsked ..
  simp only [State.flowCmd, hw, hd, Bool.true_eq_false, or_self, if_false, asked, if_neg ho]
  rfl

theorem workStatus_lt (s : State) (p : Nat) : s.workStatus p < 2 ^ 16 := by
  unfold State.workStatus
  split
  · decide
  · split <;> decide

/-- FLOW_RESULT.STATUS after a command. -/
def State.flowTold (s : State) (fn st : Nat) : State := s.wr R.XPT_FLOW_RESULT_STATUS (pXpt fn) st

theorem apart_flowTold (s : State) (fn st : Nat) : s.apart (s.flowTold fn st) := apart_wr ..

theorem rg_flowTold_self (s : State) (fn : Nat) {st : Nat} (h : st < 2 ^ 16) : (s.flowTold fn st).rg R.XPT_FLOW_RESULT_STATUS (pXpt fn) = st :=
  (State.rg_wr_self ..).trans (Nat.mod_eq_of_lt h)

/-- A command that leaves the network, with its outcome. -/
theorem flowTold_keeps {fn' op : Nat} {st : Nat} (h : st < 2 ^ 16) : ((s.flowAsked fn op).flowTold fn' st).net = s.net
    ∧ s.apart ((s.flowAsked fn op).flowTold fn' st) ∧ ((s.flowAsked fn op).flowTold fn' st).rg R.XPT_FLOW_RESULT_STATUS (pXpt fn') = st :=
  ⟨rfl, apart_trans (apart_wr ..) (apart_wr ..), rg_flowTold_self _ _ h⟩

/-- With the page fenced or disabled, FLOW_CMD changes nothing but its result (R14, R347). -/
theorem flowCmd_off (hw : s.mayWrite req (pXpt fn) = true) (hd : s.flag R.XPT_FLOW_RESULT_DONE (pXpt fn) = true)
    (ho : s.workStatus (pXpt fn) ≠ St.OK) : ∀ c ∈ ([.flowOpen req fn, .flowClose req fn, .flowReset req fn, .flowRead req fn] : List Instr),
      ∃ t, exec c s = .next t ∧ t.net = s.net ∧ s.apart t ∧ t.rg R.XPT_FLOW_RESULT_STATUS (pXpt fn) = s.workStatus (pXpt fn) := by
  intro c hc
  fin_cases hc <;> exact ⟨_, congrArg Host.Outcome.next (flowCmd_idle _ hw hd ho), flowTold_keeps (workStatus_lt ..)⟩

/-! ### OPEN -/

theorem flowOpen_full (hw : s.mayWrite req (pXpt fn) = true) (hd : s.flag R.XPT_FLOW_RESULT_DONE (pXpt fn) = true)
    (ho : s.workStatus (pXpt fn) = St.OK) (hf : s.flowsUsed fn ≥ (s.fnRes fn).flows) :
    ∃ t, exec (.flowOpen req fn) s = .next t ∧ t.net = s.net ∧ t.rg R.XPT_FLOW_RESULT_STATUS (pXpt fn) = St.FLOW_FULL := by
  refine ⟨(s.flowAsked fn 1).flowTold fn St.FLOW_FULL, ?_, rfl, rg_flowTold_self _ _ (by decide)⟩
  change execFlowOpen req fn s = _
  have full (id image : Nat) : (s.flowAsked fn 1).flowOpen fn (some id) image = (St.FLOW_FULL, s.flowAsked fn 1) := if_pos (.inl hf)
  simp only [execFlowOpen, flowCmd_taken _ hw hd ho, full]
  rfl

theorem flowOpen_opens (hw : s.mayWrite req (pXpt fn) = true) (hd : s.flag R.XPT_FLOW_RESULT_DONE (pXpt fn) = true)
    (ho : s.workStatus (pXpt fn) = St.OK) {free : Nat} (hfree : free = lowestFree 0 (s.net.flows.map (fun e => e.1)))
    (hany : s.flag R.XPT_FLOW_ID_ANY (pXpt fn) = true) (hu : s.flowsUsed fn < (s.fnRes fn).flows) (hl : s.net.flows.length < 2 ^ 20)
    (hs : (s.flow free).state = 0) : ∃ t, exec (.flowOpen req fn) s = .next t ∧ t.flow free = Flow.opened (s.rg R.XPT_FLOW_CTX_CTX (pXpt fn)) fn
      ∧ s.apart t ∧ (∀ e, e ≠ free → t.flow e = s.flow e) ∧ t.rg R.XPT_FLOW_ID_FLOW_ID (pXpt fn) = free % 2 ^ 20
      ∧ t.rg R.XPT_FLOW_RESULT_STATUS (pXpt fn) = St.OK := by
  have opens (image : Nat) : (s.flowAsked fn 1).flowOpen fn (some free) image
      = (St.OK, ((s.flowAsked fn 1).setFlow free (Flow.opened image fn)).flowUsedReg fn) := by
    have room : ¬((s.flowAsked fn 1).flowsUsed fn ≥ ((s.flowAsked fn 1).fnRes fn).flows ∨ (s.flowAsked fn 1).net.flows.length ≥ 2 ^ 20) :=
      not_or.mpr ⟨Nat.not_le.mpr hu, Nat.not_le.mpr hl⟩
    have unused : ¬((s.flowAsked fn 1).flow free).state ≠ 0 := not_not.mpr hs
    exact (if_neg room).trans (if_neg unused)
  have image : (s.flowAsked fn 1).rg R.XPT_FLOW_CTX_CTX (pXpt fn) = s.rg R.XPT_FLOW_CTX_CTX (pXpt fn) := rg_flowAsked _ _ _ _ (by decide)
  have any : (s.flowAsked fn 1).flag R.XPT_FLOW_ID_ANY (pXpt fn) = true := (flag_wr_fld _ _ _ _ (by decide)).trans hany
  refine ⟨(((((s.flowAsked fn 1).setFlow free (Flow.opened (s.rg R.XPT_FLOW_CTX_CTX (pXpt fn)) fn)).flowUsedReg fn).wr
    R.XPT_FLOW_ID_FLOW_ID (pXpt fn) free).flowTold fn St.OK), ?_, ?_, ?_, ?_, ?_, rg_flowTold_self _ _ (by decide)⟩
  · change execFlowOpen req fn s = _
    simp only [execFlowOpen, flowCmd_taken _ hw hd ho, any, if_true, image]
    rw [show lowestFree 0 ((s.flowAsked fn 1).net.flows.map (fun e => e.1)) = free from hfree.symm, opens]
    rfl
  · exact flow_setFlow _ _ (by simp [Flow.opened])
  · exact ⟨rfl, rfl, fun _ _ => rfl⟩
  · exact fun e he => flow_setFlow_ne _ _ he
  · exact (State.rg_wr_fld _ _ _ _ (by decide)).trans (State.rg_wr_self ..)

/-! ### CLOSE, RESET, READ -/

theorem flowOwned_own (f : State → State) (hs : (s.flow id).state ≠ 0) (hf : (s.flow id).fn = fn) :
    (s.flowAsked fn op).flowOwned fn id f = (St.OK, f (s.flowAsked fn op)) :=
  if_neg (not_or.mpr ⟨hs, not_not.mpr hf⟩)

/-- A flow of another function is DENIED, and no flow changes. -/
theorem flowCmd_denied (hw : s.mayWrite req (pXpt fn) = true) (hd : s.flag R.XPT_FLOW_RESULT_DONE (pXpt fn) = true)
    (ho : s.workStatus (pXpt fn) = St.OK) (hf : (s.flow (s.rg R.XPT_FLOW_ID_FLOW_ID (pXpt fn))).fn ≠ fn) :
    ∀ c ∈ ([.flowClose req fn, .flowReset req fn, .flowRead req fn] : List Instr),
      ∃ t, exec c s = .next t ∧ t.net = s.net ∧ s.apart t ∧ t.rg R.XPT_FLOW_RESULT_STATUS (pXpt fn) = St.DENIED := by
  have denied (op : Nat) (f : State → Nat → State) : s.flowCmd req fn op (fun s id => s.flowOwned fn id (fun s => f s id))
      = (s.flowAsked fn op).flowTold fn St.DENIED := by
    have other (f : State → State) : (s.flowAsked fn op).flowOwned fn (s.rg R.XPT_FLOW_ID_FLOW_ID (pXpt fn)) f = (St.DENIED, s.flowAsked fn op) :=
      if_pos (.inr hf)
    rw [flowCmd_taken _ hw hd ho, other]
    rfl
  intro c hc
  fin_cases hc
  · exact ⟨_, congrArg Host.Outcome.next (denied 2 fun s id => s.flowClose id), flowTold_keeps (by decide)⟩
  · exact ⟨_, congrArg Host.Outcome.next (denied 3 fun s id => s.flowReset id), flowTold_keeps (by decide)⟩
  · exact ⟨_, congrArg Host.Outcome.next (denied 4 fun s id => s.wr R.XPT_FLOW_CTX_CTX (pXpt fn) (s.flow id).image), flowTold_keeps (by decide)⟩

theorem flowClose_leaves (s : State) (id : Nat) : (∀ e, e ≠ id → (s.flowClose id).flow e = s.flow e) ∧ s.apart (s.flowClose id)
    ∧ (Map.sorted natLt s.net.flows = true → (s.flowClose id).flow id = Flow.free) := by
  have ended := held_flowEnd true true true s id St.ABORTED
  have used := held_flowUsedReg true true true ((s.flowEnd id St.ABORTED).setFlow id Flow.free) (s.flow id).fn
  have flow := flow_of_held used
  refine ⟨fun e he => ?_, ?_, fun hs => ?_⟩
  · exact ((flow e).trans (flow_setFlow_ne _ _ he)).trans (flow_of_held ended e)
  · exact apart_trans (apart_of_held ended) (apart_trans (apart_setFlow _ id Flow.free) (apart_of_held used))
  · exact (flow id).trans (flow_setFlow_free (by rwa [held_flows ended]))

/-- What RESET makes of an open flow (R333). -/
def Flow.restarted (x : Flow) : Flow := { x.rewound with state := 1, synPend := true }

theorem flowReset_leaves (hs : (s.flow id).state ≠ 0) : (s.flowReset id).flow id = (s.flow id).restarted
    ∧ (∀ e, e ≠ id → (s.flowReset id).flow e = s.flow e) ∧ s.apart (s.flowReset id) := by
  have ended := held_flowEnd true true true s id St.ABORTED
  have same := flow_of_held ended
  have eq : s.flowReset id = (s.flowEnd id St.ABORTED).setFlow id (s.flow id).restarted := by
    rw [← same id] at hs ⊢
    exact if_neg hs
  rw [eq]
  exact ⟨flow_setFlow _ _ (by simp [Flow.restarted]), fun e he => (flow_setFlow_ne _ _ he).trans (same e),
    apart_trans (apart_of_held ended) (apart_setFlow ..)⟩

section
variable (hw : s.mayWrite req (pXpt fn) = true) (hd : s.flag R.XPT_FLOW_RESULT_DONE (pXpt fn) = true) (ho : s.workStatus (pXpt fn) = St.OK)
  (hid : id = s.rg R.XPT_FLOW_ID_FLOW_ID (pXpt fn)) (hs : (s.flow id).state ≠ 0) (hf : (s.flow id).fn = fn)
include hw hd ho hid hs hf

/-- A command on a flow of the page's own function acts on it and tells OK. -/
theorem flowCmd_own (f : State → Nat → State) : s.flowCmd req fn op (fun s id => s.flowOwned fn id (fun s => f s id))
    = (f (s.flowAsked fn op) id).flowTold fn St.OK := by
  rw [flowCmd_taken _ hw hd ho, ← hid, flowOwned_own _ hs hf]
  rfl

theorem flowClose_closes (ht : Map.sorted natLt s.net.flows = true) : ∃ t, exec (.flowClose req fn) s = .next t ∧ t.flow id = Flow.free
    ∧ (∀ e, e ≠ id → t.flow e = s.flow e) ∧ s.apart t ∧ t.rg R.XPT_FLOW_RESULT_STATUS (pXpt fn) = St.OK := by
  obtain ⟨others, away, closed⟩ := flowClose_leaves (s.flowAsked fn 2) id
  exact ⟨_, congrArg Host.Outcome.next (flowCmd_own hw hd ho hid hs hf fun s id => s.flowClose id), closed ht, others,
    apart_trans (apart_wr ..) (apart_trans away (apart_flowTold ..)), rg_flowTold_self _ _ (by decide)⟩

theorem flowReset_resets : ∃ t, exec (.flowReset req fn) s = .next t ∧ (∀ e, e ≠ id → t.flow e = s.flow e) ∧ s.apart t
    ∧ t.rg R.XPT_FLOW_RESULT_STATUS (pXpt fn) = St.OK ∧ t.flow id = (s.flow id).restarted := by
  obtain ⟨reset, others, away⟩ := flowReset_leaves (s := s.flowAsked fn 3) (id := id) hs
  exact ⟨_, congrArg Host.Outcome.next (flowCmd_own hw hd ho hid hs hf fun s id => s.flowReset id), others,
    apart_trans (apart_wr ..) (apart_trans away (apart_flowTold ..)), rg_flowTold_self _ _ (by decide), reset⟩

theorem flowRead_shows : ∃ t, exec (.flowRead req fn) s = .next t ∧ t.net = s.net ∧ s.apart t
    ∧ t.rg R.XPT_FLOW_RESULT_STATUS (pXpt fn) = St.OK ∧ t.rg R.XPT_FLOW_CTX_CTX (pXpt fn) = (s.flow id).image % 2 ^ 512 := by
  refine ⟨_, congrArg Host.Outcome.next (flowCmd_own hw hd ho hid hs hf fun s id => s.wr R.XPT_FLOW_CTX_CTX (pXpt fn) (s.flow id).image), rfl,
    ⟨rfl, rfl, fun _ _ => rfl⟩, rg_flowTold_self _ _ (by decide), ?_⟩
  have width : R.XPT_FLOW_CTX_CTX.width = 512 := rfl
  rw [State.flowTold, State.rg_wr_fld _ _ _ _ (by decide), State.rg_wr_self, width]
  rfl

end

end

end Sys2Proof.Machine
end

section
/-!
PROOF. PUT and GET descriptors on flows, and what the flows' commands do (O27).
-/

namespace Sys2Proof.Machine
section
variable {s : State} {e i n id : Nat} {d : DmaDesc}

/-! ### An engine's queues -/

theorem engRegs_dma (s : State) (e : Nat) : (s.engRegs e).dma = s.dma := by
  unfold State.engRegs
  dsimp only
  split <;> simp [State.wrB_eq]

theorem eng_putEng (s : State) (e : Nat) (x : DmaEng) : (s.putEng e x).eng e = x := by
  rw [State.putEng, State.eng, engRegs_dma]
  exact NMap.get_put_self ..

theorem q_setQ (x : DmaEng) (i : Nat) (l : List DmaDesc) : (x.setQ i l).q i = l :=
  match i with
  | 0 | 1 | 2 | _ + 3 => rfl

/-- The round robin moves no descriptor. -/
theorem q_dmaTurn (s : State) (e k i : Nat) : ((s.dmaTurn e k).eng e).q i = (s.eng e).q i := by
  unfold State.dmaTurn
  dsimp only
  split
  · rfl
  · split <;>
    · rw [State.eng_setEng]
      rfl

/-- A descriptor replaced in its queue stands there. -/
theorem desc_setDesc {x : DmaDesc} (h : ((s.eng e).q i)[n]? = some x) (d : DmaDesc) : (((s.setDesc e i n d).eng e).q i)[n]? = some d := by
  have bound : n < ((s.eng e).q i).length := (List.getElem?_eq_some_iff.mp h).1
  rw [State.setDesc, eng_putEng, q_setQ, List.getElem?_set_self bound]

theorem firstWaiting_getElem {l : List DmaDesc} (h : firstWaiting l = some (n, d)) : l[n]? = some d := by
  obtain ⟨y, hy, hyn⟩ := Option.map_eq_some_iff.mp h
  obtain ⟨rfl, rfl⟩ := Prod.mk.inj hyn
  exact List.mem_zipIdx_iff_getElem?.mp (List.mem_of_find?_eq_some hy)

theorem ready_getElem {x : DmaEng} (h : x.ready i = some (n, d)) : (x.q i)[n]? = some d := by
  unfold DmaEng.ready at h
  split at h
  · cases h
  · next hw =>
    split at h
    · cases h
      exact firstWaiting_getElem hw
    · cases h

/-- The descriptor that an engine serves next waits in the queue named. -/
theorem dmaPick_getElem (h : s.dmaPick e = some (i, n, d)) : ((s.eng e).q i)[n]? = some d := by
  have found {k : Nat} (h : ((s.eng e).ready k).map (fun p => (k, p.1, p.2)) = some (i, n, d)) : ((s.eng e).q i)[n]? = some d := by
    obtain ⟨y, hy, hyn⟩ := Option.map_eq_some_iff.mp h
    cases hyn
    exact ready_getElem hy
  unfold State.dmaPick at h
  dsimp only at h
  split at h
  · exact found h
  · obtain ⟨k, -, hk⟩ := List.exists_of_findSome?_eq_some h
    exact found hk

/-! ### PUT and GET -/

theorem len_requests (d : DmaDesc) (tag : Nat) : ∀ r ∈ d.requests tag, r.len ≤ 4096 := by
  unfold DmaDesc.requests
  extract_lets remoteStride localStride base pieces sig inc
  have piece : ∀ r ∈ pieces, r.len ≤ 4096 := by
    intro r hr
    obtain ⟨row, -, hr⟩ := List.mem_flatMap.mp hr
    obtain ⟨k, -, rfl⟩ := List.mem_map.mp hr
    exact Nat.min_le_left ..
  split
  · next last rest hp =>
    have mem (r : TxReq) (h : r ∈ last :: rest) : r.len ≤ 4096 := piece r (List.mem_reverse.mp (hp ▸ h))
    intro r hr
    obtain rfl | hr := List.mem_cons.mp (List.mem_reverse.mp hr)
    · exact mem last List.mem_cons_self
    · exact mem r (List.mem_cons_of_mem _ hr)
  · split <;> simp

theorem flowPumpN_waits (k : Nat) (h : (s.flow id).maySend = false) : State.flowPumpN k s id = s := by
  cases k with
  | zero => rfl
  | succ k =>
    unfold State.flowPumpN
    dsimp only
    split
    · rfl
    · rw [if_pos h]

/-- A flow's record with more requests behind those that wait. -/
def Flow.queued (x : Flow) (l : List TxReq) : Flow := { x with waitq := x.waitq ++ l }

/-- Requests for a flow without credit wait behind those there. -/
theorem flowQueue_waits (l : List TxReq) (hs : (s.flow id).state ≠ 0) (h : (s.flow id).maySend = false) :
    s.flowQueue id l = (s.setFlow id ((s.flow id).queued l)).flowTouch id := by
  have touched : ((s.setFlow id ((s.flow id).queued l)).flowTouch id).flow id = (s.flow id).queued l :=
    (flow_of_held (held_flowTouch true true true ..) id).trans (flow_setFlow _ _ hs)
  have waits : (((s.setFlow id ((s.flow id).queued l)).flowTouch id).flow id).maySend = false := by
    rw [touched]
    exact h
  exact flowPumpN_waits _ waits

theorem dma_flowTouch (s : State) (id : Nat) : (s.flowTouch id).dma = s.dma := by
  unfold State.flowTouch
  dsimp only
  split
  · rfl
  · split <;> simp [State.freeVal]

/-- The flow of a PUT or GET (5 or 6) that its engine starts. -/
theorem dmaFlow_starts (op : Nat) (he : s.engTakes e = true) (hp : s.dmaPick e = some (i, n, d)) (ho : d.opc = op)
    (hc : s.dmaCheck e d (decide ((s.flow d.flowId).state ≠ 0) && decide ((s.flow d.flowId).fn = d.fn)) = St.OK) : s.dmaFlow e op [] =
      if s.workStatus (pXpt d.fn) ≠ St.OK then
        (s.dmaTurn e i).setDesc e i n { d with started := true, result := some (s.workStatus (pXpt d.fn)) }
      else if (s.flow d.flowId).state = 2 then (s.dmaTurn e i).setDesc e i n { d with started := true, result := some St.FLOW_FAILED }
      else if (s.dmaTurn e i).reachable (s.flow d.flowId).peerMaddr (s.flow d.flowId).vc = false then
        (s.dmaTurn e i).noRoute.setDesc e i n { d with started := true, result := some St.MADDR_RANGE }
      else if d.requests ((s.dmaTurn e i).net.nextTag * 2048 + e) = [] then
        (s.dmaTurn e i).setDesc e i n { d with started := true, result := some St.OK }
      else
        ({ s.dmaTurn e i with net := { (s.dmaTurn e i).net with nextTag := (s.dmaTurn e i).net.nextTag + 1 } }.setDesc e i n
          { d with started := true, tag := (s.dmaTurn e i).net.nextTag * 2048 + e }).flowQueue d.flowId
            (d.requests ((s.dmaTurn e i).net.nextTag * 2048 + e)) := by
  have serves : s.engServes e = true := (Bool.and_eq_true_iff.mp he).1
  unfold State.dmaFlow
  rw [if_neg (by rw [serves]; decide), hp]
  dsimp only
  rw [if_neg (not_not.mpr ho), if_pos he, hc, if_pos rfl]
  rfl

theorem net_dmaTurn (s : State) (e i : Nat) : (s.dmaTurn e i).net = s.net := by
  unfold State.dmaTurn
  dsimp only
  split
  · rfl
  · split <;> rfl

theorem net_setDesc (s : State) (e i n : Nat) (d : DmaDesc) : (s.setDesc e i n d).net = s.net := by
  unfold State.setDesc State.putEng State.engRegs
  dsimp only
  split <;> rfl

theorem reachable_dmaTurn (s : State) (e i dst vc : Nat) : (s.dmaTurn e i).reachable dst vc = s.reachable dst vc := by
  unfold State.dmaTurn
  dsimp only
  split
  · rfl
  · split <;> rfl

/-- A descriptor that ends as it starts: its result stands in its place, and no flow changes. -/
theorem setDesc_ends (hp : s.dmaPick e = some (i, n, d)) (st : Nat) :
    s.apart ((s.dmaTurn e i).setDesc e i n { d with started := true, result := some st })
    ∧ ((s.dmaTurn e i).setDesc e i n { d with started := true, result := some st }).net = s.net
    ∧ ∃ y, ((((s.dmaTurn e i).setDesc e i n { d with started := true, result := some st }).eng e).q i)[n]? = some y
      ∧ y.started = true ∧ y.result = some st := by
  have place : (((s.dmaTurn e i).eng e).q i)[n]? = some d := (congrArg (fun l => l[n]?) (q_dmaTurn s e i i)).trans (dmaPick_getElem hp)
  exact ⟨apart_trans (apart_of_held (held_dmaTurn true true true ..)) (apart_of_held (held_setDesc true true true ..)),
    (net_setDesc ..).trans (net_dmaTurn ..), _, desc_setDesc place _, rfl, rfl⟩

/-- A descriptor served on an open flow without credit: its requests wait behind those there. -/
theorem dmaFlow_waits (op : Nat) (he : s.engTakes e = true) (hp : s.dmaPick e = some (i, n, d)) (ho : d.opc = op)
    (hc : s.dmaCheck e d (decide ((s.flow d.flowId).state ≠ 0) && decide ((s.flow d.flowId).fn = d.fn)) = St.OK)
    (hw : s.workStatus (pXpt d.fn) = St.OK) (hs : (s.flow d.flowId).state = 1)
    (hr : s.reachable (s.flow d.flowId).peerMaddr (s.flow d.flowId).vc = true) (hm : (s.flow d.flowId).maySend = false)
    (hq : d.requests (s.net.nextTag * 2048 + e) ≠ []) : s.apart (s.dmaFlow e op [])
      ∧ ((s.dmaFlow e op []).flow d.flowId).waitq = (s.flow d.flowId).waitq ++ d.requests (s.net.nextTag * 2048 + e)
      ∧ ∃ y, (((s.dmaFlow e op []).eng e).q i)[n]? = some y ∧ y.started = true ∧ y.result = d.result ∧ y.desc = d.desc := by
  have net := net_dmaTurn s e i
  have place : (((s.dmaTurn e i).eng e).q i)[n]? = some d := (congrArg (fun l => l[n]?) (q_dmaTurn s e i i)).trans (dmaPick_getElem hp)
  rw [dmaFlow_starts op he hp ho hc, if_neg (not_not.mpr hw), if_neg (by rw [hs]; decide), if_neg (by rw [reachable_dmaTurn, hr]; decide), net, if_neg hq]
  generalize ht : ({ s.dmaTurn e i with net := { s.net with nextTag := s.net.nextTag + 1 } } : State) = t
  generalize s.net.nextTag * 2048 + e = tag at hq ⊢
  have kept : s.apart t ∧ t.flow d.flowId = s.flow d.flowId ∧ ((t.eng e).q i)[n]? = some d := by
    subst ht
    exact ⟨apart_trans (apart_of_held (held_dmaTurn true true true s e i)) ⟨rfl, rfl, fun _ _ => rfl⟩, rfl, place⟩
  clear ht
  obtain ⟨away, flow, place⟩ := kept
  have set := held_setDesc true true true t e i n { d with started := true, tag := tag }
  have same := (flow_of_held set d.flowId).trans flow
  rw [flowQueue_waits _ (by rw [same, hs]; decide) (by rw [same, hm]), same]
  refine ⟨?_, ?_, ?_⟩
  · exact apart_trans away (apart_trans (apart_of_held set) (apart_trans (apart_setFlow ..) (apart_of_held (held_flowTouch true true true ..))))
  · rw [flow_of_held (held_flowTouch true true true ..), flow_setFlow _ _ (by show (s.flow d.flowId).state ≠ 0; rw [hs]; decide), Flow.queued]
  · refine ⟨{ d with started := true, tag := tag }, ?_, rfl, rfl, rfl⟩
    rw [State.eng, dma_flowTouch]
    exact desc_setDesc place _

/-- A PUT or GET (5 or 6) with all its checks OK: on a page out of service, on an open flow without credit, on a failed flow. -/
theorem dmaFlow_outcomes (op : Nat) (he : s.engTakes e = true) (hp : s.dmaPick e = some (i, n, d)) (ho : d.opc = op)
    (hc : s.dmaCheck e d (decide ((s.flow d.flowId).state ≠ 0) && decide ((s.flow d.flowId).fn = d.fn)) = St.OK) :
    (s.workStatus (pXpt d.fn) ≠ St.OK → s.apart (s.dmaFlow e op []) ∧ (s.dmaFlow e op []).net = s.net
      ∧ ∃ y, (((s.dmaFlow e op []).eng e).q i)[n]? = some y ∧ y.started = true ∧ y.result = some (s.workStatus (pXpt d.fn)))
    ∧ (s.workStatus (pXpt d.fn) = St.OK → (s.flow d.flowId).state = 2 → s.apart (s.dmaFlow e op []) ∧ (s.dmaFlow e op []).net = s.net
      ∧ ∃ y, (((s.dmaFlow e op []).eng e).q i)[n]? = some y ∧ y.started = true ∧ y.result = some St.FLOW_FAILED) := by
  rw [dmaFlow_starts op he hp ho hc]
  refine ⟨fun hw => ?_, fun hw hs => ?_⟩
  · rw [if_pos hw]
    exact setDesc_ends hp _
  · rw [if_neg (not_not.mpr hw), if_pos hs]
    exact setDesc_ends hp _

/-- What the statement says of a PUT or GET, for the model's own step. -/
theorem dmaFlow_settles (op : Nat) {c : Instr} (hx : exec c s = .next (s.dmaFlow e op [])) (he : s.engTakes e = true)
    (hp : s.dmaPick e = some (i, n, d)) (ho : d.opc = op)
    (hc : s.dmaCheck e d (decide ((s.flow d.flowId).state ≠ 0) && decide ((s.flow d.flowId).fn = d.fn)) = St.OK) :
    (s.workStatus (pXpt d.fn) ≠ St.OK → ∃ t, exec c s = .next t ∧ s.apart t ∧ t.net = s.net
        ∧ ∃ y, ((t.eng e).q i)[n]? = some y ∧ y.started = true ∧ y.result = some (s.workStatus (pXpt d.fn)))
    ∧ (s.workStatus (pXpt d.fn) = St.OK →
    ((s.flow d.flowId).state = 1 → s.reachable (s.flow d.flowId).peerMaddr (s.flow d.flowId).vc = true → (s.flow d.flowId).maySend = false →
      d.requests (s.net.nextTag * 2048 + e) ≠ [] →
      ∃ t, exec c s = .next t ∧ s.apart t
        ∧ (t.flow d.flowId).waitq = (s.flow d.flowId).waitq ++ d.requests (s.net.nextTag * 2048 + e)
        ∧ (∀ r ∈ d.requests (s.net.nextTag * 2048 + e), r.len ≤ 4096)
        ∧ ∃ y, ((t.eng e).q i)[n]? = some y ∧ y.started = true ∧ y.result = d.result ∧ y.desc = d.desc)
    ∧ ((s.flow d.flowId).state = 2 → ∃ t, exec c s = .next t ∧ s.apart t ∧ t.net = s.net
        ∧ ∃ y, ((t.eng e).q i)[n]? = some y ∧ y.started = true ∧ y.result = some St.FLOW_FAILED)) := by
  obtain ⟨off, failed⟩ := dmaFlow_outcomes op he hp ho hc
  refine ⟨fun hw => ⟨_, hx, off hw⟩, fun hw => ⟨fun hs hr hm hq => ?_, fun hs => ⟨_, hx, failed hw hs⟩⟩⟩
  obtain ⟨away, waits, started⟩ := dmaFlow_waits op he hp ho hc hw hs hr hm hq
  exact ⟨_, hx, away, waits, len_requests _ _, started⟩

end

section
variable {s : State} {req fn : Nat}

/-- FLOW_CMD on a page that takes it, its last command done. -/
theorem flowCmd_settles (hw : s.mayWrite req (pXpt fn) = true) (hd : s.flag R.XPT_FLOW_RESULT_DONE (pXpt fn) = true) (ho : s.workStatus (pXpt fn) = St.OK)
    {id : Nat} (hid : id = s.rg R.XPT_FLOW_ID_FLOW_ID (pXpt fn)) (hs : (s.flow id).state ≠ 0) (hf : (s.flow id).fn = fn)
    (ht : Map.sorted natLt s.net.flows = true) :
    (∃ t, exec (.flowClose req fn) s = .next t ∧ t.flow id = Flow.free ∧ (∀ e, e ≠ id → t.flow e = s.flow e) ∧ s.apart t
      ∧ t.rg R.XPT_FLOW_RESULT_STATUS (pXpt fn) = St.OK)
    ∧ (∃ t, exec (.flowReset req fn) s = .next t ∧ (∀ e, e ≠ id → t.flow e = s.flow e) ∧ s.apart t ∧ t.rg R.XPT_FLOW_RESULT_STATUS (pXpt fn) = St.OK
      ∧ let y := t.flow id
        y.state = 1 ∧ y.synPend = true ∧ y.txNext = 0 ∧ y.rxNext = 0 ∧ y.sent = [] ∧ y.waitq = [] ∧ y.peerMaddr = (s.flow id).peerMaddr)
    ∧ (∃ t, exec (.flowRead req fn) s = .next t ∧ t.net = s.net ∧ s.apart t ∧ t.rg R.XPT_FLOW_RESULT_STATUS (pXpt fn) = St.OK
      ∧ t.rg R.XPT_FLOW_CTX_CTX (pXpt fn) = (s.flow id).image % 2 ^ 512) := by
  refine ⟨flowClose_closes hw hd ho hid hs hf ht, ?_, flowRead_shows hw hd ho hid hs hf⟩
  obtain ⟨t, hx, others, away, told, reset⟩ := flowReset_resets hw hd ho hid hs hf
  refine ⟨t, hx, others, away, told, ?_⟩
  rw [reset]
  exact ⟨rfl, rfl, rfl, rfl, rfl, rfl, rfl⟩

end

/-- Settles O27: frames that answer by `ackApply_moves` and `nakApply_keeps`, the timers, FLOW_CMD by `flowCmd_taken`, descriptors by `dmaFlow_starts`. -/
theorem flows : Obligations.Flows := by
  refine ⟨fun s vc id f => ⟨ack_answers, fun i => ack_stale, nak_answers, ackTimer_due, ackTimer_none, flowRto_retries⟩,
    fun s req fn hw hd => ⟨flowCmd_off hw hd, fun ho => ⟨flowOpen_opens hw hd ho rfl, flowOpen_full hw hd ho,
      flowCmd_settles hw hd ho rfl, flowCmd_denied hw hd ho⟩⟩, fun op hop s e i n d he hp ho hc => ?_⟩
  fin_cases hop
  · exact dmaFlow_settles 5 rfl he hp ho hc
  · exact dmaFlow_settles 6 rfl he hp ho hc

end Sys2Proof.Machine
end

section
/-!
SUPPORT. Resets: a reset that is requested of a unit in service, with none in progress, begins at once.
-/

namespace Sys2Proof.Machine
/-! ### A reset requested -/

/-- A reset as it is requested: not begun, not covered. -/
def RstOp.asked (level target : Nat) (withBits : Bool) : RstOp := ⟨level, target, [], withBits, false, false⟩

/-- What a request shows of itself before its reset begins: RESET_REQ, the incident's level, the reset in the list, CHIP_PEND. -/
def State.rstShown (s : State) (level target : Nat) (withBits : Bool) : State :=
  let s := (s.reqShow level target 1).incidentMap (fun i => { i with level := max i.level level })
  let s := { s with recov := { s.recov with resets := s.recov.resets ++ [RstOp.asked level target withBits] } }
  if level = 4 then s.wr R.KPR_RST_STATUS_CHIP_PEND pKpr 1 else s

/-- The dump that precedes a reset, where its function has one to write. -/
def State.rstDumped (s : State) (level target : Nat) (why : RstCause) : State :=
  match s.rstDump level target with
  | some fn => s.dumpCause fn why.kind level why.code why.page 0
  | none => s

/-- A request of a unit in service, with no other reset in progress. -/
theorem resetReqBy_alone {s : State} {level target : Nat} (withBits : Bool) (why : RstCause) (hr : s.recov.resets = [])
    (hf : level ≤ 2 → s.fencedP (unitPage target) = false) :
    s.resetReqBy level target withBits why = ((s.rstShown level target withBits).rstDumped level target why).rstTry (RstOp.asked level target withBits) := by
  have fenced : ¬(level ≤ 2 ∧ s.fencedP (unitPage target) = true) := fun h => by simp [hf h.1] at h
  have none : ((s.reqShow level target 1).incidentMap (fun i => { i with level := max i.level level })).recov.resets = [] := by
    unfold State.reqShow
    split <;> exact hr
  unfold State.resetReqBy
  rw [if_neg fenced, hr, List.any_nil, if_neg (by decide)]
  dsimp only
  rw [none, List.any_nil, if_neg (by decide), List.filter_nil, List.foldl_nil, State.rstShown]
  rfl

/-- The states of a request agree with the one it was made in but for what it shows, records and logs. -/
structure State.asks (s t : State) (r : RstOp) : Prop where
  rest : { t with regs := s.regs, log := s.log, recov := s.recov } = s
  resets : t.recov.resets = [r]
  dumps : t.recov.dumps = s.recov.dumps
  fenced : t.recov.fenced = s.recov.fenced
  regs : ∀ f i, f.id ∉ [R.HDR_CTRL_RESET_REQ.id, R.KPR_RST_STATUS_CHIP_PEND.id, R.HIF_DUMP_STATUS_STATUS.id] → t.rg f i = s.rg f i
  req : (r.level ≤ 2 → r.target < 0x1000) → t.rg R.HDR_CTRL_RESET_REQ (rstPage r.level r.target) = 1
  pend : r.level = 4 → t.rg R.KPR_RST_STATUS_CHIP_PEND pKpr = 1

theorem reqShow_rg_ne (s : State) (level target v : Nat) {f : Fld} (i : Nat) (h : f.id ≠ R.HDR_CTRL_RESET_REQ.id) :
    (s.reqShow level target v).rg f i = s.rg f i := by
  unfold State.reqShow
  split
  · rfl
  · exact State.rg_wr_fld _ _ _ _ h

theorem reqShow_rg_self (s : State) (level target v : Nat) (h : level ≤ 2 → target < 0x1000) :
    (s.reqShow level target v).rg R.HDR_CTRL_RESET_REQ (rstPage level target) = v % 2 := by
  unfold State.reqShow
  rw [if_neg (by omega)]
  exact State.rg_wr_self ..

theorem reqShow_regs (s : State) (level target v : Nat) : s.reqShow level target v = { s with regs := (s.reqShow level target v).regs } := by
  unfold State.reqShow
  split <;> rfl

/-- The registers that a request shows itself in. -/
def State.shownIn (s : State) (level target : Nat) : State :=
  if level = 4 then (s.reqShow level target 1).wr R.KPR_RST_STATUS_CHIP_PEND pKpr 1 else s.reqShow level target 1

theorem rstShown_eq (s : State) (level target : Nat) (withBits : Bool) : ∃ l, s.rstShown level target withBits =
    { s with
      regs := (s.shownIn level target).regs, log := l
      recov := { s.recov with resets := s.recov.resets ++ [RstOp.asked level target withBits] } } := by
  unfold State.rstShown State.shownIn
  dsimp only
  rw [reqShow_regs]
  split <;> exact ⟨_, rfl⟩

theorem asks_rstShown {s : State} (level target : Nat) (withBits : Bool) (hr : s.recov.resets = []) :
    s.asks (s.rstShown level target withBits) (RstOp.asked level target withBits) := by
  obtain ⟨l, eq⟩ := rstShown_eq s level target withBits
  rw [eq]
  refine ⟨rfl, by rw [hr]; rfl, rfl, rfl, fun f i hf => ?_, fun ht => ?_, fun h4 => ?_⟩
  · have own : f.id ≠ R.HDR_CTRL_RESET_REQ.id ∧ f.id ≠ R.KPR_RST_STATUS_CHIP_PEND.id :=
      ⟨fun h => hf (by simp [h]), fun h => hf (by simp [h])⟩
    change (s.shownIn level target).rg f i = s.rg f i
    unfold State.shownIn
    split
    · exact (State.rg_wr_fld _ _ _ _ own.2).trans (reqShow_rg_ne _ _ _ _ _ own.1)
    · exact reqShow_rg_ne _ _ _ _ _ own.1
  · change (s.shownIn level target).rg R.HDR_CTRL_RESET_REQ (rstPage level target) = 1
    unfold State.shownIn
    split
    · exact (State.rg_wr_fld _ _ _ _ (by decide)).trans (reqShow_rg_self s level target 1 ht)
    · exact reqShow_rg_self s level target 1 ht
  · change (s.shownIn level target).rg R.KPR_RST_STATUS_CHIP_PEND pKpr = 1
    rw [State.shownIn, if_pos (c := level = 4) h4]
    exact State.rg_wr_self ..

theorem asks_rstDumped {s t : State} {r : RstOp} (level target : Nat) (why : RstCause) (h : s.asks t r) (hd : s.recov.dumps = [])
    (hl : ∀ fn, s.rg R.HIF_DUMP_LEN_LEN (pHif fn) < 65536) : s.asks (t.rstDumped level target why) r := by
  unfold State.rstDumped
  split
  · next fn _ =>
    have none : t.dumpCause fn why.kind level why.code why.page 0 = t.wr R.HIF_DUMP_STATUS_STATUS (pHif fn) St.DUMP_NO_BUFFER := by
      have len : t.rg R.HIF_DUMP_LEN_LEN (pHif fn) < 65536 := by
        rw [h.regs _ _ (by decide)]
        exact hl fn
      unfold State.dumpCause
      rw [h.dumps, hd]
      exact if_pos len
    rw [none]
    exact {
      rest := h.rest, resets := h.resets, dumps := h.dumps, fenced := h.fenced
      regs := fun f i hf => (State.rg_wr_fld _ _ _ _ (fun he => hf (by simp [he]))).trans (h.regs f i hf)
      req := fun hp => (State.rg_wr_fld _ _ _ _ (by decide)).trans (h.req hp)
      pend := fun hp => (State.rg_wr_fld _ _ _ _ (by decide)).trans (h.pend hp) }
  · exact h

theorem rstTry_begins {t : State} {r : RstOp} (hd : t.recov.dumps = []) (hk : t.rg R.KPR_KSTATE_STATE pKpr ≠ 3) (hb : r.begun = false) (hc : r.covered = false) :
    t.rstTry r = t.rstBegin r := by
  unfold State.rstTry
  have free (fn : Nat) : (t.dumping fn || decide (t.rg R.KPR_KSTATE_STATE pKpr = 3)) = false := by
    rw [State.dumping, hd, List.any_nil, Bool.false_or]
    exact decide_eq_false hk
  dsimp only
  rw [if_neg]
  rw [hb, hc]
  split <;> simp [free]

/-- A reset of a unit in service with none in progress and no dump to precede it begins at once (R477, R485). -/
theorem resetReqBy_begins {s : State} (level target : Nat) (withBits : Bool) (why : RstCause) (hr : s.recov.resets = []) (hd : s.recov.dumps = [])
    (hk : s.rg R.KPR_KSTATE_STATE pKpr ≠ 3) (hl : ∀ fn, s.rg R.HIF_DUMP_LEN_LEN (pHif fn) < 65536)
    (hf : level ≤ 2 → s.fencedP (unitPage target) = false) :
    ∃ u, s.asks u (RstOp.asked level target withBits) ∧ s.resetReqBy level target withBits why = u.rstBegin (RstOp.asked level target withBits) := by
  have asks := asks_rstDumped level target why (asks_rstShown level target withBits hr) hd hl
  refine ⟨_, asks, ?_⟩
  rw [resetReqBy_alone withBits why hr hf]
  exact rstTry_begins (asks.dumps.trans hd) (by rwa [asks.regs _ _ (by decide)]) rfl rfl

end Sys2Proof.Machine
end

section
/-!
SUPPORT. What a reset below RST_CHIP keeps, and the state in which it is in progress.
-/

namespace Sys2Proof.Machine
/-! ### What a reset keeps of the view -/

/-- The bits of CTRL and STATUS that a reset, a quiesce and a disable write. -/
def serviceIds : List Nat := [R.HDR_CTRL_ENABLE.id, R.HDR_CTRL_QUIESCE.id, R.HDR_CTRL_SELFTEST_ALLOW.id, R.HDR_STATUS_QUIESCED.id]

/-- A view without the fields of `ids`, and without what waits to be disabled. -/
def Held.blur (ids : List Nat) (h : Held) : Held :=
  { h with disabling := [], regs := fun f i => if ids.contains f.id then 0 else h.regs f i }

/-- The view `State.held` without the fields of `ids`. -/
def State.duty (ids : List Nat) (s : State) : Held := (s.held false false false).blur ids

section
variable {ids : List Nat} {s t : State}

theorem duty_of_held (h : t.held false false false = s.held false false false) : t.duty ids = s.duty ids := congrArg (Held.blur ids) h

theorem duty_resets (h : t.duty ids = s.duty ids) : t.recov.resets = s.recov.resets := congrArg Held.resets h
theorem duty_fenced (h : t.duty ids = s.duty ids) : t.recov.fenced = s.recov.fenced := congrArg Held.fenced h
theorem duty_tbc (h : t.duty ids = s.duty ids) : t.tbc = s.tbc := congrArg Held.tbc h
theorem duty_quadOwner (h : t.duty ids = s.duty ids) : t.host.quadOwner = s.host.quadOwner := congrArg Held.quadOwner h
theorem duty_flr (h : t.duty ids = s.duty ids) : t.host.flr = s.host.flr := congrArg Held.flr h
theorem duty_fns (h : t.duty ids = s.duty ids) : t.host.fns = s.host.fns := congrArg Held.fns h
theorem duty_perst (h : t.duty ids = s.duty ids) : t.host.perst = s.host.perst := congrArg Held.perst h

theorem duty_rg (h : t.duty ids = s.duty ids) (f : Fld) (i : Nat) (hi : f.id ∉ ids) (hc : heldCell false false false f.id i = true) :
    t.rg f i = s.rg f i := by
  have cell : (t.duty ids).regs f i = (s.duty ids).regs f i := congrFun (congrFun (congrArg Held.regs h) f) i
  simpa [State.duty, Held.blur, State.held, hi, hc] using cell

/-- A field of the page header, on any page. -/
theorem duty_header (h : t.duty ids = s.duty ids) (f : Fld) (i : Nat) (hi : f.id ∉ ids)
    (hf : (heldId false false false f.id && decide (f.id < 32768)) = true) : t.rg f i = s.rg f i :=
  duty_rg h f i hi (by
    obtain ⟨hid, hhdr⟩ := Bool.and_eq_true_iff.mp hf
    simp [heldCell, hid, hhdr])

/-- A field of a page other than TOP's. -/
theorem duty_page (h : t.duty ids = s.duty ids) (f : Fld) {i : Nat} (hi : f.id ∉ ids) (hf : heldId false false false f.id = true) (hp : i ≠ pTop) :
    t.rg f i = s.rg f i :=
  duty_rg h f i hi (by simp [heldCell, hf, hp])

theorem duty_wr (f : Fld) (i v : Nat) (hf : f.id ∈ ids) : (s.wr f i v).duty ids = s.duty ids := by
  have cells : ((s.wr f i v).duty ids).regs = (s.duty ids).regs := by
    funext g j
    change (if ids.contains g.id then 0 else if heldCell false false false g.id j then (s.wr f i v).rg g j else 0)
      = if ids.contains g.id then 0 else if heldCell false false false g.id j then s.rg g j else 0
    split
    · rfl
    · next hg =>
      have other : g.id ≠ f.id := by
        intro h
        rw [h] at hg
        exact hg (List.contains_iff_mem.mpr hf)
      rw [State.rg_wr_fld s i j v other]
  rw [State.duty, State.duty, Held.blur, Held.blur, Held.mk.injEq]
  exact ⟨rfl, rfl, rfl, rfl, rfl, rfl, rfl, rfl, cells, rfl, rfl, rfl, rfl⟩

theorem duty_foldl {α : Type} (f : State → α → State) (h : ∀ s x, (f s x).duty ids = s.duty ids) (xs : List α) (s : State) :
    (xs.foldl f s).duty ids = s.duty ids := by
  induction xs generalizing s with
  | nil => rfl
  | cons x xs ih => exact (ih _).trans (h s x)

theorem duty_quiesceAbort (s : State) (p : Nat) : (s.quiesceAbort p).duty serviceIds = s.duty serviceIds := by
  have ended (xs : List (Nat × Nat)) (s : State) : (xs.foldl (fun s e => s.cmdResult e.1 e.2 St.ABORTED) s).duty serviceIds = s.duty serviceIds :=
    duty_foldl _ (fun _ _ => duty_of_held (held_cmdResult ..)) _ _
  have bit (s : State) : (s.wr R.HDR_CTRL_QUIESCE p 0).duty serviceIds = s.duty serviceIds := duty_wr _ _ _ (by decide)
  have first : (if s.disabling.any (fun e => decide (e.1 = p)) then { s.wr R.HDR_CTRL_QUIESCE p 0 with disabling := Map.del p s.disabling } else s : State).duty
      serviceIds = s.duty serviceIds := by
    split
    · exact bit s
    · rfl
  unfold State.quiesceAbort
  dsimp only
  generalize (if s.disabling.any (fun e => decide (e.1 = p)) then { s.wr R.HDR_CTRL_QUIESCE p 0 with disabling := Map.del p s.disabling } else s : State) = u
    at first ⊢
  split
  · split
    · exact (ended _ _).trans ((bit u).trans first)
    · exact (bit u).trans first
  · exact first

theorem flag_wr_inst (s : State) (f : Fld) {i j : Nat} (v : Nat) (h : j ≠ i) : (s.wr f i v).flag f j = s.flag f j := by
  rw [State.flag, State.rg_wr, if_neg (fun hc => h hc.2), State.flag]

/-- The pages of a unit in reset: out of service, and drained (R14). -/
def State.pagesOff (s : State) (pages : List Nat) : State := pages.foldl (fun s p => (s.wr R.HDR_CTRL_ENABLE p 0).wr R.HDR_STATUS_QUIESCED p 1) s

theorem duty_pagesOff (s : State) (pages : List Nat) : (s.pagesOff pages).duty serviceIds = s.duty serviceIds :=
  duty_foldl _ (fun _ _ => (duty_wr _ _ _ (by decide)).trans (duty_wr _ _ _ (by decide))) _ _

theorem rg_pagesOff (s : State) (pages : List Nat) (f : Fld) (i : Nat) (hf : f.id ∉ [R.HDR_CTRL_ENABLE.id, R.HDR_STATUS_QUIESCED.id]) :
    (s.pagesOff pages).rg f i = s.rg f i := by
  simp only [List.mem_cons, List.not_mem_nil, or_false, not_or] at hf
  unfold State.pagesOff
  induction pages generalizing s with
  | nil => rfl
  | cons p ps ih => exact (ih _).trans ((State.rg_wr_fld _ _ _ _ hf.2).trans (State.rg_wr_fld _ _ _ _ hf.1))

theorem pagesOff_off (s : State) {pages : List Nat} {p : Nat} (hp : p ∈ pages) :
    (s.pagesOff pages).enabled p = false ∧ (s.pagesOff pages).quiesced p = true := by
  have last (s : State) (q : Nat) (h : q = p ∨ (s.enabled p = false ∧ s.quiesced p = true)) :
      ((s.wr R.HDR_CTRL_ENABLE q 0).wr R.HDR_STATUS_QUIESCED q 1).enabled p = false
      ∧ ((s.wr R.HDR_CTRL_ENABLE q 0).wr R.HDR_STATUS_QUIESCED q 1).quiesced p = true := by
    by_cases hq : q = p
    · subst hq
      exact ⟨(flag_wr_fld _ _ _ _ (by decide)).trans (flag_wr_self _ _ _ _ rfl), flag_wr_self _ _ _ _ rfl⟩
    · obtain ⟨he, hd⟩ := h.resolve_left hq
      exact ⟨(flag_wr_fld _ _ _ _ (by decide)).trans ((flag_wr_inst s _ _ (Ne.symm hq)).trans he),
        (flag_wr_inst _ _ _ (Ne.symm hq)).trans ((flag_wr_fld _ _ _ _ (by decide)).trans hd)⟩
  have kept (ps : List Nat) (s : State) (h : s.enabled p = false ∧ s.quiesced p = true) :
      (s.pagesOff ps).enabled p = false ∧ (s.pagesOff ps).quiesced p = true := by
    induction ps generalizing s with
    | nil => exact h
    | cons q qs ih => exact ih _ (last s q (.inr h))
  induction pages generalizing s with
  | nil => cases hp
  | cons q qs ih =>
    obtain rfl | hq := List.mem_cons.mp hp
    · exact kept qs _ (last s p (.inl rfl))
    · exact ih _ hq

theorem pagesOff_rest (s : State) (pages : List Nat) : { s.pagesOff pages with regs := s.regs } = s := by
  unfold State.pagesOff
  induction pages generalizing s with
  | nil => rfl
  | cons p ps ih =>
    have step := ih ((s.wr R.HDR_CTRL_ENABLE p 0).wr R.HDR_STATUS_QUIESCED p 1)
    exact congrArg (fun t : State => { t with regs := s.regs }) step

/-! ### The beginning of a reset below RST_CHIP -/

/-- A reset in progress, begun and not covered by a higher one. -/
def State.begun (t : State) (level target : Nat) : Prop := ∃ r ∈ t.recov.resets, r.level = level ∧ r.target = target ∧ r.begun = true ∧ r.covered = false

/-- The pages that a reset puts out of service (R14). -/
def State.rstPages (s : State) (r : RstOp) : List Nat :=
  if r.level = 3 then s.partPages r.target else [r.target].filter (fun p => decide (p < 0x1000))

/-- What a reset below RST_CHIP clears, its pages' quiesces given up. -/
def State.rstWork (s : State) (r : RstOp) : State :=
  let s := (s.rstPages r).foldl State.quiesceAbort s
  if r.level = 3 then s.partReset r.target else if r.level = 2 then s.engReset r.target else s.ctxReset r.target

theorem duty_rstWork (s : State) (r : RstOp) : (s.rstWork r).duty serviceIds = s.duty serviceIds := by
  have given : ((s.rstPages r).foldl State.quiesceAbort s).duty serviceIds = s.duty serviceIds := duty_foldl _ duty_quiesceAbort _ _
  unfold State.rstWork
  dsimp only
  split
  · exact (duty_of_held (held_partReset ..)).trans given
  · split
    · exact (duty_of_held (held_engReset ..)).trans given
    · exact (duty_of_held (held_ctxReset ..)).trans given

/-- The state in which a reset below RST_CHIP is in progress. -/
def State.rstOn (s : State) (r r' : RstOp) : State :=
  { (s.rstWork r).pagesOff (s.rstPages r) with recov := { ((s.rstWork r).pagesOff (s.rstPages r)).recov with resets := [r'] } }

theorem rstBegin_low {r : RstOp} (h4 : r.level ≠ 4) (hr : s.recov.resets = [r]) :
    ∃ r', (r'.level = r.level ∧ r'.target = r.target ∧ r'.begun = true ∧ r'.covered = r.covered) ∧ s.rstBegin r = s.rstOn r r' := by
  have resets : ((s.rstWork r).pagesOff (s.rstPages r)).recov.resets = [r] :=
    (duty_resets ((duty_pagesOff ..).trans (duty_rstWork ..))).trans hr
  have eq : ∃ e, s.rstBegin r = { (s.rstWork r).pagesOff (s.rstPages r) with
      recov := { ((s.rstWork r).pagesOff (s.rstPages r)).recov with
        resets := ((s.rstWork r).pagesOff (s.rstPages r)).recov.resets.map
          (fun x => if x.level = r.level ∧ x.target = r.target then { r with begun := true, enables := e } else x) } } := by
    unfold State.rstBegin State.rstWork State.rstPages State.pagesOff
    simp only [if_neg h4]
    exact ⟨_, rfl⟩
  obtain ⟨e, eq⟩ := eq
  refine ⟨{ r with begun := true, enables := e }, ⟨rfl, rfl, rfl, rfl⟩, ?_⟩
  rw [eq, resets, List.map_singleton, if_pos ⟨rfl, rfl⟩, State.rstOn]

section
variable {r r' : RstOp}

theorem begun_rstOn (s : State) (h : r'.level = r.level ∧ r'.target = r.target ∧ r'.begun = true ∧ r'.covered = r.covered) (hc : r.covered = false) :
    (s.rstOn r r').begun r.level r.target :=
  ⟨r', List.mem_singleton_self r', h.1, h.2.1, h.2.2.1, h.2.2.2.trans hc⟩

/-- A reset leaves the registers as its clearing does, but for the bits of its pages. -/
theorem rg_rstOn (s : State) (r r' : RstOp) (f : Fld) (i : Nat) (hf : f.id ∉ [R.HDR_CTRL_ENABLE.id, R.HDR_STATUS_QUIESCED.id]) :
    (s.rstOn r r').rg f i = (s.rstWork r).rg f i :=
  rg_pagesOff _ _ _ _ hf

theorem off_rstOn (s : State) {p : Nat} (hp : p ∈ s.rstPages r) : (s.rstOn r r').enabled p = false ∧ (s.rstOn r r').quiesced p = true :=
  pagesOff_off _ hp

theorem cores_rstOn (s : State) (r r' : RstOp) : (s.rstOn r r').cores = (s.rstWork r).cores :=
  (congrArg State.cores (pagesOff_rest (s.rstWork r) (s.rstPages r)) :)
theorem sig_rstOn (s : State) (r r' : RstOp) : (s.rstOn r r').sig = (s.rstWork r).sig :=
  (congrArg State.sig (pagesOff_rest (s.rstWork r) (s.rstPages r)) :)
theorem host_rstOn (s : State) (r r' : RstOp) : (s.rstOn r r').host = (s.rstWork r).host :=
  (congrArg State.host (pagesOff_rest (s.rstWork r) (s.rstPages r)) :)

end

end

end Sys2Proof.Machine
end

section
/-!
SUPPORT. RST_CTX, and RST_ENG of a core.
-/

namespace Sys2Proof.Machine
/-! ### RST_CTX and RST_ENG -/

theorem blkOf_beyond {p : Nat} (h : 0xC00 ≤ p) : blkOf p = 0 := by
  unfold blkOf within
  simp only [Bool.and_eq_true, decide_eq_true_eq]
  repeat rw [if_neg (by omega)]

theorem blkOf_pCore {c : Nat} (h : c < 1024) : blkOf (pCore c) = 0x60 := by
  unfold blkOf within pCore
  simp only [Bool.and_eq_true, decide_eq_true_eq]
  repeat rw [if_neg (by omega)]
  rw [if_pos (by omega)]

theorem resetLevelOf_context {p : Nat} (h : resetLevelOf p = 1) : p < 0x1000 := by
  by_contra hp
  rw [resetLevelOf, blkOf_beyond (by omega)] at h
  exact absurd h (by decide)

theorem resetLevelOf_pCore {c : Nat} (h : c < 1024) : resetLevelOf (pCore c) = 2 := by
  rw [resetLevelOf, blkOf_pCore h]
  rfl

theorem rstPage_unit {p : Nat} (hp : p < 0x1000) {level : Nat} (h3 : level ≠ 3) (h4 : level ≠ 4) : rstPage level p = p := by
  rw [rstPage, if_neg h4, if_neg h3, unitPage, if_pos hp]

/-- What every state agrees on in which a reset below RST_CHIP has just begun: the reset is in progress, its request shows, its pages are off. -/
structure State.resetting (s : State) (r : RstOp) (u t : State) : Prop where
  asked : s.asks u r
  begun : t.begun r.level r.target
  on : ∃ r', t = u.rstOn r r'

/-- A request below RST_CHIP that begins at once. -/
theorem resetReq_resetting {s : State} {level target : Nat} (withBits : Bool) (h4 : level ≠ 4) (hr : s.recov.resets = []) (hd : s.recov.dumps = [])
    (hk : s.rg R.KPR_KSTATE_STATE pKpr ≠ 3) (hl : ∀ fn, s.rg R.HIF_DUMP_LEN_LEN (pHif fn) < 65536)
    (hf : level ≤ 2 → s.fencedP (unitPage target) = false) :
    ∃ u, s.resetting (RstOp.asked level target withBits) u (s.resetReq level target withBits) := by
  obtain ⟨u, asks, eq⟩ := resetReqBy_begins level target withBits ⟨2, St.OK, rstPage level target⟩ hr hd hk hl hf
  obtain ⟨r', hr', on⟩ := rstBegin_low (s := u) (r := RstOp.asked level target withBits) h4 asks.resets
  have step : s.resetReq level target withBits = u.rstOn (RstOp.asked level target withBits) r' := eq.trans on
  exact ⟨u, asks, step ▸ begun_rstOn u hr' rfl, r', step⟩

section
variable {s u t : State} {r : RstOp}

/-- RESET_REQ reads 1 on the unit's page, which is out of service (R13). -/
theorem resetting_page (h : s.resetting r u t) {p : Nat} (hp : p < 0x1000) (ht : r.target = p) (h2 : r.level = 1 ∨ r.level = 2) :
    t.rg R.HDR_CTRL_RESET_REQ p = 1 ∧ t.enabled p = false ∧ t.quiesced p = true := by
  obtain ⟨asks, -, r', rfl⟩ := h
  have page : rstPage r.level r.target = p := by rw [ht, rstPage_unit hp (by omega) (by omega)]
  have mem : p ∈ u.rstPages r := by
    rw [State.rstPages, if_neg (by omega), ht]
    simp [hp]
  refine ⟨?_, off_rstOn u mem⟩
  rw [rg_rstOn _ _ _ _ _ (by decide), duty_header (duty_rstWork u r) _ _ (by decide) (by decide), ← page]
  exact asks.req (fun _ => ht ▸ hp)

end

/-! ### A core -/

/-- A core that RST_ENG has cleared: generators, descriptors and norm slots at zero (R160). -/
structure Core.cleared (k : Core) : Prop where
  rng : ∀ j, k.rngState j = 0
  tap : ∀ j, k.rngTap j = 0
  desc : ∀ j, NMap.get 0 k.t j = 0
  slot : ∀ j, k.nwSlot j = NwSlot.clear

theorem cleared_coreClear (s : State) (c : Nat) : ((s.coreClear c).core c).cleared := by
  have core : (s.coreClear c).core c = { Core.init with
      fill := s.free + 1, accFill := (List.range 8).map (fun b => (b, s.free + 1)), foldSeen := (s.core c).foldSeen
      kat := { Kat.none with fencing := (s.core c).kat.fencing, due := (s.core c).kat.due, redo := (s.core c).kat.redo } } := State.core_setCore ..
  rw [core]
  exact ⟨fun _ => rfl, fun _ => rfl, fun _ => rfl, fun _ => rfl⟩

theorem corePageClear_idle (s : State) (c : Nat) : (s.corePageClear c).runState c = 0 ∧ (s.corePageClear c).pc c = 0 := by
  unfold State.corePageClear State.runState State.pc
  refine ⟨?_, ?_⟩
  · iterate 6 rw [State.rg_wr_fld _ _ _ _ (by decide)]
    exact State.rg_wr_self ..
  · iterate 7 rw [State.rg_wr_fld _ _ _ _ (by decide)]
    exact State.rg_wr_self ..

/-- RST_ENG of a core clears it last. -/
theorem engReset_pCore (s : State) {c : Nat} (h : c < 1024) : ∃ w : State, s.engReset (pCore c) = (w.coreClear c).corePageClear c := by
  have core : pCore c - 0x200 = c := Nat.add_sub_cancel_left ..
  unfold State.engReset
  rw [blkOf_pCore h]
  dsimp only
  rw [core]
  exact ⟨_, rfl⟩

theorem resetting_core {s u t : State} {c : Nat} {w : Bool} (hc : c < 1024) (h : s.resetting (RstOp.asked 2 (pCore c) w) u t) :
    t.runState c = 0 ∧ t.pc c = 0 ∧ (t.core c).cleared := by
  obtain ⟨-, -, r', rfl⟩ := h
  obtain ⟨v, eq⟩ := engReset_pCore ((u.rstPages (RstOp.asked 2 (pCore c) w)).foldl State.quiesceAbort u) hc
  have work : u.rstWork (RstOp.asked 2 (pCore c) w) = (v.coreClear c).corePageClear c := eq
  obtain ⟨run, pc⟩ := corePageClear_idle (v.coreClear c) c
  refine ⟨?_, ?_, ?_⟩
  · rw [State.runState, rg_rstOn _ _ _ _ _ (by decide), work]
    exact run
  · rw [State.pc, rg_rstOn _ _ _ _ _ (by decide), work]
    exact pc
  · rw [State.core, cores_rstOn, work]
    exact cleared_coreClear v c

section
variable {s : State} (hr : s.recov.resets = []) (hd : s.recov.dumps = []) (hk : s.rg R.KPR_KSTATE_STATE pKpr ≠ 3)
  (hl : ∀ fn, s.rg R.HIF_DUMP_LEN_LEN (pHif fn) < 65536)
include hr hd hk hl

theorem rstCtx_begins {p : Nat} (hp : resetLevelOf p = 1) (hf : s.fencedP p = false) : ∃ t, exec (.rstCtx p) s = .next t ∧ t.begun 1 p
    ∧ t.rg R.HDR_CTRL_RESET_REQ p = 1 ∧ t.enabled p = false ∧ t.quiesced p = true := by
  have page := resetLevelOf_context hp
  obtain ⟨u, h⟩ := resetReq_resetting (level := 1) (target := p) false (by decide) hr hd hk hl (fun _ => by rwa [unitPage, if_pos page])
  exact ⟨_, congrArg Host.Outcome.next (if_pos hp), h.begun, resetting_page h page rfl (.inl rfl)⟩

theorem rstEng_core {c : Nat} (hc : c < 1024) (hf : s.fencedP (pCore c) = false) :
    ∀ i ∈ ([.rstEng ⟨pCore c, none⟩, .ctrlResetReq 0 (pCore c) 0] : List Instr), (i = .rstEng ⟨pCore c, none⟩ ∨ s.mayWrite 0 (pCore c) = true) →
      ∃ t, exec i s = .next t ∧ t.begun 2 (pCore c) ∧ t.rg R.HDR_CTRL_RESET_REQ (pCore c) = 1
        ∧ t.enabled (pCore c) = false ∧ t.quiesced (pCore c) = true ∧ t.runState c = 0 ∧ t.pc c = 0
        ∧ (∀ j, (t.core c).rngState j = 0 ∧ (t.core c).rngTap j = 0 ∧ NMap.get 0 (t.core c).t j = 0 ∧ (t.core c).nwSlot j = NwSlot.clear) := by
  have page : pCore c < 0x1000 := by
    unfold pCore
    omega
  have level := resetLevelOf_pCore hc
  obtain ⟨u, h⟩ := resetReq_resetting (level := 2) (target := pCore c) false (by decide) hr hd hk hl (fun _ => by rwa [unitPage, if_pos page])
  obtain ⟨req, off, still⟩ := resetting_page h page rfl (.inr rfl)
  obtain ⟨run, pc, core⟩ := resetting_core hc h
  have asked : ∀ i ∈ ([.rstEng ⟨pCore c, none⟩, .ctrlResetReq 0 (pCore c) 0] : List Instr), (i = .rstEng ⟨pCore c, none⟩ ∨ s.mayWrite 0 (pCore c) = true) →
      exec i s = .next (s.resetReq 2 (pCore c) false) := by
    intro i hi hw
    fin_cases hi
    · change execRstEng ⟨pCore c, none⟩ s = _
      rw [execRstEng]
      exact congrArg Host.Outcome.next (if_neg (not_not.mpr level))
    · have write : s.mayWrite 0 (pCore c) = true := hw.resolve_left Instr.noConfusion
      change execCtrlResetReq 0 (pCore c) 0 s = _
      rw [execCtrlResetReq, if_pos write, State.ctrlReset]
      rw [level]
      rfl
  exact fun i hi hw => ⟨_, asked i hi hw, h.begun, req, off, still, run, pc, fun j => ⟨core.rng j, core.tap j, core.desc j, core.slot j⟩⟩

end

end Sys2Proof.Machine
end

section
/-!
SUPPORT. What RST_ENG of an array clears, and what it leaves.
-/

namespace Sys2Proof.Machine
/-! ### Banks -/

theorem Map.get_filter {κ α : Type} [DecidableEq κ] (d : α) (p : κ × α → Bool) {k : κ} (hp : ∀ v, p (k, v) = true) (m : Map κ α) :
    Map.get d (m.filter p) k = Map.get d m k := by
  induction m with
  | nil => rfl
  | cons e m ih =>
    obtain ⟨j, v⟩ := e
    by_cases hj : j = k
    · subst hj
      simp [hp, Map.get]
    · by_cases hv : p (j, v) = true
      · simp [hv, Map.get, hj, ih]
      · simp [hv, Map.get, hj, ih]

theorem accKey_bank (b : Nat) {m n : Nat} (hm : m < 64) (hn : n < 64) : accKey b m n / 4096 = b := by
  unfold accKey
  omega

theorem rdA_dropBank (k : Core) (fill : Nat) {b bank m n : Nat} (hb : b ≠ bank) (hm : m < 64) (hn : n < 64) :
    (k.dropBank bank fill).rdA b m n = k.rdA b m n := by
  have kept : ∀ v : Ewa, decide ((accKey b m n, v).1 / 4096 ≠ bank) = true := fun v => by simp [accKey_bank b hm hn, hb]
  have filled : NMap.get 0 (k.dropBank bank fill).accFill b = NMap.get 0 k.accFill b := NMap.get_put_ne _ _ _ hb
  simp only [Core.rdA, filled]
  exact Map.get_filter _ _ kept _

/-- The banks of an array's two buffers. -/
theorem banks_array {a : Nat} (ha : a < 4) : onesBelow 8 (3 * 4 ^ a) = [2 * a, 2 * a + 1] := by
  interval_cases a <;> decide

/-! ### RST_ENG of an array -/

/-- What the sequencers of a core have in progress: an MMA, and the arrays under test. -/
def Core.units (k : Core) : Option MmaRun × Nat := (k.mma, k.kat.todo)

theorem units_setCore (s : State) (d : Nat) {x : Core} (h : x.units = (s.core d).units) (c : Nat) : ((s.setCore d x).core c).units = (s.core c).units := by
  by_cases hc : c = d
  · rw [hc, State.core_setCore, h]
  · rw [State.core_setCore_ne _ _ hc]

theorem units_foldl {α : Type} (c : Nat) (f : State → α → State) (h : ∀ s x, ((f s x).core c).units = (s.core c).units) (xs : List α) (s : State) :
    ((xs.foldl f s).core c).units = (s.core c).units := by
  induction xs generalizing s with
  | nil => rfl
  | cons x xs ih => exact (ih _).trans (h s x)

theorem units_of_held {l e : Bool} {s t : State} (h : t.held true l e = s.held true l e) (c : Nat) : (t.core c).units = (s.core c).units := by
  rw [State.core, State.core, held_cores h]

theorem units_unmove (s : State) (u : Nat × List Nat × List Nat × Bool) (c : Nat) : ((s.unmove u).core c).units = (s.core c).units := by
  unfold State.unmove
  dsimp only
  split
  · unfold State.putBack
    dsimp only
    split <;> simp [State.core, State.setWcb, State.freeVal]
  · rfl

theorem units_descAbort (s : State) (e : Nat) (d : DmaDesc) (c : Nat) : ((s.descAbort e d).core c).units = (s.core c).units := by
  have back : ((d.undo.foldl State.unmove s).core c).units = (s.core c).units := units_foldl c _ (fun s u => units_unmove s u c) _ _
  unfold State.descAbort
  extract_lets s1 net s2 core s3 s4
  have lost : (s3.core c).units = (s1.core c).units := by
    have flows : (s2.core c).units = (s1.core c).units := by
      dsimp only [s2]
      split <;> rfl
    dsimp only [s3]
    split
    · exact (units_setCore s2 d.core (by rfl) c).trans flows
    · exact flows
  have rng : (s4.core c).units = (s3.core c).units := by
    dsimp only [s4]
    split
    · exact units_of_held (held_engRngEnd true true true ..) c
    · rfl
  have told := units_of_held ((held_trace (n := true) (l := true) (s4.stepNote d.fn St.ABORTED) d.fn 2 0x0C13 (St.ABORTED + d.sig * 2 ^ 16) (pEng e) false
    (attrOf d.layer d.op 0)).trans (held_stepNote (n := true) (l := true) (e := false) ..)) c
  exact told.trans (rng.trans (lost.trans back))

theorem units_dmaAbort (s : State) (e : Nat) (sel : Nat → DmaDesc → Bool) (c : Nat) : ((s.dmaAbort e sel).core c).units = (s.core c).units := by
  unfold State.dmaAbort
  dsimp only
  split
  · rfl
  · rw [units_of_held (held_raise (n := true) (l := true) ..), units_foldl c _ (fun s d => units_descAbort s e d c),
      units_of_held (held_putEng true true true ..)]

theorem units_ctxAbort (s : State) (d c : Nat) : ((s.ctxAbort d).core c).units = (s.core c).units := by
  unfold State.ctxAbort
  split
  · rfl
  · dsimp only
    rw [units_of_held (held_raise (n := true) (l := true) ..)]
    exact units_setCore s d (by rfl) c

theorem units_kernelOver (s : State) (d st c : Nat) : ((s.kernelOver d st).core c).units = (s.core c).units := by
  have ended := units_setCore s d (x := { s.core d with launch := none, ended := none, wait := none }) (by rfl) c
  unfold State.kernelOver
  dsimp only
  split
  · exact ended
  · rw [units_of_held (held_cmdMap true true true ..), units_of_held (held_trace (n := true) (l := true) ..)]
    exact ended

/-- With `links` the view shows whether a core runs an MMA. -/
theorem held_mmaActive {s t : State} (h : t.held false true false = s.held false true false) (c : Nat) :
    t.rg R.CORE_RUN_STATUS_MMA_ACTIVE (pCore c) = s.rg R.CORE_RUN_STATUS_MMA_ACTIVE (pCore c) := by
  have shown : heldId false true false R.CORE_RUN_STATUS_MMA_ACTIVE.id = true := by decide
  exact held_rg_at h _ _ (by simp [heldCell, shown, pCore, pTop])

theorem unitsStop_stops {s : State} {c : Nat} (hm : (s.core c).mma ≠ none) :
    ((s.unitsStop c).core c).units = (none, (s.core c).kat.todo) ∧ (s.unitsStop c).rg R.CORE_RUN_STATUS_MMA_ACTIVE (pCore c) = 0 := by
  have work : (s.core c).atWork = true := by
    rw [Core.atWork, Option.isSome_iff_ne_none.mpr hm]
    rfl
  unfold State.unitsStop
  rw [if_pos work]
  dsimp only
  refine ⟨?_, ?_⟩
  · rw [units_of_held (held_katShow true true true ..), units_of_held (held_busyShow true true true ..)]
    change ((s.setCore c _).core c).units = _
    rw [State.core_setCore]
    rfl
  · rw [held_mmaActive (held_katShow false true false ..), held_mmaActive (held_busyShow false true false ..)]
    exact State.rg_wr_self ..

/-- A kernel that is given up leaves no MMA (R166, R168). -/
theorem kernelAbort_stops {s : State} {c : Nat} (hm : (s.core c).mma ≠ none) (hr : s.runState c ≠ 0) :
    ((s.kernelAbort c).core c).units = (none, (s.core c).kat.todo) ∧ (s.kernelAbort c).rg R.CORE_RUN_STATUS_MMA_ACTIVE (pCore c) = 0 := by
  obtain ⟨units, active⟩ := unitsStop_stops hm
  unfold State.kernelAbort
  rw [if_neg (fun h => hr h.2)]
  dsimp only
  refine ⟨?_, ?_⟩
  · rw [units_kernelOver, units_setCore _ _ (by rfl), units_dmaAbort, units_dmaAbort, units_ctxAbort, units]
  · rw [held_mmaActive (held_kernelOver true ..), held_mmaActive (held_setCore ..), held_mmaActive (held_dmaAbort true ..),
      held_mmaActive (held_dmaAbort true ..), held_mmaActive (held_ctxAbort true ..), active]

/-! ### What RST_ENG of an array clears -/

/-- The test of an array given up: its part in RST_ENG of that array. -/
def State.katGiven (s : State) (c a : Nat) : State :=
  if bit (s.core c).kat.todo a then
    (s.wr R.CORE_KAT_STATUS_ABANDONED (pCore c) (setBit (s.rg R.CORE_KAT_STATUS_ABANDONED (pCore c)) a)).katOver c a
  else s

theorem bit_clrBit_self (v k : Nat) : bit (clrBit v k) k = false := by
  unfold clrBit
  split
  · next h =>
    simp only [bit, beq_iff_eq] at h
    have one : 2 ^ k * 1 ≤ v := by
      by_contra hv
      rw [Nat.div_eq_of_lt (by omega)] at h
      exact absurd h (by decide)
    have less : (v - 2 ^ k) / 2 ^ k = v / 2 ^ k - 1 := by simpa using Nat.sub_mul_div v (2 ^ k) 1
    simp only [bit, less, beq_eq_false_iff_ne, ne_eq]
    omega
  · next h => simpa using h

/-- A test record without the part of an array. -/
def Kat.given (k : Kat) (a : Nat) : Kat :=
  { k with todo := clrBit k.todo a, active := clrBit k.active a, failedOnce := clrBit k.failedOnce a }

/-- The test given up, the core's other parts and the other cores stay. -/
structure State.atArray (s t : State) (c a : Nat) (k : Core) : Prop where
  core : ∃ kat, t.core c = { k with kat := kat } ∧ bit kat.todo a = false
  others : ∀ e, e ≠ c → t.core e = s.core e
  run : ∀ d, t.runState d = s.runState d

theorem runState_katShow (s : State) (c d : Nat) : (s.katShow c).runState d = s.runState d := by
  have rg (s : State) (f : Fld) (i v : Nat) (hf : R.CORE_RUN_STATUS_STATE.id ≠ f.id) : (s.wr f i v).runState d = s.runState d :=
    State.rg_wr_fld _ _ _ _ hf
  unfold State.katShow
  dsimp only
  split
  · rw [rg _ _ _ _ (by decide), State.wrB_eq, rg _ _ _ _ (by decide), rg _ _ _ _ (by decide)]
  · rw [State.wrB_eq, rg _ _ _ _ (by decide), rg _ _ _ _ (by decide)]

theorem atArray_katGiven (s : State) (c a : Nat) : s.atArray (s.katGiven c a) c a (s.core c) := by
  unfold State.katGiven
  split
  · have shown (x : State) : (x.katShow c).cores = x.cores := held_cores (held_katShow true true true x c)
    refine ⟨⟨(s.core c).kat.given a, ?_, bit_clrBit_self _ a⟩, fun e he => ?_, fun d => ?_⟩
    · exact (congrArg (fun m => NMap.get Core.init m c) (shown _)).trans (State.core_setCore ..)
    · exact (congrArg (fun m => NMap.get Core.init m e) (shown _)).trans (State.core_setCore_ne _ _ he)
    · exact (runState_katShow ..).trans (State.rg_wr_fld _ _ _ _ (by decide))
  · next h => exact ⟨⟨(s.core c).kat, rfl, by simpa using h⟩, fun _ _ => rfl, fun _ => rfl⟩

/-- Banks dropped: the others' entries stay, and all else of the core. -/
structure Core.banksLost (k k' : Core) (a : Nat) : Prop where
  s : k'.s = k.s
  v : k'.v = k.v
  t : k'.t = k.t
  kat : k'.kat = k.kat
  banks : ∀ b m n, b / 2 ≠ a → m < 64 → n < 64 → k'.rdA b m n = k.rdA b m n

theorem banksLost_array (k : Core) (fill : Nat) {a : Nat} (ha : a < 4) :
    k.banksLost ((onesBelow 8 (3 * 4 ^ a)).foldl (fun x b => x.dropBank b fill) k) a := by
  rw [banks_array ha]
  refine ⟨rfl, rfl, rfl, rfl, fun b m n hb hm hn => ?_⟩
  exact (rdA_dropBank _ fill (by omega) hm hn).trans (rdA_dropBank k fill (by omega) hm hn)

theorem core_loseBanks (s : State) (c banks : Nat) : (s.loseBanks c banks).core c = (onesBelow 8 banks).foldl (fun x b => x.dropBank b (s.free + 1)) (s.core c) :=
  State.core_setCore ..

theorem core_loseBanks_ne (s : State) (banks : Nat) {c e : Nat} (h : e ≠ c) : (s.loseBanks c banks).core e = s.core e :=
  State.core_setCore_ne _ _ h

theorem units_loseBanks (s : State) (c banks : Nat) : ((s.loseBanks c banks).core c).units = (s.core c).units := by
  have dropped (bs : List Nat) (k : Core) : (bs.foldl (fun x b => x.dropBank b (s.free + 1)) k).units = k.units := by
    induction bs generalizing k with
    | nil => rfl
    | cons b bs ih => exact (ih _).trans rfl
  rw [core_loseBanks, dropped]

/-- An array's buffers without those of the array in reset. -/
def Core.unfed (k : Core) (a : Nat) : Core :=
  { k with br := k.br.filter (fun e => decide (e.1 / 2 ≠ a)), fq := k.fq.filter (fun e => decide (e.1 / 8 ≠ a)) }

/-- The MMA of a core given up, with the banks it wrote. -/
def State.mmaGiven (s : State) (c : Nat) (k : Core) : State := if k.mma.isSome then (s.loseBanks c k.mmaBanks).kernelAbort c else s

theorem arrReset_eq (s : State) (c a : Nat) : s.arrReset c a =
    ((((s.katGiven c a).mmaGiven c (s.core c)).loseBanks c (3 * 4 ^ a)).setCore c
      (((((s.katGiven c a).mmaGiven c (s.core c)).loseBanks c (3 * 4 ^ a)).core c).unfed a)) := rfl

theorem arrReset_busy {s : State} {c a : Nat} (hm : (s.core c).mma ≠ none) (hr : s.runState c ≠ 0) :
    ((s.arrReset c a).core c).mma = none ∧ bit ((s.arrReset c a).core c).kat.todo a = false
      ∧ (s.arrReset c a).rg R.CORE_RUN_STATUS_MMA_ACTIVE (pCore c) = 0 := by
  obtain ⟨⟨kat, core, todo⟩, -, run⟩ := atArray_katGiven s c a
  have lost := units_loseBanks (s.katGiven c a) c (s.core c).mmaBanks
  rw [core] at lost
  obtain ⟨hmma, hkat⟩ := Prod.mk.inj lost
  obtain ⟨units, active⟩ := kernelAbort_stops (s := (s.katGiven c a).loseBanks c (s.core c).mmaBanks) (c := c) (by rw [hmma]; exact hm)
    (by rw [show ((s.katGiven c a).loseBanks c (s.core c).mmaBanks).runState c = (s.katGiven c a).runState c from rfl, run]; exact hr)
  have given : (s.katGiven c a).mmaGiven c (s.core c) = ((s.katGiven c a).loseBanks c (s.core c).mmaBanks).kernelAbort c :=
    if_pos (Option.isSome_iff_ne_none.mpr hm)
  have final := units_loseBanks (((s.katGiven c a).loseBanks c (s.core c).mmaBanks).kernelAbort c) c (3 * 4 ^ a)
  rw [units, hkat] at final
  obtain ⟨fmma, fkat⟩ := Prod.mk.inj final
  rw [arrReset_eq, given, State.core_setCore]
  refine ⟨fmma, ?_, ?_⟩
  · rw [Core.unfed, fkat]
    exact todo
  · exact active

theorem arrReset_idle {s : State} {c a : Nat} (ha : a < 4) (hm : (s.core c).mma = none) :
    bit ((s.arrReset c a).core c).kat.todo a = false
    ∧ (∀ b m n, b / 2 ≠ a → m < 64 → n < 64 → ((s.arrReset c a).core c).rdA b m n = (s.core c).rdA b m n)
    ∧ (∀ w ∈ ((s.arrReset c a).core c).br, w.1 / 2 ≠ a) ∧ (∀ q ∈ ((s.arrReset c a).core c).fq, q.1 / 8 ≠ a)
    ∧ ((s.arrReset c a).core c).s = (s.core c).s ∧ ((s.arrReset c a).core c).v = (s.core c).v ∧ ((s.arrReset c a).core c).t = (s.core c).t
    ∧ s.sameCores (s.arrReset c a) c := by
  obtain ⟨⟨kat, core, todo⟩, others, -⟩ := atArray_katGiven s c a
  have given : (s.katGiven c a).mmaGiven c (s.core c) = s.katGiven c a := if_neg (by rw [hm]; decide)
  have lost := banksLost_array ((s.katGiven c a).core c) ((s.katGiven c a).free + 1) ha
  rw [← core_loseBanks, core] at lost
  have eq : (s.arrReset c a).core c = (((s.katGiven c a).loseBanks c (3 * 4 ^ a)).core c).unfed a := by
    rw [arrReset_eq, given, State.core_setCore]
  rw [eq]
  generalize ((s.katGiven c a).loseBanks c (3 * 4 ^ a)).core c = k at lost
  obtain ⟨ls, lv, lt, lkat, banks⟩ := lost
  refine ⟨?_, fun b m n hb hm hn => banks b m n hb hm hn, fun w hw => ?_, fun q hq => ?_, ?_, ?_, ?_, fun e he => ?_⟩
  · exact (congrArg (fun x => bit x.todo a) lkat).trans todo
  · simpa using (List.mem_filter.mp hw).2
  · simpa using (List.mem_filter.mp hq).2
  · exact ls
  · exact lv
  · exact lt
  · rw [arrReset_eq, given, State.core_setCore_ne _ _ he, core_loseBanks_ne _ _ he, others e he]

end Sys2Proof.Machine
end

section
/-!
SUPPORT. RST_ENG of an array.
-/

namespace Sys2Proof.Machine
/-! ### RST_ENG of an array -/

section
variable {s u t : State} {c a : Nat}

theorem pArr_parts (ha : a < 4) : (pArr c a - 0x1000) / 4 = c ∧ (pArr c a - 0x1000) % 4 = a := by
  unfold pArr
  omega

theorem unitPage_pArr (ha : a < 4) : unitPage (pArr c a) = pCore c := by
  have beyond : ¬pArr c a < 0x1000 := by
    unfold pArr
    omega
  rw [unitPage, if_neg beyond, (pArr_parts ha).1]

theorem engReset_pArr (s : State) (ha : a < 4) : s.engReset (pArr c a) = s.arrReset c a := by
  have beyond : 0xC00 ≤ pArr c a := by
    unfold pArr
    omega
  have page : ¬pArr c a < 0x1000 := by
    unfold pArr
    omega
  have drop : s.testsDrop (pArr c a) = s := by
    unfold State.testsDrop
    rw [blkOf_beyond beyond]
    rfl
  unfold State.engReset
  rw [drop, blkOf_beyond beyond]
  dsimp only
  rw [if_neg page, (pArr_parts ha).1, (pArr_parts ha).2]
  rfl

/-- The cores and registers as RST_ENG of an array leaves them: its page is the core's, which stays in service. -/
theorem resetting_array {w : Bool} (ha : a < 4) (h : s.resetting (RstOp.asked 2 (pArr c a) w) u t) :
    t.cores = (u.arrReset c a).cores ∧ (∀ f i, t.rg f i = (u.arrReset c a).rg f i) := by
  obtain ⟨-, -, r', rfl⟩ := h
  have none : u.rstPages (RstOp.asked 2 (pArr c a) w) = [] := by
    have beyond : ¬pArr c a < 0x1000 := by
      unfold pArr
      omega
    simp [State.rstPages, RstOp.asked, beyond]
  have work : u.rstWork (RstOp.asked 2 (pArr c a) w) = u.arrReset c a := by
    have eq : u.rstWork (RstOp.asked 2 (pArr c a) w)
        = ((u.rstPages (RstOp.asked 2 (pArr c a) w)).foldl State.quiesceAbort u).engReset (pArr c a) := rfl
    rw [eq, none, List.foldl_nil, engReset_pArr _ ha]
  refine ⟨by rw [cores_rstOn, work], fun f i => ?_⟩
  change ((u.rstWork _).pagesOff (u.rstPages _)).rg f i = _
  rw [none, work]
  rfl

theorem asks_cores {r : RstOp} (h : s.asks u r) : u.cores = s.cores := (congrArg State.cores h.rest :)

section
variable (hr : s.recov.resets = []) (hd : s.recov.dumps = []) (hk : s.rg R.KPR_KSTATE_STATE pKpr ≠ 3)
  (hl : ∀ fn, s.rg R.HIF_DUMP_LEN_LEN (pHif fn) < 65536)
include hr hd hk hl

theorem rstEng_array (hc : c < 1024) (ha : a < 4) (hf : s.fencedP (pCore c) = false) :
    ∃ u, s.asks u (RstOp.asked 2 (pArr c a) false) ∧ ∃ t, exec (.rstEng ⟨pCore c, some a⟩) s = .next t ∧ t.begun 2 (pArr c a)
      ∧ t.cores = (u.arrReset c a).cores ∧ ∀ f i, t.rg f i = (u.arrReset c a).rg f i := by
  obtain ⟨u, h⟩ := resetReq_resetting (level := 2) (target := pArr c a) false (by decide) hr hd hk hl (fun _ => by rwa [unitPage_pArr ha])
  refine ⟨u, h.asked, _, ?_, h.begun, resetting_array ha h⟩
  have core : pCore c - 0x200 = c := Nat.add_sub_cancel_left ..
  change execRstEng ⟨pCore c, some a⟩ s = _
  rw [execRstEng]
  dsimp only
  rw [if_neg (not_not.mpr (resetLevelOf_pCore hc)), if_pos ⟨blkOf_pCore hc, ha⟩, core]

theorem rstEng_busy (hc : c < 1024) (ha : a < 4) (hf : s.fencedP (pCore c) = false) (hm : (s.core c).mma ≠ none) (hrun : s.runState c ≠ 0) :
    ∃ t, exec (.rstEng ⟨pCore c, some a⟩) s = .next t ∧ t.begun 2 (pArr c a)
      ∧ (t.core c).mma = none ∧ bit (t.core c).kat.todo a = false ∧ t.rg R.CORE_RUN_STATUS_MMA_ACTIVE (pCore c) = 0 := by
  obtain ⟨u, asks, t, hx, begun, cores, regs⟩ := rstEng_array hr hd hk hl hc ha hf
  have same : u.core c = s.core c := by rw [State.core, State.core, asks_cores asks]
  obtain ⟨mma, todo, active⟩ := arrReset_busy (s := u) (c := c) (a := a) (by rwa [same]) (by rwa [State.runState, asks.regs _ _ (by decide)])
  exact ⟨t, hx, begun, by rwa [State.core, cores], by rwa [State.core, cores], by rwa [regs]⟩

theorem rstEng_idle (hc : c < 1024) (ha : a < 4) (hf : s.fencedP (pCore c) = false) (hm : (s.core c).mma = none) :
    ∃ t, exec (.rstEng ⟨pCore c, some a⟩) s = .next t ∧ t.begun 2 (pArr c a) ∧ bit (t.core c).kat.todo a = false
      ∧ (∀ b m n, b / 2 ≠ a → m < 64 → n < 64 → (t.core c).rdA b m n = (s.core c).rdA b m n)
      ∧ (∀ w ∈ (t.core c).br, w.1 / 2 ≠ a) ∧ (∀ q ∈ (t.core c).fq, q.1 / 8 ≠ a)
      ∧ (t.core c).s = (s.core c).s ∧ (t.core c).v = (s.core c).v ∧ (t.core c).t = (s.core c).t ∧ s.sameCores t c := by
  obtain ⟨u, asks, t, hx, begun, cores, -⟩ := rstEng_array hr hd hk hl hc ha hf
  have same (e : Nat) : u.core e = s.core e := by rw [State.core, State.core, asks_cores asks]
  have left (e : Nat) : t.core e = (u.arrReset c a).core e := by rw [State.core, State.core, cores]
  have idle := arrReset_idle (s := u) (c := c) ha (by rwa [same])
  refine ⟨t, hx, begun, ?_⟩
  simp only [State.sameCores, same, left] at idle ⊢
  exact idle

end

end

end Sys2Proof.Machine
end

section
/-!
SUPPORT. RST_PART, and the reset of a virtual function.
-/

namespace Sys2Proof.Machine
/-! ### RST_PART and FLR -/

section
variable {s u t : State} {fn n : Nat}

theorem ownsSig_of_fns (h : t.host.fns = s.host.fns) : t.ownsSig fn n = s.ownsSig fn n := by
  rw [State.ownsSig, State.ownsSig, State.fnRes, State.fnRes, h]

theorem sigVal_sigDrop (w : State) (h : w.ownsSig fn n = true) : (w.sigDrop fn).sigVal n = 0 := by
  have dropped (m : NMap Nat) : Map.get 0 (m.filter (fun e => !(w.ownsSig fn e.1))) n = 0 := by
    induction m with
    | nil => rfl
    | cons e m ih =>
      obtain ⟨k, v⟩ := e
      by_cases hk : w.ownsSig fn k = true
      · simp [hk, ih]
      · have other : k ≠ n := fun he => hk (he ▸ h)
        simp [hk, Map.get, other, ih]
  exact dropped w.sig

theorem sig_partEnd (s : State) (fn : Nat) (h : fn < 256) : (s.partEnd fn).sig = s.sig := by
  have traced : ((s.traceDrop fn).wr R.DBG_TRACE_CFG_EN (pDbg fn) 0).sig = s.sig :=
    (State.wr_sig ..).trans (held_sig (held_traceDrop true true true ..))
  have queues (qs : List Nat) (s : State) : (qs.foldl State.eqReset s).sig = s.sig := held_sig (held_foldl (n := true) (l := true) (e := true) _ (fun _ _ => by simp) _ _)
  have events (s : State) : (s.ctxReset (pEvt fn)).sig = s.sig := by
    have blk : blkOf (pEvt fn) = 0x52 := by
      unfold blkOf within pEvt
      simp only [Bool.and_eq_true, decide_eq_true_eq]
      repeat rw [if_neg (by omega)]
      rw [if_pos (by omega)]
    unfold State.ctxReset
    rw [blk]
    exact queues _ _
  unfold State.partEnd
  split
  · exact (events _).trans traced
  · exact traced

/-- RST_PART zeroes the function's signals (R605). -/
theorem sigVal_partReset (s : State) (hfn : fn < 256) (h : s.ownsSig fn n = true) : (s.partReset fn).sigVal n = 0 := by
  obtain ⟨w, kept, eq⟩ := partReset_parts s fn
  have owns : w.ownsSig fn n = true := (ownsSig_of_fns (held_fns kept)).trans h
  have zero := sigVal_sigDrop w owns
  rw [eq, State.sigVal, sig_partEnd _ _ hfn]
  exact zero

theorem asks_host {r : RstOp} (h : s.asks u r) : u.host = s.host := (congrArg State.host h.rest :)

theorem rstPages_part (u : State) (fn : Nat) (w : Bool) : u.rstPages (RstOp.asked 3 fn w) = u.partPages fn := if_pos rfl

theorem rstWork_part (u : State) (fn : Nat) (w : Bool) :
    u.rstWork (RstOp.asked 3 fn w) = ((u.partPages fn).foldl State.quiesceAbort u).partReset fn := by
  have level : (RstOp.asked 3 fn w).level = 3 := rfl
  rw [State.rstWork, rstPages_part, if_pos level]
  exact congrArg _ (show (RstOp.asked 3 fn w).target = fn from rfl)

theorem resetting_part {w : Bool} (hfn : fn < 256) (h : s.resetting (RstOp.asked 3 fn w) u t) :
    (∀ n, s.ownsSig fn n = true → t.sigVal n = 0) ∧ (t.enabled (pCol fn) = false ∧ t.enabled (pQue fn) = false ∧ t.enabled (pHif fn) = false)
      ∧ t.host.flr = s.host.flr := by
  obtain ⟨asks, -, r', rfl⟩ := h
  have off {p : Nat} (hp : p ∈ [pCol fn, pQue fn, pXpt fn, pHif fn]) : (u.rstOn (RstOp.asked 3 fn w) r').enabled p = false :=
    (off_rstOn u (by rw [rstPages_part]; exact List.mem_append_right _ hp)).1
  refine ⟨fun n hn => ?_, ⟨off (by simp), off (by simp), off (by simp)⟩, ?_⟩
  · have quiet : ((u.partPages fn).foldl State.quiesceAbort u).duty serviceIds = u.duty serviceIds := duty_foldl _ duty_quiesceAbort _ _
    have owns := (ownsSig_of_fns (fn := fn) (n := n) ((duty_fns quiet).trans (congrArg HostSt.fns (asks_host asks)))).trans hn
    rw [State.sigVal, sig_rstOn, rstWork_part]
    exact sigVal_partReset _ hfn owns
  · rw [host_rstOn, duty_flr (duty_rstWork ..), asks_host asks]

section
variable (hr : s.recov.resets = []) (hd : s.recov.dumps = []) (hk : s.rg R.KPR_KSTATE_STATE pKpr ≠ 3)
  (hl : ∀ fn, s.rg R.HIF_DUMP_LEN_LEN (pHif fn) < 65536)
include hr hd hk hl

theorem rstPart_begins (hfn : fn < 256) : ∃ t, exec (.rstPart fn) s = .next t ∧ t.begun 3 fn ∧ (∀ n, s.ownsSig fn n = true → t.sigVal n = 0)
    ∧ t.enabled (pCol fn) = false ∧ t.enabled (pQue fn) = false ∧ t.enabled (pHif fn) = false := by
  obtain ⟨u, h⟩ := resetReq_resetting (level := 3) (target := fn) false (by decide) hr hd hk hl (fun h => absurd h (by decide))
  obtain ⟨sigs, off, -⟩ := resetting_part hfn h
  exact ⟨_, congrArg Host.Outcome.next (if_pos hfn), h.begun, sigs, off⟩

theorem flrVf_begins (h0 : 0 < fn) (hfn : fn < 256) : ∃ t, exec (.flrVf fn) s = .next t ∧ t.begun 3 fn ∧ NMap.get false t.host.flr fn = true
    ∧ ∀ n, s.ownsSig fn n = true → t.sigVal n = 0 := by
  obtain ⟨u, h⟩ := resetReq_resetting (s := { s with host := { s.host with flr := NMap.put fn true s.host.flr } }) (level := 3) (target := fn) false
    (by decide) hr hd hk hl (fun h => absurd h (by decide))
  obtain ⟨sigs, -, flr⟩ := resetting_part hfn h
  refine ⟨_, ?_, h.begun, ?_, sigs⟩
  · change execFlrVf fn s = _
    rw [execFlrVf, if_neg (by omega)]
    dsimp only
    rw [hr, List.any_nil, if_neg (by decide)]
  · rw [flr]
    exact NMap.get_put_self ..

end

end

end Sys2Proof.Machine
end

section
/-!
SUPPORT. RST_CHIP, and what requests it.
-/

namespace Sys2Proof.Machine
/-! ### RST_CHIP -/

/-- Fences apart, what RST_CHIP drains first shows in no view. -/
def fenceIds : List Nat := [R.HDR_STATUS_FENCED.id]

theorem duty_fenceArray (s : State) (c a cause : Nat) : (s.fenceArray c a cause).duty fenceIds = s.duty fenceIds := by
  have fenced (s : State) : (s.fenceCore c cause).duty fenceIds = s.duty fenceIds :=
    (duty_of_held (held_retireQuad false false ..)).trans (duty_wr _ _ _ (by decide))
  unfold State.fenceArray
  extract_lets p live s1 core s2
  have before : s2.duty fenceIds = s.duty fenceIds := duty_of_held (by simp (disch := decide) [s2, s1])
  split
  · exact (duty_of_held (held_arraysCount ..)).trans ((fenced s2).trans before)
  · exact (duty_of_held ((held_presenceEvent false false ..).trans (held_arraysCount ..))).trans before

theorem duty_katFence (s : State) (c a : Nat) : (s.katFence c a).duty fenceIds = s.duty fenceIds := by
  unfold State.katFence
  extract_lets p k s1 s2 s3
  calc (s3.raise p Er.CORE_KAT_FAIL (a + 4 * s3.rg (R.CORE_KAT_PASS_TBC_TBC a) p)).duty fenceIds
      = s3.duty fenceIds := duty_of_held (held_raise ..)
    _ = s2.duty fenceIds := duty_fenceArray ..
    _ = s1.duty fenceIds := duty_of_held (held_retireUnit false false ..)
    _ = s.duty fenceIds := duty_of_held (held_setKat ..)

theorem duty_katFenceAll (s : State) : s.katFenceAll.duty fenceIds = s.duty fenceIds :=
  duty_foldl _ (fun _ _ => duty_foldl _ (fun _ _ => duty_katFence ..) _ _) _ _

/-- The state that RST_CHIP clears: tests that wait to fence have done so, and the write-combining buffers are drained. -/
def State.chipDrained (s : State) : State := (List.range 8).foldl (fun s m => (s.wcb m).foldl (fun s e => s.wcbDrain m e) s) s.katFenceAll

theorem duty_chipDrained (s : State) : s.chipDrained.duty fenceIds = s.duty fenceIds :=
  (duty_foldl _ (fun _ _ => duty_foldl _ (fun _ _ => duty_of_held (held_wcbDrain ..)) _ _) _ _).trans (duty_katFenceAll s)

/-- A map with an entry for each of a list's keys. -/
theorem Map.get_keyed {α : Type} (d : α) (g : Nat → α) (l : List Nat) (c : Nat) : Map.get d (l.map (fun c => (c, g c))) c = if c ∈ l then g c else d := by
  induction l with
  | nil => rfl
  | cons b l ih =>
    by_cases hb : b = c
    · subst hb
      simp [Map.get]
    · simp [Map.get, hb, ih, Ne.symm hb]

/-- What dropRegs keeps reads as before. -/
theorem rg_dropRegs (s : State) (gone : Nat → Nat → Bool) (f : Fld) (i : Nat) (h : gone f.id i = false) : (s.dropRegs gone).rg f i = s.rg f i :=
  Map.get_filter _ _ (fun _ => by simp [h]) _

/-- What RST_CHIP leaves (R404, R480, R605). -/
structure State.chipCleared (s v : State) : Prop where
  inc : v.rg R.RTE_INC_INC pRte = (s.rg R.RTE_INC_INC pRte + 1) % 2 ^ R.RTE_INC_INC.width
  pend : v.rg R.KPR_RST_STATUS_CHIP_PEND pKpr = s.rg R.KPR_RST_STATUS_CHIP_PEND pKpr
  sig : v.sig = []
  flows : v.net.flows = []
  cores : ∀ c, (v.core c).launch = none ∧ (v.core c).rngState 0 = 0
  resets : v.recov.resets = s.recov.resets
  dumps : v.recov.dumps = []
  flr : v.host.flr = s.host.flr
  perst : v.host.perst = s.host.perst

/-- The registers that RST_CHIP writes when all else is cleared. -/
def State.chipRegs (s : State) (inc on : Nat) (standby : Bool) : State :=
  let s := ((s.wr R.RTE_INC_INC pRte (inc + 1)).wrB R.RTE_MADDR_STANDBY pRte standby).wr R.PWR_DOM_STATUS_ON pPwr (on &&& 0x1060000)
  let s := ((s.wrB R.PWR_THERM_STATUS_TRIP pPwr s.pwr.tripped).wrB R.PWR_THERM_STATUS_AIRFLOW pPwr s.pwr.airflow).wrB
    R.PWR_THERM_STATUS_QUENCH pPwr s.pwr.quench
  let s := (s.wr R.KPR_BOOT_STATUS_DEGRADED pKpr 0).wr R.KPR_BOOT_STATUS_STALLED pKpr 0
  s.emit (.pin 3 0)

theorem rg_chipRegs_inc (s : State) (inc on : Nat) (standby : Bool) :
    (s.chipRegs inc on standby).rg R.RTE_INC_INC pRte = (inc + 1) % 2 ^ R.RTE_INC_INC.width := by
  simp only [State.chipRegs, State.wrB_eq]
  change (State.wr _ _ _ _).rg _ _ = _
  iterate 7 rw [State.rg_wr_fld _ _ _ _ (by decide)]
  exact State.rg_wr_self ..

theorem rg_chipRegs_pend (s : State) (inc on : Nat) (standby : Bool) :
    (s.chipRegs inc on standby).rg R.KPR_RST_STATUS_CHIP_PEND pKpr = s.rg R.KPR_RST_STATUS_CHIP_PEND pKpr := by
  simp only [State.chipRegs, State.wrB_eq]
  change (State.wr _ _ _ _).rg _ _ = _
  iterate 8 rw [State.rg_wr_fld _ _ _ _ (by decide)]

theorem chipCleared_chipReset (s : State) : s.chipCleared s.chipReset := by
  have drained := duty_chipDrained s
  unfold State.chipReset
  extract_lets logged w inc standby on e s1 s2 core0 kat0 hbm0 host0 recov0 net0 pwr0 s3 s4 s5 s6
  have kept : w.duty fenceIds = s.duty fenceIds := drained
  clear_value w
  have eq : s6.emit (.pin 3 0) = s3.chipRegs inc on standby := rfl
  rw [eq]
  clear eq
  clear s6 s5 s4
  have inc_kept : inc = s.rg R.RTE_INC_INC pRte := duty_page kept _ (by decide) (by decide) (by decide)
  have dropped : s1.rg R.KPR_RST_STATUS_CHIP_PEND pKpr = w.rg R.KPR_RST_STATUS_CHIP_PEND pKpr := rg_dropRegs _ _ _ _ (by decide)
  have pend3 : s3.rg R.KPR_RST_STATUS_CHIP_PEND pKpr = s.rg R.KPR_RST_STATUS_CHIP_PEND pKpr :=
    dropped.trans (duty_page kept _ (by decide) (by decide) (by decide))
  have cores3 : ∀ c, (s3.core c).launch = none ∧ (s3.core c).rngState 0 = 0 := by
    intro c
    change ((Map.get Core.init _ c).launch = none) ∧ Core.rngState (Map.get Core.init _ c) 0 = 0
    rw [Map.get_keyed]
    split <;> exact ⟨rfl, rfl⟩
  have sig3 : s3.sig = [] := rfl
  have flows3 : s3.net.flows = [] := rfl
  have dumps3 : s3.recov.dumps = [] := rfl
  have resets3 : s3.recov.resets = s.recov.resets := (show s3.recov.resets = w.recov.resets from rfl).trans (duty_resets kept)
  have flr3 : s3.host.flr = s.host.flr := (show s3.host.flr = w.host.flr from rfl).trans (duty_flr kept)
  have perst3 : s3.host.perst = s.host.perst := (show s3.host.perst = w.host.perst from rfl).trans (duty_perst kept)
  clear_value s3
  exact ⟨by rw [rg_chipRegs_inc, inc_kept], by rw [rg_chipRegs_pend, pend3], sig3, flows3, cores3, resets3, dumps3, flr3, perst3⟩

/-- The state in which RST_CHIP is in progress. -/
def State.chipOn (s : State) (r' : RstOp) : State :=
  { s.chipReset.wr R.HDR_CTRL_RESET_REQ pTop 1 with recov := { s.chipReset.recov with resets := [r'] } }

theorem rstBegin_chip {s : State} {r : RstOp} (h4 : r.level = 4) (hr : s.recov.resets = [r]) :
    ∃ r', (r'.level = r.level ∧ r'.target = r.target ∧ r'.begun = true ∧ r'.covered = r.covered) ∧ s.rstBegin r = s.chipOn r' := by
  have resets := (chipCleared_chipReset s).resets.trans hr
  refine ⟨{ r with begun := true, enables := [] }, ⟨rfl, rfl, rfl, rfl⟩, ?_⟩
  unfold State.rstBegin State.chipOn
  simp only [if_pos h4, List.foldl_nil, List.map_nil]
  generalize s.chipReset = v at resets
  have mapped : (v.wr R.HDR_CTRL_RESET_REQ pTop 1).recov.resets = [r] := resets
  rw [mapped, List.map_singleton, if_pos ⟨rfl, rfl⟩]
  rfl

section
variable {s u t : State}

/-- What the three requests of RST_CHIP have in common. -/
structure State.chipBegun (s t : State) : Prop where
  begun : t.begun 4 0
  pend : t.rg R.KPR_RST_STATUS_CHIP_PEND pKpr = 1
  inc : t.rg R.RTE_INC_INC pRte = (s.rg R.RTE_INC_INC pRte + 1) % 2 ^ R.RTE_INC_INC.width
  sig : ∀ n, t.sigVal n = 0
  flows : ∀ f, t.flow f = Flow.free
  cores : ∀ c, (t.core c).launch = none ∧ (t.core c).rngState 0 = 0
  dumps : t.recov.dumps = []
  flr : t.host.flr = s.host.flr
  perst : t.host.perst = s.host.perst

theorem chipBegun_chipOn {w : Bool} {r' : RstOp} (asks : s.asks u (RstOp.asked 4 0 w))
    (hr : r'.level = 4 ∧ r'.target = 0 ∧ r'.begun = true ∧ r'.covered = false) : s.chipBegun (u.chipOn r') := by
  obtain ⟨inc, pend, sig, flows, cores, -, dumps, flr, perst⟩ := chipCleared_chipReset u
  unfold State.chipOn
  generalize u.chipReset = v at inc pend sig flows cores dumps flr perst
  exact {
    begun := ⟨r', List.mem_singleton_self r', hr⟩
    pend := (State.rg_wr_fld v _ _ _ (by decide)).trans (pend.trans (asks.pend rfl))
    inc := (State.rg_wr_fld v _ _ _ (by decide)).trans (by rw [inc, asks.regs _ _ (by decide)])
    sig := fun n => (congrArg (fun m => NMap.get 0 m n) sig :)
    flows := fun f => (congrArg (fun m => NMap.get Flow.free m f) flows :)
    cores := cores
    dumps := dumps
    flr := flr.trans (congrArg HostSt.flr (asks_host asks))
    perst := perst.trans (congrArg HostSt.perst (asks_host asks)) }

variable (hr : s.recov.resets = []) (hd : s.recov.dumps = []) (hk : s.rg R.KPR_KSTATE_STATE pKpr ≠ 3)
  (hl : ∀ fn, s.rg R.HIF_DUMP_LEN_LEN (pHif fn) < 65536)
include hr hd hk hl

theorem resetReq_chip : s.chipBegun (s.resetReq 4 0 false) := by
  obtain ⟨u, asks, eq⟩ := resetReqBy_begins 4 0 false ⟨2, St.OK, rstPage 4 0⟩ hr hd hk hl (fun h => absurd h (by decide))
  obtain ⟨r', hr', on⟩ := rstBegin_chip (s := u) (r := RstOp.asked 4 0 false) rfl asks.resets
  have step : s.resetReq 4 0 false = u.chipOn r' := eq.trans on
  rw [step]
  exact chipBegun_chipOn asks hr'

theorem chip_begins : ∀ i ∈ ([.rstChip, .flrPf0, .perstAssert] : List Instr), (i = .perstAssert → s.rg R.KPR_BOOT_STATUS_PHASE pKpr = 10) →
    ∃ t, exec i s = .next t ∧ t.begun 4 0 ∧ t.rg R.KPR_RST_STATUS_CHIP_PEND pKpr = 1
      ∧ t.rg R.RTE_INC_INC pRte = (s.rg R.RTE_INC_INC pRte + 1) % 2 ^ R.RTE_INC_INC.width ∧ (∀ n, t.sigVal n = 0) ∧ (∀ f, t.flow f = Flow.free)
      ∧ (∀ c, (t.core c).launch = none ∧ (t.core c).rngState 0 = 0) ∧ (i = .perstAssert → t.host.perst = true)
      ∧ (i = .flrPf0 → NMap.get false t.host.flr 0 = true) := by
  intro i hi hp
  fin_cases hi
  · obtain ⟨begun, pend, inc, sig, flows, cores, -, -, -⟩ := resetReq_chip hr hd hk hl
    exact ⟨_, rfl, begun, pend, inc, sig, flows, cores, Instr.noConfusion, Instr.noConfusion⟩
  · obtain ⟨begun, pend, inc, sig, flows, cores, -, flr, -⟩ :=
      resetReq_chip (s := { s with host := { s.host with flr := NMap.put 0 true s.host.flr } }) hr hd hk hl
    refine ⟨_, rfl, begun, pend, inc, sig, flows, cores, Instr.noConfusion, fun _ => ?_⟩
    rw [flr]
    exact NMap.get_put_self ..
  · obtain ⟨begun, pend, inc, sig, flows, cores, dumps, -, perst⟩ :=
      resetReq_chip (s := { s with host := { s.host with perst := true } }) hr hd hk hl
    refine ⟨_, ?_, begun, pend, inc, sig, flows, cores, fun _ => perst, Instr.noConfusion⟩
    change execPerstAssert s = _
    rw [execPerstAssert, if_neg (not_not.mpr (hp rfl))]
    dsimp only
    rw [if_neg]
    rw [State.dumping, dumps, List.any_nil]
    decide

end

end Sys2Proof.Machine
end

section
/-!
PROOF. How resets end, the Keeper's watchdog, and what every reset does (O24).
-/

namespace Sys2Proof.Machine
/-! ### The end of a reset -/

/-- The ENABLE bits that a reset gives back write the bits of their pages alone, as a view shows it (R14, R479). -/
theorem duty_rstEnables (s : State) (r : RstOp) : (s.rstEnables r).duty serviceIds = s.duty serviceIds := by
  refine duty_foldl _ (fun s e => ?_) _ _
  have bit (s : State) {f : Fld} (v : Nat) (hf : f.id ∈ serviceIds) : (s.wr f e.1 v).duty serviceIds = s.duty serviceIds := duty_wr _ _ _ hf
  have off (s : State) : (s.unitOff e.1).duty serviceIds = s.duty serviceIds := duty_of_held (held_unitOff ..)
  have on (s : State) : (s.unitOn e.1).duty serviceIds = s.duty serviceIds := duty_of_held (held_unitOn ..)
  dsimp only
  split
  · rfl
  · have still : (if s.quiescing e.1 then s else s.wr R.HDR_STATUS_QUIESCED e.1 0).duty serviceIds = s.duty serviceIds := by
      split
      · rfl
      · exact bit s 0 (by decide)
    generalize (if s.quiescing e.1 then s else s.wr R.HDR_STATUS_QUIESCED e.1 0) = w at still
    split
    · rw [off, bit _ _ (by decide), bit _ _ (by decide), bit _ _ (by decide), still]
    · split
      · split
        · rw [duty_of_held (held_katDue ..), on, bit _ _ (by decide), still]
        · rw [on, bit _ _ (by decide), still]
      · exact still

/-- A reset out of the list, its request no longer shown. -/
def State.unlisted (s : State) (r : RstOp) : State :=
  { s with recov := { s.recov with resets := s.recov.resets.filter (fun x => decide (x.level ≠ r.level) || decide (x.target ≠ r.target)) } }.reqShow
    r.level r.target 0

theorem duty_rstDrop (s : State) (r : RstOp) (st : Nat) : (s.rstDrop r st).duty serviceIds = (s.unlisted r).duty serviceIds := by
  unfold State.rstDrop
  dsimp only
  rw [duty_of_held (held_emit ..)]
  split
  · rfl
  · exact duty_rstEnables ..

theorem resets_unlisted (s : State) (r : RstOp) :
    (s.unlisted r).recov.resets = s.recov.resets.filter (fun x => decide (x.level ≠ r.level) || decide (x.target ≠ r.target)) := by
  unfold State.unlisted State.reqShow
  split <;> rfl

theorem tbc_unlisted (s : State) (r : RstOp) : (s.unlisted r).tbc = s.tbc := by
  unfold State.unlisted State.reqShow
  split <;> rfl

/-- What RESET_DONE leaves of a reset that was the only one (R479): none in progress, its request gone. -/
theorem rstDrop_only {s : State} {r : RstOp} (st : Nat) (hr : s.recov.resets = [r]) : (s.rstDrop r st).recov.resets = []
    ∧ (s.rstDrop r st).tbc = s.tbc
    ∧ ((r.level ≤ 2 → r.target < 0x1000) → (s.rstDrop r st).rg R.HDR_CTRL_RESET_REQ (rstPage r.level r.target) = 0) := by
  have duty := duty_rstDrop s r st
  refine ⟨?_, (duty_tbc duty).trans (tbc_unlisted s r), fun ht => ?_⟩
  · rw [duty_resets duty, resets_unlisted, hr]
    simp
  · rw [duty_header duty _ _ (by decide) (by decide)]
    exact reqShow_rg_self _ _ _ _ ht

/-- RST_STATUS after a reset, and its count. -/
def State.rstTold (s : State) (level st : Nat) : State := (s.rstNote level st).cnt pKpr (Cn.KPR_RST_CTX_N + (level - 1))

theorem rstTold_shows (s : State) {level st : Nat} (hl : level < 8) (hs : st < 2 ^ 16) : (s.rstTold level st).recov.resets = s.recov.resets
    ∧ (s.rstTold level st).rg R.KPR_RST_STATUS_LAST_LEVEL pKpr = level ∧ (s.rstTold level st).rg R.KPR_RST_STATUS_LAST_STATUS pKpr = st
    ∧ (s.rstTold level st).rg R.KPR_RST_LAST_TBC_TBC pKpr = s.tbc % 2 ^ 64
    ∧ ∀ i, (s.rstTold level st).rg R.HDR_CTRL_RESET_REQ i = s.rg R.HDR_CTRL_RESET_REQ i := by
  have kept : (s.rstTold level st).held false false false = s.held false false false := (held_cnt ..).trans (held_rstNote false false false ..)
  refine ⟨held_resets kept, ?_, ?_, ?_, fun i => held_rg kept _ _ (by decide)⟩
  · refine (State.rg_cnt _ _ _ _ _ _ (by decide)).trans ((State.rg_wr_fld _ _ _ _ (by decide)).trans ((State.rg_wr_fld _ _ _ _ (by decide)).trans ?_))
    exact (State.rg_wr_self ..).trans (Nat.mod_eq_of_lt hl)
  · refine (State.rg_cnt _ _ _ _ _ _ (by decide)).trans ((State.rg_wr_fld _ _ _ _ (by decide)).trans ?_)
    exact (State.rg_wr_self ..).trans (Nat.mod_eq_of_lt hs)
  · exact (State.rg_cnt _ _ _ _ _ _ (by decide)).trans (State.rg_wr_self ..)

/-- The reset of a function is over with the reset that served it (R404). -/
def State.flrOver (s : State) (level target : Nat) : State :=
  { s with host := { s.host with flr := if level ≥ 3 then Map.del (if level = 4 then 0 else target) s.host.flr else s.host.flr } }

/-- After RST_CHIP the module boots again (R575). -/
def State.rebooted (s : State) : State :=
  let s := ((s.wr R.KPR_RST_STATUS_CHIP_PEND pKpr 0).wr R.KPR_BOOT_STATUS_PHASE pKpr 4).wr R.KPR_BOOT_STATUS_ENTRY pKpr 1
  if s.fw.fogRequested then s.wr R.KPR_KSTATE_STATE pKpr 3 else s

/-- What follows the end of a reset. -/
def State.rstAfter (s : State) (level target : Nat) : State :=
  if level = 4 then (s.flrOver level target).rebooted else s.flrOver level target

theorem resets_rstAfter (s : State) (level target : Nat) : (s.rstAfter level target).recov.resets = s.recov.resets := by
  unfold State.rstAfter
  split
  · unfold State.rebooted
    dsimp only
    split <;> rfl
  · rfl

theorem rg_rstAfter (s : State) (level target : Nat) {f : Fld} (i : Nat)
    (hf : f.id ∉ [R.KPR_RST_STATUS_CHIP_PEND.id, R.KPR_BOOT_STATUS_PHASE.id, R.KPR_BOOT_STATUS_ENTRY.id, R.KPR_KSTATE_STATE.id]) :
    (s.rstAfter level target).rg f i = s.rg f i := by
  simp only [List.mem_cons, List.not_mem_nil, or_false, not_or] at hf
  obtain ⟨hpend, hphase, hentry, hstate⟩ := hf
  unfold State.rstAfter
  split
  · unfold State.rebooted
    dsimp only
    split
    · rw [State.rg_wr_fld _ _ _ _ hstate, State.rg_wr_fld _ _ _ _ hentry, State.rg_wr_fld _ _ _ _ hphase, State.rg_wr_fld _ _ _ _ hpend]
      rfl
    · rw [State.rg_wr_fld _ _ _ _ hentry, State.rg_wr_fld _ _ _ _ hphase, State.rg_wr_fld _ _ _ _ hpend]
      rfl
  · rfl

theorem resetDone_eq {s : State} {r : RstOp} (hr : s.recov.resets = [r]) (hb : r.begun = true) (hc : r.covered = false) (h8 : r.level < 8) :
    s.resetDone r.level r.target = ((s.rstDrop r St.OK).rstTold r.level St.OK).rstAfter r.level r.target := by
  have found : s.recov.resets.find? (fun x => decide (x.level = r.level) && decide (x.target = r.target) && x.begun && !x.covered) = some r := by
    simp [hr, hb, hc]
  have none : ((s.rstDrop r St.OK).rstTold r.level St.OK).recov.resets = [] :=
    (rstTold_shows _ h8 (by decide)).1.trans (rstDrop_only St.OK hr).1
  unfold State.resetDone
  rw [found]
  dsimp only
  rw [← State.rstTold, none, List.filter_nil, List.foldl_nil]
  rfl

theorem resetDone_only {s : State} {level target : Nat} {r : RstOp} (h4 : level ≤ 4) (hr : s.recov.resets = [r]) (hl : r.level = level)
    (ht : r.target = target) (hb : r.begun = true) (hc : r.covered = false) (hp : level ≤ 2 → target < 0x1000) :
    ∃ t, exec (.resetDone level target) s = .next t ∧ t.recov.resets = [] ∧ t.rg R.HDR_CTRL_RESET_REQ (rstPage level target) = 0
      ∧ t.rg R.KPR_RST_STATUS_LAST_LEVEL pKpr = level ∧ t.rg R.KPR_RST_STATUS_LAST_STATUS pKpr = St.OK ∧ t.rg R.KPR_RST_LAST_TBC_TBC pKpr = s.tbc % 2 ^ 64 := by
  subst hl ht
  obtain ⟨resets, tbc, req⟩ := rstDrop_only St.OK hr
  obtain ⟨tresets, tlevel, tst, ttbc, treq⟩ := rstTold_shows (s.rstDrop r St.OK) (level := r.level) (st := St.OK) (by omega) (by decide)
  refine ⟨_, congrArg Host.Outcome.next (resetDone_eq hr hb hc (by omega)), ?_, ?_, ?_, ?_, ?_⟩
  · rw [resets_rstAfter, tresets, resets]
  · rw [rg_rstAfter _ _ _ _ (by decide), treq, req hp]
  · rw [rg_rstAfter _ _ _ _ (by decide), tlevel]
  · rw [rg_rstAfter _ _ _ _ (by decide), tst]
  · rw [rg_rstAfter _ _ _ _ (by decide), ttbc, tbc]

/-! ### A core whose reset misses its bound -/

/-- A unit out of service for good: FENCED on its page, and in the Keeper's list (R481, R497). -/
def State.fencedOut (s : State) (p : Nat) : Prop := s.fencedP p = true ∧ NMap.get false s.recov.fenced p = true

section
variable {s t : State} {p : Nat}

theorem fencedOut_of_cells (hf : t.rg R.HDR_STATUS_FENCED p = s.rg R.HDR_STATUS_FENCED p) (hr : t.recov.fenced = s.recov.fenced) (h : s.fencedOut p) : t.fencedOut p := by
  obtain ⟨fenced, listed⟩ := h
  exact ⟨by rwa [State.fencedP, State.flag, hf], by rwa [hr]⟩

theorem fencedOut_of_held {n l e : Bool} (h : t.held n l e = s.held n l e) (ho : s.fencedOut p) : t.fencedOut p :=
  fencedOut_of_cells (held_rg h _ _ ((by decide : ∀ n l e, (heldId n l e R.HDR_STATUS_FENCED.id && decide (R.HDR_STATUS_FENCED.id < 32768)) = true) n l e))
    (held_fenced h) ho

theorem fencedOut_of_duty (h : t.duty serviceIds = s.duty serviceIds) (ho : s.fencedOut p) : t.fencedOut p :=
  fencedOut_of_cells (duty_header h _ _ (by decide) (by decide)) (duty_fenced h) ho

theorem fencedOut_unlisted (r : RstOp) (h : s.fencedOut p) : (s.unlisted r).fencedOut p := by
  refine fencedOut_of_cells (reqShow_rg_ne _ _ _ _ _ (by decide)) ?_ h
  unfold State.unlisted State.reqShow
  split <;> rfl

theorem fencedOut_rstDrop (r : RstOp) (st : Nat) (h : s.fencedOut p) : (s.rstDrop r st).fencedOut p := fencedOut_of_duty (duty_rstDrop s r st) (fencedOut_unlisted r h)

theorem fencedOut_rstOn (r r' : RstOp) (h : s.fencedOut p) : (s.rstOn r r').fencedOut p := by
  have work := duty_rstWork s r
  refine fencedOut_of_cells ?_ ?_ h
  · rw [rg_rstOn _ _ _ _ _ (by decide), duty_header work _ _ (by decide) (by decide)]
  · exact (duty_fenced (duty_pagesOff ..)).trans (duty_fenced work)

/-- A request below RST_CHIP, with no reset in progress, takes no fence back. -/
theorem fencedOut_resetReqBy {level target : Nat} (withBits : Bool) (why : RstCause) (h3 : level = 3) (hr : s.recov.resets = []) (h : s.fencedOut p) :
    (s.resetReqBy level target withBits why).fencedOut p := by
  have asks := asks_rstShown level target withBits hr
  have dumped : (((s.rstShown level target withBits).rstDumped level target why)).held false false false = (s.rstShown level target withBits).held false false false := by
    unfold State.rstDumped
    split
    · exact held_dumpCause ..
    · rfl
  have shown : ((s.rstShown level target withBits).rstDumped level target why).fencedOut p :=
    fencedOut_of_held dumped (fencedOut_of_cells (asks.regs _ _ (by decide)) asks.fenced h)
  rw [resetReqBy_alone withBits why hr (fun h => by omega)]
  unfold State.rstTry
  extract_lets waits
  split
  · exact shown
  · obtain ⟨r', -, eq⟩ := rstBegin_low (r := RstOp.asked level target withBits) (by simp [RstOp.asked, h3]) ((held_resets dumped).trans asks.resets)
    rw [eq]
    exact fencedOut_rstOn _ _ shown

end

/-- A core's page fenced, as STATUS and the Keeper's list show it. -/
def State.pageFenced (s : State) (p : Nat) : State :=
  let s := (s.wr R.HDR_STATUS_FENCED p 1).wr R.HDR_CTRL_RESET_REQ p 0
  { s with recov := { s.recov with fenced := NMap.put p true s.recov.fenced } }

theorem fencedOut_pageFenced (s : State) (p : Nat) : (s.pageFenced p).fencedOut p :=
  ⟨(flag_wr_fld _ _ _ _ (by decide)).trans (flag_wr_self s R.HDR_STATUS_FENCED p 1 rfl), NMap.get_put_self ..⟩

theorem unitOut_core (s : State) {c : Nat} (hc : c < 1024) : s.unitOut (pCore c) = (s.pageFenced (pCore c)).clearQuad ((pCore c - 0x200) / 4) := by
  have page : ¬pCore c ≥ 0x1000 := by
    unfold pCore
    omega
  unfold State.unitOut
  rw [if_neg page, blkOf_pCore hc, if_neg (by decide)]
  rfl

/-- A core that is fenced is out of service; the resets in progress and the owners of the quads stay. -/
theorem unitFence_core (s : State) {c : Nat} (hc : c < 1024) : (s.unitFence (pCore c)).fencedOut (pCore c)
    ∧ (s.unitFence (pCore c)).recov.resets = s.recov.resets ∧ (s.unitFence (pCore c)).host.quadOwner = s.host.quadOwner := by
  have kept : (s.unitFence (pCore c)).held false false false = (s.pageFenced (pCore c)).held false false false := by
    have cleared := held_clearQuad false false (s.pageFenced (pCore c)) ((pCore c - 0x200) / 4)
    unfold State.unitFence
    rw [unitOut_core s hc]
    extract_lets u times recov noted raised
    have told : raised.held false false false = u.held false false false := held_raiseC1 false false noted ..
    split
    · rw [held_unitRetire, told]
      exact cleared
    · rw [told]
      exact cleared
  exact ⟨fencedOut_of_held kept (fencedOut_pageFenced ..), (held_resets kept).trans rfl, (held_quadOwner kept).trans rfl⟩

theorem held_escalated (s : State) (p : Nat) : (s.escalated p).held false false false = s.held false false false := by
  simp (disch := decide) [State.escalated]

theorem resetBoundExpire_core {s : State} {c fn : Nat} {r : RstOp} (hc : c < 1024) (hr : s.recov.resets = [r]) (hl : r.level = 2) (ht : r.target = pCore c)
    (hb : r.begun = true) (hcov : r.covered = false) (hq : s.quadFn (c / 4) = some fn) (l : List Nat) :
    ∃ t, exec (.resetBoundExpire 2 (pCore c) l) s = .next t ∧ t.fencedP (pCore c) = true ∧ NMap.get false t.recov.fenced (pCore c) = true := by
  have core : pCore c - 0x200 = c := Nat.add_sub_cancel_left ..
  have page : pCore c < 0x1000 := by
    unfold pCore
    omega
  have found : s.recov.resets.find? (fun r => decide (r.level = 2) && decide (r.target = pCore c) && r.begun && !r.covered) = some r := by
    simp [hr, hl, ht, hb, hcov]
  obtain ⟨out, resets, owners⟩ := unitFence_core s hc
  have dropped := (rstDrop_only St.RESET_ESCALATED (resets.trans hr)).1
  have lost := fencedOut_rstDrop r St.RESET_ESCALATED out
  have escalated := held_escalated ((s.unitFence (pCore c)).rstDrop r St.RESET_ESCALATED) (pCore c)
  have quad : (((s.unitFence (pCore c)).rstDrop r St.RESET_ESCALATED).escalated (pCore c)).soleOwner (unitPage (pCore c)) = some fn := by
    have same : (((s.unitFence (pCore c)).rstDrop r St.RESET_ESCALATED).escalated (pCore c)).host.quadOwner = s.host.quadOwner := by
      rw [held_quadOwner escalated, duty_quadOwner (duty_rstDrop ..), ← owners]
      unfold State.unlisted State.reqShow
      split <;> rfl
    rw [unitPage, if_pos page, State.soleOwner, blkOf_pCore hc]
    change State.quadFn _ ((pCore c - 0x200) / 4) = _
    rw [core, State.quadFn, same]
    exact hq
  refine ⟨(((s.unitFence (pCore c)).rstDrop r St.RESET_ESCALATED).escalated (pCore c)).resetEscalate 3 fn (pCore c), ?_,
    fencedOut_resetReqBy false _ rfl ((held_resets escalated).trans dropped) (fencedOut_of_held escalated lost)⟩
  change execResetBoundExpire 2 (pCore c) l s = _
  have other : ¬(blkOf (pCore c) = 0x30 ∨ blkOf (pCore c) = 0x21) := by
    rw [blkOf_pCore hc]
    decide
  unfold execResetBoundExpire
  rw [found]
  dsimp only
  rw [if_neg (by decide), if_neg (by decide), if_pos rfl, if_neg other, quad]

/-! ### The Keeper's watchdog -/

/-- A watchdog that expires restarts the Keeper, and is counted within the hour (R481). -/
theorem keeperWatchdogExpire_restarts (s : State) : ∃ t, exec .keeperWatchdogExpire s = .next t ∧ t.rg R.KPR_KSTATE_STATE pKpr = 3
    ∧ t.rg R.KPR_KSTATE_RESTARTS pKpr = min 3 ((s.recov.expiries.filter (fun x => decide (s.tbc ≤ x + 3600000000000))).length + 1) := by
  refine ⟨_, rfl, ?_⟩
  extract_lets times recov u fw v w z
  have count : times.length = (s.recov.expiries.filter (fun x => decide (s.tbc ≤ x + 3600000000000))).length + 1 := List.length_append ..
  have shown {t : State} (h : t.held false true false = w.held false true false) : t.rg R.KPR_KSTATE_STATE pKpr = 3
      ∧ t.rg R.KPR_KSTATE_RESTARTS pKpr = min 3 times.length := by
    rw [held_rg_at h _ _ (by decide), held_rg_at h _ _ (by decide)]
    refine ⟨(State.rg_wr_fld _ _ _ _ (by decide)).trans (State.rg_wr_self ..), (State.rg_wr_self ..).trans (Nat.mod_eq_of_lt ?_)⟩
    have small : min 3 times.length < 2 ^ 8 := by omega
    exact small
  have restarted : z.held false true false = w.held false true false := (held_raise ..).trans (held_cnt ..)
  rw [← count]
  split
  · exact shown ((held_powerCyclePin ..).trans ((held_powerCycleNote ..).trans restarted))
  · exact shown restarted

/-- Settles O24: a request with none in progress begins at once (`resetReqBy_begins`), by what each level clears; a reset ends by `rstDrop` and its bound by
`unitFence`. -/
theorem resets : Obligations.Resets := by
  refine ⟨fun s hr hd hk hl => ⟨fun p hp hf => rstCtx_begins hr hd hk hl hp hf, fun c hc hf _ => ⟨rstEng_core hr hd hk hl hc hf,
    fun a ha hm hrun => rstEng_busy hr hd hk hl hc ha hf hm hrun, fun a ha hm => rstEng_idle hr hd hk hl hc ha hf hm⟩,
    fun fn hfn => rstPart_begins hr hd hk hl hfn, fun fn h0 hfn => flrVf_begins hr hd hk hl h0 hfn, chip_begins hr hd hk hl⟩,
    fun s level target r _ h4 hr hl ht hb hc hp => resetDone_only h4 hr hl ht hb hc hp,
    fun s c fn r hc hr hl ht hb hcov hq l => resetBoundExpire_core hc hr hl ht hb hcov hq l, keeperWatchdogExpire_restarts⟩

end Sys2Proof.Machine
end

section
/-!
SUPPORT. The canonical form of memory as a predicate of states and of outcomes, with the rule of each way in which the model builds one state from another.
-/

namespace Sys2Proof.Machine

/-- The memory of a state is in its canonical form. -/
def State.Canonical (s : State) : Prop := s.memWf = true

/-- The memory of the next state, where there is one, is in its canonical form. -/
def Outcome.Canonical : Host.Outcome State Fault Refusal → Prop
  | .next t => t.Canonical
  | .fault _ => True
  | .refused _ => True

/-! ### How states are built -/

section
variable {s : State}

/-- A change of other components than memory and its lost regions. -/
theorem State.Canonical.upd {t : State} (h : s.Canonical) (hm : t.mem = s.mem := by with_reducible rfl)
    (hl : t.lost = s.lost := by with_reducible rfl) : t.Canonical :=
  (State.memWf_congr hm hl).trans h

theorem State.Canonical.ite {p : Prop} {_ : Decidable p} {t u : State} (ht : t.Canonical) (hu : u.Canonical) : (if p then t else u).Canonical := by
  split <;> assumption

theorem State.Canonical.foldl {α : Type} {f : State → α → State} (hf : ∀ {s a}, s.Canonical → (f s a).Canonical) {l : List α} (h : s.Canonical) :
    (l.foldl f s).Canonical := by
  induction l generalizing s with
  | nil => exact h
  | cons a l ih => exact ih (hf h)

/-- Of a pair that holds a state. -/
theorem State.Canonical.fst {α : Type} {t : State} {a : α} (h : t.Canonical) : (t, a).1.Canonical := h
theorem State.Canonical.snd {α : Type} {t : State} {a : α} (h : t.Canonical) : (a, t).2.Canonical := h
theorem State.Canonical.of_fst {α : Type} {x : State × α} {t : State} {a : α} (h : x.1.Canonical) (e : x = (t, a)) : t.Canonical := by
  subst e
  exact h
theorem State.Canonical.of_snd {α : Type} {x : α × State} {t : State} {a : α} (h : x.2.Canonical) (e : x = (a, t)) : t.Canonical := by
  subst e
  exact h
theorem State.Canonical.ite_fst {α : Type} {p : Prop} {_ : Decidable p} {x y : State × α} (hx : x.1.Canonical) (hy : y.1.Canonical) :
    (if p then x else y).1.Canonical := by
  split <;> assumption
theorem State.Canonical.ite_snd {α : Type} {p : Prop} {_ : Decidable p} {x y : α × State} (hx : x.2.Canonical) (hy : y.2.Canonical) :
    (if p then x else y).2.Canonical := by
  split <;> assumption

theorem Outcome.Canonical.next (h : s.Canonical) : Outcome.Canonical (.next s) := h
theorem Outcome.Canonical.ite {p : Prop} {_ : Decidable p} {x y : Host.Outcome State Fault Refusal} (hx : Outcome.Canonical x) (hy : Outcome.Canonical y) :
    Outcome.Canonical (if p then x else y) := by
  split <;> assumption

theorem State.Canonical.ite_mid {α β : Type} {p : Prop} {_ : Decidable p} {x y : α × State × β} (hx : x.2.1.Canonical) (hy : y.2.1.Canonical) :
    (if p then x else y).2.1.Canonical := by
  split <;> assumption
theorem State.Canonical.mid {α β : Type} {t : State} {a : α} {b : β} (h : t.Canonical) : (a, t, b).2.1.Canonical := h
theorem State.Canonical.of_mid {α β : Type} {x : α × State × β} {t : State} {a : α} {b : β} (h : x.2.1.Canonical) (e : x = (a, t, b)) : t.Canonical := by
  subst e
  exact h
theorem State.Canonical.fst_mid {α β γ : Type} {x : α × State × β} {c : γ} (h : x.2.1.Canonical) : (x, c).1.2.1.Canonical := h

end

/-! ### Results that may carry a state -/

/-- What a result carries, where it carries anything, has the property. -/
def Except.Gives {ε α : Type} (P : α → Prop) (x : Except ε α) : Prop := ∀ a, x = .ok a → P a

/-- The state a result carries, whether it is an error or not, has its memory in the canonical form. -/
def Except.Canonical {α : Type} : Except (Nat × State) (State × α) → Prop
  | .error x => x.2.Canonical
  | .ok x => x.1.Canonical

/-- What an option holds, where it holds anything, has the property. -/
def Option.Gives {α : Type} (P : α → Prop) (x : Option α) : Prop := ∀ a, x = some a → P a

section
variable {ε α β : Type} {P : α → Prop} {Q : β → Prop}

theorem Except.Gives.ok {a : α} (h : P a) : Except.Gives P (.ok a : Except ε α) := by
  rintro _ ⟨⟩
  exact h

theorem Except.Gives.error {e : ε} : Except.Gives P (.error e : Except ε α) := by
  rintro _ ⟨⟩

theorem Except.Gives.ite {p : Prop} {_ : Decidable p} {x y : Except ε α} (hx : Except.Gives P x) (hy : Except.Gives P y) :
    Except.Gives P (if p then x else y) := by
  split <;> assumption

theorem Except.Gives.bind {x : Except ε β} {f : β → Except ε α} (hx : Except.Gives Q x) (hf : ∀ {b}, Q b → Except.Gives P (f b)) :
    Except.Gives P (x >>= f) := by
  cases x with
  | error => rintro _ ⟨⟩
  | ok b => exact hf (hx b rfl)

/-- The first step carries nothing that matters. -/
theorem Except.Gives.after {x : Except ε β} {f : β → Except ε α} (hf : ∀ {b}, Except.Gives P (f b)) : Except.Gives P (x >>= f) :=
  Except.Gives.bind (Q := fun _ => True) (fun _ _ => trivial) fun _ => hf

theorem Except.Canonical.ok {t : State} {a : α} (h : t.Canonical) : Except.Canonical (.ok (t, a)) := h

theorem Except.Canonical.error {t : State} {n : Nat} (h : t.Canonical) : Except.Canonical (.error (n, t) : Except (Nat × State) (State × α)) := h

theorem Except.Canonical.bind {x : Except (Nat × State) (State × β)} {f : State × β → Except (Nat × State) (State × α)} (hx : Except.Canonical x)
    (hf : ∀ {t b}, t.Canonical → Except.Canonical (f (t, b))) : Except.Canonical (x >>= f) := by
  cases x with
  | error => exact hx
  | ok y => exact hf hx

theorem Except.Canonical.of_error {x : Except (Nat × State) (State × α)} {t : State} {n : Nat} (h : Except.Canonical x) (e : x = .error (n, t)) :
    t.Canonical := by
  subst e
  exact h

theorem Except.Canonical.of_ok {x : Except (Nat × State) (State × α)} {t : State} {a : α} (h : Except.Canonical x) (e : x = .ok (t, a)) :
    t.Canonical := by
  subst e
  exact h

theorem Option.Gives.some {a : α} (h : P a) : Option.Gives P (some a) := by
  rintro _ ⟨⟩
  exact h

theorem Option.Gives.none : Option.Gives P (none : Option α) := by
  rintro _ ⟨⟩

theorem Option.Gives.ite {p : Prop} {_ : Decidable p} {x y : Option α} (hx : Option.Gives P x) (hy : Option.Gives P y) :
    Option.Gives P (if p then x else y) := by
  split <;> assumption

theorem Option.Gives.map {x : Option β} {f : β → α} (hx : Option.Gives Q x) (hf : ∀ {b}, Q b → P (f b)) : Option.Gives P (x.map f) := by
  cases x with
  | none => rintro _ ⟨⟩
  | some b => exact .some (hf (hx b rfl))

theorem Option.Gives.getD {x : Option α} {d : α} (hx : Option.Gives P x) (hd : P d) : P (x.getD d) := by
  cases x with
  | none => exact hd
  | some a => exact hx a rfl

theorem Option.Gives.bind {x : Option β} {f : β → Option α} (hx : Option.Gives Q x) (hf : ∀ {b}, Q b → Option.Gives P (f b)) :
    Option.Gives P (x >>= f) := by
  cases x with
  | none => rintro _ ⟨⟩
  | some b => exact hf (hx b rfl)

end

section
variable {s : State}

/-! ### A change of one component -/

theorem State.Canonical.withRegs {x : PMap Nat} (h : s.Canonical) : { s with regs := x }.Canonical := h
theorem State.Canonical.withLatch {x : PMap Nat} (h : s.Canonical) : { s with latch := x }.Canonical := h
theorem State.Canonical.withPoison {x : NMap Bool} (h : s.Canonical) : { s with poison := x }.Canonical := h
theorem State.Canonical.withTbc {x : Nat} (h : s.Canonical) : { s with tbc := x }.Canonical := h
theorem State.Canonical.withTbcCopies {x : NMap Nat} (h : s.Canonical) : { s with tbcCopies := x }.Canonical := h
theorem State.Canonical.withDisabling {x : NMap Bool} (h : s.Canonical) : { s with disabling := x }.Canonical := h
theorem State.Canonical.withFree {x : Nat} (h : s.Canonical) : { s with free := x }.Canonical := h
theorem State.Canonical.withRdata {x : List Nat} (h : s.Canonical) : { s with rdata := x }.Canonical := h
theorem State.Canonical.withOut {x : List OutMsg} (h : s.Canonical) : { s with out := x }.Canonical := h
theorem State.Canonical.withCores {x : NMap Core} (h : s.Canonical) : { s with cores := x }.Canonical := h
theorem State.Canonical.withSig {x : NMap Nat} (h : s.Canonical) : { s with sig := x }.Canonical := h
theorem State.Canonical.withDma {x : NMap DmaEng} (h : s.Canonical) : { s with dma := x }.Canonical := h
theorem State.Canonical.withHbm {x : HbmSt} (h : s.Canonical) : { s with hbm := x }.Canonical := h
theorem State.Canonical.withXlt {x : NMap XltSt} (h : s.Canonical) : { s with xlt := x }.Canonical := h
theorem State.Canonical.withHost {x : HostSt} (h : s.Canonical) : { s with host := x }.Canonical := h
theorem State.Canonical.withRecov {x : RecSt} (h : s.Canonical) : { s with recov := x }.Canonical := h
theorem State.Canonical.withLog {x : LogSt} (h : s.Canonical) : { s with log := x }.Canonical := h
theorem State.Canonical.withDbg {x : NMap DbgFn} (h : s.Canonical) : { s with dbg := x }.Canonical := h
theorem State.Canonical.withNet {x : NetSt} (h : s.Canonical) : { s with net := x }.Canonical := h
theorem State.Canonical.withStep {x : NMap StepSt} (h : s.Canonical) : { s with step := x }.Canonical := h
theorem State.Canonical.withColl {x : CollSt} (h : s.Canonical) : { s with coll := x }.Canonical := h
theorem State.Canonical.withAgree {x : AgreeSt} (h : s.Canonical) : { s with agree := x }.Canonical := h
theorem State.Canonical.withPwr {x : PwrSt} (h : s.Canonical) : { s with pwr := x }.Canonical := h
theorem State.Canonical.withFw {x : FwSt} (h : s.Canonical) : { s with fw := x }.Canonical := h
theorem State.Canonical.withKsb {x : KsbSt} (h : s.Canonical) : { s with ksb := x }.Canonical := h
theorem State.Canonical.withBoot {x : BootSt} (h : s.Canonical) : { s with boot := x }.Canonical := h
theorem State.Canonical.withL2 {x : NMap Bool} (h : s.Canonical) : { s with l2 := x }.Canonical := h
theorem State.Canonical.withPending {x : List Instr} (h : s.Canonical) : { s with pending := x }.Canonical := h

/-! ### The operations on memory itself -/

theorem State.Canonical.wb {a : Nat} {b : Byte} (h : s.Canonical) : (s.wb a b).Canonical := State.memWf_wb _ _ _ h
theorem State.Canonical.wbs {a : Nat} {bs : List Nat} (h : s.Canonical) : (s.wbs a bs).Canonical := State.memWf_wbs _ _ _ h
theorem State.Canonical.lose {lo hi : Nat} (h : s.Canonical) : (s.lose lo hi).Canonical := State.memWf_lose _ _ _ h

/-- Bytes are taken away, and the regions lost stay. -/
theorem State.Canonical.drop {t : State} (p : Host.Cell → Bool) (h : s.Canonical) (hm : t.mem = s.mem.filter p := by rfl) (hl : t.lost = s.lost := by rfl) :
    t.Canonical := by
  simp only [State.Canonical, State.memWf, Bool.and_eq_true, hm, hl] at h ⊢
  obtain ⟨rising, listed⟩ := h
  refine ⟨(Map.sorted_filter natLt_ordered p s.mem rising).1, List.all_eq_true.mpr fun c hc => ?_⟩
  exact List.all_eq_true.mp listed c (List.mem_of_mem_filter hc)

end

end Sys2Proof.Machine
end

section
/-!
SUPPORT. The canonical form of memory is kept by the named operations over the state.
-/

namespace Sys2Proof.Machine

section
variable {s : State}

theorem State.Canonical.wr {f : Fld} {inst v : Nat} (h : s.Canonical) : (s.wr f inst v).Canonical := h.withRegs

theorem State.Canonical.wrB {f : Fld} {inst : Nat} {b : Bool} (h : s.Canonical) : (s.wrB f inst b).Canonical := h.wr

theorem State.Canonical.incSat {f : Fld} {inst n : Nat} (h : s.Canonical) : (s.incSat f inst n).Canonical := h.wr

theorem State.Canonical.dropRegs {gone : Nat → Nat → Bool} (h : s.Canonical) : (s.dropRegs gone).Canonical := h.withRegs

theorem State.Canonical.cnt1 {p code k n : Nat} (h : s.Canonical) : (s.cnt1 p code k n).Canonical := ite h.wr h

theorem State.Canonical.cnt {p code : Nat} {k : Nat} (h : s.Canonical) : (s.cnt p code k).Canonical := h.cnt1.cnt1.cnt1.cnt1

theorem State.Canonical.freeVal (h : s.Canonical) : (s.freeVal).2.Canonical := snd h.withFree

theorem State.Canonical.wle {a n v : Nat} (h : s.Canonical) : (s.wle a n v).Canonical := h.wbs

theorem State.Canonical.setPoison {a : Nat} {b : Bool} (h : s.Canonical) : (s.setPoison a b).Canonical := h.withPoison

theorem State.Canonical.sigPut {n v : Nat} (h : s.Canonical) : (s.sigPut n v).Canonical := h.withSig

theorem State.Canonical.sigSet {n v : Nat} (h : s.Canonical) : (s.sigSet n v).Canonical := ite h h.sigPut

theorem State.Canonical.sigAdd {n v : Nat} (h : s.Canonical) : (s.sigAdd n v).2.Canonical := ite_snd (snd h.sigPut) (snd h)

theorem State.Canonical.setCore {c : Nat} {x : Core} (h : s.Canonical) : (s.setCore c x).Canonical := h.withCores

theorem State.Canonical.setEng {x : Nat} {x' : DmaEng} (h : s.Canonical) : (s.setEng x x').Canonical := h.withDma

theorem State.Canonical.setCq {q : Nat} {x : CmdQ} (h : s.Canonical) : (s.setCq q x).Canonical := h.withHost

theorem State.Canonical.setEq {q : Nat} {x : EvQ} (h : s.Canonical) : (s.setEq q x).Canonical := h.withHost

theorem State.Canonical.setStep {fn : Nat} {x : StepSt} (h : s.Canonical) : (s.setStep fn x).Canonical := h.withStep

theorem State.Canonical.stepNote {fn status : Nat} (h : s.Canonical) : (s.stepNote fn status).Canonical := ite h h.setStep

theorem State.Canonical.stepTally {fn : Option Nat} {sat nonfin : Nat} (h : s.Canonical) : (s.stepTally fn sat nonfin).Canonical := by
  unfold State.stepTally
  dsimp only
  split
  · exact h
  · exact ite h h.setStep

theorem State.Canonical.setPort {p : Nat} {x : Port} (h : s.Canonical) : (s.setPort p x).Canonical := h.withNet

theorem State.Canonical.setFlow {f : Nat} {x : Flow} (h : s.Canonical) : (s.setFlow f x).Canonical := h.withNet

theorem State.Canonical.setCommq {g : Nat} {x : CollQ} (h : s.Canonical) : (s.setCommq g x).Canonical := h.withColl

theorem State.Canonical.emit {m : OutMsg} (h : s.Canonical) : (s.emit m).Canonical := h.withOut

theorem State.Canonical.setTestRec {test page : Nat} {r : TestRec} (h : s.Canonical) : (s.setTestRec test page r).Canonical := h.withRecov

theorem State.Canonical.testPassed {test page : Nat} (h : s.Canonical) : (s.testPassed test page).Canonical := h.setTestRec

theorem State.Canonical.testAbandoned {test page : Nat} (h : s.Canonical) : (s.testAbandoned test page).Canonical := h.setTestRec

end

end Sys2Proof.Machine
end

section
/-!
SUPPORT. The canonical form of memory is kept by event records, errors and incidents.
-/

namespace Sys2Proof.Machine

section
variable {s : State}

theorem State.Canonical.sendMsix {q : Nat} (h : s.Canonical) : (s.sendMsix q).Canonical := ite h.withHost h.emit.cnt

theorem State.Canonical.signalWritten {q cls : Nat} (h : s.Canonical) : (s.signalWritten q cls).Canonical := ite (ite h.setEq.sendMsix h.setEq) h

theorem State.Canonical.evWrite {q : Nat} {r : EvRec} (h : s.Canonical) : (s.evWrite q r).Canonical := h.wle.wr.wr.setEq.cnt.signalWritten

theorem State.Canonical.dropCount {q cls : Nat} (h : s.Canonical) : (s.dropCount q cls).Canonical := h.wr

theorem State.Canonical.evLost {q : Nat} (h : s.Canonical) : (s.evLost q).1.Canonical := ite_fst (fst h) (fst h.evWrite.wr)

theorem State.Canonical.evPlace {q : Nat} {r : EvRec} (h : s.Canonical) : (s.evPlace q r).1.Canonical :=
  ite_fst (fst (ite_fst h.evLost (fst h)).evWrite) (ite_fst (fst (ite_fst h.evLost (fst h)).setEq.wr) (fst (ite_fst h.evLost (fst h)).setEq.dropCount.cnt))

theorem State.Canonical.evArrive {q : Nat} {r : EvRec} (h : s.Canonical) : (s.evArrive q r).1.Canonical := by
  unfold State.evArrive
  dsimp only
  split
  · exact h.evPlace
  · split
    · exact fst h.setEq.cnt
    · exact ite_fst (fst h.dropCount.cnt) h.setEq.evPlace

theorem State.Canonical.evRedirect {page : Nat} (h : s.Canonical) : (s.evRedirect page).Canonical := by
  unfold State.evRedirect
  dsimp only
  split
  · exact h.setEq
  · exact h

theorem State.Canonical.evDeliver {q : Option Nat} {r : EvRec} (h : s.Canonical) : (s.evDeliver q r).1.Canonical := by
  unfold State.evDeliver
  split
  · exact h.evArrive
  · exact ite_fst (fst h) (fst h)

theorem State.Canonical.logDrop {typ : Nat} (h : s.Canonical) : (s.logDrop typ).Canonical := h.withLog.cnt

theorem State.Canonical.logEvent {typ cls : Nat} {payload : List Nat} (h : s.Canonical) : (s.logEvent typ cls payload).Canonical :=
  ite h.withLog h.logDrop

theorem State.Canonical.logIncident {typ cls : Nat} {payload : List Nat} (h : s.Canonical) : (s.logIncident typ cls payload).Canonical :=
  ite h.logDrop.withLog h.logEvent.cnt

theorem State.Canonical.logState {typ : Nat} {payload : List Nat} (h : s.Canonical) : (s.logState typ payload).1.Canonical :=
  ite_fst (fst h.withLog.wr) (fst h.withLog)

theorem State.Canonical.incidentOpen {typ src cls : Nat} (h : s.Canonical) : (s.incidentOpen typ src cls).Canonical :=
  ite h h.withLog.wr.wr.wr.logIncident

theorem State.Canonical.incidentMap {f : Incident → Incident} (h : s.Canonical) : (s.incidentMap f).Canonical := h.withLog

theorem State.Canonical.incidentCopy {r : EvRec} (h : s.Canonical) : (s.incidentCopy r).Canonical := by
  have h1 : (if r.cls ≤ 1 then s.incidentOpen r.typ r.src r.cls else s).Canonical := ite h.incidentOpen h
  unfold State.incidentCopy
  dsimp only
  refine ite h (ite h1 ?_)
  split
  · exact h1.incidentMap
  · exact ite h1.incidentMap.cnt (ite h1.incidentMap.logIncident h1.incidentMap.cnt)

theorem State.Canonical.escalationRecord {fn level page status : Nat} (h : s.Canonical) : (s.escalationRecord fn level page status).Canonical :=
  ite h.logEvent (ite h.logEvent.wbs.withRecov h.logEvent.incSat.cnt)

theorem State.Canonical.dumpCause {fn kind level code src bit : Nat} (h : s.Canonical) : (s.dumpCause fn kind level code src bit).Canonical := by
  unfold State.dumpCause
  extract_lets _ _ t
  have ht : t.Canonical := h.incidentOpen
  split
  · exact h.withRecov
  · exact ite h.wr (ite h.escalationRecord.incSat.cnt.wr ht.withRecov.wr)

theorem State.Canonical.evRaise {page : Nat} {r : EvRec} (h : s.Canonical) : (s.evRaise page r).1.Canonical :=
  ite_fst (fst h) (ite_fst (fst h) h.incidentCopy.evRedirect.evDeliver)

theorem State.Canonical.ctxNote {t : Nat} (h : s.Canonical) : (s.ctxNote t).Canonical := ite h h.incidentMap.withRecov

theorem State.Canonical.raise1 {page n detail : Nat} {inj addr : Bool} {attr : Nat} (h : s.Canonical) : (s.raise1 page n detail inj addr attr).1.Canonical :=
  fst (ite (ite_fst h.wr.evRaise (fst h.wr)).dumpCause (ite_fst h.wr.evRaise (fst h.wr)))

theorem State.Canonical.raiseAll {k : Nat} {l : List Src} (h : s.Canonical) : (State.raiseAll k s l).Canonical := by
  induction k generalizing s l with
  | zero => cases l <;> exact h
  | succ k ih =>
    cases l with
    | nil => exact h
    | cons x l => exact ih h.raise1

theorem State.Canonical.raiseAt {page n detail : Nat} {inj addr : Bool} {attr : Nat} (h : s.Canonical) : (s.raiseAt page n detail inj addr attr).Canonical :=
  h.raise1.raiseAll

theorem State.Canonical.raise {page n : Nat} {detail : Nat} (h : s.Canonical) : (s.raise page n detail).Canonical := h.raiseAt

theorem State.Canonical.event {page typ cls payload : Nat} {addr : Bool} {attr : Nat} (h : s.Canonical) : (s.event page typ cls payload addr attr).Canonical :=
  h.evRaise.raiseAll

theorem State.Canonical.logStateRec {typ : Nat} {payload : List Nat} (h : s.Canonical) : (s.logStateRec typ payload).Canonical := h.logState.raiseAll

theorem State.Canonical.raiseCore {c n : Nat} {detail : Nat} (h : s.Canonical) : (s.raiseCore c n detail).Canonical := h.raiseAt

theorem State.Canonical.evDrainPend {k q : Nat} (h : s.Canonical) : (State.evDrainPend k s q).Canonical := by
  induction k generalizing s with
  | zero => exact h
  | succ k ih =>
    unfold State.evDrainPend
    dsimp only
    refine ite h ?_
    split
    · exact h
    · exact ih h.setEq.wr.evWrite

theorem State.Canonical.evSpace {q : Nat} (h : s.Canonical) : (s.evSpace q).Canonical := h.evLost.evDrainPend.raiseAll

theorem State.Canonical.setDbg {fn : Nat} {x : DbgFn} (h : s.Canonical) : (s.setDbg fn x).Canonical := h.withDbg

theorem State.Canonical.trace {fn src typ payload page : Nat} {addr : Bool} {attr : Nat} (h : s.Canonical) : (s.trace fn src typ payload page addr attr).Canonical :=
  ite (ite h.setDbg.wr h.setDbg.cnt.raise) h

theorem State.Canonical.traceWrite {fn : Nat} {r : EvRec} (h : s.Canonical) : (s.traceWrite fn r).Canonical := by
  unfold State.traceWrite
  extract_lets p n size t q q' u
  have ht : t.Canonical := h.wr.cnt
  have hu : u.Canonical := ht.wle
  refine ite ?_ (ite hu.wr.wr hu)
  split
  next e => exact State.Canonical.raiseAll (of_fst ht.evDeliver e)

theorem State.Canonical.traceWriteAll {fn : Nat} {l : List EvRec} (h : s.Canonical) : (s.traceWriteAll fn l).Canonical := by
  induction l generalizing s with
  | nil => exact h
  | cons r l ih => exact ite h (ih h.traceWrite)

theorem State.Canonical.traceFlush {fn : Nat} (h : s.Canonical) : (s.traceFlush fn).Canonical := ite h h.setDbg.traceWriteAll.wr

end

end Sys2Proof.Machine
end

section
/-!
SUPPORT. The canonical form of memory is kept by accesses to operands.
-/

namespace Sys2Proof.Machine

section
variable {s : State}

theorem State.Canonical.setChan {m ch : Nat} {x : Chan} (h : s.Canonical) : (s.setChan m ch x).Canonical := h.withHbm

theorem State.Canonical.setWcb {m : Nat} {l : List WcbEntry} (h : s.Canonical) : (s.setWcb m l).Canonical := h.withHbm

theorem State.Canonical.countHbmN {o n : Nat} {write : Bool} (h : s.Canonical) : (s.countHbmN o n write).Canonical := h.withHbm

theorem State.Canonical.countHbm {o : Nat} {write : Bool} (h : s.Canonical) : (s.countHbm o write).Canonical := h.countHbmN

theorem State.Canonical.countFar {o : Nat} (h : s.Canonical) : (s.countFar o).Canonical := h.withHbm

theorem State.Canonical.wbsM {a : Nat} {bs : List (Option Nat)} (h : s.Canonical) : (s.wbsM a bs).Canonical := by
  induction bs generalizing s a with
  | nil => exact h
  | cons b bs ih =>
    cases b with
    | none => exact ih h
    | some b => exact ih h.wb

theorem State.Canonical.wcbStore {x : WcbEntry} {n : Nat} (h : s.Canonical) : (s.wcbStore x n).Canonical := by
  induction n with
  | zero => exact h
  | succ n ih => exact ite ih.wb ih

theorem State.Canonical.wcbDrain {m : Nat} {x : WcbEntry} (h : s.Canonical) : (s.wcbDrain m x).Canonical := ite h.setWcb h.setWcb.wcbStore.cnt.cnt.cnt

theorem State.Canonical.wcbDrainAll {m : Nat} (h : s.Canonical) : (s.wcbDrainAll m).Canonical := foldl (fun h1 => ite h1 h1.wcbDrain) h

theorem State.Canonical.wcbSettle {m : Nat} (h : s.Canonical) : (s.wcbSettle m).Canonical := by
  unfold State.wcbSettle
  split
  · exact h.wcbDrainAll
  · split
    · split
      · exact h.wcbDrain
      · exact h
    · exact h

theorem State.Canonical.wcbWrite {o : Nat} {bs : List (Option Nat)} {bad : Bool} (h : s.Canonical) : (s.wcbWrite o bs bad).Canonical := by
  unfold State.wcbWrite
  extract_lets _ _ t u v
  have ht : t.Canonical := ite h.setPoison h
  have hu : u.Canonical := ht.cnt
  have hv : v.Canonical := hu.setWcb
  dsimp only
  split
  · exact ite hv.wcbStore.setPoison.cnt hu.setWcb.wcbSettle
  · exact ht.setWcb.wcbSettle

theorem State.Canonical.hbmWrite {o : Nat} {bs : List (Option Nat)} {bad : Bool} (h : s.Canonical) : (s.hbmWrite o bs bad).2.Canonical :=
  ite_snd (snd h) (ite_snd (snd h.cnt) (ite_snd (snd h.countHbm.setWcb.wbsM.setPoison.cnt) (snd h.countHbm.wcbWrite)))

theorem State.Canonical.farDegraded (h : s.Canonical) : (s.farDegraded).Canonical := h.wrB

theorem State.Canonical.readLine {pa n : Nat} (h : s.Canonical) : (s.readLine pa n).1.Canonical := by
  unfold State.readLine
  extract_lets _ _ _ t
  have ht : t.Canonical := h.countFar
  split
  · exact fst h.cnt
  · exact ite_fst (fst h) (fst h.countHbm.cnt)
  · exact ite_fst (fst ht.cnt) (fst ht.cnt.raiseAt)
  · exact fst h

theorem State.Canonical.writeLine {pa : Nat} {bs : List (Option Nat)} {poison : Bool} (h : s.Canonical) : (s.writeLine pa bs poison).2.Canonical := by
  unfold State.writeLine
  extract_lets _ _ _ _ t
  have ht : t.Canonical := h.countFar
  split
  · exact snd (ite (ite h.wbsM.setPoison h.wbsM).setPoison (ite h.wbsM.setPoison h.wbsM)).cnt
  · exact h.hbmWrite
  · exact ite_snd (snd (ite (ite ht.wbsM.setPoison ht.wbsM).setPoison (ite ht.wbsM.setPoison ht.wbsM)).cnt) (snd ht.cnt.raiseAt)
  · exact snd (ite (ite h.wbsM.setPoison h.wbsM).setPoison (ite h.wbsM.setPoison h.wbsM))

theorem State.Canonical.noteEntry {o : Nat} (h : s.Canonical) : (s.noteEntry o).Canonical := ite h h.countHbm.cnt

theorem State.Canonical.setXlt {fn : Nat} {x : XltSt} (h : s.Canonical) : (s.setXlt fn x).Canonical := h.withXlt

theorem State.Canonical.noteLookup {v : Via} {a : Nat} (h : s.Canonical) : (s.noteLookup v a).Canonical := by
  unfold State.noteLookup
  extract_lets vpn
  refine ite h ?_
  split
  · exact h
  · next t _ _ _ =>
    have noted : t.Canonical := by
      unfold t
      split
      exacts [h.noteEntry, h]
    exact noted.withHbm

theorem State.Canonical.readUpto {v : Via} {k a n : Nat} (h : s.Canonical) : (s.readUpto v k a n).1.Canonical := by
  induction k generalizing s a n with
  | zero => exact h
  | succ k ih =>
    unfold State.readUpto
    dsimp only
    refine ite_fst h ?_
    split
    · exact h
    · exact ite_fst h (ih h.noteLookup.readLine)

theorem State.Canonical.readSpan {v : Via} {k a n : Nat} (h : s.Canonical) : Except.Gives (fun x => x.1.Canonical) (s.readSpan v k a n) := by
  unfold State.readSpan
  split
  · next e =>
      have h1 := of_fst h.readUpto e
      exact .ok (fst h1)
  · exact .error

theorem State.Canonical.ldN {v : Via} {a n : Nat} (h : s.Canonical) : Except.Gives (fun x => x.1.Canonical) (s.ldN v a n) := h.readSpan

theorem State.Canonical.writeSpan {v : Via} {k a : Nat} {bs : List (Option Nat × Bool)} (h : s.Canonical) : (s.writeSpan v k a bs).2.Canonical := by
  induction k generalizing s a bs with
  | zero => exact h
  | succ k ih =>
    unfold State.writeSpan
    dsimp only
    refine ite_snd h ?_
    split
    · exact h
    · exact ite_snd (ih h) (ite_snd h (ite_snd (ih h.noteLookup.writeLine) h.noteLookup.writeLine))

theorem State.Canonical.stN {v : Via} {a : Nat} {bs : List (Option Nat)} (h : s.Canonical) : Except.Gives State.Canonical (s.stN v a bs) := by
  refine .after ?_
  split
  · next e => exact .ok (of_snd h.writeSpan e)
  · exact .error

end

end Sys2Proof.Machine
end

section
/-!
SUPPORT. The canonical form of memory is kept when a unit is taken out of service.
-/

namespace Sys2Proof.Machine

section
variable {s : State}

theorem State.Canonical.presenceEvent {kind id : Nat} (h : s.Canonical) : (s.presenceEvent kind id).Canonical := h.event

theorem State.Canonical.clearPresent {f : Fld} {b kind id : Nat} (h : s.Canonical) : (s.clearPresent f b kind id).Canonical :=
  ite h.wr.presenceEvent h

theorem State.Canonical.arraysCount (h : s.Canonical) : (s.arraysCount).Canonical := h.wr

theorem State.Canonical.clearQuad {q : Nat} (h : s.Canonical) : (s.clearQuad q).Canonical := h.clearPresent.arraysCount

theorem State.Canonical.clearCluster {n : Nat} (h : s.Canonical) : (s.clearCluster n).Canonical := h.clearPresent

theorem State.Canonical.clearMem {m : Nat} (h : s.Canonical) : (s.clearMem m).Canonical := h.clearPresent

theorem State.Canonical.clearPort {p : Nat} (h : s.Canonical) : (s.clearPort p).Canonical := h.clearPresent

theorem State.Canonical.rmapPut {bank i : Nat} {x : Nat × Nat × Bool} (h : s.Canonical) : (s.rmapPut bank i x).Canonical := h.withLog

theorem State.Canonical.rmapInsert1 {bank kind id : Nat} (h : s.Canonical) : (s.rmapInsert1 bank kind id).Canonical := by
  unfold State.rmapInsert1
  split
  · exact h.rmapPut
  · split
    · exact h.rmapPut
    · exact h

theorem State.Canonical.rmapInsert {kind id : Nat} (h : s.Canonical) : (s.rmapInsert kind id).Canonical :=
  ite h.rmapInsert1.rmapInsert1 (ite h.wr.raise h.rmapInsert1.rmapInsert1.wr)

theorem State.Canonical.retireUnit {kind id cause : Nat} (h : s.Canonical) : (s.retireUnit kind id cause).Canonical :=
  ite h.logStateRec.withLog h.logStateRec.withLog.rmapInsert

theorem State.Canonical.retireQuad {q cause : Nat} (h : s.Canonical) : (s.retireQuad q cause).Canonical := h.clearQuad.retireUnit

theorem State.Canonical.frameRetire {o : Nat} (h : s.Canonical) : (s.frameRetire o).Canonical := by
  unfold State.frameRetire
  extract_lets _ _ _ _ _ t
  have ht : t.Canonical := h.wr.retireUnit
  split
  · exact h
  · split
    · exact ite h h.withHbm.raise
    · split
      · exact ht.withHbm
      · exact ht.withHbm.raise

theorem State.Canonical.rowRetire {o : Nat} (h : s.Canonical) : (s.rowRetire o).Canonical := ite h.withHbm.cnt.cnt.wr.retireUnit.raise h.frameRetire

theorem State.Canonical.framesLeave (h : s.Canonical) : (s.framesLeave).Canonical := h.withHbm

end

end Sys2Proof.Machine
end

section
/-!
SUPPORT. The canonical form of memory is kept by counted events and by errors of check bits.
-/

namespace Sys2Proof.Machine

section
variable {s : State}

theorem State.Canonical.tally {c : Nat} {t : Tally} (h : s.Canonical) : (s.tally c t).Canonical := by
  unfold State.tally
  extract_lets _ u v w
  have hu : u.Canonical := h.stepTally
  have hv : v.Canonical := hu.cnt.cnt.cnt.cnt.cnt.cnt.cnt
  have hw : w.Canonical := hv.cnt.cnt.cnt.cnt.cnt
  exact ite (ite (ite (ite hw hw.incSat) (ite hw hw.incSat).incSat) (ite (ite hw hw.incSat) (ite hw hw.incSat).incSat).incSat) (ite (ite (ite hw hw.incSat) (ite hw hw.incSat).incSat) (ite (ite hw hw.incSat) (ite hw hw.incSat).incSat).incSat).incSat

theorem State.Canonical.loseBanks {c banks : Nat} (h : s.Canonical) : (s.loseBanks c banks).Canonical := h.setCore.withFree

theorem State.Canonical.noteSpadErr {c line : Nat} {ue : Bool} (h : s.Canonical) : (s.noteSpadErr c line ue).Canonical := ite h h.wr.wrB.wr

theorem State.Canonical.noteClmemErr {n line : Nat} {ue : Bool} (h : s.Canonical) : (s.noteClmemErr n line ue).Canonical := ite h h.wr.wrB.wr

theorem State.Canonical.noteHbmErr {o : Nat} {ue : Bool} (h : s.Canonical) : (s.noteHbmErr o ue).Canonical := ite h h.wr.wrB.wr.wr

theorem State.Canonical.upset {c : Nat} {l : Upset} (h : s.Canonical) : (s.upset c l).Canonical := by
  unfold State.upset
  dsimp only
  split
  · exact h.cnt.noteSpadErr.raiseCore
  · exact h.setPoison.noteSpadErr.raiseCore
  · exact h.cnt.noteClmemErr.raiseAt
  · exact h.setPoison.noteClmemErr.raiseAt
  · exact h.cnt.raiseCore
  · exact h.setCore.tally.cnt.raiseCore
  · exact h.raiseCore
  · exact h.setCore.raiseCore
  · exact h.raiseCore
  · exact h.raiseCore
  · exact h.cnt.raiseCore
  · exact h
  · exact h.cnt.raiseCore
  · exact h
  · exact h.cnt.cnt.noteHbmErr.raiseAt
  · exact h.setPoison.cnt.noteHbmErr.raiseAt.rowRetire
  · exact h.setPoison.cnt.raiseAt
  · exact h.setPoison.cnt.raiseAt
  · exact h.cnt.raiseAt

theorem State.Canonical.upsetAfter {s0 : State} {l : Upset} (h : s.Canonical) : (s0.upsetAfter s l).Canonical := by
  unfold State.upsetAfter
  split
  · exact h.setPoison
  · exact h.lose
  · exact h

theorem State.Canonical.upsetsAfter {s0 : State} {l : List Upset} (h : s.Canonical) : (s0.upsetsAfter s l).Canonical :=
  foldl (fun h1 => h1.upsetAfter) h

theorem State.Canonical.upsets {c : Nat} {l : List Upset} (h : s.Canonical) : (s.upsets c l).Canonical := foldl (fun h1 => h1.upset) h

theorem State.Canonical.bankUpsets {c : Nat} {l : List Upset} (h : s.Canonical) : (s.bankUpsets c l).Canonical := h.upsets

end

end Sys2Proof.Machine
end

section
/-!
SUPPORT. The canonical form of memory is kept by what the arrays of a core hold.
-/

namespace Sys2Proof.Machine

section
variable {s : State}

theorem State.Canonical.katShow {c : Nat} (h : s.Canonical) : (s.katShow c).Canonical := ite h.wr.wrB.wr h.wr.wrB

theorem State.Canonical.setKat {c : Nat} {k : Kat} (h : s.Canonical) : (s.setKat c k).Canonical := h.setCore.katShow

theorem State.Canonical.katStart {c first mask : Nat} {asked : Bool} (h : s.Canonical) : (s.katStart c first mask asked).Canonical := h.setKat.wr

theorem State.Canonical.katDue {c : Nat} (h : s.Canonical) : (s.katDue c).Canonical := ite h h.katStart.setCore

theorem State.Canonical.katOver {c a : Nat} (h : s.Canonical) : (s.katOver c a).Canonical := h.setKat

theorem State.Canonical.stepFails {c : Nat} {r : MmaRun} {hi : Nat} (h : s.Canonical) : (s.stepFails c r hi).Canonical := foldl (fun h1 => by
    dsimp only
    split
    · split
      · exact h1
      · split
        · exact h1.cnt.raiseCore.raiseCore.setCore
        · exact h1.cnt.raiseCore
    · exact h1) h

theorem State.Canonical.mmaBankUpsets {c : Nat} {r : MmaRun} (h : s.Canonical) : (s.mmaBankUpsets c r).Canonical := foldl (fun h1 => by
    dsimp only
    split
    · exact ite h1.cnt.raiseCore h1.upset
    · exact h1) h

theorem State.Canonical.busyShow {c : Nat} (h : s.Canonical) : (s.busyShow c).Canonical := h.wr

theorem State.Canonical.mmaWork {c : Nat} {r : MmaRun} {ps : List Pass} {hi : Nat} (h : s.Canonical) : (s.mmaWork c r ps hi).Canonical :=
  h.setCore.tally.stepFails.busyShow.cnt.cnt

theorem State.Canonical.feedersFill {c : Nat} (h : s.Canonical) : (s.feedersFill c).Canonical := by
  unfold State.feedersFill
  dsimp only
  split
  · exact h
  · exact ite h h.setCore

theorem State.Canonical.mmaRest {c : Nat} (h : s.Canonical) : (s.mmaRest c).Canonical := by
  unfold State.mmaRest
  dsimp only
  split
  · exact h
  · exact ite h (ite h.mmaWork.setCore.mmaWork h.mmaWork.setCore)

theorem State.Canonical.mmaFinish {c : Nat} (h : s.Canonical) : (s.mmaFinish c).Canonical := ite h h.mmaRest.setCore.cnt.wr.wr.katShow.katDue

end

end Sys2Proof.Machine
end

section
/-!
SUPPORT. The canonical form of memory is kept by the scale unit.
-/

namespace Sys2Proof.Machine

section
variable {s : State}

theorem State.Canonical.stRows {c : Nat} {l : List (Nat × List Nat)} (h : s.Canonical) : Except.Gives State.Canonical (s.stRows c l) := by
  induction l generalizing s with
  | nil => exact .ok h
  | cons x l ih => exact .bind h.stN ih

theorem State.Canonical.squantWork {c : Nat} {r : SquantRun} {hi : Nat} (h : s.Canonical) : Except.Gives State.Canonical (s.squantWork c r hi) :=
  h.setCore.tally.cnt.cnt.stRows

theorem State.Canonical.squantRest {c : Nat} (h : s.Canonical) : (s.squantRest c).Canonical := by
  unfold State.squantRest
  split
  · exact h
  · split
    · exact h
    · split
      · next e =>
          have h1 := h.squantWork _ e
          exact h1
      · exact h

theorem State.Canonical.squantFinish {c : Nat} (h : s.Canonical) : (s.squantFinish c).Canonical := ite h h.squantRest.setCore.cnt

end

end Sys2Proof.Machine
end

section
/-!
SUPPORT. The canonical form of memory is kept by the issue of an instruction, its exceptions and what the units give back.
-/

namespace Sys2Proof.Machine

section
variable {s : State}

theorem State.Canonical.fetch {c : Nat} (h : s.Canonical) : Except.Gives (fun x => x.1.Canonical) (s.fetch c) := by
  unfold State.fetch
  split
  · exact .error
  · split
    · exact .error
    · exact .ite .error (.ok (fst h.noteLookup.readLine))

theorem State.Canonical.fetched {c : Nat} (h : s.Canonical) : (s.fetched c).Canonical := by
  unfold State.fetched
  split
  · next e =>
      have h1 := h.fetch _ e
      exact h1
  · exact h

theorem State.Canonical.waitBanks {c banks : Nat} (h : s.Canonical) : (s.waitBanks c banks).Canonical := ite h h.mmaFinish

theorem State.Canonical.catchUp {c : Nat} (h : s.Canonical) : (s.catchUp c).Canonical := ite h.mmaRest.squantRest h

theorem State.Canonical.astFinish {c : Nat} (h : s.Canonical) : (s.astFinish c).Canonical := ite h h.setCore.cnt

theorem State.Canonical.unitsFinish {c : Nat} (h : s.Canonical) : (s.unitsFinish c).Canonical := ite h.mmaFinish.squantFinish.astFinish h

theorem State.Canonical.unissue {c : Nat} (h : s.Canonical) : (s.unissue c).Canonical := by
  unfold State.unissue
  extract_lets younger astBack squantBack
  have hast {s : State} (h : s.Canonical) : (astBack s).Canonical := by
    unfold astBack
    split
    · exact ite h.setCore.wr h
    · exact h
  have hsquant {s : State} (h : s.Canonical) : (squantBack s).Canonical := by
    unfold squantBack
    split
    · exact ite h.setCore.wr h
    · exact h
  exact hast (hsquant (hast h))

theorem State.Canonical.setRun {c n : Nat} (h : s.Canonical) : (s.setRun c n).Canonical := h.wr

theorem State.Canonical.takeExc {c code : Nat} (h : s.Canonical) : (s.takeExc c code).Canonical :=
  (ite h.unitsFinish.cnt h.unitsFinish).wr.wr.wr.raiseCore.setCore.setRun.wr

theorem State.Canonical.moveOn {c pc : Nat} (h : s.Canonical) : (s.moveOn c pc).Canonical := (ite h.setCore h).wr

theorem State.Canonical.retire {c pc : Nat} (h : s.Canonical) : (s.retire c pc).Canonical := h.moveOn.cnt

theorem State.Canonical.issue {c pred : Nat} {pneg : Bool} {ups : List Upset} {lanes : Bool} {body : Nat → State → Except Nat (State × Option Nat)} (h : s.Canonical)
    (hbody : ∀ {k t}, t.Canonical → Except.Gives (fun x => x.1.Canonical) (body k t)) : (s.issue c pred pneg ups lanes body).Canonical := by
  unfold State.issue
  extract_lets t _ u
  have ht : t.Canonical := h.fetched.upsets
  have hu : u.Canonical := ht.upsets
  dsimp only
  split
  · exact h
  · split
    · exact ite h (ite ht.raiseCore ht).takeExc
    · split
      · exact ht.retire
      · split
        · exact ite h hu.upsetsAfter.takeExc
        · next e =>
            have h1 := (hbody hu) _ e
            split
            · exact hu.upsetsAfter.takeExc
            · split
              · exact h1.upsetsAfter.retire
              · exact h1.upsetsAfter

theorem State.Canonical.issueNext {c pred : Nat} {pneg : Bool} {ups : List Upset} {lanes : Bool} {body : Nat → State → Except Nat State} (h : s.Canonical)
    (hbody : ∀ {k t}, t.Canonical → Except.Gives State.Canonical (body k t)) : (s.issueNext c pred pneg ups lanes body).Canonical :=
  h.issue (fun h1 => by
    split
    · exact .error
    · next e =>
        have h2 := (hbody h1) _ e
        exact .ok (fst h2))

theorem State.Canonical.issueLong {c pred : Nat} {pneg : Bool} {ups : List Upset} {body : State → Except Nat State} (h : s.Canonical)
    (hbody : ∀ {t}, t.Canonical → Except.Gives State.Canonical (body t)) : (s.issueLong c pred pneg ups body).Canonical := h.issue (fun h1 => by
    split
    · exact .error
    · next e =>
        have h2 := (hbody h1) _ e
        exact .ok (fst h2.moveOn))

theorem State.Canonical.issueR {x : RForm} {lanes : Bool} {body : Nat → State → Except Nat State} (h : s.Canonical)
    (hbody : ∀ {k t}, t.Canonical → Except.Gives State.Canonical (body k t)) : (s.issueR x lanes body).Canonical := h.issueNext hbody

theorem State.Canonical.issueI {x : IForm} {lanes : Bool} {body : Nat → State → Except Nat State} (h : s.Canonical)
    (hbody : ∀ {k t}, t.Canonical → Except.Gives State.Canonical (body k t)) : (s.issueI x lanes body).Canonical := h.issueNext hbody

theorem State.Canonical.issueUnit {x : RForm} {lanes : Bool} {body : Nat → State → Except Nat State} (h : s.Canonical)
    (hbody : ∀ {k t}, t.Canonical → Except.Gives State.Canonical (body k t)) : (s.issueUnit x lanes body).Canonical :=
  h.issueR (fun h1 => hbody h1.catchUp)

theorem State.Canonical.issueUnitI {x : IForm} {lanes : Bool} {body : Nat → State → Except Nat State} (h : s.Canonical)
    (hbody : ∀ {k t}, t.Canonical → Except.Gives State.Canonical (body k t)) : (s.issueUnitI x lanes body).Canonical :=
  h.issueI (fun h1 => hbody h1.catchUp)

end

end Sys2Proof.Machine
end

section
/-!
SUPPORT. The canonical form of memory is kept by known-answer tests.
-/

namespace Sys2Proof.Machine

section
variable {s : State}

theorem State.Canonical.execKatReq {fn core pattern mask : Nat} (h : s.Canonical) : Outcome.Canonical (execKatReq fn core pattern mask s) :=
  ite h (ite h.wr.wr h.wr.wr.wr.katStart)

theorem State.Canonical.fenceCore {c cause : Nat} (h : s.Canonical) : (s.fenceCore c cause).Canonical := h.wr.retireQuad

theorem State.Canonical.fenceArray {c a cause : Nat} (h : s.Canonical) : (s.fenceArray c a cause).Canonical :=
  ite h.wr.wr.wr.wr.setCore.wr.fenceCore.arraysCount h.wr.wr.wr.wr.setCore.wr.arraysCount.presenceEvent

theorem State.Canonical.katFence {c a : Nat} (h : s.Canonical) : (s.katFence c a).Canonical := h.setKat.retireUnit.fenceArray.raise

theorem State.Canonical.katFenceAll (h : s.Canonical) : (s.katFenceAll).Canonical := foldl (fun h1 => foldl (fun h2 => h2.katFence) h1) h

end

end Sys2Proof.Machine
end

section
/-!
SUPPORT. The canonical form of memory is kept by the TDESC class.
-/

namespace Sys2Proof.Machine

section
variable {s : State}

theorem State.Canonical.execTld {x : RForm} (h : s.Canonical) : Outcome.Canonical (execTld x s) :=
  h.issueUnit fun h1 => .after (.after (.after (.bind h1.ldN fun h2 => .after (by
    dsimp only
    split
    · exact .error
    · exact .ok h2.setCore))))

theorem State.Canonical.execTdim {x : RForm} (h : s.Canonical) : Outcome.Canonical (execTdim x s) :=
  h.issueR fun h1 => .after (by
    dsimp only
    split
    · exact .error
    · exact .ok h1.setCore)

end

end Sys2Proof.Machine
end

section
/-!
SUPPORT. The canonical form of memory is kept by the ACC class.
-/

namespace Sys2Proof.Machine

section
variable {s : State}

theorem State.Canonical.execAmerge {x : RForm} (h : s.Canonical) : Outcome.Canonical (execAmerge x s) :=
  h.issueUnit fun h1 => .after (.after (by
    intro _
    extract_lets
    split
    exact .ok h1.waitBanks.bankUpsets.setCore.tally))

theorem State.Canonical.execArow {x : RForm} (h : s.Canonical) : Outcome.Canonical (execArow x s) :=
  h.issueUnit (fun h1 => .after (.after (.ite (.after (.ok h1.waitBanks.bankUpsets.setCore.tally)) (.ok h1.waitBanks.bankUpsets.setCore.tally))))

theorem State.Canonical.astRows {c bank : Nat} {t : Ten} {sr : Bool} {n m : Nat} (h : s.Canonical) :
    Except.Gives State.Canonical (s.astRows c bank t sr n m) := by
  induction n generalizing s m with
  | zero => exact .ok h
  | succ n ih => exact .bind h.setCore.tally.stN ih

theorem State.Canonical.execAst {x : RForm} (h : s.Canonical) : Outcome.Canonical (execAst x s) :=
  h.issueLong (fun h1 => .after (.after (.after (.after (.after (.after (.ite (.after (.bind h1.catchUp.waitBanks.bankUpsets.astRows fun h2 => .ok h2.astFinish.setCore)) (.bind h1.catchUp.waitBanks.bankUpsets.astRows fun h2 => .ok h2.astFinish.setCore))))))))

end

end Sys2Proof.Machine
end

section
/-!
SUPPORT. The canonical form of memory is kept by the VEC, VCVT and VOPT classes.
-/

namespace Sys2Proof.Machine

section
variable {s : State}

theorem State.Canonical.vec {x : RForm} {f : Core → Nat → Nat × Tally} (h : s.Canonical) : (s.vec x f).Canonical :=
  h.issueR (fun h1 => .after (.after (.ok h1.setCore.tally)))

theorem State.Canonical.vecF1 {x : RForm} {f : Val → Val} (h : s.Canonical) : (s.vecF1 x f).Canonical := h.vec

theorem State.Canonical.vecF2 {x : RForm} {f : Val → Val → Val} (h : s.Canonical) : (s.vecF2 x f).Canonical := h.vec

theorem State.Canonical.vecF3 {x : RForm} {f : Val → Val → Val → Val} (h : s.Canonical) : (s.vecF3 x f).Canonical := h.vec

theorem State.Canonical.vecSign {x : RForm} {f : Nat → Nat} (h : s.Canonical) : (s.vecSign x f).Canonical := h.vec

theorem State.Canonical.vecI {x : RForm} {f : Nat → Nat → Nat} (h : s.Canonical) : (s.vecI x f).Canonical := h.vec

theorem State.Canonical.vecCmp {x : RForm} {f : Nat → Nat → Bool × Tally} (h : s.Canonical) : (s.vecCmp x f).Canonical :=
  h.issueR (fun h1 => .after (.after (.ok h1.setCore.tally)))

theorem State.Canonical.vecCmpF {x : RForm} {f : Val → Val → Bool} (h : s.Canonical) : (s.vecCmpF x f).Canonical := h.vecCmp

theorem State.Canonical.vecRed {x : RForm} {f : Core → Nat → Nat × Tally} (h : s.Canonical) : (s.vecRed x f).Canonical :=
  h.issueR (fun h1 => .after (.after (.ok h1.setCore.tally)))

end

end Sys2Proof.Machine
end

section
/-!
SUPPORT. The canonical form of memory is kept by the LDST class.
-/

namespace Sys2Proof.Machine

section
variable {s : State}

theorem State.Canonical.execVld {x : RForm} (h : s.Canonical) : Outcome.Canonical (execVld x s) :=
  h.issueUnit (fun h1 => .after (.after (.after (.after (.ite (.ok h1.setCore) (.after (.after (.after (.ite (.ok h1) (.bind h1.ldN fun h2 => .bind h2.ldN fun h3 => .ok h3.setCore.tally))))))))))

theorem State.Canonical.execVst {x : RForm} (h : s.Canonical) : Outcome.Canonical (execVst x s) :=
  h.issueUnit (fun h1 => .after (.after (.after (.after (.after (.ite (.ok h1) (.after (.after (.ite (.after h1.setCore.tally.stN) h1.setCore.tally.stN)))))))))

theorem State.Canonical.execRngld {x : RForm} (h : s.Canonical) : Outcome.Canonical (execRngld x s) :=
  h.issueUnit (fun h1 => .after (.after (.bind h1.ldN fun h2 => .after (.after (.ok (ite h2.withFree h2).setCore)))))

end

end Sys2Proof.Machine
end

section
/-!
SUPPORT. The canonical form of memory is kept by the SYNC and DMA classes.
-/

namespace Sys2Proof.Machine

section
variable {s : State}

theorem State.Canonical.engRegs {x : Nat} (h : s.Canonical) : (s.engRegs x).Canonical := ite h.wr.wrB h.wr.wr.wr.wr.wrB

theorem State.Canonical.putEng {x : Nat} {x' : DmaEng} (h : s.Canonical) : (s.putEng x x').Canonical := h.setEng.engRegs

theorem State.Canonical.engRngEnd {x : Nat} {d : DmaDesc} (h : s.Canonical) : (s.engRngEnd x d).Canonical := by
  have put {s : State} (f : Fld) (o : Option Nat) (h : s.Canonical) : (o.elim s (fun v => s.wr f (pEng x) v)).Canonical := by
    cases o
    · exact h
    · exact h.wr
  exact put _ _ (put _ _ (put _ _ h))

theorem State.Canonical.enqueue {x i c addr desc : Nat} (h : s.Canonical) : (s.enqueue x i c addr desc).Canonical := h.putEng

theorem State.Canonical.readDesc {c a : Nat} (h : s.Canonical) : Except.Gives (fun x => x.1.Canonical) (s.readDesc c a) :=
  .bind h.ldN fun h1 => .ite (.ok (fst h1.freeVal)) (.ok (fst h1))

theorem State.Canonical.execDmaq {x : RForm} (h : s.Canonical) : Outcome.Canonical (execDmaq x s) :=
  h.issue (fun h1 => .after (.after (.after (.after (.ite (.bind h1.catchUp.readDesc fun h2 => .ok (fst h2.enqueue)) (.ok (fst h1.catchUp.setCore.wr)))))))

theorem State.Canonical.waitOver {c : Nat} (h : s.Canonical) : (s.waitOver c).Canonical := h.setCore.wr.wr.retire

theorem State.Canonical.execDmaqSpace {core : Nat} (h : s.Canonical) : Outcome.Canonical (execDmaqSpace core s) := by
  unfold Machine.execDmaqSpace
  dsimp only
  split
  · split
    · split
      · next e =>
          have h1 := h.readDesc _ e
          exact h1.enqueue.waitOver
      · exact ite h h.setCore.wr.takeExc
    · exact h
  · exact h

theorem State.Canonical.execSigwaitMet {core : Nat} (h : s.Canonical) : Outcome.Canonical (execSigwaitMet core s) := by
  unfold Machine.execSigwaitMet
  split
  · exact ite h.waitOver h
  · exact h

theorem State.Canonical.execSigadd {x : RForm} (h : s.Canonical) : Outcome.Canonical (execSigadd x s) :=
  h.issueR fun h1 => .after (.after (by
    split
    · next e => exact .ok (of_snd h1.sigAdd e)
    · exact .error))

theorem State.Canonical.execFenceDone {core : Nat} (h : s.Canonical) : Outcome.Canonical (execFenceDone core s) := by
  unfold Machine.execFenceDone
  split
  · exact ite h.waitOver h
  · exact h

end

end Sys2Proof.Machine
end

section
/-!
SUPPORT. The canonical form of memory is kept by the DMA engines.
-/

namespace Sys2Proof.Machine

section
variable {s : State}

theorem State.Canonical.dmaTurn {x i : Nat} (h : s.Canonical) : (s.dmaTurn x i).Canonical := ite h (ite h.setEng h.setEng)

theorem State.Canonical.dmaBytes {x rd wr : Nat} (h : s.Canonical) : (s.dmaBytes x rd wr).Canonical := ite h.cnt.cnt h.cnt.cnt

theorem State.Canonical.dmaStore {x : Nat} {v : Via} {a : Nat} {bs : List (Nat × Bool)} (h : s.Canonical) : (s.dmaStore x v a bs).2.1.Canonical := by
  unfold State.dmaStore
  exact h.writeSpan.dmaBytes

theorem State.Canonical.dmaLoad {x : Nat} {v : Via} {a n : Nat} (h : s.Canonical) : Except.Canonical (s.dmaLoad x v a n) := by
  unfold State.dmaLoad
  split
  · next e => exact .ok (of_fst h.readUpto e).dmaBytes
  · next e => exact .error (of_fst h.readUpto e).dmaBytes

theorem State.Canonical.copyRun {x : Nat} {v : Via} {k a b n : Nat} (h : s.Canonical) : (s.copyRun x v k a b n).2.1.Canonical := by
  induction k generalizing s a b n with
  | zero => exact h
  | succ k ih =>
    unfold State.copyRun
    dsimp only
    refine ite_mid h ?_
    split
    · next e => exact h.dmaLoad.of_error e
    · next e =>
      have h1 := h.dmaLoad.of_ok e
      split
      · next e => exact ih (of_mid h1.dmaStore e)
      · exact h1.dmaStore

theorem State.Canonical.eachRow {n : Nat} {row : State → Nat → Move} (h : s.Canonical)
    (hrow : ∀ {t r}, t.Canonical → (row t r).2.1.Canonical) : (eachRow n s row).2.1.Canonical := by
  unfold Machine.eachRow
  refine List.foldlRecOn (motive := fun m : Move => m.2.1.Canonical) _ _ h fun m hm r _ => ?_
  dsimp only
  split
  · exact hrow hm
  · exact hm

theorem State.Canonical.dmaCopy {x : Nat} {d : DmaDesc} (h : s.Canonical) : (s.dmaCopy x d).2.1.Canonical := h.eachRow (fun h1 => h1.copyRun)

theorem State.Canonical.dmaFill {x : Nat} {d : DmaDesc} (h : s.Canonical) : (s.dmaFill x d).2.1.Canonical := h.eachRow (fun h1 => h1.dmaStore)

theorem State.Canonical.dmaRow {x : Nat} {v : Via} {t : Ten} {r : Nat} (h : s.Canonical) : Except.Canonical (s.dmaRow x v t r) :=
  .bind h.dmaLoad fun h1 => .ok h1

theorem State.Canonical.scaleRow {x : Nat} {v : Via} {t : Ten} {i : Nat} (h : s.Canonical) : Except.Canonical (s.scaleRow x v t i) := h.dmaLoad

theorem State.Canonical.convRow {x : Nat} {d : DmaDesc} {st r : Nat} (h : s.Canonical) : (s.convRow x d st r).1.2.1.Canonical := by
  unfold State.convRow
  dsimp only
  split
  · next e => exact Except.Canonical.of_error (.bind h.dmaRow fun h1 => by split; exacts [.ok h1, .bind h1.scaleRow fun h2 => .ok h2]) e
  · next e =>
    have h1 := Except.Canonical.of_ok (.bind h.dmaRow fun h1 => by split; exacts [.ok h1, .bind h1.scaleRow fun h2 => .ok h2]) e
    exact h1.tally.dmaStore

theorem State.Canonical.dmaConvert {x : Nat} {d : DmaDesc} (h : s.Canonical) : (s.dmaConvert x d).1.2.1.Canonical := by
  refine List.foldlRecOn (motive := fun m : Move × Nat => m.1.2.1.Canonical) _ _ h fun m hm r _ => ?_
  dsimp only
  split
  · exact convRow hm
  · exact hm

theorem State.Canonical.copyScales {x : Nat} {d : DmaDesc} (h : s.Canonical) : (s.copyScales x d).2.1.Canonical := h.eachRow (fun h1 => h1.copyRun)

theorem State.Canonical.dmaWiden {x : Nat} {d : DmaDesc} (h : s.Canonical) : (s.dmaWiden x d).2.1.Canonical := by
  unfold State.dmaWiden
  extract_lets src dst m
  have rows : m.2.1.Canonical := h.eachRow fun h1 => by
    split
    · next e => exact h1.dmaRow.of_error e
    · next e => exact (h1.dmaRow.of_ok e).tally.dmaStore
  clear_value m
  split
  · next e => exact copyScales rows
  · exact rows

theorem State.Canonical.dmaRows {x : Nat} {v : Via} {t : Ten} {n : Nat} (h : s.Canonical) : Except.Canonical (s.dmaRows x v t n) := by
  induction n with
  | zero => exact .ok h
  | succ n ih => exact .bind ih fun h1 => .bind h1.dmaRow fun h2 => .ok h2

theorem State.Canonical.scaleRowsAll {x : Nat} {v : Via} {t : Ten} {n : Nat} (h : s.Canonical) : Except.Canonical (s.scaleRowsAll x v t n) := by
  induction n with
  | zero => exact .ok h
  | succ n ih => exact .bind ih fun h1 => .bind h1.scaleRow fun h2 => .ok h2

theorem State.Canonical.dmaTranspose {x : Nat} {d : DmaDesc} (h : s.Canonical) : (s.dmaTranspose x d).2.1.Canonical := by
  unfold State.dmaTranspose
  extract_lets src dst
  split
  · next e => exact h.dmaRows.of_error e
  · next s rows e =>
    have h1 := h.dmaRows.of_ok e
    have scales : Except.Canonical (if src.sf = 0 then .ok (s, []) else s.scaleRowsAll x d.via src src.scaleDims.1) := by
      split
      exacts [.ok h1, h1.scaleRowsAll]
    split
    · next e => exact scales.of_error e
    · next e =>
      extract_lets m m'
      have hm : m.2.1.Canonical := (scales.of_ok e).eachRow fun h2 => h2.dmaStore
      clear_value m
      have hm' : m'.2.1.Canonical := by
        dsimp only [m']
        split
        · next s w => exact ite_mid hm (State.Canonical.eachRow hm fun h2 => h2.dmaStore)
        · exact hm
      exact hm'.cnt

theorem State.Canonical.setDesc {x i n : Nat} {d : DmaDesc} (h : s.Canonical) : (s.setDesc x i n d).Canonical := h.putEng

theorem State.Canonical.dmaStart {x : Nat} {ops : Nat → Bool} {ups : List Upset} {move : State → DmaDesc → Move × Option Nat} (h : s.Canonical)
    (hmove : ∀ {t k}, t.Canonical → (move t k).1.2.1.Canonical) : (s.dmaStart x ops ups move).Canonical := by
  unfold State.dmaStart
  dsimp only
  split
  · exact h
  · split
    · exact h
    · exact ite h (ite h.dmaTurn.setDesc (ite h (hmove h.upsets).upsetsAfter.dmaTurn.setDesc))

theorem State.Canonical.execConvert {eng : Nat} {ups : List Upset} (h : s.Canonical) : Outcome.Canonical (execConvert eng ups s) :=
  h.dmaStart (fun h1 => by
    split
    · exact fst_mid h1.dmaWiden
    · exact fst_mid h1.dmaConvert)

theorem State.Canonical.dmaFail {x i code addr : Nat} (h : s.Canonical) : (s.dmaFail x i code addr).Canonical :=
  ite (ite h.incSat h.wr.wr.wr.wr).raise (ite h.incSat h.wr.wr.wr.wr.wr).raise

theorem State.Canonical.dmaEnd {x i : Nat} {d : DmaDesc} {st : Nat} (h : s.Canonical) : (s.dmaEnd x i d st).Canonical := by
  unfold State.dmaEnd
  extract_lets p
  split
  next e =>
    have h1 := of_snd (ite_snd h (ite_snd h h.sigAdd)) e
    extract_lets t _ u v w y
    have ht : t.Canonical := h1.engRngEnd
    have hu : u.Canonical := ite ht.setCore ht
    have hv : v.Canonical := ite hu.cnt hu.dmaFail
    have hw : w.Canonical := ite hv.sigAdd hv
    exact hw.stepNote.trace

theorem State.Canonical.execDmaComplete {eng q n : Nat} (h : s.Canonical) : Outcome.Canonical (execDmaComplete eng q n s) := by
  unfold Machine.execDmaComplete
  dsimp only
  split
  · exact h
  · split
    · exact h.putEng.dmaEnd
    · exact h

end

end Sys2Proof.Machine
end

section
/-!
SUPPORT. The canonical form of memory is kept by the transmit side of a port.
-/

namespace Sys2Proof.Machine

section
variable {s : State}

theorem State.Canonical.sendIdle {p ackKind : Nat} (h : s.Canonical) : (s.sendIdle p ackKind).Canonical := ite h h.setPort.emit

theorem State.Canonical.sendFlit {p : Nat} {f : Flit} (h : s.Canonical) : (s.sendFlit p f).Canonical := h.setPort.emit.cnt

theorem State.Canonical.sendHead {p k : Nat} (h : s.Canonical) : (s.sendHead p k).Canonical := by
  unfold State.sendHead
  dsimp only
  split
  · exact h
  · exact h.setPort.sendFlit

theorem State.Canonical.pumpPort {n p : Nat} (h : s.Canonical) : (State.pumpPort n s p).Canonical := by
  induction n generalizing s with
  | zero => exact h
  | succ n ih =>
    unfold State.pumpPort
    extract_lets x q0 vc0 mid
    refine ite h (ite (ih h.sendHead) ?_)
    split
    · exact ih h.setPort.sendFlit
    · refine ite (ih h.sendHead) ?_
      split
      · exact ih (State.Canonical.sendHead (ite h.setPort h))
      · exact h

theorem State.Canonical.tokenFill {p : Nat} (h : s.Canonical) : (s.tokenFill p).Canonical := h.setPort

theorem State.Canonical.pump {p : Nat} (h : s.Canonical) : (s.pump p).Canonical := h.tokenFill.pumpPort

theorem State.Canonical.queueFlits {p k : Nat} {l : List Flit} (h : s.Canonical) : (s.queueFlits p k l).Canonical := h.setPort

theorem State.Canonical.sendControl {p : Nat} {bytes : List Nat} (h : s.Canonical) : (s.sendControl p bytes).Canonical := h.queueFlits.pump

theorem State.Canonical.noRoute (h : s.Canonical) : (s.noRoute).Canonical := h.cnt.raise

theorem State.Canonical.route {dst vc dflow : Nat} (h : s.Canonical) : (s.route dst vc dflow).2.Canonical := by
  unfold State.route
  split
  · exact snd h
  · split
    · exact snd h.noRoute
    · exact snd h.cnt
    · split
      · exact snd h.noRoute
      · exact snd h.cnt
      · split
        · exact snd h
        · exact snd h.noRoute

theorem State.Canonical.launch {vc : Nat} {marks : List (Bool × Nat × Bool)} {pass : Bool} {bs : List Nat} (h : s.Canonical) : (s.launch vc marks pass bs).Canonical :=
  by
  unfold State.launch
  dsimp only
  split
  · next e =>
      have h1 := of_snd h.route e
      exact h1.withNet
  · next e =>
      have h1 := of_snd h.route e
      exact h1
  · next e =>
      have h1 := of_snd h.route e
      exact ite h1.cnt.raise h1.queueFlits.pump

theorem State.Canonical.sendFrame {vc : Nat} {dmCheck : Bool} {f : Frame} (h : s.Canonical) : (s.sendFrame vc dmCheck f).Canonical := h.launch

theorem State.Canonical.relaunch {l : List (List Flit)} (h : s.Canonical) : (s.relaunch l).Canonical := foldl (fun h1 => h1.launch) h

theorem State.Canonical.quarantine {p : Nat} (h : s.Canonical) : (s.quarantine p).Canonical := h.wr.incSat.raise.setPort.relaunch

theorem State.Canonical.hostileCount {p : Nat} (h : s.Canonical) : (s.hostileCount p).Canonical :=
  ite (ite h.incSat h.setPort.wr).quarantine (ite h.incSat h.setPort.wr)

theorem State.Canonical.reject {p reason vc seq : Nat} (h : s.Canonical) : (s.reject p reason vc seq).Canonical := by
  unfold State.reject
  extract_lets _ _ t _ u v w y
  have ht : t.Canonical := h.cnt
  have hu : u.Canonical := ht.setPort
  have hv : v.Canonical := hu.wr.wr
  have hw : w.Canonical := hv.sendControl
  have hy : y.Canonical := ite ht (ite hw.raise hw)
  exact ite hy.hostileCount hy

end

end Sys2Proof.Machine
end

section
/-!
SUPPORT. The canonical form of memory is kept by flows.
-/

namespace Sys2Proof.Machine

section
variable {s : State}

theorem State.Canonical.flowTouch {id : Nat} (h : s.Canonical) : (s.flowTouch id).Canonical := by
  unfold State.flowTouch
  extract_lets t full
  refine ite h ?_
  split
  next n u e =>
    exact (of_snd (ite_snd h.cnt.freeVal (snd h.cnt)) e).withNet

theorem State.Canonical.flowUsedReg {fn : Nat} (h : s.Canonical) : (s.flowUsedReg fn).Canonical := h.wr

theorem State.Canonical.tagResult {tag st : Nat} (h : s.Canonical) : (s.tagResult tag st).Canonical := ite h h.putEng

theorem State.Canonical.flowEnd {id st : Nat} (h : s.Canonical) : (s.flowEnd id st).Canonical := foldl (fun h1 => h1.tagResult) h

theorem State.Canonical.flowSettle {id : Nat} {tags : List Nat} (h : s.Canonical) : (s.flowSettle id tags).Canonical :=
  foldl (fun h1 => ite h1 h1.tagResult) h

theorem State.Canonical.txRead {x : Flow} {r : TxReq} (h : s.Canonical) : Except.Gives (fun x => x.1.Canonical) (s.txRead x r) := by
  unfold State.txRead
  split
  · exact .ok (fst h)
  · exact .bind h.ldN fun h1 => .ok (fst h1)

theorem State.Canonical.descMoved {tag rd wr : Nat} (h : s.Canonical) : (s.descMoved tag rd wr).Canonical := ite h h.putEng.dmaBytes

theorem State.Canonical.flowPumpN {n id : Nat} (h : s.Canonical) : (State.flowPumpN n s id).Canonical := by
  induction n generalizing s with
  | zero => exact h
  | succ n ih =>
    unfold State.flowPumpN
    extract_lets x
    split
    · exact h
    · refine ite h ?_
      split
      · exact ite h (ih h.tagResult.setFlow)
      · next e => exact ih (h.txRead _ e).setFlow.cnt.descMoved.sendFrame

theorem State.Canonical.flowPump {id : Nat} (h : s.Canonical) : (s.flowPump id).Canonical := h.flowTouch.flowPumpN

theorem State.Canonical.flowQueue {id : Nat} {l : List TxReq} (h : s.Canonical) : (s.flowQueue id l).Canonical := h.setFlow.flowPump

theorem State.Canonical.resendReqs {id : Nat} {x : Flow} {l : List TxReq} (h : s.Canonical) : (State.resendReqs id x l s).Canonical := by
  induction l generalizing s with
  | nil => exact h
  | cons r l ih =>
    unfold State.resendReqs
    split
    · next e => exact ih (State.Canonical.cnt (h.txRead _ e)).sendFrame
    · exact ite h (ih h.cnt.sendFrame)

theorem State.Canonical.flowResend {id : Nat} (h : s.Canonical) : (s.flowResend id).Canonical := h.flowTouch.resendReqs

theorem State.Canonical.sendAck {id : Nat} (h : s.Canonical) : (s.sendAck id).Canonical := h.setFlow.sendFrame

theorem State.Canonical.sendNak {id status : Nat} {f : Frame} (h : s.Canonical) : (s.sendNak id status f).Canonical := h.sendFrame

theorem State.Canonical.ackTo {id a : Nat} (h : s.Canonical) : (s.ackTo id a).Canonical := ite h h.setFlow.flowSettle

theorem State.Canonical.collPeerLost {fn g : Nat} (h : s.Canonical) : (s.collPeerLost fn g).Canonical := by
  unfold State.collPeerLost
  dsimp only
  split
  · exact ite h.setCommq.raise h
  · exact h

theorem State.Canonical.flowFail {id : Nat} (h : s.Canonical) : (s.flowFail id).Canonical := by
  unfold State.flowFail
  extract_lets _ t u v
  have ht : t.Canonical := h.flowEnd
  have hu : u.Canonical := ht.setFlow
  have hv : v.Canonical := hu.wr.raise
  split
  · exact ite hv.collPeerLost hv
  · exact hv

theorem State.Canonical.flowReset {id : Nat} (h : s.Canonical) : (s.flowReset id).Canonical := ite h.flowEnd h.flowEnd.setFlow

theorem State.Canonical.flowsReset {fn : Nat} (h : s.Canonical) : (s.flowsReset fn).Canonical := foldl (fun h1 => h1.flowReset) h

theorem State.Canonical.flowClose {id : Nat} (h : s.Canonical) : (s.flowClose id).Canonical := h.flowEnd.setFlow.flowUsedReg

theorem State.Canonical.rxDrop {vc i : Nat} (h : s.Canonical) : (s.rxDrop vc i).Canonical := h.withNet

theorem State.Canonical.nakUnknown {vc : Nat} {f : Frame} (h : s.Canonical) : (s.nakUnknown vc f).Canonical := h.sendFrame

theorem State.Canonical.flowIncarnate {id inc : Nat} (h : s.Canonical) : (s.flowIncarnate id inc).Canonical := h.flowEnd.setFlow.raise

theorem State.Canonical.flowStale {id : Nat} {f : Frame} (h : s.Canonical) : (s.flowStale id f).Canonical := h.cnt.sendNak

theorem State.Canonical.ackDue {id : Nat} (h : s.Canonical) : (s.ackDue id).Canonical := ite h.sendAck h

/-- The state that a frame's meeting with its flow leaves, where it leaves one, has its memory in the canonical form. -/
def Meet.Canonical : Meet → Prop
  | .done t => t.Canonical
  | .wait => True
  | .take t => t.Canonical

theorem Meet.Canonical.of_done {x : Meet} {t : State} (h : x.Canonical) (e : x = .done t) : t.Canonical := by
  subst e
  exact h

theorem Meet.Canonical.of_take {x : Meet} {t : State} (h : x.Canonical) (e : x = .take t) : t.Canonical := by
  subst e
  exact h

theorem Meet.Canonical.ite {p : Prop} {_ : Decidable p} {x y : Meet} (hx : x.Canonical) (hy : y.Canonical) : (if p then x else y).Canonical := by
  split <;> assumption

theorem State.Canonical.meet {vc i : Nat} {f : Frame} {check : State → Flow → Frame → Nat} (h : s.Canonical) : (s.meet vc i f check).Canonical := by
  have h0 := (h.rxDrop (vc := vc) (i := i)).flowTouch (id := f.dflow)
  unfold State.meet
  extract_lets id s0 syn other s1 x d st s2
  have h1 : s1.Canonical := ite h0.flowIncarnate h0
  have h2 : s2.Canonical := h1.setFlow
  refine .ite h.rxDrop.nakUnknown (.ite h0.flowStale (.ite ?_ (.ite trivial (.ite h2.sendNak.ackDue h2.ackTo))))
  exact ite h1.sendNak h1.sendAck

theorem State.Canonical.takeFrame {vc op : Nat} {apply : State → Flow → Frame → State} (h : s.Canonical)
    (happly : ∀ {t x f}, t.Canonical → (apply t x f).Canonical) : (s.takeFrame vc op apply).Canonical := by
  unfold State.takeFrame
  split
  · exact h
  · refine ite h ?_
    split
    · next e => exact (h.meet.of_done e).flowPump
    · exact h
    · next e => exact (happly (h.meet.of_take e)).ackDue.flowPump

theorem State.Canonical.frameSig {f : Frame} (h : s.Canonical) : (s.frameSig f).Canonical := ite h h.sigAdd

theorem State.Canonical.windowWrite {fn a : Nat} {bs : List (Nat × Bool)} (h : s.Canonical) : (s.windowWrite fn a bs).2.Canonical := h.writeSpan

theorem State.Canonical.execGetReq {vc : Nat} {ups : List Upset} (h : s.Canonical) : Outcome.Canonical (execGetReq vc ups s) :=
  h.takeFrame (fun h1 => by
    dsimp only
    split
    · exact h1
    · next e =>
        have h2 := h1.upsets.ldN _ e
        exact h2.flowQueue.frameSig)

theorem State.Canonical.getWrite {fn : Nat} {r : TxReq} {bs : List (Nat × Bool)} (h : s.Canonical) : (s.getWrite fn r bs).2.1.Canonical := by
  unfold State.getWrite
  exact ite_mid h h.writeSpan

theorem State.Canonical.execGetResp {vc : Nat} {ups : List Upset} (h : s.Canonical) : Outcome.Canonical (execGetResp vc ups s) :=
  h.takeFrame (fun h1 => by
    dsimp only
    split
    · exact h1
    · exact ite h1.upsets.getWrite.descMoved.setFlow.tagResult h1.upsets.getWrite.descMoved.setFlow.flowSettle)

theorem State.Canonical.collOvf {fn n : Nat} (h : s.Canonical) : (s.collOvf fn n).Canonical := ite h h.incSat.raise

theorem State.Canonical.execAtomicAdd {vc : Nat} {ups : List Upset} (h : s.Canonical) : Outcome.Canonical (execAtomicAdd vc ups s) :=
  h.takeFrame (fun h1 => by
    dsimp only
    split
    · exact h1
    · next e =>
        have h2 := h1.upsets.ldN _ e
        exact h2.windowWrite.collOvf.frameSig)

theorem State.Canonical.execSignal {vc : Nat} (h : s.Canonical) : Outcome.Canonical (execSignal vc s) := h.takeFrame (fun h1 => by
    split
    · exact h1
    · split
      · next e =>
          have h2 := of_snd h1.sigAdd e
          exact h2
      · next e =>
          have h2 := of_snd h1.sigAdd e
          exact h2.sendNak)

theorem State.Canonical.takeBare {vc op : Nat} {apply : State → Nat → Frame → State} (h : s.Canonical)
    (happly : ∀ {t k l}, t.Canonical → (apply t k l).Canonical) : (s.takeBare vc op apply).Canonical := by
  unfold State.takeBare
  dsimp only
  split
  · exact h
  · exact ite h.rxDrop (ite h.rxDrop.flowTouch.flowStale (ite h.rxDrop (happly h.rxDrop.flowTouch)))

theorem State.Canonical.flowFailReq {id : Nat} {r : TxReq} {st : Nat} (h : s.Canonical) : (s.flowFailReq id r st).Canonical :=
  ite h.tagResult h.tagResult.setFlow

theorem State.Canonical.execNak {vc : Nat} (h : s.Canonical) : Outcome.Canonical (execNak vc s) :=
  h.takeBare fun h1 => by
    extract_lets p t u x unseen r v
    have ht : t.Canonical := h1.cnt
    have hu : u.Canonical := ht.raise
    have hv : v.Canonical := by
      unfold v
      cases r
      exacts [hu, hu.flowFailReq]
    exact ite ht.ackTo.flowResend.flowPump (State.Canonical.flowPump (ite hv hv.ackTo))

theorem State.Canonical.flowCmd {req fn op : Nat} {f : State → Nat → Nat × State} (h : s.Canonical)
    (hf : ∀ {t k}, t.Canonical → (f t k).2.Canonical) : (s.flowCmd req fn op f).Canonical := ite h (ite_snd (hf h.wr) (snd h.wr)).wr

theorem State.Canonical.flowOpen {fn : Nat} {named : Option Nat} {image : Nat} (h : s.Canonical) : (s.flowOpen fn named image).2.Canonical :=
  ite_snd (snd h) (ite_snd (snd h) (snd h.setFlow.flowUsedReg))

theorem State.Canonical.execFlowOpen {req fn : Nat} (h : s.Canonical) : Outcome.Canonical (execFlowOpen req fn s) :=
  h.flowCmd (fun h1 => snd (ite h1.flowOpen.wr h1.flowOpen))

theorem State.Canonical.flowOwned {fn id : Nat} {f : State → State} (h : s.Canonical)
    (hf : ∀ {t}, t.Canonical → (f t).Canonical) : (s.flowOwned fn id f).2.Canonical := ite_snd (snd h) (snd (hf h))

theorem State.Canonical.execFlowClose {req fn : Nat} (h : s.Canonical) : Outcome.Canonical (execFlowClose req fn s) :=
  h.flowCmd (fun h1 => h1.flowOwned (fun h2 => h2.flowClose))

theorem State.Canonical.execFlowReset {req fn : Nat} (h : s.Canonical) : Outcome.Canonical (execFlowReset req fn s) :=
  h.flowCmd (fun h1 => h1.flowOwned (fun h2 => h2.flowReset))

theorem State.Canonical.execFlowRead {req fn : Nat} (h : s.Canonical) : Outcome.Canonical (execFlowRead req fn s) :=
  h.flowCmd (fun h1 => h1.flowOwned (fun h2 => h2.wr))

theorem State.Canonical.dmaFlow {x op : Nat} {ups : List Upset} (h : s.Canonical) : (s.dmaFlow x op ups).Canonical := by
  unfold State.dmaFlow
  dsimp only
  split
  · exact h
  · split
    · exact h
    · exact ite h (ite h.dmaTurn.upsets.setDesc (ite h.dmaTurn.upsets.setDesc (ite h.dmaTurn.upsets.noRoute.setDesc (ite h.dmaTurn.upsets.setDesc h.dmaTurn.upsets.withNet.setDesc.flowQueue))))

end

end Sys2Proof.Machine
end

section
/-!
SUPPORT. The canonical form of memory is kept by the command queues.
-/

namespace Sys2Proof.Machine

section
variable {s : State}

theorem State.Canonical.cmdMap {q num : Nat} {f : Cmd → Cmd} (h : s.Canonical) : (s.cmdMap q num f).Canonical := h.setCq

theorem State.Canonical.cmdResult {q num st : Nat} (h : s.Canonical) : (s.cmdResult q num st).Canonical := h.cmdMap

theorem State.Canonical.cqWait {q op sig : Nat} (h : s.Canonical) : (s.cqWait q op sig).Canonical := h.wr.wr

theorem State.Canonical.twPending {fn : Nat} (h : s.Canonical) : (s.twPending fn).Canonical := h.wr.wrB

theorem State.Canonical.twMatch1 {fn q : Nat} {c : Cmd} {k : Nat} (h : s.Canonical) : (State.twMatch1 fn q c s k).Canonical :=
  ite (ite h.setDbg.twPending h.setDbg) h

theorem State.Canonical.twMatch {fn q : Nat} {c : Cmd} (h : s.Canonical) : (s.twMatch fn q c).Canonical := ite (foldl (fun h1 => h1.twMatch1) h) h

theorem State.Canonical.cmdStart {q op : Nat} {body : State → Cmd → Option (State × Option Nat)} (h : s.Canonical)
    (hbody : ∀ {t k}, t.Canonical → Option.Gives (fun x => x.1.Canonical) (body t k)) : (s.cmdStart q op body).Canonical := by
  unfold State.cmdStart
  dsimp only
  split
  · exact h
  · split
    · exact h
    · split
      · exact h.cqWait
      · split
        · exact h.cqWait
        · next e =>
            have h1 := (hbody h.cmdMap) _ e
            split
            · exact h1.trace.cqWait.twMatch.cmdResult
            · exact h1.trace.cqWait.twMatch

end

end Sys2Proof.Machine
end

section
/-!
SUPPORT. The canonical form of memory is kept by collectives.
-/

namespace Sys2Proof.Machine

section
variable {s : State}

theorem State.Canonical.grpClose {g x : Nat} (h : s.Canonical) : (s.grpClose g x).Canonical := foldl (fun h1 => by
    dsimp only
    split
    · exact ite h1.flowClose h1
    · exact h1) h

theorem State.Canonical.grpOpen {fn g x : Nat} (h : s.Canonical) : (s.grpOpen fn g x).Canonical := by
  unfold State.grpOpen
  extract_lets t
  have ht : t.Canonical := h.wr
  refine ite ht ?_
  split
  next ok opened u e =>
    have hu : u.Canonical := by
      refine (congrArg (fun a : Bool × List Nat × State => a.2.2.Canonical) e).mp ?_
      refine List.foldlRecOn (motive := fun a : Bool × List Nat × State => a.2.2.Canonical) _ _ ht fun a ha k _ => ?_
      dsimp only
      split
      · split
        · next e => exact (of_snd ha.flowOpen e).setFlow
        · next e => exact of_snd ha.flowOpen e
      · exact ha
    exact ite hu.wr (State.Canonical.raise (foldl (fun h1 => h1.flowClose) hu))

theorem State.Canonical.grpIdle {g : Nat} (h : s.Canonical) : (s.grpIdle g).Canonical := ite h (foldl (fun h1 => h1.grpClose) h).setCommq

theorem State.Canonical.grpFlipped {fn old : Nat} (h : s.Canonical) : (s.grpFlipped fn old).Canonical :=
  foldl (fun h1 => ite h1 (ite h1.setCommq.grpIdle h1).grpOpen) h

theorem State.Canonical.grpPut {id : Nat} {bytes : List Nat} {off poison : Nat} (h : s.Canonical) : (s.grpPut id bytes off poison).Canonical :=
  h.flowQueue

theorem State.Canonical.sendAborts {x gid seq st : Nat} (h : s.Canonical) : (s.sendAborts x gid seq st).Canonical :=
  foldl (fun h1 => ite h1.grpPut h1) h

theorem State.Canonical.setHead {g : Nat} {o : CollOp} (h : s.Canonical) : (s.setHead g o).Canonical := h.setCommq

theorem State.Canonical.collFail {g st : Nat} (h : s.Canonical) : (s.collFail g st).Canonical := by
  unfold State.collFail
  split
  · exact ite h.setHead h
  · exact h

theorem State.Canonical.contributions {fn : Nat} {o : CollOp} (h : s.Canonical) : Except.Gives (fun x => x.1.Canonical) (s.contributions fn o) :=
  .bind h.ldN fun h1 => .ite (.bind h1.ldN fun h2 => .bind h2.ldN fun h3 => .ok (fst h3)) (.ok (fst h1))

theorem State.Canonical.collWrite {fn a : Nat} {bs : List Nat} (h : s.Canonical) : (s.collWrite fn a bs).2.Canonical := h.writeSpan

theorem State.Canonical.collQuantise {fn g : Nat} {o : CollOp} (h : s.Canonical) : (s.collQuantise fn g o).2.Canonical := by
  unfold State.collQuantise
  extract_lets _ _ t _ _ u
  have ht : t.Canonical := h.cnt
  have hu : u.Canonical := ht.tally
  split
  · split
    · next e =>
        have h1 := of_snd hu.collWrite e
        exact snd h1.collWrite.setHead
    · next e =>
        have h1 := of_snd hu.collWrite e
        exact snd h1.setHead
  · exact snd ht.setHead

theorem State.Canonical.collReadout {fn g : Nat} {o : CollOp} (h : s.Canonical) : (s.collReadout fn g o).2.Canonical :=
  snd h.tally.cnt.incSat.collWrite.setHead

theorem State.Canonical.gatherRead {fn : Nat} {o : CollOp} {b : Nat} (h : s.Canonical) : Except.Gives (fun x => x.1.Canonical) (s.gatherRead fn o b) :=
  .bind h.ldN fun h1 => .ite (.ok (fst h1)) (.bind h1.ldN fun h2 => .ok (fst h2))

theorem State.Canonical.blockData {fn : Nat} {o : CollOp} {ph : Phase} {b : Nat} (h : s.Canonical) : Except.Gives (fun x => x.1.Canonical) (s.blockData fn o ph b) :=
  by
  unfold State.blockData
  dsimp only
  split
  · exact .ok (fst h)
  · exact .ok (fst h)
  · exact h.gatherRead

theorem State.Canonical.sendBlocks {k fn : Nat} {o : CollOp} {ph : Phase} {id base : Nat} {bl : List Nat} (h : s.Canonical) :
    (State.sendBlocks k s fn o ph id base bl).2.Canonical := by
  induction k generalizing s bl with
  | zero => exact h
  | succ k ih =>
    unfold State.sendBlocks
    split
    · exact h
    · extract_lets n
      split
      · exact h
      · next u d e =>
        have hu : u.Canonical := by
          refine List.foldlRecOn (motive := Except.Gives fun x : State × List Nat => x.1.Canonical) _ _ (.ok h) ?_ _ e
          exact fun _ ha _ _ => .bind ha fun h1 => .bind h1.blockData fun h2 => .ok h2
        exact ih hu.cnt.cnt.grpPut

theorem State.Canonical.sendStep {fn : Nat} {o : CollOp} {ph : Phase} {st : Nat} (h : s.Canonical) : (s.sendStep fn o ph st).2.Canonical :=
  List.foldlRecOn (motive := fun a : Nat × State => a.2.Canonical) _ _ h fun _ ha _ _ => ite_snd ha ha.sendBlocks

theorem State.Canonical.takeBlock {fn : Nat} {o : CollOp} {ph : Phase} {b : Nat} {d : List Nat} (h : s.Canonical) : (s.takeBlock fn o ph b d).2.1.Canonical :=
  by
  unfold State.takeBlock
  dsimp only
  split
  · exact mid h
  · exact mid h
  · split
    · next e =>
        have h1 := of_snd h.collWrite e
        exact ite_mid (mid h1) (mid h1.collWrite)
    · next e =>
        have h1 := of_snd h.collWrite e
        exact mid h1

theorem State.Canonical.takePiece {fn : Nat} {o : CollOp} {ph : Phase} {bl d : List Nat} (h : s.Canonical) :
    (s.takePiece fn o ph bl d).2.1.Canonical := by
  induction bl generalizing s o d with
  | nil => exact h
  | cons b bl ih =>
    unfold State.takePiece
    extract_lets n
    split
    · next e => exact ih (of_mid h.takeBlock e)
    · exact h.takeBlock

theorem State.Canonical.ringTake {fn g : Nat} {o : CollOp} {ph : Phase} {w : Nat} (h : s.Canonical) : Option.Gives (fun x => x.2.Canonical) (s.ringTake fn g o ph w) :=
  .ite .none (.ite .none (.some (snd h.takePiece.setHead.collOvf)))

theorem State.Canonical.collEnter {fn g : Nat} {o : CollOp} {k : Nat} (h : s.Canonical) : (s.collEnter fn g o k).2.Canonical := by
  unfold State.collEnter
  extract_lets nEx nRed o' t
  have ht : t.Canonical := h.setHead
  split
  next e =>
    have h1 := of_snd (ite_snd ht.collQuantise ht) e
    refine ite_snd h1 ?_
    extract_lets o''
    split
    next e =>
      have h2 := of_snd (ite_snd h1.collReadout h1) e
      refine ite_snd h2 ?_
      extract_lets o3
      split
      · exact h2.setHead
      · exact (foldl (fun h3 => h3.grpPut) h2).sendStep

theorem State.Canonical.collRun {n fn g : Nat} (h : s.Canonical) : (State.collRun n s fn g).2.Canonical := by
  have ring {s : State} (h : s.Canonical) {o : CollOp} {ph : Phase} {l : List Nat} {r : Nat × State} (e : l.findSome? (s.ringTake fn g o ph) = some r) :
      r.2.Canonical := by
    obtain ⟨w, -, hw⟩ := List.exists_of_findSome?_eq_some e
    exact h.ringTake _ hw
  induction n generalizing s with
  | zero => exact h
  | succ n ih =>
    unfold State.collRun
    split
    · exact h
    split
    · exact h
    refine ite_snd h ?_
    extract_lets e rings done
    refine ite_snd ?_ ?_
    · split
      · next e => exact ih (of_snd h.collEnter e)
      · exact h.collEnter
    · split
      · exact h
      · next e =>
        have h1 := ring h e
        extract_lets o'
        refine ite_snd ?_ (ih h1)
        split
        · next e => exact ih (of_snd (State.Canonical.sendStep h1) e)
        · exact State.Canonical.sendStep h1
      · next e => exact ring h e

theorem State.Canonical.collGo {fn g : Nat} (h : s.Canonical) : Option.Gives State.Canonical (s.collGo fn g) := by
  unfold State.collGo
  split
  · next e =>
      have h1 := of_snd h.collRun e
      exact .some h1
  · next e =>
      have h1 := of_snd h.collRun e
      exact .ite .none (.some h1.collFail)

theorem State.Canonical.quadsApply {fn : Nat} (h : s.Canonical) : (s.quadsApply fn).Canonical := h.withColl

theorem State.Canonical.collRegs {g : Nat} (h : s.Canonical) : (s.collRegs g).Canonical := ite h.wr h.wr.wr

theorem State.Canonical.collSignal {fn : Nat} {errSignal : Bool} {sig inc st : Nat} (h : s.Canonical) : (s.collSignal fn errSignal sig inc st).2.Canonical :=
  ite_snd (snd h) (ite_snd h.sigAdd (ite_snd (snd h.sigAdd) (snd h)))

/-- The state that a launch leaves, where it has been taken, has its memory in the canonical form. -/
def LaunchAns.Canonical : LaunchAns → Prop
  | .taken t _ => t.Canonical
  | _ => True

theorem LaunchAns.Canonical.ite {p : Prop} {_ : Decidable p} {x y : LaunchAns} (hx : x.Canonical) (hy : y.Canonical) : (if p then x else y).Canonical :=
  by
  split <;> assumption

theorem LaunchAns.Canonical.start {x : LaunchAns} (h : x.Canonical) : Option.Gives (fun x => x.1.Canonical) x.start := by
  cases x with
  | taken t st => exact .some h
  | wait => exact .none
  | full => exact .none

theorem State.Canonical.collTry {q : Nat} {c : Cmd} (h : s.Canonical) : (s.collTry q c).Canonical := by
  unfold State.collTry
  extract_lets fn a
  refine .ite h (.ite h ?_)
  split
  · exact .ite trivial h
  · next u bs e =>
    have hu : u.Canonical := h.ldN _ e
    split
    next e =>
      have h2 := of_snd (by split; exacts [hu.freeVal, hu]) e
      extract_lets ends
      have hends {s : State} {st : Nat} (h : s.Canonical) : (ends s st).Canonical := h.collSignal
      split
      · exact hends h2
      · exact .ite (hends h2.cnt) (.ite (hends h2.cnt) (.ite (hends h2.cnt) (.ite trivial h2.cnt.withColl.setCommq.wr.collRegs)))

theorem State.Canonical.collLaunch {q : Nat} (h : s.Canonical) : (s.collLaunch q).Canonical := by
  unfold State.collLaunch
  split
  · exact h
  · exact ite (h.cmdStart fun h1 => h1.collTry.start).cmdMap (h.cmdStart fun h1 => h1.collTry.start)

theorem State.Canonical.execCollOpStart {fn : Nat} (h : s.Canonical) : Outcome.Canonical (execCollOpStart fn s) := by
  unfold Machine.execCollOpStart
  refine Outcome.Canonical.next (ite h ?_)
  split
  · exact h
  · extract_lets o' st cores s0 t t2 o2 t3 start
    have h1 : t2.Canonical := foldl (fun h1 => State.Canonical.lose (State.Canonical.withColl h1)) h.cnt
    have h3 : t3.Canonical := h1.setHead.collRegs
    refine ite h.setHead.collRegs (ite h (Option.Gives.getD ?_ h))
    unfold start
    split
    · split
      · next e => exact State.Canonical.collGo (of_snd h3.collEnter e)
      · next e => exact .ite .none (.some (State.Canonical.collFail (of_snd h3.collEnter e)))
    · split
      · exact .ite .none (.some h3.collFail)
      · next e =>
        have h4 := h3.contributions _ e
        extract_lets t4 o3
        have h5 : t4.Canonical := State.Canonical.tally h4
        split
        · next e => exact State.Canonical.collGo (of_snd h5.setHead.collEnter e)
        · next e => exact .ite .none (.some (State.Canonical.collFail (of_snd h5.setHead.collEnter e)))

theorem State.Canonical.takeGroup {vc flow : Nat} {kind : Frame → Bool} {apply : State → Nat → Nat → Frame → Option State} (h : s.Canonical)
    (happly : ∀ {t g k f}, t.Canonical → Option.Gives State.Canonical (apply t g k f)) : (s.takeGroup vc flow kind apply).Canonical := by
  unfold State.takeGroup
  split
  · refine ite h ?_
    split
    · next e => exact (h.meet.of_done e).flowPump
    · exact h
    · next e =>
      split
      · next e' => exact State.Canonical.flowPump (State.Canonical.ackDue (happly (h.meet.of_take e) _ e'))
      · exact h
  · exact h

theorem State.Canonical.execCollHeaderRx {flow : Nat} (h : s.Canonical) : Outcome.Canonical (execCollHeaderRx flow s) := h.takeGroup (fun h1 => by
    dsimp only
    split
    · exact .some h1.sendAborts
    · split
      · exact .some h1
      · split
        · exact .none
        · exact .ite .none (.ite (.some h1.collFail) (.ite (.some h1.collFail.raise) h1.setHead.collGo)))

theorem State.Canonical.execCollDataRx {flow : Nat} (h : s.Canonical) : Outcome.Canonical (execCollDataRx flow s) := h.takeGroup (fun h1 => by
    dsimp only
    split
    · exact .ite .none (.some h1)
    · split
      · exact .none
      · exact .ite .none h1.cnt.setHead.collGo)

theorem State.Canonical.loseSpan {fn a n : Nat} (h : s.Canonical) : (s.loseSpan fn a n).Canonical :=
  foldl (fun h1 => by
    extract_lets b c
    refine ite ?_ h1
    split
    exacts [h1.lose, h1]) h

theorem State.Canonical.collFree {g : Nat} (h : s.Canonical) : (s.collFree g).Canonical := h.withColl

theorem State.Canonical.collError {p : Nat} {o : CollOp} {c : Nat} (h : s.Canonical) : (s.collError p o c).Canonical := (ite h h.wr.wr.wr.wr).raise

theorem State.Canonical.collFinish {g : Nat} {o : CollOp} {st : Nat} (h : s.Canonical) : (s.collFinish g o st).Canonical := by
  unfold State.collFinish
  extract_lets fn p q next t
  have ht : t.Canonical := h.setCommq.collFree
  split
  next e =>
    have h1 := of_snd ht.collSignal e
    extract_lets u v entry w y z a b
    have hv : v.Canonical := ite h1.wr.cnt h1.wr.collError
    have hw : w.Canonical := hv.sendAborts
    have hy : y.Canonical := ite (foldl (fun h1 => ite h1.loseSpan h1) hw) hw
    have hz : z.Canonical := ite hy.loseSpan.loseSpan hy
    have ha : a.Canonical := ite hv hz.wr
    exact ha.cmdResult.trace.collRegs.grpIdle

theorem State.Canonical.execCollOpDone {fn gid : Nat} (h : s.Canonical) : Outcome.Canonical (execCollOpDone fn gid s) := by
  unfold Machine.execCollOpDone
  split
  · exact h
  · split
    · exact h
    · split
      · split
        · exact h.collFinish
        · exact h
      · exact h

theorem State.Canonical.collAbort {g : Nat} (h : s.Canonical) : (s.collAbort g).Canonical := by
  unfold State.collAbort
  split
  · exact ite h.collFinish h
  · exact h

theorem State.Canonical.collAbortAll {fn : Nat} (h : s.Canonical) : (s.collAbortAll fn).Canonical := foldl (fun h1 => h1.collAbort) h

theorem State.Canonical.collAbortCore {c : Nat} (h : s.Canonical) : (s.collAbortCore c).Canonical := by
  unfold State.collAbortCore
  split
  · exact h
  · exact h.collAbort

theorem State.Canonical.grpReset {g : Nat} (h : s.Canonical) : (s.grpReset g).Canonical := foldl (fun h1 => h1.flowReset) h

theorem State.Canonical.collDrop {g : Nat} (h : s.Canonical) : (s.collDrop g).Canonical :=
  (ite (foldl (fun h1 => h1.collSignal.cmdResult.collError) h) (foldl (fun h1 => h1.collSignal.cmdResult.collError) h).wr).setCommq

theorem State.Canonical.collReset {g : Nat} (h : s.Canonical) : (s.collReset g).Canonical := by
  unfold State.collReset
  extract_lets t
  have ht : t.Canonical := h.collAbort.collDrop.grpReset
  exact ht.wr.wr.collRegs.grpIdle

theorem State.Canonical.execColCqReset {req fn : Nat} (h : s.Canonical) : Outcome.Canonical (execColCqReset req fn s) := by
  unfold Machine.execColCqReset
  dsimp only
  split
  · exact h
  · split
    · exact ite h h.wr.collReset
    · exact h

theorem State.Canonical.execCollQuadsApply {fn : Nat} (h : s.Canonical) : Outcome.Canonical (execCollQuadsApply fn s) := ite h.quadsApply h

end

end Sys2Proof.Machine
end

section
/-!
SUPPORT. The canonical form of memory is kept by the step machine.
-/

namespace Sys2Proof.Machine

section
variable {s : State}

theorem State.Canonical.stepTo {fn new : Nat} (h : s.Canonical) : (s.stepTo fn new).Canonical :=
  ite (ite h (ite h.cnt (ite h.cnt h))).wr (ite h (ite h.cnt (ite h.cnt h))).wr.trace

theorem State.Canonical.stepClear {fn : Nat} (h : s.Canonical) : (s.stepClear fn).Canonical := foldl (fun h1 => h1.wr.wr.wr.wr) h.setStep.wr.wr

theorem State.Canonical.rngSave {fn : Nat} (h : s.Canonical) : (s.rngSave fn).Canonical :=
  foldl (fun h1 => ite h1.wle.wle.setPoison.wle.wle h1.wle.wle.setPoison) h

theorem State.Canonical.slotWord {a : Nat} (h : s.Canonical) : (s.slotWord a).2.Canonical := ite_snd (snd h.freeVal) (snd h)

theorem State.Canonical.rngRestore {fn : Nat} (h : s.Canonical) : (s.rngRestore fn).Canonical := by
  unfold State.rngRestore
  refine foldl (fun h1 => ?_) h
  extract_lets a p get t
  have hget {s : State} {f : Fld} {inst o : Nat} (h : s.Canonical) : (get f inst o s).Canonical := h.slotWord.wr
  have ht : t.Canonical := hget (hget h1)
  exact ite (hget (hget ht)) ht

theorem State.Canonical.stepOpen {fn : Nat} {newStep : Bool} (h : s.Canonical) : (s.stepOpen fn newStep).Canonical := by
  unfold State.stepOpen
  extract_lets _ t u _ v w
  have ht : t.Canonical := h.wr
  have hu : u.Canonical := ht.stepClear
  have hv : v.Canonical := foldl (fun h1 => (ite h1.wr.wr h1.wr).wr) hu
  have hw : w.Canonical := ite (ite hv.rngSave hv.rngRestore) hv
  exact hw.setStep.stepTo

theorem State.Canonical.execStepArm {req fn : Nat} (h : s.Canonical) : Outcome.Canonical (execStepArm req fn s) := ite h h.wr.wr.stepOpen

theorem State.Canonical.execStepDisarm {req fn : Nat} (h : s.Canonical) : Outcome.Canonical (execStepDisarm req fn s) := ite h h.wr.stepTo

theorem State.Canonical.stepCmdEnd {fn st : Nat} (h : s.Canonical) : (s.stepCmdEnd fn st).Canonical := by
  unfold State.stepCmdEnd
  dsimp only
  split
  · exact h.setStep.cmdResult
  · exact h

theorem State.Canonical.stepFault {fn st : Nat} (h : s.Canonical) : (s.stepFault fn st).Canonical := h.wr.stepCmdEnd.stepTo.raise

theorem State.Canonical.stepApply {fn : Nat} (h : s.Canonical) : (s.stepApply fn).Canonical := h.wr.stepClear.setStep.wr.stepTo.stepCmdEnd

theorem State.Canonical.stepDecide {fn r : Nat} (h : s.Canonical) : (s.stepDecide fn r).Canonical := by
  unfold State.stepDecide
  dsimp only
  split
  · exact ite (ite h.setStep h.wr).wr.wr.wr.wr.event.cnt.wr.setStep (ite h.setStep h.wr).wr.wr.wr.wr.event.cnt.stepApply
  · exact (ite (ite h.setStep h.wr).wr.wr.wr.wr.event.cnt.wr.incSat.incSat.raise (ite h.setStep h.wr).wr.wr.wr.wr.event.cnt.wr.incSat.incSat).stepOpen.setStep.stepCmdEnd
  · exact (ite h.setStep h.wr).wr.wr.wr.wr.event.cnt.wr.incSat.stepOpen.setStep.stepCmdEnd

theorem State.Canonical.sendVerdict {fn x a r : Nat} (h : s.Canonical) : (s.sendVerdict fn x a r).Canonical :=
  ite (ite h h.grpPut) (ite h h.grpPut).grpPut

theorem State.Canonical.voteRun {k fn x : Nat} (h : s.Canonical) : (State.voteRun k s fn x).Canonical := by
  induction k generalizing s with
  | zero => exact h
  | succ k ih =>
    unfold State.voteRun
    extract_lets st
    split
    · exact h.stepDecide
    · refine ite h (ih ?_)
      split
      exacts [State.Canonical.sendVerdict h.setStep, h.setStep]

theorem State.Canonical.vote {fn : Nat} (h : s.Canonical) : (s.vote fn).Canonical := by
  unfold State.vote
  split
  · exact ite h.voteRun h
  · exact h

theorem State.Canonical.stepSeal {fn : Nat} (h : s.Canonical) : (s.stepSeal fn).Canonical := by
  unfold State.stepSeal
  extract_lets p x r t u
  have hu : u.Canonical := h.wr.setStep.stepTo
  split
  · extract_lets v
    have hv : v.Canonical := by
      unfold v
      split
      exacts [hu.sendVerdict, hu]
    exact hv.vote
  · exact hu

theorem State.Canonical.sealCheck {fn : Nat} (h : s.Canonical) : (s.sealCheck fn).Canonical := by
  unfold State.sealCheck
  split
  · exact h
  · split
    · exact ite h.stepSeal h
    · exact h

theorem State.Canonical.voteTake {fn : Nat} {v : VoteRec} (h : s.Canonical) : (s.voteTake fn v).Canonical := by
  unfold State.voteTake
  extract_lets _ _ t
  have ht : t.Canonical := h.setStep
  split
  · exact ht
  · exact h
  · exact ite ht (ite (ite h ht.vote) (ite h.stepFault h))

theorem State.Canonical.execVerdictFrameRx {flow : Nat} (h : s.Canonical) : Outcome.Canonical (execVerdictFrameRx flow s) := h.takeGroup (fun h1 => by
    dsimp only
    split
    · exact .ite (.some (ite h1 h1.grpPut.cnt).voteTake) (.some (ite h1 h1.grpPut.cnt))
    · exact .some (ite h1 h1.grpPut.cnt))

theorem State.Canonical.stepBegin {fn q : Nat} {c : Cmd} (h : s.Canonical) : (s.stepBegin fn q c).Canonical := h.cmdMap.trace

theorem State.Canonical.execStepVerdict {q : Nat} (h : s.Canonical) : Outcome.Canonical (execStepVerdict q s) := by
  unfold Machine.execStepVerdict
  dsimp only
  split
  · exact h
  · exact ite h.stepBegin.cmdResult h.stepBegin.setStep.stepTo.sealCheck

theorem State.Canonical.baselines {fn : Nat} (h : s.Canonical) : (s.baselines fn).Canonical := foldl (fun h1 => foldl (fun h2 => by
    dsimp only
    split
    · exact h2
    · split
      · exact h2.wbs
      · exact h2) h1) h

theorem State.Canonical.execStepCommit {q : Nat} (h : s.Canonical) : Outcome.Canonical (execStepCommit q s) := by
  unfold Machine.execStepCommit
  dsimp only
  split
  · exact h
  · exact ite h.stepBegin.cmdResult (ite h.cqWait (ite h.stepBegin.cqWait.cmdResult (ite h.stepBegin.cqWait.setStep.stepFault h.stepBegin.cqWait.setStep.baselines.wr.wr.wr.stepOpen.cmdResult)))

theorem State.Canonical.snapList {fn : Nat} {c : Cmd} (h : s.Canonical) : Except.Gives (fun x => x.1.Canonical) (s.snapList fn c) :=
  .ite .error (.bind h.ldN fun h1 => .ite (.ok (fst h1)) .error)

theorem State.Canonical.snapNote {fn q num st : Nat} (h : s.Canonical) : (s.snapNote fn q num st).Canonical := h.cmdMap.stepNote.raise

theorem State.Canonical.snapFail {fn q num st : Nat} (h : s.Canonical) : (s.snapFail fn q num st).Canonical := h.setStep.wr.cmdResult.snapNote

theorem State.Canonical.snapStart {fn q num : Nat} {c : Cmd} (h : s.Canonical) : Option.Gives State.Canonical (s.snapStart fn q num c) := by
  unfold State.snapStart
  dsimp only
  split
  · exact .some h.snapFail
  · split
    · exact .ite .none (.some h.snapFail)
    · exact .some h.setStep.wr

theorem State.Canonical.execSnapshot {q : Nat} (h : s.Canonical) : Outcome.Canonical (execSnapshot q s) :=
  h.cmdStart (fun h1 => .ite (.some (fst h1.snapNote)) (.ite (.some (fst h1.snapNote)) (.ite (.some (fst h1.setStep)) (.map h1.snapStart (fun h2 => fst h2)))))

theorem State.Canonical.execSnapshotDeferredStart {fn : Nat} (h : s.Canonical) : Outcome.Canonical (execSnapshotDeferredStart fn s) := by
  unfold Machine.execSnapshotDeferredStart
  split
  · split
    · exact h
    · split
      · exact Option.Gives.getD h.snapStart h
      · exact h
  · exact h

theorem State.Canonical.snapWrite {fn : Nat} {far : Bool} {a : Nat} {bs : List (Nat × Bool)} (h : s.Canonical) : (s.snapWrite fn far a bs).2.Canonical :=
  ite_snd h.writeSpan (snd h.wbs)

theorem State.Canonical.snapCopy {fn : Nat} {far : Bool} {a : Nat} {l : List (Nat × Nat)} (h : s.Canonical) :
    Except.Gives (fun x => x.1.Canonical) (s.snapCopy fn far a l) := by
  induction l generalizing s a with
  | nil => exact .ok h
  | cons x l ih =>
    refine .bind h.ldN fun h1 => ?_
    exact .ite .error (.bind (ih h1.snapWrite) fun h2 => .ok h2)

theorem State.Canonical.snapImage {fn : Nat} {n : Snap} {c : Cmd} (h : s.Canonical) : Except.Gives (fun x => x.1.Canonical) (s.snapImage fn n c) :=
  .bind h.snapList fun h1 => .ite .error (.bind h1.snapWrite.snapCopy fun h2 => .ite .error (.ok (fst h2.snapWrite)))

theorem State.Canonical.holdEnd {fn : Nat} (h : s.Canonical) : (s.holdEnd fn).Canonical := ite h.wr.stepApply h

theorem State.Canonical.execSnapshotDone {fn : Nat} {hostErr : Bool} (h : s.Canonical) : Outcome.Canonical (execSnapshotDone fn hostErr s) := by
  unfold Machine.execSnapshotDone
  dsimp only
  split
  · exact h
  · split
    · exact h
    · split
      · exact h
      · split
        · exact h.snapFail.holdEnd
        · split
          · exact ite h h.snapFail.holdEnd
          · next e =>
              have h1 := h.snapImage _ e
              exact h1.setStep.wr.cnt.cmdResult.holdEnd

theorem State.Canonical.stepReset {fn : Nat} (h : s.Canonical) : (s.stepReset fn).Canonical := by
  unfold State.stepReset
  extract_lets x t u v
  have ht : t.Canonical := by
    unfold t
    split
    exacts [h.snapFail, h]
  exact ht.stepCmdEnd.wr.wr.stepTo.setStep

end

end Sys2Proof.Machine
end

section
/-!
SUPPORT. The canonical form of memory is kept by what a reset aborts.
-/

namespace Sys2Proof.Machine

section
variable {s : State}

theorem State.Canonical.putBack {pa : Nat} {bs : List Nat} {bad : Bool} (h : s.Canonical) : (s.putBack pa bs bad).Canonical :=
  (ite h.setWcb h).wbs.setPoison

theorem State.Canonical.unmove {u : Nat × List Nat × List Nat × Bool} (h : s.Canonical) : (s.unmove u).Canonical := ite h.freeVal.putBack h.freeVal

theorem State.Canonical.descAbort {x : Nat} {d : DmaDesc} (h : s.Canonical) : (s.descAbort x d).Canonical := by
  unfold State.descAbort
  extract_lets t _ u _ v w
  have ht : t.Canonical := foldl (fun h1 => h1.unmove) h
  have hu : u.Canonical := ite ht ht.withNet
  have hv : v.Canonical := ite hu.setCore hu
  have hw : w.Canonical := ite hv.engRngEnd hv
  exact hw.stepNote.trace

theorem State.Canonical.dmaAbort {x : Nat} {sel : Nat → DmaDesc → Bool} (h : s.Canonical) : (s.dmaAbort x sel).Canonical :=
  ite h (foldl (fun h1 => h1.descAbort) h.putEng).raise

theorem State.Canonical.ctxAbort {c : Nat} (h : s.Canonical) : (s.ctxAbort c).Canonical := ite h h.setCore.wr.wr.raise

theorem State.Canonical.kernelOver {c st : Nat} (h : s.Canonical) : (s.kernelOver c st).Canonical := by
  unfold State.kernelOver
  dsimp only
  split
  · exact h.setCore.setRun.wr.wr
  · exact h.setCore.setRun.wr.wr.trace.cmdMap

theorem State.Canonical.execKernelEnd {core : Nat} (h : s.Canonical) : Outcome.Canonical (execKernelEnd core s) := by
  unfold Machine.execKernelEnd
  dsimp only
  split
  · exact ite h h.kernelOver
  · exact h

theorem State.Canonical.unitsStop {c : Nat} (h : s.Canonical) : (s.unitsStop c).Canonical := ite h.setCore.wr.busyShow.katShow h

theorem State.Canonical.kernelAbort {c : Nat} (h : s.Canonical) : (s.kernelAbort c).Canonical :=
  ite h h.unitsStop.ctxAbort.dmaAbort.dmaAbort.setCore.kernelOver

theorem State.Canonical.cmdAbort {q num : Nat} (h : s.Canonical) : (s.cmdAbort q num).Canonical := by
  unfold State.cmdAbort
  extract_lets fn
  split
  · exact h
  · refine State.Canonical.cmdMap (ite h ?_)
    split
    · exact foldl (fun h1 => ite h1.kernelAbort h1) h
    · refine foldl (fun h1 => ?_) h
      split
      · exact ite h1.collAbort h1.setCommq
      · exact h1
    · split
      · exact ite (State.Canonical.holdEnd h.snapFail) h
      · exact h
    · exact h.withHost
    · exact h.withHost
    · exact h

theorem State.Canonical.queueAbort {q : Nat} (h : s.Canonical) : (s.queueAbort q).Canonical := (foldl (fun h1 => h1.cmdAbort) h).cqWait

end

end Sys2Proof.Machine
end

section
/-!
SUPPORT. The canonical form of memory is kept by the training of a port.
-/

namespace Sys2Proof.Machine

section
variable {s : State}

theorem State.Canonical.sendChar {p : Nat} (h : s.Canonical) : (s.sendChar p).Canonical := h.setPort.sendControl

theorem State.Canonical.timeCheck (h : s.Canonical) : (s.timeCheck).Canonical := by
  unfold State.timeCheck
  dsimp only
  split
  · exact h.wr
  · exact ite h h.withNet.wr.wr.raise

theorem State.Canonical.scanEnd {p : Nat} {abandoned : Bool} (h : s.Canonical) : (s.scanEnd p abandoned).Canonical := ite h h.setPort.wr.wr.wr.wrB

theorem State.Canonical.scanStart {p lane : Nat} (h : s.Canonical) : (s.scanStart p lane).Canonical := ite h h.setPort.wr.wr.wr.wr.wr

theorem State.Canonical.linkDrop {p : Nat} (h : s.Canonical) : (s.linkDrop p).Canonical :=
  (foldl (fun h1 => h1.wr) h.scanEnd.wr.wr.wr.wr.wr.wr).setPort

theorem State.Canonical.linkDown {p : Nat} (h : s.Canonical) : (s.linkDown p).Canonical := ite h h.linkDrop.wr.setPort.raise.timeCheck

theorem State.Canonical.portLoad {p : Nat} (h : s.Canonical) : (s.portLoad p).Canonical := foldl (fun h1 => h1.wrB) h.wr

theorem State.Canonical.trainBegin {p : Nat} {self : Bool} (h : s.Canonical) : (s.trainBegin p self).Canonical :=
  ite h h.linkDrop.portLoad.setPort.wr.wr.timeCheck

theorem State.Canonical.trainFail {p status : Nat} (h : s.Canonical) : (s.trainFail p status).Canonical :=
  h.linkDrop.setPort.wr.wr.cnt.raise.timeCheck

theorem State.Canonical.linkLost {p : Nat} (h : s.Canonical) : (s.linkLost p).Canonical := ite h.linkDown (ite h.trainFail h)

theorem State.Canonical.authFail {p : Nat} (h : s.Canonical) : (s.authFail p).Canonical := h.raise.reject.trainFail

theorem State.Canonical.handshakeFault {p : Nat} (h : s.Canonical) : (s.handshakeFault p).Canonical := ite h.reject.trainFail h.reject

theorem State.Canonical.reachUp {p : Nat} {auth loop : Bool} {secret : List Nat} {side : Nat} (h : s.Canonical) : (s.reachUp p auth loop secret side).Canonical :=
  (ite h.event h).setPort.wr.wrB.wrB.wr.sendIdle.sendIdle.sendIdle.sendIdle.pump

theorem State.Canonical.miscabled {p maddr role : Nat} (h : s.Canonical) : (s.miscabled p maddr role).Canonical :=
  ite h h.scanEnd.wr.wr.setPort.raise.reject.timeCheck

theorem State.Canonical.trainOn {p locked peer : Nat} (h : s.Canonical) : (s.trainOn p locked peer).Canonical :=
  ite h (ite (ite h (foldl (fun h1 => h1.wr) h.setPort.wr)) (ite (ite h.trainFail (ite h.wr.wr.wr.raise h.wr.wr.wr).sendChar) h))

theorem State.Canonical.execPeerExpectWrite {p val : Nat} (h : s.Canonical) : Outcome.Canonical (execPeerExpectWrite p val s) :=
  ite h (ite h.wr.wr.wr.trainBegin h.wr.wr.wr)

theorem State.Canonical.replay {p : Nat} (h : s.Canonical) : (s.replay p).Canonical :=
  ite h (ite h.raise.linkLost (foldl (fun h1 => h1.emit) h.setPort).cnt.raise)

theorem State.Canonical.laneRetire {p j : Nat} (h : s.Canonical) : (s.laneRetire p j).Canonical := ite h h.wr.wr.raise.retireUnit

theorem State.Canonical.quarRelease {p : Nat} (h : s.Canonical) : (s.quarRelease p).Canonical := h.wr.wr.wr.pump

theorem State.Canonical.execQuarRelease {p : Nat} (h : s.Canonical) : Outcome.Canonical (execQuarRelease p s) := ite h.quarRelease h

theorem State.Canonical.portEnable {p : Nat} (h : s.Canonical) : (s.portEnable p).Canonical := h.trainBegin

theorem State.Canonical.portDisable {p : Nat} (h : s.Canonical) : (s.portDisable p).Canonical := h.linkDown.linkDrop.setPort.wr.wr

end

end Sys2Proof.Machine
end

section
/-!
SUPPORT. The canonical form of memory is kept by the handshake of a training.
-/

namespace Sys2Proof.Machine

section
variable {s : State}

theorem State.Canonical.shakeBegin {p : Nat} (h : s.Canonical) : (s.shakeBegin p).Canonical := h.withFree.setPort

theorem State.Canonical.sendHandshake {p t : Nat} (h : s.Canonical) : (s.sendHandshake p t).Canonical := h.setPort.queueFlits.pump

theorem State.Canonical.authBegin {p : Nat} (h : s.Canonical) : (s.authBegin p).Canonical :=
  ite h.wr.shakeBegin.setPort.sendHandshake h.wr.shakeBegin.setPort

theorem State.Canonical.loopUp {p : Nat} (h : s.Canonical) : (s.loopUp p).Canonical := h.shakeBegin.reachUp

end

end Sys2Proof.Machine
end

section
/-!
SUPPORT. The canonical form of memory is kept by received flits.
-/

namespace Sys2Proof.Machine

section
variable {s : State}

theorem State.Canonical.rxFec {f : Seen} (h : s.Canonical) : (s.rxFec f).Canonical := by
  unfold State.rxFec
  dsimp only
  split
  · exact h.cnt.setPort
  · exact ite h.cnt.setPort.setPort.cnt h.cnt.setPort.setPort

theorem State.Canonical.nak {p : Nat} (h : s.Canonical) : (s.nak p).Canonical := h.setPort.sendIdle

theorem State.Canonical.rxPass {f : Seen} (h : s.Canonical) : (s.rxPass f).Canonical := ite h h.setPort

theorem State.Canonical.rxBuffer {p vc : Nat} (h : s.Canonical) : (s.rxBuffer p vc).Canonical := h.setPort

theorem State.Canonical.rxDiscard {f : Seen} (h : s.Canonical) : (s.rxDiscard f).Canonical := h.setPort

theorem State.Canonical.rxRefuse {f : Seen} (h : s.Canonical) : (s.rxRefuse f).Canonical := ite h (ite h.rxBuffer h).rxDiscard

theorem State.Canonical.rxTurnedAway {f : Seen} (h : s.Canonical) : (s.rxTurnedAway f).Canonical := ite h.rxPass.rxRefuse h

theorem State.Canonical.nakOnce {p : Nat} (h : s.Canonical) : (s.nakOnce p).Canonical := ite h h.nak

theorem State.Canonical.rxSecure {f : Seen} (h : s.Canonical) : (s.rxSecure f).1.Canonical :=
  ite_fst (ite_fst (fst h.nakOnce) (fst h.rxTurnedAway.reject)) (ite_fst (ite_fst (fst h.setPort.rxTurnedAway.reject) (fst h.setPort.nak)) (ite_fst (fst h.rxPass) (ite_fst (fst h.nakOnce) (fst h.rxPass.cnt))))

theorem State.Canonical.rxAck {f : Seen} (h : s.Canonical) : (s.rxAck f).1.Canonical :=
  ite_fst (fst h) (ite_fst (fst h.reject) (ite_fst (fst (ite h.setPort.replay h.setPort)) (ite_fst (fst h.reject) (fst h))))

theorem State.Canonical.rxCredit {f : Seen} (h : s.Canonical) : (s.rxCredit f).Canonical := ite h.setPort h

theorem State.Canonical.rxAccept {f : Seen} (h : s.Canonical) : (s.rxAccept f).1.Canonical := by
  unfold State.rxAccept
  extract_lets _ _ t
  have ht : t.Canonical := h.rxFec
  split
  · exact fst h
  · split
    · exact fst ht.cnt.nak
    · split
      · next e =>
          have h1 := of_fst ht.rxSecure e
          exact fst h1
      · next e =>
          have h1 := of_fst ht.rxSecure e
          split
          · next e =>
              have h2 := of_fst h1.rxAck e
              exact fst h2.rxRefuse
          · next e =>
              have h2 := of_fst h1.rxAck e
              exact ite_fst (fst h2) (ite_fst (fst h2.rxCredit.pump) (fst h2.pump))

theorem State.Canonical.rxControl {f : Seen} {ctype : Nat} {body : State → State} (h : s.Canonical)
    (hbody : ∀ {t}, t.Canonical → (body t).Canonical) : (s.rxControl f ctype body).Canonical := by
  unfold State.rxControl
  split
  · exact h
  · split
    · next e =>
        have h1 := of_fst h.rxAccept e
        exact h1
    · next e =>
        have h1 := of_fst h.rxAccept e
        exact hbody h1

theorem State.Canonical.sendTime {p t3 : Nat} (h : s.Canonical) : (s.sendTime p t3).Canonical := h.queueFlits.pump

theorem State.Canonical.charUp {p : Nat} {old : Nat × Nat} {first : Bool} {maddr role ident : Nat} (h : s.Canonical) : (s.charUp p old first maddr role ident).Canonical :=
  ite h.authFail (ite h.setPort.event h.setPort)

theorem State.Canonical.execChar {r : RxFlit} (h : s.Canonical) : Outcome.Canonical (execChar r s) :=
  h.rxControl fun h1 => ite h1.cnt (ite h1.reject (by
    extract_lets _ _ _ _ _ _ t _ _ u _ v w
    have hu : u.Canonical := h1.wr.setPort
    have hv : v.Canonical := ite hu.withNet hu
    have hw : w.Canonical := ite hv.sendTime hv
    exact ite hw.miscabled (ite hw.trainBegin (ite (ite hw.loopUp (ite hw.authBegin hw.reachUp)) (ite hw.charUp hw)))))

theorem State.Canonical.rxFrame {f : Seen} {bs : List Nat} {marks : List (Bool × Nat × Bool)} (h : s.Canonical) : (s.rxFrame f bs marks).Canonical :=
  (ite h.setPort.cnt h.setPort).launch

theorem State.Canonical.rxAssemble {f : Seen} (h : s.Canonical) : (s.rxAssemble f).Canonical := by
  unfold State.rxAssemble
  dsimp only
  split
  · exact ite h.rxDiscard (ite h.rxDiscard.reject (ite h.rxFrame h.setPort))
  · exact h.rxDiscard.reject
  · exact ite h.rxDiscard h.rxDiscard.reject
  · exact ite h.rxDiscard.reject (ite h.rxFrame h.setPort)

theorem State.Canonical.execDataFlit {r : RxFlit} (h : s.Canonical) : Outcome.Canonical (execDataFlit r s) := by
  unfold Machine.execDataFlit
  dsimp only
  split
  · exact h
  · split
    · next e =>
        have h1 := of_fst h.rxAccept e
        exact h1
    · next e =>
        have h1 := of_fst h.rxAccept e
        exact ite h1.reject (ite h1.reject (ite (ite h1.rxBuffer h1).rxDiscard.reject (ite h1.rxDiscard.reject (ite h1.rxBuffer.rxDiscard.reject h1.rxBuffer.rxAssemble))))

theorem State.Canonical.handshake {f : Seen} {t : Nat} {ok : Bool} {next : List Nat → State → State} (h : s.Canonical)
    (hnext : ∀ {k t}, t.Canonical → (next k t).Canonical) : (s.handshake f t ok next).Canonical :=
  h.rxControl (fun h1 => ite h1.handshakeFault (ite h1.setPort (ite h1.authFail (hnext h1.setPort))))

theorem State.Canonical.sendRekey {p : Nat} (h : s.Canonical) : (s.sendRekey p).Canonical := h.sendControl

theorem State.Canonical.keyRoll {p : Nat} (h : s.Canonical) : (s.keyRoll p).Canonical := ite h h.setPort.sendRekey

end

end Sys2Proof.Machine
end

section
/-!
SUPPORT. The canonical form of memory is kept by lane margin scans, light and time.
-/

namespace Sys2Proof.Machine

section
variable {s : State}

theorem State.Canonical.execLaneMarginGo {p lane : Nat} (h : s.Canonical) : Outcome.Canonical (execLaneMarginGo p lane s) := h.scanStart

theorem State.Canonical.setLaser {i : Nat} {x : Laser} (h : s.Canonical) : (s.setLaser i x).Canonical := h.withNet

theorem State.Canonical.laserLoss {p : Nat} (h : s.Canonical) : (s.laserLoss p).Canonical := ite h.raise h.raise.linkDown.trainBegin.wr

theorem State.Canonical.execLaserSample {inp p0 p1 p2 p3 : Nat} (h : s.Canonical) : Outcome.Canonical (execLaserSample inp p0 p1 p2 p3 s) := by
  unfold Machine.execLaserSample
  extract_lets _ _ t _ _ _ _ _ _ _ _ u v w
  have ht : t.Canonical := foldl (fun h1 => h1.wr) h
  have hu : u.Canonical := ht.setLaser
  have hv : v.Canonical := foldl (fun h1 => foldl (fun h2 => h2.raise) h1) hu
  have hw : w.Canonical := ite (foldl (fun h1 => h1.raise) hv) hv
  exact foldl (fun h1 => ite h1.laserLoss h1) hw

theorem State.Canonical.execTime (h : s.Canonical) : Outcome.Canonical (execTime s) := by
  unfold Machine.execTime
  dsimp only
  split
  · exact h
  · split
    · exact h.rxDrop
    · exact ite h.rxDrop (ite h.rxDrop (ite (ite h.rxDrop.withNet.wr.wr.withNet.raise h.rxDrop.withNet.wr.wr.withNet) h.rxDrop.withNet.wr.wr.upd).wr.wr)

theorem State.Canonical.tbcTick (h : s.Canonical) : (s.tbcTick).Canonical := by
  unfold State.tbcTick
  exact ite h.withTbcCopies.withNet (ite h.upd h.upd)

theorem State.Canonical.execPatchWrite {fn hi : Nat} (h : s.Canonical) : Outcome.Canonical (execPatchWrite fn hi s) := ite h h.wr.withNet

theorem State.Canonical.execMaddrWrite {fn val : Nat} (h : s.Canonical) : Outcome.Canonical (execMaddrWrite fn val s) :=
  ite h (foldl (fun h1 => ite h1.trainBegin h1) (ite h.wr.wr.wr.withNet.wr h.wr))

end

end Sys2Proof.Machine
end

section
/-!
SUPPORT. The canonical form of memory is kept by the stack controllers and the far tier.
-/

namespace Sys2Proof.Machine

section
variable {s : State}

theorem State.Canonical.memDone {st : Nat} (h : s.Canonical) : (s.memDone st).Canonical := h.emit

theorem State.Canonical.memServe {r : MemReq} (h : s.Canonical) : (s.memServe r).Canonical := by
  unfold State.memServe
  dsimp only
  split
  · exact h.readLine.withRdata.memDone
  · exact ite h.withHbm h.hbmWrite.memDone

theorem State.Canonical.chResume {m ch : Nat} (h : s.Canonical) : (s.chResume m ch).Canonical := ite h (foldl (fun h1 => h1.memServe) h.setChan)

theorem State.Canonical.memResume {m : Nat} (h : s.Canonical) : (s.memResume m).Canonical := foldl (fun h1 => h1.chResume) h

theorem State.Canonical.memRequest {r : MemReq} (h : s.Canonical) : (s.memRequest r).Canonical := ite h.memDone (ite h.setChan h.memServe)

theorem State.Canonical.execWcbAgeDrain {m : Nat} {line : Met Nat} (h : s.Canonical) : Outcome.Canonical (execWcbAgeDrain m line s) := by
  unfold Machine.execWcbAgeDrain
  split
  · exact ite h h.upsets.wcbDrain
  · exact h

theorem State.Canonical.execWcbSpace {m : Nat} (h : s.Canonical) : Outcome.Canonical (execWcbSpace m s) := by
  unfold Machine.execWcbSpace
  dsimp only
  split
  · exact h
  · exact ite h h.withHbm.memRequest

theorem State.Canonical.chFence {m ch : Nat} (h : s.Canonical) : (s.chFence m ch).Canonical := by
  unfold State.chFence
  extract_lets p t u x _ v w
  have hu : u.Canonical := h.wr.wr.setWcb
  have hw : w.Canonical := foldl (fun h1 => h1.memServe) hu.setChan
  exact hw.raise.retireUnit

theorem State.Canonical.chDegrade {m ch : Nat} (h : s.Canonical) : (s.chDegrade m ch).Canonical := h.logStateRec.withLog.wr.wr.wr.setChan.raise

theorem State.Canonical.execParityRepeat {m ch : Nat} {ok : Bool} (h : s.Canonical) : Outcome.Canonical (execParityRepeat m ch ok s) :=
  ite h (ite h.setChan.raise.chResume (ite h.setChan (ite h.setChan.chFence (ite h.setChan.chDegrade h.setChan))))

theorem State.Canonical.scrubLine {m result : Nat} (h : s.Canonical) : (s.scrubLine m result).Canonical := by
  unfold State.scrubLine
  extract_lets _ _ _ _ _ _ t u v w _ _ _ _ y
  have ht : t.Canonical := h.withHbm
  have hu : u.Canonical := ite ht.testPassed ht
  have hv : v.Canonical := hu.cnt.cnt
  have hw : w.Canonical := hv.upset
  have hy : y.Canonical := hw.withHbm
  exact ite hu (ite hv (ite (ite hy.withHbm.rowRetire hy) hv.upset))

theorem State.Canonical.execScrubRead {m : Nat} {test : MemTest} {preempted : Bool} (h : s.Canonical) :
    Outcome.Canonical (execScrubRead m test preempted s) := by
  unfold Machine.execScrubRead
  refine Outcome.Canonical.next (ite h (ite h.setChan.cnt ?_))
  split
  · exact ite h.setChan.scrubLine h.setChan
  · exact ite h.setChan.cnt h.setChan
  · exact ite h.setChan.setWcb.lose.cnt.cnt h.setChan
  · exact ite h.setChan.cnt.cnt h.setChan

theorem State.Canonical.execTgGo {req m ch pattern mode : Nat} (h : s.Canonical) : Outcome.Canonical (execTgGo req m ch pattern mode s) :=
  ite h (ite h (ite h.wr.wr.wr h.wr.wr.wr.wr.wr.wr.wr.setChan))

theorem State.Canonical.execTgStop {req m ch : Nat} (h : s.Canonical) : Outcome.Canonical (execTgStop req m ch s) := ite h.setChan h

theorem State.Canonical.tgFill {p o : Nat} (h : s.Canonical) : (s.tgFill p o).Canonical := ite h.wbs.setPoison h.lose

theorem State.Canonical.tgCount {m mode n o : Nat} (h : s.Canonical) : (s.tgCount m mode n o).Canonical :=
  ite (ite h h.countHbmN.cnt) (ite h h.countHbmN.cnt).countHbmN.cnt

theorem State.Canonical.execTgDone {m ch errors addr bitsX : Nat} {run : TgRun} (h : s.Canonical) : Outcome.Canonical (execTgDone m ch errors addr bitsX run s) :=
  by
  unfold Machine.execTgDone
  extract_lets _ _ _ _ _ _ _ t u _ v w
  have ht : t.Canonical := foldl (fun h1 => h1.tgCount) h
  have hu : u.Canonical := ite ht (foldl (fun h1 => h1.tgFill) ht)
  have hv : v.Canonical := hu.wr.wr
  have hw : w.Canonical := ite hv hv.wr.wr.wr
  exact ite h hw.setChan

theorem State.Canonical.execMemMarginGo {req m mask param : Nat} (h : s.Canonical) : Outcome.Canonical (execMemMarginGo req m mask param s) :=
  ite h (ite h.wr.wr.wr.wr h.wr.wr.wr.wr)

theorem State.Canonical.execFarLinkRetrain {d : Nat} {how : FarTraining} (h : s.Canonical) : Outcome.Canonical (execFarLinkRetrain d how s) := by
  unfold Machine.execFarLinkRetrain
  dsimp only
  split
  · exact h
  · split
    · exact h.wr.withHbm.farDegraded
    · exact h.withHbm

end

end Sys2Proof.Machine
end

section
/-!
SUPPORT. The canonical form of memory is kept by the common page header.
-/

namespace Sys2Proof.Machine

section
variable {s : State}

theorem State.Canonical.katDrop {c : Nat} (h : s.Canonical) : (s.katDrop c).Canonical := ite h h.wr.setKat.wr

theorem State.Canonical.testsDrop {p : Nat} (h : s.Canonical) : (s.testsDrop p).Canonical := by
  unfold State.testsDrop
  dsimp only
  split
  · exact h.katDrop
  · exact h.scanEnd
  · exact h.setChan
  · exact foldl (fun h1 => h1.setChan) h
  · exact h

theorem State.Canonical.quiesceSet {p : Nat} (h : s.Canonical) : (s.quiesceSet p).Canonical := by
  unfold State.quiesceSet
  extract_lets t
  have ht : t.Canonical := h.wr.testsDrop
  split
  · exact ht.wcbDrainAll
  · split
    · exact ht
    · exact ht.setCore.wr.wr
    · exact ite ht.unissue ht
  · exact ht

theorem State.Canonical.coreResume {c : Nat} (h : s.Canonical) : (s.coreResume c).Canonical := by
  unfold State.coreResume
  dsimp only
  split
  · exact h.setRun
  · exact h.setRun.feedersFill.wr.busyShow.katShow

theorem State.Canonical.quiesceClear {p : Nat} (h : s.Canonical) : (s.quiesceClear p).Canonical :=
  ite (ite h.wr.wr.katDue.coreResume h.wr.wr.katDue) h.wr.wr

theorem State.Canonical.unitOff {p : Nat} (h : s.Canonical) : (s.unitOff p).Canonical := ite h.portDisable h

theorem State.Canonical.enableOff {p : Nat} (h : s.Canonical) : (s.enableOff p).Canonical := h.wr.unitOff

theorem State.Canonical.quiesceCheck {fn : Nat} (h : s.Canonical) : (s.quiesceCheck fn).Canonical := ite h (foldl (fun h1 => h1.cmdResult) h).withHost

theorem State.Canonical.quiesceDone {p : Nat} (h : s.Canonical) : (s.quiesceDone p).Canonical := by
  unfold State.quiesceDone
  extract_lets t u _ v
  have hu : u.Canonical := ite h.wr.setRun.cnt h.wr
  refine ite h (State.Canonical.quiesceCheck ?_)
  unfold v
  split
  · exact State.Canonical.enableOff (ite hu.withDisabling hu.withDisabling.wr)
  · exact hu

theorem State.Canonical.unitOn {p : Nat} (h : s.Canonical) : (s.unitOn p).Canonical := by
  unfold State.unitOn
  split
  · exact h.portEnable
  · exact h.memResume
  · exact h.chResume
  · exact h

theorem State.Canonical.enableSet {p : Nat} (h : s.Canonical) : (s.enableSet p).Canonical := by
  unfold State.enableSet
  extract_lets t u v
  have ht : t.Canonical := h.withDisabling
  have hu : u.Canonical := h.wr
  have hv : v.Canonical := ite hu hu.quiesceClear
  split
  · exact ite ht ht.quiesceClear
  · exact ite h hv.unitOn

theorem State.Canonical.enableClear {p : Nat} (h : s.Canonical) : (s.enableClear p).Canonical := ite h (ite h.enableOff h.withDisabling.quiesceSet)

theorem State.Canonical.quiesceWrite {p : Nat} {set : Bool} (h : s.Canonical) : (s.quiesceWrite p set).Canonical :=
  ite h.withDisabling (ite (ite h h.quiesceSet) h.quiesceClear)

theorem State.Canonical.suspendedReg (h : s.Canonical) : (s.suspendedReg).Canonical := h.wr

theorem State.Canonical.testAgain {test page : Nat} (h : s.Canonical) : (s.testAgain test page).Canonical := by
  unfold State.testAgain
  dsimp only
  split
  · exact ite h h.katStart
  · exact foldl (fun h1 => h1.setChan) h
  · exact h.scanStart
  · exact h

theorem State.Canonical.testsResume {sel : Nat × Nat → Bool} (h : s.Canonical) : (s.testsResume sel).Canonical :=
  (foldl (fun h1 => h1.setTestRec.testAgain) h).suspendedReg

theorem State.Canonical.selftestWrite {page : Nat} {set : Bool} (h : s.Canonical) : (s.selftestWrite page set).Canonical :=
  ite h.wrB.testsDrop (ite (ite h.wrB.testsResume.katDue h.wrB.testsResume) h.wrB)

theorem State.Canonical.errClear {page mask coincident : Nat} (h : s.Canonical) : (s.errClear page mask coincident).Canonical :=
  foldl (fun h1 => h1.raise) h.wr

theorem State.Canonical.errInject {page mask : Nat} (h : s.Canonical) : (s.errInject page mask).Canonical := foldl (fun h1 => h1.raiseAt) h

theorem State.Canonical.digestUpdate {p : Nat} (h : s.Canonical) : (s.digestUpdate p).Canonical := ite h h.wr.withAgree.wr

end

end Sys2Proof.Machine
end

section
/-!
SUPPORT. The canonical form of memory is kept by the save and restore of a context.
-/

namespace Sys2Proof.Machine

section
variable {s : State}

theorem State.Canonical.ctxWrite {c : Nat} {l : List (Nat × List Nat)} (h : s.Canonical) : Except.Gives State.Canonical (s.ctxWrite c l) := by
  induction l generalizing s with
  | nil => exact .ok h
  | cons x l ih => exact .bind h.stN ih

theorem State.Canonical.ctxEnd {c status : Nat} (h : s.Canonical) : (s.ctxEnd c status).Canonical := ite h.wr.wr h.wr.wr.raise

theorem State.Canonical.ctxRest {c n : Nat} (h : s.Canonical) : (s.ctxRest c n).Canonical := ite h.setCore.setRun.coreResume h.setCore.setRun

theorem State.Canonical.ctxBegin {c state : Nat} {r : CtxRun} (h : s.Canonical) : (s.ctxBegin c state r).Canonical := h.setCore.setRun.wr

theorem State.Canonical.ctxSaveAll {c : Nat} (h : s.Canonical) : Except.Gives State.Canonical (s.ctxSaveAll c) := h.ctxWrite

theorem State.Canonical.ctxCheck {c : Nat} (h : s.Canonical) : Except.Gives State.Canonical (s.ctxCheck c) :=
  .bind h.ldN fun h1 => .ite .error (.ite .error (.ok h1))

theorem State.Canonical.ctxClear {c : Nat} (h : s.Canonical) : (s.ctxClear c).Canonical := by
  unfold State.ctxClear
  dsimp only
  split
  · next e =>
      have h1 := h.ctxWrite _ e
      exact h1
  · exact ite h.setChan h
  · exact h

theorem State.Canonical.ctxStart {fn c state : Nat} {ups : List Upset} {first : State → Except Nat State} (h : s.Canonical)
    (hfirst : ∀ {t}, t.Canonical → Except.Gives State.Canonical (first t)) : (s.ctxStart fn c state ups first).Canonical := by
  unfold State.ctxStart
  dsimp only
  split
  · exact h
  · split
    · exact h.ctxEnd
    · split
      · next e =>
          have h1 := (hfirst h.upsets) _ e
          exact ite h1.upsetsAfter.ctxEnd h1.upsetsAfter.ctxBegin
      · exact ite (ite h.ctxClear h).ctxBegin h.upsets.upsetsAfter.ctxEnd

theorem State.Canonical.execCtxSave {fn : Nat} {core : Met Nat} (h : s.Canonical) : Outcome.Canonical (execCtxSave fn core s) :=
  h.ctxStart (fun h1 => h1.ctxSaveAll)

theorem State.Canonical.execCtxRestore {fn : Nat} {core : Met Nat} (h : s.Canonical) : Outcome.Canonical (execCtxRestore fn core s) :=
  h.ctxStart (fun h1 => h1.ctxCheck)

theorem State.Canonical.freshBytes {bs : List (Nat × Bool)} (h : s.Canonical) : (s.freshBytes bs).1.Canonical := ite_fst (fst h.withFree) (fst h)

theorem State.Canonical.ctxBanks {c : Nat} {l : List Nat} (h : s.Canonical) : Except.Gives State.Canonical (s.ctxBanks c l) := by
  induction l generalizing s with
  | nil => exact .ok h
  | cons b l ih => exact .bind h.ldN fun h1 => ih h1.freshBytes.setCore

theorem State.Canonical.ctxLoad {c : Nat} {ups : List Upset} (h : s.Canonical) : Except.Gives State.Canonical (s.ctxLoad c ups) :=
  .bind h.ldN fun h1 => h1.freshBytes.setCore.wr.wr.wr.ctxBanks

theorem State.Canonical.ctxSaveRest {c : Nat} {r : CtxRun} (h : s.Canonical) : Except.Gives State.Canonical (s.ctxSaveRest c r) :=
  .ite (.bind h.ctxSaveAll fun h1 => h1.stN) (.bind (.ok h) fun h1 => h1.stN)

theorem State.Canonical.ctxRestoreRest {c : Nat} {r : CtxRun} {ups : List Upset} (h : s.Canonical) : Except.Gives State.Canonical (s.ctxRestoreRest c r ups) :=
  .ite (.bind h.ctxCheck fun h1 => h1.ctxLoad) (.bind (.ok h) fun h1 => h1.ctxLoad)

theorem State.Canonical.execCtxDone {at_ : Met Nat} (h : s.Canonical) : Outcome.Canonical (execCtxDone at_ s) := by
  unfold Machine.execCtxDone
  refine Outcome.Canonical.next ?_
  split
  · exact h
  · next r _ =>
    have hu : (s.upsets at_.val at_.ups).Canonical := h.upsets
    have run : Except.Gives State.Canonical (if r.save then (s.upsets at_.val at_.ups).ctxSaveRest at_.val r
        else (s.upsets at_.val at_.ups).ctxRestoreRest at_.val r at_.ups) := .ite hu.ctxSaveRest hu.ctxRestoreRest
    dsimp only
    generalize (if r.save then (s.upsets at_.val at_.ups).ctxSaveRest at_.val r
      else (s.upsets at_.val at_.ups).ctxRestoreRest at_.val r at_.ups) = x at run
    cases x with
    | error => exact ite h hu.upsetsAfter.ctxEnd.ctxRest
    | ok t =>
      have ht : (s.upsetsAfter t at_.ups).Canonical := State.Canonical.upsetsAfter (run _ rfl)
      exact ite ht.ctxEnd.ctxRest (ite ht.ctxEnd.ctxRest.cnt ht.setCore.ctxEnd.ctxRest)

end

end Sys2Proof.Machine
end

section
/-!
SUPPORT. The canonical form of memory is kept by the rings of commands.
-/

namespace Sys2Proof.Machine

section
variable {s : State}

theorem State.Canonical.cqRestate {q : Nat} (h : s.Canonical) : (s.cqRestate q).Canonical := ite h h.wr

theorem State.Canonical.cqFstop {q : Nat} {b : Bool} (h : s.Canonical) : (s.cqFstop q b).Canonical := h.wrB.cqRestate

theorem State.Canonical.cqQstop {q : Nat} {b : Bool} (h : s.Canonical) : (s.cqQstop q b).Canonical := h.wrB.cqRestate

theorem State.Canonical.cqEn {q : Nat} {b : Bool} (h : s.Canonical) : (s.cqEn q b).Canonical := h.wrB.cqRestate

theorem State.Canonical.execCqDoorbell {fn k p : Nat} (h : s.Canonical) : Outcome.Canonical (execCqDoorbell fn k p s) := by
  unfold Machine.execCqDoorbell
  dsimp only
  split
  · exact h
  · split
    · exact h.cnt
    · exact ite h.cnt (ite h (ite h.wr h.cnt.raise))

theorem State.Canonical.classTurn {ready : List Nat} {c : Nat} (h : s.Canonical) : Option.Gives State.Canonical (s.classTurn ready c) :=
  .ite .none (.ite (.some h) (.ite .none (.ite (.some h.withHost) (.ite .none (.some h.withHost.withHost)))))

theorem State.Canonical.headWb {q : Nat} (h : s.Canonical) : (s.headWb q).Canonical := ite (ite h.setCq h.setCq.wle) h

theorem State.Canonical.fetchOne {q : Nat} (h : s.Canonical) : (s.fetchOne q).Canonical := by
  unfold State.fetchOne
  extract_lets fn num size desc c st st' c' x t _ u
  have ht : t.Canonical := h.setCq
  have hu : u.Canonical := ht.withHost
  exact hu.wr.cnt.headWb

theorem State.Canonical.execCmdFetch {cls n : Nat} {fail : Bool} (h : s.Canonical) : Outcome.Canonical (execCmdFetch cls n fail s) := by
  unfold Machine.execCmdFetch
  refine Outcome.Canonical.next ?_
  split
  · next t _ e _ =>
    have ht : t.Canonical := h.classTurn _ e
    exact ite ht.withHost.wr.wr.raise (foldl (fun h1 => State.Canonical.fetchOne h1) ht.withHost)
  · exact h

theorem State.Canonical.cmdDoneRecord {fn q : Nat} {c : Cmd} {st : Nat} (h : s.Canonical) : (s.cmdDoneRecord fn q c st).Canonical :=
  ite h h.incidentCopy.evDeliver.raiseAll

theorem State.Canonical.stopCheck {fn : Nat} (h : s.Canonical) : (s.stopCheck fn).Canonical := ite h h.withHost.wrB

theorem State.Canonical.cmdEnd {q : Nat} {c : Cmd} {st : Nat} (h : s.Canonical) : (s.cmdEnd q c st).Canonical := by
  unfold State.cmdEnd
  extract_lets fn x t
  have ht : t.Canonical := h.setCq
  split
  next e =>
    have h1 := of_snd (by split_ifs; exacts [ht, ht.sigAdd, ht.sigAdd, ht]) e
    extract_lets u v w y z a
    have hv : v.Canonical := State.Canonical.wr (ite h1.cmdDoneRecord h1)
    have hw : w.Canonical := ite hv.cnt hv.cnt.wr
    have hy : y.Canonical := ite hw hw.stepNote
    have hz : z.Canonical := ite hy.raise hy
    exact hz.trace.sealCheck.stopCheck

theorem State.Canonical.execCmdComplete {q num : Nat} (h : s.Canonical) : Outcome.Canonical (execCmdComplete q num s) := by
  unfold Machine.execCmdComplete
  split
  · exact h
  · split
    · exact h
    · exact ite h h.cmdEnd

theorem State.Canonical.execCqEnable {req fn : Nat} {en : Bool} (h : s.Canonical) : Outcome.Canonical (execCqEnable req fn en s) := by
  unfold Machine.execCqEnable
  split
  · exact h
  · split
    · exact h
    · exact ite h.cqEn h

theorem State.Canonical.execCqResume {req fn : Nat} (h : s.Canonical) : Outcome.Canonical (execCqResume req fn s) := by
  unfold Machine.execCqResume
  split
  · exact h
  · split
    · exact h
    · exact h.cqFstop

theorem State.Canonical.digestsDrop {fn : Nat} {sel : Digest → Bool} (h : s.Canonical) : (s.digestsDrop fn sel).Canonical := h.setDbg.cnt.twPending

theorem State.Canonical.cqFlush {q : Nat} (h : s.Canonical) : (s.cqFlush q).Canonical := foldl (fun h1 => h1.cmdEnd) h.queueAbort.digestsDrop

theorem State.Canonical.cqReset {q : Nat} (h : s.Canonical) : (s.cqReset q).Canonical := h.cqFlush.wr.wr.wr.wr.wr.wr.wr.setCq

theorem State.Canonical.execQueCqReset {req fn : Nat} (h : s.Canonical) : Outcome.Canonical (execQueCqReset req fn s) := by
  unfold Machine.execQueCqReset
  split
  · exact h
  · split
    · exact h
    · exact h.cqReset.ctxNote

end

end Sys2Proof.Machine
end

section
/-!
SUPPORT. The canonical form of memory is kept by the rings of event records.
-/

namespace Sys2Proof.Machine

section
variable {s : State}

theorem State.Canonical.eqMove {fn : Nat} {l : List EvRec} (h : s.Canonical) : (s.eqMove fn l).Canonical := foldl (fun h1 => h1.evDeliver.raiseAll) h

theorem State.Canonical.evClose {q : Nat} {r : EvRec} (h : s.Canonical) : (s.evClose q r).Canonical := h.setEq.evPlace.raiseAll

theorem State.Canonical.eqMoveSlots {fn : Nat} {l : List EvRec} (h : s.Canonical) : (s.eqMoveSlots fn l).Canonical := foldl (fun h1 => by
    split
    · exact h1.evClose
    · exact h1.eqMove) h

theorem State.Canonical.eqLeave {q st : Nat} {first later : List EvRec} (h : s.Canonical) : (s.eqLeave q st first later).Canonical :=
  h.wr.wr.setEq.eqMove.eqMoveSlots

theorem State.Canonical.eqDisable {q : Nat} (h : s.Canonical) : (s.eqDisable q).Canonical := ite h.wr.eqLeave h

theorem State.Canonical.execEqDoorbell {fn k c : Nat} (h : s.Canonical) : Outcome.Canonical (execEqDoorbell fn k c s) := by
  unfold Machine.execEqDoorbell
  dsimp only
  split
  · exact h
  · split
    · exact h.cnt
    · exact ite h.cnt (ite h.raise h.wr.evSpace)

theorem State.Canonical.bootReadyTry (h : s.Canonical) : (s.bootReadyTry).Canonical := ite h.withBoot.event h

theorem State.Canonical.execEqEnable {req fn : Nat} (h : s.Canonical) : Outcome.Canonical (execEqEnable req fn s) := by
  unfold Machine.execEqEnable
  dsimp only
  split
  · exact h
  · split
    · exact h
    · exact ite h h.wr.wr.wr.wr.wr.setEq.bootReadyTry

theorem State.Canonical.execEqDisable {req fn : Nat} (h : s.Canonical) : Outcome.Canonical (execEqDisable req fn s) := by
  unfold Machine.execEqDisable
  split
  · exact h
  · split
    · exact h
    · exact h.eqDisable

theorem State.Canonical.execMergeWindowEnd {q slot : Nat} (h : s.Canonical) : Outcome.Canonical (execMergeWindowEnd q slot s) := by
  unfold Machine.execMergeWindowEnd
  dsimp only
  split
  · exact h
  · exact ite h.setEq h.setEq.evClose

theorem State.Canonical.lostAgain {fn : Nat} {r : EvRec} (h : s.Canonical) : (s.lostAgain fn r).Canonical := by
  unfold State.lostAgain
  split
  · exact h.wr
  · exact h

theorem State.Canonical.execEqWriteFail {rec : EqFail} (h : s.Canonical) : Outcome.Canonical (execEqWriteFail rec s) := by
  unfold Machine.execEqWriteFail
  extract_lets _ _ _ _ _ _ _ _ t u
  have ht : t.Canonical := foldl (fun h1 => h1.lose) h
  have hu : u.Canonical := ht.wr.setEq.wr
  dsimp only
  split
  · exact h
  · exact ite h (foldl (fun h1 => h1.lostAgain) hu).wr.eqLeave.raise

theorem State.Canonical.eqReset {q : Nat} (h : s.Canonical) : (s.eqReset q).Canonical := h.wr.wr.wr.wr.wr.wr.wr.setEq

end

end Sys2Proof.Machine
end

section
/-!
SUPPORT. The canonical form of memory is kept by the host commands.
-/

namespace Sys2Proof.Machine

section
variable {s : State}

theorem State.Canonical.loadCore {q fn : Nat} {k : Cmd} {c : Nat} (h : s.Canonical) : (State.loadCore q fn k s c).Canonical := h.setCore.wr.setRun

theorem State.Canonical.execKernelLaunch {q : Nat} (h : s.Canonical) : Outcome.Canonical (execKernelLaunch q s) :=
  h.cmdStart (fun h1 => .ite (.some (fst h1)) (.ite (.some (fst h1)) (.ite (.some (fst h1)) (.ite .none (.some (fst (foldl (fun h2 => h2.loadCore) h1).cmdMap))))))

theorem State.Canonical.hostIn {v : Via} {k a b n : Nat} (h : s.Canonical) : (s.hostIn v k a b n).2.1.Canonical := by
  induction k generalizing s a b n with
  | zero => exact h
  | succ k ih =>
    unfold State.hostIn
    extract_lets c
    refine ite_mid h (ite_mid h ?_)
    split
    · next e => exact ih (of_snd h.writeSpan e)
    · next e => exact of_snd h.writeSpan e

theorem State.Canonical.hostOut {v : Via} {k a b n : Nat} (h : s.Canonical) : (s.hostOut v k a b n).2.1.Canonical := by
  induction k generalizing s a b n with
  | zero => exact h
  | succ k ih =>
    unfold State.hostOut
    extract_lets c
    refine ite_mid h ?_
    split
    · exact h
    · next e => exact ih (State.Canonical.wbs (h.ldN _ e)).setPoison.setPoison

theorem State.Canonical.execDma {q : Nat} {ups : List Upset} {hostErr : Option Nat} (h : s.Canonical) : Outcome.Canonical (execDma q ups hostErr s) :=
  h.cmdStart (fun h1 => .ite .none (.ite (.some (fst h1)) (.ite (.some (fst h1)) (.ite .none (.some (fst (ite (ite_mid h1.upsets.hostOut h1.upsets.hostIn).upsetsAfter.cnt.raiseAt (ite_mid h1.upsets.hostOut h1.upsets.hostIn).upsetsAfter.cnt)))))))

theorem State.Canonical.execSignalWait {q : Nat} (h : s.Canonical) : Outcome.Canonical (execSignalWait q s) := by
  unfold Machine.execSignalWait
  extract_lets t
  have ht : t.Canonical := h.cmdStart (fun h1 => .some (fst h1))
  split
  · exact ht.cqWait
  · exact ht

theorem State.Canonical.execSignalWaitMet {q : Nat} (h : s.Canonical) : Outcome.Canonical (execSignalWaitMet q s) := by
  unfold Machine.execSignalWaitMet
  split
  · exact ite h.cmdResult.cqWait h
  · exact h

theorem State.Canonical.fence {fn : Nat} {cmd : Option (Nat × Nat)} {targets : List Nat} {abort : Bool} (h : s.Canonical) : (s.fence fn cmd targets abort).Canonical :=
  ite (foldl (fun h1 => h1.queueAbort) (foldl (fun h1 => h1.cqFstop) h).withHost).ctxNote (foldl (fun h1 => h1.cqFstop) h).withHost

theorem State.Canonical.execFenceCmd {q : Nat} (h : s.Canonical) : Outcome.Canonical (execFenceCmd q s) := h.cmdStart (fun h1 => by
    dsimp only
    split
    · exact .some (fst h1.fence)
    · split
      · exact .some (fst h1)
      · exact .ite (.some (fst h1)) (.some (fst h1.fence)))

theorem State.Canonical.execFenceCmdDone {q num : Nat} (h : s.Canonical) : Outcome.Canonical (execFenceCmdDone q num s) := by
  unfold Machine.execFenceCmdDone
  dsimp only
  split
  · exact h
  · exact ite h h.withHost.cmdResult

theorem State.Canonical.execQuiesce {q : Nat} (h : s.Canonical) : Outcome.Canonical (execQuiesce q s) :=
  ite h (h.cmdStart (fun h1 => .some (fst (foldl (fun h2 => ite h2 h2.quiesceSet) (foldl (fun h2 => h2.cqQstop) h1)).withHost.quiesceCheck)))

theorem State.Canonical.execQuiesceResume {q : Nat} (h : s.Canonical) : Outcome.Canonical (execQuiesceResume q s) :=
  ite h (h.cmdStart (fun h1 => .some (fst (foldl (fun h2 => h2.cqQstop) (foldl (fun h2 => h2.quiesceClear) h1)))))

theorem State.Canonical.stopFn {fn : Nat} (h : s.Canonical) : (s.stopFn fn).Canonical := h.wr.fence.stopCheck

theorem State.Canonical.execFuncCtrlEn {req fn : Nat} {en : Bool} (h : s.Canonical) : Outcome.Canonical (execFuncCtrlEn req fn en s) :=
  ite h (ite h.wrB.wrB (foldl (fun h1 => h1.eqDisable) (foldl (fun h1 => h1.cqEn) h.wrB.wrB)))

theorem State.Canonical.ownersChange {s0 : State} (h : s.Canonical) : (s0.ownersChange s).Canonical := foldl (fun h1 => ite h1 h1.wr) h

theorem State.Canonical.resApply {fn : Nat} (h : s.Canonical) : (s.resApply fn).Canonical :=
  (foldl (fun h1 => h1.wr) h.withHost.withSig.wr.wr.wr).quadsApply.wrB.ownersChange

theorem State.Canonical.execResGo {req fn : Nat} (h : s.Canonical) : Outcome.Canonical (execResGo req fn s) := ite h (ite h.resApply h).wr

theorem State.Canonical.execBar4Access {fn off width : Nat} {val : Option Nat} (h : s.Canonical) : Outcome.Canonical (execBar4Access fn off width val s) :=
  by
  unfold Machine.execBar4Access
  extract_lets _ t
  have ht : t.Canonical := h.cnt.raise
  split
  · exact h
  · split
    · exact ite h.withRdata h
    · split
      · split
        · exact h.withRdata
        · exact h.sigSet
      · exact ite ht.withRdata ht

end

end Sys2Proof.Machine
end

section
/-!
SUPPORT. The canonical form of memory is kept by reads of registers.
-/

namespace Sys2Proof.Machine

section
variable {s : State}

theorem State.Canonical.charRead {p off : Nat} (h : s.Canonical) : (s.charRead p off).2.Canonical := snd h.withLatch

theorem State.Canonical.read32 {p off : Nat} (h : s.Canonical) : (s.read32 p off).2.Canonical := by
  unfold State.read32
  dsimp only
  split
  · exact ite_snd h.charRead (snd h)
  · exact ite_snd (snd h.withLatch) (snd h.withLatch)

theorem State.Canonical.readWords {p off n : Nat} (h : s.Canonical) : (s.readWords p off n).2.Canonical := by
  induction n generalizing s off with
  | zero => exact h
  | succ n ih => exact ih (ite_snd h.read32 h)

end

end Sys2Proof.Machine
end

section
/-!
SUPPORT. The canonical form of memory is kept by dumps.
-/

namespace Sys2Proof.Machine

section
variable {s : State}

theorem State.Canonical.dumpWrite {d : Dump} {stop : Option Nat} (h : s.Canonical) : (s.dumpWrite d stop).Canonical :=
  ite h.wbs.wbs.cnt.cnt.wr.wr.wrB.wrB.wr.wr.incidentMap.withRecov.raise h.wbs.wbs.cnt.cnt.wr.wr.wrB.wrB.wr.wr.incidentMap.withRecov

theorem State.Canonical.incidentSummary (h : s.Canonical) : (s.incidentSummary).Canonical := h.withLog.logEvent

theorem State.Canonical.incidentEnd (h : s.Canonical) : (s.incidentEnd).Canonical :=
  ite h (foldl (fun h1 => h1.logIncident) h).incidentSummary.withLog.wr.wr

end

end Sys2Proof.Machine
end

section
/-!
SUPPORT. The canonical form of memory is kept by the banked tables and the requests for frames.
-/

namespace Sys2Proof.Machine

section
variable {s : State}

theorem State.Canonical.execXltInval {req fn vpn count : Nat} (h : s.Canonical) : Outcome.Canonical (execXltInval req fn vpn count s) :=
  ite h h.wr.setXlt

theorem State.Canonical.tlbDrop {fn v n : Nat} (h : s.Canonical) : (s.tlbDrop fn v n).Canonical := h.withHbm

theorem State.Canonical.execXltInvalDone {fn : Nat} (h : s.Canonical) : Outcome.Canonical (execXltInvalDone fn s) := by
  unfold Machine.execXltInvalDone
  dsimp only
  split
  · exact h
  · exact h.tlbDrop.setXlt.wr

theorem State.Canonical.rmapFlipped (h : s.Canonical) : (s.rmapFlipped).Canonical := by
  unfold State.rmapFlipped
  extract_lets _ _ t u _ v w
  have ht : t.Canonical := h.logStateRec
  have hu : u.Canonical := foldl (fun h1 => h1.logStateRec.withLog) ht
  have hv : v.Canonical := foldl (fun h1 => h1.wr) hu
  have hw : w.Canonical := hv.wr
  exact ite hw hw.wr

theorem State.Canonical.flipped {p old : Nat} (h : s.Canonical) : (s.flipped p old).Canonical := by
  unfold State.flipped
  dsimp only
  split
  · exact h.tlbDrop.setXlt.framesLeave
  · exact h.grpFlipped.digestUpdate
  · exact h.rmapFlipped
  · exact h

theorem State.Canonical.flipDue {p : Nat} (h : s.Canonical) : (s.flipDue p).Canonical := by
  unfold State.flipDue
  dsimp only
  split
  · exact h
  · exact ite h (ite h.wr.wr.wr.flipped.cnt h.wr.withAgree.wr.raise)

theorem State.Canonical.flipArm {p : Nat} (h : s.Canonical) : (s.flipArm p).Canonical := by
  unfold State.flipArm
  dsimp only
  split
  · exact h
  · exact ite h (ite h.wr.raise.cnt h.wr)

theorem State.Canonical.flipWrite {p v : Nat} (h : s.Canonical) : (s.flipWrite p v).Canonical := by
  unfold State.flipWrite
  dsimp only
  split
  · exact h
  · exact h.withAgree.wr.flipArm

theorem State.Canonical.flipCancel {p : Nat} (h : s.Canonical) : (s.flipCancel p).Canonical := by
  unfold State.flipCancel
  split
  · exact h
  · exact ite h.flipDue h.wr

theorem State.Canonical.readEntries {fn : Nat} {l : List Nat} (h : s.Canonical) : Option.Gives State.Canonical (s.readEntries fn l) := by
  induction l generalizing s with
  | nil => exact .some h
  | cons v l ih =>
    unfold State.readEntries
    split
    · exact ih h
    · exact .ite .none (ih h.noteEntry)

theorem State.Canonical.putEntries {fn : Nat} {l : List (Nat × Nat)} (h : s.Canonical) : Option.Gives State.Canonical (s.putEntries fn l) := by
  induction l generalizing s with
  | nil => exact .some h
  | cons x l ih =>
    unfold State.putEntries
    split
    · exact ih h
    · exact .ite .none (ih h.hbmWrite)

theorem State.Canonical.frameAlloc {fn : Nat} {r : FrameReq} {picks : List Nat} (h : s.Canonical) :
    Option.Gives (fun a => a.state.Canonical) (s.frameAlloc fn r picks) :=
  .ite (.some h) (.bind h.readEntries fun h1 => .ite (.some h1) (.ite (.some h1) (.bind h1.putEntries fun h2 => .some h2)))

theorem State.Canonical.frameFree {fn : Nat} {r : FrameReq} (h : s.Canonical) : Option.Gives (fun a => a.state.Canonical) (s.frameFree fn r) :=
  .ite (.some h) (.bind h.readEntries fun h1 => .bind h1.putEntries fun h2 => .some h2.setXlt)

theorem State.Canonical.frameQuarantine {fn : Nat} {r : FrameReq} {picks : List Nat} (h : s.Canonical) :
    (s.frameQuarantine fn r picks).state.Canonical := by
  unfold State.frameQuarantine
  extract_lets
  split
  extract_lets
  split_ifs
  exacts [h, h, h, h.setXlt]

theorem State.Canonical.frameReq {req fn op tier flags : Nat} (h : s.Canonical) : (s.frameReq req fn op tier flags).Canonical :=
  ite h (ite h.cnt h.wr.wr.wr.wr.wr.setXlt)

theorem State.Canonical.frameAns {fn : Nat} {r : FrameReq} {picks : List Nat} (h : s.Canonical) :
    Option.Gives (fun a => a.state.Canonical) (s.frameAns fn r picks) :=
  .ite h.frameAlloc (.ite h.frameFree (.some h.frameQuarantine))

theorem State.Canonical.execFrameReqDone {fn : Nat} {picks : List Nat} (h : s.Canonical) : Outcome.Canonical (execFrameReqDone fn picks s) := by
  unfold Machine.execFrameReqDone
  extract_lets hif
  refine Outcome.Canonical.next ?_
  split
  · exact h
  split
  · exact h
  · next a e =>
    have ha : a.state.Canonical := h.setXlt.frameAns _ e
    extract_lets t u
    have ht : t.Canonical := ite ha.wr.wr ha
    exact ite ht.wr.wr.wr.raise ht.wr.wr.wr

end

end Sys2Proof.Machine
end

section
/-!
SUPPORT. The canonical form of memory is kept by the journal of the log.
-/

namespace Sys2Proof.Machine

section
variable {s : State}

theorem State.Canonical.setFl {d : Nat} {x : FlashDev} (h : s.Canonical) : (s.setFl d x).Canonical := h.withLog

theorem State.Canonical.headMove {d : Nat} (h : s.Canonical) : (s.headMove d).Canonical := foldl (fun h1 => ite h1 h1.setFl) h.setFl

theorem State.Canonical.headFor {d size : Nat} (h : s.Canonical) : (s.headFor d size).Canonical := ite h h.headMove

theorem State.Canonical.logRegs (h : s.Canonical) : (s.logRegs).Canonical := h.wr.wr.wr.wr.wr.wr.wr.wr.wr

theorem State.Canonical.logThrottle (h : s.Canonical) : (s.logThrottle).Canonical := ite (ite h.wr h) (ite h.wr.incidentMap.raise h)

theorem State.Canonical.logStateNow (h : s.Canonical) : (s.logStateNow).Canonical := h.wr.wrB.wrB

theorem State.Canonical.deviceFail {d flash : Nat} (h : s.Canonical) : (s.deviceFail d flash).Canonical :=
  ite h h.setFl.withLog.logStateNow.logStateRec.raise

theorem State.Canonical.sectorRetire {d pos flash : Nat} (h : s.Canonical) : (s.sectorRetire d pos flash).1.Canonical :=
  ite_fst (fst (ite h.setFl.raise.raise h.setFl.raise)) (fst (ite h.setFl.deviceFail h.setFl))

theorem State.Canonical.flashFailure {d pos flash : Nat} (h : s.Canonical) : (s.flashFailure d pos flash).Canonical := by
  unfold State.flashFailure
  extract_lets _ _ t
  have ht : t.Canonical := h.setFl
  exact ite (ite_fst ht.sectorRetire (fst ht)) (ite (ite_fst ht.sectorRetire (fst ht)).setFl.deviceFail (ite_fst ht.sectorRetire (fst ht)).setFl)

theorem State.Canonical.writeCopy {d flash : Nat} {r : LogRec} {l : List Nat} (h : s.Canonical) : (State.writeCopy d flash r l s).1.Canonical := by
  induction l generalizing s with
  | nil => exact ite_fst h h.headFor.setFl.cnt.cnt
  | cons o l ih => exact ite_fst h (ite_fst h.deviceFail (ih h.headFor.setFl.cnt.cnt.flashFailure))

theorem State.Canonical.logCommitted {r : LogRec} (h : s.Canonical) : (s.logCommitted r).Canonical := by
  unfold State.logCommitted
  extract_lets _ _ _ _ t
  have ht : t.Canonical := h.withLog
  split
  · split
    · exact h.wr
    · exact h
  · exact ht.wr
  · exact h.withLog
  · exact h.withLog
  · exact h.withLog
  · exact h

theorem State.Canonical.logWrite {r : LogRec} {outs0 outs1 : List Nat} {flash : Nat} (h : s.Canonical) : (s.logWrite r outs0 outs1 flash).Canonical :=
  by
  unfold State.logWrite
  extract_lets _ _ t _ _ u v _ _ _ w _ y
  have ht : t.Canonical := h.withLog
  have hu : u.Canonical := ht.withLog
  have hv : v.Canonical := ite (ite ht.writeCopy.writeCopy.logCommitted ht.writeCopy.writeCopy) hu.writeCopy
  have hw : w.Canonical := ite hv.withLog hv
  have hy : y.Canonical := ite hw.withLog hw
  exact hy.logThrottle.logRegs

theorem State.Canonical.logLost (h : s.Canonical) : (s.logLost).Canonical := ite h h.withLog.logEvent

theorem State.Canonical.logLeave {r : LogRec} (h : s.Canonical) : (s.logLeave r).Canonical :=
  ite h.logDrop (ite h.logDrop.incidentMap h.logDrop.withLog)

theorem State.Canonical.logWithhold (h : s.Canonical) : (s.logWithhold).Canonical := ite h (foldl (fun h1 => h1.logLeave) h.withLog)

theorem State.Canonical.logWriteNext {outs0 outs1 : List Nat} {flash : Nat} (h : s.Canonical) : (s.logWriteNext outs0 outs1 flash).Canonical := by
  unfold State.logWriteNext
  dsimp only
  split
  · exact h.logWithhold
  · split
    · exact ite h.logWithhold.withLog.logWrite h.logWithhold
    · exact ite h.logWithhold.withLog.logWrite h.logWithhold
    · exact ite h.logWithhold.withLog.logWrite.logLost h.logWithhold
    · exact ite h.logWithhold h.logWithhold.logLost

theorem State.Canonical.logRetry (h : s.Canonical) : (s.logRetry).Canonical := h.withLog.logRegs

theorem State.Canonical.logFlush {k : Nat} (h : s.Canonical) : (State.logFlush k s).Canonical := by
  induction k generalizing s with
  | zero => exact h
  | succ k ih =>
    have h1 : (if s.log.stateQ = [] then s.logRetry else s).Canonical := ite h.logRetry h
    exact ite h1 (ih h1.logWriteNext)

theorem State.Canonical.commitNow {typ : Nat} {payload : List Nat} (h : s.Canonical) : (s.commitNow typ payload).Canonical := h.logStateRec.logFlush

theorem State.Canonical.logDrain {k : Nat} (h : s.Canonical) : (State.logDrain k s).Canonical := by
  induction k generalizing s with
  | zero => exact h
  | succ k ih => exact ite h (ih h.logWriteNext)

theorem State.Canonical.logCommitAll (h : s.Canonical) : (s.logCommitAll).Canonical := h.logDrain

end

end Sys2Proof.Machine
end

section
/-!
SUPPORT. The canonical form of memory is kept by the reset ladder.
-/

namespace Sys2Proof.Machine

section
variable {s : State}

theorem State.Canonical.coreClear {c : Nat} (h : s.Canonical) : (s.coreClear c).Canonical := h.setCore.withFree

theorem State.Canonical.corePageClear {c : Nat} (h : s.Canonical) : (s.corePageClear c).Canonical := h.wr.wr.wr.wr.wr.wr.wr.wr

theorem State.Canonical.l2Drop {n : Nat} (h : s.Canonical) : (s.l2Drop n).Canonical :=
  drop (fun c => decide (c.1 < aL2 n 0) || decide (aL2 (n + 1) 0 ≤ c.1)) h

theorem State.Canonical.arrReset {c a : Nat} (h : s.Canonical) : (s.arrReset c a).Canonical :=
  (ite (ite h.wr.katOver h).loseBanks.kernelAbort (ite h.wr.katOver h)).loseBanks.setCore

theorem State.Canonical.engReset {p : Nat} (h : s.Canonical) : (s.engReset p).Canonical := by
  unfold State.engReset
  extract_lets t _ u _ _ _ _ v w
  have ht : t.Canonical := h.testsDrop
  have hu : u.Canonical := ht.collAbortCore.kernelAbort.ctxAbort.dmaAbort
  have hv : v.Canonical := ht.setChan
  have hw : w.Canonical := foldl (fun h1 => h1.memDone) hv
  split
  · exact ite ht ht.arrReset
  · exact hu.coreClear.corePageClear
  · exact ht.dmaAbort
  · exact ht.l2Drop
  · exact ht.collAbortAll
  · exact ht.wcbDrainAll
  · exact ite hw.wr.wr hw
  · exact ht.linkDown.linkDrop.quarRelease
  · exact ht

theorem State.Canonical.traceDrop {fn : Nat} (h : s.Canonical) : (s.traceDrop fn).Canonical := h.setDbg.wr

theorem State.Canonical.ctxReset {p : Nat} (h : s.Canonical) : (s.ctxReset p).Canonical := by
  unfold State.ctxReset
  dsimp only
  split
  · exact foldl (fun h1 => h1.cqFlush) h
  · exact foldl (fun h1 => h1.eqReset) h
  · exact h.flowsReset
  · exact h.traceDrop.digestsDrop
  · exact h

theorem State.Canonical.partReset {fn : Nat} (h : s.Canonical) : (s.partReset fn).Canonical := by
  unfold State.partReset
  extract_lets t u v _ w y z
  have ht : t.Canonical := h.stepReset.ctxReset.ctxReset
  have hu : u.Canonical := foldl (fun h1 => h1.engReset) ht
  have hv : v.Canonical := foldl (fun h1 => h1.dmaAbort) hu
  have hw : w.Canonical := foldl (fun h1 => h1.collReset) hv
  have hy : y.Canonical := hw.withSig
  have hz : z.Canonical := hy.traceDrop.wr
  exact ite hz.ctxReset hz

theorem State.Canonical.chipReset (h : s.Canonical) : (s.chipReset).Canonical := by
  unfold State.chipReset
  extract_lets logged t inc standby on x u v _ _ _ _ _ _ _ w y z a
  have ht : t.Canonical := foldl (fun h1 => foldl (fun h2 => h2.wcbDrain) h1) h.katFenceAll
  have hv : v.Canonical := ht.dropRegs.withFree.lose
  clear_value v
  have hm : w.mem = v.mem.filter (fun c => decide (c.1 < aL2 0 0)) := rfl
  have hl : w.lost = v.lost := rfl
  have hw : w.Canonical := drop _ hv hm hl
  exact hw.wr.wrB.wr.wrB.wrB.wrB.wr.wr.emit

theorem State.Canonical.reqShow {level target v : Nat} (h : s.Canonical) : (s.reqShow level target v).Canonical := ite h h.wr

theorem State.Canonical.rstNote {level st : Nat} (h : s.Canonical) : (s.rstNote level st).Canonical := h.wr.wr.wr.emit

theorem State.Canonical.rstEnables {r : RstOp} (h : s.Canonical) : (s.rstEnables r).Canonical :=
  foldl (fun h1 => ite h1 (ite (ite h1 h1.wr).wr.wr.wr.unitOff (ite (ite (ite h1 h1.wr).wr.unitOn.katDue (ite h1 h1.wr).wr.unitOn) (ite h1 h1.wr)))) h

theorem State.Canonical.rstDrop {r : RstOp} {st : Nat} (h : s.Canonical) : (s.rstDrop r st).Canonical :=
  (ite h.withRecov.reqShow h.withRecov.reqShow.rstEnables).emit

theorem State.Canonical.quiesceAbort {p : Nat} (h : s.Canonical) : (s.quiesceAbort p).Canonical :=
  ite (ite (foldl (fun h1 => h1.cmdResult) (ite h.wr.withDisabling h).wr.withHost) (ite h.wr.withDisabling h).wr) (ite h.wr.withDisabling h)

theorem State.Canonical.rstBegin {r : RstOp} (h : s.Canonical) : (s.rstBegin r).Canonical := by
  unfold State.rstBegin
  extract_lets _ t _ u v
  have ht : t.Canonical := foldl (fun h1 => h1.quiesceAbort) h
  have hu : u.Canonical := ite ht.chipReset.wr (ite ht.partReset (ite ht.engReset ht.ctxReset))
  have hv : v.Canonical := foldl (fun h1 => h1.wr.wr) hu
  exact hv.withRecov

theorem State.Canonical.rstTry {r : RstOp} (h : s.Canonical) : (s.rstTry r).Canonical := ite h h.rstBegin

theorem State.Canonical.rstWake (h : s.Canonical) : (s.rstWake).Canonical := foldl (fun h1 => h1.rstTry) h

theorem State.Canonical.resetReqBy {level target : Nat} {withBits : Bool} {why : RstCause} (h : s.Canonical) :
    (s.resetReqBy level target withBits why).Canonical := by
  unfold State.resetReqBy
  refine ite h.emit (ite h ?_)
  extract_lets t r put lower u v w
  have hput {s : State} {r : RstOp} (h : s.Canonical) : (put s r).Canonical := h.withRecov
  have ht : t.Canonical := h.reqShow.incidentMap
  have hu : u.Canonical := hput (foldl (fun h1 => h1.rstDrop) ht)
  have hv : v.Canonical := ite hu.wr hu
  refine ite (hput ht) (State.Canonical.rstTry ?_)
  unfold w
  split
  exacts [hv.dumpCause, hv]

theorem State.Canonical.resetReq {level target : Nat} {withBits : Bool} (h : s.Canonical) : (s.resetReq level target withBits).Canonical :=
  h.resetReqBy

theorem State.Canonical.resetEscalate {level target unit : Nat} (h : s.Canonical) : (s.resetEscalate level target unit).Canonical := h.resetReqBy

theorem State.Canonical.resetDone {level target : Nat} (h : s.Canonical) : (s.resetDone level target).Canonical := by
  unfold State.resetDone
  dsimp only
  split
  · exact h
  · exact ite (ite (foldl (fun h1 => h1.rstDrop) h.rstDrop.rstNote.cnt).withHost.wr.wr.wr.wr (foldl (fun h1 => h1.rstDrop) h.rstDrop.rstNote.cnt).withHost.wr.wr.wr) (foldl (fun h1 => h1.rstDrop) h.rstDrop.rstNote.cnt).withHost

theorem State.Canonical.execRstEng {unit : EngUnit} (h : s.Canonical) : Outcome.Canonical (execRstEng unit s) := by
  unfold Machine.execRstEng
  dsimp only
  split
  · exact h
  · split
    · exact h.resetReq
    · exact ite h.resetReq h

theorem State.Canonical.ctrlBits {p v : Nat} (h : s.Canonical) : (s.ctrlBits p v).Canonical :=
  ite h (ite h.selftestWrite.quiesceWrite.enableSet h.selftestWrite.quiesceWrite.enableClear)

theorem State.Canonical.ctrlReset {page others : Nat} (h : s.Canonical) : (s.ctrlReset page others).Canonical := ite h.ctrlBits h.resetReq

theorem State.Canonical.dumpFail {fn : Nat} (h : s.Canonical) : (s.dumpFail fn).Canonical := h.withRecov.wr.wr.incidentSummary.raise

theorem State.Canonical.execDumpGo {req fn : Nat} (h : s.Canonical) : Outcome.Canonical (execDumpGo req fn s) := ite h h.dumpCause

theorem State.Canonical.execDumpMaxMs {fn written : Nat} (h : s.Canonical) : Outcome.Canonical (execDumpMaxMs fn written s) := by
  unfold Machine.execDumpMaxMs
  split
  · exact ite h.dumpWrite.rstWake h
  · exact h

theorem State.Canonical.execDumpDone {fn : Nat} {fail : Bool} (h : s.Canonical) : Outcome.Canonical (execDumpDone fn fail s) := by
  unfold Machine.execDumpDone
  split
  · exact ite h (ite h.dumpFail h.dumpWrite).rstWake
  · exact h

theorem State.Canonical.raiseC1 {page n detail : Nat} (h : s.Canonical) : (s.raiseC1 page n detail).Canonical := ite h.raise (ite h.wr h.wr.event)

theorem State.Canonical.escalated {page : Nat} (h : s.Canonical) : (s.escalated page).Canonical := h.incidentOpen.incSat.cnt.raise

theorem State.Canonical.unitRetire {p : Nat} (h : s.Canonical) : (s.unitRetire p).Canonical := by
  unfold State.unitRetire
  split
  · exact h.retireUnit
  · split
    · exact h
    · exact h.retireQuad
    · exact h.clearPort.retireUnit
    · exact h.clearMem.retireUnit
    · exact h.retireUnit

theorem State.Canonical.unitOut {p : Nat} (h : s.Canonical) : (s.unitOut p).Canonical := by
  unfold State.unitOut
  extract_lets t _ u
  have ht : t.Canonical := h.wr.wr
  have hu : u.Canonical := ht.withRecov
  split
  · exact h.fenceArray
  · split
    · exact h.wr.chFence
    · split
      · exact hu.clearQuad
      · exact hu.clearCluster
      · exact hu.clearPort.portDisable
      · exact hu.clearMem
      · exact hu

theorem State.Canonical.unitFence {p : Nat} (h : s.Canonical) : (s.unitFence p).Canonical :=
  ite h.unitOut.withRecov.raiseC1.unitRetire h.unitOut.withRecov.raiseC1

theorem State.Canonical.powerCycleNote (h : s.Canonical) : (s.powerCycleNote).Canonical := h.incidentOpen.raise.incidentMap

theorem State.Canonical.powerCyclePin (h : s.Canonical) : (s.powerCyclePin).Canonical := h.withRecov.emit

theorem State.Canonical.powerCycle (h : s.Canonical) : (s.powerCycle).Canonical := h.powerCycleNote.incidentEnd.logCommitAll.powerCyclePin

theorem State.Canonical.partEscalate {units : List Nat} {page : Nat} (h : s.Canonical) : (s.partEscalate units page).Canonical :=
  (foldl (fun h1 => h1.escalationRecord) (foldl (fun h1 => h1.unitFence) h).escalated).resetEscalate

theorem State.Canonical.execResetBoundExpire {level target : Nat} {units : List Nat} (h : s.Canonical) : Outcome.Canonical (execResetBoundExpire level target units s) :=
  by
  unfold Machine.execResetBoundExpire
  dsimp only
  split
  · exact h
  · split
    · exact ite h h.escalated.powerCycle
    · split
      · exact h.rstDrop.partEscalate
      · split
        · split
          · exact h.rstDrop.unitFence.escalated.rstNote
          · split
            · exact h.unitFence.rstDrop.escalated.resetEscalate
            · exact h.unitFence.rstDrop.escalated.resetEscalate
        · split
          · exact h
          · exact foldl (fun h1 => h1.resetEscalate) h.rstDrop.escalated

theorem State.Canonical.execTestReschedule {test page : Nat} (h : s.Canonical) : Outcome.Canonical (execTestReschedule test page s) := by
  unfold Machine.execTestReschedule
  dsimp only
  split
  · exact h
  · exact ite h (ite h.setTestRec.suspendedReg.raise h.setTestRec.cnt.testAgain)

end

end Sys2Proof.Machine
end

section
/-!
SUPPORT. The canonical form of memory is kept by the commands and the start of the Keeper's log.
-/

namespace Sys2Proof.Machine

section
variable {s : State}

theorem State.Canonical.logReplay {keep : Bool} (h : s.Canonical) : (s.logReplay keep).1.Canonical :=
  fst (foldl (fun h1 => h1.writeCopy) (ite (ite h.withLog.setFl h.withLog).setFl (ite h.withLog.setFl h.withLog))).withLog.logStateNow.wr.logRegs

theorem State.Canonical.journalReplay (h : s.Canonical) : (s.journalReplay).Canonical := foldl (fun h1 => h1.raise) h.logReplay

theorem State.Canonical.sectorErase {d pos fails flash : Nat} (h : s.Canonical) : (s.sectorErase d pos fails flash).Canonical := by
  unfold State.sectorErase
  extract_lets t _ _ _ u v w
  have ht : t.Canonical := foldl (fun h1 => h1.flashFailure) h
  have hu : u.Canonical := ht.cnt
  have hv : v.Canonical := ite hu hu.setFl
  have hw : w.Canonical := ite (ite hv.sectorRetire hv.sectorRetire.setFl) hv
  exact hw.logRegs

theorem State.Canonical.execSectorErase {d fails flash : Nat} (h : s.Canonical) : Outcome.Canonical (execSectorErase d fails flash s) := by
  unfold Machine.execSectorErase
  dsimp only
  split
  · exact h.setFl.sectorErase
  · split
    · exact h
    · exact ite h (ite h.withLog h.setFl.sectorErase)

theorem State.Canonical.otpRegs (h : s.Canonical) : (s.otpRegs).Canonical := h.wr.wr.wr

theorem State.Canonical.otpAdvance {n v : Nat} (h : s.Canonical) : (s.otpAdvance n v).Canonical := h.withLog.otpRegs

theorem State.Canonical.otpRepair (h : s.Canonical) : (s.otpRepair).Canonical := h.withLog.otpRegs

theorem State.Canonical.keyRegs (h : s.Canonical) : (s.keyRegs).Canonical := h.wr.wr.wrB

theorem State.Canonical.keyEnd {st : Nat} (h : s.Canonical) : (s.keyEnd st).Canonical := h.withLog.wr.wr.keyRegs

theorem State.Canonical.execGenerate (h : s.Canonical) : Outcome.Canonical (execGenerate s) := ite h (ite h.wr h.withLog.wr)

theorem State.Canonical.execInstall {leaf : Nat} {chain anchors : List Nat} {trust : Nat} {hostErr : Bool} (h : s.Canonical) : Outcome.Canonical (execInstall leaf chain anchors trust hostErr s) :=
  ite h (ite h.wr (ite h.keyEnd (ite h.keyEnd (ite h.keyEnd (ite h.keyEnd (ite h.keyEnd.raise (ite h.keyEnd (ite h.keyEnd h.withLog.wr))))))))

theorem State.Canonical.keyProgram {slot : Nat} {k : KeySlot} (h : s.Canonical) : (s.keyProgram slot k).Canonical := h.withLog

theorem State.Canonical.execKeyCmdDone {verified hostErr : Bool} (h : s.Canonical) : Outcome.Canonical (execKeyCmdDone verified hostErr s) := by
  unfold Machine.execKeyCmdDone
  dsimp only
  split
  · exact ite h.keyEnd h.freeVal.wbs.withLog.keyEnd
  · split
    · split
      · exact h.keyEnd
      · exact ite h.keyProgram.keyEnd (ite h.keyProgram.commitNow.keyEnd h.keyProgram.commitNow.otpAdvance.otpAdvance.withLog.keyEnd)
    · exact h

theorem State.Canonical.execKeyAbort (h : s.Canonical) : Outcome.Canonical (execKeyAbort s) := ite h h.withLog.keyEnd

theorem State.Canonical.keyBoot (h : s.Canonical) : (s.keyBoot).Canonical := by
  unfold State.keyBoot
  extract_lets good pick fit commits t low _ u
  have ht : t.Canonical := by
    unfold t
    split
    exacts [ite h.otpAdvance h, h]
  have hu : u.Canonical := ht.withLog
  refine ite h.keyRegs ?_
  split
  · exact hu.raise.keyRegs
  split
  · exact hu
  · extract_lets bad v w x
    have hv : v.Canonical := foldl (fun h1 => h1.withLog) hu
    have hw : w.Canonical := ite hv hv.raise
    have hx : x.Canonical := ite hw.raise hw
    exact hx.keyRegs

theorem State.Canonical.execLogRead (h : s.Canonical) : Outcome.Canonical (execLogRead s) := ite h (ite h.wr.wr.wr h.withLog.wr)

theorem State.Canonical.execLogReadDone {hostErr : Bool} (h : s.Canonical) : Outcome.Canonical (execLogReadDone hostErr s) := by
  unfold Machine.execLogReadDone
  dsimp only
  split
  · exact h
  · exact ite h.withLog.wr.wr.wr h.withLog.wr.wbs.wr.wr.wrB.wr.cnt

end

end Sys2Proof.Machine
end

section
/-!
SUPPORT. The canonical form of memory is kept by the daymark and the agreement.
-/

namespace Sys2Proof.Machine

section
variable {s : State}

theorem State.Canonical.daymarkCompute (h : s.Canonical) : (s.daymarkCompute).Canonical :=
  ite (ite h.withAgree.wr h.withAgree.wr.withAgree.wr.cnt).wrB.raise (ite h.withAgree.wr h.withAgree.wr.withAgree.wr.cnt).wrB

theorem State.Canonical.daymarkAgain (h : s.Canonical) : (s.daymarkAgain).Canonical := h.withAgree.wr

theorem State.Canonical.execDmApprove {req : Nat} (h : s.Canonical) : Outcome.Canonical (execDmApprove req s) := ite h h.withAgree.wr

theorem State.Canonical.execDmApproveDone (h : s.Canonical) : Outcome.Canonical (execDmApproveDone s) := by
  unfold Machine.execDmApproveDone
  dsimp only
  split
  · exact h
  · exact ite h h.withAgree.commitNow.wr.daymarkCompute

theorem State.Canonical.execEpochWrite {req val : Nat} (h : s.Canonical) : Outcome.Canonical (execEpochWrite req val s) :=
  ite h (ite h.wr.upd.logStateRec h.raise)

theorem State.Canonical.agreeBoundary (h : s.Canonical) : (s.agreeBoundary).Canonical :=
  ite (ite h.withAgree.wr.wr.wrB.wrB.wr.wr h.withAgree.wr.wr.wrB.wrB.wr).raise.cnt (ite h.withAgree.wr.wr.wrB.wrB.wr.wr h.withAgree.wr.wr.wrB.wrB.wr)

end

end Sys2Proof.Machine
end

section
/-!
SUPPORT. The canonical form of memory is kept by the host link and the SPDM responder.
-/

namespace Sys2Proof.Machine

section
variable {s : State}

theorem State.Canonical.pcieTrain {flitMode : Bool} {gts width : Nat} (h : s.Canonical) : (s.pcieTrain flitMode gts width).Canonical :=
  ite h (ite h.withHost (ite (ite h.withHost h.withHost.raise) h))

theorem State.Canonical.doe {code : Nat} {fields : List Nat} (h : s.Canonical) : (s.doe code fields).Canonical := h.withHost.emit

theorem State.Canonical.doeError {code data : Nat} (h : s.Canonical) : (s.doeError code data).Canonical := h.emit

theorem State.Canonical.signature (h : s.Canonical) : (s.signature).2.Canonical := snd h.freeVal

theorem State.Canonical.spdmAnswer {code p1 p2 nonce : Nat} (h : s.Canonical) : (s.spdmAnswer code p1 p2 nonce).Canonical := by
  unfold State.spdmAnswer
  dsimp only
  split
  · split
    · exact h.doeError
    · exact h.signature.doe
  · exact (ite_snd h.signature (snd h)).doe

theorem State.Canonical.spdmNeed {ok : Bool} {f : State → State} (h : s.Canonical)
    (hf : ∀ {t}, t.Canonical → (f t).Canonical) : (s.spdmNeed ok f).Canonical := ite h (ite (hf h) h.doeError)

theorem State.Canonical.execGetDigests (h : s.Canonical) : Outcome.Canonical (execGetDigests s) := h.spdmNeed (fun h1 => by
    split
    · exact h1.doe
    · exact h1.doe)

theorem State.Canonical.execGetCertificate {slot off len : Nat} (h : s.Canonical) : Outcome.Canonical (execGetCertificate slot off len s) :=
  h.spdmNeed (fun h1 => by
    dsimp only
    split
    · exact ite h1.doe h1.doeError
    · exact h1.doeError)

theorem State.Canonical.spdmDefer {code p1 p2 nonce : Nat} (h : s.Canonical) : (s.spdmDefer code p1 p2 nonce).Canonical := h.withHost.doeError

end

end Sys2Proof.Machine
end

section
/-!
SUPPORT. The canonical form of memory is kept by the rails, the clocks and the trims.
-/

namespace Sys2Proof.Machine

section
variable {s : State}

theorem State.Canonical.setRail {r : Nat} {x : Rail} (h : s.Canonical) : (s.setRail r x).Canonical := h.withPwr

theorem State.Canonical.avsSend {r v : Nat} (h : s.Canonical) : (s.avsSend r v).Canonical := h.emit.emit

theorem State.Canonical.railWrite {r v why : Nat} (h : s.Canonical) : (s.railWrite r v why).Canonical := ite h h.setRail.avsSend

theorem State.Canonical.freqResult {st : Nat} (h : s.Canonical) : (s.freqResult st).Canonical := h.wr.wr

theorem State.Canonical.freqClear (h : s.Canonical) : (s.freqClear).Canonical := h.withPwr.wr.wr

theorem State.Canonical.freqAbort (h : s.Canonical) : (s.freqAbort).Canonical :=
  ite h (ite h.freqClear.freqResult.cnt.railWrite h.freqClear.freqResult.cnt).raise

theorem State.Canonical.hstAbandon (h : s.Canonical) : (s.hstAbandon).Canonical := by
  unfold State.hstAbandon
  dsimp only
  split
  · exact h
  · exact h.withPwr.wr.wr

theorem State.Canonical.railConfirmed {why : Nat} (h : s.Canonical) : (s.railConfirmed why).Canonical := ite h.withPwr h

theorem State.Canonical.railFail {r : Nat} (h : s.Canonical) : (s.railFail r).Canonical :=
  ite h.setRail.raise.freqAbort (ite h.setRail.raise.hstAbandon h.setRail.raise)

theorem State.Canonical.execAvsReadback {r : Nat} {read : Option AvsReply} (h : s.Canonical) : Outcome.Canonical (execAvsReadback r read s) := by
  unfold Machine.execAvsReadback
  dsimp only
  split
  · exact h
  · split
    · exact ite h.railFail h.setRail.cnt.raise
    · exact ite h.withPwr.railFail (ite h.withPwr.setRail.railConfirmed h.withPwr.setRail)

theorem State.Canonical.freqSchedule {k at_ : Nat} (h : s.Canonical) : (s.freqSchedule k at_).Canonical := h.withPwr.wr.wr.wr.wr.wr

theorem State.Canonical.freqRefuse {st : Nat} (h : s.Canonical) : (s.freqRefuse st).Canonical := (ite h.wr h.freqResult).cnt

theorem State.Canonical.freqCancel (h : s.Canonical) : (s.freqCancel).Canonical := ite h.freqClear.wr.freqResult.cnt h

theorem State.Canonical.freqWrite {at_ : Nat} (h : s.Canonical) : (s.freqWrite at_).Canonical :=
  ite h.freqRefuse (ite h.freqCancel (ite h.freqSchedule h.freqRefuse))

theorem State.Canonical.freqReqWrite {k : Nat} (h : s.Canonical) : (s.freqReqWrite k).Canonical := ite h.freqRefuse (ite h.freqRefuse h.wr)

theorem State.Canonical.clockAt {k edge : Nat} (h : s.Canonical) : (s.clockAt k edge).Canonical := h.withPwr.wr.wr.wr

theorem State.Canonical.freqSwitch {edge : Nat} (h : s.Canonical) : (s.freqSwitch edge).Canonical := h.freqClear.clockAt.freqResult.withPwr.cnt

theorem State.Canonical.hstWrite {mhz : Nat} (h : s.Canonical) : (s.hstWrite mhz).Canonical :=
  ite h (ite h (ite h.withPwr.wr.wr.railWrite h.withPwr.wr.wr))

theorem State.Canonical.execHstFreqDone (h : s.Canonical) : Outcome.Canonical (execHstFreqDone s) := by
  unfold Machine.execHstFreqDone
  extract_lets _ _ t
  have ht : t.Canonical := h.withPwr.wr
  dsimp only
  split
  · exact h
  · exact ite h (ite (ite ht.railWrite ht).hstWrite (ite ht.railWrite ht))

theorem State.Canonical.trimWait {d : Nat} (h : s.Canonical) : (s.trimWait d).Canonical := ite h h.withPwr.cnt

theorem State.Canonical.trimTry {d : Nat} (h : s.Canonical) : (s.trimTry d).Canonical :=
  ite h (ite (ite h.trimWait.withPwr h.trimWait.withPwr.withPwr.raise) (ite h.trimWait h.commitNow.upd))

end

end Sys2Proof.Machine
end

section
/-!
SUPPORT. The canonical form of memory is kept by the power domains.
-/

namespace Sys2Proof.Machine

section
variable {s : State}

theorem State.Canonical.domRegs {d : Nat} (h : s.Canonical) : (s.domRegs d).Canonical := h.dropRegs

theorem State.Canonical.memLoad {m : Nat} (h : s.Canonical) : (s.memLoad m).Canonical := foldl (fun h1 => ite h1.wr.wr h1.wr.wr) h.wr.wr.withHbm.wrB

theorem State.Canonical.coreLoad {c : Nat} (h : s.Canonical) : (s.coreLoad c).Canonical := by
  unfold State.coreLoad
  extract_lets live t u v
  have ht : t.Canonical := h.wr.wr
  have hu : u.Canonical := by
    unfold u
    split
    exacts [ht.wr.wr, ht]
  exact ite hu (ite hu.wr (ite hu.wr.wr hu.wr.fenceCore))

theorem State.Canonical.domLose {d : Nat} (h : s.Canonical) : (s.domLose d).Canonical := by
  unfold State.domLose
  extract_lets t _ u _ _ _ v _ w y
  have ht : t.Canonical := foldl (fun h1 => h1.portDisable) h
  have hu : u.Canonical := ht.withNet
  have hv : v.Canonical := ite (foldl (fun h1 => (foldl (fun h2 => h2.coreClear.corePageClear) h1).lose.withPoison.withHbm) h) (ite (foldl (fun h1 => h1.l2Drop) h) (ite h.lose (ite h.lose (ite (foldl (fun h1 => (foldl (fun h2 => h2.wcbDrain) h1).setWcb.withHbm) h) (ite (ite hu.withNet hu) (ite h.upd.emit h))))))
  have hw : w.Canonical := hv.domRegs
  have hy : y.Canonical := ite hw.wr hw
  exact hy.wr

theorem State.Canonical.domRise {d : Nat} (h : s.Canonical) : (s.domRise d).Canonical := by
  unfold State.domRise
  extract_lets _ t u v w y z t'
  have ht : t.Canonical := h.domRegs
  have hu : u.Canonical := ite ht.wr ht
  have hv : v.Canonical := foldl (fun h1 => h1.wr) hu
  have hw : w.Canonical := foldl (fun h1 => h1.wr) hv
  have hy : y.Canonical := hw.wr
  have hz : z.Canonical := foldl (fun h1 => h1.wr) hy
  have ht' : t'.Canonical := foldl (fun h1 => foldl (fun h2 => h2.coreLoad) h1) hz
  exact ite (ite ht' ht'.wr) (ite (foldl (fun h1 => h1.memLoad.withHbm) hz) (ite (foldl (fun h1 => h1.portLoad) hz) (ite hz.emit hz)))

theorem State.Canonical.domResult {st : Nat} (h : s.Canonical) : (s.domResult st).Canonical := h.wr.wr

theorem State.Canonical.domRequest {mask : Nat} (h : s.Canonical) : (s.domRequest mask).Canonical :=
  ite h (ite h.domResult (ite h.domResult h.withPwr.wr.wr))

theorem State.Canonical.segRegs {d : Nat} (h : s.Canonical) : (s.segRegs d).Canonical := ite h.wr h.wr.wr

theorem State.Canonical.segFail {d seg : Nat} (h : s.Canonical) : (s.segFail d seg).Canonical := by
  unfold State.segFail
  extract_lets _ t u
  have ht : t.Canonical := h.wr.retireUnit
  have hu : u.Canonical := ht.segRegs
  split
  · exact h
  · split
    · exact hu.raise
    · exact hu.raise
    · exact ite hu hu.withPwr

theorem State.Canonical.domFence {d : Nat} (h : s.Canonical) : (s.domFence d).Canonical :=
  (foldl (fun h1 => foldl (fun h2 => h2.clearQuad) (foldl (fun h2 => h2.engReset) h1).engReset.wr.clearCluster.retireUnit) h).raise.withPwr.domLose.wr

theorem State.Canonical.domStart {d : Nat} (h : s.Canonical) : (s.domStart d).Canonical := ite h.domRise.domFence h.domRise

theorem State.Canonical.execDomainSwitchDone (h : s.Canonical) : Outcome.Canonical (execDomainSwitchDone s) := by
  unfold Machine.execDomainSwitchDone
  extract_lets t _ u v
  have ht : t.Canonical := foldl (fun h1 => h1.domLose) h
  have hu : u.Canonical := foldl (fun h1 => h1.domStart) ht
  have hv : v.Canonical := ite hu.wr hu
  exact ite h hv.withPwr.domResult

theorem State.Canonical.derate {d : Nat} {on : Bool} {q : Nat} (h : s.Canonical) : (s.derate d on q).Canonical :=
  ite (ite h.withLog.logStateRec.wr h.withLog.logStateRec).hstWrite (ite h.withLog.logStateRec.wr h.withLog.logStateRec)

theorem State.Canonical.execIcEval {d nv ma : Nat} {temp : Int} (h : s.Canonical) : Outcome.Canonical (execIcEval d nv ma temp s) := by
  unfold Machine.execIcEval
  extract_lets _ _ _ _ _ _ _ _ _ _ _ _ t u v
  have ht : t.Canonical := h.withPwr
  have hu : u.Canonical := ht.wr
  have hv : v.Canonical := ite hu.raise.logEvent hu
  exact ite h (ite hv.raise.derate (ite hv.derate hv))

end

end Sys2Proof.Machine
end

section
/-!
SUPPORT. The canonical form of memory is kept by telemetry, the envelope and heat.
-/

namespace Sys2Proof.Machine

section
variable {s : State}

theorem State.Canonical.energyAdd {d x : Nat} (h : s.Canonical) : (s.energyAdd d x).Canonical := h.withPwr

theorem State.Canonical.telemSend {seq : Nat} {bytes : List Nat} (h : s.Canonical) : (s.telemSend seq bytes).Canonical :=
  ite (ite h.setFlow.cnt h).cnt (ite h.setFlow.cnt h).flowQueue.withPwr

theorem State.Canonical.execTelemRecord {volts amps mw : List Nat} {tj : Nat} (h : s.Canonical) : Outcome.Canonical (execTelemRecord volts amps mw tj s) :=
  by
  unfold Machine.execTelemRecord
  extract_lets _ _ _ _ t u _ v w y z
  have ht : t.Canonical := h.wr.wr
  have hu : u.Canonical := ht.wr
  have hv : v.Canonical := hu.withPwr
  have hw : w.Canonical := foldl (fun h1 => h1.energyAdd) hv
  have hy : y.Canonical := hw.wr
  have hz : z.Canonical := ite hy.wbs hy
  exact ite hz.telemSend hz

theorem State.Canonical.envClamp {set : Nat} (h : s.Canonical) : (s.envClamp set).2.Canonical := ite_snd (snd h.cnt) (snd h)

theorem State.Canonical.envChange {tray : Bool} {set slope : Nat} (h : s.Canonical) : (s.envChange tray set slope).Canonical := h.envClamp.withPwr

theorem State.Canonical.envWrite {val : Nat} (h : s.Canonical) : (s.envWrite val).Canonical := ite h h.wr.wr.envChange

theorem State.Canonical.lEnv {penv : Nat} (h : s.Canonical) : (s.lEnv penv).2.Canonical := ite_snd (snd h.freeVal) (snd h)

theorem State.Canonical.envStep (h : s.Canonical) : (s.envStep).2.Canonical := snd h.lEnv.wr.wr.withPwr

theorem State.Canonical.levelsSet {lvl : List (Nat × Nat)} (h : s.Canonical) : (s.levelsSet lvl).Canonical := h.withPwr.cnt

theorem State.Canonical.execGovernorMs {tjs : List Nat} (h : s.Canonical) : Outcome.Canonical (execGovernorMs tjs s) := by
  unfold Machine.execGovernorMs
  refine Outcome.Canonical.next (ite h ?_)
  extract_lets cur env excess run edyn floor done _ t u v w
  have ht : t.Canonical := h.withPwr
  have hu : u.Canonical := ite ht.cnt ht
  have hv : v.Canonical := ite hu.raise hu
  have hw : w.Canonical := ite hv.raise hv
  split
  exacts [hw.freqSchedule, hw]

theorem State.Canonical.thermSet {l tj : Nat} (h : s.Canonical) : (s.thermSet l tj).Canonical := h.withPwr.wrB.wr

theorem State.Canonical.halt (h : s.Canonical) : (s.halt).Canonical :=
  ite h (ite (foldl (fun h1 => h1.wr) h.freqAbort.wr).withPwr (foldl (fun h1 => h1.wr) h.freqAbort.wr).withPwr.clockAt).railWrite

theorem State.Canonical.thermRestart (h : s.Canonical) : (s.thermRestart).Canonical := ite h.wr (foldl (fun h1 => h1.pump) h.wr.wr)

end

end Sys2Proof.Machine
end

section
/-!
SUPPORT. The canonical form of memory is kept by the firmware slots and Fog mode.
-/

namespace Sys2Proof.Machine

section
variable {s : State}

theorem State.Canonical.slotRegs (h : s.Canonical) : (s.slotRegs).Canonical := h.wr.wr.wr.wr.wr.wr.wr.wr

theorem State.Canonical.slotSet {k st : Nat} (h : s.Canonical) : (s.slotSet k st).Canonical := h.commitNow.slotRegs

theorem State.Canonical.slotSetNew {k st : Nat} {k' : List Nat} (h : s.Canonical) : (s.slotSetNew k st k').Canonical := h.commitNow.slotRegs

theorem State.Canonical.fwEnd {st : Nat} (h : s.Canonical) : (s.fwEnd st).Canonical := h.wr.wr

theorem State.Canonical.fwRefused {st : Nat} (h : s.Canonical) : (s.fwRefused st).Canonical := h.fwEnd.raise

theorem State.Canonical.fwStart {target : Nat} {ksb : Bool} {head : List Nat} {next : Nat} (h : s.Canonical) : (s.fwStart target ksb head next).Canonical :=
  h.slotSetNew.wr.withFw

theorem State.Canonical.fwFinish {target : Nat} {img : List Nat} (h : s.Canonical) : (s.fwFinish target img).2.Canonical :=
  ite_snd (snd h) (ite_snd (snd (ite h.withFw.slotSet.slotSet h.withFw.slotSet)) (snd (ite h.withFw.slotSet.slotSet h.withFw.slotSet)))

theorem State.Canonical.execStage {req : Nat} {hostErr sigOk : Bool} (h : s.Canonical) : Outcome.Canonical (execStage req hostErr sigOk s) := by
  unfold Machine.execStage
  extract_lets base head t
  have ht : t.Canonical := h.wr
  refine Outcome.Canonical.next (ite h (ite ht.fwEnd ?_))
  split
  · exact ht.fwEnd
  · exact ite ht.fwEnd (ite ht.fwRefused (ite ht.fwRefused (ite ht.fwRefused (ite ht.fwStart.wr ht.fwStart.withFw.fwEnd))))

theorem State.Canonical.execStageDone {pieces : Nat} {hostErr flashErr : Bool} (h : s.Canonical) : Outcome.Canonical (execStageDone pieces hostErr flashErr s) :=
  by
  unfold Machine.execStageDone
  extract_lets _ _ t
  have ht : t.Canonical := h.withFw
  dsimp only
  split
  · exact h
  · exact ite h (ite ht.wr.fwEnd (ite ht.wr.fwEnd (ite ht.wr.fwEnd (ite ht.wr.fwFinish.fwEnd.cnt (ite ht.wr.fwFinish.fwRefused ht.wr.fwFinish.fwEnd)))))

theorem State.Canonical.execActivate {req : Nat} {restart : Bool} (h : s.Canonical) : Outcome.Canonical (execActivate req restart s) := by
  unfold Machine.execActivate
  extract_lets t
  have ht : t.Canonical := h.wr.wrB
  dsimp only
  split
  · exact h
  · split
    · exact ht.fwEnd
    · exact ite ht.fwEnd (ite ht.slotSet.fwEnd.withFw.wr ht.slotSet.fwEnd)

theorem State.Canonical.confirmBoot (h : s.Canonical) : (s.confirmBoot).Canonical := (ite h.slotSet.slotSet h.slotSet).withFw

theorem State.Canonical.execConfirm {req : Nat} (h : s.Canonical) : Outcome.Canonical (execConfirm req s) :=
  ite h (ite h.wr.fwEnd (ite h.wr.fwEnd h.wr.confirmBoot.fwEnd))

theorem State.Canonical.execCommitSvn {req : Nat} (h : s.Canonical) : Outcome.Canonical (execCommitSvn req s) :=
  ite h (ite h.wr.fwEnd (ite h.wr.fwEnd h.wr.otpAdvance.fwEnd))

theorem State.Canonical.execFwuAbort {req : Nat} (h : s.Canonical) : Outcome.Canonical (execFwuAbort req s) := by
  unfold Machine.execFwuAbort
  dsimp only
  split
  · exact h
  · split
    · exact ite h.wr h.wr.withFw
    · exact h.wr

theorem State.Canonical.withFwRecovPwr {x : FwSt} {y : RecSt} {z : PwrSt} (h : s.Canonical) :
    { s with fw := x, recov := y, pwr := z }.Canonical := h

theorem State.Canonical.enterFog (h : s.Canonical) : (s.enterFog).Canonical := by
  unfold State.enterFog
  extract_lets t u _ _ _ v w y
  have ht : t.Canonical := foldl (fun h1 => h1.domLose) h
  have hu : u.Canonical := ht.wr.domRise
  have hv : v.Canonical := hu.withFwRecovPwr
  exact hv.wr.wr.wr.wr.wr.wr

theorem State.Canonical.leaveFog (h : s.Canonical) : (s.leaveFog).Canonical := h.domLose.wr.withFw.wr.wr.wr

theorem State.Canonical.execExitFog {req : Nat} {strapLow : Bool} (h : s.Canonical) : Outcome.Canonical (execExitFog req strapLow s) :=
  ite h (ite h.wr.fwEnd.leaveFog h.wr.fwEnd)

theorem State.Canonical.slotFail {k : Nat} (h : s.Canonical) : (s.slotFail k).Canonical := h.slotSet.raise

theorem State.Canonical.slotAttempt {k : Nat} (h : s.Canonical) : (s.slotAttempt k).Canonical := (ite h.slotSet h).commitNow.slotRegs.cnt

theorem State.Canonical.slotTry {sigOk : List Bool} {first : Nat} {l : List Nat} (h : s.Canonical) : (State.slotTry sigOk first l s).2.Canonical := by
  induction l generalizing s with
  | nil => exact h
  | cons k l ih => exact ite_snd (ih h.slotFail) (ite h.slotAttempt h.slotAttempt.raise.cnt)

theorem State.Canonical.fwRun {k : Nat} (h : s.Canonical) : (s.fwRun k).Canonical :=
  ite (ite h.wr.wr.withFw.raise h.wr.wr.withFw).confirmBoot (ite h.wr.wr.withFw.raise h.wr.wr.withFw)

theorem State.Canonical.chooseSlot {strapLow : Bool} {sigOk : List Bool} (h : s.Canonical) : (s.chooseSlot strapLow sigOk).Canonical := by
  unfold State.chooseSlot
  extract_lets t
  have ht : t.Canonical := h.slotRegs
  split
  · exact ht.enterFog
  · split
    · next e =>
        have h1 := of_snd ht.slotTry e
        exact h1.fwRun
    · next e =>
        have h1 := of_snd ht.slotTry e
        exact h1.enterFog

theorem State.Canonical.execKeeperStart {sigOk : List Bool} {strapLow : Bool} (h : s.Canonical) : Outcome.Canonical (execKeeperStart sigOk strapLow s) :=
  by
  unfold Machine.execKeeperStart
  extract_lets t _ _ u v w
  have ht : t.Canonical := h.wr
  have hu : u.Canonical := ht.withFw
  have hv : v.Canonical := ite hu.fwEnd hu
  have hw : w.Canonical := hv.otpRepair.journalReplay.chooseSlot
  exact ite h (ite hw hw.daymarkAgain.rstWake)

end

end Sys2Proof.Machine
end

section
/-!
SUPPORT. The canonical form of memory is kept by the boot sequence and by the loss of AON and of power.
-/

namespace Sys2Proof.Machine

section
variable {s : State}

theorem State.Canonical.presenceLoad (h : s.Canonical) : (s.presenceLoad).Canonical := (foldl (fun h1 => h1.wr) h.wr).wr.wr.arraysCount

theorem State.Canonical.derateLoad (h : s.Canonical) : (s.derateLoad).Canonical := (ite h.wr h).wr

theorem State.Canonical.logLoad (h : s.Canonical) : (s.logLoad).Canonical := by
  unfold State.logLoad
  extract_lets _ t u v w
  have ht : t.Canonical := foldl (fun h1 => h1.wr.wr.segRegs) h
  have hu : u.Canonical := foldl (fun h1 => h1.wr) ht
  have hv : v.Canonical := hu.wr.wr
  have hw : w.Canonical := ite hv hv.wr
  exact hw.derateLoad.presenceLoad

theorem State.Canonical.rmapLoad (h : s.Canonical) : (s.rmapLoad).Canonical := ite h.withLog.wr.wr.raise h.withLog.wr

theorem State.Canonical.incidentCut (h : s.Canonical) : (s.incidentCut).Canonical := by
  unfold State.incidentCut
  dsimp only
  split
  · exact h.withLog
  · exact ite h.withLog h.freeVal.freeVal.freeVal.withLog.incidentSummary

theorem State.Canonical.energyLoad (h : s.Canonical) : (s.energyLoad).Canonical := by
  unfold State.energyLoad
  dsimp only
  split
  · exact h.withPwr
  · exact h

theorem State.Canonical.badDevice {d : Nat} (h : s.Canonical) : (s.badDevice d).Canonical := h.setFl

theorem State.Canonical.bootPhase {k : Nat} (h : s.Canonical) : (s.bootPhase k).Canonical := h.wr.wr

theorem State.Canonical.bootStop {st : Nat} (h : s.Canonical) : (s.bootStop st).Canonical := h.wr.wr

theorem State.Canonical.bootDegraded (h : s.Canonical) : (s.bootDegraded).Canonical := h.wr

theorem State.Canonical.boot1 {x : BootEnv} (h : s.Canonical) : (s.boot1 x).Canonical := by
  unfold State.boot1
  extract_lets _ _ t u v w y bad
  have ht : t.Canonical := h
  have hu : u.Canonical := ht.wr.bootPhase
  have hv : v.Canonical := foldl (fun h1 => h1.wr) hu
  have hy : y.Canonical := hv.bootPhase.otpRepair.bootPhase
  split
  next e =>
    have h1 := of_fst (State.Canonical.logReplay (foldl (fun h1 => h1.badDevice) hy)) e
    exact (State.Canonical.keyBoot (foldl (fun h1 => h1.raise) (State.Canonical.incidentCut h1))).logLoad.rmapLoad.energyLoad.bootPhase.chooseSlot

theorem State.Canonical.railAt {r v : Nat} (h : s.Canonical) : (s.railAt r v).Canonical := h.setRail.emit.emit.emit.avsSend

theorem State.Canonical.bootRails (h : s.Canonical) : (s.bootRails).Canonical := ite h.bootPhase h.bootPhase.railAt.railAt.railAt

theorem State.Canonical.stacksLeave {failed : List Nat} (h : s.Canonical) : (s.stacksLeave failed).Canonical :=
  foldl (fun h1 => ite h1.wr.bootDegraded h1) h

theorem State.Canonical.chanLow {n i : Nat} (h : s.Canonical) : (s.chanLow n i).Canonical := h.incSat.chDegrade.setChan

theorem State.Canonical.chansBoot {n : Nat} {low fail : List Nat} (h : s.Canonical) : (s.chansBoot n low fail).Canonical :=
  foldl (fun h1 => ite h1 (ite h1.chanLow h1).chFence) (foldl (fun h1 => ite h1.chanLow h1) h)

theorem State.Canonical.bootMemory {x : BootEnv} (h : s.Canonical) : (s.bootMemory x).Canonical :=
  (foldl (fun h1 => h1.domRise) h.bootPhase).chansBoot.stacksLeave.withNet

theorem State.Canonical.bootDomain {segs : List Nat} {d : Nat} (h : s.Canonical) : (s.bootDomain segs d).Canonical :=
  ite h.bootDegraded (ite (foldl (fun h1 => h1.segFail) h.domRise).domFence.bootDegraded (foldl (fun h1 => h1.segFail) h.domRise))

theorem State.Canonical.bootCompute {x : BootEnv} (h : s.Canonical) : (s.bootCompute x).Canonical := by
  unfold State.bootCompute
  exact (foldl (fun h1 => h1.bootDomain) h).domRise

theorem State.Canonical.admitFail {n : Nat} (h : s.Canonical) : (s.admitFail n).Canonical := ite h (foldl (fun h1 => h1.raise) h.bootDegraded)

theorem State.Canonical.admitPass {i : Nat} (h : s.Canonical) : (s.admitPass i).Canonical := h.wr.setKat

theorem State.Canonical.admitKat {fails : List Nat} (h : s.Canonical) : (s.admitKat fails).2.Canonical :=
  snd (foldl (fun h1 => h1.wr.katFence) (foldl (fun h1 => h1.admitPass) h))

theorem State.Canonical.admitMem {low fail : List Nat} (h : s.Canonical) : (s.admitMem low fail).2.2.Canonical := by
  unfold State.admitMem
  dsimp only
  exact h.chansBoot.stacksLeave

theorem State.Canonical.admission {x : BootEnv} (h : s.Canonical) : (s.admission x).Canonical := by
  unfold State.admission
  extract_lets t
  have ht : t.Canonical := h.bootPhase
  refine ite ht ?_
  split
  next u e =>
    have hu : u.Canonical := of_snd (ite_snd ht.admitKat ht) e
    have hmem : (if u.flag R.KPR_ADMIT_CTRL_MEM pKpr then u.admitMem x.memLow x.memFail else (0, 0, u)).2.2.Canonical := by
      split
      exacts [hu.admitMem, hu]
    split
    next e =>
      rw [e] at hmem
      exact State.Canonical.wr (State.Canonical.wr (State.Canonical.wr (State.Canonical.wr (State.Canonical.admitFail hmem))))

theorem State.Canonical.farEnum {caps low : List Nat} (h : s.Canonical) : (s.farEnum caps low).Canonical := by
  unfold State.farEnum
  extract_lets step
  have h1 : ((List.range 4).foldl step (s, 0, 0)).1.Canonical :=
    List.foldlRecOn (motive := fun a : State × Nat × Nat => a.1.Canonical) _ _ h fun _ ha _ _ => ha.wr.wr
  split
  next e => exact (of_fst h1 e).withHbm.wr.wr.wr.farDegraded

theorem State.Canonical.bootReady (h : s.Canonical) : (s.bootReady).Canonical :=
  (foldl (fun h1 => h1.digestUpdate) (foldl (fun h1 => h1.katDue) (foldl (fun h1 => h1.wr) h))).bootPhase.daymarkCompute.wr.withBoot.bootReadyTry

theorem State.Canonical.boot9 {x : BootEnv} (h : s.Canonical) : (s.boot9 x).Canonical :=
  h.admission.bootPhase.domRise.farEnum.pcieTrain.bootPhase.domRise.domRise.wr.bootReady

theorem State.Canonical.boot8 {x : BootEnv} (h : s.Canonical) : (s.boot8 x).Canonical := ite h.bootPhase.upd.wr.bootStop h.bootPhase.bootCompute.boot9

theorem State.Canonical.boot5 {x : BootEnv} (h : s.Canonical) : (s.boot5 x).Canonical :=
  ite (ite h.logLoad h).bootRails.bootMemory.freeVal.bootStop (ite h.logLoad h).bootRails.bootMemory.boot8

theorem State.Canonical.eraseCut {d : Nat} (h : s.Canonical) : (s.eraseCut d).Canonical := by
  unfold State.eraseCut
  dsimp only
  split
  · exact h
  · exact ite h h.setFl

theorem State.Canonical.logCut {c0 c1 : Nat} (h : s.Canonical) : (s.logCut c0 c1).Canonical := by
  unfold State.logCut
  dsimp only
  split
  · exact h
  · exact ite (ite h h.headFor.setFl) (ite h h.headFor.setFl).headFor.setFl

theorem State.Canonical.flashCut {c0 c1 : Nat} (h : s.Canonical) : (s.flashCut c0 c1).Canonical :=
  ite (ite h.logCut.eraseCut h.logCut).eraseCut (ite h.logCut.eraseCut h.logCut)

theorem State.Canonical.keyCut {stage : Nat} (h : s.Canonical) : (s.keyCut stage).Canonical := by
  unfold State.keyCut
  dsimp only
  split
  · exact h
  · exact ite h (ite h.keyProgram (ite h.keyProgram.commitNow h.keyProgram.commitNow.withLog))

theorem State.Canonical.aonCut (h : s.Canonical) : (s.aonCut).Canonical := by
  unfold State.aonCut
  have kept : (s.lose (Spc 0) (Spc 4)).Canonical := h.lose
  exact drop (fun c => decide (Spc 4 ≤ c.1) && decide (c.1 < Spc 5)) kept

theorem State.Canonical.execAonResetAssert {c0 c1 key : Nat} (h : s.Canonical) : Outcome.Canonical (execAonResetAssert c0 c1 key s) := by
  unfold Machine.execAonResetAssert
  exact h.keyCut.flashCut.aonCut.upd

end

end Sys2Proof.Machine
end

section
/-!
SUPPORT. The canonical form of memory is kept by the DBG page.
-/

namespace Sys2Proof.Machine

section
variable {s : State}

theorem State.Canonical.peek {fn : Nat} (h : s.Canonical) : (s.peek fn).Canonical := (ite h.cnt h).wr.wr.wr.withRdata

theorem State.Canonical.traceFail {fn : Nat} (h : s.Canonical) : (s.traceFail fn).Canonical := h.setDbg.wr.wr.wr.raise

theorem State.Canonical.traceOff {fn : Nat} {hostErr : Bool} (h : s.Canonical) : (s.traceOff fn hostErr).Canonical :=
  ite h.wr.traceFail h.wr.traceFlush.wr

theorem State.Canonical.twRead {v : Via} {k a n : Nat} (h : s.Canonical) : Option.Gives (fun x => x.1.Canonical) (s.twRead v k a n) := by
  induction k generalizing s a n with
  | zero => exact .some h
  | succ k ih =>
    unfold State.twRead
    refine .ite (.some h) (.ite (.some h) ?_)
    extract_lets c
    split
    · exact .ite .none (.some h)
    · next e =>
      have h1 := h.ldN _ e
      split
      · exact .none
      · next e =>
        have h2 := ih h1 _ e
        exact .some h2

theorem State.Canonical.twRow {v : Via} {t : Ten} {ebase : Nat} {acc : TwAcc} {r : Nat} (h : s.Canonical) : Option.Gives (fun x => x.1.Canonical) (s.twRow v t ebase acc r) :=
  by
  unfold State.twRow
  dsimp only
  split
  · exact .some (fst h)
  · split
    · exact .none
    · next e =>
        have h1 := h.twRead _ e
        split
        · exact .none
        · next e =>
            have h2 := h1.twRead _ e
            exact .some (fst h2)

theorem State.Canonical.twRows {v : Via} {t : Ten} {ebase : Nat} {l : List Nat} {acc : TwAcc} (h : s.Canonical) :
    Option.Gives (fun x => x.1.Canonical) (State.twRows v t ebase l s acc) := by
  induction l generalizing s acc with
  | nil => exact .some h
  | cons r l ih =>
    unfold State.twRows
    split
    · exact .none
    · next e => exact ih (h.twRow _ e)

theorem State.Canonical.twDesc {fn : Nat} {g : Digest} (h : s.Canonical) : Option.Gives (fun x => x.1.Canonical) (s.twDesc fn g) := by
  unfold State.twDesc
  dsimp only
  split
  · exact .none
  · next e =>
      have h1 := h.twRead _ e
      exact .ite (.some (fst h1)) (.some (fst h1))

theorem State.Canonical.twPut {fn : Nat} {g : Digest} {flags st : Nat} {a : TwAcc} {sf : Nat} {hostErr : Bool} (h : s.Canonical) : (s.twPut fn g flags st a sf hostErr).Canonical :=
  ite h (ite h.wr.raise (ite h.wbs.setDbg.cnt.wr.wr h.wbs.setDbg.cnt.wr.wr.raise))

theorem State.Canonical.twDigest {fn : Nat} {g : Digest} {hostErr : Bool} (h : s.Canonical) : Option.Gives State.Canonical (s.twDigest fn g hostErr) :=
  by
  unfold State.twDigest
  dsimp only
  split
  · exact .none
  · next e =>
      have h1 := h.twDesc _ e
      exact .some h1.twPut
  · next e =>
      have h1 := h.twDesc _ e
      split
      · exact .none
      · next e =>
          have h2 := h1.twRows _ e
          exact .some h2.cnt.twPut

theorem State.Canonical.execTwDigest {fn held : Nat} {hostErr : Bool} (h : s.Canonical) : Outcome.Canonical (execTwDigest fn held hostErr s) := by
  unfold Machine.execTwDigest
  dsimp only
  split
  · exact h
  · split
    · exact h
    · next e =>
        have h1 := h.twDigest _ e
        exact h1.setDbg.cnt.twPending

theorem State.Canonical.execColCqResetDone {fn k : Nat} (h : s.Canonical) : Outcome.Canonical (execColCqResetDone fn k s) := by
  unfold Machine.execColCqResetDone
  split
  · exact h.wr
  · exact h

end

end Sys2Proof.Machine
end

section
/-!
SUPPORT. The canonical form of memory is kept by writes of registers and the accesses of a cluster host core.
-/

namespace Sys2Proof.Machine

section
variable {s : State}

theorem State.Canonical.after {o : Host.Outcome State Fault Refusal} (h : s.Canonical) (ho : Outcome.Canonical o) : (s.after o).Canonical := by
  cases o
  exacts [ho, h, h]

theorem State.Canonical.putFld {p : Nat} {f : Fld} {v : Nat} (h : s.Canonical) : (s.putFld p f v).Canonical := by
  unfold State.putFld
  split
  · exact h
  · split
    · exact ite h.wr h
    · exact ite h.wr h
    · exact ite h h.wr
    · exact h.wr
    · exact h
    · exact h

theorem State.Canonical.putReg {p off n v : Nat} (h : s.Canonical) : (s.putReg p off n v).Canonical := foldl (fun h1 => h1.putFld) h

theorem State.Canonical.putPlain {p off n v : Nat} (h : s.Canonical) : (s.putPlain p off n v).Canonical := by
  unfold State.putPlain
  dsimp only
  split
  · exact ite (foldl (fun h1 => h1.wr) h.putReg) h.putReg
  · exact h.putReg

theorem State.Canonical.ctrlWrite {p v : Nat} (h : s.Canonical) : (s.ctrlWrite p v).Canonical := ite h.ctrlReset h.ctrlBits

theorem State.Canonical.flipCtrl {p off v : Nat} (h : s.Canonical) : (s.flipCtrl p off v).Canonical := by
  unfold State.flipCtrl
  dsimp only
  split
  · exact h
  · exact ite h.putFld.putFld.flipCancel (ite h.putFld.putFld h.putFld.putFld.flipArm)

theorem State.Canonical.rngWrite {x v : Nat} {tap : Bool} (h : s.Canonical) : (s.rngWrite x v tap).Canonical := ite h.setEng h.wr

theorem State.Canonical.putSlice {f : Fld} {p off v : Nat} (h : s.Canonical) : (s.putSlice f p off v).Canonical := h.wr

theorem State.Canonical.writeCore {fn p off n v : Nat} (h : s.Canonical) : (s.writeCore fn p off n v).Canonical := by
  unfold State.writeCore
  dsimp only
  split
  · split
    · exact h.after h.execCtxSave
    · exact h.after h.execCtxRestore
    · exact h
  · exact ite (ite h (ite (h.after h.execKatReq) h.putFld.putFld)) (ite h.rngWrite (ite h.rngWrite h.putPlain))

theorem State.Canonical.writeClu {p off n v : Nat} (h : s.Canonical) : (s.writeClu p off n v).Canonical := ite h.rngWrite (ite h.rngWrite h.putPlain)

theorem State.Canonical.grpWrite {fn : Nat} (h : s.Canonical) : (s.grpWrite fn).Canonical := by
  unfold State.grpWrite
  dsimp only
  split
  · exact h
  · exact h.withColl

theorem State.Canonical.writeCol {req p off n v : Nat} (h : s.Canonical) : (s.writeCol req p off n v).Canonical := by
  unfold State.writeCol
  extract_lets _ t u _ w _ y
  have ht : t.Canonical := h.putSlice
  have hu : u.Canonical := h.putPlain
  have hw : w.Canonical := hu.withColl
  have hy : y.Canonical := ite h.putFld.putFld h
  exact ite h.flipCtrl (ite h.flipWrite (ite (ite ht.grpWrite ht) (ite (hw.after hw.execCollQuadsApply) (ite (ite (h.after h.execColCqReset) h) (ite (ite h.raise h.putFld) (ite (ite (hy.after hy.execStepArm) (ite (hy.after hy.execStepDisarm) hy)) h.putPlain))))))

theorem State.Canonical.writeHifFn {req p off n v : Nat} (h : s.Canonical) : (s.writeHifFn req p off n v).Canonical := by
  unfold State.writeHifFn
  extract_lets _ t _ u
  have ht : t.Canonical := h.putPlain
  have hu : u.Canonical := ite h (h.after h.execFuncCtrlEn)
  exact ite (ite (ht.after ht.execResGo) ht) (ite (ite hu.stopFn hu) (ite h.putPlain.bootReadyTry h.putPlain))

theorem State.Canonical.writeHif {req p off n v : Nat} (h : s.Canonical) : (s.writeHif req p off n v).Canonical :=
  ite h.writeHifFn (ite h.flipCtrl (ite h.flipWrite (ite (h.after h.execXltInval) (ite (ite h.cnt (ite h.frameReq h.putPlain)) (ite (ite (h.after h.execDumpGo) h) h.putPlain)))))

theorem State.Canonical.writeQue {req p off n v : Nat} (h : s.Canonical) : (s.writeQue req p off n v).Canonical := by
  unfold State.writeQue
  extract_lets _ t
  have ht : t.Canonical := ite (h.after h.execCqResume) h
  split
  · split
    · exact h.after h.execQueCqReset
    · split
      · exact ite ht (ht.after ht.execCqEnable)
      · exact ht
  · exact h.putPlain

theorem State.Canonical.writeEvt {req p off n v : Nat} (h : s.Canonical) : (s.writeEvt req p off n v).Canonical := by
  unfold State.writeEvt
  extract_lets _ t
  have ht : t.Canonical := h.putPlain
  dsimp only
  split
  · split
    · exact h
    · exact ite ht.wr ht
  · exact ite (h.after (Outcome.Canonical.ite h.execEqEnable h.execEqDisable)) h.putPlain

theorem State.Canonical.writeDbg {p off n v : Nat} {hostErr : Bool} (h : s.Canonical) : (s.writeDbg p off n v hostErr).Canonical :=
  ite (ite (ite h h.traceOff) (ite h.putPlain.wr h.putPlain)) (ite h.trace (ite (ite h.setDbg h).putPlain h.putPlain))

theorem State.Canonical.writeLnk {p off n v : Nat} (h : s.Canonical) : (s.writeLnk p off n v).Canonical := by
  unfold State.writeLnk
  extract_lets _ _ t u w
  have ht : t.Canonical := h.putPlain.wrB
  have hu : u.Canonical := h.putPlain
  have hw : w.Canonical := h.putFld
  exact ite (ite ht.trainBegin ht) (ite (h.after h.execPeerExpectWrite) (ite (ite (hu.after hu.execQuarRelease) hu) (ite (ite hu.keyRoll hu) (ite (ite (hw.after hw.execLaneMarginGo) hw) h.putPlain))))

theorem State.Canonical.writeRte {req p off n v : Nat} (h : s.Canonical) : (s.writeRte req p off n v).Canonical := by
  unfold State.writeRte
  extract_lets t
  have ht : t.Canonical := h.putSlice
  exact ite (h.after h.execMaddrWrite) (ite h.flipCtrl (ite h.flipWrite (ite (ite ht.withNet ht) (ite h.putSlice (ite (h.after h.execPatchWrite) (ite h.putPlain.timeCheck h.putPlain))))))

theorem State.Canonical.writeXpt {req p off n v : Nat} (h : s.Canonical) : (s.writeXpt req p off n v).Canonical := by
  unfold State.writeXpt
  dsimp only
  split
  · split
    · exact h.putPlain
    · split
      · exact h.after h.execFlowOpen
      · exact h.after h.execFlowClose
      · exact h.after h.execFlowReset
      · exact h.after h.execFlowRead
      · exact h
  · exact ite h.putSlice h.putPlain

theorem State.Canonical.writeMem {req p off n v : Nat} (h : s.Canonical) : (s.writeMem req p off n v).Canonical :=
  ite (ite (ite (h.after h.execMemMarginGo) (ite h h.putPlain.wr)) h.putPlain) (ite (ite (h.after h.execTgGo) (ite (h.after h.execTgStop) h.putFld.putFld)) h.putPlain)

theorem State.Canonical.writeTop {req off n v : Nat} (h : s.Canonical) : (s.writeTop req off n v).Canonical :=
  ite (h.after h.execEpochWrite) (ite (ite (h.after h.execDmApprove) h) h.putPlain)

theorem State.Canonical.writeKpr {off n v : Nat} (h : s.Canonical) : (s.writeKpr off n v).Canonical := ite h.putPlain.testsResume h.putPlain

theorem State.Canonical.writePwr {off n v : Nat} (h : s.Canonical) : (s.writePwr off n v).Canonical :=
  ite h.envWrite (ite h.domRequest (ite h (ite h.putPlain.thermRestart h.putPlain)))

theorem State.Canonical.writeClk {off n v : Nat} (h : s.Canonical) : (s.writeClk off n v).Canonical :=
  ite h.freqReqWrite (ite h.freqWrite (ite h.hstWrite h.putPlain))

theorem State.Canonical.rmapWrite {v : Nat} (h : s.Canonical) : (s.rmapWrite v).Canonical := ite h.rmapPut h

theorem State.Canonical.writeLog {off n v : Nat} {env : WrEnv} (h : s.Canonical) : (s.writeLog off n v env).Canonical := by
  unfold State.writeLog
  extract_lets t
  have ht : t.Canonical := h.putPlain
  split
  · exact ite (h.after h.execLogRead) h
  · split
    · exact h.flipCtrl
    · split
      · exact h.flipWrite
      · split
        · exact h.rmapWrite
        · split
          · split
            · exact ht
            · split
              · exact ht.after ht.execGenerate
              · exact ht.after ht.execInstall
              · exact ht.after ht.execKeyAbort
              · exact ht
          · exact h.putPlain

theorem State.Canonical.writeFwu {req off n v : Nat} {env : WrEnv} (h : s.Canonical) : (s.writeFwu req off n v env).Canonical := by
  unfold State.writeFwu
  split
  · split
    · exact h.after h.execStage
    · exact h.after h.execActivate
    · exact h.after h.execConfirm
    · exact h.after h.execCommitSvn
    · exact h.after h.execFwuAbort
    · exact h.after h.execExitFog
    · exact h
  · exact h.putPlain

theorem State.Canonical.writeHdr {p off n v : Nat} {env : WrEnv} (h : s.Canonical) : (s.writeHdr p off n v env).Canonical :=
  ite h.ctrlWrite (ite h.errClear (ite h.errInject (ite (ite h.putPlain.wrB h.putPlain) h.putPlain)))

theorem State.Canonical.writeReg {fn p off n v : Nat} {env : WrEnv} (h : s.Canonical) : (s.writeReg fn p off n v env).Canonical := by
  unfold State.writeReg
  split
  · exact h.writeHdr
  · split
    · exact h
    · split
      · exact h.cnt
      · split
        · exact h.writeCore
        · exact h.writeClu
        · exact h.writeCol
        · exact h.writeHif
        · exact h.writeQue
        · exact h.writeEvt
        · exact h.writeDbg
        · exact h.writeLnk
        · exact h.writeRte
        · exact h.writeXpt
        · exact h.writeMem
        · exact h.writeMem
        · exact h.writeTop
        · exact h.writeKpr
        · exact h.writePwr
        · exact h.writeClk
        · exact h.writeLog
        · exact h.writeFwu
        · exact h.putPlain

theorem State.Canonical.write32 {fn p off v : Nat} {env : WrEnv} (h : s.Canonical) : (s.write32 fn p off v env).Canonical := by
  unfold State.write32
  dsimp only
  split
  · exact h.writeReg
  · exact ite h.withLatch h.withLatch.writeReg

theorem State.Canonical.writePage {fn p off width v : Nat} {env : WrEnv} (h : s.Canonical) : (s.writePage fn p off width v env).Canonical :=
  ite h.write32.write32 h.write32

theorem State.Canonical.msixWrite {fn i v : Nat} (h : s.Canonical) : (s.msixWrite fn i v).Canonical := ite h.withHost.withHost.emit.cnt h.withHost

theorem State.Canonical.chcEnd {cause : Nat} {data : List Nat} (h : s.Canonical) : (s.chcEnd cause data).Canonical := h.withRdata.emit

theorem State.Canonical.l2Leave {n a : Nat} {wb : Bool} (h : s.Canonical) : (s.l2Leave n a wb).2.Canonical := by
  unfold State.l2Leave
  dsimp only
  split
  · exact snd h
  · exact ite_snd (snd (ite_snd h.writeSpan (snd h))) (snd (ite_snd h.writeSpan (snd h)).withL2.wbs)

theorem State.Canonical.l2Room {n : Nat} (h : s.Canonical) : (s.l2Room n).Canonical := by
  unfold State.l2Room
  dsimp only
  split
  · exact h
  · split
    · exact h.freeVal.l2Leave
    · exact h.freeVal

theorem State.Canonical.l2Fill {n a : Nat} (h : s.Canonical) : Except.Gives State.Canonical (s.l2Fill n a) :=
  .ite (.ok h) (.bind h.l2Room.ldN fun h1 => .ok (ite_snd h1.freeVal (snd h1)).withL2.wbs)

theorem State.Canonical.l2Error {n a err : Nat} (h : s.Canonical) : (s.l2Error n a err).2.Canonical :=
  ite_snd (snd h.raise) (ite_snd (snd h.l2Leave.raise) (snd h))

theorem State.Canonical.chcLoad {n a len err : Nat} {fetch : Bool} (h : s.Canonical) : (s.chcLoad n a len err fetch).Canonical := by
  unfold State.chcLoad
  dsimp only
  split
  · exact h.chcEnd
  · split
    · split
      · exact h.chcEnd
      · split
        · exact ite h h.chcEnd
        · next e =>
            have h1 := h.l2Fill _ e
            exact ite h1.l2Error.chcEnd h1.l2Error.chcEnd
    · split
      · exact h.chcEnd
      · split
        · exact ite h h.chcEnd
        · next e =>
            have h1 := h.ldN _ e
            exact (ite_snd h1.freeVal (snd h1)).chcEnd

theorem State.Canonical.chcStore {n a err : Nat} {bytes : List Nat} (h : s.Canonical) : (s.chcStore n a err bytes).Canonical := by
  unfold State.chcStore
  split
  · exact h.chcEnd
  · split
    · split
      · exact h.chcEnd
      · split
        · exact ite h h.chcEnd
        · next e =>
            have h1 := h.l2Fill _ e
            exact ite h1.l2Error.chcEnd h1.l2Error.withL2.wbs.chcEnd
    · split
      · next e =>
          have h1 := h.stN _ e
          exact h1.chcEnd
      · exact ite h h.chcEnd

theorem State.Canonical.execChcAccess {n : Nat} {op : ChcOp} {err : Nat} (h : s.Canonical) : Outcome.Canonical (execChcAccess n op err s) := by
  unfold Machine.execChcAccess
  dsimp only
  split
  · exact h
  · split
    · exact ite h.chcLoad h
    · exact ite h.chcLoad h
    · exact ite h.chcStore h
    · split
      · exact ite h h.writeSpan.withL2.chcEnd
      · exact h.chcEnd
    · exact ite h h.l2Leave.chcEnd
    · exact h.l2Leave.chcEnd
    · exact ite h.chcEnd (ite h.read32.chcEnd h.chcEnd)
    · exact ite h.chcEnd h.writePage.chcEnd

end

end Sys2Proof.Machine
end

section
/-!
SUPPORT. The canonical form of memory is kept by the side-band port.
-/

namespace Sys2Proof.Machine

section
variable {s : State}

theorem State.Canonical.ksbRegs (h : s.Canonical) : (s.ksbRegs).Canonical := h.wr.wr

theorem State.Canonical.ksbCut {status : Bool} {x : Nat} (h : s.Canonical) : (s.ksbCut status x).Canonical := (ite h.withKsb.cnt h.withKsb.cnt).raise

theorem State.Canonical.ksbCrcBad (h : s.Canonical) : (s.ksbCrcBad).Canonical := h.withKsb.cnt.raise

theorem State.Canonical.ksbJudged {op x result : Nat} {extra : Bool} (h : s.Canonical) : (s.ksbJudged op x result extra).Canonical :=
  h.withKsb.ksbRegs

theorem State.Canonical.execKsbMalformedFrame {op x : Nat} {crcOk : Bool} (h : s.Canonical) : Outcome.Canonical (execKsbMalformedFrame op x crcOk s) :=
  by
  unfold Machine.execKsbMalformedFrame
  dsimp only
  split
  · exact h
  · split
    · exact (ite h.ksbCut (ite h h.ksbCrcBad)).ksbRegs
    · split
      · exact h.ksbCut.ksbJudged
      · split
        · exact h.ksbJudged
        · exact ite h.ksbCut.ksbJudged (ite h h.ksbCrcBad.ksbJudged)

theorem State.Canonical.ksbFrame {op : Nat} {w : KsbWhere} {busy extra : Bool} {body : State → Nat × State} (h : s.Canonical)
    (hbody : ∀ {t}, t.Canonical → (body t).2.Canonical) : (s.ksbFrame op w busy extra body).Canonical := by
  unfold State.ksbFrame
  extract_lets _ t _ _ u
  have ht : t.Canonical := ite h.withKsb.cnt.raise h
  have hu : u.Canonical := ht.withKsb.cnt
  exact ite h (ite ht.cnt.ksbJudged (ite ht.ksbJudged (hbody hu).ksbJudged))

theorem State.Canonical.ksbGuarded {addr : Nat} {f : State → State} (h : s.Canonical)
    (hf : ∀ {t}, t.Canonical → (f t).Canonical) : (s.ksbGuarded addr f).2.Canonical := ite_snd (snd h) (snd (hf h.raise))

theorem State.Canonical.ksbData {d : Option (List Nat)} {last : Bool} (h : s.Canonical) : (s.ksbData d last).Canonical := h.withKsb

theorem State.Canonical.execRegRead {page off : Nat} {busy extra : Bool} (h : s.Canonical) : Outcome.Canonical (execRegRead page off busy extra s) :=
  h.ksbFrame fun h1 => ite_snd h1.ksbData (ite_snd h1.ksbData h1.readWords.ksbData)

theorem State.Canonical.execStandbyAddr {val : Nat} {busy extra : Bool} (h : s.Canonical) : Outcome.Canonical (execStandbyAddr val busy extra s) :=
  h.ksbFrame (fun h1 => ite_snd (snd h1) (ite_snd (snd h1) (snd (foldl (fun h2 => ite h2.trainBegin h2) h1.wr.wr))))

theorem State.Canonical.ksbLoadEnd (h : s.Canonical) : (s.ksbLoadEnd).Canonical := h.withFw

theorem State.Canonical.ksbFwRefused {st : Nat} (h : s.Canonical) : (s.ksbFwRefused st).2.Canonical := snd h.ksbLoadEnd.raise

theorem State.Canonical.execFwBegin {slot : Nat} {busy extra : Bool} (h : s.Canonical) : Outcome.Canonical (execFwBegin slot busy extra s) :=
  h.ksbFrame (fun h1 => by
    dsimp only
    split
    · exact snd h1
    · exact ite_snd (snd h1) (snd h1.withFw))

theorem State.Canonical.execFwData {chunk : Nat} {bytes : List Nat} {sigOk flashErr busy extra : Bool} (h : s.Canonical) : Outcome.Canonical (execFwData chunk bytes sigOk flashErr busy extra s) :=
  h.ksbFrame (fun h1 => by
    dsimp only
    split
    · exact snd h1
    · exact ite_snd (snd h1) (ite_snd (snd h1.ksbLoadEnd) (ite_snd (ite_snd (snd h1.withFw) h1.ksbFwRefused) (ite_snd (ite_snd h1.ksbFwRefused (ite_snd (snd h1.fwStart.ksbLoadEnd) (snd h1.fwStart))) (ite_snd (snd h1.ksbLoadEnd) (snd h1.withFw))))))

theorem State.Canonical.execFwEnd {flashErr busy extra : Bool} (h : s.Canonical) : Outcome.Canonical (execFwEnd flashErr busy extra s) :=
  h.ksbFrame (fun h1 => by
    dsimp only
    split
    · exact snd h1
    · exact ite_snd (snd h1) (ite_snd (snd h1.ksbLoadEnd) (ite_snd (snd h1.ksbLoadEnd) (snd (ite h1.ksbLoadEnd.fwFinish.raise h1.ksbLoadEnd.fwFinish)))))

theorem State.Canonical.execStatus {edges : Nat} {crcOk busy : Bool} (h : s.Canonical) : Outcome.Canonical (execStatus edges crcOk busy s) :=
  ite h (ite h.withRdata.emit.ksbCut.ksbRegs (ite h.withRdata.emit.ksbCrcBad.ksbRegs h.withRdata.emit.withKsb.cnt.ksbRegs))

end

end Sys2Proof.Machine
end

section
/-!
SUPPORT. The canonical form of memory is kept by the MMA instruction.
-/

namespace Sys2Proof.Machine

section
variable {s : State}

theorem State.Canonical.katYield {c : Nat} {arrays : List Nat} (h : s.Canonical) : (s.katYield c arrays).Canonical := ite h.wr.cnt h

theorem State.Canonical.countFolds {c folds passes : Nat} (h : s.Canonical) : (s.countFolds c folds passes).Canonical :=
  ite h (ite h.cnt h.cnt.setCore.raiseCore)

theorem State.Canonical.execMma {i : Upto MForm} (h : s.Canonical) : Outcome.Canonical (execMma i s) :=
  h.issueLong (fun h1 => .after (.after (.ok h1.catchUp.mmaFinish.mmaBankUpsets.katYield.mmaWork.countFolds.feedersFill.wr.katShow)))

end

end Sys2Proof.Machine
end

section
/-!
SUPPORT. The canonical form of memory is kept by the norm watch unit.
-/

namespace Sys2Proof.Machine

section
variable {s : State}

theorem State.Canonical.execNwclose {x : RForm} (h : s.Canonical) : Outcome.Canonical (execNwclose x s) :=
  h.issueUnit (fun h1 => .after (.after (.bind h1.ldN fun h2 => .bind h2.stN fun h3 => .ite (.ok (ite h3.setCore.tally h3.setCore.tally.wr).wr.cnt) (.ok h3.setCore.tally))))

end

end Sys2Proof.Machine
end

section
/-!
SUPPORT. The canonical form of memory is kept by the SYS, SALU and BR classes.
-/

namespace Sys2Proof.Machine

section
variable {s : State}

theorem State.Canonical.aluR {x : RForm} {f : Nat → Nat → Nat} (h : s.Canonical) : (s.aluR x f).Canonical :=
  h.issueR (fun h1 => .after (.ok h1.setCore))

theorem State.Canonical.aluI {x : IForm} {f : Nat → Nat → Nat} (h : s.Canonical) : (s.aluI x f).Canonical :=
  h.issueI (fun h1 => .after (.ok h1.setCore))

theorem State.Canonical.branch {x : IForm} {taken : Nat → Nat → Bool} (h : s.Canonical) : (s.branch x taken).Canonical :=
  h.issue (fun h1 => .after (.ok (fst h1)))

end

end Sys2Proof.Machine
end

section
/-!
SUPPORT. The canonical form of memory is kept by every command: its effect by name where it has a lemma of its own, and otherwise by the operations that it consists of.
-/

namespace Sys2Proof.Machine

section
variable {s : State}

theorem State.Canonical.exec {i : Instr} (h : s.Canonical) : Outcome.Canonical (exec i s) := by
  cases i with
  | registerWrite => exact ite h (ite (ite h (ite h.msixWrite.msixWrite h.msixWrite)) (ite h.writePage h))
  | ctrlResetReq => exact ite h.ctrlReset h
  | ctrlEnableSet => exact ite h.enableSet h
  | ctrlEnableClear => exact ite h.enableClear h
  | ctrlQuiesce => exact ite h h.quiesceWrite
  | ctrlSelftestAllow => exact ite h h.selftestWrite
  | quiesceDone => exact h.quiesceDone
  | errStatusClear => exact ite h.errClear h
  | errInject => exact ite h.errInject h
  | cntClear => exact ite h.wrB h
  | cntReadLow => exact ite h.read32.withRdata h.withRdata
  | cfgDigestUpdate => exact h.digestUpdate
  | tbcCorrect => exact h.withTbcCopies
  | rxClockStop => exact (ite h.cnt h).linkLost
  | nop => exact h.issueR (fun h1 => .after (.ok h1))
  | halt => exact h.issueR (fun h1 => .after (.ok h1.setCore))
  | brk => exact h.issueR (fun h1 => .after .error)
  | fence => exact h.issue (fun h1 => .after (.after (.ite (.ok (fst h1)) (.ok (fst h1.setCore)))))
  | csrr => exact h.issueI (fun h1 => .after (.after (.ok h1.setCore)))
  | add => exact h.aluR
  | sub => exact h.aluR
  | mul => exact h.aluR
  | and => exact h.aluR
  | or => exact h.aluR
  | xor => exact h.aluR
  | shl => exact h.aluR
  | shr => exact h.aluR
  | sra => exact h.aluR
  | min => exact h.aluR
  | max => exact h.aluR
  | minu => exact h.aluR
  | maxu => exact h.aluR
  | addi => exact h.aluI
  | subi => exact h.aluI
  | muli => exact h.aluI
  | andi => exact h.aluI
  | ori => exact h.aluI
  | xori => exact h.aluI
  | shli => exact h.aluI
  | shri => exact h.aluI
  | srai => exact h.aluI
  | mini => exact h.aluI
  | maxi => exact h.aluI
  | minui => exact h.aluI
  | maxui => exact h.aluI
  | li => exact h.aluI
  | lui => exact h.issueI (fun h1 => .after (.ok h1.setCore))
  | beq => exact h.branch
  | bne => exact h.branch
  | blt => exact h.branch
  | bge => exact h.branch
  | bltu => exact h.branch
  | bgeu => exact h.branch
  | jmp => exact h.branch
  | tld => exact h.execTld
  | tst => exact h.issueUnit (fun h1 => .after (.after (.after (.after h1.stN))))
  | tofs => exact h.issueR (fun h1 => .after (.after (.after (.after (.ok h1.setCore)))))
  | tdim => exact h.execTdim
  | mma => exact h.execMma
  | mmaDone => exact ite h h.mmaFinish
  | aclr => exact h.issueUnit (fun h1 => .after (.ok h1.waitBanks.setCore))
  | amerge => exact h.execAmerge
  | arow => exact h.execArow
  | ast => exact h.execAst
  | astDone => exact ite h h.astFinish
  | aloss => exact h.issueUnit (fun h1 => .after (.after (.ok h1.waitBanks.bankUpsets.setCore)))
  | vaddF => exact h.vecF2
  | vsubF => exact h.vecF2
  | vmulF => exact h.vecF2
  | vfmaF => exact h.vecF3
  | vmaxF => exact h.vecF2
  | vminF => exact h.vecF2
  | vabsF => exact h.vecSign
  | vnegF => exact h.vecSign
  | vdivF => exact h.vecF2
  | vsqrtF => exact h.vecF1
  | vrsqF => exact h.vecF1
  | vaddI => exact h.vecI
  | vsubI => exact h.vecI
  | vmulI => exact h.vecI
  | vand => exact h.vecI
  | vor => exact h.vecI
  | vxor => exact h.vecI
  | vshl => exact h.vecI
  | vshr => exact h.vecI
  | vsra => exact h.vecI
  | vcmpeqF => exact h.vecCmpF
  | vcmpltF => exact h.vecCmpF
  | vcmpleF => exact h.vecCmpF
  | vcmpeqI => exact h.vecCmp
  | vcmpltI => exact h.vecCmp
  | vsel => exact h.issueR (fun h1 => .after (.after (.ok h1.setCore)))
  | vredsumF => exact h.vecRed
  | vredmaxF => exact h.vecRed
  | vredsumI => exact h.vecRed
  | vbcast => exact h.vec
  | vcvt => exact h.issueI (fun h1 => .after (.after (.after (.ite (.after (.ok h1.setCore.tally)) (.ok h1.setCore.tally)))))
  | vupd => exact h.issueR (fun h1 => .after (.after (.after (.after (.ok h1.setCore.tally)))))
  | squant => exact h.issueLong (fun h1 => .after h1.catchUp.squantFinish.setCore.squantWork)
  | squantDone => exact ite h h.squantFinish
  | rngld => exact h.execRngld
  | rngst => exact h.issueUnit (fun h1 => .after (.after h1.stN))
  | rngdraw => exact h.issueR (fun h1 => .after (.after (.ok h1.setCore)))
  | nwadd => exact h.issueR (fun h1 => .after (.ok h1.setCore.tally))
  | nwclose => exact h.execNwclose
  | nwclr => exact h.issueR (fun h1 => .after (.ok h1.setCore))
  | sigwait => exact h.issue (fun h1 => .after (.after (.ite (.ok (fst h1)) (.ok (fst h1.setCore.wr)))))
  | sigwaitMet => exact h.execSigwaitMet
  | sigset => exact h.issueR (fun h1 => .after (.after (.ok h1.sigSet)))
  | sigadd => exact h.execSigadd
  | dmaq => exact h.execDmaq
  | dmaqSpace => exact h.execDmaqSpace
  | fenceDone => exact h.execFenceDone
  | sld => exact h.issueUnitI (fun h1 => .after (.after (.bind h1.ldN fun h2 => .ok h2.setCore)))
  | sst => exact h.issueUnitI (fun h1 => .after (.after h1.stN))
  | vld => exact h.execVld
  | vst => exact h.execVst
  | vldr => exact h.issueUnit (fun h1 => .after (.after (.after (.ite (.ok h1) (.bind h1.ldN fun h2 => .ok h2.setCore)))))
  | vstr => exact h.issueUnit (fun h1 => .after (.after h1.stN))
  | kernelEnd => exact h.execKernelEnd
  | ctxSave => exact h.execCtxSave
  | ctxRestore => exact h.execCtxRestore
  | ctxDone => exact h.execCtxDone
  | katReq => exact h.execKatReq
  | katPatternDone => exact ite h (ite (ite h.wr.wr.wr.katOver.testPassed h.wr.wr.setKat) (ite h.wr.setCore.katOver h.setKat))
  | katAbandon => exact ite h h.wr.katOver.setCore.testAbandoned.cnt
  | arrayFence => exact ite h h.katFence
  | bankRequestAged => exact ite h.cnt.cnt h
  | copy => exact h.dmaStart (fun h1 => fst_mid h1.dmaCopy)
  | convert => exact h.execConvert
  | fill => exact h.dmaStart (fun h1 => fst_mid h1.dmaFill)
  | transpose => exact h.dmaStart (fun h1 => fst_mid h1.dmaTranspose)
  | dmaPut => exact h.dmaFlow
  | dmaGet => exact h.dmaFlow
  | dmaComplete => exact h.execDmaComplete
  | stepArm => exact h.execStepArm
  | stepDisarm => exact h.execStepDisarm
  | stepVerdict => exact h.execStepVerdict
  | stepCommit => exact h.execStepCommit
  | snapshot => exact h.execSnapshot
  | snapshotDeferredStart => exact h.execSnapshotDeferredStart
  | snapshotDone => exact h.execSnapshotDone
  | hbmRead => exact h.upsets.memRequest
  | hbmWrite => exact h.upsets.memRequest
  | wcbAgeDrain => exact h.execWcbAgeDrain
  | wcbSpace => exact h.execWcbSpace
  | parityError => exact ite h h.setChan.cnt
  | parityRepeat => exact h.execParityRepeat
  | chRetrainDone => exact ite h (ite (ite h.incSat.setChan h.incSat.setChan.raise).chResume (ite h.incSat.chDegrade h.incSat.chFence))
  | scrubRead => exact h.execScrubRead
  | farRead => exact h.upsets.readLine.withRdata.memDone.upsetsAfter
  | farWrite => exact h.upsets.writeLine.memDone.upsetsAfter
  | farTimeout => exact (ite h.cnt.raiseAt.lose h.cnt.raiseAt.withRdata).memDone
  | farLinkRetrain => exact h.execFarLinkRetrain
  | farDevEvent => exact h.raise
  | xltInval => exact h.execXltInval
  | flipTbcWrite => exact ite h.flipWrite h
  | flipCancel => exact ite h.flipCancel h
  | scheduledFlip => exact h.flipDue
  | alloc => exact h.frameReq
  | free => exact h.frameReq
  | quarantine => exact h.frameReq
  | frameReqDone => exact h.execFrameReqDone
  | frameCntRead => exact ite h.withRdata (ite (ite h.withRdata.withHbm h.withRdata) (ite (ite h.withRdata.withHbm h.withRdata) h))
  | memTestAbandon => exact ite h h.setChan.testAbandoned.cnt
  | tgGo => exact h.execTgGo
  | tgStop => exact h.execTgStop
  | tgDone => exact h.execTgDone
  | memMarginGo => exact h.execMemMarginGo
  | memMarginDone => exact ite h h.wr.wr.wr.wr.wr
  | portTrain => exact (ite h.trainBegin (ite h.trainBegin h)).trainOn
  | laneLockTimeout => exact ite h.wr h
  | trainTimeout => exact ite h.trainFail h
  | backoffExpire => exact ite h.trainBegin h
  | char => exact h.execChar
  | charSend => exact ite h.sendChar h
  | charStale => exact ite h.wr.event h
  | miscabledReject => exact ite h.reject h
  | peerExpectWrite => exact h.execPeerExpectWrite
  | hello => exact h.handshake (fun h1 => h1.setPort.sendHandshake.sendHandshake)
  | response => exact h.handshake (fun h1 => h1.sendHandshake)
  | cert => exact h.handshake (fun h1 => h1.setPort.sendHandshake)
  | proof => exact h.handshake (fun h1 => h1.sendHandshake)
  | finished => exact h.handshake (fun h1 => ite h1.authFail h1.reachUp)
  | dataFlit => exact h.execDataFlit
  | idleFlit => exact ite h h.rxAccept
  | reject => exact h.rxControl (fun h1 => h1.cnt.wr)
  | rekey => exact h.rxControl (fun h1 => ite h1.reject h1.setPort.wr.sendControl)
  | rekeyAck => exact h.rxControl (fun h1 => ite h1.setPort.wr.cnt h1)
  | retrainReq => exact h.rxControl (fun h1 => ite h1.trainBegin h1.reject)
  | replayTimeout => exact ite h.replay h
  | laneLockLoss => exact ite h (ite h.setPort.wr.wr.laneRetire h.setPort.wr.wr).linkLost
  | laneCorrCheck => exact ite h.setPort.wr.wr.laneRetire.setPort h.setPort.wr.wr
  | keyCtrlRekey => exact h.keyRoll
  | keyLifeExpire => exact ite h.keyRoll h
  | keyFlitLimit => exact ite h.keyRoll h
  | rekeyAckTimeout => exact ite h (ite h.setPort.sendRekey h.raise.linkDown)
  | graceExpire => exact ite h h.setPort.wr
  | creditStarve => exact ite h.setPort.raise h
  | vc0StarveDown => exact ite h.linkDown h
  | hostileWindowEnd => exact h.wr
  | quarRelease => exact h.execQuarRelease
  | laneMarginGo => exact h.execLaneMarginGo
  | scanAbandon => exact ite h.scanEnd.testAbandoned.cnt h
  | laneMarginDone => exact ite h h.scanEnd.wr.wr.testPassed
  | laserSample => exact h.execLaserSample
  | laserDaily => exact ite h h.setLaser.logEvent
  | laserBaselineSet => exact ite h h.setLaser.withLog.logStateRec
  | put => exact h.takeFrame (fun h1 => h1.upsets.windowWrite.frameSig)
  | getReq => exact h.execGetReq
  | getResp => exact h.execGetResp
  | atomicAdd => exact h.execAtomicAdd
  | signal => exact h.execSignal
  | ack => exact h.takeBare (fun h1 => (ite h1.ackTo.setFlow h1.ackTo).flowPump)
  | nak => exact h.execNak
  | time => exact h.execTime
  | ackTimer => exact ite h.sendAck h
  | flowRto => exact ite h (ite h.setFlow.flowResend.flowFail h.setFlow.flowResend)
  | flowOpen => exact h.execFlowOpen
  | flowClose => exact h.execFlowClose
  | flowReset => exact h.execFlowReset
  | flowRead => exact h.execFlowRead
  | patchWrite => exact h.execPatchWrite
  | maddrWrite => exact h.execMaddrWrite
  | daymarkRecompute => exact ite h.daymarkCompute h
  | agreeBoundary => exact h.agreeBoundary
  | dmApprove => exact h.execDmApprove
  | dmApproveDone => exact h.execDmApproveDone
  | epochWrite => exact h.execEpochWrite
  | collLaunch => exact h.collLaunch
  | collQueueSpace => exact ite h.collLaunch h
  | collOpStart => exact h.execCollOpStart
  | collHeaderRx => exact h.execCollHeaderRx
  | collDataRx => exact h.execCollDataRx
  | collOpDone => exact h.execCollOpDone
  | collAbortRx => exact h.takeGroup (fun h1 => .ite (.some h1.cnt) (.ite (.some h1.cnt.setCommq) (.some h1.cnt.setCommq)))
  | verdictFrameRx => exact h.execVerdictFrameRx
  | colCqReset => exact h.execColCqReset
  | collQuadsApply => exact h.execCollQuadsApply
  | cqDoorbell => exact h.execCqDoorbell
  | cmdFetch => exact h.execCmdFetch
  | kernelLaunch => exact h.execKernelLaunch
  | dma => exact h.execDma
  | signalWait => exact h.execSignalWait
  | signalWaitMet => exact h.execSignalWaitMet
  | signalSet => exact h.cmdStart (fun h1 => .ite (.some (fst h1.sigAdd)) (.some (fst h1.sigSet)))
  | powerHint => exact h.cmdStart (fun h1 => .ite (.some (fst h1)) (.some (fst h1.withPwr)))
  | fenceCmd => exact h.execFenceCmd
  | fenceCmdDone => exact h.execFenceCmdDone
  | quiesce => exact h.execQuiesce
  | quiesceResume => exact h.execQuiesceResume
  | cmdComplete => exact h.execCmdComplete
  | funcStop => exact ite h.stopFn h
  | funcCtrlEn => exact h.execFuncCtrlEn
  | resGo => exact h.execResGo
  | bar4Access => exact h.execBar4Access
  | queCqReset => exact h.execQueCqReset
  | cqResume => exact h.execCqResume
  | cqEnable => exact h.execCqEnable
  | eqDoorbell => exact h.execEqDoorbell
  | eqEnable => exact h.execEqEnable
  | eqDisable => exact h.execEqDisable
  | mergeWindowEnd => exact h.execMergeWindowEnd
  | msixCoalTimer => exact ite h h.setEq.sendMsix
  | eqWriteFail => exact h.execEqWriteFail
  | flrVf => exact ite h (ite h.withHost.resetReq.ctxReset h.withHost.resetReq)
  | flrPf0 => exact h.withHost.resetReq
  | pcieLinkTrain => exact h.pcieTrain
  | perstAssert => exact ite h (ite h.withHost.resetReq.dumpFail.rstWake h.withHost.resetReq)
  | getVersion => exact ite h h.withHost.doe
  | getCapabilities => exact h.spdmNeed (fun h1 => h1.withHost.doe)
  | negotiateAlgorithms => exact h.spdmNeed (fun h1 => ite h1.withHost.doe h1.doeError)
  | getDigests => exact h.execGetDigests
  | getCertificate => exact h.execGetCertificate
  | challenge => exact h.spdmNeed (fun h1 => ite h1.doeError (ite h1.spdmDefer h1.spdmAnswer))
  | getMeasurements => exact h.spdmNeed (fun h1 => ite h1.doeError (ite h1.spdmDefer h1.spdmAnswer))
  | respondIfReady => exact h.spdmNeed (fun h1 => ite h1.doeError h1.withHost.spdmAnswer)
  | spdmUnsupported => exact ite h.doeError h
  | avsReadback => exact h.execAvsReadback
  | avsFailRetry => exact ite h.setRail.avsSend h
  | avsCurrentRead => exact ite h.withPwr.raise h.withPwr
  | avsTempRead => exact h.withPwr
  | avsAlert => exact ite h.withPwr h
  | domainOn => exact ite h.domRequest h
  | domainOff => exact ite h.domRequest h
  | domainSwitchDone => exact h.execDomainSwitchDone
  | segCheck => exact foldl (fun h1 => h1.segFail) (foldl (fun h1 => h1.domFence) h)
  | icEval => exact h.execIcEval
  | telemRecord => exact h.execTelemRecord
  | energyLog => exact h.logEvent.withPwr
  | envSetWrite => exact ite h.envWrite h
  | envHeldApply => exact h.withPwr
  | capWrite => exact ite h.wr h
  | governorUs => exact ite (foldl (fun h1 => h1.wr) h.envStep).levelsSet.cnt (foldl (fun h1 => h1.wr) h.envStep).levelsSet
  | governorMs => exact h.execGovernorMs
  | freqSchedule => exact ite h.freqWrite h
  | freqCancel => exact ite h.freqWrite h
  | freqVoltageRaise => exact ite h.railWrite.withPwr h
  | freqLevelHold => exact ite h (ite h.freqAbort h.withPwr)
  | freqSwitch => exact ite h (ite h.freqAbort h.freqSwitch)
  | freqVoltageLower => exact ite h.railWrite.withPwr h
  | pllUnlock => exact ite (ite h.freqSwitch h.clockAt.withPwr).raise h.freqAbort
  | hstFreqWrite => exact ite h.hstWrite h
  | hstFreqDone => exact h.execHstFreqDone
  | marginSample => exact h.withPwr.trimTry
  | trimApply => exact ite h.trimTry (ite h.withPwr.wr.raise.railWrite h.withPwr.wr.raise).wr
  | thermThrottleStep => exact ite h.wr (ite h.thermSet.raise h.thermSet)
  | thermRecoverStep => exact ite h.wr h.thermSet
  | stackTemp => exact ite h.withPwr (ite h.withPwr h)
  | thermalTrip => exact (ite h.wr.wr h.wr.wr.withPwr.emit).halt.raise
  | quenchAssert => exact ite h h.withPwr.wr.raise
  | quenchRelease => exact h.withPwr.wr
  | airflowHalt => exact ite h h.withPwr.wr.halt.raise
  | thermRestart => exact ite h.thermRestart h
  | heartbeatTick => exact ite h.wr.logThrottle.logRegs h
  | keeperWatchdogExpire => exact ite h.withRecov.withFw.wr.wr.cnt.raise.powerCycleNote.powerCyclePin h.withRecov.withFw.wr.wr.cnt.raise
  | rstCtx => exact ite h.resetReq h
  | rstEng => exact h.execRstEng
  | rstPart => exact ite h.resetReq h
  | rstChip => exact h.resetReq
  | resetDone => exact h.resetDone
  | resetBoundExpire => exact h.execResetBoundExpire
  | dumpGo => exact h.execDumpGo
  | dumpMaxMs => exact h.execDumpMaxMs
  | dumpDone => exact h.execDumpDone
  | testReschedule => exact h.execTestReschedule
  | testResume => exact ite h.testsResume h
  | logRecordWrite => exact h.logWriteNext
  | stateRecordRetry => exact ite h (ite h.logRetry h.logRetry.raise)
  | ckptStart => exact ite h h.withLog.logRegs
  | sectorErase => exact h.execSectorErase
  | incidentClose => exact h.incidentEnd
  | generate => exact h.execGenerate
  | install => exact h.execInstall
  | keyAbort => exact h.execKeyAbort
  | logRead => exact h.execLogRead
  | stage => exact h.execStage
  | stageDone => exact h.execStageDone
  | activate => exact h.execActivate
  | confirm => exact h.execConfirm
  | confirmTimeout => exact ite h h.raise.withFw.wr
  | commitSvn => exact h.execCommitSvn
  | fwuAbort => exact h.execFwuAbort
  | exitFog => exact h.execExitFog
  | keeperStart => exact h.execKeeperStart
  | status => exact h.execStatus
  | regRead => exact h.execRegRead
  | regWrite => exact h.ksbFrame (fun h1 => ite_snd (snd h1) (snd h1.writePage))
  | setEnvelope => exact h.ksbFrame (fun h1 => ite_snd (snd h1) (snd h1.wr.wr.envChange))
  | restart => exact h.ksbFrame (fun h1 => snd h1.thermRestart)
  | stop => exact h.ksbFrame (fun h1 => h1.ksbGuarded (fun h2 => ite h2 (foldl (fun h3 => h3.stopFn) h2)))
  | resetChip => exact h.ksbFrame (fun h1 => h1.ksbGuarded (fun h2 => h2.resetReq))
  | enterFog => exact h.ksbFrame (fun h1 => h1.ksbGuarded (fun h2 => h2.withFw.resetReq))
  | fogExit => exact h.ksbFrame (fun h1 => snd (ite h1.leaveFog h1))
  | laserReport => exact h.ksbFrame (fun h1 => snd h1.setLaser)
  | standbyAddr => exact h.execStandbyAddr
  | logSeek => exact h.ksbFrame (fun h1 => ite_snd (snd h1) (snd h1.withKsb))
  | logNext => exact h.ksbFrame (fun h1 => ite_snd (snd h1.ksbData) (ite_snd (snd h1.ksbData) (snd h1.ksbData.withKsb)))
  | telem => exact h.ksbFrame (fun h1 => ite_snd (snd h1.ksbData) (ite_snd (snd h1.ksbData) (snd h1.ksbData)))
  | fwBegin => exact h.execFwBegin
  | fwData => exact h.execFwData
  | fwEnd => exact h.execFwEnd
  | ksbMalformedFrame => exact h.execKsbMalformedFrame
  | ksbStall => exact ite h (ite h.ksbCut.ksbRegs h.ksbCut.ksbJudged)
  | peek => exact ite h.peek h.withRdata
  | traceMark => exact ite h.trace h
  | traceDisable => exact ite h.traceOff h
  | twDigest => exact h.execTwDigest
  | powerOnBoot => exact ite (ite h.boot1 h.boot1.boot5) (ite h.boot5 h)
  | bootStall => exact ite h h.bootStop.raise
  | aonResetAssert => exact h.execAonResetAssert
  | powerLoss => exact h.keyCut.flashCut.aonCut
  | airflowFailNHigh => exact ite h.upd.wr.boot8 h.upd.wr
  | farLinkDown => exact ite h.wr.withHbm.farDegraded h
  | chcAccess => exact h.execChcAccess
  | xltInvalDone => exact h.execXltInvalDone
  | colCqResetDone => exact h.execColCqResetDone
  | logReadDone => exact h.execLogReadDone
  | keyCmdDone => exact h.execKeyCmdDone

end

end Sys2Proof.Machine
end

section
/-!
SUPPORT. The canonical form of memory is kept by an idle nanosecond, and so by every step.
-/

namespace Sys2Proof.Machine

section
variable {s : State}

theorem State.Canonical.coreTick {c : Nat} (h : s.Canonical) : (s.coreTick c).Canonical := by
  unfold State.coreTick
  refine ite h ?_
  split
  · exact ite h (State.Canonical.takeExc (ite h.fetched.raiseCore h.fetched))
  · extract_lets w
    refine ite h.cnt ?_
    split
    · exact ite h.fetched.retire h.fetched.takeExc
    · next i _ =>
      have hi : Outcome.Canonical (Machine.exec i s) := h.exec
      split
      · next e =>
        rw [e] at hi
        exact hi
      · exact h
      · exact h

theorem State.Canonical.portTick {p : Nat} (h : s.Canonical) : (s.portTick p).Canonical :=
  ite h (ite (ite h.pump.cnt h.pump).cnt (ite h.pump.cnt h.pump))

theorem State.Canonical.idle (h : s.Canonical) : (s.idle).Canonical := by
  unfold State.idle
  extract_lets t u v
  have ht : t.Canonical := h.tbcTick
  have hu : u.Canonical := foldl (fun h1 => h1.portTick) ht
  have hv : v.Canonical := foldl (fun h1 => h1.coreTick) hu
  exact ite (foldl (fun h1 => h1.traceFlush) hv) hv

theorem State.Canonical.step (h : s.Canonical) : Outcome.Canonical (Machine.step s) := by
  unfold Machine.step
  split
  · exact h.idle
  · exact h.withPending.exec

end

/-- Settles O59: a command keeps the form (`State.Canonical.exec`), and so does a nanosecond without one. -/
theorem memoryFormKept : Obligations.MemoryFormKept := by
  intro s t h e
  have ht : Outcome.Canonical (step s) := State.Canonical.step h
  rw [e] at ht
  exact ht

end Sys2Proof.Machine
end

section
/-!
SUPPORT. What an access of a cluster host core comes to: a gated clock, an address below 0x80000, and an access outside the L2.
-/

namespace Sys2Proof.Machine

/-- A cluster host core that is in service executes. -/
def State.chcRuns (s : State) (n : Nat) : Prop :=
  n < 64 ∧ s.pageOn (pChc n) = true ∧ s.enabled (pChc n) = true ∧ s.fencedP (pChc n) = false ∧ s.halted = false

section
variable {s u : State} {n a len err : Nat} {bs : List (Nat × Bool)} {w : List Nat}

/-- In a halt CLK_HST is gated (R467). -/
theorem chcAccess_halted (op : ChcOp) (h : s.halted = true) : exec (.chcAccess n op err) s = .next s :=
  congrArg Host.Outcome.next (if_pos (by simp [h]))

theorem chcAccess_load (h : s.chcRuns n) (hl : a % 64 + len ≤ 64) : exec (.chcAccess n (.load a len) err) s = .next (s.chcLoad n a len err false) := by
  obtain ⟨hn, hp, he, hf, hh⟩ := h
  have runs : ¬(n ≥ 64 ∨ s.pageOn (pChc n) = false ∨ s.enabled (pChc n) = false ∨ s.fencedP (pChc n) = true ∨ s.halted = true) := by simp [hn, hp, he, hf, hh]
  exact congrArg Host.Outcome.next ((if_neg runs).trans (if_pos hl))

theorem chcAccess_store (h : s.chcRuns n) (hl : a % 64 + w.length ≤ 64) : exec (.chcAccess n (.store a w) err) s = .next (s.chcStore n a err w) := by
  obtain ⟨hn, hp, he, hf, hh⟩ := h
  have runs : ¬(n ≥ 64 ∨ s.pageOn (pChc n) = false ∨ s.enabled (pChc n) = false ∨ s.fencedP (pChc n) = true ∨ s.halted = true) := by simp [hn, hp, he, hf, hh]
  exact congrArg Host.Outcome.next ((if_neg runs).trans (if_pos hl))

/-- Below 0x80000 lies nothing that a hart may access (R37). -/
theorem chcLoad_low (h : a < 0x80000) : s.chcLoad n a len err false = s.chcEnd 5 [] := if_pos h

theorem chcStore_low (h : a < 0x80000) : s.chcStore n a err w = s.chcEnd 7 [] := if_pos h

/-- A load outside the L2 of bytes none of which is poisoned returns them (R606). -/
theorem chcLoad_outside {pa : Nat} (ha : 0x80000 ≤ a) (hc : s.chcCacheable n a = false) (hm : s.mapAddr (s.viaChc n) a false false = .ok pa)
    (hr : s.ldN (s.viaChc n) a len = .ok (u, bs)) (clean : ∀ b ∈ bs, b.2 = false) :
    s.chcLoad n a len err false = u.chcEnd 0 (bs.map (fun b => b.1)) := by
  have sound : bs.any (fun b => b.2) = false := by simpa [List.any_eq_false] using clean
  unfold State.chcLoad
  simp only [if_neg (Nat.not_lt.mpr ha), hc, hm, hr, sound, Bool.false_eq_true, ite_false]

/-- A store outside the L2 writes its bytes (R606). -/
theorem chcStore_outside (ha : 0x80000 ≤ a) (hc : s.chcCacheable n a = false) (hw : s.stN (s.viaChc n) a (w.map some) = .ok u) :
    s.chcStore n a err w = u.chcEnd 0 [] := by
  unfold State.chcStore
  simp only [if_neg (Nat.not_lt.mpr ha), hc, hw, Bool.false_eq_true, ite_false]

end

/-- Settles O23: in a halt the access does nothing (`chcAccess_halted`); otherwise it is the load or the store, by the address. -/
theorem hostCoreAccess : Obligations.HostCoreAccess := by
  intro s u n a len err bs w hn hp he hf hl hw
  refine ⟨fun h op => chcAccess_halted op h, fun h low => ?_, fun h high outside => ?_⟩ <;> have runs : s.chcRuns n := ⟨hn, hp, he, hf, h⟩
  · rw [chcAccess_load runs hl, chcAccess_store runs hw, chcLoad_low low, chcStore_low low]
    exact ⟨rfl, rfl⟩
  · rw [chcAccess_load runs hl, chcAccess_store runs hw]
    exact ⟨fun pa hm hr clean => by rw [chcLoad_outside high outside hm hr clean], fun hs => by rw [chcStore_outside high outside hs]⟩

end Sys2Proof.Machine
end

section
/-!
SUPPORT. The view of a state that reporting leaves alone: events, error sources, incidents, the queues of the Keeper's log and the causes of dumps
change nothing but themselves.
-/

namespace Sys2Proof.Machine

/-! ### The view -/

/-- The fields that reporting writes: counters, ERR_STATUS, and what the event queues, the dumps and the log show of themselves. -/
def reportIds : List Nat :=
  [R.HDR_ERR_STATUS_ERR.id, R.EVT_EQ_DROP_COUNTS.id, R.EVT_EQ_STATUS_PENDING.id, R.EVT_EQ_STATUS_PHASE.id, R.EVT_EQ_PROD_COUNT.id,
    R.HIF_DUMP_STATUS_BUSY.id, R.HIF_DUMP_STATUS_STATUS.id, R.HIF_DUMP_MISSED_COUNT.id, R.LOG_INCIDENT_OPEN.id, R.LOG_INCIDENT_NUMBER.id,
    R.LOG_LOG_STATUS_INC_OPEN.id, R.LOG_LOG_STATUS_STATE_QUEUED.id, (cntCount 0).id, (cntCount 1).id, (cntCount 2).id, (cntCount 3).id]

/-- What reporting leaves of a state: the components but for the queues of records, the other fields, and memory below the host's. -/
structure Still where
  rest : State
  regs : Fld → Nat → Nat
  bytes : Nat → Byte

/-- The view of a state. -/
def State.still (s : State) : Still where
  rest := { s with
    regs := [], mem := [], out := []
    recov := { s.recov with dumps := [], escRecs := [] }
    host := { s.host with evtq := [], pba := [] }
    log := { s.log with stateQ := [], eventQ := [], retryQ := [], lost := [], incident := Incident.none } }
  regs f i := if reportIds.contains f.id then 0 else s.rg f i
  bytes a := if a < Spc 4 then s.rb a else 0

section
variable {s t : State}

theorem still_rg (h : t.still = s.still) (f : Fld) (i : Nat) (hf : f.id ∉ reportIds) : t.rg f i = s.rg f i := by
  simpa [State.still, hf] using congrFun (congrFun (congrArg Still.regs h) f) i

theorem still_flag (h : t.still = s.still) (f : Fld) (i : Nat) (hf : f.id ∉ reportIds) : t.flag f i = s.flag f i := by
  simp only [State.flag, still_rg h f i hf]

theorem still_rb (h : t.still = s.still) {a : Nat} (ha : a < Spc 4) : t.rb a = s.rb a := by
  simpa [State.still, ha] using congrFun (congrArg Still.bytes h) a

theorem still_cores (h : t.still = s.still) : t.cores = s.cores := congrArg (State.cores ∘ Still.rest) h
theorem still_sig (h : t.still = s.still) : t.sig = s.sig := congrArg (State.sig ∘ Still.rest) h
theorem still_net (h : t.still = s.still) : t.net = s.net := congrArg (State.net ∘ Still.rest) h
theorem still_pwr (h : t.still = s.still) : t.pwr = s.pwr := congrArg (State.pwr ∘ Still.rest) h
theorem still_boot (h : t.still = s.still) : t.boot = s.boot := congrArg (State.boot ∘ Still.rest) h
theorem still_tbc (h : t.still = s.still) : t.tbc = s.tbc := congrArg (State.tbc ∘ Still.rest) h
theorem still_xlt (h : t.still = s.still) : t.xlt = s.xlt := congrArg (State.xlt ∘ Still.rest) h
theorem still_hbm (h : t.still = s.still) : t.hbm = s.hbm := congrArg (State.hbm ∘ Still.rest) h
theorem still_image (h : t.still = s.still) : t.log.image = s.log.image := congrArg (LogSt.image ∘ State.log ∘ Still.rest) h

theorem still_port (h : t.still = s.still) (p : Nat) : t.port p = s.port p := by simp only [State.port, still_net h]

/-- What the cores hold is as before. -/
theorem apart_of_still (h : t.still = s.still) : s.apart t := ⟨still_cores h, still_sig h, fun _ => still_rb h⟩

/-- The view is kept in both branches. -/
@[simp ↓] theorem still_ite (p : Prop) [Decidable p] (a b : State) : (if p then a else b).still = if p then a.still else b.still :=
  apply_ite _ _ _ _

@[simp ↓] theorem still_ite_fst {α : Type} (p : Prop) [Decidable p] (a b : State × α) :
    (if p then a else b).1.still = if p then a.1.still else b.1.still := apply_ite (fun x : State × α => x.1.still) _ _ _

/-- An operation on each element of a list keeps the view when it keeps it for one. -/
theorem still_foldl {α : Type} (f : State → α → State) (h : ∀ s x, (f s x).still = s.still) (xs : List α) (s : State) :
    (xs.foldl f s).still = s.still := by
  induction xs generalizing s with
  | nil => rfl
  | cons x xs ih => exact (ih _).trans (h s x)

end

/-! ### Single components -/

section
variable (s : State)

@[simp ↓] theorem still_wr (f : Fld) (i v : Nat) (h : f.id ∈ reportIds) : (s.wr f i v).still = s.still := by
  have cell : ∀ g j, (if reportIds.contains g.id then 0 else (s.wr f i v).rg g j) = if reportIds.contains g.id then 0 else s.rg g j := by
    intro g j
    split
    · rfl
    · next hg =>
      refine (State.rg_wr ..).trans (if_neg ?_)
      rintro ⟨hid, rfl⟩
      simp [hid, h] at hg
  simp only [State.still, cell]
  rfl

@[simp ↓] theorem still_wrB (f : Fld) (i : Nat) (b : Bool) (h : f.id ∈ reportIds) : (s.wrB f i b).still = s.still := still_wr _ _ _ _ h
@[simp ↓] theorem still_incSat (f : Fld) (i k : Nat) (h : f.id ∈ reportIds) : (s.incSat f i k).still = s.still := still_wr _ _ _ _ h

theorem still_cnt1 (p code k : Nat) {m : Nat} (hm : m < 4) : (s.cnt1 p code k m).still = s.still := by
  unfold State.cnt1
  split
  · exact still_wr _ _ _ _ (by interval_cases m <;> decide)
  · rfl

@[simp ↓] theorem still_cnt (p code k : Nat) : (s.cnt p code k).still = s.still := by
  simp [State.cnt, still_cnt1]

@[simp ↓] theorem still_setEq (q : Nat) (x : EvQ) : (s.setEq q x).still = s.still := (rfl)
@[simp ↓] theorem still_emit (x : OutMsg) : (s.emit x).still = s.still := (rfl)
@[simp ↓] theorem still_pba (x : PMap Bool) : ({ s with host := { s.host with pba := x } } : State).still = s.still := (rfl)
@[simp ↓] theorem still_dumps (x : NMap Dump) : ({ s with recov := { s.recov with dumps := x } } : State).still = s.still := (rfl)
@[simp ↓] theorem still_escRecs (x : NMap Nat) : ({ s with recov := { s.recov with escRecs := x } } : State).still = s.still := (rfl)
@[simp ↓] theorem still_lost (x : NMap Nat) : ({ s with log := { s.log with lost := x } } : State).still = s.still := (rfl)
@[simp ↓] theorem still_eventQ (x : List LogRec) : ({ s with log := { s.log with eventQ := x } } : State).still = s.still := (rfl)
@[simp ↓] theorem still_stateQ (x : List LogRec) : ({ s with log := { s.log with stateQ := x } } : State).still = s.still := (rfl)
@[simp ↓] theorem still_retryQ (x : List LogRec) : ({ s with log := { s.log with retryQ := x } } : State).still = s.still := (rfl)
@[simp ↓] theorem still_incident (x : Incident) : ({ s with log := { s.log with incident := x } } : State).still = s.still := (rfl)
@[simp ↓] theorem still_incidentMap (f : Incident → Incident) : (s.incidentMap f).still = s.still := (rfl)

/-- A write of bytes changes memory alone. -/
theorem wbs_onlyMem (bs : List Nat) : ∀ (s : State) (a : Nat), ∃ m, s.wbs a bs = { s with mem := m } := by
  induction bs with
  | nil => exact fun s _ => ⟨s.mem, rfl⟩
  | cons b bs ih =>
    intro s a
    obtain ⟨m, h⟩ := ih (s.wb a (BitVec.ofNat 8 b)) (a + 1)
    exact ⟨m, h⟩

/-- Bytes written in host memory are not in the view. -/
@[simp ↓] theorem still_wbs_host (o : Nat) (bs : List Nat) : (s.wbs (aHost o) bs).still = s.still := by
  have byte : ∀ b, (if b < Spc 4 then (s.wbs (aHost o) bs).rb b else 0) = if b < Spc 4 then s.rb b else 0 := by
    intro b
    split
    · next hb => exact State.rb_wbs_out s _ b bs (Or.inl (lt_of_lt_of_le hb (by simp [aHost])))
    · rfl
  obtain ⟨m, hm⟩ := wbs_onlyMem bs s (aHost o)
  simp only [State.still, byte, State.rg_wbs]
  rw [hm]

@[simp ↓] theorem still_wle_host (o k v : Nat) : (s.wle (aHost o) k v).still = s.still := still_wbs_host ..

/-! ### Event records (R425–R432) -/

@[simp ↓] theorem still_sendMsix (q : Nat) : (s.sendMsix q).still = s.still := by
  simp [State.sendMsix]

@[simp ↓] theorem still_signalWritten (q cls : Nat) : (s.signalWritten q cls).still = s.still := by
  simp [State.signalWritten]

@[simp ↓] theorem still_evWrite (q : Nat) (r : EvRec) : (s.evWrite q r).still = s.still := by
  simp (disch := decide) [State.evWrite]

@[simp ↓] theorem still_dropCount (q cls : Nat) : (s.dropCount q cls).still = s.still := by
  simp (disch := decide) [State.dropCount]

@[simp ↓] theorem still_evLost (q : Nat) : (s.evLost q).1.still = s.still := by
  simp (disch := decide) [State.evLost]

@[simp ↓] theorem still_evPlace (q : Nat) (r : EvRec) : (s.evPlace q r).1.still = s.still := by
  have start : (if (s.eq q).pend = [] then s.evLost q else (s, [])).1.still = s.still := by simp
  unfold State.evPlace
  rw [← start]
  generalize (if (s.eq q).pend = [] then s.evLost q else (s, [])) = u
  simp (disch := decide)

@[simp ↓] theorem still_evArrive (q : Nat) (r : EvRec) : (s.evArrive q r).1.still = s.still := by
  unfold State.evArrive
  dsimp only
  split
  · simp
  · split <;> simp

@[simp ↓] theorem still_evRedirect (p : Nat) : (s.evRedirect p).still = s.still := by
  unfold State.evRedirect
  split <;> rfl

@[simp ↓] theorem still_evDeliver (q : Option Nat) (r : EvRec) : (s.evDeliver q r).1.still = s.still := by
  cases q <;> simp [State.evDeliver]

/-! ### The Keeper's log and dumps (R484–R490, R508, R518) -/

@[simp ↓] theorem still_logDrop (typ : Nat) : (s.logDrop typ).still = s.still := by
  simp [State.logDrop]

@[simp ↓] theorem still_logEvent (typ cls : Nat) (bs : List Nat) : (s.logEvent typ cls bs).still = s.still := by
  simp [State.logEvent]

@[simp ↓] theorem still_logIncident (typ cls : Nat) (bs : List Nat) : (s.logIncident typ cls bs).still = s.still := by
  simp [State.logIncident]

@[simp ↓] theorem still_logState (typ : Nat) (bs : List Nat) : (s.logState typ bs).1.still = s.still := by
  simp (disch := decide) [State.logState]

@[simp ↓] theorem still_incidentOpen (typ src cls : Nat) : (s.incidentOpen typ src cls).still = s.still := by
  simp (disch := decide) [State.incidentOpen]

@[simp ↓] theorem still_incidentCopy (r : EvRec) : (s.incidentCopy r).still = s.still := by
  have opened : (if r.cls ≤ 1 then s.incidentOpen r.typ r.src r.cls else s).still = s.still := by simp
  unfold State.incidentCopy
  rw [← opened]
  generalize (if r.cls ≤ 1 then s.incidentOpen r.typ r.src r.cls else s) = u at opened ⊢
  split
  · exact opened.symm
  · dsimp only
    split
    · rfl
    · split <;> simp

@[simp ↓] theorem still_escalationRecord (fn lvl p st : Nat) : (s.escalationRecord fn lvl p st).still = s.still := by
  unfold State.escalationRecord
  dsimp only
  simp (disch := decide)

@[simp ↓] theorem still_dumpCause (fn kind lvl code src b : Nat) : (s.dumpCause fn kind lvl code src b).still = s.still := by
  unfold State.dumpCause
  dsimp only
  split
  · rfl
  · simp (disch := decide)

@[simp ↓] theorem still_evRaise (p : Nat) (r : EvRec) : (s.evRaise p r).1.still = s.still := by
  simp [State.evRaise]

/-! ### Error sources (R15–R17) -/

@[simp ↓] theorem still_raise1 (p k d : Nat) (inj addr : Bool) (attr : Nat) : (s.raise1 p k d inj addr attr).1.still = s.still := by
  unfold State.raise1
  dsimp only
  split <;> split <;> simp (disch := decide)

@[simp ↓] theorem still_raiseAll (k : Nat) (xs : List Src) : (s.raiseAll k xs).still = s.still := by
  induction k generalizing s xs with
  | zero => cases xs <;> rfl
  | succ k ih =>
    cases xs with
    | nil => rfl
    | cons x xs => simp [raiseAll_cons, ih]

@[simp ↓] theorem still_raiseAt (p k d : Nat) (inj addr : Bool) (attr : Nat) : (s.raiseAt p k d inj addr attr).still = s.still := by
  simp [State.raiseAt]

@[simp ↓] theorem still_raise (p k d : Nat) : (s.raise p k d).still = s.still := still_raiseAt ..

@[simp ↓] theorem still_event (p typ cls v : Nat) (addr : Bool) (attr : Nat) : (s.event p typ cls v addr attr).still = s.still := by
  simp [State.event]

@[simp ↓] theorem still_logStateRec (typ : Nat) (bs : List Nat) : (s.logStateRec typ bs).still = s.still := by
  simp [State.logStateRec]

end

end Sys2Proof.Machine
end

section
/-!
SUPPORT. The view of a state that the services of its units leave alone: the fields by which the Keeper and the power domains are governed, and time.
-/

namespace Sys2Proof.Machine

/-! ### The view -/

/-- Fields that no service of a unit writes: how far the boot has come, the result of a domain request, the routing addresses, and the received
light of a port. -/
def baseIds : List Nat :=
  [R.KPR_BOOT_STATUS_PHASE.id, R.KPR_BOOT_STATUS_STALLED.id, R.KPR_BOOT_STATUS_STATUS.id, R.KPR_BOOT_TBC_TBC.id, R.KPR_KSTATE_STATE.id,
    R.PWR_DOM_RESULT_DONE.id, R.PWR_DOM_RESULT_STATUS.id, R.RTE_MADDR_MADDR.id, R.RTE_MADDR_STANDBY.id, R.RTE_INC_INC.id, R.LNK_OE_PWR_PWR.id]

/-- Which domains are on, and the state of their segments. -/
def segIds : List Nat :=
  R.PWR_DOM_STATUS_ON.id :: (List.range 16).map (fun d => (R.PWR_SEG_STATE_STATE d).id) ++ (List.range 16).map (fun d => (R.PWR_SEG_FAIL_FAILED d).id)

/-- Which clusters and quads are present. -/
def seatIds : List Nat := R.TOP_CLU_PRESENT_PRESENT.id :: (List.range 8).map (fun m => (R.TOP_QUAD_PRESENT_PRESENT m).id)

/-- The fields that a view can show. -/
def mainsIds : List Nat := baseIds ++ segIds ++ seatIds

/-- The cells of a view: on TOP's page the presence fields, with `seats` only; elsewhere `baseIds`, and with `near` `segIds`. -/
def mainsCell (near seats : Bool) (id inst : Nat) : Bool :=
  if inst = pTop then seats && seatIds.contains id else baseIds.contains id || near && segIds.contains id

theorem mem_mainsIds_of_cell {n z : Bool} {id inst : Nat} (h : mainsCell n z id inst = true) : id ∈ mainsIds := by
  unfold mainsCell at h
  unfold mainsIds
  split at h
  · exact List.mem_append_right _ (List.contains_iff_mem.mp (Bool.and_eq_true_iff.mp h).2)
  · refine List.mem_append_left _ ?_
    rcases Bool.or_eq_true_iff.mp h with hb | hs
    · exact List.mem_append_left _ (List.contains_iff_mem.mp hb)
    · exact List.mem_append_right _ (List.contains_iff_mem.mp (Bool.and_eq_true_iff.mp hs).2)

/-- What the services of the units leave to the Keeper, as one value. -/
structure Mains where
  regs : Fld → Nat → Nat
  high : Nat
  pwr : PwrSt
  boot : BootSt
  tbc : Nat
  stepped : Bool

/-- The view of a state: the cells of `mainsCell`, the domains from 16 on that are on, the state of power (with `near` also which domains are being
fenced), the boot, and time. -/
def State.mains (near seats : Bool) (s : State) : Mains where
  regs f i := if mainsCell near seats f.id i then s.rg f i else 0
  high := s.rg R.PWR_DOM_STATUS_ON pPwr % 2 ^ 25 / 2 ^ 16
  pwr := { s.pwr with fencing := if near then s.pwr.fencing else [] }
  boot := s.boot
  tbc := s.tbc
  stepped := s.net.stepped

section
variable {n z : Bool} {s t : State}

theorem mains_rg (h : t.mains n z = s.mains n z) (f : Fld) (i : Nat) (hf : mainsCell n z f.id i = true) : t.rg f i = s.rg f i := by
  simpa [State.mains, hf] using congrFun (congrFun (congrArg Mains.regs h) f) i

theorem mains_flag (h : t.mains n z = s.mains n z) (f : Fld) (i : Nat) (hf : mainsCell n z f.id i = true) : t.flag f i = s.flag f i := by
  simp only [State.flag, mains_rg h f i hf]

theorem mains_high (h : t.mains n z = s.mains n z) : t.rg R.PWR_DOM_STATUS_ON pPwr % 2 ^ 25 / 2 ^ 16
    = s.rg R.PWR_DOM_STATUS_ON pPwr % 2 ^ 25 / 2 ^ 16 := congrArg Mains.high h
theorem mains_boot (h : t.mains n z = s.mains n z) : t.boot = s.boot := congrArg Mains.boot h
theorem mains_tbc (h : t.mains n z = s.mains n z) : t.tbc = s.tbc := congrArg Mains.tbc h
theorem mains_stepped (h : t.mains n z = s.mains n z) : t.net.stepped = s.net.stepped := congrArg Mains.stepped h
theorem mains_pwr (h : t.mains true z = s.mains true z) : t.pwr = s.pwr := congrArg Mains.pwr h
theorem mains_airflow (h : t.mains n z = s.mains n z) : t.pwr.airflow = s.pwr.airflow := congrArg (PwrSt.airflow ∘ Mains.pwr) h

/-- A smaller view is kept with a larger one. -/
theorem mains_far (h : t.mains true z = s.mains true z) : t.mains false z = s.mains false z := by
  have hpwr := mains_pwr h
  have hreg : ∀ f i, (if mainsCell false z f.id i then t.rg f i else 0) = if mainsCell false z f.id i then s.rg f i else 0 := by
    intro f i
    split
    · next hf =>
      refine mains_rg h f i ?_
      revert hf
      unfold mainsCell
      split
      · exact id
      · intro hb
        have hb : baseIds.contains f.id = true := by simpa using hb
        rw [hb]
        rfl
    · rfl
  simp only [State.mains, hreg, hpwr, mains_high h, mains_boot h, mains_tbc h, mains_stepped h]

/-- What reporting leaves alone contains the view. -/
theorem mains_of_still (h : t.still = s.still) : t.mains n z = s.mains n z := by
  have hreg : ∀ f i, (if mainsCell n z f.id i then t.rg f i else 0) = if mainsCell n z f.id i then s.rg f i else 0 := by
    intro f i
    split
    · next hf =>
      refine still_rg h f i (fun hr => ?_)
      have apart : ∀ x ∈ reportIds, x ∉ mainsIds := by decide
      exact apart _ hr (mem_mainsIds_of_cell hf)
    · rfl
  simp only [State.mains, hreg, still_rg h _ _ (by decide : R.PWR_DOM_STATUS_ON.id ∉ reportIds), still_pwr h, still_boot h, still_tbc h, still_net h]

/-- A view is kept where each component that it shows is. -/
theorem mains_of_parts (hr : t.regs = s.regs) (hp : t.pwr = s.pwr) (hb : t.boot = s.boot) (ht : t.tbc = s.tbc) (hs : t.net.stepped = s.net.stepped) :
    t.mains n z = s.mains n z := by
  have regs (f : Fld) (i : Nat) : t.rg f i = s.rg f i := State.rg_congr hr f i
  simp only [State.mains, regs, hp, hb, ht, hs]

/-- A view is kept in both branches. -/
@[simp ↓] theorem mains_ite (q : Prop) [Decidable q] (a b : State) :
    (if q then a else b).mains n z = if q then a.mains n z else b.mains n z := apply_ite _ _ _ _

@[simp ↓] theorem mains_ite_fst {α : Type} (q : Prop) [Decidable q] (a b : State × α) :
    (if q then a else b).1.mains n z = if q then a.1.mains n z else b.1.mains n z := apply_ite (fun x : State × α => x.1.mains n z) _ _ _

/-- An operation on each element of a list keeps a view that it keeps for each. -/
theorem mains_foldl_mem {α : Type} (f : State → α → State) (xs : List α) (h : ∀ s, ∀ x ∈ xs, (f s x).mains n z = s.mains n z) :
    ∀ s : State, (xs.foldl f s).mains n z = s.mains n z := by
  induction xs with
  | nil => exact fun _ => rfl
  | cons x xs ih =>
    exact fun s => (ih (fun s y hy => h s y (List.mem_cons_of_mem _ hy)) _).trans (h s x List.mem_cons_self)

theorem mains_foldl {α : Type} (f : State → α → State) (h : ∀ s x, (f s x).mains n z = s.mains n z) (xs : List α) (s : State) :
    (xs.foldl f s).mains n z = s.mains n z := mains_foldl_mem f xs (fun s x _ => h s x) s

end

/-! ### Single components -/

section
variable (n z : Bool) (s : State)

theorem mains_wr_at (f : Fld) (i v : Nat) (h : mainsCell n z f.id i = false) (hon : f.id ≠ R.PWR_DOM_STATUS_ON.id ∨ i ≠ pPwr) :
    (s.wr f i v).mains n z = s.mains n z := by
  have cell : ∀ g j, (if mainsCell n z g.id j then (s.wr f i v).rg g j else 0) = if mainsCell n z g.id j then s.rg g j else 0 := by
    intro g j
    split
    · next hg =>
      refine (State.rg_wr ..).trans (if_neg ?_)
      rintro ⟨hid, rfl⟩
      rw [hid, h] at hg
      cases hg
    · rfl
  have high : (s.wr f i v).rg R.PWR_DOM_STATUS_ON pPwr = s.rg R.PWR_DOM_STATUS_ON pPwr :=
    (State.rg_wr ..).trans (if_neg fun e => hon.elim (absurd e.1.symm) (absurd e.2.symm))
  simp only [State.mains, cell, high]
  rfl

@[simp ↓] theorem mains_wr (f : Fld) (i v : Nat) (h : f.id ∉ mainsIds) : (s.wr f i v).mains n z = s.mains n z := by
  refine mains_wr_at _ _ _ _ _ _ (Bool.eq_false_iff.mpr fun hc => h (mem_mainsIds_of_cell hc)) (Or.inl fun e => h ?_)
  rw [e]
  exact List.mem_append_left _ (List.mem_append_right _ List.mem_cons_self)

/-- Without the presence fields a view shows nothing of TOP's page. -/
@[simp ↓] theorem mains_wr_top (f : Fld) (v : Nat) : (s.wr f pTop v).mains n false = s.mains n false :=
  mains_wr_at _ _ _ _ _ _ (by simp [mainsCell]) (Or.inr (by decide))

@[simp ↓] theorem mains_wrB (f : Fld) (i : Nat) (b : Bool) (h : f.id ∉ mainsIds) : (s.wrB f i b).mains n z = s.mains n z := mains_wr _ _ _ _ _ _ h
@[simp ↓] theorem mains_incSat (f : Fld) (i k : Nat) (h : f.id ∉ mainsIds) : (s.incSat f i k).mains n z = s.mains n z := mains_wr _ _ _ _ _ _ h

/-- A change of the components that no view shows. -/
@[simp ↓] theorem mains_log (x : LogSt) : ({ s with log := x } : State).mains n z = s.mains n z := (rfl)
@[simp ↓] theorem mains_hbm (x : HbmSt) : ({ s with hbm := x } : State).mains n z = s.mains n z := (rfl)
@[simp ↓] theorem mains_coll (x : CollSt) : ({ s with coll := x } : State).mains n z = s.mains n z := (rfl)
@[simp ↓] theorem mains_host (x : HostSt) : ({ s with host := x } : State).mains n z = s.mains n z := (rfl)
@[simp ↓] theorem mains_recov (x : RecSt) : ({ s with recov := x } : State).mains n z = s.mains n z := (rfl)
@[simp ↓] theorem mains_free (x : Nat) : ({ s with free := x } : State).mains n z = s.mains n z := (rfl)
@[simp ↓] theorem mains_rdata (x : List Nat) : ({ s with rdata := x } : State).mains n z = s.mains n z := (rfl)
@[simp ↓] theorem mains_mem (x : List Host.Cell) : ({ s with mem := x } : State).mains n z = s.mains n z := (rfl)
@[simp ↓] theorem mains_cores (x : NMap Core) : ({ s with cores := x } : State).mains n z = s.mains n z := (rfl)
@[simp ↓] theorem mains_poison (x : NMap Bool) : ({ s with poison := x } : State).mains n z = s.mains n z := (rfl)
@[simp ↓] theorem mains_agree (x : AgreeSt) : ({ s with agree := x } : State).mains n z = s.mains n z := (rfl)

/-- The network's state moves on, its time as before. -/
theorem mains_net (x : NetSt) (h : x.stepped = s.net.stepped) : ({ s with net := x } : State).mains n z = s.mains n z := by
  simp only [State.mains, h]
  rfl

@[simp ↓] theorem mains_cached (x : NMap Bool) : ({ s with net := { s.net with cached := x } } : State).mains n z = s.mains n z := (rfl)
@[simp ↓] theorem mains_rx (x : NMap (List Frame)) : ({ s with net := { s.net with rx := x } } : State).mains n z = s.mains n z := (rfl)
@[simp ↓] theorem mains_flowMap (x : NMap Flow) : ({ s with net := { s.net with flows := x } } : State).mains n z = s.mains n z := (rfl)
@[simp ↓] theorem mains_slew (x : Nat) : ({ s with net := { s.net with slew := x } } : State).mains n z = s.mains n z := (rfl)

@[simp ↓] theorem mains_setEng (c : Nat) (x : DmaEng) : (s.setEng c x).mains n z = s.mains n z := (rfl)
@[simp ↓] theorem mains_setCq (c : Nat) (x : CmdQ) : (s.setCq c x).mains n z = s.mains n z := (rfl)
@[simp ↓] theorem mains_setStep (c : Nat) (x : StepSt) : (s.setStep c x).mains n z = s.mains n z := (rfl)
@[simp ↓] theorem mains_setPort (c : Nat) (x : Port) : (s.setPort c x).mains n z = s.mains n z := (rfl)
@[simp ↓] theorem mains_setCommq (c : Nat) (x : CollQ) : (s.setCommq c x).mains n z = s.mains n z := (rfl)
@[simp ↓] theorem mains_setDbg (c : Nat) (x : DbgFn) : (s.setDbg c x).mains n z = s.mains n z := (rfl)
@[simp ↓] theorem mains_setTestRec (c d : Nat) (x : TestRec) : (s.setTestRec c d x).mains n z = s.mains n z := (rfl)
@[simp ↓] theorem mains_emit (x : OutMsg) : (s.emit x).mains n z = s.mains n z := (rfl)
@[simp ↓] theorem mains_setPoison (a : Nat) (b : Bool) : (s.setPoison a b).mains n z = s.mains n z := (rfl)
@[simp ↓] theorem mains_freeVal : s.freeVal.2.mains n z = s.mains n z := (rfl)
@[simp ↓] theorem mains_setCore (c : Nat) (x : Core) : (s.setCore c x).mains n z = s.mains n z := (rfl)
@[simp ↓] theorem mains_setFlow (c : Nat) (x : Flow) : (s.setFlow c x).mains n z = s.mains n z := (rfl)
@[simp ↓] theorem mains_wb (a : Nat) (b : Byte) : (s.wb a b).mains n z = s.mains n z := (rfl)
@[simp ↓] theorem mains_lose (a b : Nat) : (s.lose a b).mains n z = s.mains n z := (rfl)

@[simp ↓] theorem mains_sigAdd (k v : Nat) : (s.sigAdd k v).2.mains n z = s.mains n z := by
  unfold State.sigAdd
  dsimp only
  split <;> rfl

@[simp ↓] theorem mains_wbs (a : Nat) (bs : List Nat) : (s.wbs a bs).mains n z = s.mains n z := by
  obtain ⟨m, hm⟩ := wbs_onlyMem bs s a
  rw [hm, mains_mem]

@[simp ↓] theorem mains_wle (a k v : Nat) : (s.wle a k v).mains n z = s.mains n z := mains_wbs ..

@[simp ↓] theorem mains_stepNote (fn st : Nat) : (s.stepNote fn st).mains n z = s.mains n z := by
  simp [State.stepNote]

/-! ### Reporting -/

@[simp ↓] theorem mains_cnt (p code k : Nat) : (s.cnt p code k).mains n z = s.mains n z := mains_of_still (still_cnt ..)
@[simp ↓] theorem mains_raiseAll (k : Nat) (xs : List Src) : (s.raiseAll k xs).mains n z = s.mains n z := mains_of_still (still_raiseAll ..)
@[simp ↓] theorem mains_raiseAt (p k d : Nat) (inj addr : Bool) (attr : Nat) : (s.raiseAt p k d inj addr attr).mains n z = s.mains n z :=
  mains_of_still (still_raiseAt ..)
@[simp ↓] theorem mains_raise (p k d : Nat) : (s.raise p k d).mains n z = s.mains n z := mains_of_still (still_raise ..)
@[simp ↓] theorem mains_event (p typ cls v : Nat) (addr : Bool) (attr : Nat) : (s.event p typ cls v addr attr).mains n z = s.mains n z :=
  mains_of_still (still_event ..)
@[simp ↓] theorem mains_evRaise (p : Nat) (r : EvRec) : (s.evRaise p r).1.mains n z = s.mains n z := mains_of_still (still_evRaise ..)
@[simp ↓] theorem mains_logStateRec (typ : Nat) (bs : List Nat) : (s.logStateRec typ bs).mains n z = s.mains n z := mains_of_still (still_logStateRec ..)
@[simp ↓] theorem mains_logEvent (typ cls : Nat) (bs : List Nat) : (s.logEvent typ cls bs).mains n z = s.mains n z := mains_of_still (still_logEvent ..)
@[simp ↓] theorem mains_incidentMap (f : Incident → Incident) : (s.incidentMap f).mains n z = s.mains n z := (rfl)

end

end Sys2Proof.Machine
end

section
/-!
SUPPORT. The machine's shared operations that keep the view `State.mains`, in the order of the model.
-/

namespace Sys2Proof.Machine

section
variable (n z : Bool) (s : State)

@[simp ↓] theorem mains_trace (fn src typ v p : Nat) (addr : Bool) (attr : Nat) : (s.trace fn src typ v p addr attr).mains n z = s.mains n z := by
  simp (disch := decide) [State.trace]

@[simp ↓] theorem mains_setChan (m ch : Nat) (x : Chan) : (s.setChan m ch x).mains n z = s.mains n z := by
  simp (disch := decide) [State.setChan]

@[simp ↓] theorem mains_setWcb (m : Nat) (xs : List WcbEntry) : (s.setWcb m xs).mains n z = s.mains n z := by
  simp (disch := decide) [State.setWcb]

@[simp ↓] theorem mains_countHbmN (o k : Nat) (write : Bool) : (s.countHbmN o k write).mains n z = s.mains n z := by
  simp (disch := decide) [State.countHbmN]

@[simp ↓] theorem mains_countHbm (o : Nat) (write : Bool) : (s.countHbm o write).mains n z = s.mains n z := by
  simp (disch := decide) [State.countHbm]

@[simp ↓] theorem mains_countFar (o : Nat) : (s.countFar o).mains n z = s.mains n z := by
  simp (disch := decide) [State.countFar]

@[simp ↓] theorem mains_wbsM (a : Nat) (bs : List (Option Nat)) : (s.wbsM a bs).mains n z = s.mains n z := by
  obtain ⟨m, hm⟩ := State.wbsM_mem bs s a
  rw [hm, mains_mem]

@[simp ↓] theorem mains_wcbStore (x : WcbEntry) (k : Nat) : (s.wcbStore x k).mains n z = s.mains n z := by
  induction k with
  | zero => rfl
  | succ k ih =>
    unfold State.wcbStore
    dsimp only
    split
    · exact ih
    · exact ih

@[simp ↓] theorem mains_wcbDrain (m : Nat) (x : WcbEntry) : (s.wcbDrain m x).mains n z = s.mains n z := by
  simp (disch := decide) [State.wcbDrain]

@[simp ↓] theorem mains_wcbDrainAll (m : Nat) : (s.wcbDrainAll m).mains n z = s.mains n z :=
  mains_foldl _ (fun _ _ => by simp) _ _

@[simp ↓] theorem mains_wcbSettle (m : Nat) : (s.wcbSettle m).mains n z = s.mains n z := by
  unfold State.wcbSettle
  split
  · simp
  · split
    · split <;> simp
    · rfl

@[simp ↓] theorem mains_wcbWrite (o : Nat) (bs : List (Option Nat)) (bad : Bool) : (s.wcbWrite o bs bad).mains n z = s.mains n z := by
  unfold State.wcbWrite
  dsimp only
  split <;> simp

@[simp ↓] theorem mains_hbmWrite (o : Nat) (bs : List (Option Nat)) (bad : Bool) : (s.hbmWrite o bs bad).2.mains n z = s.mains n z := by
  unfold State.hbmWrite
  dsimp only
  split
  · rfl
  · split
    · simp
    · split <;> simp

@[simp ↓] theorem mains_readLine (pa k : Nat) : (s.readLine pa k).1.mains n z = s.mains n z := by
  unfold State.readLine
  dsimp only
  split
  · simp
  · split <;> simp
  · split <;> simp
  · rfl

@[simp ↓] theorem mains_noteEntry (o : Nat) : (s.noteEntry o).mains n z = s.mains n z := by
  simp (disch := decide) [State.noteEntry]

@[simp ↓] theorem mains_noteLookup (v : Via) (a : Nat) : (s.noteLookup v a).mains n z = s.mains n z := by
  unfold State.noteLookup
  split
  · rfl
  · dsimp only
    split
    · rfl
    · split <;> simp

@[simp ↓] theorem mains_readUpto (v : Via) (k a m : Nat) : (s.readUpto v k a m).1.mains n z = s.mains n z := by
  induction k generalizing s a m with
  | zero => rfl
  | succ k ih =>
    unfold State.readUpto
    split
    · rfl
    · dsimp only
      split
      · rfl
      · split
        · rfl
        · exact (ih ..).trans (by simp)

theorem mains_readSpan (v : Via) (k a m : Nat) {u : State} {bs : List (Nat × Bool)} (h : s.readSpan v k a m = .ok (u, bs)) :
    u.mains n z = s.mains n z := by
  have hu := mains_readUpto n z s v k a m
  unfold State.readSpan at h
  split at h
  · next u' bs' he =>
    obtain ⟨rfl, rfl⟩ := Prod.mk.inj (Except.ok.inj h)
    rwa [he] at hu
  · cases h

theorem mains_ldN (v : Via) (a k : Nat) {u : State} {bs : List (Nat × Bool)} (h : s.ldN v a k = .ok (u, bs)) : u.mains n z = s.mains n z :=
  mains_readSpan _ _ _ _ _ _ _ h

@[simp ↓] theorem mains_presenceEvent (kind id : Nat) : (s.presenceEvent kind id).mains n z = s.mains n z := by
  simp (disch := decide) [State.presenceEvent]

/-- Without the presence fields a view shows no change of them. -/
@[simp ↓] theorem mains_clearPresent (f : Fld) (b kind id : Nat) : (s.clearPresent f b kind id).mains n false = s.mains n false := by
  simp [State.clearPresent]

@[simp ↓] theorem mains_arraysCount : (s.arraysCount).mains n z = s.mains n z := by
  simp (disch := decide) [State.arraysCount]

@[simp ↓] theorem mains_clearQuad (q : Nat) : (s.clearQuad q).mains n false = s.mains n false := by
  simp [State.clearQuad]

@[simp ↓] theorem mains_rmapPut (bank i : Nat) (x : Nat × Nat × Bool) : (s.rmapPut bank i x).mains n z = s.mains n z := by
  simp (disch := decide) [State.rmapPut]

@[simp ↓] theorem mains_rmapInsert1 (bank kind id : Nat) : (s.rmapInsert1 bank kind id).mains n z = s.mains n z := by
  unfold State.rmapInsert1
  split
  · simp
  · split <;> simp

@[simp ↓] theorem mains_rmapInsert (kind id : Nat) : (s.rmapInsert kind id).mains n z = s.mains n z := by
  simp (disch := decide) [State.rmapInsert]

@[simp ↓] theorem mains_retireUnit (kind id cause : Nat) : (s.retireUnit kind id cause).mains n z = s.mains n z := by
  simp (disch := decide) [State.retireUnit]

@[simp ↓] theorem mains_retireQuad (q cause : Nat) : (s.retireQuad q cause).mains n false = s.mains n false := by
  simp (disch := decide) [State.retireQuad]

@[simp ↓] theorem mains_loseBanks (c : Nat) (banks : Nat) : (s.loseBanks c banks).mains n z = s.mains n z := by
  unfold State.loseBanks
  dsimp only
  simp (disch := decide)

@[simp ↓] theorem mains_katShow (c : Nat) : (s.katShow c).mains n z = s.mains n z := by
  simp (disch := decide) [State.katShow]

@[simp ↓] theorem mains_setKat (c : Nat) (k : Kat) : (s.setKat c k).mains n z = s.mains n z := by
  simp (disch := decide) [State.setKat]

@[simp ↓] theorem mains_katStart (c first mask : Nat) (asked : Bool) : (s.katStart c first mask asked).mains n z = s.mains n z := by
  simp (disch := decide) [State.katStart]

@[simp ↓] theorem mains_katDue (c : Nat) : (s.katDue c).mains n z = s.mains n z := by
  simp (disch := decide) [State.katDue]

@[simp ↓] theorem mains_katOver (c a : Nat) : (s.katOver c a).mains n z = s.mains n z := by
  simp (disch := decide) [State.katOver]

@[simp ↓] theorem mains_busyShow (c : Nat) : (s.busyShow c).mains n z = s.mains n z := by
  simp (disch := decide) [State.busyShow]

@[simp ↓] theorem mains_setRun (c k : Nat) : (s.setRun c k).mains n z = s.mains n z := by
  simp (disch := decide) [State.setRun]

@[simp ↓] theorem mains_engRegs (x : Nat) : (s.engRegs x).mains n z = s.mains n z := by
  simp (disch := decide) [State.engRegs]

@[simp ↓] theorem mains_putEng (x : Nat) (x' : DmaEng) : (s.putEng x x').mains n z = s.mains n z := by
  simp (disch := decide) [State.putEng]

@[simp ↓] theorem mains_engRngEnd (x : Nat) (d : DmaDesc) : (s.engRngEnd x d).mains n z = s.mains n z := by
  unfold State.engRngEnd
  extract_lets p fs ft put
  have one (f : Fld) (h : f.id ∉ mainsIds) (o : Option Nat) (s : State) : (put f o s).mains n z = s.mains n z := by
    cases o with
    | none => rfl
    | some v => exact mains_wr _ _ _ _ _ _ h
  have hs : fs.id ∉ mainsIds := by dsimp only [fs]; split <;> decide
  have ht : ft.id ∉ mainsIds := by dsimp only [ft]; split <;> decide
  rw [one _ ht, one _ hs, one _ hs]

@[simp ↓] theorem mains_dmaBytes (x rd wr : Nat) : (s.dmaBytes x rd wr).mains n z = s.mains n z := by
  simp (disch := decide) [State.dmaBytes]

@[simp ↓] theorem mains_sendFlit (p : Nat) (f : Flit) : (s.sendFlit p f).mains n z = s.mains n z := by
  simp (disch := decide) [State.sendFlit]

@[simp ↓] theorem mains_sendHead (p k : Nat) : (s.sendHead p k).mains n z = s.mains n z := by
  unfold State.sendHead
  dsimp only
  split <;> simp (disch := decide)

@[simp ↓] theorem mains_pumpPort (k p : Nat) : (State.pumpPort k s p).mains n z = s.mains n z := by
  induction k generalizing s with
  | zero => rfl
  | succ k ih =>
    unfold State.pumpPort
    extract_lets x q0 vc0 mid
    split
    · rfl
    · split
      · simp [ih]
      · split
        · simp [ih]
        · split
          · simp [ih]
          · split
            · simp [ih]
            · rfl

@[simp ↓] theorem mains_tokenFill (p : Nat) : (s.tokenFill p).mains n z = s.mains n z := by
  simp (disch := decide) [State.tokenFill]

@[simp ↓] theorem mains_pump (p : Nat) : (s.pump p).mains n z = s.mains n z := by
  simp (disch := decide) [State.pump]

@[simp ↓] theorem mains_queueFlits (p k : Nat) (xs : List Flit) : (s.queueFlits p k xs).mains n z = s.mains n z := by
  simp (disch := decide) [State.queueFlits]

@[simp ↓] theorem mains_noRoute : (s.noRoute).mains n z = s.mains n z := by
  simp (disch := decide) [State.noRoute]

@[simp ↓] theorem mains_route (dst vc dflow : Nat) : (s.route dst vc dflow).2.mains n z = s.mains n z := by
  unfold State.route
  split
  · rfl
  · split
    · simp
    · simp
    · split
      · simp
      · simp
      · split <;> simp

@[simp ↓] theorem mains_launch (vc : Nat) (marks : List (Bool × Nat × Bool)) (pass : Bool) (bs : List Nat) :
    (s.launch vc marks pass bs).mains n z = s.mains n z := by
  have way := mains_route n z s (byteFld bs 0 4) vc (byteFld bs 0x0C 4)
  unfold State.launch
  split
  · next u he => rw [he] at way; simpa using way
  · next u he => rw [he] at way; exact way
  · next p u _ _ he =>
    rw [he] at way
    split <;> simpa using way

@[simp ↓] theorem mains_sendFrame (vc : Nat) (dmCheck : Bool) (f : Frame) : (s.sendFrame vc dmCheck f).mains n z = s.mains n z := by
  simp (disch := decide) [State.sendFrame]

@[simp ↓] theorem mains_flowTouch (id : Nat) : (s.flowTouch id).mains n z = s.mains n z := by
  unfold State.flowTouch
  split
  · rfl
  · dsimp only
    split <;> simp

@[simp ↓] theorem mains_flowUsedReg (fn : Nat) : (s.flowUsedReg fn).mains n z = s.mains n z := by
  simp (disch := decide) [State.flowUsedReg]

@[simp ↓] theorem mains_tagResult (tag st : Nat) : (s.tagResult tag st).mains n z = s.mains n z := by
  simp (disch := decide) [State.tagResult]

@[simp ↓] theorem mains_flowEnd (id st : Nat) : (s.flowEnd id st).mains n z = s.mains n z :=
  mains_foldl _ (fun _ _ => by simp (disch := decide)) _ _

theorem mains_txRead (x : Flow) (r : TxReq) {u : State} {bs : List Nat} {k : Nat} (h : s.txRead x r = .ok (u, bs, k)) :
    u.mains n z = s.mains n z := by
  unfold State.txRead at h
  split at h
  · cases h; rfl
  · next core a _ =>
    cases hl : s.ldN ⟨core, x.fn, true⟩ a r.len with
    | error e => rw [hl] at h; cases h
    | ok y =>
      rw [hl] at h
      cases h
      exact mains_ldN _ _ _ _ _ _ hl

@[simp ↓] theorem mains_descMoved (tag rd wr : Nat) : (s.descMoved tag rd wr).mains n z = s.mains n z := by
  simp (disch := decide) [State.descMoved]

@[simp ↓] theorem mains_flowPumpN (k id : Nat) : (State.flowPumpN k s id).mains n z = s.mains n z := by
  induction k generalizing s with
  | zero => rfl
  | succ k ih =>
    unfold State.flowPumpN
    dsimp only
    split
    · rfl
    · split
      · rfl
      · split
        · split
          · rfl
          · simp [ih]
        · next u data poison hr =>
          rw [ih]
          simpa using mains_txRead _ _ _ _ _ hr

@[simp ↓] theorem mains_flowPump (id : Nat) : (s.flowPump id).mains n z = s.mains n z := by
  simp (disch := decide) [State.flowPump]

@[simp ↓] theorem mains_flowQueue (id : Nat) (xs : List TxReq) : (s.flowQueue id xs).mains n z = s.mains n z := by
  simp (disch := decide) [State.flowQueue]

@[simp ↓] theorem mains_flowClose (id : Nat) : (s.flowClose id).mains n z = s.mains n z := by
  simp (disch := decide) [State.flowClose]

@[simp ↓] theorem mains_cmdMap (q num : Nat) (f : Cmd → Cmd) : (s.cmdMap q num f).mains n z = s.mains n z := by
  simp (disch := decide) [State.cmdMap]

@[simp ↓] theorem mains_cmdResult (q num st : Nat) : (s.cmdResult q num st).mains n z = s.mains n z := by
  simp (disch := decide) [State.cmdResult]

@[simp ↓] theorem mains_grpClose (g x : Nat) : (s.grpClose g x).mains n z = s.mains n z := by
  refine mains_foldl _ (fun s k => ?_) _ _
  dsimp only
  split
  · simp
  · rfl

@[simp ↓] theorem mains_grpIdle (g : Nat) : (s.grpIdle g).mains n z = s.mains n z := by
  unfold State.grpIdle
  dsimp only
  split
  · rfl
  · rw [mains_setCommq]
    exact mains_foldl _ (fun _ _ => by simp) _ _

@[simp ↓] theorem mains_grpPut (id : Nat) (bytes : List Nat) (off poison : Nat) : (s.grpPut id bytes off poison).mains n z = s.mains n z := by
  simp (disch := decide) [State.grpPut]

@[simp ↓] theorem mains_sendAborts (x gid seq st : Nat) : (s.sendAborts x gid seq st).mains n z = s.mains n z :=
  mains_foldl _ (fun _ _ => by simp (disch := decide)) _ _

@[simp ↓] theorem mains_collRegs (g : Nat) : (s.collRegs g).mains n z = s.mains n z := by
  simp (disch := decide) [State.collRegs]

@[simp ↓] theorem mains_collSignal (fn : Nat) (es : Bool) (sig inc st : Nat) : (s.collSignal fn es sig inc st).2.mains n z = s.mains n z := by
  unfold State.collSignal
  split
  · rfl
  · split
    · simp
    · split <;> simp

@[simp ↓] theorem mains_loseSpan (fn a k : Nat) : (s.loseSpan fn a k).mains n z = s.mains n z := by
  refine mains_foldl _ (fun s i => ?_) _ _
  extract_lets b c
  split
  · split <;> simp
  · rfl

@[simp ↓] theorem mains_collFree (g : Nat) : (s.collFree g).mains n z = s.mains n z := by
  simp (disch := decide) [State.collFree]

@[simp ↓] theorem mains_collError (p : Nat) (o : CollOp) (c : Nat) : (s.collError p o c).mains n z = s.mains n z := by
  simp (disch := decide) [State.collError]

@[simp ↓] theorem mains_collFinish (g : Nat) (o : CollOp) (st : Nat) : (s.collFinish g o st).mains n z = s.mains n z := by
  have spans (xs : List (Nat × Nat × Bool)) (fn : Nat) (s : State) : (xs.foldl (fun s x =>
      if x.1 = o.dst ∨ (o.kind = 2 ∧ x.1 = o.dstScale) then s.loseSpan fn x.1 x.2.1 else s) s).mains n z = s.mains n z :=
    mains_foldl _ (fun _ _ => by simp) _ _
  unfold State.collFinish
  dsimp only
  simp (disch := decide) [spans]

@[simp ↓] theorem mains_collAbort (g : Nat) : (s.collAbort g).mains n z = s.mains n z := by
  unfold State.collAbort
  split <;> simp

@[simp ↓] theorem mains_collAbortAll (fn : Nat) : (s.collAbortAll fn).mains n z = s.mains n z :=
  mains_foldl _ (fun _ _ => by simp (disch := decide)) _ _

@[simp ↓] theorem mains_collAbortCore (c : Nat) : (s.collAbortCore c).mains n z = s.mains n z := by
  unfold State.collAbortCore
  split <;> simp (disch := decide)

@[simp ↓] theorem mains_putBack (pa : Nat) (bs : List Nat) (bad : Bool) : (s.putBack pa bs bad).mains n z = s.mains n z := by
  simp (disch := decide) [State.putBack]

@[simp ↓] theorem mains_unmove (u : Nat × List Nat × List Nat × Bool) : (s.unmove u).mains n z = s.mains n z := by
  simp (disch := decide) [State.unmove]

@[simp ↓] theorem mains_descAbort (x : Nat) (d : DmaDesc) : (s.descAbort x d).mains n z = s.mains n z := by
  have back (us : List (Nat × List Nat × List Nat × Bool)) (s : State) : (us.foldl State.unmove s).mains n z = s.mains n z :=
    mains_foldl _ (fun _ _ => by simp) _ _
  unfold State.descAbort
  dsimp only
  simp [back]

@[simp ↓] theorem mains_dmaAbort (x : Nat) (sel : Nat → DmaDesc → Bool) : (s.dmaAbort x sel).mains n z = s.mains n z := by
  unfold State.dmaAbort
  dsimp only
  split
  · rfl
  · rw [mains_raise, mains_foldl _ (fun _ _ => by simp), mains_putEng]

@[simp ↓] theorem mains_ctxAbort (c : Nat) : (s.ctxAbort c).mains n z = s.mains n z := by
  simp (disch := decide) [State.ctxAbort]

@[simp ↓] theorem mains_kernelOver (c st : Nat) : (s.kernelOver c st).mains n z = s.mains n z := by
  unfold State.kernelOver
  dsimp only
  split <;> simp (disch := decide)

@[simp ↓] theorem mains_unitsStop (c : Nat) : (s.unitsStop c).mains n z = s.mains n z := by
  simp (disch := decide) [State.unitsStop]

@[simp ↓] theorem mains_kernelAbort (c : Nat) : (s.kernelAbort c).mains n z = s.mains n z := by
  simp (disch := decide) [State.kernelAbort]

@[simp ↓] theorem mains_timeCheck : s.timeCheck.mains n z = s.mains n z := by
  unfold State.timeCheck
  split
  · simp (disch := decide)
  · split
    · rfl
    · simp (disch := decide)

@[simp ↓] theorem mains_scanEnd (p : Nat) (abandoned : Bool) : (s.scanEnd p abandoned).mains n z = s.mains n z := by
  simp (disch := decide) [State.scanEnd]

/-- The marks and locks of lanes are in no view. -/
theorem laneStatus_not_mains : ∀ j ∈ List.range 8, (R.LNK_LANE_STATUS_MARKED j).id ∉ mainsIds ∧ (R.LNK_LANE_STATUS_LOCK j).id ∉ mainsIds := by
  decide

@[simp ↓] theorem mains_linkDrop (p : Nat) : (s.linkDrop p).mains n z = s.mains n z := by
  unfold State.linkDrop
  dsimp only
  rw [mains_setPort, mains_foldl_mem _ _ (fun _ j hj => mains_wr _ _ _ _ _ _ (laneStatus_not_mains j hj).2)]
  simp (disch := decide)

@[simp ↓] theorem mains_linkDown (p : Nat) : (s.linkDown p).mains n z = s.mains n z := by
  simp (disch := decide) [State.linkDown]

@[simp ↓] theorem mains_portLoad (p : Nat) : (s.portLoad p).mains n z = s.mains n z := by
  unfold State.portLoad
  dsimp only
  rw [mains_foldl_mem _ _ (fun _ j hj => mains_wrB _ _ _ _ _ _ (laneStatus_not_mains j hj).1)]
  simp (disch := decide)

@[simp ↓] theorem mains_trainBegin (p : Nat) (self : Bool) : (s.trainBegin p self).mains n z = s.mains n z := by
  simp (disch := decide) [State.trainBegin]

@[simp ↓] theorem mains_quarRelease (p : Nat) : (s.quarRelease p).mains n z = s.mains n z := by
  simp (disch := decide) [State.quarRelease]

@[simp ↓] theorem mains_portDisable (p : Nat) : (s.portDisable p).mains n z = s.mains n z := by
  simp (disch := decide) [State.portDisable]

@[simp ↓] theorem mains_memDone (st : Nat) : (s.memDone st).mains n z = s.mains n z := by
  simp (disch := decide) [State.memDone]

@[simp ↓] theorem mains_memServe (r : MemReq) : (s.memServe r).mains n z = s.mains n z := by
  unfold State.memServe
  dsimp only
  split
  · simp
  · split <;> simp

@[simp ↓] theorem mains_katDrop (c : Nat) : (s.katDrop c).mains n z = s.mains n z := by
  simp (disch := decide) [State.katDrop]

@[simp ↓] theorem mains_testsDrop (p : Nat) : (s.testsDrop p).mains n z = s.mains n z := by
  unfold State.testsDrop
  split
  · simp
  · simp
  · simp
  · exact mains_foldl _ (fun _ _ => by simp) _ _
  · rfl

@[simp ↓] theorem mains_coreClear (c : Nat) : (s.coreClear c).mains n z = s.mains n z := by
  unfold State.coreClear
  dsimp only
  simp (disch := decide)

@[simp ↓] theorem mains_corePageClear (c : Nat) : (s.corePageClear c).mains n z = s.mains n z := by
  simp (disch := decide) [State.corePageClear]

@[simp ↓] theorem mains_l2Drop (k : Nat) : (s.l2Drop k).mains n z = s.mains n z := rfl

@[simp ↓] theorem mains_arrReset (c a : Nat) : (s.arrReset c a).mains n z = s.mains n z := by
  simp (disch := decide) [State.arrReset]

@[simp ↓] theorem mains_engReset (p : Nat) : (s.engReset p).mains n z = s.mains n z := by
  unfold State.engReset
  dsimp only
  split
  · simp
  · simp
  · simp
  · simp
  · simp
  · simp
  · rw [mains_ite, mains_wr _ _ _ _ _ _ (by decide), mains_wr _ _ _ _ _ _ (by decide), ite_self, mains_foldl _ (fun _ _ => by simp)]
    simp
  · simp
  · simp

end

end Sys2Proof.Machine
end

section
/-!
SUPPORT. Lasers, time synchronisation and the addresses of routes.
-/

namespace Sys2Proof.Machine

/-! ### Margin scans (R318) -/

/-- A scan that may start is under way afterwards, and nothing of it is done. -/
theorem laneMarginGo_starts (s : State) (p lane : Nat) (hallow : s.flag R.HDR_CTRL_SELFTEST_ALLOW (pLnk p) = true)
    (hquiet : s.quiescing (pLnk p) = false) (hup : s.lnkState p = 6) (hidle : (s.port p).scan = none) (hfree : s.testBarred (pLnk p) = false)
    (hrec : (s.testRec 2 (pLnk p)).suspended = false) :
    ∃ t, exec (.laneMarginGo p lane) s = .next t ∧ (t.port p).scan = some (lane % 8) ∧ t.rg R.LNK_MARGIN_CTRL_GO (pLnk p) = 1
      ∧ t.rg R.LNK_MARGIN_RESULT_DONE (pLnk p) = 0 ∧ s.apart t := by
  have started : s.scanStart p lane = ((((((s.setPort p { s.port p with scan := some (lane % 8), yields := 0 }).wr R.LNK_MARGIN_CTRL_LANE (pLnk p) lane).wr
      R.LNK_MARGIN_CTRL_GO (pLnk p) 1).wr R.HDR_STATUS_SELFTEST_ACTIVE (pLnk p) 1).wr R.LNK_MARGIN_RESULT_DONE (pLnk p) 0).wr
      R.LNK_MARGIN_RESULT_ABANDONED (pLnk p) 0) :=
    if_neg (by simp [hallow, hquiet, hup, hidle, hfree, hrec])
  refine ⟨_, rfl, ?_, ?_, ?_, apart_of_held (held_scanStart true true true ..)⟩
  · rw [started]
    simp [State.port, State.setPort, State.wr]
  · rw [started, State.rg_wr_fld _ _ _ _ (by decide), State.rg_wr_fld _ _ _ _ (by decide), State.rg_wr_fld _ _ _ _ (by decide), State.rg_wr_self]
    rfl
  · rw [started, State.rg_wr_fld _ _ _ _ (by decide), State.rg_wr_self]
    rfl

/-- What a scan that ends leaves: no scan, and its result. -/
theorem scanEnd_result {s : State} {p : Nat} (h : (s.port p).scan.isSome = true) (abandoned : Bool) :
    ((s.scanEnd p abandoned).port p).scan = none ∧ (s.scanEnd p abandoned).rg R.LNK_MARGIN_RESULT_DONE (pLnk p) = 1
      ∧ (s.scanEnd p abandoned).rg R.LNK_MARGIN_RESULT_ABANDONED (pLnk p) = b2n abandoned := by
  have ended : s.scanEnd p abandoned = ((((s.setPort p { s.port p with scan := none, yields := 0 }).wr R.HDR_STATUS_SELFTEST_ACTIVE (pLnk p) 0).wr
      R.LNK_MARGIN_CTRL_GO (pLnk p) 0).wr R.LNK_MARGIN_RESULT_DONE (pLnk p) 1).wrB R.LNK_MARGIN_RESULT_ABANDONED (pLnk p) abandoned :=
    if_neg (by simp [Option.isNone_iff_eq_none, Option.isSome_iff_ne_none.mp h])
  rw [ended]
  refine ⟨?_, ?_, ?_⟩
  · simp [State.port, State.setPort, State.wr, State.wrB]
  · rw [State.wrB, State.rg_wr_fld _ _ _ _ (by decide), State.rg_wr_self]
    rfl
  · rw [State.wrB, State.rg_wr_self]
    cases abandoned <;> rfl

theorem scanAbandon_ends {s : State} {p : Nat} (h : (s.port p).scan.isSome = true) (hy : 16 ≤ (s.port p).yields) :
    ∃ t, exec (.scanAbandon p) s = .next t ∧ (t.port p).scan = none ∧ t.rg R.LNK_MARGIN_RESULT_ABANDONED (pLnk p) = 1
      ∧ t.rg R.LNK_MARGIN_RESULT_DONE (pLnk p) = 1 ∧ s.apart t := by
  obtain ⟨hscan, hdone, habandoned⟩ := scanEnd_result h true
  have runs : exec (.scanAbandon p) s = .next (((s.scanEnd p true).testAbandoned 2 (pLnk p)).cnt (pLnk p) Cn.LNK_SCAN_ABANDON) :=
    congrArg Host.Outcome.next (if_pos ⟨h, hy⟩)
  refine ⟨_, runs, ?_, ?_, ?_, apart_of_held (l := true) (e := true) ?_⟩
  · rw [still_port (still_cnt ..)]
    exact hscan
  · rw [State.rg_cnt _ _ _ _ _ _ (by decide)]
    exact habandoned
  · rw [State.rg_cnt _ _ _ _ _ _ (by decide)]
    exact hdone
  · simp [State.testAbandoned]

theorem laneMarginDone_ends {s : State} {p : Nat} (h : (s.port p).scan.isSome = true) (lo hi : Nat) :
    ∃ t, exec (.laneMarginDone p lo hi) s = .next t ∧ (t.port p).scan = none ∧ t.rg R.LNK_MARGIN_RESULT_ABANDONED (pLnk p) = 0
      ∧ t.rg R.LNK_MARGIN_RESULT_DONE (pLnk p) = 1 ∧ t.rg R.LNK_MARGIN_RESULT_LOW (pLnk p) = lo % 2 ^ 16
      ∧ t.rg R.LNK_MARGIN_RESULT_HIGH (pLnk p) = hi % 2 ^ 16 ∧ s.apart t := by
  obtain ⟨hscan, hdone, habandoned⟩ := scanEnd_result h false
  let u := ((s.scanEnd p false).wr R.LNK_MARGIN_RESULT_LOW (pLnk p) lo).wr R.LNK_MARGIN_RESULT_HIGH (pLnk p) hi
  have runs : exec (.laneMarginDone p lo hi) s = .next (u.testPassed 2 (pLnk p)) :=
    congrArg Host.Outcome.next (if_neg (by simp [Option.isNone_iff_eq_none, Option.isSome_iff_ne_none.mp h]))
  have cell (f : Fld) : (u.testPassed 2 (pLnk p)).rg f (pLnk p) = u.rg f (pLnk p) := rfl
  refine ⟨_, runs, hscan, ?_, ?_, ?_, ?_, apart_of_held (l := true) (e := true) ?_⟩
  · rw [cell, State.rg_wr_fld _ _ _ _ (by decide), State.rg_wr_fld _ _ _ _ (by decide)]
    exact habandoned
  · rw [cell, State.rg_wr_fld _ _ _ _ (by decide), State.rg_wr_fld _ _ _ _ (by decide)]
    exact hdone
  · rw [cell, State.rg_wr_fld _ _ _ _ (by decide)]
    exact State.rg_wr_self ..
  · rw [cell]
    exact State.rg_wr_self ..
  · simp (disch := decide) [u, State.testPassed]

/-! ### Light (R290) -/

/-- A port may train as before where the views of its unit and of its domain are kept. -/
theorem portOn_of_kept {n l e z : Bool} {s t : State} (hh : t.held n l e = s.held n l e) (hm : t.mains true z = s.mains true z) (p : Nat) :
    t.portOn p = s.portOn p := by
  have shown := (by decide : ∀ n l e, ∀ f ∈ [R.HDR_CTRL_ENABLE, R.HDR_STATUS_FENCED], (heldId n l e f.id && decide (f.id < 32768)) = true) n l e
  have hon : t.rg R.PWR_DOM_STATUS_ON pPwr = s.rg R.PWR_DOM_STATUS_ON pPwr := mains_rg hm _ _ (by cases z <;> decide)
  simp only [State.portOn, State.enabled, State.fencedP, State.pageOn, State.domOn, held_flag hh _ _ (shown _ List.mem_cons_self),
    held_flag hh _ _ (shown _ (List.mem_cons_of_mem _ List.mem_cons_self)), hon]

section
variable {s : State} {q b : Nat}

theorem recorded_timeCheck (hb : b < 32) (h : s.recorded q b) : s.timeCheck.recorded q b := by
  have kept (u v : State) (huv : v.held true true true = u.held true true true) : u.recorded q b → v.recorded q b := recorded_of_held huv
  unfold State.timeCheck
  split
  · exact kept _ _ (by simp (disch := decide)) h
  · split
    · exact h
    · exact recorded_raise _ _ _ hb (kept _ _ (by simp (disch := decide)) h)

theorem recorded_wr_fld (f : Fld) (i v : Nat) (hf : R.HDR_ERR_STATUS_ERR.id ≠ f.id) (h : s.recorded q b) : (s.wr f i v).recorded q b := by
  unfold State.recorded
  rw [State.rg_wr_fld _ _ _ _ hf]
  exact h

theorem recorded_linkDown (p : Nat) (hb : b < 32) (h : s.recorded q b) : (s.linkDown p).recorded q b := by
  unfold State.linkDown
  split
  · exact h
  · refine recorded_timeCheck hb (recorded_raise _ _ _ hb ?_)
    have dropped : (s.linkDrop p).recorded q b := recorded_of_held (held_linkDrop true true true ..) h
    exact recorded_of_held (held_setPort (n := true) (l := true) (e := true) ..) (recorded_wr_fld _ _ _ (by decide) dropped)

theorem recorded_trainBegin (p : Nat) (self : Bool) (hb : b < 32) (h : s.recorded q b) : (s.trainBegin p self).recorded q b := by
  unfold State.trainBegin
  split
  · exact h
  · refine recorded_timeCheck hb (recorded_wr_fld _ _ _ (by decide) (recorded_wr_fld _ _ _ (by decide) ?_))
    refine recorded_of_held (n := true) (l := true) ?_ h
    simp

theorem recorded_laserLoss (p : Nat) (hb : b < 32) (h : s.recorded q b) : (s.laserLoss p).recorded q b := by
  have raised := recorded_raise (pLnk p) Er.LNK_LASER_LOSS 0 hb h
  unfold State.laserLoss
  dsimp only
  split
  · exact raised
  · exact recorded_wr_fld _ _ _ (by decide) (recorded_trainBegin _ _ hb (recorded_linkDown _ hb raised))

end

/-- A port whose light is lost has LASER_LOSS recorded. -/
theorem recorded_laserLoss_self (s : State) (p : Nat) : (s.laserLoss p).recorded (pLnk p) Er.LNK_LASER_LOSS := by
  have hb : Er.LNK_LASER_LOSS < 32 := by decide
  have raised := recorded_raise_self s (pLnk p) 0 hb
  unfold State.laserLoss
  dsimp only
  split
  · exact raised
  · exact recorded_wr_fld _ _ _ (by decide) (recorded_trainBegin _ _ hb (recorded_linkDown _ hb raised))

@[simp ↓] theorem held_laserLoss (n : Bool) (s : State) (p : Nat) : (s.laserLoss p).held n false false = s.held n false false := by
  simp [State.laserLoss]

@[simp ↓] theorem mains_laserLoss (n z : Bool) (s : State) (p : Nat) : (s.laserLoss p).mains n z = s.mains n z := by
  simp (disch := decide) [State.laserLoss]

theorem portOn_raise (s : State) (p k d q : Nat) : (s.raise p k d).portOn q = s.portOn q :=
  portOn_of_kept (held_raise true true ..) (mains_raise true true ..) q

theorem portOn_laserLoss (s : State) (p q : Nat) : (s.laserLoss p).portOn q = s.portOn q :=
  portOn_of_kept (held_laserLoss true ..) (mains_laserLoss true true ..) q

theorem lnkState_wr_ne (s : State) {p q : Nat} (v : Nat) (h : q ≠ p) : (s.wr R.LNK_PORT_STATUS_STATE (pLnk p) v).lnkState q = s.lnkState q :=
  State.rg_wr_inst _ _ _ _ (by unfold pLnk; omega)

theorem lnkState_linkDown_ne (s : State) {p q : Nat} (h : q ≠ p) : (s.linkDown p).lnkState q = s.lnkState q := by
  unfold State.linkDown
  split
  · rfl
  · dsimp only
    rw [held_lnkState ((held_timeCheck true true _).trans (held_raise ..)), held_lnkState (held_setPort (n := true) (e := false) ..), lnkState_wr_ne _ _ h,
      held_lnkState (held_linkDrop true true true ..)]

theorem lnkState_trainBegin_ne (s : State) {p q : Nat} (self : Bool) (h : q ≠ p) : (s.trainBegin p self).lnkState q = s.lnkState q := by
  unfold State.trainBegin
  split
  · rfl
  · dsimp only
    rw [held_lnkState (held_timeCheck true true _), held_lnkState (held_wr true true true _ _ _ _ (by decide)), lnkState_wr_ne _ _ h]
    refine held_lnkState (n := true) (e := true) ?_ q
    simp

/-- A loss of light at a port that may train leaves it DARK. -/
theorem lnkState_laserLoss_self {s : State} {p : Nat} (h : s.portOn p = true) : (s.laserLoss p).lnkState p = 1 := by
  unfold State.laserLoss
  dsimp only
  rw [portOn_raise, h]
  exact State.rg_wr_self ..

/-- A loss of light leaves a port DARK that is so. -/
theorem lnkState_laserLoss_dark {s : State} {q : Nat} (p : Nat) (h : s.lnkState q = 1) : (s.laserLoss p).lnkState q = 1 := by
  have raised : (s.raise (pLnk p) Er.LNK_LASER_LOSS).lnkState q = 1 := (held_lnkState (held_raise true true ..) q).trans h
  by_cases hq : q = p
  · subst hq
    unfold State.laserLoss
    dsimp only
    split
    · exact raised
    · exact State.rg_wr_self ..
  · unfold State.laserLoss
    dsimp only
    split
    · exact raised
    · rw [lnkState_wr_ne _ _ hq, lnkState_trainBegin_ne _ _ hq, lnkState_linkDown_ne _ hq]
      exact raised

/-- LASER_SAMPLE's last part: the ports that receive less than 10 dBm lose their light. -/
def State.lightCheck (s : State) (xs : List (Nat × Nat)) : State :=
  xs.foldl (fun s e => if e.2 < 1000 + 2 ^ 15 then s.laserLoss e.1 else s) s

theorem lightCheck_cons (s : State) (x : Nat × Nat) (xs : List (Nat × Nat)) :
    s.lightCheck (x :: xs) = (if x.2 < 1000 + 2 ^ 15 then s.laserLoss x.1 else s).lightCheck xs := rfl

theorem held_lightCheck (n : Bool) (s : State) (xs : List (Nat × Nat)) : (s.lightCheck xs).held n false false = s.held n false false :=
  held_foldl _ (fun _ _ => by simp) _ _

theorem mains_lightCheck (n z : Bool) (s : State) (xs : List (Nat × Nat)) : (s.lightCheck xs).mains n z = s.mains n z :=
  mains_foldl _ (fun _ _ => by simp) _ _

theorem recorded_lightCheck {q b : Nat} (hb : b < 32) (xs : List (Nat × Nat)) : ∀ s : State, s.recorded q b → (s.lightCheck xs).recorded q b := by
  induction xs with
  | nil => exact fun _ h => h
  | cons x xs ih =>
    intro s h
    rw [lightCheck_cons]
    split
    · exact ih _ (recorded_laserLoss _ hb h)
    · exact ih _ h

theorem lnkState_lightCheck_dark {q : Nat} (xs : List (Nat × Nat)) : ∀ s : State, s.lnkState q = 1 → (s.lightCheck xs).lnkState q = 1 := by
  induction xs with
  | nil => exact fun _ h => h
  | cons x xs ih =>
    intro s h
    rw [lightCheck_cons]
    split
    · exact ih _ (lnkState_laserLoss_dark _ h)
    · exact ih _ h

/-- Each port with too little light has that recorded, and is DARK where it may train. -/
theorem lightCheck_lost {x : Nat × Nat} (hx : x.2 < 1000 + 2 ^ 15) (xs : List (Nat × Nat)) : ∀ s : State, x ∈ xs →
    (s.lightCheck xs).recorded (pLnk x.1) Er.LNK_LASER_LOSS ∧ (s.portOn x.1 = true → (s.lightCheck xs).lnkState x.1 = 1) := by
  induction xs with
  | nil => intro s h; cases h
  | cons y ys ih =>
    intro s h
    rw [lightCheck_cons]
    rcases List.mem_cons.mp h with rfl | hin
    · rw [if_pos hx]
      exact ⟨recorded_lightCheck (by decide) _ _ (recorded_laserLoss_self s x.1),
        fun hon => lnkState_lightCheck_dark _ _ (lnkState_laserLoss_self hon)⟩
    · obtain ⟨hrec, hdark⟩ := ih (if y.2 < 1000 + 2 ^ 15 then s.laserLoss y.1 else s) hin
      refine ⟨hrec, fun hon => hdark ?_⟩
      split
      · rw [portOn_laserLoss]; exact hon
      · exact hon

/-- The ports' received powers as a sample finds them. -/
def State.powerShow (s : State) (xs : List (Nat × Nat)) : State := xs.foldl (fun s e => s.wr R.LNK_OE_PWR_PWR (pLnk e.1) e.2) s

theorem held_powerShow (n l e : Bool) (s : State) (xs : List (Nat × Nat)) : (s.powerShow xs).held n l e = s.held n l e :=
  held_foldl _ (fun _ _ => by simp (disch := decide)) _ _

theorem portOn_powerShow (xs : List (Nat × Nat)) (q : Nat) : ∀ s : State, (s.powerShow xs).portOn q = s.portOn q := by
  have one (s : State) (p v : Nat) : (s.wr R.LNK_OE_PWR_PWR p v).portOn q = s.portOn q := by
    simp (disch := decide) only [State.portOn, State.enabled, State.pageOn, State.domOn, State.fencedP, State.flag, State.rg_wr_fld]
  induction xs with
  | nil => exact fun _ => rfl
  | cons x xs ih => exact fun s => (ih _).trans (one ..)

theorem laserPorts_eq (inp : Nat) : laserPorts inp = [8 * (inp % 2) + inp / 2 % 2 + 2 * 0, 8 * (inp % 2) + inp / 2 % 2 + 2 * 1,
    8 * (inp % 2) + inp / 2 % 2 + 2 * 2, 8 * (inp % 2) + inp / 2 % 2 + 2 * 3] := rfl

/-- Each port of an input stands beside its own power. -/
theorem laserPorts_zip (inp a b c d : Nat) {k : Nat} (hk : k < 4) (g : Nat → Nat) :
    ((laserPorts inp).getD k 0, g ([a, b, c, d].getD k 0)) ∈ (laserPorts inp).zip ([a, b, c, d].map g) := by
  rw [laserPorts_eq]
  interval_cases k <;> simp

/-- The four ports of an input are distinct, so each shows its own power. -/
theorem rg_powerShow (s : State) (inp a b c d k : Nat) (hk : k < 4) :
    (s.powerShow ((laserPorts inp).zip [a, b, c, d])).rg R.LNK_OE_PWR_PWR (pLnk ((laserPorts inp).getD k 0)) = [a, b, c, d].getD k 0 % 2 ^ 16 := by
  rw [laserPorts_eq]
  generalize 8 * (inp % 2) + inp / 2 % 2 = base
  have width : R.LNK_OE_PWR_PWR.width = 16 := rfl
  interval_cases k <;> simp [State.powerShow, State.rg_wr, pLnk, width]

/-- What a sample leaves before it looks at each port's light. -/
def State.sampled (s : State) (inp a b c d : Nat) : State :=
  let ports := laserPorts inp
  let pw := [a, b, c, d].map pwrBias
  let s := s.powerShow (ports.zip [a, b, c, d])
  let mean := (pw.foldl (· + ·) 0) / 4
  let x := s.laser inp
  let first := x.newFrom.isSome
  let x := { x with
    firstN := x.firstN + b2n first, firstSum := x.firstSum + (if first then mean else 0)
    dayMin := min x.dayMin mean, daySum := x.daySum + mean, dayN := x.dayN + 1 }
  let base := NMap.get (0, 0) s.log.image.laserBase inp
  let known := s.log.image.laserBase.any (fun e => decide (e.1 = inp))
  let loss := pwrBias base.1 - mean
  let k := if known = true ∧ loss > 150 then (loss - 101) / 50 else 0
  let s := s.setLaser inp { x with steps := max x.steps k }
  let s := (List.range (k - x.steps)).foldl (fun s _ => ports.foldl (fun s p => s.raise (pLnk p) Er.LNK_LASER_AGEING loss) s) s
  if mean < 1700 + 2 ^ 15 then ports.foldl (fun s p => s.raise (pLnk p) Er.LNK_LASER_LOW) s else s

theorem exec_laserSample (s : State) (inp a b c d : Nat) :
    exec (.laserSample inp a b c d) s = .next ((s.sampled inp a b c d).lightCheck ((laserPorts inp).zip ([a, b, c, d].map pwrBias))) := rfl

@[simp ↓] theorem held_setLaser (n l e : Bool) (s : State) (i : Nat) (x : Laser) : (s.setLaser i x).held n l e = s.held n l e := held_net _ _ _ _ _ rfl
@[simp ↓] theorem mains_setLaser (n z : Bool) (s : State) (i : Nat) (x : Laser) : (s.setLaser i x).mains n z = s.mains n z := mains_net _ _ _ _ rfl

/-- After the powers, a sample changes only what the input keeps of itself, and reports. -/
theorem sampled_kept (s : State) (inp a b c d : Nat) (n l z : Bool) :
    (s.sampled inp a b c d).held n l false = (s.powerShow ((laserPorts inp).zip [a, b, c, d])).held n l false
      ∧ (s.sampled inp a b c d).mains n z = (s.powerShow ((laserPorts inp).zip [a, b, c, d])).mains n z := by
  have lowHeld (xs : List Nat) (k v : Nat) (s : State) : (xs.foldl (fun s p => s.raise (pLnk p) k v) s).held n l false = s.held n l false :=
    held_foldl _ (fun _ _ => held_raise ..) _ _
  have lowMains (xs : List Nat) (k v : Nat) (s : State) : (xs.foldl (fun s p => s.raise (pLnk p) k v) s).mains n z = s.mains n z :=
    mains_foldl _ (fun _ _ => mains_raise ..) _ _
  unfold State.sampled
  extract_lets ports pw u mean x first y base known loss k u₁ u₂
  have held₂ : u₂.held n l false = u.held n l false := (held_foldl _ (fun _ _ => lowHeld ..) _ _).trans (held_setLaser ..)
  have mains₂ : u₂.mains n z = u.mains n z := (mains_foldl _ (fun _ _ => lowMains ..) _ _).trans (mains_setLaser ..)
  constructor
  · split
    · exact (lowHeld ..).trans held₂
    · exact held₂
  · split
    · exact (lowMains ..).trans mains₂
    · exact mains₂

theorem portOn_sampled (s : State) (inp a b c d q : Nat) : (s.sampled inp a b c d).portOn q = s.portOn q := by
  obtain ⟨hheld, hmains⟩ := sampled_kept s inp a b c d true true true
  exact (portOn_of_kept hheld hmains q).trans (portOn_powerShow _ _ s)

/-- Each view shows the received power of each port. -/
theorem mainsCell_light {n z : Bool} (p : Nat) : mainsCell n z R.LNK_OE_PWR_PWR.id (pLnk p) = true := by
  unfold mainsCell
  rw [if_neg (by unfold pLnk pTop; omega), (by decide : baseIds.contains R.LNK_OE_PWR_PWR.id = true)]
  rfl

/-- A sample shows each port's power; a port with too little of it loses its light. -/
theorem laserSample_shows (s : State) (inp a b c d : Nat) :
    ∃ t, exec (.laserSample inp a b c d) s = .next t ∧ s.apart t ∧ ∀ k < 4,
      t.rg R.LNK_OE_PWR_PWR (pLnk ((laserPorts inp).getD k 0)) = [a, b, c, d].getD k 0 % 2 ^ 16
      ∧ (pwrBias ([a, b, c, d].getD k 0) < 1000 + 2 ^ 15 → t.recorded (pLnk ((laserPorts inp).getD k 0)) Er.LNK_LASER_LOSS
        ∧ (s.portOn ((laserPorts inp).getD k 0) = true → t.lnkState ((laserPorts inp).getD k 0) = 1)) := by
  refine ⟨_, exec_laserSample .., ?_, fun k hk => ⟨?_, fun hlow => ?_⟩⟩
  · exact apart_of_held ((held_lightCheck true ..).trans ((sampled_kept s inp a b c d true false true).1.trans (held_powerShow ..)))
  · rw [mains_rg ((mains_lightCheck true true ..).trans (sampled_kept s inp a b c d true true true).2) _ _ (mainsCell_light _)]
    exact rg_powerShow s inp a b c d k hk
  · have lost := laserPorts_zip inp a b c d hk pwrBias
    obtain ⟨hrec, hdark⟩ := lightCheck_lost (x := (_, pwrBias _)) hlow _ (s.sampled inp a b c d) lost
    exact ⟨hrec, fun hon => hdark ((portOn_sampled ..).trans hon)⟩

theorem laser_setLaser (s : State) (i : Nat) (x : Laser) : (s.setLaser i x).laser i = x := NMap.get_put_self ..

theorem laserDaily_ends {s : State} {inp : Nat} (h : (s.laser inp).dayN ≠ 0) :
    ∃ t, exec (.laserDaily inp) s = .next t ∧ t.laser inp = { s.laser inp with dayMin := 65535, daySum := 0, dayN := 0 } ∧ s.apart t := by
  refine ⟨_, congrArg Host.Outcome.next (if_neg h), ?_, ?_⟩
  · rw [State.laser, still_net (still_logEvent ..)]
    exact laser_setLaser ..
  · exact apart_of_held (l := true) (e := true) (by simp)

theorem laserBaselineSet_sets {s : State} {inp : Nat} (hnew : (s.laser inp).newFrom.isSome = true) (hn : (s.laser inp).firstN ≠ 0) :
    ∃ t, exec (.laserBaselineSet inp) s = .next t ∧ (t.laser inp).newFrom = none
      ∧ NMap.get (0, 0) t.log.image.laserBase inp = (pwrBias ((s.laser inp).firstSum / (s.laser inp).firstN), (s.laser inp).source) ∧ s.apart t := by
  have goes : ¬((s.laser inp).newFrom.isNone = true ∨ (s.laser inp).firstN = 0) := by
    simp [Option.isNone_iff_eq_none, Option.isSome_iff_ne_none.mp hnew, hn]
  refine ⟨_, congrArg Host.Outcome.next (if_neg goes), ?_, ?_, ?_⟩
  · rw [State.laser, still_net (still_logStateRec ..)]
    exact congrArg Laser.newFrom (laser_setLaser ..)
  · rw [still_image (still_logStateRec ..)]
    exact NMap.get_put_self ..
  · exact apart_trans (apart_of_held (l := true) (e := false) (by simp)) (apart_of_still (still_logStateRec ..))

/-! ### Time (R341, R342) -/

/-- What locks the time after an answer: θ, and the source. -/
def State.thetaShown (s : State) (p : Nat) (t3 t4 : Nat) : State :=
  ({ s with net := { s.net with t3 := t3, t4 := t4 } }.wr R.RTE_TIME_OFS_THETA pRte (satTheta (thetaOf s.net.t1 s.net.t2 t3 t4))).wr
    R.RTE_TIME_STATUS_SRC pRte p

/-- The first answer steps the TBC, a later one slews it. -/
def State.timeSteered (s : State) (z : Int) : State :=
  if s.net.stepped then
    let u := { s with net := { s.net with slewNeg := decide (z > 0), slew := z.natAbs } }
    if s.flag R.RTE_TIME_STATUS_LOCKED pRte = true ∧ z.natAbs > 16000 then u.raise pRte Er.RTE_TIME_JUMP else u
  else
    { s with
      tbc := wrap 64 ((s.tbc : Int) - z / 16)
      net := { s.net with
        stepped := true, slew := 0, tPort := none, before := (List.range 16).flatMap (fun q => (s.port q).sentChars.map (fun e => e.2.2)) } }

/-- An answer counts when it answers a character frame that the port sent, since the last step, and both frames lie within a millisecond. -/
def State.timeCounts (s : State) (p t3 : Nat) : Prop :=
  (∃ e ∈ (s.port p).sentChars, e.2.2 = t3) ∧ t3 ∉ s.net.before ∧ s.net.tPort = some p ∧ s.net.t2 < t3 + 1000000 ∧ t3 < s.net.t2 + 1000000

section
variable {s : State} {f : Frame} {i p : Nat}

/-- A TIME frame of the upstream partner either counts, and steers the time, or is dropped. -/
theorem exec_time (hf : s.rxFind 0 (fun f => decide (f.op = 8)) = some (i, f)) (hup : s.upstream = some p)
    (hroot : s.flag R.RTE_TIME_CTRL_ROOT pRte = false) (hsrc : f.src = s.peerChar p 4 4) (hlen : 16 ≤ f.data.length) :
    (s.timeCounts p (byteFld f.data 0 8) → exec .time s = .next (((((s.rxDrop 0 i).thetaShown p (byteFld f.data 0 8) (byteFld f.data 8 8)).timeSteered
      (thetaOf s.net.t1 s.net.t2 (byteFld f.data 0 8) (byteFld f.data 8 8))).wr R.RTE_TIME_STATUS_LOCKED pRte 1).wr R.RTE_TIME_STATUS_HOLDOVER pRte 0))
    ∧ (¬s.timeCounts p (byteFld f.data 0 8) → exec .time s = .next (s.rxDrop 0 i)) := by
  have takes : ¬((s.rxDrop 0 i).flag R.RTE_TIME_CTRL_ROOT pRte = true ∨ f.src ≠ (s.rxDrop 0 i).peerChar p 4 4 ∨ f.data.length < 16) := by
    rintro (h | h | h)
    · exact absurd (hroot.symm.trans h) (by decide)
    · exact h hsrc
    · omega
  have test : ((s.port p).sentChars.any (fun e => decide (e.2.2 = byteFld f.data 0 8)) = false
      ∨ s.net.before.contains (byteFld f.data 0 8) = true ∨ s.net.tPort ≠ some p
      ∨ (decide (s.net.t2 < byteFld f.data 0 8 + 1000000) && decide (byteFld f.data 0 8 < s.net.t2 + 1000000)) = false)
      ↔ ¬s.timeCounts p (byteFld f.data 0 8) := by
    have hany : ((s.port p).sentChars.any (fun e => decide (e.2.2 = byteFld f.data 0 8)) = false)
        ↔ ¬∃ e ∈ (s.port p).sentChars, e.2.2 = byteFld f.data 0 8 := by
      rw [← Bool.not_eq_true, List.any_eq_true]
      simp only [decide_eq_true_eq]
    have hnear : (decide (s.net.t2 < byteFld f.data 0 8 + 1000000) && decide (byteFld f.data 0 8 < s.net.t2 + 1000000)) = false
        ↔ ¬(s.net.t2 < byteFld f.data 0 8 + 1000000 ∧ byteFld f.data 0 8 < s.net.t2 + 1000000) := by
      rw [← Bool.not_eq_true, Bool.and_eq_true_iff, decide_eq_true_eq, decide_eq_true_eq]
    rw [hany, hnear, List.contains_iff_mem, State.timeCounts]
    simp only [not_and_or, ne_eq, not_not]
  constructor
  · intro hc
    refine congrArg Host.Outcome.next ?_
    rw [hf]
    dsimp only
    rw [show (s.rxDrop 0 i).upstream = some p from hup]
    dsimp only
    rw [if_neg takes]
    exact if_neg (fun h => test.mp h hc)
  · intro hc
    refine congrArg Host.Outcome.next ?_
    rw [hf]
    dsimp only
    rw [show (s.rxDrop 0 i).upstream = some p from hup]
    dsimp only
    rw [if_neg takes]
    exact if_pos (test.mpr hc)

end

/-- Steering writes no field but what reporting does. -/
theorem rg_timeSteered (s : State) (z : Int) (f : Fld) (i : Nat) (hf : f.id ∉ reportIds) : (s.timeSteered z).rg f i = s.rg f i := by
  unfold State.timeSteered
  split
  · dsimp only
    split
    · exact still_rg (still_raise ..) f i hf
    · rfl
  · rfl

theorem apart_timeSteered (s : State) (z : Int) : s.apart (s.timeSteered z) := by
  have reported (u : State) (hu : s.apart u) : s.apart (u.raise pRte Er.RTE_TIME_JUMP) := apart_trans hu (apart_of_still (still_raise ..))
  unfold State.timeSteered
  split
  · dsimp only
    split
    · exact reported _ ⟨rfl, rfl, fun _ _ => rfl⟩
    · exact ⟨rfl, rfl, fun _ _ => rfl⟩
  · exact ⟨rfl, rfl, fun _ _ => rfl⟩

/-- Before the first step an answer steps the TBC. -/
theorem timeSteered_first {s : State} (z : Int) (h : s.net.stepped = false) :
    (s.timeSteered z).tbc = wrap 64 ((s.tbc : Int) - z / 16) ∧ (s.timeSteered z).net.stepped = true ∧ (s.timeSteered z).net.tPort = none := by
  rw [State.timeSteered, if_neg (by simp [h])]
  exact ⟨rfl, rfl, rfl⟩

/-- A later answer slews it. -/
theorem timeSteered_later {s : State} (z : Int) (h : s.net.stepped = true) :
    (s.timeSteered z).tbc = s.tbc ∧ (s.timeSteered z).net.slew = z.natAbs ∧ (s.timeSteered z).net.slewNeg = decide (z > 0) := by
  rw [State.timeSteered, if_pos h]
  dsimp only
  split
  · rw [still_tbc (still_raise ..), still_net (still_raise ..)]
    exact ⟨rfl, rfl, rfl⟩
  · exact ⟨rfl, rfl, rfl⟩

theorem satTheta_lt (z : Int) : satTheta z < 2 ^ 32 := by
  unfold satTheta wrap
  omega

/-- An answer that counts sets θ, locks the time and steers it. -/
theorem time_steers (s : State) (i p t3 t4 : Nat) :
    let z := thetaOf s.net.t1 s.net.t2 t3 t4
    let t := ((((s.rxDrop 0 i).thetaShown p t3 t4).timeSteered z).wr R.RTE_TIME_STATUS_LOCKED pRte 1).wr R.RTE_TIME_STATUS_HOLDOVER pRte 0
    t.rg R.RTE_TIME_OFS_THETA pRte = satTheta z ∧ t.rg R.RTE_TIME_STATUS_LOCKED pRte = 1 ∧ t.rg R.RTE_TIME_STATUS_HOLDOVER pRte = 0 ∧ s.apart t
      ∧ (s.net.stepped = false → t.tbc = wrap 64 ((s.tbc : Int) - z / 16) ∧ t.net.stepped = true ∧ t.net.tPort = none)
      ∧ (s.net.stepped = true → t.tbc = s.tbc ∧ t.net.slew = z.natAbs ∧ t.net.slewNeg = decide (z > 0)) := by
  intro z t
  refine ⟨?_, ?_, State.rg_wr_self .., apart_trans (apart_trans ?_ (apart_timeSteered ((s.rxDrop 0 i).thetaShown p t3 t4) z)) ?_,
    timeSteered_first (s := (s.rxDrop 0 i).thetaShown p t3 t4) z, timeSteered_later (s := (s.rxDrop 0 i).thetaShown p t3 t4) z⟩
  · rw [State.rg_wr_fld _ _ _ _ (by decide), State.rg_wr_fld _ _ _ _ (by decide), rg_timeSteered _ _ _ _ (by decide), State.thetaShown,
      State.rg_wr_fld _ _ _ _ (by decide), State.rg_wr_self]
    exact Nat.mod_eq_of_lt (satTheta_lt z)
  · rw [State.rg_wr_fld _ _ _ _ (by decide), State.rg_wr_self]
    rfl
  · exact ⟨rfl, rfl, fun _ _ => rfl⟩
  · exact apart_trans (apart_wr ..) (apart_wr ..)

/-! ### Routing registers (R324, R327, R345) -/

theorem patchWrite_writes {s : State} {fn : Nat} (h : s.mayWrite fn pRte = true) (v : Nat) :
    ∃ t, exec (.patchWrite fn v) s = .next t ∧ s.apart t ∧ t.net.rx = s.net.rx
      ∧ NMap.get 0 t.net.patch (s.rg R.RTE_PATCH_IDX_IDX pRte) = s.rg R.RTE_PATCH_DATA_ENTRY pRte % 2 ^ 64 + v % 2 ^ 64 * 2 ^ 64 := by
  refine ⟨_, congrArg Host.Outcome.next (if_neg (by simp [h])), ⟨rfl, rfl, fun _ _ => rfl⟩, rfl, ?_⟩
  dsimp only
  rw [State.rg_wr_fld _ _ _ _ (by decide)]
  exact NMap.get_put_self ..

/-- The ports of a list that train begin anew, every port with `all`. -/
def State.retrain (s : State) (all : Bool) (xs : List Nat) : State :=
  xs.foldl (fun s p => if all = true ∨ (s.port p).training = true then s.trainBegin p false else s) s

theorem held_retrain (n : Bool) (s : State) (all : Bool) (xs : List Nat) : (s.retrain all xs).held n false false = s.held n false false :=
  held_foldl _ (fun _ _ => by simp) _ _

theorem mains_retrain (n z : Bool) (s : State) (all : Bool) (xs : List Nat) : (s.retrain all xs).mains n z = s.mains n z :=
  mains_foldl _ (fun _ _ => by simp) _ _

/-- A standby module adopts the address that is written. -/
def State.adopted (s : State) (v : Nat) : State :=
  let s := s.wr R.RTE_MADDR_MADDR pRte v
  let s := (s.wr R.RTE_MADDR_STANDBY pRte 0).wr R.RTE_INC_INC pRte (s.rg R.RTE_INC_INC pRte + 1)
  { s with net := { s.net with stepped := false, slew := 0 } }.wr R.RTE_TIME_STATUS_LOCKED pRte 0

section
variable {s : State} {fn : Nat}

theorem maddrWrite_standby (hw : s.mayWrite fn pRte = true) (hs : s.flag R.RTE_MADDR_STANDBY pRte = true) (v : Nat) :
    ∃ t, exec (.maddrWrite fn v) s = .next t ∧ t.maddr = v % 2 ^ 30 ∧ t.rg R.RTE_MADDR_STANDBY pRte = 0
      ∧ t.rg R.RTE_INC_INC pRte = (s.rg R.RTE_INC_INC pRte + 1) % 2 ^ 8 ∧ t.net.stepped = false ∧ s.apart t := by
  have runs : exec (.maddrWrite fn v) s = .next ((s.adopted v).retrain true (List.range 16)) := by
    refine congrArg Host.Outcome.next ((if_neg (by simp [hw, hs])).trans ?_)
    rw [hs]
    rfl
  have kept := mains_retrain true true (s.adopted v) true (List.range 16)
  refine ⟨_, runs, ?_, ?_, ?_, mains_stepped kept, apart_trans ?_ (apart_of_held (held_retrain true ..))⟩
  · rw [State.maddr, mains_rg kept _ _ (by decide), State.adopted, State.rg_wr_fld _ _ _ _ (by decide)]
    exact (State.rg_wr_fld _ _ _ _ (by decide)).trans ((State.rg_wr_fld _ _ _ _ (by decide)).trans (State.rg_wr_self ..))
  · rw [mains_rg kept _ _ (by decide), State.adopted, State.rg_wr_fld _ _ _ _ (by decide)]
    exact (State.rg_wr_fld _ _ _ _ (by decide)).trans (State.rg_wr_self ..)
  · rw [mains_rg kept _ _ (by decide), State.adopted, State.rg_wr_fld _ _ _ _ (by decide), State.rg_wr_fld _ _ _ _ (by decide)]
    exact State.rg_wr_self ..
  · exact ⟨rfl, rfl, fun _ _ => rfl⟩

theorem maddrWrite_ringOff (hw : s.mayWrite fn pRte = true) (hs : s.flag R.RTE_MADDR_STANDBY pRte = false) (hoff : ∀ p < 12, s.lnkState p = 0) (v : Nat) :
    ∃ t, exec (.maddrWrite fn v) s = .next t ∧ t.maddr = v % 2 ^ 30 ∧ s.apart t := by
  have ringOff : (List.range 12).all (fun p => decide (s.lnkState p = 0)) = true := by simpa [List.all_eq_true] using hoff
  have runs : exec (.maddrWrite fn v) s = .next ((s.wr R.RTE_MADDR_MADDR pRte v).retrain false (List.range 16)) := by
    refine congrArg Host.Outcome.next ((if_neg (by simp [hw, ringOff])).trans ?_)
    rw [hs]
    rfl
  refine ⟨_, runs, ?_, apart_trans (apart_wr ..) (apart_of_held (held_retrain true ..))⟩
  rw [State.maddr, mains_rg (mains_retrain true true ..) _ _ (by decide)]
  exact State.rg_wr_self ..

theorem maddrWrite_refused (hs : s.flag R.RTE_MADDR_STANDBY pRte = false) (hon : s.lnkState 3 ≠ 0) (v : Nat) :
    exec (.maddrWrite fn v) s = .next s := by
  have ringOn : (List.range 12).all (fun p => decide (s.lnkState p = 0)) = false := by
    rw [List.all_eq_false]
    exact ⟨3, by decide, by simp [hon]⟩
  exact congrArg Host.Outcome.next (if_pos (Or.inr ⟨hs, ringOn⟩))

end

/-- Settles O37, part by part: scans, light, time, and the routing registers. -/
theorem lightTimeRoutes : Obligations.LightTimeRoutes := by
  refine ⟨fun s p lane lo hi => ⟨?_, fun h => ⟨scanAbandon_ends h, laneMarginDone_ends h lo hi⟩⟩,
    fun s inp a b c d _ => ⟨laserSample_shows s inp a b c d, laserDaily_ends, laserBaselineSet_sets⟩, ?_,
    fun s fn v hw => ⟨patchWrite_writes hw v, fun hs => maddrWrite_standby hw hs v, fun hs hoff => maddrWrite_ringOff hw hs hoff v,
      fun hs hon => maddrWrite_refused hs hon v⟩⟩
  · exact fun hallow hquiet hup hidle hfree hrec => laneMarginGo_starts s p lane hallow hquiet hup hidle hfree hrec
  · intro s f i p hf hup hroot hsrc hlen
    obtain ⟨counts, drops⟩ := exec_time hf hup hroot hsrc hlen
    exact ⟨fun hc => ⟨_, counts hc, time_steers s i p _ _⟩, drops⟩

end Sys2Proof.Machine
end

section
/-!
SUPPORT. Switching a domain: what it changes of the fields by which the domains are governed.
-/

namespace Sys2Proof.Machine

/-! ### Bits -/

theorem bit_setBit (v k n : Nat) : bit (setBit v k) n = (bit v n || decide (n = k)) := by
  by_cases hn : n = k
  · subst hn
    simp [bit_setBit_self]
  · have other : bit (setBit v k) n = bit v n := by
      unfold setBit
      split
      · rfl
      · next hk =>
        rw [Bool.not_eq_true] at hk
        rcases Nat.lt_or_gt_of_ne hn with h | h
        · obtain ⟨d, rfl⟩ := Nat.exists_eq_add_of_lt h
          simp only [bit]
          rw [show 2 ^ (n + d + 1) = 2 ^ n * (2 * 2 ^ d) by ring, Nat.add_mul_div_left _ _ (by positivity), Nat.add_mul_mod_self_left]
        · obtain ⟨d, rfl⟩ := Nat.exists_eq_add_of_lt h
          simp only [bit]
          rw [show 2 ^ (k + d + 1) = 2 ^ (k + 1) * 2 ^ d by ring, ← Nat.div_div_eq_div_mul, div_setBit v k hk, Nat.div_div_eq_div_mul]
    simp [other, hn]

theorem bit_clrBit (v k n : Nat) : bit (clrBit v k) n = (bit v n && decide (n ≠ k)) := by
  by_cases hk : bit v k = true
  · have clear := bit_clrBit_self v k
    have low : 2 ^ k ≤ v := by
      by_contra hlt
      simp [bit, Nat.div_eq_of_lt (Nat.lt_of_not_le hlt)] at hk
    have back : setBit (clrBit v k) k = v := by
      rw [setBit, if_neg (by simp [clear]), clrBit, if_pos hk]
      exact Nat.sub_add_cancel low
    have whole := bit_setBit (clrBit v k) k n
    rw [back] at whole
    by_cases hn : n = k
    · subst hn
      simp [clear]
    · simp [whole, hn]
  · rw [clrBit, if_neg hk]
    by_cases hn : n = k
    · subst hn
      simpa using hk
    · simp [hn]

/-- Clearing a low bit leaves what lies above. -/
theorem div_clrBit_low (v : Nat) {d : Nat} (hd : d < 16) : clrBit v d % 2 ^ 25 % 2 ^ 25 / 2 ^ 16 = v % 2 ^ 25 / 2 ^ 16 := by
  have modulus : (2 ^ 25 : Nat) = 2 ^ 16 * 2 ^ 9 := by norm_num
  have same : clrBit v d / 2 ^ 16 = v / 2 ^ 16 := by
    unfold clrBit
    split
    · next h =>
      have clear := bit_clrBit_self v d
      rw [clrBit, if_pos h] at clear
      have low : 2 ^ d ≤ v := by
        by_contra hlt
        simp [bit, Nat.div_eq_of_lt (Nat.lt_of_not_le hlt)] at h
      have above := div_setBit _ _ clear
      rw [Nat.sub_add_cancel low] at above
      have split16 : (2 ^ 16 : Nat) = 2 ^ (d + 1) * 2 ^ (15 - d) := by
        rw [← pow_add]
        congr 1
        omega
      rw [split16, ← Nat.div_div_eq_div_mul, ← Nat.div_div_eq_div_mul, above]
    · rfl
  rw [Nat.mod_mod, modulus, Nat.mod_mul_right_div_self, Nat.mod_mul_right_div_self, same]

/-! ### The registers of a domain -/

/-- The registers of TOP, the Keeper and power stay when a domain's are reset. -/
theorem rg_domRegs (s : State) {d : Nat} (hd : d < 24) (f : Fld) (i : Nat) (hf : f.id / 32768 ∈ [0x10, 0x11, 0x12]) :
    (s.domRegs d).rg f i = s.rg f i := by
  refine rg_dropRegs _ _ _ _ ?_
  have notBanked : ¬(if d = 23 then [0x50, 0x51, 0x52, 0x40, 0x53, 0x22] else if d = 21 then [0x31, 0x32] else []).contains (f.id / 32768) = true := by
    simp only [List.mem_cons, List.not_mem_nil, or_false] at hf
    split
    · rcases hf with h | h | h <;> rw [h] <;> decide
    · split
      · rcases hf with h | h | h <;> rw [h] <;> decide
      · simp
  have page : f.id / 32768 = blkOf i → domainOf i ≠ d := by
    intro hb
    have aon : domainOf i = 24 := by
      unfold domainOf
      rw [← hb]
      simp only [List.mem_cons, List.not_mem_nil, or_false] at hf
      rcases hf with h | h | h <;> rw [h] <;> rfl
    omega
  have block : ¬f.id / 32768 = 0 := by
    intro h
    rw [h] at hf
    revert hf
    decide
  rw [if_neg block]
  simp only [Bool.or_eq_false_iff, Bool.and_eq_false_iff, decide_eq_false_iff_not]
  refine ⟨by simpa using notBanked, ?_⟩
  by_cases h : f.id / 32768 = blkOf i
  · exact Or.inl (page h)
  · exact Or.inr h

/-- The header of a page of another domain stays. -/
theorem rg_domRegs_hdr (s : State) {d : Nat} (f : Fld) (i : Nat) (hf : f.id < 32768) (hi : domainOf i ≠ d) : (s.domRegs d).rg f i = s.rg f i := by
  refine rg_dropRegs _ _ _ _ ?_
  rw [if_pos (by omega)]
  simp [hi]

/-! ### The view that a domain's switching keeps -/

/-- The view `State.mains` without the fields of the domains that switch. -/
def State.grid (near seats : Bool) (s : State) : Mains :=
  { s.mains near seats with regs := fun f i => if f.id / 32768 ∈ [0x10, 0x11, 0x12] then (s.mains near seats).regs f i else 0 }

section
variable {n z : Bool} {s t u : State}

theorem grid_of_mains (h : t.mains n z = s.mains n z) : t.grid n z = s.grid n z := by
  simp only [State.grid, h]

theorem grid_rg (h : t.grid n z = s.grid n z) (f : Fld) (i : Nat) (hf : mainsCell n z f.id i = true) (hb : f.id / 32768 ∈ [0x10, 0x11, 0x12]) :
    t.rg f i = s.rg f i := by
  have cell := congrFun (congrFun (congrArg Mains.regs h) f) i
  simp only [State.grid, if_pos hb, State.mains, hf, if_true] at cell
  exact cell

theorem grid_pwr (h : t.grid true z = s.grid true z) : t.pwr = s.pwr := congrArg Mains.pwr h
theorem grid_airflow (h : t.grid n z = s.grid n z) : t.pwr.airflow = s.pwr.airflow := congrArg (PwrSt.airflow ∘ Mains.pwr) h
theorem grid_boot (h : t.grid n z = s.grid n z) : t.boot = s.boot := congrArg Mains.boot h
theorem grid_tbc (h : t.grid n z = s.grid n z) : t.tbc = s.tbc := congrArg Mains.tbc h
theorem grid_high (h : t.grid n z = s.grid n z) : t.rg R.PWR_DOM_STATUS_ON pPwr % 2 ^ 25 / 2 ^ 16
    = s.rg R.PWR_DOM_STATUS_ON pPwr % 2 ^ 25 / 2 ^ 16 := congrArg Mains.high h

/-- The view is kept where each of its parts is. -/
theorem grid_ext (hr : ∀ f i, mainsCell n z f.id i = true → f.id / 32768 ∈ [0x10, 0x11, 0x12] → t.rg f i = s.rg f i)
    (hon : t.rg R.PWR_DOM_STATUS_ON pPwr % 2 ^ 25 / 2 ^ 16 = s.rg R.PWR_DOM_STATUS_ON pPwr % 2 ^ 25 / 2 ^ 16) (hp : t.pwr = s.pwr) (hb : t.boot = s.boot)
    (ht : t.tbc = s.tbc) (hs : t.net.stepped = s.net.stepped) : t.grid n z = s.grid n z := by
  have cells : (fun (f : Fld) i => if f.id / 32768 ∈ [0x10, 0x11, 0x12] then (t.mains n z).regs f i else 0)
      = fun (f : Fld) i => if f.id / 32768 ∈ [0x10, 0x11, 0x12] then (s.mains n z).regs f i else 0 := by
    funext f i
    split
    · next hblk =>
      simp only [State.mains]
      split
      · next hc => exact hr f i hc hblk
      · rfl
    · rfl
  simp only [State.grid, cells]
  simp only [State.mains, hon, hp, hb, ht, hs]

/-- A register written alike keeps the view. -/
theorem grid_wr_congr (h : t.grid n z = s.grid n z) (f : Fld) (i v : Nat) : (t.wr f i v).grid n z = (s.wr f i v).grid n z := by
  have cells : (fun (g : Fld) j => if g.id / 32768 ∈ [0x10, 0x11, 0x12] then ((t.wr f i v).mains n z).regs g j else 0)
      = fun (g : Fld) j => if g.id / 32768 ∈ [0x10, 0x11, 0x12] then ((s.wr f i v).mains n z).regs g j else 0 := by
    funext g j
    split
    · next hblk =>
      simp only [State.mains]
      split
      · next hc => rw [State.rg_wr, State.rg_wr, grid_rg h g j hc hblk]
      · rfl
    · rfl
  have high : (t.wr f i v).rg R.PWR_DOM_STATUS_ON pPwr % 2 ^ 25 / 2 ^ 16 = (s.wr f i v).rg R.PWR_DOM_STATUS_ON pPwr % 2 ^ 25 / 2 ^ 16 := by
    rw [State.rg_wr, State.rg_wr]
    split
    · rfl
    · exact grid_high h
  have hp : (t.mains n z).pwr = (s.mains n z).pwr := by
    have kept := congrArg Mains.pwr h
    exact kept
  have hs : t.net.stepped = s.net.stepped := congrArg Mains.stepped h
  have boot := grid_boot h
  have tbc := grid_tbc h
  have hb : (t.wr f i v).boot = (s.wr f i v).boot := boot
  have ht : (t.wr f i v).tbc = (s.wr f i v).tbc := tbc
  have hw : ((t.wr f i v).mains n z).pwr = ((s.wr f i v).mains n z).pwr := hp
  have hn : (t.wr f i v).net.stepped = (s.wr f i v).net.stepped := hs
  simp only [State.grid, cells]
  simp only [State.mains, high, hb, ht, hn, Mains.mk.injEq, true_and, and_true] at hw ⊢
  exact hw

/-- Which domains are on is in the view with `near`. -/
theorem grid_on (h : t.grid true z = s.grid true z) : t.rg R.PWR_DOM_STATUS_ON pPwr = s.rg R.PWR_DOM_STATUS_ON pPwr :=
  grid_rg h _ _ (by cases z <;> decide) (by decide)

end

/-! ### Off -/

/-- What the units of a domain lose as it goes off. -/
def State.domDrop (s : State) (d : Nat) : State :=
  if d < 16 then
    (clustersIn d).foldl (fun s n =>
      let s := (List.range 16).foldl (fun s i => (s.coreClear (16 * n + i)).corePageClear (16 * n + i)) s
      let s := { s.lose (aSpad (16 * n) 0) (aSpad (16 * n + 16) 0) with poison := s.poison.filter (fun e =>
          decide (e.1 < aSpad (16 * n) 0 / 64) || decide (aSpad (16 * n + 16) 0 / 64 ≤ e.1)) }
      { s with hbm := { s.hbm with tlb := Map.del n s.hbm.tlb } }) s
  else if d = 16 then (List.range 64).foldl State.l2Drop s
  else if d = 17 then s.lose (aClmem 0 0) (aClmem 32 0)
  else if d = 18 then s.lose (aClmem 32 0) (aClmem 64 0)
  else if d ≤ 20 then
    (domStacks d).foldl (fun s m =>
      let s := (s.wcb m).foldl (fun s e => s.wcbDrain m e) s
      let s := s.setWcb m []
      { s with hbm := { s.hbm with selfRefresh := NMap.put m true s.hbm.selfRefresh } }) s
  else if d ≤ 22 then
    let s := (domPorts d).foldl State.portDisable s
    let s := { s with net := { s.net with cached := s.net.cached.filter (fun e => decide (e.1 % 2 ≠ d - 21)) } }
    if d = 21 then { s with net := { s.net with exc := [], patch := [], flows := [] } } else s
  else if d = 23 then
    { s with
      host := { HostSt.init with perst := s.host.perst }, xlt := [], dbg := [], step := [], coll := .init, sig := []
      hbm := { s.hbm with farWait := [], farLow := 0, tlb := [] } }.emit (.pin 3 0)
  else s

/-- The domain's registers return to reset, RTE.INC as it was (R444). -/
def State.domFresh (s : State) (d : Nat) : State :=
  if d = 21 then (s.domRegs d).wr R.RTE_INC_INC pRte (s.rg R.RTE_INC_INC pRte) else s.domRegs d

theorem domLose_eq (s : State) (d : Nat) : s.domLose d
    = ((s.domDrop d).domFresh d).wr R.PWR_DOM_STATUS_ON pPwr (clrBit (((s.domDrop d).domFresh d).rg R.PWR_DOM_STATUS_ON pPwr) d) := rfl

section
variable (n z : Bool) (s : State)

@[simp ↓] theorem mains_domDrop (d : Nat) : (s.domDrop d).mains n z = s.mains n z := by
  have cluster (m : Nat) (s : State) : ((List.range 16).foldl (fun s i => (s.coreClear (16 * m + i)).corePageClear (16 * m + i)) s).mains n z = s.mains n z :=
    mains_foldl _ (fun _ _ => by simp) _ _
  have stack (m : Nat) (xs : List WcbEntry) (s : State) : (xs.foldl (fun s e => s.wcbDrain m e) s).mains n z = s.mains n z :=
    mains_foldl _ (fun _ _ => by simp) _ _
  have ports (xs : List Nat) (s : State) : (xs.foldl State.portDisable s).mains n z = s.mains n z := mains_foldl _ (fun _ _ => by simp) _ _
  unfold State.domDrop
  split
  · exact mains_foldl _ (fun _ _ => by simp [cluster]) _ _
  · split
    · exact mains_foldl _ (fun _ _ => by simp) _ _
    · split
      · rfl
      · split
        · rfl
        · split
          · refine mains_foldl _ (fun s m => ?_) _ _
            dsimp only
            rw [mains_hbm, mains_setWcb]
            exact stack ..
          · split
            · rw [← ports (domPorts d) s]
              generalize (domPorts d).foldl State.portDisable s = u
              dsimp only
              split <;> exact mains_of_parts rfl rfl rfl rfl rfl
            · split
              · exact mains_of_parts rfl rfl rfl rfl rfl
              · rfl

theorem grid_domFresh {d : Nat} (hd : d < 24) : (s.domFresh d).grid n z = s.grid n z := by
  have regs (f : Fld) (i : Nat) (hf : f.id / 32768 ∈ [0x10, 0x11, 0x12]) : (s.domFresh d).rg f i = s.rg f i := by
    unfold State.domFresh
    split
    · rw [State.rg_wr_fld _ _ _ _ (fun e => by rw [e] at hf; revert hf; decide)]
      exact rg_domRegs s hd f i hf
    · exact rg_domRegs s hd f i hf
  refine grid_ext (fun f i _ hf => regs f i hf) (congrArg (· % 2 ^ 25 / 2 ^ 16) (regs _ _ (by decide))) ?_ ?_ ?_ ?_ <;> (unfold State.domFresh; split <;> rfl)

end

section
variable {n z : Bool} {s : State} {d e : Nat}

/-- A domain that goes off leaves all the view but its own bit. -/
theorem grid_domLose (hd : d < 24) : (s.domLose d).grid n z
    = (s.wr R.PWR_DOM_STATUS_ON pPwr (clrBit (s.rg R.PWR_DOM_STATUS_ON pPwr) d)).grid n z := by
  have kept (n z : Bool) : ((s.domDrop d).domFresh d).grid n z = s.grid n z := (grid_domFresh n z _ hd).trans (grid_of_mains (mains_domDrop n z s d))
  rw [domLose_eq, grid_on (kept true true)]
  exact grid_wr_congr (kept n z) _ _ _

/-- A CG domain that goes off leaves all of the view without `near`. -/
theorem grid_domLose_far (hd : d < 16) : (s.domLose d).grid false z = s.grid false z := by
  refine (grid_domLose (by omega)).trans (grid_ext (fun f i hc _ => ?_) ?_ rfl rfl rfl rfl)
  · exact State.rg_wr_fld _ _ _ _ (fun h => by rw [h] at hc; revert hc; unfold mainsCell; split <;> cases z <;> decide)
  · rw [State.rg_wr_self]
    exact div_clrBit_low _ hd

theorem rg_domLose_on (hd : d < 24) : (s.domLose d).rg R.PWR_DOM_STATUS_ON pPwr = clrBit (s.rg R.PWR_DOM_STATUS_ON pPwr) d % 2 ^ 25 :=
  (grid_on (z := true) (grid_domLose hd)).trans (State.rg_wr_self ..)

theorem domOn_domLose (hd : d < 24) (he : e < 24) : (s.domLose d).domOn e = (s.domOn e && decide (e ≠ d)) := by
  have aon : decide (e = 24) = false := by simp; omega
  simp only [State.domOn, rg_domLose_on hd, bit_mod _ (by omega : e < 25), bit_clrBit, aon, Bool.false_or]

end

/-! ### On -/

/-- The units of a domain that are fenced by escalation or by the log show it as the domain comes on. -/
def State.domFences (s : State) (d : Nat) : State :=
  let s := (s.recov.fenced.filter (fun e => decide (domainOf e.1 = d))).foldl (fun s e => s.wr R.HDR_STATUS_FENCED e.1 1) s
  (s.log.image.retired.filter (fun e => decide (e.1.1 = 9) && decide (e.2 ≠ 0) && decide (domainOf e.1.2 = d))).foldl
    (fun s e => s.wr R.HDR_STATUS_FENCED e.1.2 1) s

/-- What the Keeper loads into a domain that is on. -/
def State.domLoad (s : State) (d : Nat) : State :=
  let s := (domPages d).foldl (fun s p => s.wr R.HDR_STATUS_READY p 1) s
  if d < 16 then
    let s := (clustersIn d).foldl (fun s n => (List.range 16).foldl (fun s i => s.coreLoad (16 * n + i)) s) s
    if s.rg (R.PWR_SEG_STATE_STATE d) pPwr = 0 then s else s.wr R.HDR_STATUS_DEGRADED pPwr 1
  else if d = 19 ∨ d = 20 then
    (domStacks d).foldl (fun s m =>
      { s.memLoad m with hbm := { (s.memLoad m).hbm with selfRefresh := Map.del m s.hbm.selfRefresh } }) s
  else if d = 21 ∨ d = 22 then (domPorts d).foldl State.portLoad s
  else if d = 23 then s.emit (.pin 3 1)
  else s

theorem domRise_eq (s : State) (d : Nat) : s.domRise d
    = (((s.domFresh d).domFences d).wr R.PWR_DOM_STATUS_ON pPwr (setBit (((s.domFresh d).domFences d).rg R.PWR_DOM_STATUS_ON pPwr) d)).domLoad d := rfl

section
variable (n z : Bool) (s : State)

@[simp ↓] theorem mains_domFences (d : Nat) : (s.domFences d).mains n z = s.mains n z := by
  unfold State.domFences
  dsimp only
  rw [mains_foldl _ (fun _ _ => mains_wr _ _ _ _ _ _ (by decide)), mains_foldl _ (fun _ _ => mains_wr _ _ _ _ _ _ (by decide))]

@[simp ↓] theorem mains_fenceCore (c cause : Nat) : (s.fenceCore c cause).mains n false = s.mains n false := by
  simp (disch := decide) [State.fenceCore]

@[simp ↓] theorem mains_coreLoad (c : Nat) : (s.coreLoad c).mains n false = s.mains n false := by
  unfold State.coreLoad
  extract_lets live u v w
  have hu : u.mains n false = s.mains n false := by simp (disch := decide) [u]
  have hv : v.mains n false = s.mains n false := by
    dsimp only [v]
    split
    · simp (disch := decide) [hu]
    · exact hu
  have hw : w.mains n false = s.mains n false := by simp (disch := decide) [w, hv]
  simp (disch := decide) [hv, hw]

@[simp ↓] theorem mains_memLoad (m : Nat) : (s.memLoad m).mains n z = s.mains n z := by
  unfold State.memLoad
  dsimp only
  rw [mains_foldl _ (fun _ _ => by split <;> simp (disch := decide))]
  simp (disch := decide)

@[simp ↓] theorem mains_domLoad (d : Nat) : (s.domLoad d).mains n false = s.mains n false := by
  have ready : ((domPages d).foldl (fun s p => s.wr R.HDR_STATUS_READY p 1) s).mains n false = s.mains n false :=
    mains_foldl _ (fun _ _ => mains_wr _ _ _ _ _ _ (by decide)) _ _
  have cluster (m : Nat) (s : State) : ((List.range 16).foldl (fun s i => s.coreLoad (16 * m + i)) s).mains n false = s.mains n false :=
    mains_foldl _ (fun _ _ => by simp) _ _
  unfold State.domLoad
  rw [← ready]
  generalize (domPages d).foldl (fun s p => s.wr R.HDR_STATUS_READY p 1) s = u
  have cores : ((clustersIn d).foldl (fun s n => (List.range 16).foldl (fun s i => s.coreLoad (16 * n + i)) s) u).mains n false = u.mains n false :=
    mains_foldl _ (fun s m => cluster m s) _ _
  dsimp only
  split
  · split
    · exact cores
    · rw [mains_wr _ _ _ _ _ _ (by decide), cores]
  · split
    · exact mains_foldl _ (fun _ _ => by simp) _ _
    · split
      · exact mains_foldl _ (fun _ _ => by simp) _ _
      · split <;> rfl

end

section
variable {n z : Bool} {s : State} {d e : Nat}

/-- A domain that comes on leaves all the view but its own bit; of the presence fields, what its arrays leave. -/
theorem grid_domRise (hd : d < 24) : (s.domRise d).grid n false
    = (s.wr R.PWR_DOM_STATUS_ON pPwr (setBit (s.rg R.PWR_DOM_STATUS_ON pPwr) d)).grid n false := by
  have kept (n : Bool) : ((s.domFresh d).domFences d).grid n false = s.grid n false :=
    (grid_of_mains (mains_domFences n false _ d)).trans (grid_domFresh n false _ hd)
  rw [domRise_eq, grid_of_mains (mains_domLoad n _ d), grid_on (kept true)]
  exact grid_wr_congr (kept n) _ _ _

theorem rg_domRise_on (hd : d < 24) : (s.domRise d).rg R.PWR_DOM_STATUS_ON pPwr = setBit (s.rg R.PWR_DOM_STATUS_ON pPwr) d % 2 ^ 25 :=
  (grid_on (z := false) (grid_domRise hd)).trans (State.rg_wr_self ..)

theorem domOn_domRise (hd : d < 24) (he : e < 24) : (s.domRise d).domOn e = (s.domOn e || decide (e = d)) := by
  have aon : decide (e = 24) = false := by simp; omega
  simp only [State.domOn, rg_domRise_on hd, bit_mod _ (by omega : e < 25), bit_setBit, aon, Bool.false_or]

/-- Of the view but which domains are on, a domain's switching keeps all. -/
theorem rg_domLose (hd : d < 24) (f : Fld) (i : Nat) (hf : mainsCell true true f.id i = true) (hb : f.id / 32768 ∈ [0x10, 0x11, 0x12])
    (hon : f.id ≠ R.PWR_DOM_STATUS_ON.id) : (s.domLose d).rg f i = s.rg f i :=
  (grid_rg (grid_domLose hd) f i hf hb).trans (State.rg_wr_fld _ _ _ _ hon)

theorem rg_domRise (hd : d < 24) (f : Fld) (i : Nat) (hf : mainsCell true false f.id i = true) (hb : f.id / 32768 ∈ [0x10, 0x11, 0x12])
    (hon : f.id ≠ R.PWR_DOM_STATUS_ON.id) : (s.domRise d).rg f i = s.rg f i :=
  (grid_rg (grid_domRise hd) f i hf hb).trans (State.rg_wr_fld _ _ _ _ hon)

theorem pwr_domLose (hd : d < 24) : (s.domLose d).pwr = s.pwr := (grid_pwr (z := true) (grid_domLose hd)).trans rfl
theorem pwr_domRise (hd : d < 24) : (s.domRise d).pwr = s.pwr := (grid_pwr (z := false) (grid_domRise hd)).trans rfl

end

end Sys2Proof.Machine
end

section
/-!
SUPPORT. Power domains on and off, failed segments, and interconnect wear.
-/

namespace Sys2Proof.Machine

/-! ### Requests (R443) -/

theorem filter_range24 : ∀ d < 24, (List.range 24).filter (fun e => decide (e = d)) = [d] := by decide

section
variable {s : State} {d : Nat}

theorem domOn_eq_bit {e : Nat} (he : e < 24) : s.domOn e = bit (s.rg R.PWR_DOM_STATUS_ON pPwr) e := by
  have aon : decide (e = 24) = false := by simp; omega
  rw [State.domOn, aon, Bool.false_or]

/-- What a request asks to turn on: the domains of the mask that are off. -/
def State.askOn (s : State) (mask : Nat) : List Nat := (List.range 24).filter (fun d => bit mask d && !s.domOn d)

/-- What a request asks to turn off. -/
def State.askOff (s : State) (mask : Nat) : List Nat := (List.range 24).filter (fun d => !(bit mask d) && s.domOn d)

theorem askOn_setBit (hd : d < 24) (hoff : s.domOn d = false) : s.askOn (setBit (s.rg R.PWR_DOM_STATUS_ON pPwr) d) = [d] := by
  rw [← filter_range24 d hd]
  refine List.filter_congr fun e he => ?_
  have he := List.mem_range.mp he
  rw [bit_setBit, ← domOn_eq_bit he]
  by_cases h : e = d
  · subst h
    simp [hoff]
  · simp [h]

theorem askOff_setBit (k : Nat) : s.askOff (setBit (s.rg R.PWR_DOM_STATUS_ON pPwr) k) = [] := by
  refine List.filter_eq_nil_iff.mpr fun e he => ?_
  rw [bit_setBit, ← domOn_eq_bit (List.mem_range.mp he)]
  cases s.domOn e <;> simp

theorem askOn_clrBit (k : Nat) : s.askOn (clrBit (s.rg R.PWR_DOM_STATUS_ON pPwr) k) = [] := by
  refine List.filter_eq_nil_iff.mpr fun e he => ?_
  rw [bit_clrBit, ← domOn_eq_bit (List.mem_range.mp he)]
  cases s.domOn e <;> simp

theorem askOff_clrBit (hd : d < 24) (hon : s.domOn d = true) : s.askOff (clrBit (s.rg R.PWR_DOM_STATUS_ON pPwr) d) = [d] := by
  rw [← filter_range24 d hd]
  refine List.filter_congr fun e he => ?_
  have he := List.mem_range.mp he
  rw [bit_clrBit, ← domOn_eq_bit he]
  by_cases h : e = d
  · subst h
    simp [hon]
  · cases s.domOn e <;> simp [h]

/-- The domains that those asked for need and that are off. -/
def State.askDeps (s : State) (on : List Nat) : List Nat := ((on.flatMap domDeps).eraseDups).filter (fun d => !s.domOn d && !on.contains d)

/-- The order in which domains come on: the cluster memories first. -/
def State.askOrder (s : State) (on : List Nat) : List Nat :=
  (s.askDeps on ++ on).filter (fun d => decide (d = 17 ∨ d = 18)) ++ on.filter (fun d => decide (d ≠ 17 ∧ d ≠ 18))

/-- The status of a request. -/
def State.askStatus (s : State) (on off : List Nat) : Nat :=
  if on.any s.domFenced then St.DOMAIN_FENCED
  else if off.any (fun d => (on.flatMap domDeps).contains d) then St.DOMAIN_DEPENDENT
  else ((off.map s.domOffStatus).find? (fun x => decide (x ≠ St.OK))).getD St.OK

/-- A request is accepted: its domains are to switch. -/
def State.asked (s : State) (mask : Nat) (on off : List Nat) : State :=
  ({ s with pwr := { s.pwr with switchOn := s.askOrder on, switchOff := off } }.wr R.PWR_DOM_CTRL_ON pPwr
    (maskOf 25 (fun d => bit mask d || (s.askOrder on).contains d || decide (d = 24)))).wr R.PWR_DOM_RESULT_DONE pPwr 0

theorem domRequest_eq (hdone : s.flag R.PWR_DOM_RESULT_DONE pPwr = true) (mask : Nat) : s.domRequest mask
    = if s.askStatus (s.askOn mask) (s.askOff mask) ≠ St.OK then s.domResult (s.askStatus (s.askOn mask) (s.askOff mask))
      else if s.askOn mask = [] ∧ s.askOff mask = [] then s.domResult St.OK else s.asked mask (s.askOn mask) (s.askOff mask) :=
  if_neg (by simp [hdone])

theorem domResult_result (s : State) {st : Nat} (hst : st < 2 ^ 16) : (s.domResult st).rg R.PWR_DOM_RESULT_STATUS pPwr = st
    ∧ (s.domResult st).rg R.PWR_DOM_RESULT_DONE pPwr = 1 ∧ { s.domResult st with regs := s.regs } = s := by
  refine ⟨(State.rg_wr_self ..).trans (Nat.mod_eq_of_lt hst), ?_, rfl⟩
  rw [State.domResult, State.rg_wr_fld _ _ _ _ (by decide), State.rg_wr_self]
  rfl

theorem asked_result (s : State) (mask : Nat) (on off : List Nat) : (s.asked mask on off).rg R.PWR_DOM_RESULT_DONE pPwr = 0
    ∧ { s.asked mask on off with regs := s.regs, pwr := s.pwr } = s := ⟨State.rg_wr_self .., rfl⟩

theorem mem_askOrder_self {on : List Nat} (h : d ∈ on) : d ∈ s.askOrder on := by
  by_cases hd : d = 17 ∨ d = 18
  · exact List.mem_append_left _ (List.mem_filter.mpr ⟨List.mem_append_right _ h, by simpa using hd⟩)
  · exact List.mem_append_right _ (List.mem_filter.mpr ⟨h, by simpa using hd⟩)

/-- Only cluster memories are needed by a domain. -/
theorem domDeps_sram {e : Nat} (h : e ∈ domDeps d) : e = 17 ∨ e = 18 := by
  unfold domDeps at h
  split at h
  · exact Or.inl (List.mem_singleton.mp h)
  · split at h
    · exact Or.inr (List.mem_singleton.mp h)
    · split at h
      · simpa using h
      · cases h

theorem mem_askOrder_dep {e : Nat} (h : e ∈ domDeps d) (hoff : s.domOn e = false) : e ∈ s.askOrder [d] := by
  by_cases hed : e = d
  · exact mem_askOrder_self (by simp [hed])
  · refine List.mem_append_left _ (List.mem_filter.mpr ⟨List.mem_append_left _ (List.mem_filter.mpr ⟨?_, ?_⟩), by simpa using domDeps_sram h⟩)
    · simpa using h
    · simp [hoff, hed]

variable {req : Nat}

theorem exec_domainOn (hw : s.mayWrite req pPwr = true) (hd : d < 24) :
    exec (.domainOn req d) s = .next (s.domRequest (setBit (s.rg R.PWR_DOM_STATUS_ON pPwr) d)) :=
  congrArg Host.Outcome.next (if_pos ⟨hw, hd⟩)

theorem exec_domainOff (hw : s.mayWrite req pPwr = true) (hd : d < 24) :
    exec (.domainOff req d) s = .next (s.domRequest (clrBit (s.rg R.PWR_DOM_STATUS_ON pPwr) d)) :=
  congrArg Host.Outcome.next (if_pos ⟨hw, hd⟩)

/-- A request to turn a domain on is accepted, with what the domain needs, unless it is fenced. -/
theorem domainOn_answers (hw : s.mayWrite req pPwr = true) (hd : d < 24) (hdone : s.flag R.PWR_DOM_RESULT_DONE pPwr = true) (hoff : s.domOn d = false) :
    (s.domFenced d = false → ∃ t, exec (.domainOn req d) s = .next t ∧ t.rg R.PWR_DOM_RESULT_DONE pPwr = 0 ∧ d ∈ t.pwr.switchOn ∧ t.pwr.switchOff = []
      ∧ (∀ e ∈ domDeps d, s.domOn e = false → e ∈ t.pwr.switchOn) ∧ { t with regs := s.regs, pwr := s.pwr } = s)
    ∧ (s.domFenced d = true → ∃ t, exec (.domainOn req d) s = .next t ∧ t.rg R.PWR_DOM_RESULT_STATUS pPwr = St.DOMAIN_FENCED
      ∧ t.rg R.PWR_DOM_RESULT_DONE pPwr = 1 ∧ { t with regs := s.regs } = s) := by
  rw [exec_domainOn hw hd, domRequest_eq hdone, askOn_setBit hd hoff, askOff_setBit]
  constructor
  · intro hfree
    have ok : s.askStatus [d] [] = St.OK := by simp [State.askStatus, hfree]
    rw [if_neg (by simp [ok]), if_neg (by simp)]
    obtain ⟨hres, hrest⟩ := asked_result s (setBit (s.rg R.PWR_DOM_STATUS_ON pPwr) d) [d] []
    exact ⟨_, rfl, hres, mem_askOrder_self (List.mem_singleton_self d), rfl, fun e he hoff => mem_askOrder_dep he hoff, hrest⟩
  · intro hfenced
    have fenced : s.askStatus [d] [] = St.DOMAIN_FENCED := by simp [State.askStatus, hfenced]
    rw [fenced, if_pos (by decide)]
    exact ⟨_, rfl, domResult_result s (by decide)⟩

/-- Every status that keeps a domain on is one. -/
theorem domOffStatus_lt (s : State) (d : Nat) : s.domOffStatus d < 2 ^ 16 := by
  have busy (b : Bool) : (if b then St.DOMAIN_BUSY else St.OK) < 2 ^ 16 := by cases b <;> decide
  unfold State.domOffStatus
  extract_lets b
  have hb (x : Bool) : b x < 2 ^ 16 := busy x
  split
  · decide
  · split
    · exact hb _
    · split
      · exact hb _
      · split
        · exact hb _
        · split
          · exact hb _
          · split
            · exact hb _
            · decide

/-- A request to turn a domain off is accepted, unless something needs it or is busy in it. -/
theorem domainOff_answers (hw : s.mayWrite req pPwr = true) (hd : d < 24) (hdone : s.flag R.PWR_DOM_RESULT_DONE pPwr = true) (hon : s.domOn d = true) :
    (s.domOffStatus d = St.OK → ∃ t, exec (.domainOff req d) s = .next t ∧ t.rg R.PWR_DOM_RESULT_DONE pPwr = 0 ∧ t.pwr.switchOff = [d]
      ∧ t.pwr.switchOn = [] ∧ { t with regs := s.regs, pwr := s.pwr } = s)
    ∧ (s.domOffStatus d ≠ St.OK → ∃ t, exec (.domainOff req d) s = .next t ∧ t.rg R.PWR_DOM_RESULT_STATUS pPwr = s.domOffStatus d
      ∧ t.rg R.PWR_DOM_RESULT_DONE pPwr = 1 ∧ { t with regs := s.regs } = s) := by
  rw [exec_domainOff hw hd, domRequest_eq hdone, askOn_clrBit, askOff_clrBit hd hon]
  have status : s.askStatus [] [d] = s.domOffStatus d := by
    simp only [State.askStatus, List.any_nil, List.flatMap_nil, List.any_cons, List.contains_nil, Bool.or_self, Bool.false_eq_true, if_false, List.map_cons,
      List.map_nil, List.find?_cons, List.find?_nil]
    by_cases h : s.domOffStatus d = St.OK <;> simp [h]
  rw [status]
  constructor
  · intro ok
    rw [if_neg (by simp [ok]), if_neg (by simp)]
    obtain ⟨hres, hrest⟩ := asked_result s (clrBit (s.rg R.PWR_DOM_STATUS_ON pPwr) d) [] [d]
    exact ⟨_, rfl, hres, rfl, rfl, hrest⟩
  · intro bad
    rw [if_pos bad]
    exact ⟨_, rfl, domResult_result s (domOffStatus_lt s d)⟩

end

/-! ### The switch (R443, R444, R446) -/

/-- What a switch of domains leaves to a request: the state of power, the segments' state, and RTE.INC. -/
structure State.switchKept (s t : State) : Prop where
  pwr : t.pwr = s.pwr
  seg : ∀ d < 16, t.rg (R.PWR_SEG_STATE_STATE d) pPwr = s.rg (R.PWR_SEG_STATE_STATE d) pPwr
  inc : t.rg R.RTE_INC_INC pRte % 2 ^ 8 = s.rg R.RTE_INC_INC pRte % 2 ^ 8

theorem switchKept_trans {s t u : State} (h : s.switchKept t) (h' : t.switchKept u) : s.switchKept u :=
  ⟨h'.pwr.trans h.pwr, fun d hd => (h'.seg d hd).trans (h.seg d hd), h'.inc.trans h.inc⟩

theorem mainsCell_seg (z : Bool) : ∀ d < 16, mainsCell true z (R.PWR_SEG_STATE_STATE d).id pPwr = true
    ∧ (R.PWR_SEG_STATE_STATE d).id / 32768 ∈ [0x10, 0x11, 0x12] ∧ (R.PWR_SEG_STATE_STATE d).id ≠ R.PWR_DOM_STATUS_ON.id := by
  cases z <;> decide

/-- RTE.INC stays when a domain's registers return to reset (R444). -/
theorem inc_domFresh (s : State) (d : Nat) : (s.domFresh d).rg R.RTE_INC_INC pRte % 2 ^ 8 = s.rg R.RTE_INC_INC pRte % 2 ^ 8 := by
  unfold State.domFresh
  split
  · rw [State.rg_wr_self]
    exact Nat.mod_mod ..
  · next hd =>
    rw [State.domRegs, rg_dropRegs _ _ _ _ ?_]
    rw [if_neg (by decide : ¬R.RTE_INC_INC.id / 32768 = 0), if_neg (c := d = 21) hd]
    have page : domainOf pRte = 21 := by decide
    rw [page, decide_eq_false (Ne.symm hd), Bool.false_and, Bool.or_false]
    split <;> decide

theorem switchKept_domLose {s : State} {d : Nat} (hd : d < 24) : s.switchKept (s.domLose d) := by
  refine ⟨pwr_domLose hd, fun e he => ?_, ?_⟩
  · obtain ⟨hc, hb, hon⟩ := mainsCell_seg true e he
    exact rg_domLose hd _ _ hc hb hon
  · rw [domLose_eq, State.rg_wr_fld _ _ _ _ (by decide), inc_domFresh, mains_rg (mains_domDrop true true s d) _ _ (by decide)]

theorem switchKept_domRise {s : State} {d : Nat} (hd : d < 24) : s.switchKept (s.domRise d) := by
  refine ⟨pwr_domRise hd, fun e he => ?_, ?_⟩
  · obtain ⟨hc, hb, hon⟩ := mainsCell_seg false e he
    exact rg_domRise hd _ _ hc hb hon
  · rw [domRise_eq, mains_rg (mains_domLoad true _ d) _ _ (by decide), State.rg_wr_fld _ _ _ _ (by decide),
      mains_rg (mains_domFences true true _ d) _ _ (by decide), inc_domFresh]

/-- A domain of which a segment fails as it turns on. -/
def State.domFails (s : State) (d : Nat) : Prop := d < 16 ∧ (NMap.get false s.pwr.fencing d = true ∨ s.domFenced d = true)

theorem domFails_of_kept {s t : State} (h : s.switchKept t) (d : Nat) : t.domFails d ↔ s.domFails d := by
  unfold State.domFails
  rw [h.pwr]
  refine and_congr_right fun hd => ?_
  rw [State.domFenced, State.domFenced, h.seg d hd]

theorem domStart_sound {s : State} {d : Nat} (hd : d < 24) (h : ¬s.domFails d) : s.domStart d = s.domRise d :=
  if_neg fun hf => h ((domFails_of_kept (switchKept_domRise hd) d).mp hf)

theorem domStart_fails {s : State} {d : Nat} (hd : d < 24) (h : s.domFails d) : s.domStart d = (s.domRise d).domFence d :=
  if_pos ((domFails_of_kept (switchKept_domRise hd) d).mpr h)

/-- Domains go off one after another. -/
theorem losing (off : List Nat) : ∀ s : State, (∀ d ∈ off, d < 24) →
    s.switchKept (off.foldl State.domLose s) ∧ ∀ e < 24, (off.foldl State.domLose s).domOn e = (s.domOn e && decide (e ∉ off)) := by
  induction off with
  | nil => exact fun s _ => ⟨⟨rfl, fun _ _ => rfl, rfl⟩, fun e _ => by simp⟩
  | cons d off ih =>
    intro s h
    have hd := h d List.mem_cons_self
    obtain ⟨hkept, hon⟩ := ih (s.domLose d) fun e he => h e (List.mem_cons_of_mem _ he)
    refine ⟨switchKept_trans (switchKept_domLose hd) hkept, fun e he => ?_⟩
    rw [List.foldl_cons, hon e he, domOn_domLose hd he]
    by_cases hed : e = d <;> simp [hed]

/-- Domains whose segments hold come on one after another. -/
theorem starting (on : List Nat) : ∀ s : State, (∀ d ∈ on, d < 24) → (∀ d ∈ on, ¬s.domFails d) →
    s.switchKept (on.foldl State.domStart s) ∧ ∀ e < 24, (on.foldl State.domStart s).domOn e = (s.domOn e || decide (e ∈ on)) := by
  induction on with
  | nil => exact fun s _ _ => ⟨⟨rfl, fun _ _ => rfl, rfl⟩, fun e _ => by simp⟩
  | cons d on ih =>
    intro s h hs
    have hd := h d List.mem_cons_self
    have first := switchKept_domRise (s := s) hd
    obtain ⟨hkept, hon⟩ := ih (s.domRise d) (fun e he => h e (List.mem_cons_of_mem _ he))
      fun e he hf => hs e (List.mem_cons_of_mem _ he) ((domFails_of_kept first e).mp hf)
    rw [List.foldl_cons, domStart_sound hd (hs d List.mem_cons_self)]
    refine ⟨switchKept_trans first hkept, fun e he => ?_⟩
    rw [hon e he, domOn_domRise hd he]
    by_cases hed : e = d <;> simp [hed]

/-- The module after the domains of a request have switched. -/
def State.switched (s : State) : State := s.pwr.switchOn.foldl State.domStart (s.pwr.switchOff.foldl State.domLose s)

/-- RTE.INC moves when OPT_W is on again (R444). -/
def State.incMoved (s : State) (on : List Nat) : State :=
  if on.contains 21 then s.wr R.RTE_INC_INC pRte (s.rg R.RTE_INC_INC pRte + 1) else s

/-- DOM_RESULT after the switch. -/
def State.switchEnd (s : State) (on : List Nat) : State :=
  { s with pwr := { s.pwr with switchOn := [], switchOff := [] } }.domResult (if on.all s.domOn then St.OK else St.DOMAIN_FENCED)

theorem exec_domainSwitchDone {s : State} (hbusy : s.flag R.PWR_DOM_RESULT_DONE pPwr = false) (hoff : ∀ d ∈ s.pwr.switchOff, d < 24) :
    exec .domainSwitchDone s = .next ((s.switched.incMoved s.pwr.switchOn).switchEnd s.pwr.switchOn) := by
  have kept := (losing s.pwr.switchOff s hoff).1.pwr
  refine congrArg Host.Outcome.next ((if_neg (by simp [hbusy])).trans ?_)
  dsimp only
  rw [kept]
  rfl

theorem domOn_wr (s : State) (f : Fld) (i v d : Nat) (hf : R.PWR_DOM_STATUS_ON.id ≠ f.id) : (s.wr f i v).domOn d = s.domOn d := by
  rw [State.domOn, State.rg_wr_fld _ _ _ _ hf]
  rfl

theorem domOn_switchEnd (s : State) (on : List Nat) (d : Nat) : (s.switchEnd on).domOn d = s.domOn d :=
  (domOn_wr _ _ _ _ _ (by decide)).trans (domOn_wr _ _ _ _ _ (by decide))

theorem domOn_incMoved (s : State) (on : List Nat) (d : Nat) : (s.incMoved on).domOn d = s.domOn d := by
  unfold State.incMoved
  split
  · exact domOn_wr _ _ _ _ _ (by decide)
  · rfl

/-- DOM_RESULT tells whether every domain asked for is on. -/
theorem switchEnd_result (s : State) (on : List Nat) : (s.switchEnd on).rg R.PWR_DOM_RESULT_DONE pPwr = 1
    ∧ (s.switchEnd on).rg R.PWR_DOM_RESULT_STATUS pPwr = (if on.all s.domOn then St.OK else St.DOMAIN_FENCED)
    ∧ (s.switchEnd on).pwr.switchOn = [] ∧ (s.switchEnd on).pwr.switchOff = [] := by
  obtain ⟨hst, hdone, hrest⟩ := domResult_result { s with pwr := { s.pwr with switchOn := [], switchOff := [] } }
    (st := if on.all s.domOn then St.OK else St.DOMAIN_FENCED) (by split <;> decide)
  exact ⟨hdone, hst, rfl, rfl⟩

section
variable {s : State}

theorem domainSwitchDone_sound (hbusy : s.flag R.PWR_DOM_RESULT_DONE pPwr = false) (hd : ∀ d ∈ s.pwr.switchOn ++ s.pwr.switchOff, d < 24)
    (hs : ∀ d ∈ s.pwr.switchOn, ¬s.domFails d) :
    ∃ t, exec .domainSwitchDone s = .next t ∧ t.rg R.PWR_DOM_RESULT_DONE pPwr = 1 ∧ t.rg R.PWR_DOM_RESULT_STATUS pPwr = St.OK
      ∧ t.pwr.switchOn = [] ∧ t.pwr.switchOff = [] ∧ (∀ d ∈ s.pwr.switchOn, t.domOn d = true)
      ∧ (∀ d ∈ s.pwr.switchOff, d ∉ s.pwr.switchOn → t.domOn d = false) ∧ (∀ d < 24, d ∉ s.pwr.switchOn ++ s.pwr.switchOff → t.domOn d = s.domOn d)
      ∧ (21 ∈ s.pwr.switchOn → t.rg R.RTE_INC_INC pRte = (s.rg R.RTE_INC_INC pRte + 1) % 2 ^ 8) := by
  have hon : ∀ d ∈ s.pwr.switchOn, d < 24 := fun d h => hd d (List.mem_append_left _ h)
  have hoff : ∀ d ∈ s.pwr.switchOff, d < 24 := fun d h => hd d (List.mem_append_right _ h)
  obtain ⟨lostKept, lostOn⟩ := losing s.pwr.switchOff s hoff
  obtain ⟨startKept, startOn⟩ := starting s.pwr.switchOn (s.pwr.switchOff.foldl State.domLose s) hon
    fun d h hf => hs d h ((domFails_of_kept lostKept d).mp hf)
  have isOn (e : Nat) (he : e < 24) : ((s.switched.incMoved s.pwr.switchOn).switchEnd s.pwr.switchOn).domOn e
      = (s.domOn e && decide (e ∉ s.pwr.switchOff) || decide (e ∈ s.pwr.switchOn)) := by
    rw [domOn_switchEnd, domOn_incMoved, State.switched, startOn e he, lostOn e he]
  have all : s.pwr.switchOn.all (s.switched.incMoved s.pwr.switchOn).domOn = true := by
    refine List.all_eq_true.mpr fun d h => ?_
    rw [← domOn_switchEnd _ s.pwr.switchOn, isOn d (hon d h)]
    simp [h]
  obtain ⟨hdone, hst, hsw, hsf⟩ := switchEnd_result (s.switched.incMoved s.pwr.switchOn) s.pwr.switchOn
  refine ⟨_, exec_domainSwitchDone hbusy hoff, hdone, hst.trans (if_pos all), hsw, hsf, fun d h => ?_, fun d h hn => ?_, fun d hlt h => ?_, fun h => ?_⟩
  · rw [isOn d (hon d h)]
    simp [h]
  · rw [isOn d (hoff d h)]
    simp [h, hn]
  · rw [isOn d hlt]
    simp only [List.mem_append, not_or] at h
    simp [h]
  · have moved : s.switched.incMoved s.pwr.switchOn = s.switched.wr R.RTE_INC_INC pRte (s.switched.rg R.RTE_INC_INC pRte + 1) :=
      if_pos (List.contains_iff_mem.mpr h)
    have kept : s.switched.rg R.RTE_INC_INC pRte % 2 ^ 8 = s.rg R.RTE_INC_INC pRte % 2 ^ 8 := (switchKept_trans lostKept startKept).inc
    rw [State.switchEnd, State.domResult, State.rg_wr_fld _ _ _ _ (by decide), State.rg_wr_fld _ _ _ _ (by decide), moved]
    exact (State.rg_wr_self ..).trans (Nat.ModEq.add_right 1 kept)

end

/-! ### A domain is fenced (R448) -/

/-- A cluster of a domain that is fenced leaves service, and its quads with it. -/
def State.clusterFence (s : State) (n : Nat) : State :=
  let s := (List.range 16).foldl (fun s i => s.engReset (pCore (16 * n + i))) s
  let s := s.engReset (pClu n)
  let s := s.wr R.HDR_STATUS_FENCED (pChc n) 1
  let s := (s.clearCluster n).retireUnit 3 n St.DOMAIN_FENCED
  (List.range 4).foldl (fun s i => s.clearQuad (4 * n + i)) s

/-- The domain's clusters are fenced, and that is recorded. -/
def State.fenceNote (s : State) (d : Nat) : State :=
  let s := ((clustersIn d).foldl State.clusterFence s).raise pPwr Er.PWR_SEG_FENCE d
  { s with pwr := { s.pwr with fencing := Map.del d s.pwr.fencing } }

theorem domFence_eq (s : State) (d : Nat) : s.domFence d
    = ((s.fenceNote d).domLose d).wr R.PWR_DOM_CTRL_ON pPwr (clrBit (((s.fenceNote d).domLose d).rg R.PWR_DOM_CTRL_ON pPwr) d) := rfl

theorem domOn_domFence (s : State) {d : Nat} (hd : d < 24) : (s.domFence d).domOn d = false := by
  rw [domFence_eq, domOn_wr _ _ _ _ _ (by decide), domOn_domLose hd hd]
  simp

theorem held_poison (n l e : Bool) (s : State) (x : NMap Bool) : ({ s with poison := x } : State).held n l e = s.held n l e := (rfl)

/-- What a CG domain loses is nothing that a page shows in its header. -/
theorem held_domDrop_cg (s : State) {d : Nat} (hd : d < 16) : (s.domDrop d).held false false true = s.held false false true := by
  have cluster (m : Nat) (s : State) : ((List.range 16).foldl (fun s i => (s.coreClear (16 * m + i)).corePageClear (16 * m + i)) s).held false false true
      = s.held false false true := held_foldl _ (fun _ _ => by simp) _ _
  rw [State.domDrop, if_pos hd]
  exact held_foldl _ (fun _ _ => by simp [cluster, held_poison]) _ _

/-- The header of a page of another domain stays as a CG domain goes off. -/
theorem rg_domLose_hdr {s : State} {d : Nat} (hd : d < 16) (f : Fld) (i : Nat) (hf : (heldId false false true f.id && decide (f.id < 32768)) = true)
    (hi : domainOf i ≠ d) : (s.domLose d).rg f i = s.rg f i := by
  have hdr : f.id < 32768 := by simpa using (Bool.and_eq_true_iff.mp hf).2
  have other : f.id ≠ R.PWR_DOM_STATUS_ON.id := by
    have big : 32768 ≤ R.PWR_DOM_STATUS_ON.id := by decide
    omega
  rw [domLose_eq, State.rg_wr_fld _ _ _ _ other, State.domFresh, if_neg (by omega : ¬d = 21), rg_domRegs_hdr _ _ _ hdr hi]
  exact held_rg (held_domDrop_cg s hd) _ _ hf

theorem recorded_domFence (s : State) {d : Nat} (hd : d < 16) : (s.domFence d).recorded pPwr Er.PWR_SEG_FENCE := by
  rw [domFence_eq]
  refine recorded_wr_fld _ _ _ (by decide) ?_
  have aon : domainOf pPwr ≠ d := by
    have page : domainOf pPwr = 24 := by decide
    omega
  unfold State.recorded
  rw [rg_domLose_hdr hd _ _ (by decide) aon]
  exact recorded_raise_self _ _ _ (by decide)

theorem recorded_switchEnd {s : State} {q b : Nat} (h : s.recorded q b) (on : List Nat) : (s.switchEnd on).recorded q b :=
  recorded_wr_fld _ _ _ (by decide) (recorded_wr_fld _ _ _ (by decide) h)

/-- The only domain asked for is fenced as it turns on. -/
theorem domainSwitchDone_fails {s : State} {d : Nat} (hbusy : s.flag R.PWR_DOM_RESULT_DONE pPwr = false)
    (hd : ∀ d ∈ s.pwr.switchOn ++ s.pwr.switchOff, d < 24) (hon : s.pwr.switchOn = [d]) (hf : s.domFails d) :
    ∃ t, exec .domainSwitchDone s = .next t ∧ t.rg R.PWR_DOM_RESULT_DONE pPwr = 1 ∧ t.rg R.PWR_DOM_RESULT_STATUS pPwr = St.DOMAIN_FENCED
      ∧ t.domOn d = false ∧ t.recorded pPwr Er.PWR_SEG_FENCE := by
  have hoff : ∀ d ∈ s.pwr.switchOff, d < 24 := fun d h => hd d (List.mem_append_right _ h)
  have hd16 : d < 16 := hf.1
  obtain ⟨lostKept, _⟩ := losing s.pwr.switchOff s hoff
  have started : s.switched.incMoved s.pwr.switchOn = ((s.pwr.switchOff.foldl State.domLose s).domRise d).domFence d := by
    have still : ¬([d].contains 21 = true) := by
      simp only [List.contains_iff_mem, List.mem_singleton]
      omega
    rw [hon, State.incMoved, if_neg still, State.switched, hon]
    exact domStart_fails (by omega) ((domFails_of_kept lostKept d).mpr hf)
  have gone : (s.switched.incMoved s.pwr.switchOn).domOn d = false := by
    rw [started]
    exact domOn_domFence _ (by omega)
  obtain ⟨hdone, hst, _, _⟩ := switchEnd_result (s.switched.incMoved s.pwr.switchOn) s.pwr.switchOn
  refine ⟨_, exec_domainSwitchDone hbusy hoff, hdone, hst.trans (if_neg ?_), ?_, recorded_switchEnd ?_ _⟩
  · intro all
    have on := List.all_eq_true.mp all d (by rw [hon]; exact List.mem_singleton_self d)
    rw [gone] at on
    exact absurd on (by decide)
  · rw [domOn_switchEnd, gone]
  · rw [started]
    exact recorded_domFence _ hd16

/-! ### What is present (R53, R54) -/

/-- What has left service in a state has in another: clusters, quads, and the pages of cluster host cores. -/
structure State.fewer (s t : State) : Prop where
  clu : ∀ n < 64, bit (s.rg R.TOP_CLU_PRESENT_PRESENT pTop) n = false → bit (t.rg R.TOP_CLU_PRESENT_PRESENT pTop) n = false
  quad : ∀ q < 256, s.quadPresent q = false → t.quadPresent q = false
  chc : ∀ n < 64, s.fencedP (pChc n) = true → t.fencedP (pChc n) = true

theorem fewer_refl (s : State) : s.fewer s := ⟨fun _ _ h => h, fun _ _ h => h, fun _ _ h => h⟩

theorem fewer_trans {s t u : State} (h : s.fewer t) (h' : t.fewer u) : s.fewer u :=
  ⟨fun n hn hc => h'.clu n hn (h.clu n hn hc), fun q hq hc => h'.quad q hq (h.quad q hq hc), fun n hn hc => h'.chc n hn (h.chc n hn hc)⟩

theorem fewer_foldl {α : Type} (f : State → α → State) (hf : ∀ (s : State) x, s.fewer (f s x)) (xs : List α) : ∀ s : State, s.fewer (xs.foldl f s) := by
  induction xs with
  | nil => exact fewer_refl
  | cons x xs ih => exact fun s => fewer_trans (hf s x) (ih _)

theorem fewer_pwr (s : State) (x : PwrSt) : s.fewer { s with pwr := x } := ⟨fun _ _ h => h, fun _ _ h => h, fun _ _ h => h⟩

theorem quadField : ∀ m < 8, mainsCell true true (R.TOP_QUAD_PRESENT_PRESENT m).id pTop = true ∧ (R.TOP_QUAD_PRESENT_PRESENT m).id / 32768 ∈ [0x10, 0x11, 0x12]
    ∧ (R.TOP_QUAD_PRESENT_PRESENT m).id ≠ R.TOP_CLU_PRESENT_PRESENT.id ∧ (R.TOP_QUAD_PRESENT_PRESENT m).id ≠ R.TOP_ARRAY_FENCED_COUNT.id
    ∧ (R.TOP_QUAD_PRESENT_PRESENT m).id ≠ R.HDR_STATUS_FENCED.id ∧ (R.TOP_QUAD_PRESENT_PRESENT m).id ∉ reportIds
    ∧ (R.TOP_QUAD_PRESENT_PRESENT m).id ≠ R.PWR_DOM_STATUS_ON.id := by
  decide

/-- A view that shows the presence fields, and one that shows the headers. -/
theorem fewer_of_kept {s t : State} (hm : t.mains true true = s.mains true true) (hh : t.held false false false = s.held false false false) : s.fewer t := by
  refine ⟨fun n _ h => ?_, fun q hq h => ?_, fun n _ h => ?_⟩
  · rw [mains_rg hm _ _ (by decide)]
    exact h
  · rw [State.quadPresent, mains_rg hm _ _ (quadField (q / 32) (by omega)).1]
    exact h
  · rw [State.fencedP, held_flag hh _ _ (by decide)]
    exact h

theorem fewer_wr_other (s : State) (f : Fld) (i v : Nat) (hc : R.TOP_CLU_PRESENT_PRESENT.id ≠ f.id)
    (hq : ∀ m < 8, (R.TOP_QUAD_PRESENT_PRESENT m).id ≠ f.id) (hf : R.HDR_STATUS_FENCED.id ≠ f.id) : s.fewer (s.wr f i v) := by
  refine ⟨fun n _ h => ?_, fun q hlt h => ?_, fun n hn h => ?_⟩
  · rw [State.rg_wr_fld _ _ _ _ hc]
    exact h
  · rw [State.quadPresent, State.rg_wr_fld _ _ _ _ (hq (q / 32) (by omega))]
    exact h
  · rw [State.fencedP, State.flag, State.rg_wr_fld _ _ _ _ hf]
    exact h

/-- A page that is fenced shows it; the others are as before. -/
theorem fewer_wr_fenced (s : State) (p : Nat) : s.fewer (s.wr R.HDR_STATUS_FENCED p 1) := by
  refine ⟨fun n _ h => ?_, fun q hlt h => ?_, fun n hn h => ?_⟩
  · rw [State.rg_wr_fld _ _ _ _ (by decide)]
    exact h
  · rw [State.quadPresent, State.rg_wr_fld _ _ _ _ (quadField (q / 32) (by omega)).2.2.2.2.1]
    exact h
  · rw [State.fencedP, State.flag, State.rg_wr]
    split
    · decide
    · exact h

/-- Clearing a bit of a presence field leaves its other bits, and every other field. -/
theorem rg_clearPresent_ne (s : State) {f g : Fld} (b kind id i : Nat) (hg : g.id ≠ f.id) (hr : g.id ∉ reportIds) :
    (s.clearPresent f b kind id).rg g i = s.rg g i := by
  unfold State.clearPresent
  split
  · exact (still_rg (still_event ..) _ _ hr).trans (State.rg_wr_fld _ _ _ _ hg)
  · rfl

theorem bit_clearPresent (s : State) {f : Fld} (b kind id : Nat) {k : Nat} (hk : k < f.width) (hr : f.id ∉ reportIds) :
    bit ((s.clearPresent f b kind id).rg f pTop) k = (bit (s.rg f pTop) k && decide (k ≠ b)) := by
  unfold State.clearPresent
  split
  · rw [State.presenceEvent, still_rg (still_event ..) _ _ hr, State.rg_wr_self, bit_mod _ hk, bit_clrBit]
  · next h =>
    by_cases hkb : k = b
    · subst hkb
      simpa using h
    · simp [hkb]

theorem fewer_clearCluster (s : State) (n : Nat) : s.fewer (s.clearCluster n) := by
  refine ⟨fun k hk h => ?_, fun q hq h => ?_, fun k _ h => ?_⟩
  · rw [State.clearCluster, bit_clearPresent _ _ _ _ hk (by decide), h]
    rfl
  · obtain ⟨_, _, hne, _, _, hrep, _⟩ := quadField (q / 32) (by omega)
    rw [State.quadPresent, State.clearCluster, rg_clearPresent_ne _ _ _ _ _ hne hrep]
    exact h
  · rw [State.fencedP, State.flag, State.clearCluster, rg_clearPresent_ne _ _ _ _ _ (by decide) (by decide)]
    exact h

theorem quadPresent_arraysCount (s : State) {q : Nat} (hq : q < 256) : s.arraysCount.quadPresent q = s.quadPresent q := by
  obtain ⟨_, _, _, hne, _, _, _⟩ := quadField (q / 32) (by omega)
  rw [State.quadPresent, State.arraysCount, State.rg_wr_fld _ _ _ _ hne]
  rfl

/-- A quad that is cleared has left; another is as before. -/
theorem quadPresent_clearQuad (s : State) {q k : Nat} (hq : q < 256) (hk : k < 256) :
    (s.clearQuad q).quadPresent k = (s.quadPresent k && decide (k ≠ q)) := by
  have distinct : ∀ a < 8, ∀ b < 8, a ≠ b → (R.TOP_QUAD_PRESENT_PRESENT a).id ≠ (R.TOP_QUAD_PRESENT_PRESENT b).id := by decide
  rw [State.clearQuad, quadPresent_arraysCount _ hk, State.quadPresent, State.quadPresent]
  obtain ⟨_, _, _, _, _, hrep, _⟩ := quadField (k / 32) (by omega)
  by_cases hm : k / 32 = q / 32
  · rw [hm] at hrep ⊢
    rw [bit_clearPresent _ _ _ _ (by show k % 32 < 32; omega) hrep]
    congr 1
    exact decide_eq_decide.mpr (by omega)
  · rw [rg_clearPresent_ne _ _ _ _ _ (distinct _ (by omega) _ (by omega) hm) hrep]
    have : k ≠ q := fun h => hm (h ▸ rfl)
    simp [this]

theorem fewer_clearQuad (s : State) {q : Nat} (hq : q < 256) : s.fewer (s.clearQuad q) := by
  obtain ⟨_, _, hclu, _, hfen, _, _⟩ := quadField (q / 32) (by omega)
  refine ⟨fun k _ h => ?_, fun k hk h => ?_, fun k _ h => ?_⟩
  · rw [State.clearQuad, State.arraysCount, State.rg_wr_fld _ _ _ _ (by decide), rg_clearPresent_ne _ _ _ _ _ hclu.symm (by decide)]
    exact h
  · rw [quadPresent_clearQuad s hq hk, h]
    rfl
  · rw [State.fencedP, State.flag, State.clearQuad, State.arraysCount, State.rg_wr_fld _ _ _ _ (by decide),
      rg_clearPresent_ne _ _ _ _ _ hfen.symm (by decide)]
    exact h

theorem fewer_clearQuads (n : Nat) (xs : List Nat) (hx : ∀ i ∈ xs, 4 * n + i < 256) :
    ∀ s : State, s.fewer (xs.foldl (fun s i => s.clearQuad (4 * n + i)) s) := by
  induction xs with
  | nil => exact fewer_refl
  | cons x xs ih =>
    exact fun s => fewer_trans (fewer_clearQuad s (hx x List.mem_cons_self)) (ih (fun i hi => hx i (List.mem_cons_of_mem _ hi)) _)

theorem quads_cleared (n : Nat) {i : Nat} (xs : List Nat) (hx : ∀ i ∈ xs, 4 * n + i < 256) :
    ∀ s : State, i ∈ xs → (xs.foldl (fun s i => s.clearQuad (4 * n + i)) s).quadPresent (4 * n + i) = false := by
  induction xs with
  | nil => intro _ h; cases h
  | cons x xs ih =>
    intro s h
    have rest : ∀ i ∈ xs, 4 * n + i < 256 := fun i hi => hx i (List.mem_cons_of_mem _ hi)
    rcases List.mem_cons.mp h with rfl | hin
    · have first := hx i List.mem_cons_self
      refine (fewer_clearQuads n xs rest _).quad _ first ?_
      rw [quadPresent_clearQuad s first first]
      simp
    · exact ih rest _ hin

/-- A cluster out of service: not present, its host core fenced, its quads not present. -/
def State.clusterGone (s : State) (n : Nat) : Prop :=
  bit (s.rg R.TOP_CLU_PRESENT_PRESENT pTop) n = false ∧ s.fencedP (pChc n) = true ∧ ∀ i < 4, s.quadPresent (4 * n + i) = false

theorem clusterGone_of_fewer {s t : State} {n : Nat} (hn : n < 64) (h : s.fewer t) (hg : s.clusterGone n) : t.clusterGone n := by
  obtain ⟨hclu, hchc, hquad⟩ := hg
  exact ⟨h.clu n hn hclu, h.chc n hn hchc, fun i hi => h.quad _ (by omega) (hquad i hi)⟩

/-- Fencing a cluster brings nothing back, and takes the cluster out of service. -/
theorem clusterFence_gone (s : State) {n : Nat} (hn : n < 64) : s.fewer (s.clusterFence n) ∧ (s.clusterFence n).clusterGone n := by
  have four : ∀ i ∈ List.range 4, 4 * n + i < 256 := fun i hi => by have := List.mem_range.mp hi; omega
  unfold State.clusterFence
  extract_lets u₁ u₂ u₃ u₄
  have h₁ : s.fewer u₁ := fewer_foldl _ (fun _ _ => fewer_of_kept (mains_engReset ..) (held_engReset ..)) _ s
  have h₂ : u₁.fewer u₂ := fewer_of_kept (mains_engReset ..) (held_engReset ..)
  have h₃ : u₂.fewer u₃ := fewer_wr_fenced _ _
  have retired : (u₃.clearCluster n).fewer u₄ := fewer_of_kept (mains_retireUnit ..) (held_retireUnit ..)
  have h₄ : u₃.fewer u₄ := fewer_trans (fewer_clearCluster _ _) retired
  have h₅ := fewer_clearQuads n _ four u₄
  refine ⟨fewer_trans h₁ (fewer_trans h₂ (fewer_trans h₃ (fewer_trans h₄ h₅))), ?_, ?_, fun i hi => quads_cleared n _ four u₄ (List.mem_range.mpr hi)⟩
  · refine h₅.clu n hn (retired.clu n hn ?_)
    rw [State.clearCluster, bit_clearPresent _ _ _ _ hn (by decide)]
    simp
  · refine h₅.chc n hn (h₄.chc n hn ?_)
    rw [State.fencedP, State.flag, State.rg_wr_self]
    rfl

theorem clusters_gone (xs : List Nat) (hx : ∀ n ∈ xs, n < 64) : ∀ s : State,
    s.fewer (xs.foldl State.clusterFence s) ∧ ∀ n ∈ xs, (xs.foldl State.clusterFence s).clusterGone n := by
  induction xs with
  | nil => exact fun s => ⟨fewer_refl s, fun _ h => nomatch h⟩
  | cons x xs ih =>
    intro s
    obtain ⟨first, gone⟩ := clusterFence_gone s (hx x List.mem_cons_self)
    obtain ⟨rest, goneRest⟩ := ih (fun n hn => hx n (List.mem_cons_of_mem _ hn)) (s.clusterFence x)
    refine ⟨fewer_trans first rest, fun n hn => ?_⟩
    rcases List.mem_cons.mp hn with rfl | hin
    · exact clusterGone_of_fewer (hx n List.mem_cons_self) rest gone
    · exact goneRest n hin

/-- A CG domain that goes off brings no cluster back. -/
theorem fewer_domLose (s : State) {d : Nat} (hd : d < 16) : s.fewer (s.domLose d) := by
  refine ⟨fun n _ h => ?_, fun q hq h => ?_, fun n hn h => ?_⟩
  · rw [rg_domLose (by omega) _ _ (by decide) (by decide) (by decide)]
    exact h
  · obtain ⟨hc, hb, _, _, _, _, hon⟩ := quadField (q / 32) (by omega)
    rw [State.quadPresent, rg_domLose (by omega) _ _ hc hb hon]
    exact h
  · have page : domainOf (pChc n) ≠ d := by
      rw [(by decide : ∀ n < 64, domainOf (pChc n) = 16) n hn]
      omega
    rw [State.fencedP, State.flag, rg_domLose_hdr hd _ _ (by decide) page]
    exact h

/-- A domain that is fenced has its clusters out of service. -/
theorem domFence_gone (s : State) {d : Nat} (hd : d < 16) : ∀ n ∈ clustersIn d, (s.domFence d).clusterGone n := by
  have hx : ∀ n ∈ clustersIn d, n < 64 := fun n hn => List.mem_range.mp (List.mem_filter.mp hn).1
  intro n hn
  obtain ⟨_, gone⟩ := clusters_gone (clustersIn d) hx s
  have raised := clusterGone_of_fewer (hx n hn) (fewer_of_kept (mains_raise true true _ pPwr Er.PWR_SEG_FENCE d) (held_raise ..)) (gone n hn)
  have noted : (s.fenceNote d).clusterGone n := clusterGone_of_fewer (hx n hn) (fewer_pwr _ _) raised
  rw [domFence_eq]
  exact clusterGone_of_fewer (hx n hn) (fewer_trans (fewer_domLose _ hd) (fewer_wr_other _ _ _ _ (by decide) (by decide) (by decide))) noted

/-- The domains of which a segment failed leave service once their cores are at level 0. -/
theorem segCheck_fences {s : State} {d : Nat} (hd : d < 16) (hf : s.pwr.fencing = [(d, true)])
    (hl : ∀ n ∈ clustersIn d, ∀ i < 16, NMap.get 0 s.pwr.lvl (16 * n + i) = 0) :
    ∃ t, exec (.segCheck []) s = .next t ∧ t.domOn d = false ∧ t.recorded pPwr Er.PWR_SEG_FENCE ∧ ∀ n ∈ clustersIn d, t.clusterGone n := by
  have runs : exec (.segCheck []) s = .next (s.domFence d) := by
    refine congrArg Host.Outcome.next ?_
    have level : (clustersIn d).all (fun n => (List.range 16).all (fun i => decide (NMap.get 0 s.pwr.lvl (16 * n + i) = 0))) = true := by
      simpa [List.all_eq_true] using hl
    simp only [hf, List.map_cons, List.map_nil, List.filter_cons, level, if_true, List.filter_nil, List.foldl_cons, List.foldl_nil]
  exact ⟨_, runs, domOn_domFence s (by omega), recorded_domFence s hd, domFence_gone s hd⟩

/-! ### A segment fails (R446, R447) -/

theorem setBit_lt {v k w : Nat} (hv : v < 2 ^ w) (hk : k < w) : setBit v k < 2 ^ w := by
  unfold setBit
  split
  · exact hv
  · next h =>
    have whole : (2 : Nat) ^ w = 2 ^ (w - (k + 1)) * 2 ^ (k + 1) := by
      rw [← pow_add]
      congr 1
      omega
    rw [whole] at hv ⊢
    rw [← Nat.div_lt_iff_lt_mul (by positivity), div_setBit v k (Bool.eq_false_iff.mpr h)]
    exact (Nat.div_lt_iff_lt_mul (by positivity)).mpr hv

/-- The fields of a domain's segments are in the view, and no view of the units shows them. -/
theorem segFields : ∀ d < 16, (R.PWR_SEG_FAIL_FAILED d).id ∉ heldIds ∧ (R.PWR_SEG_STATE_STATE d).id ∉ heldIds
    ∧ mainsCell true true (R.PWR_SEG_FAIL_FAILED d).id pPwr = true ∧ (R.PWR_SEG_FAIL_FAILED d).id ≠ (R.PWR_SEG_STATE_STATE d).id
    ∧ (R.PWR_SEG_FAIL_FAILED d).id ≠ R.HDR_STATUS_DEGRADED.id ∧ (R.PWR_SEG_STATE_STATE d).id ≠ R.HDR_STATUS_DEGRADED.id
    ∧ (R.PWR_SEG_FAIL_FAILED d).id ∉ reportIds ∧ (R.PWR_SEG_STATE_STATE d).id ∉ reportIds := by
  decide

section
variable (s : State) {d : Nat}

theorem segOutcome_lt (v : Nat) : segOutcome v < 4 := by
  unfold segOutcome
  dsimp only
  split
  · decide
  · split
    · decide
    · split <;> decide

theorem segRegs_shows (hd : d < 16) : (s.segRegs d).segFailed d = s.segFailed d
    ∧ (s.segRegs d).rg (R.PWR_SEG_STATE_STATE d) pPwr = segOutcome (s.segFailed d) ∧ s.apart (s.segRegs d) ∧ (s.segRegs d).pwr = s.pwr := by
  obtain ⟨_, _, _, hne, hfd, hsd, _, _⟩ := segFields d hd
  have state : (s.wr (R.PWR_SEG_STATE_STATE d) pPwr (segOutcome (s.segFailed d))).rg (R.PWR_SEG_STATE_STATE d) pPwr = segOutcome (s.segFailed d) :=
    (State.rg_wr_self ..).trans (Nat.mod_eq_of_lt (segOutcome_lt _))
  unfold State.segRegs
  dsimp only
  split
  · exact ⟨State.rg_wr_fld _ _ _ _ hne, state, apart_wr .., rfl⟩
  · refine ⟨?_, ?_, apart_trans (apart_wr ..) (apart_wr ..), rfl⟩
    · exact (State.rg_wr_fld _ _ _ _ hfd).trans (State.rg_wr_fld _ _ _ _ hne)
    · exact (State.rg_wr_fld _ _ _ _ hsd).trans state

/-- The segment is opened and its retirement recorded, and the domain's registers follow. -/
def State.segOpened (s : State) (d k : Nat) : State :=
  ((s.wr (R.PWR_SEG_FAIL_FAILED d) pPwr (setBit (s.segFailed d) k)).retireUnit 4 (32 * d + k) 0).segRegs d

/-- What a failed segment brings: the domain absorbs it, is capped, or is to be fenced. -/
def State.segAnswer (s : State) (d k was : Nat) : State :=
  match segOutcome (s.segFailed d) with
  | 1 => s.raise pPwr Er.PWR_SEG_FAIL (32 * d + k)
  | 2 => s.raise pPwr Er.PWR_SEG_CAP (32 * d + k)
  | _ => if was = 3 then s else { s with pwr := { s.pwr with fencing := NMap.put d true s.pwr.fencing } }

theorem segOpened_shows {k : Nat} (hd : d < 16) (hk : k < 32) (hv : s.segFailed d < 2 ^ 32) :
    (s.segOpened d k).segFailed d = setBit (s.segFailed d) k
      ∧ (s.segOpened d k).rg (R.PWR_SEG_STATE_STATE d) pPwr = segOutcome (setBit (s.segFailed d) k) ∧ s.apart (s.segOpened d k) := by
  obtain ⟨hheld, _, hcell, _⟩ := segFields d hd
  have failed : ((s.wr (R.PWR_SEG_FAIL_FAILED d) pPwr (setBit (s.segFailed d) k)).retireUnit 4 (32 * d + k) 0).segFailed d = setBit (s.segFailed d) k := by
    rw [State.segFailed, mains_rg (mains_retireUnit true true ..) _ _ hcell]
    exact (State.rg_wr_self ..).trans (Nat.mod_eq_of_lt (setBit_lt hv hk))
  have apart : s.apart ((s.wr (R.PWR_SEG_FAIL_FAILED d) pPwr (setBit (s.segFailed d) k)).retireUnit 4 (32 * d + k) 0) :=
    apart_trans (apart_wr ..) (apart_of_held (held_retireUnit true true ..))
  obtain ⟨hf, hs, ha, _⟩ := segRegs_shows ((s.wr (R.PWR_SEG_FAIL_FAILED d) pPwr (setBit (s.segFailed d) k)).retireUnit 4 (32 * d + k) 0) hd
  rw [failed] at hf hs
  exact ⟨hf, hs, apart_trans apart ha⟩

theorem segAnswer_kept (hd : d < 16) (k was : Nat) : (s.segAnswer d k was).segFailed d = s.segFailed d
    ∧ (s.segAnswer d k was).rg (R.PWR_SEG_STATE_STATE d) pPwr = s.rg (R.PWR_SEG_STATE_STATE d) pPwr ∧ s.apart (s.segAnswer d k was) := by
  obtain ⟨_, _, _, _, _, _, hfr, hsr⟩ := segFields d hd
  have raised (n v : Nat) : (s.raise pPwr n v).segFailed d = s.segFailed d
      ∧ (s.raise pPwr n v).rg (R.PWR_SEG_STATE_STATE d) pPwr = s.rg (R.PWR_SEG_STATE_STATE d) pPwr ∧ s.apart (s.raise pPwr n v) :=
    ⟨still_rg (still_raise ..) _ _ hfr, still_rg (still_raise ..) _ _ hsr, apart_of_still (still_raise ..)⟩
  unfold State.segAnswer
  split
  · exact raised ..
  · exact raised ..
  · split <;> exact ⟨rfl, rfl, rfl, rfl, fun _ _ => rfl⟩

theorem segAnswer_says (k was : Nat) :
    (segOutcome (s.segFailed d) = 1 → (s.segAnswer d k was).recorded pPwr Er.PWR_SEG_FAIL)
    ∧ (segOutcome (s.segFailed d) = 2 → (s.segAnswer d k was).recorded pPwr Er.PWR_SEG_CAP)
    ∧ (segOutcome (s.segFailed d) = 3 → was ≠ 3 → NMap.get false (s.segAnswer d k was).pwr.fencing d = true) := by
  refine ⟨fun h => ?_, fun h => ?_, fun h hw => ?_⟩
  · rw [State.segAnswer, h]
    exact recorded_raise_self _ _ _ (by decide)
  · rw [State.segAnswer, h]
    exact recorded_raise_self _ _ _ (by decide)
  · rw [State.segAnswer, h]
    dsimp only
    rw [if_neg hw]
    exact NMap.get_put_self ..

end

theorem segCheck_opens {s : State} {d k : Nat} (hd : d < 16) (hk : k < 32) (hf : s.pwr.fencing = []) (hv : s.segFailed d < 2 ^ 32)
    (hb : bit (s.segFailed d) k = false) :
    let o := segOutcome (setBit (s.segFailed d) k)
    ∃ t, exec (.segCheck [(d, k)]) s = .next t ∧ s.apart t ∧ t.segFailed d = setBit (s.segFailed d) k ∧ t.rg (R.PWR_SEG_STATE_STATE d) pPwr = o
      ∧ (o = 1 → t.recorded pPwr Er.PWR_SEG_FAIL) ∧ (o = 2 → t.recorded pPwr Er.PWR_SEG_CAP)
      ∧ (o = 3 → segOutcome (s.segFailed d) ≠ 3 → NMap.get false t.pwr.fencing d = true) := by
  intro o
  have runs : exec (.segCheck [(d, k)]) s = .next ((s.segOpened d k).segAnswer d k (segOutcome (s.segFailed d))) := by
    have taken : [(d, k)].filter (fun e => decide (e.1 < 16) && decide (e.2 < 32)) = [(d, k)] := by simp [hd, hk]
    refine congrArg Host.Outcome.next ?_
    simp only [hf, List.map_nil, List.filter_nil, List.foldl_nil, taken, List.foldl_cons]
    exact if_neg (by simp [hb])
  obtain ⟨hfail, hstate, hapart⟩ := segOpened_shows s hd hk hv
  obtain ⟨kfail, kstate, kapart⟩ := segAnswer_kept (s.segOpened d k) hd k (segOutcome (s.segFailed d))
  have answer := segAnswer_says (s.segOpened d k) (d := d) k (segOutcome (s.segFailed d))
  rw [hfail] at answer
  exact ⟨_, runs, apart_trans hapart kapart, kfail.trans hfail, kstate.trans hstate, answer⟩

/-! ### Interconnect wear (R449) -/

/-- What a change of CLK_HST leaves: everything but its own fields, the rails and what leaves the module. -/
theorem hstWrite_kept (s : State) (mhz : Nat) : s.apart (s.hstWrite mhz) ∧ (s.hstWrite mhz).log = s.log
    ∧ ∀ f i, f.id ∉ [R.CLK_HST_FREQ_MHZ.id, R.CLK_HST_FREQ_BUSY.id] → (s.hstWrite mhz).rg f i = s.rg f i := by
  have rail (u : State) (r v why : Nat) : u.apart (u.railWrite r v why) ∧ (u.railWrite r v why).log = u.log ∧ (u.railWrite r v why).regs = u.regs := by
    unfold State.railWrite
    dsimp only
    split <;> exact ⟨⟨rfl, rfl, fun _ _ => rfl⟩, rfl, rfl⟩
  unfold State.hstWrite
  split
  · exact ⟨⟨rfl, rfl, fun _ _ => rfl⟩, rfl, fun _ _ _ => rfl⟩
  · extract_lets f old src u v
    have hv : s.apart v ∧ v.log = s.log ∧ ∀ g i, g.id ∉ [R.CLK_HST_FREQ_MHZ.id, R.CLK_HST_FREQ_BUSY.id] → v.rg g i = s.rg g i := by
      refine ⟨⟨rfl, rfl, fun _ _ => rfl⟩, rfl, fun g i hg => ?_⟩
      simp only [List.mem_cons, List.not_mem_nil, or_false, not_or] at hg
      exact (State.rg_wr_fld _ _ _ _ hg.2).trans (State.rg_wr_fld _ _ _ _ hg.1)
    split
    · exact ⟨⟨rfl, rfl, fun _ _ => rfl⟩, rfl, fun _ _ _ => rfl⟩
    · split
      · obtain ⟨ha, hl, hr⟩ := rail v 2 (hstVolt f) 2
        obtain ⟨va, vl, vr⟩ := hv
        exact ⟨apart_trans va ha, hl.trans vl, fun g i hg => (State.rg_congr hr g i).trans (vr g i hg)⟩
      · exact hv

theorem recorded_logStateRec {s : State} {q b : Nat} (hb : b < 32) (h : s.recorded q b) (typ : Nat) (bs : List Nat) : (s.logStateRec typ bs).recorded q b :=
  recorded_raiseAll _ _ hb (recorded_of_held (held_logState true true true ..) h)

section
variable (s : State) (d q : Nat) (on : Bool)

/-- A derating changes the log's image of it, and of the registers none but DEGRADED, CLK_HST and what reporting writes. -/
theorem derate_kept : s.apart (s.derate d on q) ∧ NMap.get 0 (s.derate d on q).log.image.derate d = (if on then q % 65536 + 1 else 0)
    ∧ (∀ i, (s.derate d on q).rg R.PWR_IC_DATA_RATIO i = s.rg R.PWR_IC_DATA_RATIO i)
    ∧ (∀ p b, b < 32 → s.recorded p b → (s.derate d on q).recorded p b) := by
  unfold State.derate
  extract_lets src img u v w
  have hu : NMap.get 0 u.log.image.derate d = if on then q % 65536 + 1 else 0 := NMap.get_put_self ..
  have hv : s.apart v ∧ NMap.get 0 v.log.image.derate d = (if on then q % 65536 + 1 else 0)
      ∧ (∀ i, v.rg R.PWR_IC_DATA_RATIO i = s.rg R.PWR_IC_DATA_RATIO i) ∧ ∀ p b, b < 32 → s.recorded p b → v.recorded p b := by
    refine ⟨apart_trans (t := u) ⟨rfl, rfl, fun _ _ => rfl⟩ (apart_of_still (still_logStateRec ..)), ?_, fun i => ?_, fun p b hb h => ?_⟩
    · rw [still_image (still_logStateRec ..)]
      exact hu
    · exact still_rg (still_logStateRec ..) _ _ (by decide)
    · exact recorded_logStateRec (s := u) hb h _ _
  have hw : s.apart w ∧ NMap.get 0 w.log.image.derate d = (if on then q % 65536 + 1 else 0)
      ∧ (∀ i, w.rg R.PWR_IC_DATA_RATIO i = s.rg R.PWR_IC_DATA_RATIO i) ∧ ∀ p b, b < 32 → s.recorded p b → w.recorded p b := by
    obtain ⟨va, vi, vr, vrec⟩ := hv
    generalize (if on then q % 65536 + 1 else 0) = shown at vi ⊢
    dsimp only [w]
    split
    · exact ⟨apart_trans va (apart_wr ..), vi, fun i => (State.rg_wr_fld _ _ _ _ (by decide)).trans (vr i),
        fun p b hb h => recorded_wr_fld _ _ _ (by decide) (vrec p b hb h)⟩
    · exact ⟨va, vi, vr, vrec⟩
  obtain ⟨wa, wi, wr, wrec⟩ := hw
  split
  · obtain ⟨ha, hl, hr⟩ := hstWrite_kept w 1400
    refine ⟨apart_trans wa ha, ?_, fun i => (hr _ _ (by decide)).trans (wr i), fun p b hb h => ?_⟩
    · rw [hl]
      exact wi
    · rw [State.recorded, hr _ _ (by decide)]
      exact wrec p b hb h
  · exact ⟨wa, wi, wr, wrec⟩

/-- An evaluation shows its ratio, and reports a domain that it finds worn. -/
def State.icShown (s : State) (d q : Nat) (x : IcRun) (report : Bool) (bytes : List Nat) : State :=
  let s := { s with pwr := { s.pwr with ic := NMap.put d x s.pwr.ic } }
  let s := s.wr R.PWR_IC_DATA_RATIO (0x10000 + d) (min 65535 q)
  if report then (s.raise pPwr Er.PWR_IC_DEGRADE d).logEvent 0x0202 2 bytes else s

/-- A domain is derated after 16 evaluations above the limit, and no longer after 16 within it. -/
def State.icJudged (s : State) (d q worse low : Nat) : State :=
  let derated := NMap.get 0 s.log.image.derate d != 0
  if worse ≥ 16 ∧ derated = false then (s.raise pPwr Er.PWR_IC_DERATE d).derate d true q
  else if low ≥ 16 ∧ derated = true then s.derate d false q
  else s

theorem icShown_shows (x : IcRun) (report : Bool) (bytes : List Nat) :
    s.apart (s.icShown d q x report bytes) ∧ (s.icShown d q x report bytes).log.image = s.log.image
      ∧ (s.icShown d q x report bytes).rg R.PWR_IC_DATA_RATIO (0x10000 + d) = min 65535 q := by
  have ratio (u : State) : (u.wr R.PWR_IC_DATA_RATIO (0x10000 + d) (min 65535 q)).rg R.PWR_IC_DATA_RATIO (0x10000 + d) = min 65535 q :=
    (State.rg_wr_self ..).trans (Nat.mod_eq_of_lt (by show min 65535 q < 2 ^ 16; omega))
  unfold State.icShown
  extract_lets src u v
  have hv : s.apart v := ⟨rfl, rfl, fun _ _ => rfl⟩
  split
  · have kept : ((v.raise pPwr Er.PWR_IC_DEGRADE d).logEvent 0x0202 2 bytes).still = v.still := (still_logEvent ..).trans (still_raise ..)
    exact ⟨apart_trans hv (apart_of_still kept), (still_image kept).trans rfl, (still_rg kept _ _ (by decide)).trans (ratio _)⟩
  · exact ⟨hv, rfl, ratio _⟩

theorem icJudged_says (worse low : Nat) : s.apart (s.icJudged d q worse low)
    ∧ (∀ i, (s.icJudged d q worse low).rg R.PWR_IC_DATA_RATIO i = s.rg R.PWR_IC_DATA_RATIO i)
    ∧ (worse = 16 → NMap.get 0 s.log.image.derate d = 0 → (s.icJudged d q worse low).recorded pPwr Er.PWR_IC_DERATE
      ∧ NMap.get 0 (s.icJudged d q worse low).log.image.derate d ≠ 0)
    ∧ (worse = 0 → low = 16 → NMap.get 0 s.log.image.derate d ≠ 0 → NMap.get 0 (s.icJudged d q worse low).log.image.derate d = 0) := by
  obtain ⟨onApart, onImage, onRatio, onRec⟩ := derate_kept (s.raise pPwr Er.PWR_IC_DERATE d) d q true
  obtain ⟨offApart, offImage, offRatio, _⟩ := derate_kept s d q false
  have raised := still_raise s pPwr Er.PWR_IC_DERATE d
  unfold State.icJudged
  dsimp only
  split
  · next h =>
    refine ⟨apart_trans (apart_of_still raised) onApart, fun i => (onRatio i).trans (still_rg raised _ _ (by decide)), fun _ _ => ⟨?_, ?_⟩, fun hw => ?_⟩
    · exact onRec _ _ (by decide) (recorded_raise_self _ _ _ (by decide))
    · rw [onImage]
      simp
    · omega
  · next h =>
    split
    · next h' => exact ⟨offApart, offRatio, fun hw hz => absurd ⟨by omega, by simp [hz]⟩ h, fun _ _ _ => offImage⟩
    · next h' =>
      exact ⟨⟨rfl, rfl, fun _ _ => rfl⟩, fun _ => rfl, fun hw hz => absurd ⟨by omega, by simp [hz]⟩ h, fun _ hl hz => absurd ⟨by omega, by simpa using hz⟩ h'⟩

end

/-- The resistance of a domain's interconnect beside its baseline. -/
def State.icRatio (s : State) (d nv ma : Nat) (temp : Int) : Rat :=
  (nv : Rat) * 1000 / (ma : Rat) / (1 + 39 / 10000 * ((temp : Rat) - 25)) / (s.rg R.PWR_IC_DATA_R_BASE (0x10000 + d) : Rat)

theorem exec_icEval {s : State} {d : Nat} (hd : d ≤ 24) (nv ma : Nat) (temp : Int) : ∃ x report bytes,
    exec (.icEval d nv ma temp) s = .next ((s.icShown d (s.icRatio d nv ma temp * 1024).floor.toNat x report bytes).icJudged d
      (s.icRatio d nv ma temp * 1024).floor.toNat
      (if decide (100 * s.icRatio d nv ma temp > ((140 : Nat) : Rat)) then (NMap.get IcRun.init s.pwr.ic d).worse + 1 else 0)
      (if decide (100 * s.icRatio d nv ma temp > ((140 : Nat) : Rat)) then 0 else (NMap.get IcRun.init s.pwr.ic d).low + 1)) :=
  ⟨_, _, _, congrArg Host.Outcome.next (if_neg (by omega))⟩

theorem icEval_says {s : State} {d : Nat} (hd : d ≤ 24) (nv ma : Nat) (temp : Int) :
    ∃ t, exec (.icEval d nv ma temp) s = .next t
      ∧ t.rg R.PWR_IC_DATA_RATIO (0x10000 + d) = min 65535 (s.icRatio d nv ma temp * 1024).floor.toNat ∧ s.apart t
      ∧ (140 < 100 * s.icRatio d nv ma temp → (NMap.get IcRun.init s.pwr.ic d).worse = 15 → NMap.get 0 s.log.image.derate d = 0 →
        t.recorded pPwr Er.PWR_IC_DERATE ∧ NMap.get 0 t.log.image.derate d ≠ 0 ∧ (d < 16 → t.icLimit d = 44))
      ∧ (100 * s.icRatio d nv ma temp ≤ 140 → (NMap.get IcRun.init s.pwr.ic d).low = 15 → NMap.get 0 s.log.image.derate d ≠ 0 →
        NMap.get 0 t.log.image.derate d = 0) := by
  obtain ⟨x, report, bytes, runs⟩ := exec_icEval (s := s) hd nv ma temp
  obtain ⟨shApart, shImage, shRatio⟩ := icShown_shows s d (s.icRatio d nv ma temp * 1024).floor.toNat x report bytes
  obtain ⟨juApart, juRatio, juOn, juOff⟩ := icJudged_says (s.icShown d (s.icRatio d nv ma temp * 1024).floor.toNat x report bytes) d
    (s.icRatio d nv ma temp * 1024).floor.toNat
    (if decide (100 * s.icRatio d nv ma temp > ((140 : Nat) : Rat)) then (NMap.get IcRun.init s.pwr.ic d).worse + 1 else 0)
    (if decide (100 * s.icRatio d nv ma temp > ((140 : Nat) : Rat)) then 0 else (NMap.get IcRun.init s.pwr.ic d).low + 1)
  rw [shImage] at juOn juOff
  refine ⟨_, runs, (juRatio _).trans shRatio, apart_trans shApart juApart, fun habove hw hz => ?_, fun hwithin hl hz => ?_⟩
  · obtain ⟨hrec, hder⟩ := juOn (by rw [if_pos (by simpa using habove), hw]) hz
    refine ⟨hrec, hder, fun _ => ?_⟩
    simp only [State.icLimit, bne_iff_ne, ne_eq, hder, not_false_eq_true, Bool.or_eq_true, true_or, if_true]
  · have low : ¬(decide (100 * s.icRatio d nv ma temp > ((140 : Nat) : Rat)) = true) := by simpa using hwithin
    exact juOff (if_neg low) (by rw [if_neg low, hl]) hz

/-- Settles O47, part by part: requests, the switch, segments that fail, the domain that they fence, and the interconnect. -/
theorem domains : Obligations.Domains := by
  refine ⟨fun s req d hw hd => ⟨fun hbusy c hc => ?_, domainOn_answers hw hd, domainOff_answers hw hd⟩,
    fun s hbusy hd => ⟨fun d hon hf => domainSwitchDone_fails hbusy hd hon hf, domainSwitchDone_sound hbusy hd⟩,
    fun s d k hd hk hf hv hb => segCheck_opens hd hk hf hv hb, fun s d hd hf hl => segCheck_fences hd hf hl,
    fun s d nv ma temp hd => icEval_says hd nv ma temp⟩
  have ignored (mask : Nat) : s.domRequest mask = s := if_pos hbusy
  simp only [List.mem_cons, List.not_mem_nil, or_false] at hc
  rcases hc with rfl | rfl
  · rw [exec_domainOn hw hd, ignored]
  · rw [exec_domainOff hw hd, ignored]

end Sys2Proof.Machine
end

section
/-!
SUPPORT. The boot: what its steps leave of the Keeper's registers, the domains that are on, and time.
-/

namespace Sys2Proof.Machine

/-! ### Channels, segments and arrays -/

section
variable (z : Bool) (s : State)

@[simp ↓] theorem mains_chDegrade (m ch : Nat) : (s.chDegrade m ch).mains false z = s.mains false z := by
  simp (disch := decide) [State.chDegrade]

@[simp ↓] theorem mains_chFence (m ch : Nat) : (s.chFence m ch).mains false z = s.mains false z := by
  unfold State.chFence
  extract_lets p u v x src w y
  have served : y.mains false z = w.mains false z := mains_foldl _ (fun _ _ => by simp) _ _
  simp (disch := decide) [served, w, v, u]

@[simp ↓] theorem mains_chanLow (n i : Nat) : (s.chanLow n i).mains false z = s.mains false z := by
  simp (disch := decide) [State.chanLow]

@[simp ↓] theorem mains_chansBoot (n : Nat) (low fail : List Nat) : (s.chansBoot n low fail).mains false z = s.mains false z := by
  unfold State.chansBoot
  extract_lets down u
  have hdown (s : State) (i : Nat) : (down s i).mains false z = s.mains false z := by
    dsimp only [down]
    split
    · simp
    · rfl
  have hu : u.mains false z = s.mains false z := mains_foldl _ hdown _ _
  rw [← hu]
  refine mains_foldl _ (fun s i => ?_) _ _
  split
  · rfl
  · simp [hdown]

@[simp ↓] theorem mains_bootDegraded (n : Bool) : s.bootDegraded.mains n z = s.mains n z := mains_wr _ _ _ _ _ _ (by decide)

@[simp ↓] theorem mains_stacksLeave (failed : List Nat) : (s.stacksLeave failed).mains false false = s.mains false false := by
  unfold State.stacksLeave
  refine mains_foldl _ (fun s m => ?_) _ _
  dsimp only
  split
  · simp
  · rfl

theorem segFields_far : ∀ d < 16, mainsCell false false (R.PWR_SEG_STATE_STATE d).id pPwr = false ∧ (R.PWR_SEG_STATE_STATE d).id ≠ R.PWR_DOM_STATUS_ON.id
    ∧ mainsCell false false (R.PWR_SEG_FAIL_FAILED d).id pPwr = false ∧ (R.PWR_SEG_FAIL_FAILED d).id ≠ R.PWR_DOM_STATUS_ON.id := by decide

theorem mains_segRegs {d : Nat} (hd : d < 16) : (s.segRegs d).mains false false = s.mains false false := by
  obtain ⟨hs, hsn, -, -⟩ := segFields_far d hd
  have shown (v : Nat) : (s.wr (R.PWR_SEG_STATE_STATE d) pPwr v).mains false false = s.mains false false := mains_wr_at _ _ _ _ _ _ hs (Or.inl hsn)
  unfold State.segRegs
  dsimp only
  split
  · exact shown _
  · rw [mains_wr _ _ _ _ _ _ (by decide), shown]

/-- The set of domains being fenced is no part of the view without `near`. -/
theorem mains_fencing (x : NMap Bool) : ({ s with pwr := { s.pwr with fencing := x } } : State).mains false z = s.mains false z := (rfl)

theorem mains_segFail {d : Nat} (hd : d < 16) (k : Nat) : (s.segFail d k).mains false false = s.mains false false := by
  obtain ⟨-, -, hf, hfn⟩ := segFields_far d hd
  unfold State.segFail
  split
  · rfl
  · extract_lets was u v
    have hv : v.mains false false = s.mains false false :=
      (mains_segRegs _ hd).trans ((mains_retireUnit ..).trans (mains_wr_at _ _ _ _ _ _ hf (Or.inl hfn)))
    rw [← hv]
    split
    · exact mains_raise ..
    · exact mains_raise ..
    · split
      · rfl
      · exact mains_fencing _ _ _

@[simp ↓] theorem mains_clusterFence (n : Nat) : (s.clusterFence n).mains false false = s.mains false false := by
  unfold State.clusterFence
  extract_lets u v w x
  have hu : u.mains false false = s.mains false false := mains_foldl _ (fun _ _ => by simp) _ _
  have quads : ((List.range 4).foldl (fun s i => s.clearQuad (4 * n + i)) x).mains false false = x.mains false false :=
    mains_foldl _ (fun _ _ => by simp) _ _
  rw [quads]
  simp (disch := decide) [x, w, v, hu, State.clearCluster]

theorem grid_domFence {d : Nat} (hd : d < 16) : (s.domFence d).grid false false = s.grid false false := by
  have cleared : ((clustersIn d).foldl State.clusterFence s).mains false false = s.mains false false := mains_foldl _ (fun _ _ => by simp) _ _
  have noted : (s.fenceNote d).mains false false = s.mains false false :=
    (mains_fencing _ _ _).trans ((mains_raise ..).trans cleared)
  rw [domFence_eq]
  exact (grid_of_mains (mains_wr _ _ _ _ _ _ (by decide))).trans ((grid_domLose_far hd).trans (grid_of_mains noted))

@[simp ↓] theorem mains_fenceArray (c a cause : Nat) : (s.fenceArray c a cause).mains false false = s.mains false false := by
  unfold State.fenceArray
  extract_lets p live u src v
  have hv : v.mains false false = s.mains false false := by simp (disch := decide) [v, u]
  split
  · simp [hv]
  · simp [hv]

@[simp ↓] theorem mains_katFence (c a : Nat) : (s.katFence c a).mains false false = s.mains false false := by
  simp [State.katFence]

end

/-! ### What the boot keeps -/

/-- What the steps of the boot leave: the boot's own state, whether air flows, time, the Keeper's fields, and what is on of the domains from 16 on. -/
structure State.boots (s t : State) : Prop where
  boot : t.boot = s.boot
  airflow : t.pwr.airflow = s.pwr.airflow
  tbc : t.tbc = s.tbc
  on : ∀ d, 16 ≤ d → d < 24 → s.domOn d = true → t.domOn d = true

section
variable {s t u : State}

theorem boots_refl (s : State) : s.boots s := ⟨rfl, rfl, rfl, fun _ _ _ h => h⟩

theorem boots_trans (h : s.boots t) (h' : t.boots u) : s.boots u :=
  ⟨h'.boot.trans h.boot, h'.airflow.trans h.airflow, h'.tbc.trans h.tbc, fun d hl hd hon => h'.on d hl hd (h.on d hl hd hon)⟩

theorem boots_foldl {α : Type} (f : State → α → State) (xs : List α) (h : ∀ (s : State), ∀ x ∈ xs, s.boots (f s x)) :
    ∀ s : State, s.boots (xs.foldl f s) := by
  induction xs with
  | nil => exact boots_refl
  | cons x xs ih => exact fun s => boots_trans (h s x List.mem_cons_self) (ih (fun s y hy => h s y (List.mem_cons_of_mem _ hy)) _)

theorem boots_of_grid {n z : Bool} (h : t.grid n z = s.grid n z) : s.boots t := by
  refine ⟨grid_boot h, grid_airflow h, grid_tbc h, fun d hl hd hon => ?_⟩
  rw [domOn_eq_bit hd] at hon ⊢
  have shift (v : Nat) : bit v d = bit (v % 2 ^ 25 / 2 ^ 16) (d - 16) := by
    obtain ⟨k, rfl⟩ := Nat.exists_eq_add_of_le hl
    rw [← bit_mod v (by omega : 16 + k < 25), Nat.add_sub_cancel_left]
    simp only [bit]
    rw [pow_add, Nat.div_div_eq_div_mul]
  rw [shift, grid_high h, ← shift]
  exact hon

theorem boots_of_mains {n z : Bool} (h : t.mains n z = s.mains n z) : s.boots t := boots_of_grid (grid_of_mains h)

theorem boots_wr (s : State) (f : Fld) (i v : Nat) (h : R.PWR_DOM_STATUS_ON.id ≠ f.id) : s.boots (s.wr f i v) :=
  ⟨rfl, rfl, rfl, fun d _ _ hon => (domOn_wr s f i v d h).trans hon⟩

theorem boots_domRise (s : State) {d : Nat} (hd : d < 24) : s.boots (s.domRise d) := by
  have kept := grid_domRise (s := s) (n := true) hd
  exact ⟨(grid_boot kept).trans rfl, (grid_airflow kept).trans rfl, (grid_tbc kept).trans rfl,
    fun e _ he hon => by rw [domOn_domRise hd he, hon, Bool.true_or]⟩

theorem boots_bootPhase (s : State) (k : Nat) : s.boots (s.bootPhase k) :=
  boots_trans (boots_wr _ _ _ _ (by decide)) (boots_wr _ _ _ _ (by decide))

theorem domOn_rise (s : State) {d : Nat} (hd : d < 24) : (s.domRise d).domOn d = true := by
  rw [domOn_domRise hd hd]
  simp

end

end Sys2Proof.Machine
end

section
/-!
SUPPORT. The boot from step 5 on: memory, compute, admission, and the end of the sequence.
-/

namespace Sys2Proof.Machine

/-! ### What replay brings into force -/

section
variable (s : State)

@[simp ↓] theorem mains_presenceLoad : s.presenceLoad.mains false false = s.mains false false := by
  unfold State.presenceLoad
  extract_lets clu quad u v w x
  have hv : v.mains false false = u.mains false false := mains_foldl _ (fun _ _ => by simp) _ _
  simp [x, w, hv, u]

@[simp ↓] theorem mains_derateLoad (n z : Bool) : s.derateLoad.mains n z = s.mains n z := by
  simp (disch := decide) [State.derateLoad]

theorem trimFields : ∀ d < 16, (R.PWR_TRIM_TRIM d).id ∉ mainsIds := by decide

@[simp ↓] theorem mains_logLoad : s.logLoad.mains false false = s.mains false false := by
  unfold State.logLoad
  extract_lets i u v w x
  have hu : u.mains false false = s.mains false false := by
    refine mains_foldl_mem _ _ (fun s d hd => ?_) _
    have hd := List.mem_range.mp hd
    obtain ⟨-, -, hf, hfn⟩ := segFields_far d hd
    dsimp only
    rw [mains_segRegs _ hd, mains_wr_at _ _ _ _ _ _ hf (Or.inl hfn), mains_wr _ _ _ _ _ _ (trimFields d hd)]
  have hv : v.mains false false = u.mains false false := mains_foldl _ (fun _ _ => mains_wr _ _ _ _ _ _ (by decide)) _ _
  have hw : w.mains false false = s.mains false false := by simp (disch := decide) [w, hv, hu]
  have hx : x.mains false false = s.mains false false := by simp [x, hw]
  simp [hx]

/-! ### Rails and memory -/

theorem boots_setRail (r : Nat) (x : Rail) : s.boots (s.setRail r x) :=
  ⟨rfl, rfl, rfl, fun d _ hd h => by
    rw [domOn_eq_bit hd] at h ⊢
    exact h⟩

theorem boots_railAt (r v : Nat) : s.boots (s.railAt r v) := by
  unfold State.railAt State.avsSend
  refine boots_trans (boots_setRail s r ⟨v, none, 4, false⟩) (boots_of_mains (n := false) (z := false) ?_)
  simp only [mains_emit]

theorem boots_bootRails : s.boots s.bootRails := by
  unfold State.bootRails
  extract_lets u
  have hu : s.boots u := boots_bootPhase _ _
  split
  · exact hu
  · exact boots_trans hu (boots_trans (boots_railAt _ _ _) (boots_trans (boots_railAt _ _ _) (boots_railAt _ _ _)))

/-- The memories' domains come on in step 6. -/
def State.memoryRise (s : State) : State := [17, 18, 19, 20].foldl State.domRise (s.bootPhase 5)

theorem bootMemory_mains (e : BootEnv) : (s.bootMemory e).mains false false = s.memoryRise.mains false false := by
  unfold State.bootMemory
  extract_lets u v w
  have hw : w.mains false false = s.memoryRise.mains false false := by
    simp only [w, v, mains_stacksLeave, mains_chansBoot]
    rfl
  exact hw

theorem memoryRise_eq : s.memoryRise = ((((s.bootPhase 5).domRise 17).domRise 18).domRise 19).domRise 20 := rfl

theorem boots_memoryRise : s.boots s.memoryRise := by
  rw [memoryRise_eq]
  have rise (t : State) (d : Nat) (hd : d < 24) : t.boots (t.domRise d) := boots_domRise t hd
  exact boots_trans (boots_bootPhase _ _) (boots_trans (rise _ 17 (by decide)) (boots_trans (rise _ 18 (by decide))
    (boots_trans (rise _ 19 (by decide)) (rise _ 20 (by decide)))))

theorem boots_bootMemory (e : BootEnv) : s.boots (s.bootMemory e) := boots_trans (boots_memoryRise s) (boots_of_mains (bootMemory_mains s e))

theorem domOn_bootMemory (e : BootEnv) {d : Nat} (hl : 17 ≤ d) (hd : d ≤ 20) : (s.bootMemory e).domOn d = true := by
  refine (boots_of_mains (bootMemory_mains s e)).on d (by omega) (by omega) ?_
  rw [memoryRise_eq]
  simp only [domOn_domRise (by omega : 17 < 24) (by omega : d < 24), domOn_domRise (by omega : 18 < 24) (by omega : d < 24),
    domOn_domRise (by omega : 19 < 24) (by omega : d < 24), domOn_domRise (by omega : 20 < 24) (by omega : d < 24)]
  interval_cases d <;> simp

theorem phase_bootPhase {k : Nat} (hk : k < 16) : (s.bootPhase k).rg R.KPR_BOOT_STATUS_PHASE pKpr = k :=
  (State.rg_wr_fld _ _ _ _ (by decide)).trans ((State.rg_wr_self ..).trans (Nat.mod_eq_of_lt hk))

theorem stalled_bootPhase (k : Nat) : (s.bootPhase k).rg R.KPR_BOOT_STATUS_STALLED pKpr = 0 := State.rg_wr_self ..

theorem phase_bootMemory (e : BootEnv) : (s.bootMemory e).rg R.KPR_BOOT_STATUS_PHASE pKpr = 5 := by
  have rise (t : State) (d : Nat) (hd : d < 24) : (t.domRise d).rg R.KPR_BOOT_STATUS_PHASE pKpr = t.rg R.KPR_BOOT_STATUS_PHASE pKpr :=
    rg_domRise hd _ _ (by decide) (by decide) (by decide)
  rw [mains_rg (bootMemory_mains s e) _ _ (by decide), memoryRise_eq, rise _ 20 (by decide), rise _ 19 (by decide), rise _ 18 (by decide),
    rise _ 17 (by decide)]
  exact phase_bootPhase _ (by decide)

/-- A step that stops shows it, with the status of its cause, in its own phase. -/
theorem bootStop_shows (st : Nat) : (s.bootStop st).rg R.KPR_BOOT_STATUS_STALLED pKpr = 1 ∧ (s.bootStop st).rg R.KPR_BOOT_STATUS_STATUS pKpr = st % 2 ^ 16
    ∧ (s.bootStop st).rg R.KPR_BOOT_STATUS_PHASE pKpr = s.rg R.KPR_BOOT_STATUS_PHASE pKpr :=
  ⟨(State.rg_wr_fld _ _ _ _ (by decide)).trans (State.rg_wr_self ..), State.rg_wr_self ..,
    (State.rg_wr_fld _ _ _ _ (by decide)).trans (State.rg_wr_fld _ _ _ _ (by decide))⟩

/-! ### Compute -/

theorem boots_bootDomain (segs : List Nat) {d : Nat} (hd : d < 16) : s.boots (s.bootDomain segs d) := by
  unfold State.bootDomain
  split
  · exact boots_of_mains (mains_bootDegraded s false (z := false))
  · extract_lets u
    have failed : u.mains false false = (s.domRise d).mains false false := mains_foldl _ (fun s k => mains_segFail s hd k) _ _
    have hu : s.boots u := boots_trans (boots_domRise s (by omega)) (boots_of_mains failed)
    split
    · exact boots_trans hu (boots_trans (boots_of_grid (grid_domFence u hd)) (boots_of_mains (mains_bootDegraded _ false (z := false))))
    · exact hu

theorem boots_bootCompute (e : BootEnv) : s.boots (s.bootCompute e) := by
  unfold State.bootCompute
  extract_lets u
  have hu : s.boots u := boots_foldl _ _ (fun s d hd => boots_bootDomain s _ (List.mem_range.mp hd)) s
  exact boots_trans hu (boots_domRise u (by decide))

theorem domOn_bootCompute (e : BootEnv) : (s.bootCompute e).domOn 16 = true := by
  unfold State.bootCompute
  extract_lets u
  exact domOn_rise u (by decide)

/-! ### Admission -/

@[simp ↓] theorem mains_admitPass (n z : Bool) (i : Nat) : (s.admitPass i).mains n z = s.mains n z := by
  have dated : ∀ a < 4, (R.CORE_KAT_PASS_TBC_TBC a).id ∉ mainsIds := by decide
  unfold State.admitPass
  extract_lets k
  rw [mains_setKat, mains_wr _ _ _ _ _ _ (dated _ (Nat.mod_lt _ (by decide)))]

@[simp ↓] theorem mains_admitKat (fails : List Nat) : (s.admitKat fails).2.mains false false = s.mains false false := by
  unfold State.admitKat
  extract_lets l u
  have hu : u.mains false false = s.mains false false := mains_foldl _ (fun _ _ => by simp) _ _
  rw [← hu]
  exact mains_foldl _ (fun _ _ => by simp (disch := decide)) _ _

@[simp ↓] theorem mains_admitMem (low fail : List Nat) : (s.admitMem low fail).2.2.mains false false = s.mains false false := by
  simp [State.admitMem]

@[simp ↓] theorem mains_admitFail (n : Bool) (z : Bool) (k : Nat) : (s.admitFail k).mains n z = s.mains n z := by
  unfold State.admitFail
  split
  · rfl
  · exact (mains_foldl _ (fun _ _ => by simp) _ _).trans (by simp)

theorem mains_admission (e : BootEnv) : (s.admission e).mains false false = (s.bootPhase 7).mains false false := by
  unfold State.admission
  extract_lets u
  have kat : (if u.flag R.KPR_ADMIT_CTRL_KAT pKpr then u.admitKat e.katFail else (0, u)).2.mains false false = u.mains false false := by
    split
    · exact mains_admitKat ..
    · rfl
  have mem (s : State) : (if s.flag R.KPR_ADMIT_CTRL_MEM pKpr then s.admitMem e.memLow e.memFail else (0, 0, s)).2.2.mains false false
      = s.mains false false := by
    split
    · exact mains_admitMem ..
    · rfl
  split
  · rfl
  · dsimp only
    simp (disch := decide) [mem, kat]
    rfl

theorem boots_admission (e : BootEnv) : s.boots (s.admission e) := boots_trans (boots_bootPhase _ _) (boots_of_mains (mains_admission s e))

/-! ### Host and READY -/

theorem deviceFields : ∀ d < 4, (R.FAR_DEV_BASE_BASE d).id ∉ mainsIds ∧ (R.FAR_DEV_BASE_FRAMES d).id ∉ mainsIds := by decide

/-- An expander is enumerated: its frames follow those before it. -/
def farStep (caps : List Nat) (a : State × Nat × Nat) (d : Nat) : State × Nat × Nat :=
  let cap := caps.getD d 0
  let n := min (cap / 2 ^ 21) (2 ^ 21 - a.2.1)
  ((a.1.wr (R.FAR_DEV_BASE_BASE d) pFar a.2.1).wr (R.FAR_DEV_BASE_FRAMES d) pFar n, a.2.1 + n, a.2.2 + (cap - n * 2 ^ 21))

theorem mains_farSteps (n z : Bool) (caps : List Nat) (xs : List Nat) (hx : ∀ d ∈ xs, d < 4) :
    ∀ a : State × Nat × Nat, (xs.foldl (farStep caps) a).1.mains n z = a.1.mains n z := by
  induction xs with
  | nil => exact fun _ => rfl
  | cons d xs ih =>
    intro a
    obtain ⟨hb, hf⟩ := deviceFields d (hx d List.mem_cons_self)
    refine (ih (fun e he => hx e (List.mem_cons_of_mem _ he)) _).trans ?_
    exact (mains_wr _ _ _ _ _ _ hf).trans (mains_wr _ _ _ _ _ _ hb)

@[simp ↓] theorem mains_farDegraded (n z : Bool) : s.farDegraded.mains n z = s.mains n z := mains_wrB _ _ _ _ _ _ (by decide)

@[simp ↓] theorem mains_farEnum (n z : Bool) (caps low : List Nat) : (s.farEnum caps low).mains n z = s.mains n z := by
  have steps := mains_farSteps n z caps (List.range 4) (fun _ h => List.mem_range.mp h) (s, 0, 0)
  change (State.farDegraded _).mains n z = _
  rw [mains_farDegraded, mains_wr _ _ _ _ _ _ (by decide), mains_wr _ _ _ _ _ _ (by decide), mains_wr _ _ _ _ _ _ (by decide), mains_hbm]
  exact steps

@[simp ↓] theorem mains_pcieTrain (n z f : Bool) (g w : Nat) : (s.pcieTrain f g w).mains n z = s.mains n z := by
  simp [State.pcieTrain]

@[simp ↓] theorem mains_digestUpdate (n z : Bool) (p : Nat) : (s.digestUpdate p).mains n z = s.mains n z := by
  unfold State.digestUpdate
  extract_lets d u
  split
  · rfl
  · rw [mains_wr _ _ _ _ _ _ (by decide), mains_agree, mains_wr _ _ _ _ _ _ (by decide)]

@[simp ↓] theorem mains_daymarkCompute (n z : Bool) : s.daymarkCompute.mains n z = s.mains n z := by
  unfold State.daymarkCompute
  extract_lets d was un src u src' v w
  have hu : u.mains n z = s.mains n z := (mains_wr _ _ _ _ _ _ (by decide)).trans (mains_agree ..)
  have hv : v.mains n z = s.mains n z := by
    dsimp only [v]
    split
    · exact hu
    · exact (mains_cnt ..).trans ((mains_wr _ _ _ _ _ _ (by decide)).trans ((mains_agree ..).trans hu))
  have hw : w.mains n z = s.mains n z := (mains_wrB _ _ _ _ _ _ (by decide)).trans hv
  split
  · exact (mains_raise ..).trans hw
  · exact hw

/-- ENABLE, the tests that are due, and the digests of step 12. -/
def State.unitsEnabled (s : State) : State :=
  let s := ((List.range 0xC00).filter s.unitServes).foldl (fun s p => s.wr R.HDR_CTRL_ENABLE p 1) s
  let s := ((s.cores.filter (fun e => decide (e.2.kat.due ≠ 0))).map (fun e => e.1)).foldl State.katDue s
  termPages.foldl State.digestUpdate s

/-- The time of READY is noted, and BOOT_READY waits to be recorded. -/
def State.readyNote (s : State) : State :=
  let s := s.wr R.KPR_BOOT_TBC_TBC pKpr s.tbc
  { s with boot := { s.boot with readyPend := true } }

theorem bootReady_eq : s.bootReady = (s.unitsEnabled.bootPhase 10).daymarkCompute.readyNote.bootReadyTry := rfl

theorem mains_unitsEnabled (n z : Bool) : s.unitsEnabled.mains n z = s.mains n z := by
  unfold State.unitsEnabled
  extract_lets u v
  have hu : u.mains n z = s.mains n z := mains_foldl _ (fun _ _ => mains_wr _ _ _ _ _ _ (by decide)) _ _
  have hv : v.mains n z = u.mains n z := mains_foldl _ (fun _ _ => by simp) _ _
  exact (mains_foldl _ (fun _ _ => by simp) _ _).trans (hv.trans hu)

/-- BOOT_READY is recorded now or when a queue for it exists. -/
theorem bootReadyTry_mains (n z : Bool) :
    ∃ b, s.bootReadyTry.mains n z = ({ s with boot := b } : State).mains n z ∧ b.holdAir = s.boot.holdAir := by
  unfold State.bootReadyTry
  split
  · exact ⟨_, mains_event .., rfl⟩
  · exact ⟨s.boot, rfl, rfl⟩

/-- How far the boot has come, as a step of it leaves it at the end: READY. -/
structure State.readied (s t : State) : Prop where
  phase : t.rg R.KPR_BOOT_STATUS_PHASE pKpr = 10
  stalled : t.rg R.KPR_BOOT_STATUS_STALLED pKpr = 0
  bootTbc : t.rg R.KPR_BOOT_TBC_TBC pKpr = s.tbc % 2 ^ 64
  airflow : t.pwr.airflow = s.pwr.airflow
  holdAir : t.boot.holdAir = s.boot.holdAir
  on : ∀ d, 16 ≤ d → d < 24 → s.domOn d = true → t.domOn d = true

theorem readied_of_boots {s t u : State} (h : s.boots t) (h' : t.readied u) : s.readied u where
  phase := h'.phase
  stalled := h'.stalled
  bootTbc := h'.bootTbc.trans (by rw [h.tbc])
  airflow := h'.airflow.trans h.airflow
  holdAir := h'.holdAir.trans (by rw [h.boot])
  on d hl hd hon := h'.on d hl hd (h.on d hl hd hon)

theorem readyNote_rg (b : BootSt) (f : Fld) (i : Nat) :
    ({ s.readyNote with boot := b } : State).rg f i = (s.wr R.KPR_BOOT_TBC_TBC pKpr s.tbc).rg f i := rfl

/-- READY is noted where the last phase has begun. -/
theorem readyNote_readied (hphase : s.rg R.KPR_BOOT_STATUS_PHASE pKpr = 10) (hstalled : s.rg R.KPR_BOOT_STATUS_STALLED pKpr = 0) :
    s.readied s.readyNote.bootReadyTry := by
  obtain ⟨b, kept, hair⟩ := bootReadyTry_mains s.readyNote false false
  have cell (f : Fld) (hf : mainsCell false false f.id pKpr = true) :
      s.readyNote.bootReadyTry.rg f pKpr = (s.wr R.KPR_BOOT_TBC_TBC pKpr s.tbc).rg f pKpr := (mains_rg kept f pKpr hf).trans (readyNote_rg ..)
  have air : s.readyNote.bootReadyTry.pwr.airflow = s.pwr.airflow := (mains_airflow kept).trans rfl
  refine ⟨?_, ?_, ?_, air, ?_, fun d hl hd hon => ?_⟩
  · exact (cell _ (by decide)).trans ((State.rg_wr_fld _ _ _ _ (by decide)).trans hphase)
  · exact (cell _ (by decide)).trans ((State.rg_wr_fld _ _ _ _ (by decide)).trans hstalled)
  · exact (cell _ (by decide)).trans (State.rg_wr_self ..)
  · rw [mains_boot kept]
    exact hair
  · refine (boots_of_mains kept).on d hl hd ?_
    rw [domOn_eq_bit hd] at hon ⊢
    rw [readyNote_rg, State.rg_wr_fld _ _ _ _ (by decide)]
    exact hon

theorem bootReady_readied : s.readied s.bootReady := by
  have enabled : s.boots s.unitsEnabled := boots_of_mains (mains_unitsEnabled s false false)
  have marked := mains_daymarkCompute (s.unitsEnabled.bootPhase 10) false false
  have before : s.boots (s.unitsEnabled.bootPhase 10).daymarkCompute :=
    boots_trans enabled (boots_trans (boots_bootPhase _ 10) (boots_of_mains marked))
  rw [bootReady_eq]
  refine readied_of_boots before (readyNote_readied _ ?_ ?_)
  · exact (mains_rg marked _ _ (by decide)).trans (phase_bootPhase _ (by decide))
  · exact (mains_rg marked _ _ (by decide)).trans (stalled_bootPhase _ 10)

/-- The host's domain comes on, the expanders are enumerated and the host's link trains. -/
def State.hostRise (s : State) (e : BootEnv) : State := ((s.domRise 23).farEnum e.expanders e.farLow).pcieTrain e.flit e.gts e.width

theorem mains_hostRise (e : BootEnv) : (s.hostRise e).mains false false = (s.domRise 23).mains false false := by
  simp [State.hostRise]

theorem boots_hostRise (e : BootEnv) : s.boots (s.hostRise e) :=
  boots_trans (boots_domRise s (by decide)) (boots_of_mains (mains_hostRise s e))

theorem domOn_hostRise (e : BootEnv) : (s.hostRise e).domOn 23 = true :=
  (boots_of_mains (mains_hostRise s e)).on 23 (by decide) (by decide) (domOn_rise s (by decide))

/-- The ports' domains come on in step 11. -/
def State.portsRise (s : State) : State := ((s.bootPhase 9).domRise 21).domRise 22

theorem boots_portsRise : s.boots s.portsRise :=
  boots_trans (boots_bootPhase s 9) (boots_trans (boots_domRise (s.bootPhase 9) (d := 21) (by decide)) (boots_domRise _ (d := 22) (by decide)))

theorem domOn_portsRise {d : Nat} (h : d = 21 ∨ d = 22) : s.portsRise.domOn d = true := by
  unfold State.portsRise
  rcases h with rfl | rfl
  · exact (boots_domRise _ (by decide)).on 21 (by decide) (by decide) (domOn_rise _ (by decide))
  · exact domOn_rise _ (by decide)

/-- Steps 9 to 11. -/
def State.hosted (s : State) (e : BootEnv) : State :=
  let s := (((s.admission e).bootPhase 8).hostRise e).portsRise
  s.wr R.PWR_DOM_CTRL_ON pPwr (s.rg R.PWR_DOM_STATUS_ON pPwr)

theorem boot9_eq (e : BootEnv) : s.boot9 e = (s.hosted e).bootReady := rfl

theorem boots_ports_ctrl : s.boots (s.portsRise.wr R.PWR_DOM_CTRL_ON pPwr (s.portsRise.rg R.PWR_DOM_STATUS_ON pPwr)) :=
  boots_trans (boots_portsRise s) (boots_wr _ _ _ _ (by decide))

theorem boots_hosted (e : BootEnv) : s.boots (s.hosted e) :=
  boots_trans (boots_admission s e) (boots_trans (boots_bootPhase _ 8) (boots_trans (boots_hostRise _ e) (boots_ports_ctrl _)))

theorem domOn_hosted (e : BootEnv) {d : Nat} (hl : 21 ≤ d) (hd : d < 24) : (s.hosted e).domOn d = true := by
  unfold State.hosted
  extract_lets u
  refine (domOn_wr _ _ _ _ _ (by decide)).trans ?_
  by_cases h : d = 23
  · exact (boots_portsRise _).on d (by omega) hd (by rw [h]; exact domOn_hostRise _ e)
  · exact domOn_portsRise _ (by omega)

theorem bootEnds (e : BootEnv) : s.readied ((s.bootCompute e).boot9 e)
    ∧ ((∀ d, 17 ≤ d → d ≤ 20 → s.domOn d = true) → ∀ d, 16 ≤ d → d < 24 → ((s.bootCompute e).boot9 e).domOn d = true) := by
  rw [boot9_eq]
  have computed := boots_bootCompute s e
  have upTo := boots_hosted (s.bootCompute e) e
  have ends := bootReady_readied ((s.bootCompute e).hosted e)
  refine ⟨readied_of_boots (boots_trans computed upTo) ends, fun hmem d hl hd => ends.on d hl hd ?_⟩
  by_cases h21 : 21 ≤ d
  · exact domOn_hosted _ e h21 hd
  · refine upTo.on d hl hd ?_
    by_cases h16 : d = 16
    · exact h16 ▸ domOn_bootCompute s e
    · exact computed.on d hl hd (hmem d (by omega) (by omega))

/-- Step 8 with the airflow as it should be goes on to READY. -/
theorem boot8_readied {e : BootEnv} (hlow : e.airLow = false) (hair : s.pwr.airflow = false) : s.readied (s.boot8 e)
    ∧ ((∀ d, 17 ≤ d → d ≤ 20 → s.domOn d = true) → ∀ d, 16 ≤ d → d < 24 → (s.boot8 e).domOn d = true) := by
  have begun := boots_bootPhase s 6
  have same : s.boot8 e = ((s.bootPhase 6).bootCompute e).boot9 e := by
    unfold State.boot8
    extract_lets u
    have hu : u.pwr.airflow = false := begun.airflow.trans hair
    rw [if_neg (by simp [hlow, hu])]
  rw [same]
  obtain ⟨ready, on⟩ := bootEnds (s.bootPhase 6) e
  exact ⟨readied_of_boots begun ready, fun hmem => on fun d hl hd => begun.on d (by omega) (by omega) (hmem d hl hd)⟩

/-- Step 8 without the airflow stops. -/
theorem boot8_held {e : BootEnv} (h : e.airLow = true ∨ s.pwr.airflow = true) : (s.boot8 e).rg R.KPR_BOOT_STATUS_PHASE pKpr = 6
    ∧ (s.boot8 e).rg R.KPR_BOOT_STATUS_STALLED pKpr = 1 ∧ (s.boot8 e).rg R.KPR_BOOT_STATUS_STATUS pKpr = St.RESTART_DENIED
    ∧ (s.boot8 e).boot.holdAir = true := by
  have begun := boots_bootPhase s 6
  have hphase := phase_bootPhase s (k := 6) (by decide)
  unfold State.boot8
  extract_lets u src src' v
  have hu : e.airLow = true ∨ u.pwr.airflow = true := h.imp_right (begun.airflow.trans ·)
  rw [if_pos hu]
  obtain ⟨stalled, status, phase⟩ := bootStop_shows (v.wr R.PWR_THERM_STATUS_AIRFLOW pPwr 1) St.RESTART_DENIED
  have vphase : v.rg R.KPR_BOOT_STATUS_PHASE pKpr = 6 := hphase
  exact ⟨phase.trans ((State.rg_wr_fld _ _ _ _ (by decide)).trans vphase), stalled, status, rfl⟩

end

end Sys2Proof.Machine
end

section
/-!
SUPPORT. The boot's first four steps with STRAP_FOG_N low: Fog mode.
-/

namespace Sys2Proof.Machine

/-! ### What steps 1 to 4 leave of the boot's own state -/

section
variable (n z : Bool) (s : State)

@[simp ↓] theorem mains_setFl (d : Nat) (x : FlashDev) : (s.setFl d x).mains n z = s.mains n z := (rfl)

@[simp ↓] theorem mains_otpRegs : s.otpRegs.mains n z = s.mains n z := by
  simp (disch := decide) [State.otpRegs]

@[simp ↓] theorem mains_otpRepair : s.otpRepair.mains n z = s.mains n z := (mains_otpRegs ..).trans (mains_log ..)

@[simp ↓] theorem mains_otpAdvance (k v : Nat) : (s.otpAdvance k v).mains n z = s.mains n z := (mains_otpRegs ..).trans (mains_log ..)

@[simp ↓] theorem mains_badDevice (d : Nat) : (s.badDevice d).mains n z = s.mains n z := (rfl)

@[simp ↓] theorem mains_headMove (d : Nat) : (s.headMove d).mains n z = s.mains n z :=
  (mains_foldl _ (fun _ _ => by simp) _ _).trans (mains_setFl ..)

@[simp ↓] theorem mains_headFor (d k : Nat) : (s.headFor d k).mains n z = s.mains n z := by
  simp [State.headFor]

/-- A copy that the device takes at once. -/
@[simp ↓] theorem mains_writeCopy_nil (d flash : Nat) (r : LogRec) : (s.writeCopy d flash r []).1.mains n z = s.mains n z := by
  simp [State.writeCopy]

@[simp ↓] theorem mains_logStateNow : s.logStateNow.mains n z = s.mains n z := by
  simp (disch := decide) [State.logStateNow]

@[simp ↓] theorem mains_logRegs : s.logRegs.mains n z = s.mains n z := by
  simp (disch := decide) [State.logRegs]

@[simp ↓] theorem mains_logReplay (keep : Bool) : (s.logReplay keep).1.mains n z = s.mains n z := by
  unfold State.logReplay
  extract_lets l waiting rs torn close next
  obtain ⟨image, sums, base⟩ := l.rebuild
  dsimp -zeta only
  extract_lets image' u dev v on lack w src x
  have hdev (d : Nat) (s : State) : (dev d s).mains n z = s.mains n z := by
    dsimp only [dev]
    split
    · exact mains_setFl ..
    · rfl
  have hw : w.mains n z = v.mains n z := mains_foldl _ (fun _ _ => mains_writeCopy_nil ..) _ _
  have hx : x.mains n z = w.mains n z := (mains_logStateNow ..).trans (mains_log ..)
  rw [mains_logRegs, mains_wr _ _ _ _ _ _ (by decide), hx, hw, hdev, hdev]
  exact mains_log ..

@[simp ↓] theorem mains_incidentSummary : s.incidentSummary.mains n z = s.mains n z := by
  simp [State.incidentSummary]

@[simp ↓] theorem mains_incidentCut : s.incidentCut.mains n z = s.mains n z := by
  unfold State.incidentCut
  extract_lets rs opens sums last
  split
  · rfl
  · extract_lets
    split
    · rfl
    · exact (mains_incidentSummary ..).trans rfl

@[simp ↓] theorem mains_keyRegs : s.keyRegs.mains n z = s.mains n z := by
  simp (disch := decide) [State.keyRegs]

@[simp ↓] theorem mains_keyBoot : s.keyBoot.mains n z = s.mains n z := by
  unfold State.keyBoot
  extract_lets good pick fit commits u low src v
  have hu : u.mains n z = s.mains n z := by
    dsimp only [u]
    split
    · split
      · exact mains_otpAdvance ..
      · rfl
    · rfl
  have hv : v.mains n z = s.mains n z := hu
  split
  · exact mains_keyRegs ..
  · split
    · exact (mains_keyRegs ..).trans ((mains_raise ..).trans hv)
    · split
      · exact hv
      · extract_lets bad w x y
        have hw : w.mains n z = v.mains n z := mains_foldl _ (fun _ _ => mains_log ..) _ _
        have hx : x.mains n z = v.mains n z := by simp [x, hw]
        have hy : y.mains n z = v.mains n z := by simp [y, hx]
        exact (mains_keyRegs ..).trans (hy.trans hv)

@[simp ↓] theorem mains_rmapLoad : s.rmapLoad.mains n z = s.mains n z := by
  simp (disch := decide) [State.rmapLoad]

@[simp ↓] theorem mains_slotRegs : s.slotRegs.mains n z = s.mains n z := by
  simp (disch := decide) [State.slotRegs]

theorem boot_energyLoad : s.energyLoad.boot = s.boot := by
  unfold State.energyLoad
  split <;> rfl

/-! ### Fog mode -/

/-- Every domain goes off, and the host's comes on again in Fog mode. -/
def State.fogDomains (s : State) : State :=
  let s := ((List.range 24).filter s.domOn).foldl State.domLose s
  (s.wr R.KPR_KSTATE_STATE pKpr 2).domRise 23

theorem boot_domLosses (xs : List Nat) : ∀ s : State, (∀ d ∈ xs, d < 24) → (xs.foldl State.domLose s).boot = s.boot := by
  induction xs with
  | nil => exact fun _ _ => rfl
  | cons d xs ih =>
    intro s h
    have first : (s.domLose d).boot = s.boot := (grid_boot (n := false) (z := false) (grid_domLose (h d List.mem_cons_self))).trans rfl
    exact (ih _ (fun e he => h e (List.mem_cons_of_mem _ he))).trans first

theorem boot_fogDomains : s.fogDomains.boot = s.boot := by
  have lost := boot_domLosses ((List.range 24).filter s.domOn) s (fun d hd => List.mem_range.mp (List.mem_of_mem_filter hd))
  unfold State.fogDomains
  extract_lets u
  exact (boots_domRise _ (by decide)).boot.trans lost

theorem kstate_fogDomains : s.fogDomains.rg R.KPR_KSTATE_STATE pKpr = 2 := by
  unfold State.fogDomains
  extract_lets u
  rw [rg_domRise (by decide) _ _ (by decide) (by decide) (by decide)]
  exact State.rg_wr_self ..

/-- Nothing stays in progress in Fog mode. -/
def State.fogClear (s : State) : State :=
  { s with
    fw := { s.fw with fogRequested := false, load := none }
    recov := { s.recov with resets := [], dumps := [] }
    pwr := { s.pwr with switchOn := [], switchOff := [] } }

/-- The Keeper shows Fog mode. -/
def State.fogShow (s : State) : State :=
  let s := (s.wr R.FWU_FWU_STATUS_BUSY pFwu 0).wr R.FWU_FWU_STATUS_FOG pFwu 1
  let s := (s.wr R.KPR_RST_STATUS_CHIP_PEND pKpr 0).wr R.HDR_CTRL_RESET_REQ pTop 0
  (s.wr R.KPR_BOOT_STATUS_PHASE pKpr 14).wr R.KPR_BOOT_STATUS_STALLED pKpr 0

theorem enterFog_eq : s.enterFog = s.fogDomains.fogClear.fogShow := rfl

theorem fogClear_rg (f : Fld) (i : Nat) : s.fogClear.rg f i = s.rg f i := State.rg_congr (s := s) (t := s.fogClear) rfl f i

theorem boot_fogClear : s.fogClear.boot = s.boot := rfl

theorem fogShow_shows : s.fogShow.rg R.KPR_BOOT_STATUS_PHASE pKpr = 14 ∧ s.fogShow.rg R.KPR_KSTATE_STATE pKpr = s.rg R.KPR_KSTATE_STATE pKpr
    ∧ s.fogShow.boot = s.boot := by
  unfold State.fogShow
  extract_lets u v
  refine ⟨(State.rg_wr_fld _ _ _ _ (by decide)).trans (State.rg_wr_self ..), ?_, rfl⟩
  have other (t : State) (f : Fld) (i v : Nat) (hf : R.KPR_KSTATE_STATE.id ≠ f.id) :
      (t.wr f i v).rg R.KPR_KSTATE_STATE pKpr = t.rg R.KPR_KSTATE_STATE pKpr := State.rg_wr_fld _ _ _ _ hf
  rw [other _ _ _ _ (by decide), other _ _ _ _ (by decide), other _ _ _ _ (by decide), other _ _ _ _ (by decide), other _ _ _ _ (by decide),
    other _ _ _ _ (by decide)]

theorem enterFog_fog : s.enterFog.fog = true ∧ s.enterFog.rg R.KPR_BOOT_STATUS_PHASE pKpr = 14 ∧ s.enterFog.boot = s.boot := by
  obtain ⟨phase, kstate, boot⟩ := fogShow_shows s.fogDomains.fogClear
  rw [enterFog_eq]
  refine ⟨decide_eq_true ?_, phase, boot.trans ((boot_fogClear _).trans (boot_fogDomains s))⟩
  rw [kstate, fogClear_rg, kstate_fogDomains]

/-- What the reset leaves for the ROM. -/
def State.romWake (s : State) (e : BootEnv) : State :=
  { s with boot := { s.boot with aon := true }, fw := { s.fw with strapLow := e.strapLow } }

/-- Steps 1 and 2. -/
def State.romStart (s : State) (e : BootEnv) : State :=
  let s := ((s.romWake e).wr R.KPR_KSTATE_STATE pKpr 0).bootPhase 0
  let s := (domPages 24).foldl (fun s p => s.wr R.HDR_STATUS_READY p 1) s
  (s.bootPhase 1).otpRepair.bootPhase 2

theorem boot_romStart (e : BootEnv) : (s.romStart e).boot = (s.romWake e).boot := by
  unfold State.romStart
  extract_lets u v
  have ready : v.mains false false = u.mains false false := mains_foldl _ (fun _ _ => mains_wr _ _ _ _ _ _ (by decide)) _ _
  have repaired := mains_otpRepair false false (v.bootPhase 1)
  have begun : u.boot = (s.romWake e).boot := (boots_bootPhase _ 0).boot
  exact (boots_bootPhase _ 2).boot.trans ((mains_boot repaired).trans ((boots_bootPhase _ 1).boot.trans ((mains_boot ready).trans begun)))

/-- With STRAP_FOG_N low the first four steps end in Fog mode. -/
theorem boot1_fog {e : BootEnv} (h : e.strapLow = true) : (s.boot1 e).fog = true ∧ (s.boot1 e).rg R.KPR_BOOT_STATUS_PHASE pKpr = 14
    ∧ (s.boot1 e).boot = (s.romWake e).boot := by
  have start : (s.romStart e).boot = (s.romWake e).boot := boot_romStart s e
  unfold State.boot1
  extract_lets src src' u v w x y bad
  have hy : y.boot = (s.romWake e).boot := start
  have hbad : (bad.foldl State.badDevice y).mains false false = y.mains false false := mains_foldl _ (fun _ _ => mains_badDevice ..) _ _
  have replay := (mains_logReplay false false (bad.foldl State.badDevice y) false).trans hbad
  generalize (bad.foldl State.badDevice y).logReplay false = r at replay ⊢
  obtain ⟨t, found⟩ := r
  dsimp -zeta only at replay ⊢
  extract_lets p q
  have hp : p.boot = t.boot :=
    mains_boot (n := false) (z := false) ((mains_foldl _ (fun _ _ => mains_raise ..) _ _).trans (mains_incidentCut ..))
  have loaded : p.keyBoot.logLoad.rmapLoad.mains false false = p.mains false false := by simp
  have hq : q.boot = p.boot := (boot_energyLoad _).trans (mains_boot loaded)
  unfold State.chooseSlot
  extract_lets m
  have hm : m.boot = q.boot := (mains_boot (mains_slotRegs false false _)).trans (boots_bootPhase q 3).boot
  rw [if_pos (Or.inl h)]
  obtain ⟨fog, phase, boot⟩ := enterFog_fog m
  exact ⟨fog, phase, boot.trans (hm.trans (hq.trans (hp.trans ((mains_boot replay).trans hy))))⟩

end

end Sys2Proof.Machine
end

section
/-!
SUPPORT. The boot sequence, its stalls, and the loss of AON_RST_N and of power.
-/

namespace Sys2Proof.Machine

/-! ### The boot sequence (R573–R578, R592) -/

theorem exec_powerOnBoot_rom {s : State} (e : BootEnv) (h : s.rg R.KPR_BOOT_STATUS_PHASE pKpr = 0) :
    exec (.powerOnBoot e) s = .next (if (s.boot1 e).fog then s.boot1 e else (s.boot1 e).boot5 e) := by
  change execPowerOnBoot e s = _
  unfold execPowerOnBoot
  extract_lets phase u
  rw [if_pos h]

theorem exec_powerOnBoot_rails {s : State} (e : BootEnv) (h : s.rg R.KPR_BOOT_STATUS_PHASE pKpr = 4) (haon : s.boot.aon = true)
    (hk : s.rg R.KPR_KSTATE_STATE pKpr = 1) : exec (.powerOnBoot e) s = .next (s.boot5 e) := by
  change execPowerOnBoot e s = _
  unfold execPowerOnBoot
  extract_lets phase u
  have hphase : phase = 4 := h
  rw [if_neg (by omega), if_pos ⟨hphase, haon, hk⟩]

/-- The state in which memory has come up. -/
def State.memoryUp (s : State) (e : BootEnv) : State :=
  (if s.rg R.KPR_BOOT_STATUS_ENTRY pKpr = 1 then s.logLoad else s).bootRails.bootMemory e

theorem boots_memoryUp (s : State) (e : BootEnv) : s.boots (s.memoryUp e) := by
  have loaded : s.boots (if s.rg R.KPR_BOOT_STATUS_ENTRY pKpr = 1 then s.logLoad else s) := by
    split
    · exact boots_of_mains (mains_logLoad s)
    · exact boots_refl s
  exact boots_trans loaded (boots_trans (boots_bootRails _) (boots_bootMemory _ e))

/-- Without a stack the boot stops in phase 5. -/
theorem boot5_stops {s : State} {e : BootEnv} (h : (s.memoryUp e).rg R.TOP_MEM_PORT_PRESENT_MEM pTop = 0) :
    (s.boot5 e).rg R.KPR_BOOT_STATUS_PHASE pKpr = 5 ∧ (s.boot5 e).rg R.KPR_BOOT_STATUS_STALLED pKpr = 1 := by
  unfold State.boot5
  extract_lets u v
  have hv : v = s.memoryUp e := rfl
  rw [if_pos (hv ▸ h)]
  obtain ⟨stalled, -, phase⟩ := bootStop_shows v.freeVal.2 v.freeVal.1
  refine ⟨phase.trans ?_, stalled⟩
  rw [mains_rg (mains_freeVal false false v) _ _ (by decide)]
  exact phase_bootMemory _ e

theorem boot5_goes {s : State} {e : BootEnv} (h : (s.memoryUp e).rg R.TOP_MEM_PORT_PRESENT_MEM pTop ≠ 0) : s.boot5 e = (s.memoryUp e).boot8 e := by
  unfold State.boot5
  exact if_neg h

/-- The airflow is back, and no boot is held for it. -/
def State.airBack (s : State) : State :=
  ({ s with pwr := { s.pwr with airflow := false }, boot := { s.boot with holdAir := false } } : State).wr R.PWR_THERM_STATUS_AIRFLOW pPwr 0

theorem airBack_says (s : State) : s.airBack.pwr.airflow = false ∧ s.airBack.boot.holdAir = false
    ∧ s.airBack.rg R.PWR_THERM_STATUS_AIRFLOW pPwr = 0 := ⟨rfl, rfl, State.rg_wr_self ..⟩

theorem airBack_rest {s : State} (h : s.boot.holdAir = false) : { s.airBack with pwr := s.pwr, regs := s.regs } = s := by
  have boot : s.airBack.boot = s.boot := by
    change (⟨false, s.boot.readyPend, s.boot.aon⟩ : BootSt) = s.boot
    rw [← h]
  change { s with boot := s.airBack.boot } = s
  rw [boot]

theorem exec_airflowFailNHigh (e : BootEnv) (s : State) : exec (.airflowFailNHigh e) s
    = .next (if s.boot.holdAir then s.airBack.boot8 { e with airLow := false } else s.airBack) := rfl

theorem airflow_returns {s : State} (e : BootEnv) (h : s.boot.holdAir = false) : ∃ t, exec (.airflowFailNHigh e) s = .next t
    ∧ t.pwr.airflow = false ∧ t.rg R.PWR_THERM_STATUS_AIRFLOW pPwr = 0 ∧ { t with pwr := s.pwr, regs := s.regs } = s := by
  obtain ⟨air, -, shown⟩ := airBack_says s
  refine ⟨s.airBack, ?_, air, shown, airBack_rest h⟩
  rw [exec_airflowFailNHigh, h]
  rfl

theorem airflow_continues {s : State} (e : BootEnv) (h : s.boot.holdAir = true) : ∃ t, exec (.airflowFailNHigh e) s = .next t
    ∧ t.rg R.KPR_BOOT_STATUS_PHASE pKpr = 10 ∧ t.pwr.airflow = false ∧ t.boot.holdAir = false := by
  obtain ⟨air, held, -⟩ := airBack_says s
  obtain ⟨ready, -⟩ := boot8_readied s.airBack (e := { e with airLow := false }) rfl air
  refine ⟨s.airBack.boot8 { e with airLow := false }, ?_, ready.phase, ready.airflow.trans air, ready.holdAir.trans held⟩
  rw [exec_airflowFailNHigh, if_pos h]

/-! ### A stall (R578) -/

theorem bootStall_stops {s : State} (st : Nat) (h : s.rg R.KPR_BOOT_STATUS_PHASE pKpr < 10) (haon : s.boot.aon = true) :
    ∃ t, exec (.bootStall st) s = .next t ∧ t.rg R.KPR_BOOT_STATUS_STALLED pKpr = 1
      ∧ t.rg R.KPR_BOOT_STATUS_STATUS pKpr = st % 2 ^ 16 ∧ t.recorded pKpr Er.KPR_BOOT_STALL ∧ s.apart t := by
  obtain ⟨stalled, status, -⟩ := bootStop_shows s st
  have still := still_raise (s.bootStop st) pKpr Er.KPR_BOOT_STALL 0
  refine ⟨(s.bootStop st).raise pKpr Er.KPR_BOOT_STALL, ?_, ?_, ?_, recorded_raise_self _ _ _ (by decide), ?_⟩
  · exact congrArg Host.Outcome.next (if_neg (by simp [haon]; omega))
  · exact (still_rg still _ _ (by decide)).trans stalled
  · exact (still_rg still _ _ (by decide)).trans status
  · exact apart_trans (apart_trans (apart_wr _ _ _ _) (apart_wr _ _ _ _)) (apart_of_still still)

theorem bootStall_late {s : State} (st : Nat) (h : 10 ≤ s.rg R.KPR_BOOT_STATUS_PHASE pKpr) : exec (.bootStall st) s = .next s :=
  congrArg Host.Outcome.next (if_pos (Or.inl h))

/-! ### The loss of AON_RST_N and of power (R39, R584, R590) -/

theorem keyCut_none (s : State) : s.keyCut 0 = s := by
  unfold State.keyCut
  split
  · rfl
  · exact if_pos (Or.inr rfl)

theorem flashCut_none (s : State) : s.flashCut 0 0 = s := by
  have log : s.logCut 0 0 = s := by
    unfold State.logCut
    split
    · rfl
    · simp
  unfold State.flashCut
  rw [log]
  rfl

/-- Host memory outlasts a cut. -/
theorem rb_aonCut (s : State) {a : Nat} (hl : Spc 4 ≤ a) (hu : a < Spc 5) : s.aonCut.rb a = s.rb a := by
  have kept : ∀ m : List Host.Cell, ∀ d : Byte, Map.get d
      ((m.filter (fun c => decide (c.1 < Spc 0) || decide (Spc 4 ≤ c.1))).filter (fun c => decide (Spc 4 ≤ c.1) && decide (c.1 < Spc 5))) a
        = Map.get d m a := by
    intro m d
    rw [Map.get_filter _ _ (fun _ => by simp [hl, hu]), Map.get_filter _ _ (fun _ => by simp [hl])]
  have unlisted : memDefault s.aonCut.lost a = memDefault s.lost a := by
    have above : ¬(Spc 0 ≤ a ∧ a < Spc 4) := fun h => absurd h.2 (Nat.not_lt.mpr hl)
    change memDefault ((Spc 0, Spc 4, _) :: s.lost) a = _
    simp only [memDefault, lostEpoch, if_neg above]
  unfold State.rb
  rw [unlisted]
  exact kept s.mem _

/-- What a loss of AON_RST_N and one of power both leave. -/
theorem aonCut_leaves (s : State) : s.aonCut.regs = [] ∧ s.aonCut.boot.aon = false ∧ s.aonCut.sig = [] ∧ s.aonCut.host = HostSt.init
    ∧ s.aonCut.log.otp = s.log.otp ∧ s.aonCut.log.keys = s.log.keys ∧ s.aonCut.log.fl0.used = s.log.fl0.used ∧ s.aonCut.log.fl1.used = s.log.fl1.used
    ∧ s.aonCut.fw.slots = s.fw.slots ∧ s.aonCut.pending = s.pending := ⟨rfl, rfl, rfl, rfl, rfl, rfl, rfl, rfl, rfl, rfl⟩

theorem tripped_aonCut (s : State) : s.aonCut.pwr.tripped = false := rfl

theorem rb_pwr_recov (s : State) (p : PwrSt) (r : RecSt) (a : Nat) : ({ s with pwr := p, recov := r } : State).rb a = s.rb a := rfl

/-- AON_RST_N falls with nothing being programmed. -/
theorem exec_aonReset (s : State) : exec (.aonResetAssert 0 0 0) s = .next
    { s.aonCut with pwr := { s.aonCut.pwr with tripped := s.pwr.tripped }, recov := { s.aonCut.recov with pwrcyc := s.recov.pwrcyc } } := by
  change execAonResetAssert 0 0 0 s = _
  unfold execAonResetAssert
  rw [keyCut_none, flashCut_none]

theorem exec_powerLoss (s : State) : exec (.powerLoss 0 0 0) s = .next s.aonCut := by
  change execPowerLoss 0 0 0 s = _
  unfold execPowerLoss
  rw [keyCut_none, flashCut_none]

/-- Settles O56: a boot, its stalls and a cut, each by what its command does; the boot through what its steps keep (`State.boots`). -/
theorem bootAndLoss : Obligations.BootAndLoss := by
  unfold Obligations.BootAndLoss
  refine ⟨fun s e => ⟨fun h hstrap => ?_, fun h haon hk => ?_, airflow_returns e, airflow_continues e⟩,
    fun s st => ⟨bootStall_stops st, bootStall_late st⟩, fun s c hc => ?_⟩
  · obtain ⟨fog, phase, boot⟩ := boot1_fog s hstrap
    refine ⟨s.boot1 e, ?_, fog, phase, congrArg BootSt.aon boot⟩
    rw [exec_powerOnBoot_rom e h, if_pos fog]
  · have up := boots_memoryUp s e
    refine ⟨fun hno => ?_, fun hmem hlow => ?_, fun hmem hlow hair => ?_⟩
    · exact ⟨_, exec_powerOnBoot_rails e h haon hk, boot5_stops hno⟩
    · refine ⟨(s.memoryUp e).boot8 e, ?_, boot8_held _ hlow⟩
      rw [exec_powerOnBoot_rails e h haon hk, boot5_goes hmem]
    · obtain ⟨ready, on⟩ := boot8_readied (s.memoryUp e) hlow hair
      refine ⟨(s.memoryUp e).boot8 e, ?_, ready.phase, ready.stalled, ?_, on fun d hl hd => domOn_bootMemory _ e hl hd⟩
      · rw [exec_powerOnBoot_rails e h haon hk, boot5_goes hmem]
      · rw [ready.bootTbc, up.tbc]
  · obtain ⟨regs, aon, sig, host, otp, keys, fl0, fl1, slots, pending⟩ := aonCut_leaves s
    simp only [List.mem_cons, List.not_mem_nil, or_false] at hc
    rcases hc with rfl | rfl
    · exact ⟨_, exec_aonReset s, regs, aon, sig, host, otp, keys, fl0, fl1, slots, pending,
        fun a hl hu => (rb_pwr_recov ..).trans (rb_aonCut s hl hu), fun h => Instr.noConfusion h, fun _ => ⟨rfl, rfl⟩⟩
    · exact ⟨_, exec_powerLoss s, regs, aon, sig, host, otp, keys, fl0, fl1, slots, pending, fun a hl hu => rb_aonCut s hl hu,
        fun _ => tripped_aonCut s, fun h => Instr.noConfusion h⟩

end Sys2Proof.Machine
end

section
/-!
SUPPORT. A frame request whose entry lies in a line that the list of poisoned lines holds twice, first as good and then as poisoned: the write that
completes the line takes the first marker away, and the entry is read as poisoned.
-/

namespace Sys2Proof.Machine

/-! ### A write that completes a line -/

/-- Storing an entry of the write-combining buffer changes memory alone. -/
theorem wcbStore_onlyMem (e : WcbEntry) (k : Nat) (s : State) : ∃ m, s.wcbStore e k = { s with mem := m } := by
  induction k with
  | zero => exact ⟨s.mem, rfl⟩
  | succ k ih =>
    obtain ⟨m, hm⟩ := ih
    unfold State.wcbStore
    extract_lets u
    have hu : u = { s with mem := m } := hm
    rw [hu]
    split
    · exact ⟨_, rfl⟩
    · exact ⟨m, rfl⟩

/-- But for event counters and the marker of the line at an HBM offset, the fields, the markers and the free values are as before. -/
structure State.marks (s t : State) (o : Nat) (b : Bool) : Prop where
  rg : ∀ (f : Fld) (i : Nat), (∀ n < 4, f.id ≠ (cntCount n).id) → t.rg f i = s.rg f i
  poison : t.poison = (s.setPoison (aHbm o) b).poison
  free : t.free = s.free

/-- The fields but the event counters, the poison markers and the free values are as before. -/
structure State.marked (s t : State) : Prop where
  rg : ∀ (f : Fld) (i : Nat), (∀ n < 4, f.id ≠ (cntCount n).id) → t.rg f i = s.rg f i
  poison : t.poison = s.poison
  free : t.free = s.free

theorem marked_trans {s t u : State} (h : s.marked t) (h' : t.marked u) : s.marked u :=
  ⟨fun f i hc => (h'.rg f i hc).trans (h.rg f i hc), h'.poison.trans h.poison, h'.free.trans h.free⟩

theorem marked_cnt (s : State) (p code k : Nat) : s.marked (s.cnt p code k) :=
  ⟨fun f i hc => State.rg_cnt s p code k f i hc, State.cnt_poison .., State.cnt_free ..⟩

theorem marked_setWcb (s : State) (m : Nat) (l : List WcbEntry) : s.marked (s.setWcb m l) := ⟨fun f i _ => State.rg_congr rfl f i, rfl, rfl⟩

/-- A write that completes the line of an entry of the write-combining buffer marks the line as the entry says (R181, R255). -/
theorem hbmWrite_completes {s : State} {o : Nat} {bs : List (Option Nat)} {e : WcbEntry} (hf : s.chFenced (stackOf o) (channelOf o) = false)
    (hz : s.bankFrozen o = false) (hline : fullLine bs = false) (he : (s.wcb (stackOf o)).find? (fun e => decide (e.line = o / 64)) = some e)
    (hmask : (e.merge o bs).mask = fullMask) : s.marks (s.hbmWrite o bs false).2 o e.bad := by
  have written : (s.hbmWrite o bs false).2 = (s.countHbm o true).wcbWrite o bs false := by
    unfold State.hbmWrite
    extract_lets m u v
    rw [if_neg (by simp [m, hf]), if_neg (by simp [hz]), if_neg (by simp [hline])]
  have found : ((s.countHbm o true).wcb (stackOf o)).find? (fun e => decide (e.line = o / 64)) = some e := he
  rw [written]
  unfold State.wcbWrite
  extract_lets m l u v w
  have hu : s.marked u := ⟨fun f i _ => State.rg_congr rfl f i, rfl, rfl⟩
  have hv : s.marked v := marked_trans hu (marked_cnt ..)
  have hw : s.marked w := marked_trans hv (marked_setWcb ..)
  clear_value u v w
  rw [show l.find? (fun e => decide (e.line = o / 64)) = some e from found]
  dsimp -zeta only
  extract_lets src e'
  have bad : e'.bad = e.bad := Bool.or_false _
  rw [if_pos (show e'.mask = fullMask from hmask), bad]
  obtain ⟨mem, stored⟩ := wcbStore_onlyMem e' 64 w
  have ht : s.marked (w.wcbStore e' 64) := by
    rw [stored]
    exact marked_trans hw ⟨fun f i _ => State.rg_congr rfl f i, rfl, rfl⟩
  generalize w.wcbStore e' 64 = t at ht
  have last := marked_cnt (t.setPoison (aHbm o) e.bad) (pMem m) Cn.MEM_WR_BYTES 64
  refine ⟨fun f i hc => (last.rg f i hc).trans (ht.rg f i hc), last.poison.trans ?_, last.free.trans ht.free⟩
  simp only [State.setPoison, ht.poison]

/-! ### The state -/

/-- The line at the start of HBM. -/
def doubleLine : Nat := aHbm 0 / 64

/-- A module whose shadow bank for function 0 has one entry, in a line of which the write-combining buffer holds all other bytes, and of which the
list of poisoned lines has two markers. -/
def doublyMarked (cells : List Host.Cell) (q : Option FrameReq) : State :=
  { State.reset with
    regs := [((R.HDR_CTRL_ENABLE.id, pMem 0), 1), ((R.HDR_CTRL_ENABLE.id, pMch 0 0), 1), ((R.TOP_MEM_PORT_PRESENT_MEM.id, pTop), 1),
      ((R.PWR_DOM_STATUS_ON.id, pPwr), 2 ^ 25 - 1), ((R.HIF_XLT_LEN1_LEN.id, pHif 0), 1), (((R.HIF_XLT_DIR_VALID 8).id, pHif 0), 1)]
    mem := cells
    poison := [(doubleLine, false), (doubleLine, true)]
    hbm := { HbmSt.init with wcb := [(0, [⟨0, fullMask - 255, 0, 0, false⟩])] }
    host := { HostSt.init with fns := [(0, { Fn.none with framesHbm := 1 })] }
    xlt := [(0, { XltSt.empty with req := q })] }

/-- ALLOC of one frame, for VPN 0. -/
def oneAlloc : FrameReq := ⟨1, 0, 0, 0, 1⟩

/-- FREE of VPN 0. -/
def oneFree : FrameReq := ⟨2, 0, 0, 0, 1⟩

/-- The entry of VPN 0 is valid. -/
def validCells : List Host.Cell := [(aHbm 0, 1)]

theorem doublyMarked_ask (cells : List Host.Cell) (q : Option FrameReq) :
    (doublyMarked cells q).setXlt 0 { (doublyMarked cells q).xltFn 0 with req := none } = doublyMarked cells none := rfl

/-! ### The pool -/

section
variable (cells : List Host.Cell) (q : Option FrameReq)

theorem doublyMarked_len0 (p : Nat) : (doublyMarked cells q).rg R.HIF_XLT_LEN0_LEN p = 0 := by
  have listed : (doublyMarked cells q).rg R.HIF_XLT_LEN0_LEN p = regReset R.HIF_XLT_LEN0_LEN p := by
    simp (decide := true) [State.rg, doublyMarked, PMap.get, Map.get]
  rw [listed]
  simp (decide := true) [regReset]

theorem doublyMarked_len1 {p : Nat} (hp : p ≠ pHif 0) : (doublyMarked cells q).rg R.HIF_XLT_LEN1_LEN p = 0 := by
  have listed : (doublyMarked cells q).rg R.HIF_XLT_LEN1_LEN p = regReset R.HIF_XLT_LEN1_LEN p := by
    simp (decide := true) [State.rg, doublyMarked, PMap.get, Map.get, hp.symm]
  rw [listed]
  simp (decide := true) [regReset]

theorem bankEntries_of_len {s : State} {fn bank : Nat} (h : s.rg (if bank = 0 then R.HIF_XLT_LEN0_LEN else R.HIF_XLT_LEN1_LEN) (pHif fn) = 0) :
    s.bankEntries fn bank = [] := by
  simp [State.bankEntries, h]

theorem doublyMarked_xlt (f : Nat) : ((doublyMarked cells q).xltFn f).awaiting = [] ∧ ((doublyMarked cells q).xltFn f).quarantined = [] := by
  by_cases hf : (0 : Nat) = f
  · subst hf
    exact ⟨rfl, rfl⟩
  · simp [State.xltFn, doublyMarked, NMap.get, Map.get, hf, XltSt.empty]

theorem doublyMarked_framesOf (f : Nat) : (doublyMarked [] q).framesOf f = [] := by
  obtain ⟨away, held⟩ := doublyMarked_xlt [] q f
  have bank0 : (doublyMarked [] q).bankEntries f 0 = [] := bankEntries_of_len (doublyMarked_len0 [] q _)
  have bank1 : (doublyMarked [] q).bankEntries f 1 = [] := by
    by_cases hf : f = 0
    · subst hf
      have none : (doublyMarked [] none).bankEntries 0 1 = [] := by decide
      exact none
    · exact bankEntries_of_len (doublyMarked_len1 [] q (by unfold pHif; omega))
  simp [State.framesOf, bank0, bank1, away, held]

/-- The first frame of stack 0 is free. -/
theorem doublyMarked_free : 0 ∈ (doublyMarked [] q).framesFree 0 := by
  unfold State.framesFree
  extract_lets used all
  have nobody : used = [] := by simp [used, doublyMarked_framesOf]
  refine List.mem_filter.mpr ⟨?_, ?_⟩
  · simp only [all, if_true]
    refine List.mem_flatMap.mpr ⟨0, List.mem_filter.mpr ⟨by simp, ?_⟩, List.mem_map.mpr ⟨0, by simp, rfl⟩⟩
    have present : bit ((doublyMarked [] none).rg R.TOP_MEM_PORT_PRESENT_MEM pTop) 0 = true := by decide
    exact present
  · rw [nobody]
    rfl

theorem doublyMarked_split : (doublyMarked [] q).frameSplit 0 oneAlloc = (1, 0) := by
  have some : 0 < ((doublyMarked [] q).framesFree 0).length := List.length_pos_of_mem (doublyMarked_free q)
  have quota : (doublyMarked [] q).fnRes 0 = { Fn.none with framesHbm := 1 } := rfl
  have pool : (doublyMarked [] q).poolFree 0 0 = 1 := by
    simp only [State.poolFree, quota, doublyMarked_framesOf]
    simp
    omega
  simp [State.frameSplit, pool, oneAlloc, bit]

end

/-! ### The requests -/

/-- The state in which the entries have been read. -/
def doublyRead (cells : List Host.Cell) : State := (doublyMarked cells none).noteEntry 0

theorem doublyMarked_reads (cells : List Host.Cell) (hc : cells ∈ [[], validCells]) :
    (doublyMarked cells none).readEntries 0 [0] = some (doublyRead cells) := by
  have reached : ∀ cells ∈ [[], validCells], (doublyMarked cells none).xltEntryAddr 0 ((doublyMarked cells none).shadow 0) 0 = some 0
      ∧ (doublyMarked cells none).lineRefusal 0 = none := by decide
  obtain ⟨addr, line⟩ := reached cells hc
  simp [State.readEntries, addr, line, doublyRead]

/-- What a write of the entry meets. -/
theorem doublyRead_ready : ∀ cells ∈ [[], validCells], let s := doublyRead cells
    s.xltEntryAddr 0 (s.shadow 0) 0 = some 0 ∧ s.lineRefusal 0 = none ∧ s.wcbFull 0 = false ∧ s.chFenced (stackOf 0) (channelOf 0) = false
      ∧ s.bankFrozen 0 = false
      ∧ (s.wcb (stackOf 0)).find? (fun e => decide (e.line = 0 / 64)) = some ⟨0, fullMask - 255, 0, 0, false⟩ := by decide

/-- The write of the entry, whatever its value. -/
theorem doublyMarked_puts {cells : List Host.Cell} (hc : cells ∈ [[], validCells]) (v : Nat) : ∃ t, (doublyRead cells).putEntries 0 [(0, v)] = some t
    ∧ (doublyRead cells).marks t 0 false := by
  obtain ⟨addr, line, room, fenced, frozen, found⟩ := doublyRead_ready cells hc
  have complete : ((⟨0, fullMask - 255, 0, 0, false⟩ : WcbEntry).merge 0 ((leBytes 8 v).map some)).mask = fullMask := by
    simp only [leBytes, List.map, WcbEntry.merge]
    decide
  refine ⟨((doublyRead cells).hbmWrite 0 ((leBytes 8 v).map some) false).2, ?_,
    hbmWrite_completes (e := ⟨0, fullMask - 255, 0, 0, false⟩) fenced frozen rfl found complete⟩
  simp [State.putEntries, addr, line, room]

/-- What a request that has succeeded shows. -/
def State.frameOk (s : State) : State :=
  ((s.wr R.HIF_FRAME_RESULT_DONE (pHif 0) 1).wr R.HIF_FRAME_RESULT_STATUS (pHif 0) St.OK).wr R.HIF_FRAME_SHORT_SHORT (pHif 0) 0

/-- A request that is answered ends. -/
theorem exec_frameReqDone {s : State} {r : FrameReq} {a : FrameAns} (hr : (s.xltFn 0).req = some r)
    (ha : (s.setXlt 0 { s.xltFn 0 with req := none }).frameAns 0 r [] = some a) (hok : a.status = St.OK) (hshort : a.short = 0) :
    exec (.frameReqDone 0 []) s = .next
      (if r.op = 1 then (a.state.wr R.HIF_FRAME_GRANT_HBM (pHif 0) a.near).wr R.HIF_FRAME_GRANT_FAR (pHif 0) a.far else a.state).frameOk := by
  have sound : ¬(r.op = 1 ∧ a.status = St.MEM_SHORT) := by
    rw [hok]
    rintro ⟨-, h⟩
    cases h
  change execFrameReqDone 0 [] s = _
  unfold execFrameReqDone
  extract_lets h
  rw [hr]
  dsimp only
  rw [ha]
  dsimp only
  rw [if_neg sound, hok, hshort]
  rfl

/-- ALLOC ends with its frame granted. -/
theorem doublyMarked_alloc : ∃ t, (doublyRead []).marks t 0 false ∧ exec (.frameReqDone 0 []) (doublyMarked [] (some oneAlloc))
    = .next ((t.wr R.HIF_FRAME_GRANT_HBM (pHif 0) 1).wr R.HIF_FRAME_GRANT_FAR (pHif 0) 0).frameOk := by
  obtain ⟨k, rest, free⟩ : ∃ k rest, (doublyMarked [] none).framesFree 0 = k :: rest :=
    List.exists_cons_of_ne_nil (List.ne_nil_of_mem (doublyMarked_free none))
  have near : (doublyMarked [] none).framesPick 0 1 [] = [k] := by
    simp [State.framesPick, free]
  have far : (doublyMarked [] none).framesPick 1 0 [] = [] := by
    simp [State.framesPick]
  have range : (doublyMarked [] none).reqRange 0 oneAlloc = true := by decide
  have unused : (oneAlloc.vpns.any fun v => xltValid ((doublyMarked [] none).bankEntry 0 ((doublyMarked [] none).shadow 0) v)) = false := by decide
  have vpns : oneAlloc.vpns = [0] := rfl
  have plain : bit oneAlloc.flags 3 = false := rfl
  choose t put marks using doublyMarked_puts (cells := []) (by simp)
  obtain ⟨v, ans⟩ : ∃ v, (doublyMarked [] none).frameAns 0 oneAlloc [] = some ⟨St.OK, t v, 1, 0, 0⟩ := by
    have alloc : (doublyMarked [] none).frameAns 0 oneAlloc [] = (doublyMarked [] none).frameAlloc 0 oneAlloc [] := if_pos rfl
    have enough : ¬1 + 0 < oneAlloc.count := by decide
    rw [alloc]
    unfold State.frameAlloc
    rw [doublyMarked_split]
    dsimp -zeta only
    rw [if_neg (by rw [range]; decide), unused, vpns, doublyMarked_reads [] (by simp), near, far, plain, Option.bind_eq_bind, Option.bind_some,
      if_neg (by decide), if_neg enough]
    simp only [Bool.false_eq_true, if_false, List.append_nil, List.zip_cons_cons, List.zip_nil_left, List.map_cons, List.map_nil]
    rw [put]
    exact ⟨_, rfl⟩
  rw [← doublyMarked_ask [] (some oneAlloc)] at ans
  exact ⟨t v, marks v, exec_frameReqDone rfl ans rfl rfl⟩

/-- FREE ends with its entry written. -/
theorem doublyMarked_frees : ∃ t x, (doublyRead validCells).marks t 0 false ∧ exec (.frameReqDone 0 []) (doublyMarked validCells (some oneFree))
    = .next (t.setXlt 0 x).frameOk := by
  have range : (doublyMarked validCells none).reqRange 0 oneFree = true := by decide
  have valid : oneFree.vpns.filter (fun v =>
      xltValid ((doublyMarked validCells none).bankEntry 0 ((doublyMarked validCells none).shadow 0) v)) = [0] := by decide
  have vpns : oneFree.vpns = [0] := rfl
  obtain ⟨t, put, marks⟩ := doublyMarked_puts (cells := validCells) (by simp) 0
  obtain ⟨x, ans⟩ : ∃ x, (doublyMarked validCells none).frameAns 0 oneFree [] = some ⟨St.OK, t.setXlt 0 x, 0, 0, 0⟩ := by
    have free : (doublyMarked validCells none).frameAns 0 oneFree [] = (doublyMarked validCells none).frameFree 0 oneFree := rfl
    rw [free]
    unfold State.frameFree
    extract_lets l keys
    rw [if_neg (by rw [range]; decide), vpns, doublyMarked_reads validCells (by simp), Option.bind_eq_bind, Option.bind_some,
      show l = [0] from valid, List.map_singleton, put, Option.bind_some]
    exact ⟨_, rfl⟩
  rw [← doublyMarked_ask validCells (some oneFree)] at ans
  exact ⟨t, x, marks, exec_frameReqDone rfl ans rfl rfl⟩

/-! ### What the request finds and what it leaves -/

theorem doublyMarked_wcb (cells : List Host.Cell) (q : Option FrameReq) (m : Nat) :
    (doublyMarked cells q).wcb m = if m = 0 then [⟨0, fullMask - 255, 0, 0, false⟩] else [] := by
  by_cases hm : m = 0
  · subst hm
    rfl
  · simp [State.wcb, doublyMarked, NMap.get, Map.get, hm, Ne.symm hm]

theorem doublyMarked_wcbOk {cells : List Host.Cell} (hc : cells ∈ [[], validCells]) (q : Option FrameReq) : (doublyMarked cells q).wcbOk := by
  intro m
  rw [doublyMarked_wcb]
  split
  · next hm =>
    have fenced : (doublyMarked cells none).chFenced 0 (channelOf (64 * 0)) = false := by
      revert cells
      decide
    subst hm
    refine ⟨by simp, fun e he => ?_⟩
    rw [List.mem_singleton.mp he]
    exact ⟨by decide, by decide, fenced⟩
  · exact ⟨by simp, by simp⟩

theorem doublyMarked_short (cells : List Host.Cell) (q : Option FrameReq) (m : Nat) : ((doublyMarked cells q).wcb m).length < 256 := by
  rw [doublyMarked_wcb]
  split <;> simp

theorem doublyMarked_clean {cells : List Host.Cell} (hc : cells ∈ [[], validCells]) (q : Option FrameReq) :
    let s := doublyMarked cells q
    s.lineRefusal 0 = none ∧ Map.sorted natLt s.mem = true ∧ s.chFenced (stackOf 0) (channelOf 0) = false ∧ s.bankFrozen 0 = false
      ∧ s.poisoned (aHbm 0) = false ∧ ∀ e ∈ s.wcb (stackOf 0), e.bad = false := by
  have unasked : ∀ cells ∈ [[], validCells], let s := doublyMarked cells none
      s.lineRefusal 0 = none ∧ Map.sorted natLt s.mem = true ∧ s.chFenced (stackOf 0) (channelOf 0) = false ∧ s.bankFrozen 0 = false
        ∧ s.poisoned (aHbm 0) = false ∧ ∀ e ∈ s.wcb (stackOf 0), e.bad = false := by decide
  exact unasked cells hc

theorem doublyMarked_addr {cells : List Host.Cell} (hc : cells ∈ [[], validCells]) (q : Option FrameReq) :
    (doublyMarked cells q).xltEntryAddr 0 ((doublyMarked cells q).shadow 0) 0 = some 0 ∧ (doublyMarked cells q).shadow 0 = 1 := by
  have unasked : ∀ cells ∈ [[], validCells], (doublyMarked cells none).xltEntryAddr 0 ((doublyMarked cells none).shadow 0) 0 = some 0
      ∧ (doublyMarked cells none).shadow 0 = 1 := by decide
  exact unasked cells hc

/-- What holds at the entry of VPN 0 holds at every entry of a request for it. -/
theorem doublyMarked_at {cells : List Host.Cell} (hc : cells ∈ [[], validCells]) (q : Option FrameReq) {r : FrameReq} (hr : r.vpns = [0])
    {P : Nat → Prop} (h : P 0) : ∀ v ∈ r.vpns, ∀ o, (doublyMarked cells q).xltEntryAddr 0 ((doublyMarked cells q).shadow 0) v = some o → P o := by
  intro v hv o ho
  rw [hr, List.mem_singleton] at hv
  rw [hv, (doublyMarked_addr hc q).1, Option.some.injEq] at ho
  exact ho ▸ h

/-- The fields by which VPN 0 finds its entry. -/
def entryIds : List Nat := [R.HIF_XLT_LEN1_LEN.id, (R.HIF_XLT_DIR_VALID 8).id, (R.HIF_XLT_DIR_FRAME 8).id]

theorem entryAddr_congr {s t : State} (h : ∀ f : Fld, f.id ∈ entryIds → t.rg f (pHif 0) = s.rg f (pHif 0)) :
    t.xltEntryAddr 0 1 0 = s.xltEntryAddr 0 1 0 := by
  have len := h R.HIF_XLT_LEN1_LEN (by decide)
  have valid := h (R.HIF_XLT_DIR_VALID 8) (by decide)
  have frame := h (R.HIF_XLT_DIR_FRAME 8) (by decide)
  unfold State.xltEntryAddr
  simp only [State.flag, if_neg (by decide : ¬(1 : Nat) = 0), Nat.zero_div, Nat.mul_one, Nat.add_zero, len, valid, frame]

/-- The entry of VPN 0 is read as poisoned. -/
theorem entry_free {cells : List Host.Cell} (hc : cells ∈ [[], validCells]) {t u : State} (h : (doublyRead cells).marks t 0 false)
    (hregs : ∀ f : Fld, f.id ∈ entryIds → u.rg f (pHif 0) = t.rg f (pHif 0)) (hpoison : u.poison = t.poison) (hfree : u.free = t.free) :
    u.bankEntry 0 1 0 = Config.free 0 % 2 ^ 64 := by
  have fixed : ∀ x ∈ entryIds, ∀ n < 4, x ≠ (cntCount n).id := by decide
  have before : ∀ cells ∈ [[], validCells], (doublyRead cells).xltEntryAddr 0 1 0 = some 0 ∧ (doublyRead cells).free = 0
      ∧ ((doublyRead cells).setPoison (aHbm 0) false).poison = [(doubleLine, true)] := by decide
  obtain ⟨addr, free, marked⟩ := before cells hc
  have found : u.xltEntryAddr 0 1 0 = some 0 :=
    (entryAddr_congr fun f hf => (hregs f hf).trans (h.rg f _ (fixed _ hf))).trans addr
  have poisoned : u.poisoned (aHbm 0) = true := by
    have list : u.poison = [(doubleLine, true)] := hpoison.trans (h.poison.trans marked)
    rw [State.poisoned, list]
    rfl
  have number : u.free = 0 := hfree.trans (h.free.trans free)
  unfold State.bankEntry
  rw [found]
  dsimp only
  unfold State.entryRead
  rw [if_pos (Or.inr poisoned), number]

theorem frameOk_kept (s : State) : (∀ f : Fld, f.id ∈ entryIds → s.frameOk.rg f (pHif 0) = s.rg f (pHif 0)) ∧ s.frameOk.poison = s.poison
    ∧ s.frameOk.free = s.free := by
  have other : ∀ x ∈ entryIds, x ≠ R.HIF_FRAME_RESULT_DONE.id ∧ x ≠ R.HIF_FRAME_RESULT_STATUS.id ∧ x ≠ R.HIF_FRAME_SHORT_SHORT.id := by decide
  refine ⟨fun f hf => ?_, rfl, rfl⟩
  obtain ⟨done, status, short⟩ := other _ hf
  exact (State.rg_wr_fld _ _ _ _ short).trans ((State.rg_wr_fld _ _ _ _ status).trans (State.rg_wr_fld _ _ _ _ done))

/-- Where the free value is no valid entry, ALLOC leaves one that is not. -/
theorem alloc_entry : ∃ t, exec (.frameReqDone 0 []) (doublyMarked [] (some oneAlloc)) = .next t ∧ t.bankEntry 0 1 0 = Config.free 0 % 2 ^ 64 := by
  obtain ⟨t, marks, run⟩ := doublyMarked_alloc
  refine ⟨_, run, ?_⟩
  obtain ⟨regs, poison, free⟩ := frameOk_kept ((t.wr R.HIF_FRAME_GRANT_HBM (pHif 0) 1).wr R.HIF_FRAME_GRANT_FAR (pHif 0) 0)
  have other : ∀ x ∈ entryIds, x ≠ R.HIF_FRAME_GRANT_HBM.id ∧ x ≠ R.HIF_FRAME_GRANT_FAR.id := by decide
  refine entry_free (cells := []) (by simp) marks (fun f hf => (regs f hf).trans ?_) poison free
  obtain ⟨hbm, far⟩ := other _ hf
  exact (State.rg_wr_fld _ _ _ _ far).trans (State.rg_wr_fld _ _ _ _ hbm)

/-- Where the free value is a valid entry, FREE leaves it. -/
theorem free_entry : ∃ t, exec (.frameReqDone 0 []) (doublyMarked validCells (some oneFree)) = .next t
    ∧ t.bankEntry 0 1 0 = Config.free 0 % 2 ^ 64 := by
  obtain ⟨t, x, marks, run⟩ := doublyMarked_frees
  refine ⟨_, run, ?_⟩
  obtain ⟨regs, poison, free⟩ := frameOk_kept (t.setXlt 0 x)
  exact entry_free (cells := validCells) (by simp) marks (fun f hf => (regs f hf).trans (State.rg_congr rfl f _)) poison free

/-- Refutes O33: nothing in its hypotheses keeps the list of poisoned lines from naming a line twice. In `doublyMarked` the entry's line stands there
as good and then as poisoned, so it reads as good, and the write-combining buffer holds the line but for the entry. The entry's write completes the
line and deletes its first marker; the entry is then read as poisoned, and its value is free (log entry 128). Where that value is a valid entry, the
clause of FREE fails, and else the clause of ALLOC. -/
theorem not_frameRequests : ¬Obligations.FrameRequests := by
  unfold Obligations.FrameRequests
  rintro ⟨-, h, -⟩
  by_cases hv : xltValid (Config.free 0 % 2 ^ 64) = true
  · have hc : validCells ∈ [[], validCells] := by simp
    obtain ⟨line, sorted, fenced, frozen, good, fresh⟩ := doublyMarked_clean hc (some oneFree)
    obtain ⟨-, shadow⟩ := doublyMarked_addr hc (some oneFree)
    obtain ⟨-, -, -, free, -⟩ := h (doublyMarked validCells (some oneFree)) 0 oneFree rfl
    have range : (doublyMarked validCells (some oneFree)).reqRange 0 oneFree = true := by decide
    obtain ⟨t, run, -, cleared⟩ := free range rfl ⟨doublyMarked_at hc _ rfl line, sorted, doublyMarked_wcbOk hc _, doublyMarked_short _ _,
      doublyMarked_at hc _ rfl ⟨fenced, frozen, good, fresh⟩⟩
    obtain ⟨u, run', entry⟩ := free_entry
    have same : u = t := Host.Outcome.next.inj (run'.symm.trans run)
    have gone := cleared 0 (by decide)
    rw [shadow, ← same] at gone
    dsimp only at gone
    rw [entry, hv] at gone
    cases gone
  · have hc : [] ∈ [[], validCells] := by simp
    obtain ⟨line, sorted, fenced, frozen, good, fresh⟩ := doublyMarked_clean hc (some oneAlloc)
    obtain ⟨-, shadow⟩ := doublyMarked_addr hc (some oneAlloc)
    have reads := doublyMarked_at hc (some oneAlloc) (r := oneAlloc) (P := fun o => (doublyMarked [] (some oneAlloc)).lineRefusal o = none) rfl line
    obtain ⟨-, -, alloc, -⟩ := h (doublyMarked [] (some oneAlloc)) 0 oneAlloc rfl
    have range : (doublyMarked [] (some oneAlloc)).reqRange 0 oneAlloc = true := by decide
    obtain ⟨-, unused⟩ := alloc range (by decide) rfl reads
    have split := doublyMarked_split (some oneAlloc)
    obtain ⟨-, ends⟩ := unused (by decide)
    obtain ⟨t, run, -, -, -, valid⟩ := ends (by rw [split]; rfl) ⟨reads, sorted, doublyMarked_wcbOk hc _, doublyMarked_short _ _,
      doublyMarked_at hc _ rfl ⟨fenced, frozen, good, fresh⟩⟩
    obtain ⟨u, run', entry⟩ := alloc_entry
    have same : u = t := Host.Outcome.next.inj (run'.symm.trans run)
    have holds := valid (by rw [split]) 0 (by decide)
    rw [shadow, ← same] at holds
    dsimp only at holds
    rw [entry] at holds
    exact hv holds

end Sys2Proof.Machine
end
